-- ==== Sys2Proof/Word.lean ====
section
/-! DEFINITION. Word.lean: word and byte types, the masters and the small operand types that commands and
state share. The part's registers are 32 bits wide and little-endian (00_scope.md R4, R5). -/

namespace Sys2Proof

/-- A register word (00_scope.md R5). -/
abbrev Word := BitVec 32

/-- A byte of a frame, an image, a record or a key. -/
abbrev Byte := BitVec 8

/-- A string of bytes, lowest address first. -/
abbrev Bytes := List (BitVec 8)

/-- The masters that can give orders (01_architecture.md R23). -/
inductive Master where
  | warden | host | core (k : Fin 8) | pendant | frauri
  deriving DecidableEq, Repr

/-- The rank of a master: a lower number is a higher rank (01_architecture.md R23). -/
def Master.rank : Master → Nat
  | .warden => 0
  | .host => 1
  | .core k => 2 + k.val
  | .pendant => 10
  | .frauri => 11

/-- An access from a bus master: who makes it, and for a field core whether it runs in machine mode
(15_cores_dispatcher.md R453). -/
structure Access where
  master : Master
  mmode  : Bool
  deriving DecidableEq, Repr

/-- Width of an access to the register space (00_scope.md R5). -/
inductive Width where
  | word | half | byte
  deriving DecidableEq, Repr

/-- Bytes of an access. -/
def Width.bytes : Width → Nat
  | .word => 4 | .half => 2 | .byte => 1

/-- Error classes (14_faults_recovery.md R435). -/
inductive FaultClass where
  | corrected | transient | lasting | fatal
  deriving DecidableEq, Repr

/-- Resources of R438 by kind, with the error sources that are none: a filter-state read (R199) and those of R439. Kind
and index name one. -/
inductive ResKind where
  | lodeBank | express | internalLink | queueSram | correlator | fp64 | search | allocator
  | setpt | chain | quench | frauri | core | mram | queuePtr
  | filterRead | ref10 | lockstep | rawCounter | faultCtl
  deriving DecidableEq, Repr

/-- How a GRID or SETPT command comes to its block: its body written to the command buffer by a master that then writes
GO, or through the intake where it stands already (R260, R300). -/
inductive CmdSrc where
  | regs (who : Master) (body : Bytes)
  /-- A GO of the register path alone: the command joins the intake and waits there. -/
  | post (who : Master) (body : Bytes)
  | intake
  deriving DecidableEq, Repr

end Sys2Proof
end

