-- ==== Sys2Proof/Machine/State/Assay.lean ====
section
/-! DEFINITION. State/Assay.lean: Assay metering (18_assay_metering.md). -/

namespace Sys2Proof.Machine

open Sys2Proof

/-- Modes of an Assay channel (R521). -/
inductive AsMode where
  | off | single | quad
  deriving DecidableEq, Repr

/-- ASSAY_RESULT.RESULT (18_assay_metering.md). -/
inductive AsResult where
  | none | done | busy | denied | mode | badParam | off
  deriving DecidableEq, Repr

/-- Source of a derived quantity (R529). -/
inductive AsSource where
  | off | fwd | rev | net
  deriving DecidableEq, Repr

/-- One MRAM copy of a channel's raw totals (R525). -/
structure TotalCopy where
  seq  : Nat := 0
  fwd  : BitVec 64 := 0
  rev  : BitVec 64 := 0
  good : Bool := false
  deriving DecidableEq, Repr

/-- A derived quantity (R529, R530). `val` is V and F as one value in units of 2^−16. -/
structure Quantity where
  source : AsSource := .off
  gain   : BitVec 32 := 0
  offset : BitVec 64 := 0
  val    : BitVec 80 := 0
  /-- The checkpointed base in the MRAM: V_b and F_b as one value, and P_b modulo 2^64. -/
  base   : BitVec 80 := 0
  baseP  : BitVec 64 := 0
  /-- A forming has enabled and rebased it before (R532). -/
  based  : Bool := false
  deriving DecidableEq, Repr

/-- One Assay channel (18_assay_metering.md). -/
structure AsChan where
  mode     : AsMode := .off
  aLow     : Bool := false
  dirInv   : Bool := false
  debounce : Nat := 0
  /-- ASSAY_CH_CTRL.EN; shutting down, and an enable held PENDING (R69). -/
  en       : Bool := false
  shutting : Bool := false
  pendingEn : Bool := false
  /-- Settings of a re-formed channel that its shutdown must end before: mode, A_LOW, DIR_INV and debounce (R67). -/
  nextSet : Option (AsMode × Bool × Bool × Nat) := none
  /-- Model clock at which the debounce interval that a shutdown waits for ends (R537). -/
  shutAt : Nat := 0
  /-- Accepted levels of the balls (R522). -/
  levelA   : Bool := false
  levelB   : Bool := false
  overrun  : Bool := false
  stuck    : Bool := false
  /-- Model clock at which A went active, and at the last counted pulse (R523, R524). -/
  activeAt : Nat := 0
  countAt  : Option Nat := none
  /-- Live raw totals of the front end (R525). -/
  fwd : BitVec 64 := 0
  rev : BitVec 64 := 0
  /-- The two alternating MRAM copies (R525). -/
  copy0 : TotalCopy := {}
  copy1 : TotalCopy := {}
  /-- The live totals are not in the MRAM yet. -/
  dirty : Bool := false
  /-- Base count B (R536). -/
  bFwd : BitVec 64 := 0
  bRev : BitVec 64 := 0
  qs : List Quantity := []
  /-- The open interval: opening totals, served time, flags seen (R534). -/
  openFwd : BitVec 64 := 0
  openRev : BitVec 64 := 0
  openAt  : BitVec 64 := 0
  sawRev : Bool := false
  sawOvr : Bool := false
  sawStuck : Bool := false
  sawLost : Bool := false
  sawUnstored : Bool := false
  deriving DecidableEq, Repr

/-- One interval record of the ring (R534), its 32 bytes and whether its CRC holds. -/
structure IRec where
  seq   : BitVec 32 := 0
  bytes : List (BitVec 8) := []
  good  : Bool := false
  deriving DecidableEq, Repr

/-- One master's snapshot registers (R533). -/
structure AsSnap where
  master : Master
  time : BitVec 64 := 0
  fwd  : BitVec 64 := 0
  rev  : BitVec 64 := 0
  qs   : List (BitVec 64) := []
  deriving DecidableEq, Repr

/-- Assay metering (18_assay_metering.md). -/
structure Assay where
  chs : Vector AsChan 16 := Vector.replicate 16 {}
  ckptMs : Nat := 0
  stuckS : Nat := 0
  intervalS : Nat := 0
  unstored : Bool := false
  /-- The engine runs (R535). -/
  engine : Bool := false
  /-- SUPPLY_FAIL stands: no new pulse is accepted (R527). -/
  supplyFail : Bool := false
  /-- Index of the next checkpoint multiple and of the next interval multiple of served time. -/
  nextCkpt : Nat := 0
  nextInt  : Nat := 0
  /-- Interval ring: the SEQ of the next record, and the records held, newest first. -/
  irecNext : BitVec 32 := 0
  irecs : List IRec := []
  /-- ASSAY_IREC_DATA and STATUS as the last select copied them. -/
  irecData : List (BitVec 8) := []
  irecValid : Bool := false
  irecGone : Bool := false
  irecCrcBad : Bool := false
  snaps : List AsSnap := []
  result : AsResult := .none
  deriving DecidableEq, Repr

end Sys2Proof.Machine
end

