-- ==== Sys2Proof/Machine/State/Dispatch.lean ====
section
/-! DEFINITION. State/Dispatch.lean: the field cores as the dispatcher sees them (15_cores_dispatcher.md). -/

namespace Sys2Proof.Machine

open Sys2Proof

/-- DISPATCH_CORE_STATUS of a core, as far as it is stored. -/
inductive CoreHealth where
  | ok | testing | retired
  deriving DecidableEq, Repr

/-- A task descriptor (R460). -/
structure TaskDesc where
  entry : BitVec 64 := 0
  arg : BitVec 64 := 0
  level : Nat := 0
  group : Nat := 0
  cores : BitVec 8 := 0
  noPreempt : Bool := false
  cost : Nat := 0
  period : BitVec 32 := 0
  deriving DecidableEq, Repr

/-- A delay-list entry (R468). -/
structure DelayEntry where
  task : Nat := 0
  wake : BitVec 48 := 0
  deriving DecidableEq, Repr

/-- Privilege modes of a field core (R450). -/
inductive Priv where
  | machine | supervisor | user
  deriving DecidableEq, Repr

/-- A core's access that broke the rule of its region (R452): the address, and whether it stored. -/
structure AccessFault where
  addr : Nat := 0
  store : Bool := false
  deriving DecidableEq, Repr

/-- The architectural state of a field core (R450): program counter, privilege mode, integer and floating-point registers, the 16 PMP
entries, and the machine-mode registers that the spec names. No row of the table executes an instruction of a core, so it
changes with a start and an access fault alone (assumption log 30). -/
structure CoreArch where
  pc : BitVec 64 := 0
  priv : Priv := .machine
  xs : List (BitVec 64) := List.replicate 32 0
  fs : List (BitVec 64) := List.replicate 32 0
  pmpcfg : List (BitVec 8) := List.replicate 16 0
  pmpaddr : List (BitVec 64) := List.replicate 16 0
  satp : BitVec 64 := 0
  mie : BitVec 64 := 0
  mideleg : BitVec 64 := 0
  /-- The access fault that the core's last access raised, until its next start. -/
  fault : Option AccessFault := none
  deriving DecidableEq, Repr

/-- One field core (R450, R455–R458, R465). -/
structure FieldCore where
  run : Bool := false
  health : CoreHealth := .ok
  gated : Bool := false
  /-- Out of reset: started and not held. -/
  started : Bool := false
  /-- RUN was cleared, and the core has not come to its next instruction boundary yet (R456). -/
  stopping : Bool := false
  startCause : Nat := 0
  /-- Task the core runs, with its activation. -/
  task : Option Nat := none
  /-- That task was cancelled or rewritten since its take (R472). -/
  dropped : Bool := false
  takeEntry : BitVec 64 := 0
  takeArg : BitVec 64 := 0
  arch : CoreArch := {}
  deriving DecidableEq, Repr

/-- A binding (R463): block index and task, with the block's interrupt line as last seen. -/
structure Binding where
  n : Nat := 0
  block : Nat := 0
  task : Nat := 0
  line : Bool := false
  deriving DecidableEq, Repr

/-- The dispatcher (15_cores_dispatcher.md). -/
structure Dispatch where
  cores : Vector FieldCore 8 := Vector.replicate 8 {}
  /-- WEIGHT and CORES of each group, 16 of them (R473), 0 until a forming sets them (R9); and values written since, by group, due at the
  next tick. -/
  groups : List (Nat × BitVec 8) := List.replicate 16 (0, 0)
  nextGroups : List (Nat × Nat × BitVec 8) := []
  /-- DISPATCH_DESC_BUF, one for all masters (R461): R585 gives it no copy of each master's own. -/
  descBuf : List (BitVec 32) := []
  descResult : BitVec 2 := 0
  descs : List (Nat × TaskDesc) := []
  /-- Pending activations, by task. -/
  acts : List (Nat × Nat) := []
  /-- Ready tasks in queue order; level and group come from the descriptor (R464). -/
  ready : List Nat := []
  delays : List DelayEntry := []
  /-- cur[p] and def[g][p] of R464. -/
  cur : List (Nat × Nat) := []
  defs : List ((Nat × Nat) × Nat) := []
  binds : List Binding := []
  /-- What TAKE reads of this cycle return that were selected before their own command came (R472): core and word. -/
  early : List (Nat × BitVec 32) := []
  /-- Cache lines written back marked poisoned, by line number (R458). -/
  poison : List Nat := []
  /-- DISPATCH_DELAY_LO of each master (R585). -/
  delayLo : List (Master × BitVec 32) := []
  deriving DecidableEq, Repr

end Sys2Proof.Machine
end

