-- ==== Sys2Proof/Machine/State/Fault.lean ====
section
/-! DEFINITION. State/Fault.lean: the fault controller (14_faults_recovery.md). -/

namespace Sys2Proof.Machine

open Sys2Proof

/-- FAULT_RES_STATUS.STATE. -/
inductive ResState where
  | healthy | testing | retired | spared | absent
  deriving DecidableEq, Repr

/-- What the fault controller holds of one resource that ever erred. -/
structure ResRec where
  kind : ResKind
  index : Nat := 0
  state : ResState := .healthy
  /-- Served times of TRANSIENT classes, newest first (R437). -/
  transients : List Nat := []
  code : BitVec 16 := 0
  /-- Served time of the error under test. -/
  detected : BitVec 64 := 0
  /-- The self-test in progress will fail: FAULT_INJECT.FAIL_TEST, or an error came during it (R449). -/
  failTest : Bool := false
  /-- The unit yielded at detection (R440). -/
  yieldFirst : Bool := false
  deriving DecidableEq, Repr

/-- The fault controller (14_faults_recovery.md). -/
structure Fault_ where
  reportSeq : BitVec 16 := 0
  /-- Report entries that wait for room in CULLET_Q, oldest first (R447). -/
  held : List Bytes := []
  res : List ResRec := []
  lastCode : BitVec 16 := 0
  lastRes : BitVec 8 := 0
  lastEscalated : Bool := false
  lastYieldFirst : Bool := false
  lastClass : FaultClass := .corrected
  lastTime : BitVec 64 := 0
  injectResult : BitVec 2 := 0
  deriving DecidableEq, Repr

end Sys2Proof.Machine
end

