-- ==== Sys2Proof/Machine/State/Lode.lean ====
section
/-! DEFINITION. State/Lode.lean: the Lode table engine (07_lode_tables.md). -/

namespace Sys2Proof.Machine

open Sys2Proof

/-- CONTENT of a table (R209, R210). -/
inductive Content where
  | mac | route4 | route6 | zone | resv | occ | spmean
  deriving DecidableEq, Repr

/-- Excess policy (R209, R234). -/
inductive Excess where
  | drop | flood | dropFlag
  deriving DecidableEq, Repr

/-- A LODE_TABLES descriptor (R209). -/
structure TableDesc where
  id       : Nat := 0
  lpm      : Bool := false
  content  : Content
  pipeMask : BitVec 2 := 0
  keyBits  : Nat := 0
  entryBytes : Nat := 0
  sweep    : Nat := 0
  learnLimit : Nat := 0
  excess   : Excess
  deriving DecidableEq, Repr

/-- One interval of a RESV entry (R220). -/
structure ResvInterval where
  mach  : Nat := 0
  task  : BitVec 16 := 0
  start : BitVec 48 := 0
  end_  : BitVec 48 := 0
  deriving DecidableEq, Repr

/-- A Lode key: for an exact table the key, for an LPM table the prefix length and the prefix bits
(right-aligned) (R215, R220). -/
structure LodeKey where
  len : Nat := 0
  val : Nat := 0
  deriving DecidableEq, Repr

/-- The result part of an entry (R220). -/
inductive LodeResult where
  | mac (portMask : BitVec 16) (queue : BitVec 8) (flags : BitVec 8)
  | route (nhMac : BitVec 48) (port : Nat) (queue : BitVec 8) (vid : BitVec 16) (flags : BitVec 8)
  | zone (id : BitVec 16) (cls : Nat) (attr : BitVec 32)
  | resv (ivs : List (Option ResvInterval))
  | occ (lastSeen : BitVec 48) (hpl : Nat)
  | spmean (curv : Int) (rungs : BitVec 8)
  deriving DecidableEq, Repr

/-- One Lode entry: header, key and result (R219, R220). -/
structure LodeEntry where
  written : Bool := false
  hit     : Bool := false
  seenClear : Bool := false
  age     : Bool := false
  flapping : Bool := false
  moves   : Nat := 0
  source  : Nat := 0
  moveMs  : Nat := 0
  key     : LodeKey := {}
  result  : LodeResult
  deriving DecidableEq, Repr

/-- A learn request (R230). -/
structure LearnReq where
  table  : Nat := 0
  pipe   : Bool := false
  key    : LodeKey := {}
  source : Nat := 0
  result : LodeResult
  /-- Model clock at which it was raised. -/
  at_    : Nat := 0
  deriving DecidableEq, Repr

/-- One entry of an LPM instance's length filter (R215): LENGTHS, and SHORT_LEN with SHORT_REF while SHORT_VALID. -/
structure FilterEntry where
  lengths : BitVec 116 := 0
  short   : Option (Nat × (Nat × Nat)) := none
  deriving DecidableEq, Repr

/-- One table instance in one pipeline. -/
structure Inst where
  table : Nat := 0
  /-- True for pipeline 1. -/
  pipe  : Bool := false
  /-- Logical banks, ascending (R206). -/
  banks : List Nat := []
  /-- Seeds S0–S3 (R212). -/
  seeds : List (BitVec 32) := []
  /-- Entries by (bucket, slot), ascending; a position not listed is free. -/
  entries : List ((Nat × Nat) × LodeEntry) := []
  /-- Written entries of a bank under restore, where the written copy is to put them back (R238). -/
  lost : List ((Nat × Nat) × LodeEntry) := []
  /-- The length filter of an LPM instance, by filter entry; one not listed is all zeros (R215). -/
  filter : List (Nat × FilterEntry) := []
  /-- Written prefixes by 256 × filter entry + length, for the lengths above 12 (R216). -/
  lengthCount : List (Nat × Nat) := []
  /-- Learn requests queued, oldest first (R231). -/
  learnQ : List LearnReq := []
  /-- The next bucket the sweeper visits, and the served time its period began (R225). -/
  sweepAt : Nat := 0
  sweepStart : Nat := 0
  deriving DecidableEq, Repr

/-- A write of a written entry, or its deletion, that the writer holds for a stopped pipeline 1 (R208), with the free value its
insertion began to draw from. -/
structure HeldWrite where
  table : Nat := 0
  key   : LodeKey := {}
  entry : Option LodeEntry := none
  free  : Nat := 0
  deriving DecidableEq, Repr

/-- Logical bank states (LODE_BANK_STATUS). -/
inductive BankState where
  | off | active | testing | restoring | pending
  deriving DecidableEq, Repr

/-- One logical bank (R202, R204). -/
structure Bank where
  owner : BitVec 8 := 0
  phys  : Nat := 0
  state : BankState := .off
  deriving DecidableEq, Repr

/-- LODE_ACC_STATUS.RESULT. -/
inductive AccResult where
  | none | done | notFound | tableFull | denied | busy | badTable
  deriving DecidableEq, Repr

/-- The Lode engine (07_lode_tables.md). -/
structure Lode where
  tables : List TableDesc := []
  insts  : List Inst := []
  banks  : List Bank := []
  /-- Pipelines running. -/
  run0 : Bool := false
  run1 : Bool := false
  /-- Pipeline 1 is shutting down: its lookups in flight have not retired; and an enable of it is PENDING (R69, R70, R208). -/
  stop1 : Bool := false
  pend1 : Bool := false
  /-- The writer's copy in LPDDR5X: written entries by table (R224). -/
  copy : List (Nat × LodeEntry) := []
  /-- Writes held for pipeline 1 while it is stopped, oldest first (R208), and the served time of its stop. -/
  held1 : List HeldWrite := []
  stopAt1 : Nat := 0
  spares : List Nat := []
  retired : List Nat := []
  restoring : List Nat := []
  buffer : List (BitVec 8) := []
  accResult : AccResult := .none
  deriving DecidableEq, Repr

end Sys2Proof.Machine
end

