-- ==== Sys2Proof/Machine/State/Rtk.lean ====
section
/-! DEFINITION. State/Rtk.lean: the reference function and the central RTK engine (06_reference_central_rtk.md). -/

namespace Sys2Proof.Machine

open Sys2Proof

/-- Reference position states (R162). -/
inductive RefState where
  | none | surveying | confirming | fixed | confirmFail | moved
  deriving DecidableEq, Repr

/-- RTK_REF_STATUS.REF_SRC. -/
inductive RefSrc where
  | none | survey | entered | stored
  deriving DecidableEq, Repr

/-- RTK_REF_STATUS.CMD_RESULT. -/
inductive RefResult where
  | none | done | mode | paired | busy | disagree | noSignal
  deriving DecidableEq, Repr

/-- An ECEF position in 0.1 mm (06_reference_central_rtk.md). -/
structure Ecef where
  x : BitVec 64 := 0
  y : BitVec 64 := 0
  z : BitVec 64 := 0
  deriving DecidableEq, Repr, Inhabited

/-- One machine's entry of the RTK gather's admission list (R179, R201). -/
structure Admission where
  mach    : Nat := 0
  rateHz  : Nat := 0
  station : Nat := 0
  qh      : Nat := 0
  qv      : Nat := 0
  eui     : BitVec 64 := 0
  srcMac  : BitVec 48 := 0
  deriving DecidableEq, Repr

/-- The RTK gather in force (R201). -/
structure RtkCfg where
  stationId : Nat := 0
  msmSet    : BitVec 7 := 0
  msmRate   : Nat := 0
  sta1006   : Bool := false
  staPeriod : Nat := 0
  antPeriod : Nat := 0
  biasPeriod : Nat := 0
  irH : Nat := 0
  irV : Nat := 0
  irAmb : Nat := 0
  plFloorH : Nat := 0
  plFloorV : Nat := 0
  ratioMin : Nat := 0
  minAmb : Nat := 0
  holdN : Nat := 0
  ageMaxMs : Nat := 0
  collectMs : Nat := 0
  staleMs : Nat := 0
  codeA : Nat := 0
  codeB : Nat := 0
  phaseA : Nat := 0
  phaseB : Nat := 0
  qcorr : Nat := 0
  survMin : Nat := 0
  survAcc : Nat := 0
  confirmM : Nat := 0
  moveM : Nat := 0
  autoConfirm : Bool := false
  pcoU : Int := 0
  pcoM : Int := 0
  pcoL : Int := 0
  ethDest : List (BitVec 8) := []
  antDesc : List (BitVec 8) := []
  admitted : List Admission := []
  deriving DecidableEq, Repr

/-- One message of a bundle (R172, R173): its number and its transport frame. -/
structure RtcmMsg where
  num   : Nat := 0
  frame : List (BitVec 8) := []
  deriving DecidableEq, Repr

/-- A bundle complete on its routes (R173–R177). -/
structure Bundle where
  seq      : Nat := 0
  epochMs  : Nat := 0
  time     : Nat := 0
  messages : List RtcmMsg := []
  deriving DecidableEq, Repr

/-- A signal of a satellite: signal code and satellite number (R137). -/
abbrev SatSig := Nat × Nat

/-- A machine's observation of one signal, as an MSM message gives it: code and carrier range and range rate in m and m/s, the lock time
indicator, the half-cycle flag, and for GLONASS the frequency number if the message carries it (R178, R183). -/
structure MachObs where
  sat   : SatSig := (0, 0)
  code  : Option Rat := none
  phase : Option Rat := none
  rate  : Option Rat := none
  lock  : Nat := 0
  half  : Bool := false
  gloK  : Option Int := none
  deriving DecidableEq, Repr, Inhabited

/-- The base's observation of one signal on ANT_A: code in 2^−16 m, phase in 2^−24 cycle and Doppler in 2^−8 Hz where they hold, whether
the record carries CYCLE_SLIP, the unit vector to the satellite, east, north and up in 2^−30, and its distance in mm (R159, R171). -/
structure BaseObs where
  sat   : SatSig := (0, 0)
  gloK  : Int := 0
  code  : Option Nat := none
  phase : Option Int := none
  dopp  : Int := 0
  slip  : Bool := false
  los   : Int × Int × Int := (0, 0, 0)
  dist  : Nat := 0
  deriving DecidableEq, Repr

/-- A base measurement epoch as the engine holds it: served time, whether it is clean, the position then in force, the base's clock
drift in 10^−12, and the observations (R170, R181, R194, R200). -/
structure BaseEpoch where
  time  : Nat := 0
  clean : Bool := false
  pos   : Option Ecef := none
  drift : Int := 0
  obs   : List BaseObs := []
  deriving DecidableEq, Repr

/-- An ambiguity: its signal and satellite, and for GLONASS the frequency number (R182). -/
structure Amb where
  sat  : SatSig := (0, 0)
  gloK : Int := 0
  deriving DecidableEq, Repr

/-- What an MSM message holds besides its number and its station: the epoch time field, the multiple message bit and the observations
(R178). -/
structure Msm where
  epoch : Nat := 0
  more  : Bool := false
  obs   : List MachObs := []
  deriving DecidableEq, Repr

/-- The state of a machine's filter (R182): n = 6 + m states in m, m/s and cycles, their covariance, the (signal, satellite) of each
ambiguity, and the reference satellite of each signal. -/
structure RtkFilter where
  time : Nat := 0
  x    : List Rat := []
  p    : List (List Rat) := []
  amb  : List Amb := []
  refs : List Amb := []
  /-- Lock time indicator and half-cycle flag of each signal in the machine's last message, and the base's slips since the last
  epoch solved, with their served times (R183). -/
  locks : List (SatSig × Nat × Bool) := []
  slips : List (SatSig × Nat) := []
  deriving DecidableEq, Repr

/-- An RTCM transport frame at the RTK ingest: its bytes, the sender's EUI of one that came by radio, and the source address of one
that came on Ethernet (R179, R180). -/
structure RtcmIn where
  frame  : List (BitVec 8) := []
  eui    : Option (BitVec 64) := none
  srcMac : BitVec 48 := 0
  deriving DecidableEq, Repr

/-- What a self-survey or a confirmation has averaged: sums of the positions in 0.1 mm and their number (R164, R165). -/
structure PosSum where
  x : Int := 0
  y : Int := 0
  z : Int := 0
  n : Nat := 0
  deriving DecidableEq, Repr

/-- The machine epoch being collected (R180). -/
structure MachEpoch where
  /-- Epoch time, served ns. -/
  time   : Nat := 0
  /-- Message numbers taken. -/
  taken  : List Nat := []
  /-- Model clock at its first message. -/
  firstAt : Nat := 0
  /-- Model clock at which it became complete, if it has. -/
  doneAt : Option Nat := none
  /-- Its place in the order of completion (R196). -/
  order  : Nat := 0
  obs    : List MachObs := []
  deriving DecidableEq, Repr

/-- The solution record (R197). -/
structure Solution where
  mach : Nat := 0
  fix  : Nat := 0
  nsv  : Nat := 0
  nfix : Nat := 0
  sflags : BitVec 16 := 0
  ratio : Nat := 0
  epochTime : Nat := 0
  posE : Int := 0
  posN : Int := 0
  posU : Int := 0
  velE : Int := 0
  velN : Int := 0
  velU : Int := 0
  sdE : Nat := 0
  sdN : Nat := 0
  sdU : Nat := 0
  rhoEN : Int := 0
  rhoEU : Int := 0
  rhoNU : Int := 0
  hpl : Nat := 0
  vpl : Nat := 0
  corrAge : Nat := 0
  latUs : Nat := 0
  seq  : Nat := 0
  pdop : Nat := 0
  deriving DecidableEq, Repr

/-- What the engine keeps of one machine (R180 to R200). The filter state lives in LPDDR5X and is not visible to the host. -/
structure RtkMach where
  suspended : Bool := false
  /-- A RESET_FILTER or SUSPEND waiting for the epoch in process (R200). -/
  resetNext   : Bool := false
  suspendNext : Bool := false
  /-- Off the admission list: it goes once its epochs in process are solved (R200). -/
  leaving   : Bool := false
  /-- The filter, if it holds a state. -/
  filter    : Option RtkFilter := none
  /-- Machine epochs being collected or solved, oldest first. -/
  epochs    : List MachEpoch := []
  lastSolved : Option Nat := none
  lastFix   : Nat := 0
  lastNfix  : Nat := 0
  /-- Model clock of the last solution, and of the last solution or stale marker. -/
  lastAt    : Option Nat := none
  markAt    : Nat := 0
  seq       : Nat := 0
  /-- The integers fixed at the last epoch, and for how many epochs running (R188). -/
  ints      : List (SatSig × Int) := []
  holdCount : Nat := 0
  held      : Bool := false
  deriving DecidableEq, Repr

/-- Reference function and central RTK engine (06_reference_central_rtk.md). -/
structure Rtk where
  cfg : RtkCfg := {}
  refState : RefState := .none
  refSrc   : RefSrc := .none
  result   : RefResult := .none
  /-- Model clock at which the survey or confirmation started. -/
  startAt  : Nat := 0
  sdMm     : Nat := 0xFFFF
  /-- Position in force, staged position, survey mean, position under test. -/
  pos      : Option Ecef := none
  staged   : Ecef := {}
  mean     : Ecef := {}
  /-- The confirmation under way: its sum, and its seconds with usable epochs; the survey: its sum, the block under way with the model
  clock at which it began, and the block means (R164, R165). -/
  sum      : PosSum := {}
  seconds  : List Nat := []
  block    : PosSum := {}
  blockAt  : Nat := 0
  blocks   : List PosSum := []
  /-- Single-point positions of the last 60 s with their model clocks, newest first, and since when their average has lain more than
  MOVE_M from the position in force (R169). -/
  recent   : List (Nat × Ecef) := []
  movedAt  : Option Nat := none
  testing  : Option (Ecef × RefSrc) := none
  /-- MRAM: stored position and its source (R167). -/
  stored   : Option (Ecef × RefSrc) := none
  /-- Bundle count since forming (R177). -/
  bundleSeq : Nat := 0
  /-- The bundle of the last epoch, being completed (R175). -/
  bundleDue : Option Bundle := none
  /-- UART0: model clock at which the bundle on the line ends, its bytes, and the bundle that waits; ETH: the bundle that waits
  (R174, R175). The RADIO route is each chain's CORR cursor. -/
  uartEnd  : Nat := 0
  uartLine : Bytes := []
  uartWait : Option Bytes := none
  ethWait  : Option Bytes := none
  /-- Machines by ID, ascending; a machine not listed has an empty filter. -/
  machs  : List (Nat × RtkMach) := []
  lanesRetired : Nat := 0
  /-- The integer search unit is in service. -/
  searchOk : Bool := true
  /-- Solutions of the last whole served second, of the current one, and that second (RTK_ENGINE_STATUS). -/
  load     : Nat := 0
  loadNow  : Nat := 0
  loadSec  : Nat := 0
  maxLat   : Nat := 0
  /-- Base epochs held for matching, newest first: those of the last 1 s and the newest clean one before them (R181, R194). -/
  base : List BaseEpoch := []
  /-- RTCM frames that wait at the ingest, oldest first, and machine epochs completed so far (R180, R196). -/
  ingest : List RtcmIn := []
  doneCount : Nat := 0
  /-- Last base measurement epoch, served ns. -/
  lastBase : Option Nat := none
  /-- Served time of the last clean epoch (R194). -/
  lastClean : Option Nat := none
  deriving DecidableEq, Repr

end Sys2Proof.Machine
end

