-- ==== Sys2Proof/Machine/State/Grid.lean ====
section
/-! DEFINITION. State/Grid.lean: the field grid and allocator (08_field_grid.md). -/

namespace Sys2Proof.Machine

open Sys2Proof

/-- GRID_CMD_STATUS.RESULT (08_field_grid.md). -/
inductive GridResult where
  | none | done | busy | mode | conflictLost | badParam | badTrack | noTrack | inUse | outOfGrid
  | tooLarge | noFix | badTime | ageLimit | order | storeFull | noZone | zoneDenied | resvConflict
  | resvFull | occupied | occCold | badZone | zoneInUse | tableFull | notFound | notClear
  deriving DecidableEq, Repr

/-- A cell: level and indices (R245). -/
structure Cell where
  level : Nat := 0
  iE    : Nat := 0
  iN    : Nat := 0
  deriving DecidableEq, Repr

/-- A machine's footprint in mm (R277). -/
structure Footprint where
  halfWidth : Nat := 0
  front     : Nat := 0
  rear      : Nat := 0
  deriving DecidableEq, Repr

/-- A zone (R248). -/
structure Zone where
  level  : Nat := 0
  cls    : Nat := 0
  id     : Nat := 0
  prefix_ : BitVec 32 := 0
  attr   : BitVec 32 := 0
  deriving DecidableEq, Repr

/-- The GRID gather in force (R277); zones are held apart. -/
structure GridCfg where
  resvLevel : Nat := 0
  occLevel  : Nat := 0
  occLimit  : Nat := 0
  horizonS  : Nat := 0
  lapseMs   : Nat := 0
  /-- Footprints by machine, 128 of them. -/
  prints    : List Footprint := []
  deriving DecidableEq, Repr

/-- A vertex in the field frame, mm (R250). -/
structure Vertex where
  e : Int := 0
  n : Int := 0
  deriving DecidableEq, Repr

/-- A live allotment's record (R262). -/
structure Allot where
  id      : BitVec 16 := 0
  mach    : Nat := 0
  task    : Nat := 0
  index   : Nat := 0
  trackId : Nat := 0
  op      : Nat := 0
  margin  : Nat := 0
  start   : BitVec 64 := 0
  end_    : BitVec 64 := 0
  /-- The track it was swept from, and by how many mm extensions continue it (R274). -/
  track   : List Vertex := []
  ext     : Nat := 0
  cells   : List Cell := []
  deriving DecidableEq, Repr

/-- A command waiting in the grid's intake (R260), with its 48-byte body. -/
structure GridCmd where
  master : Master
  body   : Bytes := []
  /-- Command queue and sequence number, if a queue brought it; none on the register path. -/
  queue  : Option (Nat × BitVec 32) := none
  /-- Model clock at which it entered. -/
  at_    : Nat := 0
  /-- A contradictory command of its cycle has won (R24, R261). -/
  lost   : Bool := false
  deriving DecidableEq, Repr

/-- What the grid holds of one machine (R263–R272). -/
structure GridMach where
  /-- HPL and the fix of the latest solution; none before any. -/
  hpl      : Nat := 0xFFFF
  fixOk    : Bool := false
  stale    : Bool := false
  posE     : Int := 0
  posN     : Int := 0
  epoch    : Nat := 0
  /-- Model clock of the last solution with FIX other than NONE and HPL other than 0xFFFF. -/
  goodAt   : Option Nat := none
  lapsed   : Bool := false
  annealMargin  : Bool := false
  annealOutside : Bool := false
  occLimit : Bool := false
  /-- Heading held for the occupied area (R267): velocity east, north. -/
  headE    : Int := 0
  headN    : Int := 0
  deriving DecidableEq, Repr

/-- The last ALLOT or EXTEND, as GRID_ALLOT_STATUS and its neighbours report it. -/
structure AllotReport where
  result  : GridResult := .none
  blocker : BitVec 8 := 0xFF
  allotId : BitVec 16 := 0
  cells   : Nat := 0
  waitUs  : Nat := 0
  runUs   : Nat := 0
  cell    : BitVec 40 := 0
  deriving DecidableEq, Repr

/-- The field grid (08_field_grid.md). -/
structure Grid where
  cfg     : GridCfg := {}
  /-- The GRID gather is present and the tables of R277 exist. -/
  present : Bool := false
  zones   : List Zone := []
  tracks  : List (Nat × List Vertex) := []
  allots  : List Allot := []
  /-- Generation count of each record index used, by index (R262). -/
  gens    : List (Nat × Nat) := []
  /-- Highest track index allotted, by task (R253): task, machine, index. -/
  tasks   : List (Nat × Nat × Nat) := []
  machs   : List (Nat × GridMach) := []
  /-- Occupancy learn requests that wait for room in the learn queues, oldest first (R268). -/
  occWait : List LearnReq := []
  intake  : List GridCmd := []
  origin  : Option Ecef := none
  staged  : Ecef := {}
  report  : AllotReport := {}
  cmdBuf  : List (BitVec 32) := []
  cmdBusy : Bool := false
  cmdResult  : GridResult := .none
  cmdBlocker : BitVec 8 := 0xFF
  /-- Model clock at which the grid last started taking solutions (R270). -/
  occStart : Nat := 0
  occCold  : Bool := false
  deriving DecidableEq, Repr

end Sys2Proof.Machine
end

