-- ==== Sys2Proof/Machine/State/Quench.lean ====
section
/-! DEFINITION. State/Quench.lean: the quench channels and permits (11_quench_permit.md). -/

namespace Sys2Proof.Machine

open Sys2Proof

/-- Health of a quench channel (QUENCH_STATUS.CH_x). -/
inductive ChHealth where
  | healthy | testing | retired
  deriving DecidableEq, Repr

/-- QUENCH_STATUS.CAUSE (R367). Lower codes first. -/
inductive QCause where
  | powerOn | contact | discrepant | host | pendant | peer | warden | channelFault
  deriving DecidableEq, Repr

/-- QUENCH_RESULT.RESULT. -/
inductive QResult where
  | none | done | busy | denied | notLatched | degraded | sourceActive | conflictLost | badParam
  deriving DecidableEq, Repr

/-- One contact input of a pair (R355): the level at the ball and the accepted state. -/
structure Contact where
  level  : Bool := false
  active : Bool := false
  /-- Model clock of the last edge. -/
  edgeAt : Nat := 0
  deriving DecidableEq, Repr

/-- One quench channel (R353–R361). -/
structure QChannel where
  health : ChHealth := .healthy
  c1 : Contact := {}
  c2 : Contact := {}
  /-- The pair became active by both contacts (R356). -/
  pair : Bool := false
  discrepant : Bool := false
  /-- Model clock at which the 5 ms agreement window opened. -/
  window : Option Nat := none
  /-- This channel's copy of the latch; set at power-up (R76). -/
  latch : Bool := true
  /-- QUENCH_OUT_x energised. -/
  out : Bool := false
  deriving DecidableEq, Repr

/-- A pulse of a shared source still running: its end on the model clock. -/
abbrev PulseEnd := Option Nat

/-- The stop path, its sources and the permits (11_quench_permit.md). -/
structure Quench where
  chs : Vector QChannel 3 := Vector.replicate 3 {}
  /-- Host source: the 10 µs pulse; HOST_HOLD. -/
  hostEnd  : PulseEnd := none
  /-- Pendant source: events PENDANT and PEER, each with its end (R358, R367). -/
  pendantEnd : PulseEnd := none
  peerEnd    : PulseEnd := none
  /-- Warden source: the pulse; the standing conditions live in `Aon`. -/
  wardenEnd : PulseEnd := none
  /-- A second channel has come to STOP and the decision has not latched yet: its cause, and the rank of the
  master whose action it is (R367, R539). -/
  deciding : Option (QCause × Nat) := none
  /-- Model clock at which it came to STOP. -/
  decidingAt : Nat := 0
  cause   : QCause := .powerOn
  time    : BitVec 64 := 0
  /-- Quench count since forming, and the QSEQ of the last voted decision (R367). -/
  count   : BitVec 16 := 0
  qseq    : BitVec 16 := 0
  /-- Model clock of the decision, for the reminders (R370). -/
  latchAt : Nat := 0
  /-- A lone channel result has stood since this model clock (R360). -/
  loneSince : Option Nat := none
  /-- It has been reported. -/
  loneDone : Bool := false
  /-- Reminders written for this latch (R370). -/
  reminders : Nat := 0
  /-- The PERMIT_OUT driver, and its pin with the clock of the last withdrawal (R363, R429). -/
  permitOut : Bool := false
  permitPin : Bool := false
  permitFall : Option Nat := none
  machq : BitVec 128 := 0
  /-- Machines the set-point engine has reported at standstill in this ANNEAL (R371, R373). -/
  stood : BitVec 128 := 0
  /-- Model clock at which this ANNEAL began (R373). -/
  annealAt : Nat := 0
  result : QResult := .none
  /-- Ethernet repeats left and the served 10 ms multiple last used (R365). -/
  ethLeft : Nat := 0
  ethNext : Nat := 0
  deriving DecidableEq, Repr

end Sys2Proof.Machine
end

