-- ==== Sys2Proof/Machine/State/Radio.lean ====
section
/-! DEFINITION. State/Radio.lean: the Caszal field radio (10_field_radio.md). -/

namespace Sys2Proof.Machine

open Sys2Proof

/-- RADIO_CHAIN_STATUS.STATE, but for what the mode decides (10_field_radio.md). -/
inductive ChainHealth where
  | ok | testing | retired
  deriving DecidableEq, Repr

/-- Frame types of Caszal (R324). -/
inductive FrameType where
  | beacon | gang | corr | data | poll | ack | quench | anneal | stopReq | syncReq
  deriving DecidableEq, Repr

/-- Use of a shared segment (R329). -/
inductive SlotUse where
  | idle | corr | down | up | poll | rendezvous
  deriving DecidableEq, Repr

/-- A Caszal frame the part sends (R318, R324): the whole PSDU, with its SUB. -/
structure RadioFrame where
  type : FrameType
  /-- Channel in the chain's plan. -/
  channel : Nat := 0
  asn : Nat := 0
  sub : Nat := 0
  /-- Header and payload before encryption. -/
  plain : List (BitVec 8) := []
  /-- Header, payload as sent, MIC and FCS. -/
  psdu : List (BitVec 8) := []
  deriving DecidableEq, Repr

/-- One chain's configuration, from the RADIO and HOPS gathers (R350, R351). -/
structure ChainCfg where
  en : Bool := false
  band : Nat := 0
  mode : Nat := 0
  beaconDiv : Nat := 0
  gang : Bool := false
  stop : Bool := false
  corr : Bool := false
  nodes : Bool := false
  parentRx : Bool := false
  /-- 100 slot-plan entries: use and OWNER. -/
  plan : List (SlotUse × BitVec 16) := []
  deriving DecidableEq, Repr

/-- An APP frame held for the radio downlink at port 14 (R329, R388). -/
structure DownFrame where
  dst : BitVec 16 := 0
  chain : Nat := 0
  ackReq : Bool := false
  body : List (BitVec 8) := []
  /-- Message number, fragment index and bytes already delivered; times this fragment has been sent (R329). -/
  msg : BitVec 8 := 0
  frag : Nat := 0
  done : Nat := 0
  tries : Nat := 0
  deriving DecidableEq, Repr

/-- One chain's state. -/
structure Chain where
  cfg : ChainCfg := {}
  /-- RADIO_CHAIN_CTRL. -/
  en : Bool := false
  txpwr : BitVec 8 := 0
  bypass : Bool := false
  paPol : Bool := false
  lnaPol : Bool := false
  paLead : BitVec 8 := 0x0A
  lnaLead : BitVec 8 := 0x05
  health : ChainHealth := .ok
  /-- Shutting down at the end of the frame on air, and an enable held PENDING (R69). -/
  stopping : Bool := false
  pendingEn : Bool := false
  /-- The load of R86 was shed while a frame was on air, which has not ended yet (R69, R87). -/
  shedWait : Bool := false
  channel : Nat := 0
  /-- The frame on air. -/
  onAir : Option RadioFrame := none
  /-- Served times at which the chain's last frame began and ends. -/
  airStart : Nat := 0
  airEnd : Nat := 0
  /-- Nothing more is sent in this slot (R331). -/
  broken : Bool := false
  /-- The chain has used its GANG or shared segment in this slot. -/
  sentBeacon : Bool := false
  sentGang : Bool := false
  sentShared : Bool := false
  /-- A second frame of the shared segment has gone, with k = 4 (R320). -/
  sentSecond : Bool := false
  /-- End of a recovery frame in this slot, µs from the boundary; 0 for none (R348). -/
  recEnd : Nat := 0
  /-- CORR cursor: bundle count and chunk index; bytes still to send (R327). -/
  corrSeq : Nat := 0
  corrChunk : Nat := 0
  corrLeft : List (BitVec 8) := []
  downQ : List DownFrame := []
  /-- The downlink DATA awaiting its ACK: SEQ sent. -/
  awaitAck : Option (BitVec 8) := none
  /-- Machine QUENCHes and machine ANNEALs waiting for a shared frame (R332, R333). -/
  machQuench : List (Nat × Nat) := []
  machAnneal : List Nat := []
  /-- ASN of the chain's first slot of ANNEAL (R333). -/
  annealFirst : Option Nat := none
  deriving DecidableEq, Repr

/-- A band's channel plan and hop table (R308, R312, R351). -/
structure HopBand where
  band : Nat := 0
  chCount : Nat := 0
  f0 : Nat := 0
  spacing : Nat := 0
  hops : List Nat := []
  deriving DecidableEq, Repr

/-- A band's ledger limits (R339, R352). -/
structure LedgerBand where
  band : Nat := 0
  limit : Nat := 0
  q : Nat := 0
  f : Nat := 0
  /-- Sub-bands: LO_CH, HI_CH, LIMIT. -/
  subs : List (Nat × Nat × Nat) := []
  deriving DecidableEq, Repr

/-- Airtime charged in one bucket of one account (band, sub-band or none) (R339). -/
structure LedgerEntry where
  band : Nat := 0
  /-- none for the band account. -/
  sub : Option Nat := none
  /-- Bucket: the served second. -/
  sec : Nat := 0
  us : Nat := 0
  deriving DecidableEq, Repr

/-- A sleepy node (R334–R336). -/
structure Node where
  addr : BitVec 16 := 0
  eui : BitVec 64 := 0
  chain : Nat := 0
  slot : Nat := 0
  periodLog2 : Nat := 0
  phase : Nat := 0
  synced : Bool := false
  /-- Served time the base last answered it. -/
  answered : Nat := 0
  held : List DownFrame := []
  /-- A DATA POLL_REPLY awaits the node's ACK: SEQ sent. -/
  replied : Option (BitVec 8) := none
  deriving DecidableEq, Repr

/-- RADIO_NODE_RESULT.RESULT. -/
inductive NodeResult where
  | none | done | busy | exists_ | full | notFound | clash | mode
  deriving DecidableEq, Repr

/-- A message in reassembly (R328). -/
structure Reasm where
  chain : Nat := 0
  src : BitVec 16 := 0
  msg : BitVec 8 := 0
  proto : BitVec 8 := 0
  next : Nat := 0
  body : List (BitVec 8) := []
  since : Nat := 0
  deriving DecidableEq, Repr

/-- A recovery frame or a parent (R338). -/
structure Parent where
  eui : BitVec 64 := 0
  chain : Nat := 0
  unit : Bool := false
  deriving DecidableEq, Repr

/-- The Caszal field radio (10_field_radio.md). -/
structure Radio where
  /-- A RADIO gather is in force. -/
  present : Bool := false
  schedE : Nat := 0
  unit : Bool := false
  quenchRepeat : Nat := 0
  pendantHoldMs : Nat := 0
  pendants : List (BitVec 64) := []
  parent : Option Parent := none
  chains : Vector Chain 3 := Vector.replicate 3 {}
  ofs : List Nat := []
  hops : List HopBand := []
  windowS : Nat := 0
  limits : List LedgerBand := []
  ledger : List LedgerEntry := []
  nodes : List Node := []
  asn : Nat := 0
  /-- The schedule has started: served time has reached E (R311). -/
  running : Bool := false
  /-- TX_ASN_MAX in MRAM (R323). -/
  txMax : Nat := 0
  asnHold : Bool := false
  asnWrap : Bool := false
  keyFault : Bool := false
  /-- Frame count of this base (SEQ of R318). -/
  seq : BitVec 8 := 0
  /-- Replay high-water marks by sender EUI (R322). -/
  marks : List (BitVec 64 × Nat) := []
  /-- QUENCH repeats still to send, and the ASN of the slot break they follow (R332). -/
  repeatLeft : Nat := 0
  breakAsn : Option Nat := none
  /-- A slot break waits for the slot boundary that follows within 250 µs (R349). -/
  breakDue : Bool := false
  /-- Pendant and REASON of the last STOP_REQ accepted (R324). -/
  stopReason : Option (Nat × BitVec 8) := none
  /-- Message number of the next downlink APP frame. -/
  msg : BitVec 8 := 0
  silent : Bool := false
  orphan : Bool := false
  /-- Consecutive slots without an accepted gaffer or parent BEACON (R337, R338). -/
  missGaffer : Nat := 0
  missParent : Nat := 0
  heardGaffer : Bool := false
  heardParent : Bool := false
  reasm : List Reasm := []
  /-- The first valid SYNC_REQ of the rendezvous slot has been answered, by chain. -/
  syncDone : List Nat := []
  nodeResult : NodeResult := .none
  deriving DecidableEq, Repr

end Sys2Proof.Machine
end

