-- ==== Sys2Proof/Machine/State/Setpt.lean ====
section
/-! DEFINITION. State/Setpt.lean: the set-point engine (09_setpoint_engine.md). -/

namespace Sys2Proof.Machine

open Sys2Proof

/-- A machine class's limits (R280). -/
structure SpClass where
  vFwd : Nat := 0
  vRev : Nat := 0
  aMax : Nat := 0
  dNorm : Nat := 0
  dAnneal : Nat := 0
  dHard : Nat := 0
  jMax : Nat := 0
  latA : Nat := 0
  lookMs : Nat := 0
  catchup : Nat := 0
  slipMm : Nat := 0
  revOps : BitVec 8 := 0
  deriving DecidableEq, Repr

/-- The SETPT gather in force (R305). -/
structure SpCfg where
  ethRate : Nat := 0
  odoStaleMs : Nat := 0
  stillMs : Nat := 0
  stillMmS : Nat := 0
  odoUdp : Nat := 0
  ethDest : List (BitVec 8) := []
  classes : List SpClass := []
  /-- Class (none for 0xFF) and ROUTES of each machine, 128 of them. -/
  machs : List (Option Nat × BitVec 2) := []
  deriving DecidableEq, Repr

/-- Anneal causes (R297; SETPT_MACH_STATUS.CAUSES). -/
structure SpCauses where
  fleet : Bool := false
  margin : Bool := false
  outside : Bool := false
  host : Bool := false
  gearLost : Bool := false
  overrun : Bool := false
  noChain : Bool := false
  deriving DecidableEq, Repr

/-- One entry of a pair's ratio schedule (R295). -/
structure SchedEntry where
  pos : BitVec 32 := 0
  ratio : BitVec 32 := 0
  blend : Nat := 0
  deriving DecidableEq, Repr

/-- A geared pair, kept at its follower (R293–R296). -/
structure Gear where
  master : Nat := 0
  ratio0 : BitVec 32 := 0
  /-- x_m0 and s_f0 once captured: master mm (modulo 2^32) with its part below 1 mm in pm, and follower pm. -/
  captured : Option (BitVec 32 × Int × Int) := none
  sched : List SchedEntry := []
  err : Int := 0
  slip : Bool := false
  /-- Model clock from which ODO_STALE_MS runs. -/
  since : Nat := 0
  deriving DecidableEq, Repr

/-- A master's last accepted odometer report (R292). -/
structure Odo where
  seq : BitVec 16 := 0
  odo : BitVec 32 := 0
  speed : Int := 0
  time : BitVec 64 := 0
  /-- Model clock of acceptance. -/
  at_ : Nat := 0
  deriving DecidableEq, Repr

/-- One SPMEAN candidate as read (R287, R288). -/
structure SpMean where
  reverse : Bool := false
  index : Nat := 0
  curv : Int := 0
  rungs : BitVec 8 := 0
  deriving DecidableEq, Repr

/-- What the engine holds of one machine (R281–R299). s in pm, v in nm/s, a in µm/s². -/
structure SpMach where
  planned : Bool := false
  s : Int := 0
  v : Int := 0
  a : Int := 0
  code : BitVec 16 := 0
  allotId : BitVec 16 := 0
  /-- The chain of the last tick (R273): each ALLOT_ID with the length of its track in pm; and what of it then remained,
  in pm. -/
  chain : List (BitVec 16 × Nat) := []
  remain : Nat := 0
  reverse : Bool := false
  causes : SpCauses := {}
  stopLow : Bool := false
  endNear : Bool := false
  /-- Deceleration limit in force at the last tick, and that of a ramp of R299, mm/s². -/
  limit : Nat := 0
  ramp : Option Nat := none
  /-- Planned speed has been 0 since this model clock. -/
  zeroSince : Option Nat := none
  still : Bool := false
  /-- LIMITS overrides; 0 for the class value (R300). -/
  vMax : Nat := 0
  dNorm : Nat := 0
  dAnneal : Nat := 0
  gear : Option Gear := none
  means : List SpMean := []
  /-- Latest solution delivered: position mm, velocity mm/s, model clock, not yet used. -/
  solE : Int := 0
  solN : Int := 0
  solVE : Int := 0
  solVN : Int := 0
  solAt : Option Nat := none
  /-- EPOCH_TIME of that solution. -/
  solTime : Nat := 0
  solNew : Bool := false
  /-- The latest that the RTK engine sent of it is a stale marker (R192). -/
  stale : Bool := false
  deriving DecidableEq, Repr

/-- An EXTEND that the engine asks of the grid (R299): machine, whole metres, the model clock at which it was asked, and whether a
release of its cycle has won (R261). -/
structure ExtReq where
  mach : Nat := 0
  dist : Nat := 0
  at_  : Nat := 0
  lost : Bool := false
  deriving DecidableEq, Repr

/-- A set-point command waiting in the intake (R300), with its 32-byte body. -/
structure SpCmd where
  master : Master
  body : Bytes := []
  queue : Option (Nat × BitVec 32) := none
  deriving DecidableEq, Repr

/-- SETPT_CMD_STATUS.RESULT (09_setpoint_engine.md). -/
inductive SpResult where
  | none | done | busy | mode | conflictLost | badParam | loop | noChain | passed | notGeared
  deriving DecidableEq, Repr

/-- The set-point engine (09_setpoint_engine.md). -/
structure Setpt where
  cfg : SpCfg := {}
  machs : List (Nat × SpMach) := []
  odos : List (Nat × Odo) := []
  intake : List SpCmd := []
  cmdBuf : List (BitVec 32) := []
  cmdBusy : Bool := false
  cmdResult : SpResult := .none
  ethSeq : BitVec 16 := 0
  /-- SEQ of the last datagram sent (SETPT_TICK.ETH_SEQ). -/
  ethLast : BitVec 16 := 0
  maxPlanUs : Nat := 0
  /-- Commands that the engine has done of those latched for the tick to come, which others of them may contradict (R24). -/
  orders : List SpCmd := []
  /-- EXTEND requests that wait for the grid (R299). -/
  extends_ : List ExtReq := []
  deriving DecidableEq, Repr

end Sys2Proof.Machine
end

