-- ==== Sys2Proof/Machine/State/Sys.lean ====
section
/-! DEFINITION. State/Sys.lean: modes, power, temperature and the always-on island (03_modes_power_reset.md). -/

namespace Sys2Proof.Machine

open Sys2Proof

/-- The twelve modes of SYS_MODE (01_architecture.md, modes at a glance; R78). -/
inductive Mode where
  | reset | forming | survey | field | holdover | anneal
  | quenched | servitor | reserve | dormant | maintenance | yielded
  deriving DecidableEq, Repr

/-- SYS_MODE.CAUSE: the cause of the last transition (03_modes_power_reset.md, SYS_MODE). -/
inductive ModeCause where
  | boot | hostReq | warden | quench | timeLost | timeRegained | ageLimit | mainLost | mainReturned
  | battLow | wake | fault | takeover | peerClaim | release | thermal | formed | autoField
  deriving DecidableEq, Repr

/-- SYS_MODE_RESULT.RESULT (03_modes_power_reset.md). -/
inductive ReqResult where
  | none | done | busy | mode | notReady | notPermitted | notStored | conflictLost
  deriving DecidableEq, Repr

/-- A mode request in progress: SYS_MODE_REQ, or MODE_REQ of the warden mailbox (R103). -/
structure ModeReq where
  target  : Mode
  master  : Master
  /-- TAG of the mailbox request that carries it, if mailbox 8 brought it (R104). -/
  mboxTag : Option (BitVec 8)
  deriving DecidableEq, Repr

/-- The main die's mode state (03_modes_power_reset.md; R588 puts it in the main die). -/
structure Sys where
  mode       : Mode := .reset
  prev       : Mode := .reset
  cause      : ModeCause := .boot
  annealDone : Bool := false
  wakeHold   : Bool := false
  /-- The request accepted and waiting for the profile tick, and the last result. -/
  req        : Option ModeReq := none
  reqResult  : ReqResult := .none
  /-- The warden's thermal ANNEAL request (R89), waiting for the profile tick. -/
  thermalReq : Bool := false
  /-- The anneal in progress was started by the loss of VIN_MAIN, and the ANNEAL_RES_MAX limit still applies (R85). -/
  annealOnRes : Bool := false
  /-- The load of R86 is shed. -/
  shed       : Bool := false
  /-- The action at the correction-age limit has been taken in this HOLDOVER (R100). -/
  ageTaken   : Bool := false
  /-- A release has been accepted in QUENCHED: the move to SURVEY waits for the profile tick (R73, R78). -/
  released   : Bool := false
  deriving DecidableEq, Repr

/-- Why the warden holds the main die unpowered or in reset (R84, R89, R99). -/
inductive Hold where
  | none | battCrit | thermal | refMissing
  deriving DecidableEq, Repr

/-- SYS_WAKE_SRC (03_modes_power_reset.md). -/
inductive WakeSrc where
  | none | alarm | main | solar | gpio (i : Fin 4) | failed
  deriving DecidableEq, Repr

/-- The always-on island's power, temperature and wake state (R81 to R99, R588). -/
structure Aon where
  powered    : Bool := true
  /-- R98 step 3, 4, 5 and 6. -/
  wardenUp   : Bool := false
  mainRails  : Bool := false
  pllLocked  : Bool := false
  /-- The main die is out of reset. -/
  mainRun    : Bool := false
  hold       : Hold := .none
  /-- SYS_PWR_STATUS: both inputs in mV, and REF_MISSING. -/
  vmainMv    : Nat := 0
  vresMv     : Nat := 0
  refMissing : Bool := false
  onRes      : Bool := false
  /-- VIN_MAIN counts as present: it was in range at power-up, or has been back for 1 s since its loss (R81, R83). -/
  mainGood   : Bool := true
  /-- SYS_PWR_SENSE. -/
  battMv     : Nat := 0
  solarMv    : Nat := 0
  /-- Consecutive samples below RES_LOW and RES_CRIT, and above each plus 200 mV (R84). -/
  lowCount   : Nat := 0
  critCount  : Nat := 0
  lowClear   : Nat := 0
  critClear  : Nat := 0
  battLow    : Bool := false
  /-- The warden's stop conditions: RES_CRIT, battery anneal limit, 110 °C, lockstep mismatch (STOP_STATE). -/
  battCrit   : Bool := false
  battAnneal : Bool := false
  thermal110 : Bool := false
  lockstep   : Bool := false
  /-- The correction-age and anneal-limit pulses sent since the last release (STOP_STATE bits 4 and 5). -/
  agePulse   : Bool := false
  annealPulse : Bool := false
  /-- The 105 °C threshold is armed (R89), and SYS_TEMP in 0.125 °C. -/
  thermArmed : Bool := true
  tj         : Int := 0
  refPresent : Bool := true
  /-- SYS_AON_TIME, and the AON time (`aonNs`) at which the counter's next whole second falls. -/
  seconds    : BitVec 32 := 0
  secondAt   : Nat := 10 ^ 9
  /-- AON time in ns since AON power-up, and served time at the last DORMANT entry with the AON time then (R541). -/
  aonNs      : Nat := 0
  aligned    : Option (Nat × Nat) := none
  crystal    : Bool := false
  /-- A forming has ended since AON power-up (R541). -/
  formed     : Bool := false
  /-- A DORMANT request was accepted and entry is under way (R91). -/
  dormantReq : Bool := false
  /-- The master whose request is under way. -/
  dormantWho : Master := .host
  /-- VIN_MAIN has been out of range since that request; SOLAR_SENSE has been at its threshold or below since; and the model
  clock of the rise of SOLAR_SENSE that still stands (R92). -/
  mainArmed  : Bool := false
  solarArmed : Bool := false
  solarRise  : Option Nat := none
  /-- The action of R84 at RES_CRIT that follows a stop decision still to come. -/
  critDue    : Bool := false
  /-- A wake event during the entry (R105). -/
  wakePending : Option WakeSrc := none
  /-- A 40 ms wake is under way, and the model clock at its wake event (R94). -/
  waking     : Bool := false
  wakeAt     : Nat := 0
  wakeSrc    : WakeSrc := .none
  deriving DecidableEq, Repr

end Sys2Proof.Machine
end

