-- ==== Sys2Proof/Machine/State/Time.lean ====
section
/-! DEFINITION. State/Time.lean: the timebase (04_timebase.md). -/

namespace Sys2Proof.Machine

open Sys2Proof

/-- TIME_STATUS.STEP_RESULT (04_timebase.md). -/
inductive StepResult where
  | none | done | mode
  deriving DecidableEq, Repr

/-- One time domain, PRIMARY or ALTERNATE (R108). Quantities named 40 count 2^−40 ns. -/
structure Domain where
  /-- Offset O_d (R108). -/
  off40 : Int := 0
  /-- Rate F_d, signed, in units of 2^−40 (R108). -/
  rate : BitVec 32 := 0
  /-- Pending correction (R114). -/
  pend40 : Int := 0
  /-- Source the TIME gather names (R110). -/
  source : Nat := 0
  /-- The source is valid (R110). -/
  valid : Bool := false
  /-- The domain has been valid since the last forming (R131). -/
  everValid : Bool := false
  /-- Model clock at the last accepted RATE or CORR write, or exchange (R110). -/
  lastWrite : Nat := 0
  /-- Model clock at which the source became valid, and at which it was lost (R111, R131, R132). -/
  validAt : Nat := 0
  lostAt : Nat := 0
  /-- Rates held, newest first, each with the model clock from which it held (R131). -/
  rateLog : List (Nat × Int) := []
  /-- The last return error exceeded 100 µs and is still being slewed (TIME_STATUS.REJOIN_SLOW). -/
  slow : Bool := false
  deriving DecidableEq, Repr

/-- One capture entry (R129, R130). -/
structure CapEntry where
  time    : BitVec 64 := 0
  rising  : Bool := false
  stepped : Bool := false
  ovf     : Bool := false
  deriving DecidableEq, Repr

/-- One event-capture input (R129). -/
structure CapInput where
  fifo    : List CapEntry := []
  /-- Edges were lost since the last stored entry. -/
  lost    : Bool := false
  /-- A step was applied since the last stored entry (R130). -/
  stepped : Bool := false
  deriving DecidableEq, Repr

/-- One transmit timestamp (R125). -/
structure TxTs where
  time    : BitVec 64 := 0
  port    : BitVec 4 := 0
  msgType : BitVec 4 := 0
  seqId   : BitVec 16 := 0
  deriving DecidableEq, Repr

/-- The timebase (04_timebase.md). -/
structure TimeB where
  /-- Raw count, in ns since the main die left reset (R106). -/
  raw : Nat := 0
  /-- PRIMARY and ALTERNATE. -/
  p : Domain := {}
  a : Domain := {}
  /-- TIME_CTRL.SEL: true selects ALTERNATE (R112). -/
  selA : Bool := false
  /-- Switch residual, in 2^−40 ns (R109, R115). -/
  resid40 : Int := 0
  /-- SLEW_PPM, 0 until forming; correction-age limit in s and whether its action is QUENCH (R100, R589). -/
  slewPpm : Nat := 0
  ageLimit : Nat := 0
  ageQuench : Bool := false
  /-- TIME_STEP_LO, and the last result (R118). -/
  stepLo : BitVec 32 := 0
  stepResult : StepResult := .none
  /-- TIME_REJOIN_ERR (R133). -/
  rejoinErr : Int := 0
  /-- TIME_UTC_OFS. -/
  utcValid : Bool := false
  utcOfs : BitVec 16 := 0
  /-- The 1 µs pulse of each compare: its end on the model clock and the GPIO pins routed when it fired (R121). -/
  pulses : Vector (Nat × BitVec 24) 4 := Vector.replicate 4 (0, 0)
  /-- PPS_OUT, the index of the next whole second it announces, and served time after the last step (R126, R127). -/
  ppsHigh : Bool := false
  ppsNext : Nat := 0
  ppsFallAt : Nat := 0
  lastStep : Option Nat := none
  caps : Vector CapInput 5 := Vector.replicate 5 {}
  /-- TIME_CAP_LO, _HI and _META as held by the last read. -/
  capHeld : Option CapEntry := none
  /-- The transmit timestamp queue, oldest first, and what the last read held (R125). -/
  txts : List TxTs := []
  txtsHeld : Option TxTs := none
  /-- Index of the next multiple of each tick still to issue (R25, R26). -/
  nextDisp : Nat := 0
  nextProf : Nat := 0
  nextSlot : Nat := 0
  nextEpoch : Nat := 0
  nextSec : Nat := 0
  /-- Model clock of the last clean epoch since forming (R100, R170). -/
  cleanAt : Option Nat := none
  deriving DecidableEq, Repr

end Sys2Proof.Machine
end

