-- ==== Sys2Proof/Machine/State/Twin.lean ====
section
/-! DEFINITION. State/Twin.lean: the twin interlock, the Frauri link and the mirrored state (13_twin_redundancy.md). -/

namespace Sys2Proof.Machine

open Sys2Proof

/-- The GRID class of R421. -/
structure MirGrid where
  origin : Option Ecef := none
  zones  : List Zone := []
  tracks : List (Nat × List Vertex) := []
  /-- Written ZONE and RESV entries by table. -/
  entries : List (Nat × LodeEntry) := []
  allots : List Allot := []
  gens   : List (Nat × Nat) := []
  tasks  : List (Nat × Nat × Nat) := []
  machs  : List (Nat × GridMach) := []
  deriving DecidableEq, Repr

/-- The RADIO class (R346). -/
structure MirRadio where
  asn : Nat := 0
  repeatLeft : Nat := 0
  txMax : Nat := 0
  marks : List (BitVec 64 × Nat) := []
  nodes : List Node := []
  ledger : List LedgerEntry := []
  /-- CORR bundle count and chunk cursor of each chain. -/
  corr : List (Nat × Nat) := []
  deriving DecidableEq, Repr

/-- One channel of the ASSAY class (R421, R423, R536): reported totals and derived bases. -/
structure MirAssay where
  fwd : BitVec 64 := 0
  rev : BitVec 64 := 0
  /-- V and F, and P, of each quantity. -/
  vals : List (BitVec 80 × BitVec 64) := []
  deriving DecidableEq, Repr

/-- The TIME class (R421): both domains and the residual; and the gaffer's served time. -/
structure MirTime where
  served : Nat := 0
  p : Domain := {}
  a : Domain := {}
  selA : Bool := false
  resid40 : Int := 0
  deriving DecidableEq, Repr

/-- Frauri link states (R415). -/
inductive LinkState where
  | off | training | hello | up | testing | failed
  deriving DecidableEq, Repr

/-- TWIN_STATUS.PAIR (R420). -/
inductive PairState where
  | alone | unpaired | mismatch | syncing | ready
  deriving DecidableEq, Repr

/-- TWIN_RESULT.RESULT. -/
inductive TwinResult where
  | none | done | busy | denied | notReady | mode | badParam | conflictLost
  deriving DecidableEq, Repr

/-- The gaffer's PAIR class (R421). -/
structure MirPair where
  mode : Mode := .reset
  latched : Bool := false
  cause : QCause := .powerOn
  permitEn : BitVec 128 := 0
  machq : BitVec 128 := 0
  deriving DecidableEq, Repr

/-- Mirror records, one per class of R421. -/
inductive MirRecord where
  | pair (p : MirPair)
  | grid (g : MirGrid)
  | setpt (machs : List (Nat × SpMach)) (odos : List (Nat × Odo))
  | radio (r : MirRadio)
  | assay (chs : List (Nat × MirAssay))
  | time (t : MirTime)
  | hostq (commits : List (Nat × BitVec 32))
  deriving DecidableEq, Repr

/-- What a unit holds of the mirror (R421): the last state committed of each class. -/
structure Mirror where
  pair  : Option MirPair := none
  grid  : Option MirGrid := none
  setpt : Option (List (Nat × SpMach) × List (Nat × Odo)) := none
  radio : Option MirRadio := none
  assay : List (Nat × MirAssay) := []
  time  : Option MirTime := none
  hostq : List (Nat × BitVec 32) := []
  deriving DecidableEq, Repr

/-- The twin interlock and the Frauri link (13_twin_redundancy.md). -/
structure Twin where
  /-- A TWIN gather is in force. -/
  present : Bool := false
  unit : Bool := false
  mirrorSet : BitVec 6 := 0
  staleMs : Nat := 0
  /-- TWIN_CLAIM_O driven (AON interlock). -/
  claimO : Bool := false
  /-- TWIN_CLAIM_I as accepted, and the model clock of its last accepted change. -/
  claimI : Bool := false
  claimIAt : Nat := 0
  claimOAt : Nat := 0
  gateOpen : Bool := false
  /-- The gated outputs have opened since the claim was last asserted. -/
  everOpen : Bool := false
  /-- CLAIM_I was seen while open: the 4 µs of R411 runs from here. -/
  conflictAt : Option Nat := none
  link : LinkState := .off
  pair : PairState := .alone
  keyFault : Bool := false
  peerGated : Bool := false
  peerLatched : Bool := false
  peerReady : Bool := false
  peerMode : Mode := .reset
  peerSum : BitVec 32 := 0
  /-- The peer's sum over its re-formable gathers, once it is known (R68). -/
  peerReform : Option (BitVec 32) := none
  rxSeq : Nat := 0
  ackSeq : Nat := 0
  /-- SEQ of the last frame accepted, and the peer's ACK_SEQ (R416). Failures in a row on one received frame, and NAKs in a row for one sent frame (R418). -/
  fails : Nat := 0
  txFails : Nat := 0
  result : TwinResult := .none
  /-- Mirror as last committed, and the groups still open by class. -/
  mirror : Mirror := {}
  open_ : List MirRecord := []
  /-- Groups committed while the snapshot is not complete, oldest first (R425). -/
  groups : List MirRecord := []
  snapshot : List MirRecord := []
  snapDone : Bool := false
  lastCommit : Option Nat := none
  stale : Bool := false
  /-- Takeover under way: model clock and served time of step 2 (R428). -/
  takeover : Option (Nat × Nat) := none
  gap : Nat := 0
  gapAt : BitVec 64 := 0
  deriving DecidableEq, Repr

end Sys2Proof.Machine
end

