-- ==== Sys2Proof/Machine/State/Frauri.lean ====
section
/-! DEFINITION. State/Frauri.lean: what the part sends over the Frauri link (13_twin_redundancy.md R416 to R422). -/

namespace Sys2Proof.Machine

open Sys2Proof

/-- KIND of a Frauri frame (R416). -/
inductive FrKind where
  | idle | hello | mirror | commit | time | notice | ack | nak | snapshot
  deriving DecidableEq, Repr

/-- What a frame carries: nothing, a HELLO, the end of a class's group, this unit's served time, or a mirror record (R416, R420, R421). -/
inductive FrBody where
  | empty
  | hello (id sum : BitVec 32) (unit : Bool) (set : BitVec 6)
  | commit (cls : Nat)
  | time (served : Nat)
  | record (r : MirRecord)
  deriving DecidableEq, Repr

/-- A frame sent and not yet acknowledged: its SEQ, the 16-byte header and the payload before encryption (R416, R418). -/
structure FrTx where
  seq : Nat := 0
  head : List (BitVec 8) := []
  payload : List (BitVec 8) := []
  deriving DecidableEq, Repr

/-- The sending side of the Frauri link. -/
structure Frauri where
  /-- SEQ of the last frame sent since the link last entered HELLO (R416). -/
  seq : Nat := 0
  sent : List FrTx := []
  /-- The snapshot has gone to this servitor (R425). -/
  snapSent : Bool := false
  /-- The ASSAY records last sent, by channel. -/
  assaySent : List (Nat × MirAssay) := []
  /-- HOSTQ commit points that wait until the peer has acknowledged a SEQ, and those last sent (R422). -/
  hostDue : Option (Nat × List (Nat × BitVec 32)) := none
  hostSent : List (Nat × BitVec 32) := []
  deriving DecidableEq, Repr

end Sys2Proof.Machine
end

