-- ==== Sys2Proof/Machine/State/Geode.lean ====
section
/-! DEFINITION. State/Geode.lean: the key vault (17_geode_keys.md). -/

namespace Sys2Proof.Machine

open Sys2Proof

/-- Life-cycle states (R507). -/
inductive Life where
  | blank | factory | owned | field | returned | scrapped
  deriving DecidableEq, Repr

/-- GEODE_RESULT.RESULT. -/
inductive GResult where
  | none | done | busy | deniedMaster | deniedWorld | deniedLc | usage | type | empty | occupied
  | attrMismatch | notExportable | unwrapFail | mode | token | noKeyHash | lastKey | fuseExhausted
  | badParam | lifeCycle
  deriving DecidableEq, Repr

/-- A slot that holds a key (R501). -/
structure Slot where
  attr : BitVec 32 := 0
  key : List (BitVec 8) := []
  deriving DecidableEq, Repr

/-- One master's own buffers (R514, R585). -/
structure GBufs where
  master : Master
  keyBuf : List (BitVec 8) := []
  attr : BitVec 32 := 0
  value : BitVec 16 := 0
  labelLen : Nat := 0
  ctxLen : Nat := 0
  wrap : List (BitVec 8) := []
  deriving DecidableEq, Repr

/-- One image key hash entry of the fuses (R511). -/
structure KeyHash where
  hash : List (BitVec 8) := []
  life : BitVec 4 := 0
  revoked : Bool := false
  deriving DecidableEq, Repr

/-- Fuses: they outlast every power loss (R507, R511, R512). -/
structure Fuses where
  /-- As shipped: FACTORY, with the roots and one image key hash that R507 names (assumption log 4). -/
  life : Life := .factory
  uid : BitVec 64 := 0
  rootFactory : List (BitVec 8) := List.replicate 32 0
  rootReturn : List (BitVec 8) := List.replicate 32 0
  rootOwner : List (BitVec 8) := []
  rootField : List (BitVec 8) := []
  hashes : List KeyHash := [{ hash := List.replicate 48 0, life := 0xF }]
  secMin : Nat := 0
  raises : Nat := 0
  deriving DecidableEq, Repr

/-- The key vault (17_geode_keys.md). -/
structure Geode where
  fuses : Fuses := {}
  /-- Slots that hold a key, by number. -/
  slots : List (Nat × Slot) := []
  /-- Policy words, by slot (R514). -/
  policy : List (Nat × BitVec 32) := []
  bufs : List GBufs := []
  result : GResult := .none
  hostOpen : Bool := false
  fails : Nat := 0
  chal : BitVec 128 := 0
  resp : BitVec 128 := 0
  deriving DecidableEq, Repr

end Sys2Proof.Machine
end

