-- ==== Sys2Proof/Machine/State/Gnss.lean ====
section
/-! DEFINITION. State/Gnss.lean: the GNSS baseband (05_gnss_baseband.md). -/

namespace Sys2Proof.Machine

open Sys2Proof

/-- Channel states (R141). -/
inductive ChanState where
  | free | acquire | track | coast | retired
  deriving DecidableEq, Repr

/-- One tracking channel (R141). A channel that the map does not list is FREE. -/
structure Channel where
  state  : ChanState := .free
  sig    : Nat := 0
  svid   : Nat := 0
  /-- C/N0 in 0.01 dB-Hz. -/
  cn0    : Nat := 0
  /-- Model clock at which the carrier lock of the last record began; none while none holds (R159, R160). -/
  lockAt : Option Nat := none
  /-- Carrier continuity broken since the last record (R160). -/
  slip   : Bool := false
  /-- Code lock not regained yet in this burst window (R154). -/
  gap    : Bool := false
  /-- It coasts for the self-test of its correlator block alone (R151). -/
  tested : Bool := false
  /-- Model clock at which COAST began. -/
  coastAt : Nat := 0
  /-- The code discriminator of the last latch, numerator and denominator (R144). -/
  disc   : Int × Int := (0, 0)
  deriving DecidableEq, Repr

/-- LNA bias states (R138). -/
inductive AntState where
  | off | ok | openCct | short
  deriving DecidableEq, Repr

/-- One antenna's bias supply (R138). -/
structure Antenna where
  state : AntState := .off
  ma    : Nat := 0
  /-- Consecutive samples below 3 mA. -/
  low   : Nat := 0
  /-- The bias is on the centre conductor. -/
  biasOn : Bool := false
  /-- Model clock at which the bias was removed for SHORT. -/
  tripAt : Nat := 0
  deriving DecidableEq, Repr

/-- One claimed notch filter (R146). -/
structure Notch where
  freq  : Int := 0
  depth : Nat := 0
  /-- Model clock since which its line stands below the release level (R146). -/
  below : Option Nat := none
  deriving DecidableEq, Repr

/-- One band path of one antenna: jamming indicator (R148). -/
structure BandPath where
  rise : Nat := 0
  jam  : Bool := false
  /-- Front-end gain in 0.5 dB (GNSS_AGC_A, GNSS_AGC_B). -/
  agc  : Nat := 0
  /-- The reference floor, and the 1 s means that it is the median of, newest first, at most 600. -/
  floor : Nat := 0
  means : List Nat := []
  /-- The second under way: when it began, the sum and the number of its noise powers. -/
  secAt : Nat := 0
  sum   : Nat := 0
  num   : Nat := 0
  /-- Model clock of the last spectrum, and since when the rise has been at JAM_ON or more and below JAM_OFF. -/
  specAt : Nat := 0
  above : Option Nat := none
  below : Option Nat := none
  deriving DecidableEq, Repr

/-- Spoof check states (R150). -/
inductive SpoofState where
  | disabled | notReady | pass | suspect | fail
  deriving DecidableEq, Repr

/-- The spoof check (R149, R150). -/
structure Spoof where
  state : SpoofState := .notReady
  /-- Consecutive passing and failing epochs. -/
  passN : Nat := 0
  failN : Nat := 0
  ackHeld : Bool := false
  bias : Nat := 0
  rms  : Nat := 0
  nsv  : Nat := 0
  deriving DecidableEq, Repr

/-- The GNSS gather's settings in force (R139–R152). -/
structure GnssCfg where
  /-- Enabled signals in the gather's order (constellations, then signals). -/
  signals  : List Nat := []
  elevMask : Int := 0
  aOnly    : Bool := false
  rateHz   : Nat := 0
  spacing  : Nat := 0
  doubleDelta : Bool := false
  mpThr    : Nat := 0
  notchEn  : BitVec 6 := 0
  spoofEn  : Bool := false
  deriving DecidableEq, Repr, Inhabited

/-- One channel record of the measurement window (R159). -/
structure GnssRecord where
  chan : Nat := 0
  sig  : Nat := 0
  svid : Nat := 0
  flags : BitVec 32 := 0
  pseudorange : BitVec 64 := 0
  carrier : BitVec 64 := 0
  codePhase : BitVec 32 := 0
  doppler : BitVec 32 := 0
  cn0 : Nat := 0
  mp  : Nat := 0
  spoofRes : Int := 0
  lockTime : Nat := 0
  elev : Int := 0
  gloK : Int := 0
  azim : Nat := 0
  taps : List Nat := []
  deriving DecidableEq, Repr

/-- One epoch in the measurement window (R158). -/
structure GnssEpoch where
  seq : Nat := 0
  hflags : BitVec 16 := 0
  time : Nat := 0
  raw : Nat := 0
  quality : Nat := 0
  spoof : SpoofState := .notReady
  spoofNsv : Nat := 0
  spoofRms : Nat := 0
  rateHz : Nat := 0
  rise : List Nat := []
  notches : Nat := 0
  records : List GnssRecord := []
  deriving DecidableEq, Repr

/-- A satellite as the reference function's geometry gives it: constellation, number, elevation in degrees. -/
structure SkySat where
  con : Nat
  svid : Nat
  elev : Int
  deriving DecidableEq, Repr

/-- The reference function's geometry (R140): whether it rests on the aiding that the MRAM holds (R142), and its satellites. -/
structure SkyView where
  stored : Bool
  sats : List SkySat
  deriving DecidableEq, Repr

/-- The GNSS baseband (05_gnss_baseband.md). -/
structure Gnss where
  cfg : GnssCfg := {}
  /-- Channels not FREE, by number, ascending. -/
  chans : List (Nat × Channel) := []
  antA : Antenna := {}
  antB : Antenna := {}
  /-- Claimed notches, by index 0–47, ascending. -/
  notches : List (Nat × Notch) := []
  /-- Paths A-U, A-M, A-L, B-U, B-M, B-L. -/
  paths : Vector BandPath 6 := Vector.replicate 6 {}
  spoof : Spoof := {}
  /-- Exclusion list (R143): pairs (SIG, SVID), oldest first. -/
  excl : List (Nat × Nat) := []
  exclFull : Bool := false
  /-- Pairs added since the last epoch, with the model clock of their command (R143, R161). -/
  exclNew : List ((Nat × Nat) × Nat) := []
  unserved : Nat := 0
  assigned : Nat := 0
  /-- Correlator blocks under self-test and retired. -/
  testing : BitVec 16 := 0
  retired : BitVec 16 := 0
  /-- Burst tracking (R154), in force, and wanted from the next whole second on. -/
  burst : Bool := false
  burstNext : Bool := false
  /-- The burst window has begun (R154). -/
  window : Bool := false
  /-- Model clock at which it began. -/
  windowAt : Nat := 0
  /-- An allocator run that waits for the epoch of its second to latch (R161). -/
  allocDue : Option (Option SkyView) := none
  /-- Sequence number of the next epoch (R158). -/
  seq : Nat := 0
  /-- The epoch latched, not yet complete in the window (R156). -/
  latched : Option GnssEpoch := none
  /-- Four banks of the measurement window. -/
  banks : Vector (Option GnssEpoch) 4 := Vector.replicate 4 none
  /-- Satellites that contributed to the time solution of the last epoch (R110). -/
  sats : Nat := 0
  lastSeq : Nat := 0
  lastTime : Nat := 0
  /-- Served time stepped, rate changed since the last epoch (R158, R161). -/
  stepped : Bool := false
  rateChanged : Bool := false
  /-- MRAM aiding: served time it was stored at (R142). -/
  aiding : Option Nat := none
  deriving DecidableEq, Repr

end Sys2Proof.Machine
end

