-- ==== Sys2Proof/Machine/State/Hostif.lean ====
section
/-! DEFINITION. State/Hostif.lean: mailboxes, locks and queues (16_host_interface.md). -/

namespace Sys2Proof.Machine

open Sys2Proof

/-- One direction of a mailbox (R478–R480). -/
structure MbDir where
  words : List (BitVec 32) := []
  collision : Bool := false
  empty : Bool := false
  rxReset : Bool := false
  txReset : Bool := false
  bell : BitVec 32 := 0
  mask : BitVec 32 := 0
  deriving DecidableEq, Repr

/-- A mailbox (R478, R481). -/
structure Mailbox where
  h2c : MbDir := {}
  c2h : MbDir := {}
  hostIe : BitVec 4 := 0
  coreIe : BitVec 4 := 0
  deriving DecidableEq, Repr

/-- States of a host-facing queue (HOSTIF_CQn_STATUS, HOSTIF_EQn_STATUS). -/
inductive QState where
  | off | run | halted | pending | retired
  deriving DecidableEq, Repr

/-- A fetched command entry (R490). -/
structure CmdEntry where
  seq    : BitVec 32
  /-- Its 64 bytes. -/
  raw    : Bytes
  /-- The part's count of fetches when it was fetched, which orders entries of different queues (R493). -/
  stamp  : Nat
  /-- It has entered its target's intake. -/
  passed : Bool
  deriving DecidableEq, Repr

/-- A command queue (R489 to R493). BASE stands in the register file. -/
structure CmdQueue where
  en : Bool := false
  owner : Nat := 1
  sizeLog2 : Nat := 4
  tail : BitVec 32 := 0
  fetch : BitVec 32 := 0
  commit : BitVec 32 := 0xFFFFFFFF
  state : QState := .off
  overfill : Bool := false
  flushed : Bool := false
  /-- Disabled, and letting its fetched entries run to commit (R488). -/
  stopping : Bool := false
  /-- Entries fetched and not committed, oldest first. -/
  entries : List CmdEntry := []
  /-- Completions held for room, oldest first: event queue and entry (R500). -/
  heldComp : List (Nat × Bytes) := []
  deriving DecidableEq, Repr

/-- An event queue (R494, R495). BASE, SHADOW and the watermarks stand in the register file. -/
structure EvtQueue where
  en : Bool := false
  solution : Bool := false
  owner : Nat := 1
  coalN : Nat := 1
  coalUs : Nat := 0
  sizeLog2 : Nat := 4
  head : BitVec 32 := 0
  write : BitVec 32 := 0
  state : QState := .off
  above : Bool := false
  badHead : Bool := false
  lost : Bool := false
  /-- Entries between HEAD and WRITE, oldest first. -/
  ring : List Bytes := []
  /-- Entries posted since the last MSI-X message, and the model clock at the first of them. -/
  pend : Nat := 0
  pendSince : Nat := 0
  deriving DecidableEq, Repr

/-- A receive buffer posted by RX_BUF (R497). -/
structure RxBuf where
  len : Nat
  addr : BitVec 64
  tag : BitVec 64
  deriving DecidableEq, Repr

/-- The host interface (16_host_interface.md). -/
structure Hostif where
  /-- PCIe link: up, generation and width (R474); Bus Master Enable of the configuration space (R475). -/
  linkUp : Bool := false
  gen : Nat := 0
  width : Nat := 0
  busMaster : Bool := false
  /-- HOSTIF_STATUS.HOST_RESETS. -/
  hostResets : Nat := 0
  /-- Retired queue SRAM banks (R488). -/
  sramRetired : BitVec 4 := 0
  mbs : Vector Mailbox 9 := Vector.replicate 9 {}
  /-- Holder's rank of each held lock, by lock number (R482). -/
  locks : List (Nat × Nat) := []
  /-- Locks taken by a read whose own command is still to come in the same cycle (R11). -/
  lockWon : List Nat := []
  cqs : Vector CmdQueue 16 := Vector.replicate 16 {}
  eqs : Vector EvtQueue 16 := Vector.replicate 16 {}
  /-- Fetches so far. -/
  stamps : Nat := 0
  /-- Receive pools of the host and of the cores, oldest first (R497). -/
  hostPool : List RxBuf := []
  corePool : List RxBuf := []
  /-- MSI-X messages sent for each event queue (R476, R494). -/
  msix : List (Nat × Nat) := []
  /-- Event queues signalled while their vector was masked, until it is unmasked (the pending bits of the MSI-X of R474). -/
  pba : List Nat := []
  /-- MODE_REQs that the warden has taken and not answered (R104). -/
  wardenTaken : Nat := 0
  deriving DecidableEq, Repr

end Sys2Proof.Machine
end

