-- ==== Sys2Proof/Machine/State/Ioctl.lean ====
section
/-! DEFINITION. State/Ioctl.lean: pins and drivers (20_pins_electrical.md). -/

namespace Sys2Proof.Machine

open Sys2Proof

/-- One field driver: QUENCH_OUT_A, _B, _C or PERMIT_OUT (R564). The energised state is the stop path's. -/
structure Driver where
  trip : Bool := false
  openLoad : Bool := false
  /-- Held off by a trip, until STOP and then RUN; and STOP has been presented since. -/
  held : Bool := false
  sawStop : Bool := false
  deriving DecidableEq, Repr

/-- One UART (20_pins_electrical.md). -/
structure Uart where
  /-- Bytes queued, each with the model clock at which it has left. -/
  tx : List (BitVec 8 × Nat) := []
  rx : List (BitVec 8) := []
  rxOvf : Bool := false
  frameErr : Bool := false
  parityErr : Bool := false
  txOvf : Bool := false
  deriving DecidableEq, Repr

/-- What the SMBus target last answered (IOCTL_I2C_CFG). -/
inductive SmbAnswer where
  | none | nack | block (bytes : List (BitVec 8)) (pec : Option (BitVec 8))
  deriving DecidableEq, Repr

/-- Output pins of the part, those with a level of their own (R560). -/
inductive OutPin where
  | femPa (c : Fin 3) | femLna (c : Fin 3) | femBypass (c : Fin 3)
  | ref10Out | ppsOut
  | quenchOut (k : Fin 3) | permitOut | claimO
  | pauseOut (n : Fin 8) | gpio (i : Fin 24) | smbalert | tdo
  deriving DecidableEq, Repr

/-- What a ball shows: driven low or high, driven by a clock, or not driven, with the level of its pull if it has one. -/
inductive PinLevel where
  | low | high | clock | floatLow | floatHigh | floating
  deriving DecidableEq, Repr

/-- The instructions of the JTAG port (R573). -/
inductive TapInstr where
  | bypass | sample | extest | idcode | clamp | highz
  deriving DecidableEq, Repr

/-- The JTAG test logic (R573): the instruction in force, IDCODE after its reset (PRESUMED from IEEE 1149.1, assumption log 36), and
the levels that its boundary cells hold for the pins. -/
structure Tap where
  instr : TapInstr := .idcode
  cells : List (OutPin × PinLevel) := []
  deriving DecidableEq, Repr

/-- Pins (20_pins_electrical.md). -/
structure Ioctl where
  /-- Levels at the GPIO balls that outside drives. -/
  gpioIn : BitVec 24 := 0
  drivers : Vector Driver 4 := Vector.replicate 4 {}
  uarts : Vector Uart 2 := Vector.replicate 2 {}
  smb : SmbAnswer := .none
  tap : Tap := {}
  deriving DecidableEq, Repr

end Sys2Proof.Machine
end

