-- ==== Sys2Proof/Machine/State/Parison.lean ====
section
/-! DEFINITION. State/Parison.lean: the parison loader and the image store (02_parison_image.md). -/

namespace Sys2Proof.Machine

open Sys2Proof

/-- PARISON_STATUS.STATE (02_parison_image.md). -/
inductive LoaderState where
  | idle | reading | checking | applying | waitHost | done | failed
  deriving DecidableEq, Repr

/-- PARISON_STATUS.ERR (02_parison_image.md). -/
inductive LoadErr where
  | none | sourceEmpty | headerCrc | version | target | length | keyUnknown | signature | rollback
  | gatherCrc | gatherOrder | gatherFlag | missing | semantic | mode | fixedDiffers | busy
  | readFault | lifeCycle | resource
  deriving DecidableEq, Repr

/-- One gather as read: its header fields and its payload (R38). -/
structure Gather where
  type    : Nat := 0
  flags   : Nat := 0
  payCrc  : BitVec 32 := 0
  /-- The 16 header bytes, kept for PARISON_FIXED_SUM. -/
  header  : List (BitVec 8) := []
  payload : List (BitVec 8) := []
  deriving DecidableEq, Repr

/-- The image header's fields (R36). -/
structure ImageHeader where
  imgLen      : Nat := 0
  gatherCount : Nat := 0
  reformOnly  : Bool := false
  secVersion  : Nat := 0
  buildId     : BitVec 64 := 0
  serial      : BitVec 32 := 0
  deriving DecidableEq, Repr

/-- What started a load. -/
inductive LoadKind where
  | boot | wake | host
  deriving DecidableEq, Repr

/-- Where a load reads from. -/
inductive LoadSrc where
  | qspi (addr : Nat) | host (addr : Nat) | slot (n : Fin 4)
  deriving DecidableEq, Repr

/-- A load in progress (R47–R65). -/
structure Load where
  kind      : LoadKind
  action    : BitVec 2 := 0
  src       : LoadSrc
  slot      : Fin 4 := 0
  /-- The bytes the source offers. -/
  limit     : Nat := 0
  header    : Option ImageHeader := none
  /-- The header's 64 bytes, for the signature and the store copy. -/
  rawHeader : List (BitVec 8) := []
  gathers   : List Gather := []
  /-- The next gather's offset in the image. -/
  offset    : Nat := 0
  sigBytes  : List (BitVec 8) := []
  sigDone   : Bool := false
  /-- Read errors of the transfer in progress (R49). -/
  fails     : Nat := 0
  /-- A gather whose header has been read and whose payload has not: its TYPE, PAY_CRC, header bytes, and PAY_LEN. -/
  head      : Option (Gather × Nat) := none
  /-- A critical resource failed while this load applied its image (R449). -/
  resource  : Bool := false
  /-- Its place in the boot order of R52, if it is an attempt of it: 0 ACTIVE, 1 FALLBACK, 2 QSPI primary, 3 QSPI
  secondary, 4 host. -/
  position  : Option Nat := none
  /-- Checks 10 to 12 have passed; and the store write of ACTION 0b10 or 0b11 is under way (R51). -/
  checked   : Bool := false
  storing   : Bool := false
  /-- Set at check 12: a re-forming (R64). -/
  reform    : Bool := false
  deriving DecidableEq, Repr

/-- One slot of the image store (R50): the image written there. -/
structure StoreSlot where
  valid : Bool := false
  image : List (BitVec 8) := []
  deriving DecidableEq, Repr

/-- The parison loader and the image store (02_parison_image.md). -/
structure Parison where
  loader    : LoaderState := .idle
  err       : LoadErr := .none
  failType  : Nat := 0
  failWord  : Nat := 0
  lastSrc   : BitVec 2 := 0
  attempts  : Nat := 0
  load      : Option Load := none
  /-- Places of the boot order still to try (R52, R95), numbered as `Load.position`. -/
  bootLeft  : List Nat := []
  inStore   : Bool := false
  reformed  : Bool := false
  build     : BitVec 64 := 0
  serial    : BitVec 32 := 0
  fixedSum  : BitVec 32 := 0
  inForce   : Nat := 0
  /-- The image in force: its gathers, fixed and re-formable. -/
  image     : List Gather := []
  /-- Every byte of the last image formed, kept to know whether a stored image is it (R72). -/
  imageId   : List (BitVec 8) := []
  /-- Re-formed gathers whose effect is still to come (R65); GRID waits for the next allotment after the loader is done. -/
  waiting   : List Gather := []
  slots     : Vector StoreSlot 4 := Vector.replicate 4 {}
  active    : Fin 4 := 0
  fallback  : Fin 4 := 0
  deriving DecidableEq, Repr

end Sys2Proof.Machine
end

