-- ==== Sys2Proof/Machine/State/Strata.lean ====
section
/-! DEFINITION. State/Strata.lean: the event recorder (19_strata_recorder.md). -/

namespace Sys2Proof.Machine

open Sys2Proof

/-- STRATA_RESULT.RESULT (19_strata_recorder.md). -/
inductive StResult where
  | none | done | busy | denied | badParam
  deriving DecidableEq, Repr

/-- A record but for its SEQ and CRC (R539); SEVERITY carries AON_TIME in bit 7. -/
structure StEvent where
  code   : BitVec 16 := 0
  source : BitVec 8 := 0
  sev    : BitVec 8 := 0
  time   : BitVec 64 := 0
  p0 : BitVec 32 := 0
  p1 : BitVec 32 := 0
  p2 : BitVec 32 := 0
  deriving DecidableEq, Repr

/-- A stored record (R539); its CRC is computed from the rest where it is read. -/
structure StRecord where
  ev  : StEvent := {}
  seq : BitVec 32 := 0
  deriving DecidableEq, Repr

/-- A summary selector of the STRATA gather (R543). -/
structure StSel where
  code   : BitVec 16 := 0
  pflags : BitVec 8 := 0
  shift  : Nat := 0
  base   : BitVec 32 := 0
  deriving DecidableEq, Repr

/-- One summary (R547). -/
structure StSum where
  count : BitVec 32 := 0
  min   : BitVec 32 := 0
  max   : BitVec 32 := 0
  bins  : List (BitVec 32) := []
  deriving DecidableEq, Repr

/-- The Strata event recorder (19_strata_recorder.md). -/
structure Strata where
  next : BitVec 32 := 0
  driftFirst : BitVec 32 := 0
  bedrockFirst : BitVec 32 := 0
  /-- Sizes laid out in the MRAM: BEDROCK_N and DRIFT_LOG2; none before the first forming (R545). -/
  sizes : Option (Nat × Nat) := none
  sumCount : Nat := 0
  sels : List StSel := []
  sums : List StSum := []
  /-- The writer's queue, oldest first, at most 256 (R542). -/
  queue : List StEvent := []
  /-- Events without record since the last LOST record. -/
  lostDue : Nat := 0
  /-- Drift and bedrock, by index, ascending (R544). -/
  drift : List (Nat × StRecord) := []
  bedrock : List (Nat × StRecord) := []
  /-- The writer uses cairn; the MRAM failure at index 0, the records from index 1 on, the next of these to be overwritten, and those
  overwritten (R548). -/
  inCairn : Bool := false
  cairnFirst : Option StRecord := none
  cairn : List StRecord := []
  cairnNext : Nat := 0
  cairnOver : Nat := 0
  result : StResult := .none
  /-- The summary window, 160 bytes (R547). -/
  window : List (BitVec 8) := []
  deriving DecidableEq, Repr

end Sys2Proof.Machine
end

