-- ==== Sys2Proof/Machine/State/Switch.lean ====
section
/-! DEFINITION. State/Switch.lean: the packet switch (12_packet_switch.md). -/

namespace Sys2Proof.Machine

open Sys2Proof

/-- One port's PORTS record (R378). -/
structure PortCfg where
  en : Bool := false
  tsEn : Bool := false
  mode : Nat := 0
  mac : BitVec 48 := 0
  maxLen : Nat := 0
  floodMask : BitVec 16 := 0
  defVid : BitVec 12 := 0
  defPcp : Nat := 0
  /-- Queue for each PCP, 8 of them. -/
  pcpMap : List Nat := []
  deriving DecidableEq, Repr

/-- One queue's QUEUES record (R390). -/
structure QueueCfg where
  cls : Option Nat := none
  weight : Nat := 0
  pause : Option Nat := none
  high : Nat := 0
  low : Nat := 0
  deriving DecidableEq, Repr

/-- A parser node and transition (R381, R382). -/
structure ParseNode where
  endNode : Bool := false
  len : Nat := 0
  lenOfs : Nat := 0
  lenMask : BitVec 8 := 0
  lenScale : Nat := 0
  selOfs : Nat := 0
  selBytes : Nat := 0
  default_ : Nat := 0
  actions : BitVec 32 := 0
  deriving DecidableEq, Repr

structure ParseTrans where
  from_ : Nat := 0
  next : Nat := 0
  value : BitVec 16 := 0
  mask : BitVec 16 := 0
  deriving DecidableEq, Repr

/-- A parser graph (R381). -/
structure ParseGraph where
  start : Nat := 0
  nodes : List ParseNode := []
  trans : List ParseTrans := []
  deriving DecidableEq, Repr

/-- Consumer mark of a copy at port 15 (R384, R389). -/
inductive Mark where
  | none | rtk | setpt
  deriving DecidableEq, Repr

/-- A frame held in an egress queue (R387, R391–R398). -/
structure QFrame where
  bytes : List (BitVec 8) := []
  inPort : Nat := 0
  mark : Mark := .none
  quench : Bool := false
  /-- Receive metadata. -/
  tsValid : Bool := false
  rxTime : BitVec 64 := 0
  flooded : Bool := false
  routed : Bool := false
  pipe : Bool := false
  vid : BitVec 12 := 0
  pcp : Nat := 0
  tagged : Bool := false
  /-- Deadline d in served ns, and slack in ps (R393, R394). -/
  deadline : Nat := 0
  slack : Nat := 0
  launch : Option (BitVec 64) := none
  tsReq : Bool := false
  oneStep : Bool := false
  ptp : Bool := false
  /-- It was cut off and waits to be sent again (R391). -/
  again : Bool := false
  /-- Its egress timestamp, taken as its transmission begins (R122). -/
  sent : BitVec 64 := 0
  deriving DecidableEq, Repr

/-- One egress queue's live state. -/
structure SwQueue where
  frames : List QFrame := []
  /-- Deficit counter of the round robin, in bytes (R391). -/
  deficit : Nat := 0
  above : Bool := false
  lastCause : Nat := 0
  deriving DecidableEq, Repr

/-- Link of a port. -/
structure SwPort where
  en : Bool := false
  up : Bool := false
  /-- Link speed in Mbit/s. -/
  speed : Nat := 0
  anDone : Bool := false
  stopping : Bool := false
  pendingEn : Bool := false
  /-- The load of R86 was shed while a frame was on the wire, which has not ended yet (R69, R87). -/
  shedWait : Bool := false
  /-- Queue index of the frame on the wire, with the frame. -/
  onWire : Option (Nat × QFrame) := none
  /-- Model clock at which that frame has left the wire. -/
  wireEnd : Nat := 0
  /-- Next queue of the round robin in each class. -/
  turn : List (Nat × Nat) := []
  deriving DecidableEq, Repr

/-- The packet switch (12_packet_switch.md). -/
structure Switch where
  ports : List PortCfg := []
  live : List SwPort := []
  /-- 512 records, k = 32 × port + queue. -/
  qcfg : List QueueCfg := []
  /-- Bounds of DL0–DL7 in µs. -/
  bounds : List Nat := []
  /-- Queues that hold something or have a history, by k. -/
  queues : List (Nat × SwQueue) := []
  graph0 : ParseGraph := {}
  graph1 : ParseGraph := {}
  /-- Frames whose lookups are held during a bank's self-test, oldest first: port, bytes and receive timestamp (R235). -/
  heldIn : List (Nat × Bytes × Option Nat) := []
  /-- Packet-buffer blocks in all. -/
  blocks : Nat := 0
  deriving DecidableEq, Repr

end Sys2Proof.Machine
end

