-- ==== Sys2Proof/Events.lean ====
section
/-! DEFINITION. Events.lean: the data that events from outside the modelled logic bring: what the analog front ends and
the RTK arithmetic measure, and the frames that arrive (assumption log 1). -/

namespace Sys2Proof

/-- One channel's latch at a measurement epoch (05_gnss_baseband.md R145, R149, R159). los is the unit vector to its satellite from the
reference function's geometry, east, north and up in 2^−30, dist is the distance to it in mm, and mags are the nine full-precision tap magnitudes. -/
structure ChanMeas where
  chan : Nat
  carrierLock : Bool
  halfCycle : Bool
  slip : Bool
  tow : Bool
  pilot : Bool
  pseudorange : BitVec 64
  carrier : BitVec 64
  codePhase : BitVec 32
  doppler : BitVec 32
  cn0 : Nat
  elev : Int
  gloK : Int
  azim : Nat
  mags : List Nat
  los : Int × Int × Int
  dist : Nat
  deriving DecidableEq, Repr

/-- A measurement epoch: the channels that latched, ascending; the satellites that contribute to the time
solution, GNSS time at the epoch in ns, TAI − UTC if it was decoded, the base's single-point position of the epoch if it has one, and
its clock drift estimate in 10^−12. -/
structure EpochMeas where
  chans : List ChanMeas
  sats : Nat
  gnssTime : Nat
  utc : Option (BitVec 16)
  spp : Option Machine.Ecef
  drift : Int
  deriving DecidableEq, Repr

/-- A line of a path's spectrum (R146): frequency in kHz from the path centre, height above the noise floor in 0.5 dB, and its
power on the linear scale of the noise power. -/
structure SpecLine where
  freq : Int
  height : Nat
  power : Nat
  deriving DecidableEq, Repr

/-- A Caszal frame as a chain receives it: where, which segment k of R320 it stands in, the offsets of its first preamble
symbol and of the end of its SFD from the slot boundary in µs, and its PSDU. -/
structure RxFrame where
  chain : Fin 3
  seg : Fin 5
  startUs : Nat
  sfdUs : Nat
  psdu : Bytes
  deriving DecidableEq, Repr

/-- The header of a received Frauri frame that passed its checks (13_twin_redundancy.md R416). -/
structure FrHead where
  claim : Bool
  gated : Bool
  latched : Bool
  unit : Bool
  ready : Bool
  seq : Nat
  ack : BitVec 32
  deriving DecidableEq, Repr

end Sys2Proof
end

