-- ==== Sys2Proof/Syntax.lean ====
section
/-! DEFINITION. Syntax.lean: the commands the part takes, one constructor per row of spec/opcode_table.json, with the
event data each brings. The table gives no row an operand field: the operands are the data that the row's rule says the
command or event carries (assumption log 1). -/

namespace Sys2Proof

/-- A command: a register access, an operation of the part, or an event at a pin or inside it. -/
inductive Instr where
  /-- REGISTER_WRITE (00_scope.md R7): A write to a register that has no behaviour of its own sets its RW, RWL,
  W1S or W1C fields under the access codes and the lock rules. off is an offset of the register space; against
  names the W1C bits that hardware sets in the same cycle. -/
  | registerWrite (who : Access) (off : BitVec 26) (width : Width) (v : Word) (against : Word)
  /-- RC_COUNTER_READ (00_scope.md R7): A read of an RC counter returns its value and clears it. against counts
  the events of the same cycle. -/
  | rcCounterRead (who : Access) (off : BitVec 26) (width : Width) (against : Nat)
  /-- LOWER_WORD_READ (00_scope.md R10): A read of the lower register of a wide quantity captures the upper bits
  into the reading master's shadow. -/
  | lowerWordRead (who : Access) (off : BitVec 26) (width : Width)
  /-- AON_POWER_UP (03_modes_power_reset.md R98): A supply enters range with the AON island unpowered; the AON
  island starts, the quench latch sets with POWER_ON and the power-on sequence runs. vmain and vres are
  VIN_MAIN and VIN_RES in mV, here and below. -/
  | aonPowerUp (vmain : Nat) (vres : Nat)
  /-- AON_POWER_LOSS (03_modes_power_reset.md R83): Neither input lies in range, so the AON island loses power and
  all volatile state is lost. -/
  | aonPowerLoss (vmain : Nat) (vres : Nat)
  /-- WARDEN_START (03_modes_power_reset.md R98): The warden starts its ROM firmware after the AON power-on reset. -/
  | wardenStart
  /-- MAIN_RAILS_UP (03_modes_power_reset.md R98): The main-die rails come up in sequence once VIO18 and VIO33 are
  valid. -/
  | mainRailsUp
  /-- PLL_LOCKED (03_modes_power_reset.md R98): Every PLL locks to REF10_IN, or the main die stays in reset with
  REF_MISSING set. ref tells whether REF10_IN is present. -/
  | pllLocked (ref : Bool)
  /-- MAIN_DIE_RESET_RELEASE (03_modes_power_reset.md R98): The main die leaves reset, the raw count starts at 0
  and the loader begins the boot order of R52. mramOk is the result of the MRAM's test at the reset. -/
  | mainDieResetRelease (mramOk : Bool)
  /-- REF10_RETURN (03_modes_power_reset.md R99): REF10_IN has been present for 10 ms after being missing, so the
  power-on sequence resumes from PLL lock. -/
  | ref10Return
  /-- REF10_LOST (01_architecture.md R27): Loss of REF10_IN is detected and treated as a FATAL main-die error. -/
  | ref10Lost
  /-- AON_CLOCK_CHANGEOVER (03_modes_power_reset.md R99): The AON counter changes over from the ring oscillator to
  the stable 32.768 kHz crystal without skipping a count. -/
  | aonClockChangeover
  /-- VIN_MAIN_LOST (03_modes_power_reset.md R81): VIN_MAIN leaves 10.5 V to 13.8 V; the part switches to VIN_RES
  within 5 µs and the mode moves to ANNEAL or RESERVE. -/
  | vinMainLost (vmain : Nat) (vres : Nat)
  /-- VIN_MAIN_RETURN (03_modes_power_reset.md R81): VIN_MAIN has stayed between 10.8 V and 13.2 V for 1 s; the
  part switches back and the mode moves from RESERVE. -/
  | vinMainReturn (vmain : Nat)
  /-- VIN_RES_FALL_SWITCH (03_modes_power_reset.md R83): VIN_RES falls below 9.0 V while VIN_MAIN is in range but
  not yet qualified, so the part switches to VIN_MAIN at once. -/
  | vinResFallSwitch (vmain : Nat) (vres : Nat)
  /-- POWER_SENSE_SAMPLE (03_modes_power_reset.md R84): Every 1 ms the warden samples BATT_SENSE and SOLAR_SENSE
  and updates SYS_PWR_SENSE. batt and solar are the ball voltages in µV. -/
  | powerSenseSample (batt : Nat) (solar : Nat)
  /-- BATT_RES_LOW (03_modes_power_reset.md R84): After 10 consecutive samples below RES_LOW the warden sets
  BATT_LOW and, in RESERVE, requests DORMANT. -/
  | battResLow
  /-- BATT_RES_CRIT (03_modes_power_reset.md R84): After 10 consecutive samples below RES_CRIT on VIN_RES the
  warden stops every channel and enters DORMANT or holds the main die unpowered. -/
  | battResCrit
  /-- BATT_LOW_CLEAR (03_modes_power_reset.md R84): After 10 samples above RES_LOW + 200 mV, BATT_LOW clears. -/
  | battLowClear
  /-- RES_CRIT_CLEAR (03_modes_power_reset.md R84): After 10 samples above RES_CRIT + 200 mV, or on VIN_MAIN
  return, the warden's RES_CRIT stop condition clears. -/
  | resCritClear
  /-- BATTERY_ANNEAL_LIMIT (03_modes_power_reset.md R85): ANNEAL_RES_MAX seconds of a battery anneal pass without
  ANNEAL_DONE, so the warden makes a stop decision. -/
  | batteryAnnealLimit
  /-- THERMAL_SAMPLE (03_modes_power_reset.md R89): Every 1 ms the warden reads the junction temperature and acts
  at 105 °C, 110 °C and below 100 °C. tj is the junction temperature in units of 0.125 °C, two's complement. -/
  | thermalSample (tj : BitVec 16)
  /-- MAIN_BROWNOUT (03_modes_power_reset.md R96): An internal main-die rail or VIO18 or VIO33 leaves range,
  resetting the main die. -/
  | mainBrownout
  /-- PERST (03_modes_power_reset.md R96): PCIe fundamental reset resets the main die when PERST_RESET is 1, and
  otherwise acts as a host reset. -/
  | perst
  /-- WATCHDOG (03_modes_power_reset.md R96): The warden's supervision of the main-die heartbeats times out after
  100 ms and resets the main die. -/
  | watchdog
  /-- RESET_CTRL_MAIN (03_modes_power_reset.md R96): A write of MAIN with KEY 0x9610 to SYS_RESET_CTRL resets the
  main die with cause HOST. w is the word written. -/
  | resetCtrlMain (w : Word)
  /-- REQ_SURVEY (03_modes_power_reset.md R78): A mode request with TARGET SURVEY moves ANNEAL, MAINTENANCE or
  QUENCHED-by-release paths to SURVEY or is refused. -/
  | reqSurvey (who : Master)
  /-- REQ_FIELD (03_modes_power_reset.md R77): A mode request with TARGET FIELD enters FIELD from SURVEY when
  POS_FIXED, TIME_VALID and the claim hold, or is refused with NOT_READY. -/
  | reqField (who : Master)
  /-- REQ_ANNEAL (03_modes_power_reset.md R78): A mode request with TARGET ANNEAL starts a fleet anneal from FIELD
  or HOLDOVER. -/
  | reqAnneal (who : Master)
  /-- REQ_DORMANT (03_modes_power_reset.md R90): A mode request with TARGET DORMANT is tested against the entry
  conditions and accepted or refused. -/
  | reqDormant (who : Master)
  /-- REQ_MAINTENANCE (03_modes_power_reset.md R78): A mode request with TARGET MAINTENANCE moves SURVEY, QUENCHED
  or SERVITOR to MAINTENANCE. -/
  | reqMaintenance (who : Master)
  /-- DORMANT_ENTRY_DONE (03_modes_power_reset.md R91): DORMANT entry completes; main-die state is discarded, the
  AON counter is aligned and an overdue alarm fires. -/
  | dormantEntryDone
  /-- AON_SECOND (03_modes_power_reset.md R93): The AON counter advances one second and the alarm is compared with
  SYS_WAKE_ALARM. -/
  | aonSecond
  /-- WAKE_MAIN (03_modes_power_reset.md R92): VIN_MAIN has been back in range for 1 s after a rise since DORMANT
  entry, waking the part. -/
  | wakeMain
  /-- WAKE_SOLAR (03_modes_power_reset.md R92): SOLAR_SENSE has stayed above SOLAR_WAKE_MV for 1 s after a rise,
  waking the part. -/
  | wakeSolar
  /-- WAKE_GPIO (03_modes_power_reset.md R92): A rising edge on an enabled GPIO[3:0] wakes the part. -/
  | wakeGpio (pin : Fin 4)
  /-- WAKE_HOLD_CLEAR (03_modes_power_reset.md R94): 40.0 ms after the wake event WAKE_HOLD clears and radio
  chains, switch ports and PPS_OUT are enabled. -/
  | wakeHoldClear
  /-- CORRECTION_AGE_LIMIT (03_modes_power_reset.md R100): At the profile tick at which the correction age passes
  its limit with TIME_VALID clear, the part anneals or the warden quenches. -/
  | correctionAgeLimit
  /-- IDENT (03_modes_power_reset.md R103): A warden mailbox request IDENT is answered with the warden ROM
  version. -/
  | ident
  /-- READ_SYS (03_modes_power_reset.md R103): A warden mailbox request READ_SYS is answered with the SYS register
  at word index c. -/
  | readSys
  /-- MODE_REQ (03_modes_power_reset.md R103): A warden mailbox request MODE_REQ acts as a host mode request and
  answers with SYS_MODE_RESULT when it ends. -/
  | modeReq
  /-- STOP_STATE (03_modes_power_reset.md R103): A warden mailbox request STOP_STATE is answered with the warden's
  stop conditions. -/
  | stopState
  /-- FORM (02_parison_image.md R64): START with ACTION 0b00 forms or re-forms from the selected source as the
  image and the mode decide. SRC and SLOT of PARISON_CTRL -/
  | form (src : Fin 4) (slot : Fin 4)
  /-- CHECK_ONLY (02_parison_image.md R47): START with ACTION 0b01 checks an image without applying it. SRC and
  SLOT of PARISON_CTRL -/
  | checkOnly (src : Fin 4) (slot : Fin 4)
  /-- CHECK_AND_STORE (02_parison_image.md R51): START with ACTION 0b10 checks an image and stores it in slot
  SLOT. SRC and SLOT of PARISON_CTRL -/
  | checkAndStore (src : Fin 4) (slot : Fin 4)
  /-- FORM_AND_STORE (02_parison_image.md R51): START with ACTION 0b11 forms or re-forms and then stores the image
  in slot SLOT. SRC and SLOT of PARISON_CTRL -/
  | formAndStore (src : Fin 4) (slot : Fin 4)
  /-- HEADER_READ (02_parison_image.md R591): The 64-byte image header has been read and checks 1 to 5 are
  reported. the 64 bytes read; a store slot's own bytes stand in its place -/
  | headerRead (bytes : Bytes)
  /-- GATHER_READ (02_parison_image.md R591): A gather header or its payload with PAY_CRC has been read and check
  6 is applied to it. the 16-byte gather header, or then the payload -/
  | gatherRead (bytes : Bytes)
  /-- SOURCE_READ_ERROR (02_parison_image.md R49): A read error from the image source is re-sent up to twice and
  then refused with READ_FAULT. -/
  | sourceReadError
  /-- SIGNATURE_CHECK_DONE (02_parison_image.md R56): The signature check ends and checks 7 to 9 are reported. the
  200-byte signature block -/
  | signatureCheckDone (sig : Bytes)
  /-- SEMANTIC_CHECK_DONE (02_parison_image.md R56): The range and consistency check ends, checks 10 to 12 are
  reported, and application starts if all passed. -/
  | semanticCheckDone
  /-- APPLICATION_DONE (02_parison_image.md R56): Application ends and SYS_MODE leaves FORMING for the mode that
  R590 gives. -/
  | applicationDone
  /-- STORE_WRITE_DONE (02_parison_image.md R51): The store write of a checked image ends, marking the slot VALID
  or reporting READ_FAULT. false of an MRAM write that fails -/
  | storeWriteDone (ok : Bool)
  /-- MAKE_ACTIVE (02_parison_image.md R51): PARISON_STORE_CTRL OP 0b00 makes a valid slot ACTIVE. -/
  | makeActive (slot : Fin 4)
  /-- MAKE_FALLBACK (02_parison_image.md R51): PARISON_STORE_CTRL OP 0b01 makes a valid slot FALLBACK. -/
  | makeFallback (slot : Fin 4)
  /-- INVALIDATE_SLOT (02_parison_image.md R51): PARISON_STORE_CTRL OP 0b10 invalidates a slot other than ACTIVE. -/
  | invalidateSlot (slot : Fin 4)
  /-- GATHER_TAKES_EFFECT (02_parison_image.md R65): A re-formed gather takes effect at the point that the gather
  type table gives. TYPE of the gather -/
  | gatherTakesEffect (type : BitVec 16)
  /-- SHUTDOWN_COMPLETE (02_parison_image.md R69): A function's shutdown completes at its own boundary and any
  PENDING enable takes effect. -/
  | shutdownComplete
  /-- PROFILE_TICK (09_setpoint_engine.md R290): Served time passes a multiple of 1 ms; the set-point engine
  latches inputs, plans every machine, writes codes and mirrors state. -/
  | profileTick
  /-- DISPATCHER_TICK (01_architecture.md R25): Served time passes a multiple of 10 µs, driving delay wakes and
  group changes. -/
  | dispatcherTick
  /-- SEL_WRITE (04_timebase.md R112): A host write of TIME_CTRL.SEL selects a valid domain, loading the residual,
  or is refused with SEL_REFUSED. sel is the SEL bit written: true names ALTERNATE. -/
  | selWrite (sel : Bool)
  /-- STEP (04_timebase.md R118): A write to TIME_STEP_HI adds the signed step to the selected domain's offset in
  permitted modes, or is refused with MODE. hi is the word written to TIME_STEP_HI. -/
  | step (hi : Word)
  /-- RATE_WRITE (04_timebase.md R116): A write of TIME_DOM_x_RATE sets F_d or is refused with RATE_JUMP. -/
  | rateWrite (alt : Bool) (rate : Word)
  /-- CORR_WRITE (04_timebase.md R114): A write of TIME_DOM_x_CORR adds a signed correction to the pending
  correction. -/
  | corrWrite (alt : Bool) (corr : Word)
  /-- SOURCE_VALID (04_timebase.md R133): A domain's source becomes valid; the error E is slewed or stepped and
  HOLDOVER may end. e is the error in ns that the source measures. -/
  | sourceValid (alt : Bool) (e : Int)
  /-- SOURCE_LOST (04_timebase.md R112): A domain's source becomes invalid; selection switches or the domain
  enters holdover and TIME_VALID may clear. both tells that the source of the other domain is lost in the same
  cycle. -/
  | sourceLost (alt : Bool) (both : Bool)
  /-- SOFT_TIMEOUT (04_timebase.md R110): No RATE or CORR write arrives within SOFT_TIMEOUT, so a SOFT source
  becomes invalid. -/
  | softTimeout (alt : Bool)
  /-- TWIN_EXCHANGE_TIMEOUT (04_timebase.md R110): No two-way exchange succeeds within 10 ms, so a TWIN source
  becomes invalid. -/
  | twinExchangeTimeout (alt : Bool)
  /-- COMPARE_ARM (04_timebase.md R121): A write that sets ARM in TIME_CMPn_HI arms a compare, which fires at once
  if the target is past. hi is the word written to TIME_CMPn_HI. -/
  | compareArm (n : Fin 4) (hi : Word)
  /-- COMPARE_FIRE (04_timebase.md R121): A general compare's target becomes past; it sets FIRED, raises its
  interrupt and pulses any routed GPIO. -/
  | compareFire (n : Fin 4)
  /-- PPS_OUT_EDGE (04_timebase.md R126): Served time reaches a whole second less TIME_PPS_ADV and PPS_OUT rises. -/
  | ppsOutEdge
  /-- PPS_OUT_FALL (04_timebase.md R126): PPS_OUT falls after WIDTH_US, or at a step. -/
  | ppsOutFall
  /-- CAPTURE_EDGE (04_timebase.md R129): A selected edge on EVCAP or PPS_IN is timestamped into its FIFO or lost
  on overflow. -/
  | captureEdge (inp : Fin 5) (rising : Bool)
  /-- CAPTURE_READ (04_timebase.md R129): A read of TIME_CAP_LO removes the oldest entry of the selected input and
  holds _HI and _META. -/
  | captureRead
  /-- TXTS_READ (04_timebase.md R125): A read of TIME_TXTS_LO removes the oldest transmit timestamp and holds _HI
  and _META. -/
  | txtsRead
  /-- MEASUREMENT_EPOCH (05_gnss_baseband.md R152): Served time passes a multiple of the epoch period and every
  channel in TRACK latches its measurement. -/
  | measurementEpoch (meas : EpochMeas)
  /-- EPOCH_WINDOW_WRITTEN (05_gnss_baseband.md R156): Every record of an epoch is in its bank and the EPOCH
  interrupt is raised. -/
  | epochWindowWritten
  /-- GNSS_ALLOCATE (05_gnss_baseband.md R140): At each whole served second the allocator assigns channels to
  signals. sky is the reference function's geometry, if it has one. -/
  | gnssAllocate (sky : Option Machine.SkyView)
  /-- BURST_WINDOW (05_gnss_baseband.md R154): The last 40 ms of a served second begins in burst tracking,
  powering the RF die and correlators. -/
  | burstWindow
  /-- ANT_BIAS_SAMPLE (05_gnss_baseband.md R138): Every 1 ms the bias current of each enabled antenna is measured
  and its state updated. antB is true of ANT_B. -/
  | antBiasSample (antB : Bool) (ma : Nat)
  /-- ANT_BIAS_RETRY (05_gnss_baseband.md R138): 1 s after a SHORT removal the bias is re-applied. -/
  | antBiasRetry (antB : Bool)
  /-- NOTCH_SPECTRUM (05_gnss_baseband.md R146): Every 1 ms each band path takes a spectrum and strong lines claim
  free notches. noise is the path's in-band noise power without its lines, and gain is that of its front end. -/
  | notchSpectrum (path : Fin 6) (lines : List SpecLine) (noise : Nat) (gain : Byte)
  /-- NOTCH_RELEASE (05_gnss_baseband.md R146): A notch is released after its line has stayed below NOTCH_THR − 3
  dB for 100 ms. -/
  | notchRelease (notch : Fin 48)
  /-- JAM_SET (05_gnss_baseband.md R148): The rise of a path has reached JAM_ON for 1 s, so JAM sets. -/
  | jamSet (path : Fin 6)
  /-- JAM_CLEAR (05_gnss_baseband.md R148): The rise of a path has stayed below JAM_OFF for 10 s, so JAM clears. -/
  | jamClear (path : Fin 6)
  /-- LOCK_LOST (05_gnss_baseband.md R141): A tracking channel loses code lock and enters COAST. -/
  | lockLost (chan : Fin 512)
  /-- CODE_LOCK_REGAINED (05_gnss_baseband.md R141): A channel in COAST regains code lock and returns to TRACK
  with CYCLE_SLIP. -/
  | codeLockRegained (chan : Fin 512)
  /-- COAST_TIMEOUT (05_gnss_baseband.md R141): After 2 s in COAST a channel returns to ACQUIRE. -/
  | coastTimeout (chan : Fin 512)
  /-- SPOOF_ACK (05_gnss_baseband.md R150): A write of SPOOF_ACK lets the spoof check leave FAIL after
  SPOOF_PASS_N passing epochs. -/
  | spoofAck
  /-- COLD_START (05_gnss_baseband.md R142): A write of COLD_START discards aiding and puts every channel in
  ACQUIRE, or sets CMD_REFUSED. -/
  | coldStart
  /-- EXCL_ADD (05_gnss_baseband.md R143): GNSS_EXCL_CTRL ADD adds a (SIG, SVID) pair to the exclusion list. -/
  | exclAdd (sig : Byte) (svid : Byte)
  /-- EXCL_REMOVE (05_gnss_baseband.md R143): GNSS_EXCL_CTRL REMOVE removes a pair from the exclusion list. -/
  | exclRemove (sig : Byte) (svid : Byte)
  /-- EXCL_CLEAR (05_gnss_baseband.md R143): GNSS_EXCL_CTRL CLEAR empties the exclusion list. -/
  | exclClear
  /-- SURVEY_START (06_reference_central_rtk.md R165): RTK_CTRL SURVEY_START starts a self-survey or is refused
  with MODE or PAIRED. w is the word written to RTK_CTRL. -/
  | surveyStart (w : Word)
  /-- CONFIRM (06_reference_central_rtk.md R164): RTK_CTRL CONFIRM starts a confirmation of the stored position. -/
  | confirm (w : Word)
  /-- ENTER (06_reference_central_rtk.md R166): RTK_CTRL ENTER confirms the staged position. -/
  | enter (w : Word)
  /-- CLEAR (06_reference_central_rtk.md R168): RTK_CTRL CLEAR clears the position in force and the stored
  position. -/
  | clear (w : Word)
  /-- CONFIRMATION_DONE (06_reference_central_rtk.md R164): After 60 s of averaging the reference state becomes
  FIXED or CONFIRM_FAIL. -/
  | confirmationDone
  /-- SURVEY_DONE (06_reference_central_rtk.md R165): The self-survey meets its time and precision conditions and
  the state becomes FIXED. -/
  | surveyDone
  /-- REF_MOVED (06_reference_central_rtk.md R169): The moving average has differed from the reference by more
  than MOVE_M for 60 s, so the state becomes MOVED. -/
  | refMoved
  /-- BUNDLE_COMPLETE (06_reference_central_rtk.md R175): A correction bundle is complete and is sent on every
  enabled route, dropping an untaken older bundle. -/
  | bundleComplete
  /-- MSM_MESSAGE (06_reference_central_rtk.md R180): An RTCM MSM message of a machine reaches RTK ingest and is
  checked, accepted or rejected. -/
  | msmMessage
  /-- MACHINE_EPOCH_INCOMPLETE (06_reference_central_rtk.md R180): A machine epoch is not complete COLLECT_MS
  after its first message and is discarded as INCOMPLETE. -/
  | machineEpochIncomplete (mach : Fin 128)
  /-- SOLUTION_OUT (06_reference_central_rtk.md R196): A solution leaves the engine to the grid, the set-point
  engine and the host queue. -/
  | solutionOut
  /-- STALE_MARKER (06_reference_central_rtk.md R192): A machine has had no solution for STALE_MS, so a stale
  marker goes to the grid and set-point engine. -/
  | staleMarker (mach : Fin 128)
  /-- RESET_FILTER (06_reference_central_rtk.md R200): RTK_MACH_CTRL RESET_FILTER restarts one machine's filter
  empty before its next epoch. -/
  | resetFilter (mach : Fin 128)
  /-- SUSPEND (06_reference_central_rtk.md R180): RTK_MACH_CTRL SUSPEND stops solving one machine. -/
  | suspend (mach : Fin 128)
  /-- FILTER_RESUME (06_reference_central_rtk.md R180): RTK_MACH_CTRL RESUME resumes solving a suspended machine. -/
  | filterResume (mach : Fin 128)
  /-- LODE_READ (07_lode_tables.md R239): A Lode window READ copies the entry matching the buffer key into the
  buffer. The key stands in the entry buffer; pipe is true of pipeline 1; same tells that GO is written in the
  cycle of the GO before it. -/
  | lodeRead (table : Fin 64) (pipe : Bool) (same : Bool)
  /-- LODE_WRITE (07_lode_tables.md R239): A Lode window WRITE inserts or replaces a written entry in every
  instance. -/
  | lodeWrite (table : Fin 64) (same : Bool)
  /-- LODE_DELETE (07_lode_tables.md R239): A Lode window DELETE removes the entry matching the buffer key. -/
  | lodeDelete (table : Fin 64) (pipe : Bool) (same : Bool)
  /-- READ_AT (07_lode_tables.md R239): A Lode window READ_AT copies the entry at a bank, bucket and slot into the
  buffer. -/
  | readAt (table : Fin 64) (pipe : Bool) (same : Bool)
  /-- LEARN_APPLY (07_lode_tables.md R232): An instance applies a queued learn request in its learning cycle: hit,
  move, insert or excess. -/
  | learnApply (table : Fin 64) (pipe : Bool)
  /-- SWEEP_VISIT (07_lode_tables.md R226): A sweeper visits a due bucket, ageing learned and AGE entries and
  removing expired RESV entries. The next visit of a pipeline's sweepers, and the slots of its bucket that
  hits of the same cycle reach. -/
  | sweepVisit (pipe : Bool) (hits : List (Fin 8))
  /-- FLAP_EXPIRE (07_lode_tables.md R233): MOVE_MS of a FLAPPING entry passes and FLAPPING and MOVES clear. -/
  | flapExpire (table : Fin 64) (pipe : Bool)
  /-- LODE_BUCKET_CRC_ERROR (07_lode_tables.md R235): A bucket read fails its CRC; it is re-read up to twice and
  then the bank is held for self-test. bank is the physical bank; good names the good re-read, 1 or 2, or 0
  for none. -/
  | lodeBucketCrcError (bank : Fin 66) (good : Fin 3)
  /-- RESTORE_DONE (07_lode_tables.md R238): The writer has restored a swapped bank's written entries and filters
  from the written copy. -/
  | restoreDone (logical : Fin 64)
  /-- TRACK_LOAD (08_field_grid.md R250): The grid fetches a track record into the track store and reports its arc
  length, or refuses it. rec is the track record that the fetch reads. -/
  | trackLoad (src : CmdSrc) (rec : Bytes)
  /-- TRACK_DROP (08_field_grid.md R250): The grid removes a track that no live allotment uses. -/
  | trackDrop (src : CmdSrc)
  /-- ALLOT (08_field_grid.md R256): The allocator sweeps a track, checks every cell in both pipelines and commits
  all intervals as one batch or refuses. -/
  | allot (src : CmdSrc)
  /-- EXTEND (08_field_grid.md R274): A set-point EXTEND request extends a machine's chain straight on by up to 50
  m under the allotment checks. -/
  | extend
  /-- RELEASE (08_field_grid.md R266): The grid ends one allotment and clears USED in its intervals as one batch. -/
  | release (src : CmdSrc)
  /-- RELEASE_MACH (08_field_grid.md R266): The grid ends every allotment of one machine. -/
  | releaseMach (src : CmdSrc)
  /-- ZONE_ADD (08_field_grid.md R248): The grid adds a zone or refuses it with BAD_ZONE or ZONE_IN_USE. -/
  | zoneAdd (src : CmdSrc)
  /-- ZONE_DEL (08_field_grid.md R249): The grid deletes a zone or refuses it. -/
  | zoneDel (src : CmdSrc)
  /-- RESUME (08_field_grid.md R272): The grid clears a machine's anneal request or refuses with NOT_CLEAR. -/
  | resume (src : CmdSrc)
  /-- ORIGIN_SET (08_field_grid.md R243): The grid adopts the staged field frame origin and removes every OCC
  entry. -/
  | originSet (src : CmdSrc)
  /-- ORIGIN_CLEAR (08_field_grid.md R243): The grid clears the field frame origin and removes every OCC entry. -/
  | originClear (src : CmdSrc)
  /-- LAPSE (08_field_grid.md R264): A machine with a live allotment stops reporting for LAPSE_MS; it is LAPSED,
  its allotments end and a machine quench may be requested. -/
  | lapse (mach : Fin 128)
  /-- RESV_REFRESH (08_field_grid.md R263): Once per sweep period the grid refreshes RESV entries of reporting
  machines. -/
  | resvRefresh
  /-- ALLOTMENT_END (08_field_grid.md R262): An allotment's END becomes past and it is no longer live. -/
  | allotmentEnd (id : BitVec 16)
  /-- OCC_COLD_END (08_field_grid.md R270): 1 s after the grid starts taking solutions, OCC_COLD clears. -/
  | occColdEnd
  /-- ENGAGE (09_setpoint_engine.md R293): A set-point ENGAGE pairs a follower with a master at a ratio or is
  refused. -/
  | engage (src : CmdSrc)
  /-- DISENGAGE (09_setpoint_engine.md R300): DISENGAGE returns a follower to its own planning. -/
  | disengage (src : CmdSrc)
  /-- SCHED (09_setpoint_engine.md R295): SCHED loads a ratio schedule entry or is refused with PASSED or
  BAD_PARAM. -/
  | sched (src : CmdSrc)
  /-- SCHED_CLEAR (09_setpoint_engine.md R295): SCHED_CLEAR empties a pair's ratio schedule. -/
  | schedClear (src : CmdSrc)
  /-- LIMITS (09_setpoint_engine.md R299): LIMITS lowers a machine's speed and deceleration limits from the next
  tick. -/
  | limits (src : CmdSrc)
  /-- ANNEAL_MACH (09_setpoint_engine.md R297): ANNEAL_MACH sets cause HOST and starts a machine anneal. -/
  | annealMach (src : CmdSrc)
  /-- RESUME_MACH (09_setpoint_engine.md R297): RESUME_MACH clears the HOST, GEAR_LOST and OVERRUN anneal causes
  of a machine. -/
  | resumeMach (src : CmdSrc)
  /-- ODOMETER_REPORT (09_setpoint_engine.md R292): An odometer report of a master is accepted if later, or
  discarded. eui is the sender's of a report by radio. -/
  | odometerReport (rec : Bytes) (eui : Option (BitVec 64))
  /-- GEAR_LOST (09_setpoint_engine.md R296): No master report is accepted for ODO_STALE_MS, so the pair breaks
  and the follower anneals. -/
  | gearLost (mach : Fin 128)
  /-- SPMEAN_REFRESH (09_setpoint_engine.md R288): At least every 10 ms the engine re-reads each machine's SPMEAN
  entries. -/
  | spmeanRefresh
  /-- RADIO_SLOT (10_field_radio.md R312): The ASN increments at a slot boundary and every chain retunes to its
  hopped channel. -/
  | radioSlot
  /-- BEACON_TX (10_field_radio.md R325): A chain sends its BEACON with the permit state, subject to the ledger. -/
  | beaconTx (c : Fin 3)
  /-- GANG_TX (10_field_radio.md R326): A GANG chain sends the codes of the slot's group. -/
  | gangTx (c : Fin 3)
  /-- CORR_TX (10_field_radio.md R327): In a CORR slot a chain sends the next chunk of the oldest unsent bundle. -/
  | corrTx (c : Fin 3)
  /-- DOWN_TX (10_field_radio.md R329): In a DOWN slot the base sends the oldest APP frame for the chain and
  retries unacknowledged ones. -/
  | downTx (c : Fin 3)
  /-- QUENCH_REPEAT_TX (10_field_radio.md R332): While the latch holds, an active chain sends a repeat QUENCH in
  place of its shared or GANG frame. -/
  | quenchRepeatTx (c : Fin 3)
  /-- MACHINE_QUENCH_TX (10_field_radio.md R332): A machine quench is sent once on every active chain in place of
  the next shared frame. -/
  | machineQuenchTx (c : Fin 3)
  /-- ANNEAL_TX (10_field_radio.md R333): An ANNEAL frame is sent in place of a shared frame during a fleet or
  machine anneal. -/
  | annealTx (c : Fin 3)
  /-- STOP_REQ (10_field_radio.md R330): An accepted STOP_REQ from a listed pendant asserts the pendant source of
  every channel. -/
  | stopReq (f : RxFrame)
  /-- DATA (10_field_radio.md R328): An uplink DATA frame is checked, reassembled and delivered to RTK, set-point
  engine or port 14. -/
  | data (f : RxFrame)
  /-- ACK (10_field_radio.md R329): An ACK received for a DOWN frame ends its retries. -/
  | ack (f : RxFrame)
  /-- POLL (10_field_radio.md R335): A sleepy node's POLL within the widening is answered with ACK or DATA, or
  ignored. -/
  | poll (f : RxFrame)
  /-- SYNC_REQ (10_field_radio.md R336): A SYNC_REQ in the rendezvous slot is answered with an ACK carrying
  RESYNC_OK. -/
  | syncReq (f : RxFrame)
  /-- GAFFER_BEACON_RX (10_field_radio.md R337): A servitor accepts a gaffer BEACON, clearing SILENT_GAFFER. -/
  | gafferBeaconRx (f : RxFrame)
  /-- PARENT_BEACON_RX (10_field_radio.md R338): A subordinate accepts its parent's BEACON, clearing ORPHAN. -/
  | parentBeaconRx (f : RxFrame)
  /-- PARENT_QUENCH_RX (10_field_radio.md R338): A fleet QUENCH from the parent asserts the pendant source. -/
  | parentQuenchRx (f : RxFrame)
  /-- PEER_QUENCH_RX (11_quench_permit.md R358): A slot-break QUENCH from the twin peer asserts the pendant
  source. -/
  | peerQuenchRx (f : RxFrame)
  /-- PENDANT_HOLD_EXPIRE (10_field_radio.md R330): PENDANT_HOLD_MS passes without a new assertion and the pendant
  source clears. -/
  | pendantHoldExpire
  /-- REASM_TIMEOUT (10_field_radio.md R328): A DATA message's LAST fragment has not arrived 200 ms after its
  first, so it is discarded. -/
  | reasmTimeout
  /-- SILENT_GAFFER (10_field_radio.md R337): After three slots without a gaffer BEACON a servitor sets
  SILENT_GAFFER. -/
  | silentGaffer
  /-- ORPHAN (10_field_radio.md R338): After three slots without a parent BEACON a subordinate sets ORPHAN. -/
  | orphan
  /-- LEDGER_BUCKET (10_field_radio.md R339): A one-second ledger bucket closes and the window use moves on. -/
  | ledgerBucket
  /-- NODE_ADD (10_field_radio.md R334): RADIO_NODE_CTRL ADD adds a sleepy node or refuses it. same: another
  master's GO of higher rank stands in the same cycle (R349). -/
  | nodeAdd (addr : BitVec 16) (same : Bool)
  /-- NODE_REMOVE (10_field_radio.md R334): RADIO_NODE_CTRL REMOVE removes a sleepy node. same: another master's
  GO of higher rank stands in the same cycle (R349). -/
  | nodeRemove (addr : BitVec 16) (same : Bool)
  /-- FORCE_RESYNC (10_field_radio.md R336): RADIO_NODE_CTRL FORCE_RESYNC makes a node RESYNC_REQUIRED. same:
  another master's GO of higher rank stands in the same cycle (R349). -/
  | forceResync (addr : BitVec 16) (same : Bool)
  /-- CHAIN_ENABLE (02_parison_image.md R69): A write of RADIO_CHAIN_CTRL.EN enables a chain, held PENDING, or
  disables it at the end of the frame on air. w is the word written to RADIO_CHAIN_CTRL. -/
  | chainEnable (c : Fin 3) (w : Word)
  /-- CONTACT_EDGE (11_quench_permit.md R355): A stop contact input changes level and starts its 2.0 µs filter.
  inp counts STOP_A1, STOP_A2, STOP_B1 to STOP_C2; active is the level at the ball. -/
  | contactEdge (inp : Fin 6) (active : Bool)
  /-- CONTACT_ACCEPT (11_quench_permit.md R355): A contact level stays for 2.0 µs and the contact becomes active
  or healthy; shorter pulses count as GLITCH. -/
  | contactAccept (inp : Fin 6)
  /-- DISCREPANT (11_quench_permit.md R356): The 5 ms agreement window ends with one contact active, so DISCREPANT
  sets. -/
  | discrepant (ch : Fin 3)
  /-- DISCREPANT_CLEAR (11_quench_permit.md R356): A W1C write clears DISCREPANT only while both contacts are
  healthy. -/
  | discrepantClear (ch : Fin 3)
  /-- QUENCH (11_quench_permit.md R358): QUENCH_CMD OP QUENCH asserts the host source for 10 µs. -/
  | quench (who : Master)
  /-- HOST_SOURCE_END (11_quench_permit.md R358): The 10 µs host source pulse ends. -/
  | hostSourceEnd
  /-- WARDEN_PULSE_END (11_quench_permit.md R358): The 10 µs warden source pulse for the age or anneal limit ends. -/
  | wardenPulseEnd
  /-- VOTED_DECISION (11_quench_permit.md R354): Two channels present STOP; the quench latches, outputs de-
  energise and quench frames go out. -/
  | votedDecision
  /-- QUENCH_FRAME_REPEAT (11_quench_permit.md R365): At each of the next QUENCH_REPEAT 10 ms multiples a repeat
  quench frame is admitted. -/
  | quenchFrameRepeat
  /-- RELEASE_LATCH (11_quench_permit.md R368): QUENCH_CMD OP RELEASE clears the latch if every condition holds,
  moving QUENCHED to SURVEY. against: a source becomes active in the same cycle (R376). -/
  | releaseLatch (who : Master) (against : Bool)
  /-- QUENCH_MACH (11_quench_permit.md R372): QUENCH_CMD OP QUENCH_MACH clears one machine's permit and sends its
  machine quench. -/
  | quenchMach (m : Fin 128)
  /-- MACH_RELEASE (11_quench_permit.md R372): QUENCH_CMD OP MACH_RELEASE ends a machine quench. against: a
  QUENCH_MACH of the machine stands in the same cycle (R376). -/
  | machRelease (who : Master) (m : Fin 128) (against : Bool)
  /-- LONE_STOP (11_quench_permit.md R360): A lone channel result has stayed at STOP for 10 ms and LONE_STOP is
  raised. -/
  | loneStop
  /-- REMINDER (11_quench_permit.md R370): Every 60 s with the latch set and a source active a reminder record is
  written. -/
  | reminder
  /-- ANNEAL_LIMIT (11_quench_permit.md R373): ANNEAL_LIMIT_S passes without ANNEAL_DONE and the warden stops
  every channel. -/
  | annealLimit
  /-- PERMIT_OUT_OFF_DELAY (13_twin_redundancy.md R429): 100 µs after its driver is withdrawn, PERMIT_OUT falls at
  the ball. -/
  | permitOutOffDelay
  /-- DRIVER_OVERCURRENT (20_pins_electrical.md R564): A field driver exceeds 600 mA for 5 µs or overheats and
  turns off. QUENCH_OUT_A, _B, _C or PERMIT_OUT for 0 to 3. -/
  | driverOvercurrent (d : Fin 4)
  /-- OPEN_LOAD (20_pins_electrical.md R564): A driver energised with less than 5 mA for 10 ms reports OPEN_LOAD. -/
  | openLoad (d : Fin 4)
  /-- FRAME_INGRESS (12_packet_switch.md R384): A frame is received whole, parsed, looked up and its egress copies
  admitted or refused. bytes runs from the destination address to the FCS. -/
  | frameIngress (port : Fin 12) (bytes : Bytes)
  /-- FRAME_EGRESS (12_packet_switch.md R391): An egress port finishes a frame and starts the next by class order
  and round robin. the egress port. -/
  | frameEgress (port : Fin 16)
  /-- LAUNCH (12_packet_switch.md R398): A frame with a launch time leaves at its LAUNCH served time. the port
  whose next launch frame leaves. -/
  | launch (port : Fin 16)
  /-- LINK_UP (12_packet_switch.md R379): A port's link comes up and its queue bounds are checked at the resolved
  speed. speed in Mbit/s is what auto-negotiation resolved; other modes have their own. -/
  | linkUp (port : Fin 12) (speed : Nat)
  /-- LINK_DOWN (12_packet_switch.md R379): A port's link goes down and its queued frames are discarded. the port. -/
  | linkDown (port : Fin 12)
  /-- PORT_ENABLE (12_packet_switch.md R402): A write of SWITCH_PORT_CTRL.EN enables a port, held PENDING, or
  shuts it down at the end of the frame. the port that SWITCH_PORT_SEL selects, and bit 31 of the write. -/
  | portEnable (port : Fin 16) (en : Bool)
  /-- CLAIM_I_FALL (13_twin_redundancy.md R427): TWIN_CLAIM_I falls stably; a servitor asserts its claim and takes
  over into the mirrored mode. -/
  | claimIFall
  /-- CLAIM_I_RISE (13_twin_redundancy.md R411): TWIN_CLAIM_I rises stably; a unit with open gates closes them or
  a tie resolves by UNIT. -/
  | claimIRise
  /-- CLAIM_GUARD_EXPIRE (13_twin_redundancy.md R407): TWIN_CLAIM_I has stayed deasserted 4 µs since the claim
  began and the gated outputs open. -/
  | claimGuardExpire
  /-- CLAIM_CONFLICT (13_twin_redundancy.md R411): TWIN_CLAIM_I is still asserted 4 µs after gates closed, a
  LASTING fault that makes the unit yield. -/
  | claimConflict
  /-- LINK_TRAINED (13_twin_redundancy.md R415): Both Frauri lanes hold block lock and deskew and the link enters
  HELLO. -/
  | linkTrained
  /-- LINK_BLOCK_LOCK_LOST (13_twin_redundancy.md R415): Frauri block lock is lost for 1 µs and the link goes to
  TESTING. -/
  | linkBlockLockLost
  /-- HELLO (13_twin_redundancy.md R420): A HELLO frame is compared and the units pair or mismatch. what the
  peer's HELLO carries (R420), and its sum over the re-formable gathers (R68). -/
  | hello (head : FrHead) (id : Word) (sum : Word) (unit : Bool) (set : BitVec 6) (reform : Word)
  /-- MIRROR (13_twin_redundancy.md R421): A MIRROR record joins the open group at the servitor. rec is the state
  of its class at the gaffer's commit point. -/
  | mirror (head : FrHead) (rec : Machine.MirRecord)
  /-- COMMIT (13_twin_redundancy.md R421): A COMMIT frame makes the servitor apply its group. cls is the class
  whose group ends: its bit of R421, 6 for PAIR. -/
  | commit (head : FrHead) (cls : Fin 7)
  /-- TIME (04_timebase.md R111): A TIME frame carries the two-way exchange that disciplines the servitor's
  domains. e is the gaffer's served time less this unit's, in ns, as the two-way exchange measures it; reform
  is the peer's sum over its re-formable gathers (R68). -/
  | time (head : FrHead) (e : Int) (reform : Word)
  /-- NOTICE (13_twin_redundancy.md R419): A NOTICE frame asserts the peer's pendant source. -/
  | notice (head : FrHead)
  /-- NAK (13_twin_redundancy.md R418): A NAK makes the sender re-send from the NAKed SEQ, up to twice. -/
  | nak (head : FrHead)
  /-- SNAPSHOT (13_twin_redundancy.md R425): SNAPSHOT frames carry the whole selected state; on completion PAIR
  becomes READY. start and last mark the ends of a snapshot. -/
  | snapshot (head : FrHead) (start : Bool) (rec : Machine.MirRecord) (last : Bool)
  /-- FRAURI_FRAME_BAD (13_twin_redundancy.md R418): A Frauri frame fails CRC or tag or arrives out of order and
  is answered with NAK. tag is true of a frame that fails its GCM tag. -/
  | frauriFrameBad (tag : Bool)
  /-- MIRROR_STALE (13_twin_redundancy.md R424): No group has committed for STALE_MS and PAIR falls to SYNCING. -/
  | mirrorStale
  /-- YIELD (13_twin_redundancy.md R426): TWIN_CMD OP YIELD hands control back by yielding when PAIR is READY.
  same: another master's write of higher rank in the cycle; against: a voted decision in it (R432). -/
  | yield (who : Master) (same : Bool) (against : Bool)
  /-- RESYNC (13_twin_redundancy.md R425): TWIN_CMD OP RESYNC restarts the snapshot. same: another master's write
  of higher rank stands in the same cycle (R432). -/
  | resync (same : Bool)
  /-- ERROR_DETECTED (14_faults_recovery.md R435): A block reports an error; the fault controller classes it,
  discards affected work, starts the self-test or yields. res and idx name the resource, resent is true when a
  re-send succeeded; unready tells that the peer stops being READY in the same cycle. -/
  | errorDetected (res : ResKind) (idx : Fin 256) (resent : Bool) (unready : Bool)
  /-- SELF_TEST_DONE (14_faults_recovery.md R438): A targeted self-test ends; the resource returns to service or
  is retired with its spare or yield. -/
  | selfTestDone (res : ResKind) (idx : Fin 256) (pass : Bool)
  /-- CULLET_POST (14_faults_recovery.md R447): A held cullet report is posted when its event queue has room. -/
  | culletPost
  /-- FAULT_RESUME (14_faults_recovery.md R444): A host write to FAULT_RESUME resumes halted queues from commit +
  1. against names the queues that a new discard halts in the same cycle. -/
  | faultResume (who : Master) (mask : BitVec 16) (against : BitVec 16)
  /-- FAULT_INJECT (14_faults_recovery.md R438): A write of GO to FAULT_INJECT injects a listed error in
  MAINTENANCE or is refused. -/
  | faultInject (code : BitVec 16) (idx : BitVec 8) (fail : Bool)
  /-- RUN (15_cores_dispatcher.md R455): A write of DISPATCH_CTRL.RUN starts or holds field cores. mask is the RUN
  field written; inside names the cores that are not at an instruction boundary. -/
  | run (mask : BitVec 8) (inside : BitVec 8)
  /-- DESC_WRITE (15_cores_dispatcher.md R461): A GO write of DISPATCH_DESC_CTRL commits a task descriptor or
  refuses it. -/
  | descWrite (t : Fin 4096)
  /-- POST (15_cores_dispatcher.md R462): A write to DISPATCH_POST adds one activation to a task. -/
  | post (t : Fin 4096)
  /-- CANCEL (15_cores_dispatcher.md R469): A write to DISPATCH_CANCEL removes a task's delay entry and pending
  activations. -/
  | cancel (t : Fin 4096)
  /-- DELAY (15_cores_dispatcher.md R468): A write to DISPATCH_DELAY_HI places a task on the delay list. hi holds
  bits [47:32] of the wake time. -/
  | delay (who : Master) (t : Fin 4096) (hi : BitVec 16)
  /-- DELAY_WAKE (15_cores_dispatcher.md R468): At a dispatcher tick with the wake time past, a delayed task
  receives an activation. -/
  | delayWake (t : Fin 4096)
  /-- TAKE (15_cores_dispatcher.md R465): A core's read of DISPATCH_TAKEk selects and returns a task. rivals names
  the cores that read TAKE in the same cycle. -/
  | take (k : Fin 8) (who : Master) (rivals : BitVec 8)
  /-- DONE (15_cores_dispatcher.md R465): A write to DISPATCH_DONEk ends a core's run of a task. -/
  | done (k : Fin 8) (who : Master) (t : Fin 4096)
  /-- DISPATCH_YIELD (15_cores_dispatcher.md R466): A write to DISPATCH_YIELDk returns a preempted task to the
  head of its queue. -/
  | dispatchYield (k : Fin 8) (who : Master) (t : Fin 4096)
  /-- BIND (15_cores_dispatcher.md R463): A write to DISPATCH_BINDn binds a block interrupt to a task. -/
  | bind (n : Fin 32) (w : Word)
  /-- BOUND_INTERRUPT (15_cores_dispatcher.md R463): A rising edge of a bound block interrupt line posts one
  activation. -/
  | boundInterrupt (n : Fin 32)
  /-- TIMER_COMPARE (15_cores_dispatcher.md R454): Served time reaches a core's DISPATCH_TIMECMPk and MTIP becomes
  pending. -/
  | timerCompare (k : Fin 8)
  /-- H2C_PUSH (16_host_interface.md R478): A host-side push appends a word to H2C or overwrites the newest with
  COLLISION. same: a pop of the direction or a reset of its receiver comes in the same cycle. -/
  | h2cPush (m : Fin 9) (who : Master) (w : Word) (same : Bool)
  /-- H2C_POP (16_host_interface.md R478): A core-side read pops the oldest H2C word, setting EMPTY when it
  empties. -/
  | h2cPop (m : Fin 9) (who : Master)
  /-- C2H_PUSH (16_host_interface.md R478): A core-side push appends a word to C2H. same as of H2C_PUSH. -/
  | c2hPush (m : Fin 9) (who : Master) (w : Word) (same : Bool)
  /-- C2H_POP (16_host_interface.md R478): A host-side read pops the oldest C2H word. -/
  | c2hPop (m : Fin 9) (who : Master)
  /-- MAILBOX_SIDE_RESET (16_host_interface.md R480): A side of a mailbox is reset, discarding the words it was to
  receive. pushed: the newest word was pushed to the side in the same cycle. -/
  | mailboxSideReset (m : Fin 9) (coreSide : Bool) (pushed : Bool)
  /-- LOCK_ACQUIRE (16_host_interface.md R482): A read of HOSTIF_LOCKn acquires a free lock or reports its holder.
  rival is another master that reads the lock in the same cycle. -/
  | lockAcquire (n : Fin 64) (who : Master) (rival : Option Master)
  /-- LOCK_FREE (16_host_interface.md R483): A write by the holder, or a keyed host write, frees a lock. -/
  | lockFree (n : Fin 64) (who : Master) (w : Word)
  /-- HOST_RESET (16_host_interface.md R477): FLR, hot reset, link-down or PERST without main reset resets
  configuration space, host locks, queues and mailboxes. linkDown is true of a link-down, false of a Function
  Level Reset or a hot reset. -/
  | hostReset (linkDown : Bool)
  /-- CQ_ENABLE (16_host_interface.md R489): Setting EN of a command queue resets TAIL, FETCH and COMMIT. cfg is
  the word written to HOSTIF_CQn_CFG. -/
  | cqEnable (n : Fin 16) (cfg : Word)
  /-- TAIL_WRITE (16_host_interface.md R489): A write of TAIL advances a command queue or sets OVERFILL. -/
  | tailWrite (n : Fin 16) (tail : Word)
  /-- ENTRY_FETCH (16_host_interface.md R489): The part fetches a command entry once a slot is free and checks
  SEQ, TARGET and OP. raw is the 64 bytes that the fetch read. -/
  | entryFetch (n : Fin 16) (raw : Bytes)
  /-- COMMAND_COMMIT (16_host_interface.md R492): A command commits in sequence order and its completion is
  posted. -/
  | commandCommit (n : Fin 16)
  /-- NOP (16_host_interface.md R492): A HOSTIF NOP commits at once. -/
  | nop (n : Fin 16)
  /-- FENCE (14_faults_recovery.md R443): A FENCE commits after every earlier command of its named queues. -/
  | fence (n : Fin 16)
  /-- TX_FRAME (16_host_interface.md R491): A TX_FRAME reads a frame from host memory and offers it to the switch.
  bytes is what the part reads at ADDR. -/
  | txFrame (n : Fin 16) (bytes : Bytes)
  /-- RX_BUF (16_host_interface.md R497): An RX_BUF adds a receive buffer to the owner's pool. -/
  | rxBuf (n : Fin 16)
  /-- FLUSH (16_host_interface.md R486): FLUSH of a halted command queue sets FETCH to TAIL at the next entry
  boundary. resumed: FAULT_RESUME named the queue in the same cycle. -/
  | flush (n : Fin 16) (resumed : Bool)
  /-- EQ_ENABLE (16_host_interface.md R494): Setting EN of an event queue resets WRITE and HEAD. cfg is the word
  written to HOSTIF_EQn_CFG. -/
  | eqEnable (q : Fin 16) (cfg : Word)
  /-- HEAD_WRITE (16_host_interface.md R494): A write of HEAD frees event entries or sets BAD_HEAD. -/
  | headWrite (q : Fin 16) (head : Word)
  /-- EVENT_POST (16_host_interface.md R494): An event entry is written once its queue has room, then the shadow. -/
  | eventPost (q : Fin 16)
  /-- COALESCE_TIMEOUT (16_host_interface.md R494): COAL_US passes since the first pending entry and the queue's
  MSI-X vector is sent. -/
  | coalesceTimeout (q : Fin 16)
  /-- WRITE_KEY (17_geode_keys.md R514): Geode WRITE_KEY writes KEY_BUF into an empty slot. -/
  | writeKey (who : Access) (slot : Fin 128) (same : Bool)
  /-- ERASE (17_geode_keys.md R514): Geode ERASE zeroes a slot. -/
  | erase (who : Access) (slot : Fin 128) (same : Bool)
  /-- DERIVE (17_geode_keys.md R514): Geode DERIVE writes a derived key into an empty slot. -/
  | derive (who : Access) (root : Bool) (src : Fin 128) (slot : Fin 128) (same : Bool)
  /-- WRAP (17_geode_keys.md R514): Geode WRAP writes a wrapped exportable key to WRAP_BUF. -/
  | wrap (who : Access) (src : Fin 128) (slot : Fin 128) (same : Bool)
  /-- UNWRAP (17_geode_keys.md R514): Geode UNWRAP opens WRAP_BUF into an empty slot. -/
  | unwrap (who : Access) (src : Fin 128) (slot : Fin 128) (same : Bool)
  /-- PUBKEY (17_geode_keys.md R514): Geode PUBKEY writes the public point of a P384 slot to WRAP_BUF. -/
  | pubkey (who : Access) (slot : Fin 128) (same : Bool)
  /-- ADD_KEY_HASH (17_geode_keys.md R511): ADD_KEY_HASH fuses an image key hash into the lowest unused entry. -/
  | addKeyHash (who : Access) (same : Bool)
  /-- REVOKE_HASH (17_geode_keys.md R511): REVOKE_HASH revokes an image key hash entry. -/
  | revokeHash (who : Access) (same : Bool)
  /-- RAISE_SECVER (17_geode_keys.md R512): RAISE_SECVER raises the fused minimum security version. -/
  | raiseSecver (who : Access) (same : Bool)
  /-- LC_ADVANCE (17_geode_keys.md R509): LC_ADVANCE moves the life-cycle state and erases slots whose mask lacks
  it. -/
  | lcAdvance (who : Access) (same : Bool)
  /-- CHALLENGE_READ (17_geode_keys.md R505): A host read of GEODE_CHAL0 draws a fresh challenge. -/
  | challengeRead (who : Access)
  /-- OPEN (17_geode_keys.md R505): A write of OPEN checks the response and opens the host TRUSTED world. -/
  | openWorld (who : Access)
  /-- CLOSE (17_geode_keys.md R506): A write of CLOSE closes the host TRUSTED world. -/
  | closeWorld (who : Access)
  /-- MASK_RENEWAL (17_geode_keys.md R516): Every 1 ms each slot copy is re-masked and failed copies are rebuilt
  or the slot lost. failed counts the copies of that slot that fail their check at this renewal. -/
  | maskRenewal (slot : Fin 128) (failed : Fin 3)
  /-- PIN_LEVEL_ACCEPT (18_assay_metering.md R522): An Assay pin level stays stable for DEBOUNCE_US and is
  accepted, counting a pulse on an active A edge. pinB is true of ASSAY_B; high is the level at the ball. -/
  | pinLevelAccept (ch : Fin 16) (pinB : Bool) (high : Bool)
  /-- STUCK (18_assay_metering.md R524): A stays active longer than STUCK_S and the channel sets STUCK. -/
  | stuck (ch : Fin 16)
  /-- RAW_TOTAL_STORED (18_assay_metering.md R525): A counted pulse's raw totals are written to the MRAM. ok is
  false of a write that fails (R528). -/
  | rawTotalStored (ch : Fin 16) (ok : Bool)
  /-- SUPPLY_FAIL (18_assay_metering.md R527): Both supplies leave range; Assay accepts no new pulse and completes
  writes in flight. -/
  | supplyFail
  /-- CHECKPOINT_TICK (18_assay_metering.md R530): Served time passes a multiple of CKPT_MS and every enabled
  quantity is checkpointed. -/
  | checkpointTick
  /-- CHECKPOINT (18_assay_metering.md R530): ASSAY_CMD CHECKPOINT checkpoints every channel. same: another
  master's GO of the cycle was ordered first, here and below. -/
  | checkpoint (same : Bool)
  /-- REBASE (18_assay_metering.md R532): ASSAY_CMD REBASE sets a quantity to OFFSET from a TRUSTED caller. -/
  | rebase (who : Access) (ch : Fin 16) (q : Fin 4) (same : Bool)
  /-- CLOSE_INTERVAL (18_assay_metering.md R534): ASSAY_CMD CLOSE_INTERVAL closes the interval of one or every
  channel. -/
  | closeInterval (all : Bool) (ch : Fin 16) (same : Bool)
  /-- INTERVAL_CLOSE (18_assay_metering.md R534): Served time passes a multiple of INTERVAL_S and an interval
  record is written. -/
  | intervalClose
  /-- ASSAY_SNAPSHOT (18_assay_metering.md R533): A GO write of ASSAY_SNAP_CTRL latches the master's snapshot of
  one channel. -/
  | assaySnapshot (who : Master) (ch : Fin 16)
  /-- IREC_SELECT (18_assay_metering.md R534): A write of ASSAY_IREC_SEL copies one interval record into DATA0–7. -/
  | irecSelect (seq : Word)
  /-- ASSAY_CHANNEL_ENABLE (02_parison_image.md R69): A write of ASSAY_CH_CTRL.EN enables or shuts down a channel.
  left is what remains of a debounce interval in progress, in ns. -/
  | assayChannelEnable (ch : Fin 16) (en : Bool) (left : Nat)
  /-- EVENT_RECORD (19_strata_recorder.md R542): A block event enters the Strata queue or is counted as lost. -/
  | eventRecord (code : BitVec 16) (source : BitVec 8) (sev : Fin 5) (p0 : Word) (p1 : Word) (p2 : Word)
  /-- RECORD_STORE (19_strata_recorder.md R544): The writer stores a queued record in drift, bedrock and
  summaries, or in cairn. ok is false of an MRAM write that fails (R548). -/
  | recordStore (ok : Bool)
  /-- STRATA_CLEAR (19_strata_recorder.md R550): STRATA_CMD CLEAR clears the masked areas and writes CLEARED. same
  tells that another master's GO stands before this one in the same cycle. -/
  | strataClear (who : Access) (mask : BitVec 3) (same : Bool)
  /-- SUM_SELECT (19_strata_recorder.md R547): A write of STRATA_SUM_SEL copies one summary into the summary
  window. -/
  | sumSelect (k : Fin 64)
  /-- UART_TX (06_reference_central_rtk.md R174): A write to IOCTL_UARTn_TX queues a byte unless the correction
  route owns UART0. -/
  | uartTx (n : Fin 2) (byte : BitVec 8)
  /-- UART_RX_BYTE (20_pins_electrical.md R562): A UART byte is received into the RX FIFO or lost with RX_OVF. -/
  | uartRxByte (n : Fin 2) (byte : BitVec 8) (frameErr : Bool) (parityErr : Bool)
  /-- UART_RX_READ (21_address_map.md R584): A read of IOCTL_UARTn_RX returns and removes the oldest received
  byte. -/
  | uartRxRead (n : Fin 2)
  /-- SMBUS_BLOCK_READ (03_modes_power_reset.md R588): An SMBus Block Read returns the SYS register at offset 4c
  from the warden. c is the command byte; pec is set when the controller clocks the PEC. -/
  | smbusBlockRead (c : BitVec 8) (pec : Bool)
  /-- ASSAY_B_FUNC_WRITE (20_pins_electrical.md R578): A write of IOCTL_ASSAY_B_FUNC gives ASSAY_B pins a status
  function, ignoring bits of QUAD channels. -/
  | assayBFuncWrite (w : Word)
  /-- ACQUISITION (05_gnss_baseband.md R141): A channel in ACQUIRE finds code and Doppler and enters TRACK. -/
  | acquisition (chan : Fin 512)
  /-- PCIE_LINK_UP (16_host_interface.md R474): The PCIe link trains and comes up, so LINK_UP, SPEED and WIDTH
  report it and the endpoint is enumerable. gen counts from generation 1, width is log2 of the lanes,
  busMaster is Bus Master Enable after enumeration. -/
  | pcieLinkUp (gen : Fin 4) (width : Fin 3) (busMaster : Bool)
  /-- CLAIM_GLITCH (13_twin_redundancy.md R406): A pulse on TWIN_CLAIM_I shorter than 0.2 µs is ignored and
  counted as CLAIM_GLITCH. -/
  | claimGlitch
  /-- IDLE (13_twin_redundancy.md R416): A Frauri IDLE frame is received, carrying the peer's CLAIM and GATED
  flags for the check of R412. -/
  | idle (head : FrHead)
  /-- FRAURI_ACK (13_twin_redundancy.md R416): A Frauri ACK frame is received, carrying ACK_SEQ and the peer's
  TFLAGS. -/
  | frauriAck (head : FrHead)
  /-- LINK_EN_WRITE (13_twin_redundancy.md R415): A write of TWIN_CTRL.LINK_EN starts the Frauri link from OFF, or
  restarts it from FAILED after a 0 then 1. w is the word written to TWIN_CTRL. -/
  | linkEnWrite (w : Word)
  /-- BAD_OP (03_modes_power_reset.md R103): A warden mailbox request whose OP is not in the table is answered
  BAD_OP with COUNT 0. -/
  | badOp
  deriving DecidableEq, Repr

end Sys2Proof
end

