-- ==== Sys2Proof/Machine/State.lean ====
section
/-! DEFINITION. State.lean: the part's whole state, as plain data; State/<Block>.lean holds one structure per block.
A field's default value is its value at reset: the release of the AON power-on reset, step 2 of R98
(03_modes_power_reset.md), with the main die still in reset. Registers with no behaviour of their own live in
`State.regs`, so a field that is only a register field stands there and in no structure. Where the spec gives no
reset value the default is the model's (assumption log 4). -/

namespace Sys2Proof.Machine

/-- Reasons for which a step stops with a fault. The manual gives the part no such stop: an error inside it is a
state (14_faults_recovery.md R435), so the type has no constructor and no meaning can raise one. -/
inductive Fault where
  deriving DecidableEq, Repr

/-- Reasons for which a step is refused. -/
inductive Refusal where
  /-- Raised by `exec` alone, in the arm of a command that has no meaning yet. Safe: nothing is claimed of it. -/
  | notModelled (mnemonic : String)
  deriving DecidableEq, Repr

/-- The part. -/
structure State where
  /-- The model clock: true ns since the model's start, in every mode (assumption log 2). -/
  clk : Nat := 0
  /-- Register fields with no behaviour of their own, by register-space offset, ascending; an offset that is not
  listed reads its reset value (`Sys2Proof.Machine.regReset`). -/
  regs : List (Nat × Word) := []
  /-- RC counters, by register offset and selector, ascending; one not listed reads 0 (R7, R11). -/
  counts : List (Nat × Nat) := []
  /-- The shadow of R10 of each master: the upper register it belongs to and its bits. -/
  shadows : List (Master × Nat × Word) := []
  /-- The data that the last read command returned to its master. -/
  rdata : Word := 0
  /-- The model's own count of free values drawn (assumption log 3). -/
  fresh : Nat := 0
  sys : Sys := {}
  aon : Aon := {}
  parison : Parison := {}
  time : TimeB := {}
  gnss : Gnss := {}
  rtk : Rtk := {}
  lode : Lode := {}
  grid : Grid := {}
  setpt : Setpt := {}
  radio : Radio := {}
  quench : Quench := {}
  switch : Switch := {}
  twin : Twin := {}
  fr : Frauri := {}
  fault : Fault_ := {}
  dispatch : Dispatch := {}
  /-- The LPDDR5X of the field cores by physical address, as every coherent cache shows it (R451, R452): addresses strictly rising, and
  no byte equal to what an unlisted address reads as (`Sys2Proof.Machine.memDefault`). -/
  coreMem : List Host.Cell := []
  hostif : Hostif := {}
  geode : Geode := {}
  assay : Assay := {}
  strata : Strata := {}
  ioctl : Ioctl := {}
  /-- The commands that wait, first in, first out. -/
  pending : List Instr := []
  deriving DecidableEq, Repr

/-- The part at the release of its AON power-on reset (03_modes_power_reset.md R98 step 2, R76). -/
def State.reset : State := {}

end Sys2Proof.Machine
end

