-- ==== Sys2Proof/Decode.lean ====
section
/-! DEFINITION. Decode.lean: the command that a word spells by the bits of spec/opcode_table.json. The table gives no
row any bits: every row's fields list is empty, so no word spells a command. -/

namespace Sys2Proof

/-- The command that a word of nbits bits spells; the table gives bits to no row. -/
def decodeTableWord (nbits w : Nat) : Option Instr :=
  match nbits, w with
  | _, _ => none

end Sys2Proof
end

