-- ==== Sys2Proof/Config.lean ====
section
/-! DEFINITION. Config.lean: what an implementation fixes and the spec does not, the free values, and the functions
that the manual names by their standard. Each is opaque: nothing in Lean can evaluate one, so a claim holds whatever
it is. -/

namespace Sys2Proof

/-- A free value, fresh at each draw: the model applies it to its own count of draws (assumption log 3). -/
opaque Config.freeNat : Nat → Nat

/-- What an RC counter reads once it holds more events than its field can show: no rule gives it
(assumption log 5). -/
opaque Config.counterOverflow : Nat → Nat

/-- AES-CMAC of a message under a key (17_geode_keys.md R502; assumption log 8). -/
opaque Config.cmac (key msg : Bytes) : Bytes

/-- AES-128-CCM*: key, nonce, authenticated data and plain text to the cipher text and the 8-byte MIC (R320). -/
opaque Config.ccmSeal (key nonce adata plain : Bytes) : Bytes

/-- AES-128-CCM* opened: none when the MIC fails (R320). -/
opaque Config.ccmOpen (key nonce adata sealed : Bytes) : Option Bytes

/-- AES-256-GCM: key, nonce, authenticated data and plain text to the cipher text and the 16-byte tag (R417). -/
opaque Config.gcmSeal (key nonce adata plain : Bytes) : Bytes

/-- AES-256-GCM opened: none when the tag fails (R417). -/
opaque Config.gcmOpen (key nonce adata sealed : Bytes) : Option Bytes

/-- AES key wrap with padding (R502). -/
opaque Config.kwpWrap (kek plain : Bytes) : Bytes

/-- The inverse of the key wrap: none when its integrity check fails (R514). -/
opaque Config.kwpOpen (kek wrapped : Bytes) : Option Bytes

/-- SHA-384 (R45, R511). -/
opaque Config.sha384 (msg : Bytes) : Bytes

/-- ECDSA over P-384 with SHA-384: public key, message and signature (R45). -/
opaque Config.ecdsaVerify (pub msg sig : Bytes) : Bool

/-- An ECDSA signature over P-384 with SHA-384, by private key, message and the random number of the signing (R176). -/
opaque Config.ecdsaSign (priv msg : Bytes) (rand : Nat) : Bytes

/-- The public key of a P-384 scalar, as a 97-byte SEC 1 uncompressed point (R514). -/
opaque Config.p384Public (priv : Bytes) : Bytes

/-- The EUI of this base, of its twin peer: no rule says where the part takes them from (assumption log 10). -/
opaque Config.baseEui : Nat

/-- The EUI of the twin peer (assumption log 10). -/
opaque Config.peerEui : Nat

/-- Frames that a chain's downlink store at port 14 holds: no rule gives the number (R395; assumption log 11). -/
opaque Config.downlinkStore : Nat

/-- An RTCM SC-104 transport frame of a message number, from the bytes of what the message reports (06 R172). The manual
takes the encoding from RTCM. -/
opaque Config.rtcm (num : Nat) (input : Bytes) : Bytes

/-- What no rule fixes of the IPv4 and UDP headers that the part builds (06 R174, 09 R291): type of service, identification,
flags, time to live, source address, source port and UDP checksum, as bytes, by destination and length. -/
opaque Config.ipOpen (dest : Bytes) (len : Nat) : Bytes

/-- The payloads, in order, of the Frauri frames that carry a body: no rule gives their layouts (13 R416, R420, R421; assumption log 22). -/
opaque Config.frauriPayloads (b : Machine.FrBody) : List Bytes

/-- A frame, named by its deadline and bytes, has a block in a physical packet-buffer bank: no rule says which (07 R237, 12 R392;
assumption log 12). -/
opaque Config.inBank (bank deadline : Nat) (frame : Bytes) : Bool

/-- Architectural state of a field core that is undefined at a start, by draw and register (15 R455; assumption log 3). -/
opaque Config.coreReg (draw reg : Nat) : Nat

/-- The cache lines that a core's self-test finds bad among its dirty ones, by draw and core: which fail their check is free
(15 R458; assumption log 30). -/
opaque Config.poisoned (draw core : Nat) : List Nat

/-- DST of a CORR frame: no rule gives it (10 R327; assumption log 21). -/
opaque Config.corrDst : Nat

/-- Bytes less one that a deficit counter gains for each unit of WEIGHT at a visit of the round robin of R391. -/
opaque Config.drrQuantum : Nat

/-- What a GNSS payload sets: the manual gives the payload's contents, and not its layout (02 R41; assumption log 23). -/
opaque Config.gnssOf (payload : Bytes) : Machine.GnssCfg

/-- GNSS_SPOOF_CFG bits [27:0] and the three GNSS_SPOOF_BASE words that a GNSS payload sets (assumption log 23). -/
opaque Config.gnssSpoof (payload : Bytes) : Word × Word × Word × Word

/-- The offset of the first field of a GNSS payload that is out of its range, if any (assumption log 23). -/
opaque Config.gnssBad (payload : Bytes) : Option Nat

/-- The factory calibration of a band path's reference floor, from which the floor starts at forming (05 R148). -/
opaque Config.gnssFloor (path : Nat) : Nat

/-- What an MSM4 to MSM7 message holds, from the bytes of the message: none if its fields are malformed (06 R178, R180). The manual takes
the encoding from RTCM. -/
opaque Config.msm (msg : Bytes) : Option Machine.Msm

/-- How far a satellite has moved between two served times by the broadcast ephemerides, ECEF in mm (06 R194). -/
opaque Config.satMove (sat : Machine.SatSig) (t0 t : Nat) : Int × Int × Int

/-- The chi-square threshold at a false-alarm probability of 10^−3 (06 R185). -/
opaque Config.chi2 (dof : Nat) : Rat

/-- 2Φ(1 / (2σ)) − 1 for a variance σ² (06 R186). -/
opaque Config.roundProb (var : Rat) : Rat

/-- a in m/s and b in m/s of a Doppler observation, for which R184 gives none. -/
opaque Config.rateAB : Rat × Rat

/-- Variance of each baseline and each velocity component in a filter that starts empty: no rule gives it (06 R183). -/
opaque Config.newFilter : Rat × Rat

/-- What a word of the measurement window holds that the part has not written, or is writing (05 R156 to R159), by the count of free
values and the offset. -/
opaque Config.windowWord (draw off : Nat) : Nat

end Sys2Proof
end

