-- ==== Sys2Proof/Machine/Operands.lean ====
section
/-! DEFINITION. Operands.lean: how operands stand in words and bytes: bit fields, two's complement, little-endian
byte strings (00_scope.md R4), checksums, and lists kept in key order. -/

namespace Sys2Proof.Machine

open Sys2Proof

/-- Bits [hi:lo] of a number. -/
def bitsOf (w hi lo : Nat) : Nat := (w >>> lo) % 2 ^ (hi + 1 - lo)

/-- Bits [hi:lo] of a register word. -/
def fld (w : Word) (hi lo : Nat) : Nat := bitsOf w.toNat hi lo

/-- Bit i of a register word. -/
def bit (w : Word) (i : Nat) : Bool := w.toNat.testBit i

/-- 1 for true. -/
def b2n (b : Bool) : Nat := if b then 1 else 0

/-- A register word from its fields: the lowest bit and the value of each; the bits of no field read 0 (R6). -/
def pack (l : List (Nat × Nat)) : BitVec 32 := BitVec.ofNat 32 (l.map (fun p => p.2 * 2 ^ p.1)).sum

/-- A number of n bits read as two's complement. -/
def signedOf (n w : Nat) : Int := if w % 2 ^ n < 2 ^ (n - 1) then (w % 2 ^ n : Nat) else (w % 2 ^ n : Nat) - (2 ^ n : Nat)

/-- An integer as n bits of two's complement. -/
def unsignedOf (n : Nat) (i : Int) : Nat := (i % (2 ^ n : Nat)).toNat

/-- An integer held to n signed bits by saturation. -/
def satSigned (n : Nat) (i : Int) : Int :=
  if i < -((2 ^ (n - 1) : Nat) : Int) then -((2 ^ (n - 1) : Nat) : Int)
  else if i > ((2 ^ (n - 1) : Nat) : Int) - 1 then ((2 ^ (n - 1) : Nat) : Int) - 1 else i

/-- A count held to n bits by saturation. -/
def satNat (n i : Nat) : Nat := min i (2 ^ n - 1)

/-- The n lowest bytes of a number, little-endian (R4). -/
def leBytes : Nat → Nat → Bytes
  | 0, _ => []
  | n + 1, v => BitVec.ofNat 8 v :: leBytes n (v / 256)

/-- The n lowest bytes of a number, big-endian. -/
def beBytes (n v : Nat) : Bytes := (leBytes n v).reverse

/-- The number that bytes spell, little-endian (R4). -/
def leNat : Bytes → Nat
  | [] => 0
  | b :: bs => b.toNat + 256 * leNat bs

/-- The number that bytes spell, big-endian. -/
def beNat (bs : Bytes) : Nat := leNat bs.reverse

/-- The n bytes at an offset; bytes past the end read 0. -/
def bytesAt (bs : Bytes) (ofs n : Nat) : Bytes :=
  let t := (bs.drop ofs).take n
  t ++ List.replicate (n - t.length) 0

/-- The little-endian number of n bytes at an offset. -/
def leAt (bs : Bytes) (ofs n : Nat) : Nat := leNat (bytesAt bs ofs n)

/-- The big-endian number of n bytes at an offset. -/
def beAt (bs : Bytes) (ofs n : Nat) : Nat := beNat (bytesAt bs ofs n)

/-- The byte at an offset. -/
def byteAt (bs : Bytes) (ofs : Nat) : Nat := leAt bs ofs 1

/-- Bytes made up to a length with zeros, or cut to it. -/
def padTo (n : Nat) (bs : Bytes) : Bytes := bytesAt bs 0 n

/-- One shift of a reflected CRC register. -/
def crcStep (poly c : Nat) : Nat := if c % 2 = 1 then (c >>> 1) ^^^ poly else c >>> 1

/-- A reflected CRC register after one byte. -/
def crcByte (poly c : Nat) (b : Byte) : Nat :=
  let c0 := c ^^^ b.toNat
  crcStep poly (crcStep poly (crcStep poly (crcStep poly
    (crcStep poly (crcStep poly (crcStep poly (crcStep poly c0)))))))

/-- CRC-32C of a string of bytes (02_parison_image.md R35). -/
def crc32c (bs : Bytes) : Word :=
  BitVec.ofNat 32 (bs.foldl (crcByte 0x82F63B78) 0xFFFFFFFF ^^^ 0xFFFFFFFF)

/-- Floor of the square root, by n halvings of the interval below 2^n. -/
def isqrtGo (x : Nat) : Nat → Nat → Nat
  | 0, r => r
  | n + 1, r =>
    let t := r + 2 ^ n
    isqrtGo x n (if t * t ≤ x then t else r)

/-- Floor of the square root of a number below 2^256. -/
def isqrt (x : Nat) : Nat := isqrtGo x 128 0

/-- Ceiling of the square root. -/
def csqrt (x : Nat) : Nat := let r := isqrt x; if r * r = x then r else r + 1

/-- Ceiling division. -/
def cdiv (a b : Nat) : Nat := (a + b - 1) / b

/-- floor(x + 1/2) of a quotient, for the roundings that the manual writes as round (assumption log 6). -/
def roundDiv (a : Int) (b : Nat) : Int := (2 * a + b) / (2 * b : Nat)

/-- Arc tangents of 2^−i in 10^−12 rad. -/
def atanTable : List Int :=
  [785398163397, 463647609001, 244978663127, 124354994547, 62418809996, 31239833430, 15623728620, 7812341060, 3906230132,
   1953122516, 976562190, 488281211, 244140620, 122070312, 61035156, 30517578, 15258789, 7629395, 3814697, 1907349, 953674]
  ++ [476837, 238419, 119209, 59605, 29802, 14901, 7451, 3725, 1863, 931, 466, 233, 116, 58, 29, 15, 7, 4, 2, 1]

/-- Rotation of a vector with x ≥ 0 onto the x axis; the angle turned through. -/
def atanGo : List Int → Nat → Int → Int → Int → Int
  | [], _, _, _, z => z
  | t :: l, i, x, y, z =>
    if 0 < y then atanGo l (i + 1) (x + y / 2 ^ i) (y - x / 2 ^ i) (z + t)
    else if y < 0 then atanGo l (i + 1) (x - y / 2 ^ i) (y + x / 2 ^ i) (z - t)
    else z

/-- The angle of a vector in 10^−12 rad. -/
def angleOf (y x : Int) : Int :=
  if x < 0 then (if 0 ≤ y then 3141592653590 else -3141592653590) + atanGo atanTable 0 (-x * 2 ^ 50) (-y * 2 ^ 50) 0
  else atanGo atanTable 0 (x * 2 ^ 50) (y * 2 ^ 50) 0

/-- A vector turned by an angle of at most a right angle, in 10^−12 rad; every turn lengthens it by the same factor. -/
def turnGo : List Int → Nat → Int → Int → Int → Int × Int
  | [], _, x, y, _ => (x, y)
  | t :: l, i, x, y, z =>
    if 0 ≤ z then turnGo l (i + 1) (x - y / 2 ^ i) (y + x / 2 ^ i) (z - t) else turnGo l (i + 1) (x + y / 2 ^ i) (y - x / 2 ^ i) (z + t)

/-- A turn of one cycle in 10^−12 rad. -/
def cyclePr : Int := 6283185307180

/-- Cosine and sine of an angle in 2^−24 cycle, both times one common factor. -/
def cosSin24 (d : Int) : Int × Int :=
  let x := (d + 2 ^ 23) % 2 ^ 24 - 2 ^ 23
  let turn (x : Int) : Int × Int := turnGo atanTable 0 (2 ^ 50) 0 (roundDiv (x * cyclePr) (2 ^ 24))
  if x.natAbs ≤ 2 ^ 22 then turn x
  else
    let p := turn (if 0 ≤ x then x - 2 ^ 23 else x + 2 ^ 23)
    (-p.1, -p.2)

/-- The direction of a vector in 2^−24 cycle, between −2^23 and 2^23. -/
def dir24 (y x : Int) : Int := roundDiv (angleOf y x * 2 ^ 24) cyclePr.toNat

/-- The value at a key of a list kept in ascending key order. -/
def kget {α : Type} (l : List (Nat × α)) (k : Nat) : Option α := (l.find? (fun p => p.1 == k)).map Prod.snd

/-- A list in ascending key order with one key set. -/
def kset {α : Type} : List (Nat × α) → Nat → α → List (Nat × α)
  | [], k, v => [(k, v)]
  | (k', v') :: l, k, v =>
    if k < k' then (k, v) :: (k', v') :: l
    else if k = k' then (k, v) :: l
    else (k', v') :: kset l k v

/-- A list in key order without one key. -/
def kdel {α : Type} (l : List (Nat × α)) (k : Nat) : List (Nat × α) := l.filter (fun p => p.1 != k)

/-- A list in key order with the value at a key changed, or started from a default. -/
def kmod {α : Type} (l : List (Nat × α)) (k : Nat) (d : α) (f : α → α) : List (Nat × α) :=
  kset l k (f ((kget l k).getD d))

/-- An element put into a sorted list, after those that do not exceed it. -/
def insertBy {α : Type} (le : α → α → Bool) (x : α) : List α → List α
  | [] => [x]
  | y :: l => if le y x then y :: insertBy le x l else x :: y :: l

/-- A list sorted, equal elements in their order. -/
def sortBy {α : Type} (le : α → α → Bool) (l : List α) : List α := l.foldl (fun a x => insertBy le x a) []

/-- The element at an index of a list, or a default. -/
def nth {α : Type} (l : List α) (i : Nat) (d : α) : α := l.getD i d

/-- A list with the element at an index changed. -/
def lmod {α : Type} (l : List α) (i : Nat) (f : α → α) : List α := l.modify i f

/-- A vector with the element at an index changed; an index past the end changes nothing. -/
def vmod {α : Type} {n : Nat} (v : Vector α n) (i : Nat) (f : α → α) : Vector α n :=
  if h : i < n then v.set i (f v[i]) h else v

/-- The element of a vector at an index, or a default. -/
def vget {α : Type} {n : Nat} (v : Vector α n) (i : Nat) (d : α) : α :=
  if h : i < n then v[i] else d

end Sys2Proof.Machine
end

