-- ==== Sys2Proof/Machine/Regs.lean ====
section
/-! DEFINITION. Regs.lean: the registers with no behaviour of their own: which bits of which offset a master may
write, and what they hold at reset (00_scope.md R5 to R9, 21_address_map.md R579 to R586). A field whose write
starts something, and a field that reports state held elsewhere, is no bit of this table. -/

namespace Sys2Proof.Machine

open Sys2Proof

/-- A family of registers: count registers, stride bytes apart, with their writable bits by access code (R7). -/
structure RegRow where
  base   : Nat
  stride : Nat := 4
  count  : Nat := 1
  /-- Held in the AON island, or kept across a main-die reset (R8, R9, R588). -/
  aon    : Bool := false
  rst    : Nat := 0
  rw     : Nat := 0
  rwl    : Nat := 0
  w1c    : Nat := 0
  w1s    : Nat := 0
  deriving DecidableEq, Repr

/-- SYS (03_modes_power_reset.md), PARISON (02_parison_image.md) and TIME (04_timebase.md). -/
def regTableA : List RegRow :=
  [ { base := 0x000010, rst := 0x2, rwl := 0x3, w1s := 0x80000000 },
    { base := 0x000018, aon := true, rst := 0x1, w1c := 0xFF },
    { base := 0x00001C, aon := true, w1c := 0x1F },
    { base := 0x000020, aon := true, rw := 0x1F },
    { base := 0x000048, aon := true, rst := 0x0A000A00, rw := 0xFFFFFFFF },
    { base := 0x00004C, aon := true, rst := 0x2C882710, rw := 0xFFFFFFFF },
    { base := 0x000050, aon := true, rst := 0x1E, rw := 0x3FF },
    { base := 0x000054, aon := true, rst := 0x2, rw := 0xFFFF007F },
    { base := 0x000058, aon := true, rw := 0xFFFFFFFF },
    { base := 0x010008, count := 2, rw := 0xFFFFFFFF },
    { base := 0x010010, rw := 0xFFFFFF },
    { base := 0x010014, aon := true, rw := 0x3 },
    { base := 0x01003C, w1c := 0x7 },
    { base := 0x010040, rw := 0x7 },
    { base := 0x020000, rst := 0x20, rw := 0x10, rwl := 0x28, w1s := 0x80000000 },
    { base := 0x02002C, w1c := 0xFFFF },
    { base := 0x020030, rw := 0xFFFF },
    { base := 0x020040, stride := 0x20, count := 2, rw := 0x20000000 },
    { base := 0x02005C, stride := 0x20, count := 2, rst := 0x7D0, rw := 0xFFFF },
    { base := 0x020080, rst := 0x80000000, rw := 0x80FFFFFF },
    { base := 0x020084, rw := 0xFFFF },
    { base := 0x0200A0, stride := 8, count := 4, rw := 0xFFFFFFFF },
    { base := 0x0200A4, stride := 8, count := 4, rw := 0x8000FFFF, w1c := 0x40000000 },
    { base := 0x0200C0, rst := 0x100, rw := 0x3FF },
    { base := 0x0200C8, rw := 0x7 },
    { base := 0x0200E0, rst := 0x80000000, rw := 0x80000000 },
    { base := 0x020100, count := 12, rw := 0xFFFFFFFF } ]

/-- GNSS, RTK, LODE, GRID and SETPT (05 to 09). -/
def regTableB : List RegRow :=
  [ { base := 0x030000, w1s := 0x80000000 },
    { base := 0x030020, rw := 0x33 },
    { base := 0x030038, rst := 0x02140C08, rw := 0x03FFFFFF },
    { base := 0x030040, rw := 0x3F },
    { base := 0x030050, rwl := 0x0FFFFFFF },
    { base := 0x030054, count := 3, rwl := 0xFFFFFFFF },
    { base := 0x030070, rw := 0x1FF },
    { base := 0x030090, w1c := 0xFF },
    { base := 0x030094, rw := 0xFF },
    { base := 0x040000, w1s := 0x80000000 },
    { base := 0x040034, rw := 0x7, rwl := 0xFFFFF000 },
    { base := 0x040070, rw := 0x8000000F },
    { base := 0x040080, rw := 0x7F },
    { base := 0x040090, w1c := 0x3F },
    { base := 0x040094, rw := 0x3F },
    { base := 0x050000, rst := 0x3, rwl := 0x3, w1s := 0x80000000 },
    { base := 0x050008, rw := 0x3F },
    { base := 0x050010, rw := 0x13F },
    { base := 0x050020, rw := 0x13FFF },
    { base := 0x050034, rw := 0x3FFFFF },
    { base := 0x050040, rw := 0x10F },
    { base := 0x050050, w1c := 0x3F },
    { base := 0x050054, rw := 0x3F },
    { base := 0x060000, rst := 0x1, rwl := 0x1, w1s := 0x80000000 },
    { base := 0x060040, rw := 0x7F },
    { base := 0x060050, rw := 0xF },
    { base := 0x060060, w1c := 0x7F },
    { base := 0x060064, rw := 0x7F },
    { base := 0x070000, rst := 0x3, rwl := 0x3, w1s := 0x80000000 },
    { base := 0x070010, rw := 0x7F },
    { base := 0x070050, rw := 0x7 },
    { base := 0x070060, w1c := 0x3F },
    { base := 0x070064, rw := 0x3F } ]

/-- RADIO, QUENCH, SWITCH, TWIN, FAULT and DISPATCH (10 to 15). -/
def regTableC : List RegRow :=
  [ { base := 0x080000, rwl := 0x3, w1s := 0x80000000 },
    { base := 0x080020, rw := 0x3 },
    { base := 0x08003C, rwl := 0x7F7F7F },
    { base := 0x080040, rst := 0x1F, rw := 0x3F },
    { base := 0x080060, rw := 0x7FF },
    { base := 0x08006C, count := 2, rw := 0xFFFFFFFF },
    { base := 0x080074, rw := 0x7F373F },
    { base := 0x080090, rst := 0x300, rw := 0x30F },
    { base := 0x0800A0, w1c := 0x3FF },
    { base := 0x0800A4, rw := 0x3FF },
    { base := 0x090000, aon := true, rst := 0x2, rw := 0x1, rwl := 0x2, w1s := 0x80000000 },
    { base := 0x090030, count := 4, aon := true, rst := 0xFFFFFFFF, rw := 0xFFFFFFFF },
    { base := 0x090050, aon := true, rst := 0x78, rwl := 0xFF },
    { base := 0x090054, aon := true, rst := 0x88B50000, rwl := 0xFFFF0FFF },
    { base := 0x090058, aon := true, rst := 0x00524B03, rwl := 0xFFFFFFFF },
    { base := 0x09005C, aon := true, rst := 0x1096, rwl := 0xFFFF },
    { base := 0x090070, aon := true, rw := 0xF },
    { base := 0x090080, aon := true, w1c := 0xFF },
    { base := 0x090084, aon := true, rw := 0xFF },
    { base := 0x0A0000, rst := 0x1, rwl := 0x1, w1s := 0x80000000 },
    { base := 0x0A0010, rw := 0xF },
    { base := 0x0A0020, rw := 0xF },
    { base := 0x0A0030, rw := 0x1F0F },
    { base := 0x0A0044, rw := 0x7 },
    { base := 0x0A0090, w1c := 0x3F },
    { base := 0x0A0094, rw := 0x3F },
    { base := 0x0B0000, rst := 0x1, rwl := 0x1, w1s := 0x80000000 },
    { base := 0x0B001C, rwl := 0x7F7F },
    { base := 0x0B0030, rw := 0xF },
    { base := 0x0B0040, w1c := 0xFF },
    { base := 0x0B0044, rw := 0xFF },
    { base := 0x0C0000, rwl := 0xF, w1s := 0x80000000 },
    { base := 0x0C0020, rw := 0x1FFF },
    { base := 0x0C0040, rw := 0x7 },
    { base := 0x0C0050, w1c := 0x1F },
    { base := 0x0C0054, rw := 0x1F },
    { base := 0x0D0000, w1s := 0x80000000 },
    { base := 0x0D0008, rst := 0x22000000, rwl := 0xFFFFFFFF },
    { base := 0x0D000C, rwl := 0xFFFFFFFF },
    { base := 0x0D0010, rw := 0xFF },
    { base := 0x0D0300, count := 16, rst := 0xFFFFFFFF, rw := 0xFFFFFFFF } ]

/-- HOSTIF, GEODE, ASSAY, STRATA and IOCTL (16 to 20), and the MSI-X table (R474, R580). -/
def regTableD : List RegRow :=
  [ { base := 0x0E0000, w1s := 0x80000000 },
    { base := 0x0E000C, rwl := 0xF0F },
    { base := 0x0E0020, w1c := 0xF },
    { base := 0x0E0024, rw := 0xF },
    { base := 0x0E0030, rw := 0x7 },
    { base := 0x0E0800, stride := 0x40, count := 16, rw := 0xFFFFFFFF },
    { base := 0x0E0804, stride := 0x40, count := 16, rw := 0xFFFFFFFF },
    { base := 0x0E0C00, stride := 0x40, count := 16, rw := 0xFFFFFFFF },
    { base := 0x0E0C04, stride := 0x40, count := 16, rw := 0xFFFFFFFF },
    { base := 0x0E0C14, stride := 0x40, count := 16, rw := 0xFFFFFFFF },
    { base := 0x0E0C18, stride := 0x40, count := 16, rw := 0xFFFFFFFF },
    { base := 0x0E0C1C, stride := 0x40, count := 16, rst := 0xFFFFFF00, rw := 0xFFFFFF00 },
    { base := 0x0E0C20, stride := 0x40, count := 16, rw := 0xFFFF },
    { base := 0x0F0000, w1s := 0x80000000 },
    { base := 0x0F0090, rw := 0x7F },
    { base := 0x0F0140, rw := 0x7 },
    { base := 0x0F0150, rw := 0x3 },
    { base := 0x0F0160, w1c := 0xF },
    { base := 0x0F0164, rw := 0xF },
    { base := 0x100000, w1s := 0x80000000 },
    { base := 0x100008, rw := 0xF },
    { base := 0x1000A0, w1c := 0x3F },
    { base := 0x1000A4, rw := 0x3F },
    { base := 0x110000, aon := true, rst := 0x3, rwl := 0xF, w1s := 0x80000000 },
    { base := 0x11002C, aon := true, rw := 0x3F },
    { base := 0x110030, aon := true, w1c := 0x1F },
    { base := 0x110034, aon := true, rw := 0x1F },
    { base := 0x120000, w1s := 0x80000000 },
    { base := 0x120010, count := 3, rwl := 0xFFFFFFFF },
    { base := 0x12001C, rw := 0xFFFFFF },
    { base := 0x120020, rw := 0xFFFFFF },
    { base := 0x120028, rst := 0xFFFFFF, rw := 0xFFFFFF },
    { base := 0x120030, rwl := 0xFFFF },
    { base := 0x120038, rwl := 0xFF },
    { base := 0x120050, stride := 0x10, count := 2, rst := 0x800001B2, rw := 0xF800FFFF },
    { base := 0x120070, rst := 0x8000005A, rwl := 0x8000007F },
    { base := 0x120080, w1c := 0x7 },
    { base := 0x120084, rw := 0x7 },
    { base := 0xF00000, stride := 16, count := 128, rw := 0xFFFFFFFC },
    { base := 0xF00004, stride := 16, count := 128, rw := 0xFFFFFFFF },
    { base := 0xF00008, stride := 16, count := 128, rw := 0xFFFFFFFF },
    { base := 0xF0000C, stride := 16, count := 128, rst := 0x1, rw := 0x1 } ]

/-- An offset is one of a row's registers. -/
def RegRow.has (r : RegRow) (off : Nat) : Bool :=
  r.base ≤ off && (off - r.base) % r.stride == 0 && (off - r.base) / r.stride < r.count

/-- The row of an offset; none for an offset whose every field has behaviour of its own, and for an unassigned
offset (R581). -/
def regRow (off : Nat) : Option RegRow :=
  (regTableA.find? (fun r => r.has off)) <|> (regTableB.find? (fun r => r.has off)) <|>
  (regTableC.find? (fun r => r.has off)) <|> (regTableD.find? (fun r => r.has off))

/-- What the table's fields of an offset hold at reset. -/
def regReset (off : Nat) : Word :=
  match regRow off with
  | some r => BitVec.ofNat 32 r.rst
  | none => 0

/-- What the table's fields of an offset hold now. -/
def regWord (s : State) (off : Nat) : Word := (kget s.regs off).getD (regReset off)

/-- A field of a register. -/
def regFld (s : State) (off hi lo : Nat) : Nat := fld (regWord s off) hi lo

/-- A one-bit field of a register. -/
def regBit (s : State) (off i : Nat) : Bool := bit (regWord s off) i

/-- Registers with one word set. A word equal to the reset value is not listed. -/
def regsPut (l : List (Nat × Word)) (off : Nat) (w : Word) : List (Nat × Word) :=
  if w = regReset off then kdel l off else kset l off w

/-- A register word set by the part itself. -/
def setReg (off : Nat) (w : Word) (s : State) : State := { s with regs := regsPut s.regs off w }

/-- A field of a register set by the part itself. -/
def setRegFld (off hi lo v : Nat) (s : State) : State :=
  let w := (regWord s off).toNat
  setReg off (BitVec.ofNat 32 (w - (bitsOf w hi lo) * 2 ^ lo + (v % 2 ^ (hi + 1 - lo)) * 2 ^ lo)) s

/-- Bits set in a register by the part itself. -/
def orReg (off : Nat) (m : Word) (s : State) : State := setReg off (regWord s off ||| m) s

/-- The CTRL register whose bit 31 is the lock bit of the block an offset lies in (R8); PARISON has none. -/
def lockReg (off : Nat) : Option Nat :=
  if off / 0x10000 = 1 ∨ 0x130000 ≤ off then none else some (off / 0x10000 * 0x10000)

/-- The block's lock bit is set (R8). -/
def locked (s : State) (off : Nat) : Bool :=
  match lockReg off with
  | some c => regBit s c 31
  | none => false

/-- The word that a write leaves, by the access codes and the lock bit (R7, R8, R11): RWL bits follow the lock
as it stood before this write. -/
def writtenWord (r : RegRow) (lock : Bool) (old new : Word) : Word :=
  let m : Word := BitVec.ofNat 32 (if lock then r.rw else r.rw ||| r.rwl)
  let w := (old &&& ~~~m) ||| (new &&& m)
  (w &&& ~~~(new &&& BitVec.ofNat 32 r.w1c)) ||| (new &&& BitVec.ofNat 32 r.w1s)

/-- The values that a write cannot leave: SYS_PWR_THR holds
RES_CRIT_MV at 9,000 or above, GNSS_JAM_THR holds JAM_OFF at JAM_ON or below, and IOCTL_GPIO_FUNC leaves a pin whose written value is above 4
(03_modes_power_reset.md SYS_PWR_THR; 20_pins_electrical.md). -/
def heldWord (off : Nat) (old w : Word) : Word :=
  if off = 0x4C then
    if fld w 15 0 < 9000 then BitVec.ofNat 32 (fld w 31 16 * 65536 + 9000) else w
  else if off = 0x030038 then
    if fld w 15 8 < fld w 7 0 then BitVec.ofNat 32 (fld w 31 8 * 256 + fld w 15 8) else w
  else if 0x120010 ≤ off ∧ off ≤ 0x120018 then
    BitVec.ofNat 32 ((List.range 8).foldl (fun a j =>
      a + (if fld w (4 * j + 3) (4 * j) ≤ 4 then fld w (4 * j + 3) (4 * j) else fld old (4 * j + 3) (4 * j)) * 16 ^ j) 0)
  else if off = 0x040034 then
    if 4001 ≤ fld w 23 12 ∧ fld w 23 12 ≤ 4095 then w else BitVec.ofNat 32 (fld w 30 0)
  else w

/-- A 32-bit write of the fields of the table (R5, R7, R8). -/
def regWrite (off : Nat) (v : Word) (s : State) : State :=
  match regRow off with
  | some r => setReg off (heldWord off (regWord s off) (writtenWord r (locked s off) (regWord s off) v)) s
  | none => s

/-- Registers left by a main-die reset: those of the AON island (R8, R9, R588, R97). -/
def regsAon (l : List (Nat × Word)) : List (Nat × Word) :=
  l.filter (fun p => match regRow p.1 with | some r => r.aon | none => false)

end Sys2Proof.Machine
end

