-- ==== Sys2Proof/Machine/Ops.lean ====
section
/-! DEFINITION. Ops.lean: the named operations over the whole state that every family uses: reaching the register
interface, free values, counters, the model clock with the timebase, and the Strata writer's intake. -/

namespace Sys2Proof.Machine

open Sys2Proof

/-- What every meaning answers. -/
abbrev Out := Host.Outcome State Fault Refusal

/-- An access over the register interface: it reaches the part only while the main die is out of reset, because the
host interface, the interconnect and the field cores stand in the main die (R588, R93; assumption log 7). -/
def bus (s : State) (f : State → State) : State := if s.aon.mainRun then f s else s

/-- An event inside the always-on island: it happens only while the island is powered (R16). -/
def onAon (s : State) (f : State → State) : State := if s.aon.powered then f s else s

/-- The next free value. -/
def freeVal (s : State) : Nat := Config.freeNat s.fresh

/-- The state after a free value is drawn. -/
def drawn (s : State) : State := { s with fresh := s.fresh + 1 }

/-- Key of an RC counter: its register offset and what its SEL register selects. -/
def countKey (off sel : Nat) : Nat := off * 2 ^ 24 + sel

/-- Events that a counter holds (R7). -/
def countOf (s : State) (off sel : Nat) : Nat := (kget s.counts (countKey off sel)).getD 0

/-- A counter set to a number of events; 0 is not listed. -/
def setCount (off sel n : Nat) (s : State) : State :=
  { s with counts := if n = 0 then kdel s.counts (countKey off sel) else kset s.counts (countKey off sel) n }

/-- A counter with n more events (R11). -/
def bumpBy (off sel n : Nat) (s : State) : State := setCount off sel (countOf s off sel + n) s

/-- A counter with one more event (R11). -/
def bump (off sel : Nat) (s : State) : State := bumpBy off sel 1 s

/-- What a counter field of w bits shows of its events; past its width no rule gives it (assumption log 5). -/
def countShown (w n : Nat) : Nat := if n < 2 ^ w then n else Config.counterOverflow n % 2 ^ w

/-- 2^40, the sub-nanosecond scale of R108. -/
def q40 : Int := 2 ^ 40

/-- The slew limit in units of 2^−40 (R113). -/
def slewUnits (t : TimeB) : Nat := t.slewPpm * 2 ^ 40 / 10 ^ 6

/-- What is left of a signed amount after at most m of it is spent. -/
def spend (x : Int) (m : Nat) : Int :=
  if x.natAbs ≤ m then 0 else if 0 ≤ x then x - m else x + m

/-- A domain after d raw ticks of which its slew term may use m units (R108, R114); a return error counts as slow until it is spent
(R133). -/
def Domain.run (x : Domain) (d m : Nat) : Domain :=
  { x with off40 := x.off40 + x.rate.toInt * d + (x.pend40 - spend x.pend40 m), pend40 := spend x.pend40 m
           slow := x.slow && decide (spend x.pend40 m ≠ 0) }

/-- The timebase after d raw ticks: the residual's decay takes precedence over the selected domain's slew
term, and their magnitudes together never exceed the slew limit (R108, R109, R113 to R115). -/
def TimeB.run (t : TimeB) (d : Nat) : TimeB :=
  let m := slewUnits t * d
  let r := spend t.resid40 m
  let used := t.resid40.natAbs - r.natAbs
  { t with
    raw := t.raw + d
    resid40 := r
    p := t.p.run d (if t.selA then m else m - used)
    a := t.a.run d (if t.selA then m - used else m) }

/-- The selected domain (R112). -/
def TimeB.sel (t : TimeB) : Domain := if t.selA then t.a else t.p

/-- Time of a domain in 2^−40 ns (R108). -/
def domTime40 (t : TimeB) (x : Domain) : Int := t.raw * q40 + x.off40

/-- Served time in 2^−40 ns (R109). -/
def served40 (t : TimeB) : Int := domTime40 t t.sel + t.resid40

/-- Served time in whole ns, a 64-bit count (R109). -/
def servedOf (t : TimeB) : Nat := unsignedOf 64 (served40 t / q40)

/-- Served time. -/
def now (s : State) : Nat := servedOf s.time

/-- The part d ns later: the model clock, the AON time while the island is powered, and the timebase while the main
die is out of reset (R16, R106). -/
def advance (d : Nat) (s : State) : State :=
  { s with
    clk := s.clk + d
    aon := { s.aon with aonNs := if s.aon.powered then s.aon.aonNs + d else s.aon.aonNs }
    time := if s.aon.mainRun then s.time.run d else s.time }

/-- The part when served time first reaches a target, found by at most n steps that never overshoot: served time
gains at most 0.22 % on the raw count (R108, R113). -/
@[irreducible] def advanceGo (target : Nat) : Nat → State → State
  | 0, s => s
  | n + 1, s =>
    if target ≤ now s ∨ ¬ s.aon.mainRun then s
    else advanceGo target n (advance (max 1 ((target - now s) * 1000 / 1003)) s)

/-- The part when served time first reaches a target; at once if it is there already. -/
def advanceTo (target : Nat) (s : State) : State := advanceGo target ((target - now s) * 2) s

/-- The part when the model clock reaches a moment; at once if it is there already. -/
def advanceClk (at_ : Nat) (s : State) : State := advance (at_ - s.clk) s

/-- d = (t − now) mod 2^48 tells the future from the past (R120): a target is past unless 0 < d < 2^47. -/
def isPast (target nowNs : Nat) : Bool :=
  let d := (target % 2 ^ 48 + 2 ^ 48 - nowNs % 2 ^ 48) % 2 ^ 48
  !(0 < d && d < 2 ^ 47)

/-- The TIME field of a Strata record and whether AON_TIME is set (R541). -/
def recordTime (s : State) : Nat × Bool :=
  if s.aon.mainRun ∧ s.aon.formed then (now s, false)
  else match s.aon.aligned with
    | some (t0, a0) => ((t0 + (s.aon.aonNs - a0) * 32768 / 10 ^ 9 * 30518) % 2 ^ 64, true)
    | none => (s.aon.aonNs % 2 ^ 64, true)

/-- A machine's filter emptied, with the epochs it was to solve (R198, R199, R200). -/
def emptyFilter (x : RtkMach) : RtkMach :=
  { x with filter := none, resetNext := false, epochs := [], ints := [], holdCount := 0, held := false }

/-- A machine's RTK state. -/
def rtkMach (s : State) (m : Nat) : RtkMach := (kget s.rtk.machs m).getD {}

/-- A machine's RTK state changed. -/
def setRtkMach (m : Nat) (f : RtkMach → RtkMach) (s : State) : State :=
  { s with rtk.machs := kmod s.rtk.machs m {} f }

/-- Commands that waited for the epoch in process act before the next (R200). -/
def actNext (r : RtkMach) : RtkMach :=
  let q := if r.resetNext then { emptyFilter r with epochs := r.epochs } else r
  if r.suspendNext then { q with suspended := true, suspendNext := false } else q

/-- Oldest machine epochs that are complete: epochs of one machine are solved in epoch order (R196). -/
def readyEpochs (s : State) : List (Nat × MachEpoch) :=
  s.rtk.machs.filterMap (fun p => match p.2.epochs with | e :: _ => if e.doneAt.isSome then some (p.1, e) else none | [] => none)

/-- The machine epoch that the engine takes next: the first to have become complete (R196). -/
def currentEpoch (s : State) : Option (Nat × MachEpoch) :=
  (sortBy (fun (a b : Nat × MachEpoch) => decide (a.2.order ≤ b.2.order)) (readyEpochs s)).head?

/-- A machine epoch leaves the engine: the commands that waited for it act, and a machine off the list goes with its last (R200). -/
def epochGone (m : Nat) (e : MachEpoch) (s : State) : State :=
  let s := setRtkMach m (fun r => actNext { r with epochs := r.epochs.filter (fun y => y != e) }) s
  if (rtkMach s m).leaving ∧ (rtkMach s m).epochs = [] then { s with rtk.machs := kdel s.rtk.machs m } else s

/-- Source byte of a record that a block caused itself (R539). -/
def srcSelf : Nat := 0xF0

/-- An event behind the queued ones. Events of one instant stand in ascending block index (R552). -/
def insertEvent (e : StEvent) : List StEvent → List StEvent
  | [] => [e]
  | x :: l => if x.time = e.time ∧ e.code.toNat / 256 < x.code.toNat / 256 then e :: x :: l else x :: insertEvent e l

/-- An event enters the writer's queue of 256, or is counted as lost (R542). -/
def record (code source sev p0 p1 p2 : Nat) (s : State) : State :=
  if ¬ s.aon.powered then s
  else if s.strata.queue.length < 256 then
    let t := recordTime s
    let e : StEvent :=
      { code := BitVec.ofNat 16 code, source := BitVec.ofNat 8 source,
        sev := BitVec.ofNat 8 (sev % 16 + 128 * b2n t.2), time := BitVec.ofNat 64 t.1,
        p0 := BitVec.ofNat 32 p0, p1 := BitVec.ofNat 32 p1, p2 := BitVec.ofNat 32 p2 }
    { s with strata.queue := insertEvent e s.strata.queue }
  else
    orReg 0x110030 0x8 (bump 0x110028 0 { s with strata.lostDue := s.strata.lostDue + 1 })

/-- An event that a block caused itself. -/
def note (code sev p0 p1 p2 : Nat) (s : State) : State := record code srcSelf sev p0 p1 p2 s

end Sys2Proof.Machine
end

