-- ==== Sys2Proof/Machine/Flags.lean ====
section
/-! DEFINITION. Flags.lean: the interrupt status bits of each block, and the lines and pins that follow from them. -/

namespace Sys2Proof.Machine

open Sys2Proof

/-- INT_STATUS of each block, by block index (R448, R582). -/
def intStatusOff : Nat → Nat
  | 0x00 => 0x00001C
  | 0x01 => 0x01003C
  | 0x02 => 0x02002C
  | 0x03 => 0x030090
  | 0x04 => 0x040090
  | 0x05 => 0x050050
  | 0x06 => 0x060060
  | 0x07 => 0x070060
  | 0x08 => 0x0800A0
  | 0x09 => 0x090080
  | 0x0A => 0x0A0090
  | 0x0B => 0x0B0040
  | 0x0C => 0x0C0050
  | 0x0E => 0x0E0020
  | 0x0F => 0x0F0160
  | 0x10 => 0x1000A0
  | 0x11 => 0x110030
  | 0x12 => 0x120080
  | _ => 0

/-- PARISON's block index. -/
def bPARISON : Nat := 0x01

/-- INT_EN stands one word above INT_STATUS in every block. -/
def intEnOff (b : Nat) : Nat := intStatusOff b + 4

/-- Hardware sets one bit of a block's INT_STATUS (R11: the bit stays set whatever a write clears in that cycle). -/
def raise (b i : Nat) (s : State) : State :=
  if intStatusOff b = 0 then s else orReg (intStatusOff b) (BitVec.ofNat 32 (2 ^ i)) s

/-- A block's interrupt line: any enabled status bit. -/
def intLine (s : State) (b : Nat) : Bool :=
  intStatusOff b != 0 && (regWord s (intStatusOff b) &&& regWord s (intEnOff b)) != 0

/-- SMBALERT_N is asserted while any enabled bit of SYS_INT_STATUS is set (IOCTL_I2C_CFG). -/
def smbAlert (s : State) : Bool := intLine s 0

end Sys2Proof.Machine
end

