-- ==== Sys2Proof/Machine/CoreMem.lean ====
section
/-! DEFINITION. CoreMem.lean: the field cores' memory and their physical map (15_cores_dispatcher.md R451, R452). The caches are coherent,
so memory is one list of bytes, whoever writes it. -/

namespace Sys2Proof.Machine

open Sys2Proof

/-- What a byte that nothing has written reads as: no rule gives what the LPDDR5X holds after power-on (DESIGN CHOICE, assumption
log 30). -/
def memDefault : BitVec 8 := 0

/-- One byte of a memory. -/
def cellGet (l : List Host.Cell) (a : Nat) : BitVec 8 := ((l.find? (fun c => c.1 == a)).map Prod.snd).getD memDefault

/-- One byte of a memory written, in canonical form. -/
def cellSet (a : Nat) (v : BitVec 8) : List Host.Cell → List Host.Cell
  | [] => if v = memDefault then [] else [(a, v)]
  | (b, w) :: l =>
    if a < b then (if v = memDefault then (b, w) :: l else (a, v) :: (b, w) :: l)
    else if a = b then (if v = memDefault then l else (a, v) :: l)
    else (b, w) :: cellSet a v l

/-- Bytes written from an address on. -/
def cellsPut (a : Nat) : Bytes → List Host.Cell → List Host.Cell
  | [], l => l
  | v :: r, l => cellsPut (a + 1) r (cellSet a v l)

/-- The canonical form: addresses strictly rising, and no byte that an unlisted address reads as. -/
def Memory.wf : List Host.Cell → Bool
  | [] => true
  | [c] => c.2 != memDefault
  | c :: e :: l => c.2 != memDefault && decide (c.1 < e.1) && Memory.wf (e :: l)

/-- Regions of a core's physical map (R452). -/
inductive CoreRegion where
  | flash | register | memory | part
  deriving DecidableEq, Repr

/-- The region of a physical address; none outside the map (R452). -/
def coreRegion (a : Nat) : Option CoreRegion :=
  if 0x020000000 ≤ a ∧ a ≤ 0x02FFFFFFF then some .flash
  else if 0x0F0000000 ≤ a ∧ a ≤ 0x0F3FFFFFF then some .register
  else if 0x100000000 ≤ a ∧ a ≤ 0x4BFFFFFFF then some .memory
  else if 0x4C0000000 ≤ a ∧ a ≤ 0x4FFFFFFFF then some .part
  else none

/-- Kinds of a core's access. -/
inductive CoreAcc where
  | fetch | load | store | atomic
  deriving DecidableEq, Repr

/-- An access of a core of a number of bytes keeps the rule of its region; any other raises an access fault (R452). -/
def coreMay (k : CoreAcc) (a n : Nat) : Bool :=
  match coreRegion a, coreRegion (a + n - 1) with
  | some .flash, some .flash => k == .fetch || k == .load
  | some .register, some .register => (k == .load || k == .store) && n == 4 && a % 4 == 0
  | some .memory, some .memory => true
  | _, _ => false

/-- A write of a block of the part into core memory (R451); outside the cores' part of the LPDDR5X it lands nowhere. -/
def coreStore (a : Nat) (bs : Bytes) (s : State) : State :=
  if coreRegion a = some .memory ∧ coreRegion (a + bs.length - 1) = some .memory then { s with coreMem := cellsPut a bs s.coreMem } else s

/-- An owner's rank is that of a field core (R475). -/
def coreOwned (owner : Nat) : Bool := decide (2 ≤ owner ∧ owner < 10)

end Sys2Proof.Machine
end

