-- ==== Sys2Proof/Machine/Queues.lean ====
section
/-! DEFINITION. Queues.lean: the host-facing queues: posting to event queues, the life of a command entry from fetch
to commit, discards and the cullet report (16_host_interface.md R484 to R497; 14_faults_recovery.md R441 to R447). -/

namespace Sys2Proof.Machine

open Sys2Proof

/-- HOSTIF's block index. -/
def bHOSTIF : Nat := 0x0E

/-- FAULT's block index. -/
def bFAULT : Nat := 0x0C

/-- What the controller holds of a resource. -/
def resOf (s : State) (k : ResKind) (i : Nat) : ResRec :=
  (s.fault.res.find? (fun r => r.kind == k && r.index == i)).getD { kind := k, index := i }

/-- A resource's record replaced. -/
def setRes (r : ResRec) (s : State) : State :=
  { s with fault.res := s.fault.res.filter (fun x => !(x.kind == r.kind && x.index == r.index)) ++ [r] }

/-- A resource is under its self-test (R438). -/
def resTesting (s : State) (k : ResKind) (i : Nat) : Bool := (resOf s k i).state == .testing

/-- A resource of which there is one is under its self-test, so that its work waits (R438). -/
def underTest (s : State) (k : ResKind) : Bool := resTesting s k 0

/-- The SRAM bank of a queue is under its self-test: its fetches and posts are held (R438, R488). -/
def sramTesting (s : State) (n : Nat) : Bool := resTesting s .queueSram (n / 4)

/-- A command queue. -/
def cq (s : State) (n : Nat) : CmdQueue := vget s.hostif.cqs n {}

/-- A command queue changed. -/
def setCq (n : Nat) (f : CmdQueue → CmdQueue) (s : State) : State :=
  { s with hostif.cqs := vmod s.hostif.cqs n f }

/-- An event queue. -/
def eq_ (s : State) (q : Nat) : EvtQueue := vget s.hostif.eqs q {}

/-- An event queue changed. -/
def setEq (q : Nat) (f : EvtQueue → EvtQueue) (s : State) : State :=
  { s with hostif.eqs := vmod s.hostif.eqs q f }

/-- A PAUSE_OUT pin is asserted: some queue that names it is above, and PAUSE_EN is set (R403, R487). -/
def pausePin (s : State) (pin : Nat) : Bool :=
  regBit s 0x0A0000 0 &&
  (s.switch.queues.any (fun p => p.2.above && (nth s.switch.qcfg p.1 {}).pause == some pin) ||
   (List.range 16).any (fun q => (eq_ s q).above && regFld s (0x0E0C1C + 0x40 * q) 15 8 == pin))

/-- SWITCH_PAUSE_STATUS. -/
def pausePins (s : State) : Nat := (List.range 8).foldl (fun a j => a + b2n (pausePin s j) * 2 ^ j) 0

/-- A change of queue depths; a PAUSE_OUT pin that changes with it sets PAUSE_CHANGE (R403). -/
def withPause (f : State → State) (s : State) : State :=
  let t := f s
  if pausePins t = pausePins s then t else raise 0x0A 2 t

/-- The hysteresis of R403: above from a depth over HIGH until a depth under LOW. -/
def aboveNext (above : Bool) (depth high low : Nat) : Bool := if above then !(depth < low) else high < depth

/-- An event queue's above flag after its depth changed. -/
def eqAbove (q : Nat) (s : State) : State :=
  let high := regFld s (0x0E0C1C + 0x40 * q) 31 16
  let low := regFld s (0x0E0C20 + 0x40 * q) 15 0
  setEq q (fun e => { e with above := aboveNext e.above e.ring.length high low }) s

/-- The part's writes reach the owner's memory: over PCIe only with the link up and Bus Master Enable set (R475). -/
def dmaOk (s : State) (owner : Nat) : Bool := owner != 1 || (s.hostif.linkUp && s.hostif.busMaster)

/-- An event queue takes entries: enabled, running, its owner's memory reachable, and its SRAM bank not under test. -/
def eqRuns (s : State) (q : Nat) : Bool :=
  (eq_ s q).en && (eq_ s q).state == .run && dmaOk s (eq_ s q).owner && !sramTesting s q

/-- A free entry: WRITE − HEAD < SIZE (R494). -/
def eqRoom (s : State) (q : Nat) : Bool :=
  eqRuns s q && ((eq_ s q).write - (eq_ s q).head).toNat < 2 ^ (eq_ s q).sizeLog2

/-- The mask bit of an MSI-X vector (R474). -/
def vectorMasked (s : State) (v : Nat) : Bool := regBit s (0xF0000C + 16 * v) 0

/-- The queue's MSI-X vector is signalled, or its pending bit set while it is masked (R474, R476, R494). -/
def eqSignal (q : Nat) (s : State) : State :=
  let s := setEq q (fun e => { e with pend := 0 }) s
  { s with hostif := { s.hostif with
      msix := kmod s.hostif.msix q 0 (· + 1)
      pba := if vectorMasked s q ∧ ¬ s.hostif.pba.contains q then s.hostif.pba ++ [q] else s.hostif.pba } }

/-- An entry and the shadow of WRITE written to the ring of a core-owned queue (R451, R494). The host's memory is outside the part. -/
def eqStore (q : Nat) (bs : Bytes) (s : State) : State :=
  let e := eq_ s q
  let addr (o : Nat) : Nat := (regWord s (0x0E0C00 + 0x40 * q + o)).toNat + (regWord s (0x0E0C04 + 0x40 * q + o)).toNat * 2 ^ 32
  if coreOwned e.owner then
    coreStore (addr 0x14) (leBytes 4 (e.write + 1).toNat) (coreStore (addr 0 + 64 * (e.write.toNat % 2 ^ e.sizeLog2)) (padTo 64 bs) s)
  else s

/-- One entry written to a queue with room, WRITE advanced, and the vector signalled when COAL_N entries are
pending or COAL_US is 0 (R494). -/
def eqPush (q : Nat) (bs : Bytes) (s : State) : State :=
  let c := s.clk
  let s := eqStore q bs s
  let s := setEq q (fun e => { e with
    ring := e.ring ++ [padTo 64 bs], write := e.write + 1, pend := e.pend + 1
    pendSince := if e.pend = 0 then c else e.pendSince }) s
  let s := withPause (eqAbove q) (bump 0x0E0034 2 s)
  if (eq_ s q).coalN ≤ (eq_ s q).pend ∨ (eq_ s q).coalUs = 0 then eqSignal q s else s

/-- Where an entry other than a solution goes: queue 0 in place of a SOLUTION or disabled queue (R495). -/
def eqTarget (s : State) (q : Nat) : Nat := if (eq_ s q).en ∧ ¬ (eq_ s q).solution then q else 0

/-- An entry for a queue that is disabled is dropped and counted (R488). -/
def eqLose (q : Nat) (s : State) : State :=
  raise bHOSTIF 2 (bump 0x0E0034 3 (setEq q (fun e => { e with lost := true }) s))

/-- A redirected entry is counted (R495). -/
def eqRedirect (q : Nat) (s : State) : State :=
  if eqTarget s q = q then s else raise bHOSTIF 3 (bump 0x0E0034 4 s)

/-- An entry for queue q can be disposed of now: its queue has room, or it is dropped because queue 0 is
disabled too. -/
def postable (s : State) (q : Nat) : Bool := eqRoom s (eqTarget s q) || !(eq_ s (eqTarget s q)).en

/-- A general entry is posted, redirected or dropped (R488, R494, R495). -/
def postEvent (q : Nat) (bs : Bytes) (s : State) : State :=
  let t := eqTarget s q
  if (eq_ s t).en then eqPush t bs (eqRedirect q s) else eqLose t s

/-- What a command's completion reports (R496). -/
structure CmdResult where
  hresult : Nat := 0
  result  : Nat := 1
  blocker : Nat := 0xFF
  allotId : Nat := 0
  cells   : Nat := 0
  cell    : Nat := 0
  arc     : Nat := 0
  deriving DecidableEq, Repr

/-- The completion entry (R496). -/
def completion (n : Nat) (e : CmdEntry) (r : CmdResult) : Bytes :=
  leBytes 1 1 ++ leBytes 1 n ++ leBytes 1 (byteAt e.raw 4) ++ leBytes 1 r.hresult ++ leBytes 4 e.seq.toNat
  ++ bytesAt e.raw 8 8 ++ leBytes 1 r.result ++ leBytes 1 r.blocker ++ leBytes 2 r.allotId ++ leBytes 2 r.cells
  ++ leBytes 2 0 ++ leBytes 8 r.cell ++ leBytes 4 r.arc ++ leBytes 28 0

/-- Completions of a queue posted in commit order while their event queues have room (R496, R500). -/
def drainList (n : Nat) : List (Nat × Bytes) → State → State
  | [], s => setCq n (fun c => { c with heldComp := [] }) s
  | (q, bs) :: l, s =>
    if postable s q then drainList n l (postEvent q bs s)
    else setCq n (fun c => { c with heldComp := (q, bs) :: l }) s

/-- The queue's held completions, as far as there is room. -/
def drainComp (n : Nat) (s : State) : State := drainList n (cq s n).heldComp s

/-- TARGET of an entry (R490). -/
def CmdEntry.target (e : CmdEntry) : Nat := byteAt e.raw 4

/-- OP or CMD: the first byte of BODY (R491). -/
def CmdEntry.op (e : CmdEntry) : Nat := byteAt e.raw 0x10

/-- The checks of R492, in order: 0 passes, else HRESULT. -/
def entryCheck (e : CmdEntry) : Nat :=
  let op := e.op
  if leAt e.raw 0 4 ≠ e.seq.toNat then 1
  else if e.target = 0x06 then (if 1 ≤ op ∧ op ≤ 0x0A then 0 else 3)
  else if e.target = 0x07 then (if 1 ≤ op ∧ op ≤ 0x07 then 0 else 3)
  else if e.target = 0x0A then (if 1 ≤ op ∧ op ≤ 0x02 then 0 else 3)
  else if e.target = 0x0E then (if op ≤ 0x01 then 0 else 3)
  else 2

/-- A command queue ends its shutdown once nothing fetched is left (R488); a held enable then takes effect (R500). -/
def cqSettle (n : Nat) (s : State) : State :=
  setCq n (fun c =>
    if c.stopping ∧ c.entries = [] then
      if c.state = .pending then
        { c with stopping := false, en := true, state := .run, tail := 0, fetch := 0, commit := 0xFFFFFFFF }
      else { c with stopping := false, state := .off }
    else c) s

/-- The master that a queue's owner rank names (R475, R489). -/
def ownerMaster (r : Nat) : Master := if h : 2 ≤ r ∧ r < 10 then .core ⟨r - 2, by omega⟩ else .host

/-- The first entry of a queue not yet in an intake, if R493 lets it enter now: it is the oldest uncommitted one, or
it follows entries of the same target that have entered. -/
def nextToPass : Option Nat → List CmdEntry → Option CmdEntry
  | _, [] => none
  | prev, e :: l =>
    if e.passed then nextToPass (some e.target) l
    else if entryCheck e ≠ 0 then none
    else match prev with
      | none => some e
      | some t => if t = e.target then some e else none

/-- The intake of a target has room (R260, R300). -/
def intakeRoom (s : State) (target : Nat) : Bool :=
  if target = 0x06 then decide (s.grid.intake.length < 8)
  else if target = 0x07 then decide (s.setpt.intake.length < 8)
  else false

/-- The queue whose next entry was fetched first, among those that may enter an intake with room (R493). -/
def passWhich (s : State) : Option (Nat × CmdEntry) :=
  (List.range 16).foldl (fun best n =>
    match (if (cq s n).state = .halted then none else nextToPass none (cq s n).entries) with
    | some e =>
      if intakeRoom s e.target then
        match best with
        | some (m, b) => if e.stamp < b.stamp then some (n, e) else some (m, b)
        | none => some (n, e)
      else best
    | none => best) none

/-- Two commands reach the grid's intake in one cycle: at one moment, over different paths (R260, R261; assumption log 27). -/
def sameCycle (a b : GridCmd) : Bool := a.at_ == b.at_ && a.queue.map Prod.fst != b.queue.map Prod.fst

/-- A command joins the grid's intake: last, but before those of its own cycle whose master has the greater rank number (R260). -/
def joinIntake (c : GridCmd) : List GridCmd → List GridCmd
  | [] => [c]
  | x :: l => if sameCycle x c ∧ c.master.rank < x.master.rank then c :: x :: l else x :: joinIntake c l

/-- An entry enters its target's intake (R493). -/
def passOne (n : Nat) (e : CmdEntry) (s : State) : State :=
  let who := ownerMaster (cq s n).owner
  let s := setCq n (fun c => { c with entries := c.entries.map (fun (x : CmdEntry) => if x.seq = e.seq then { x with passed := true } else x) }) s
  if e.target = 0x06 then
    { s with grid.intake := joinIntake { master := who, body := bytesAt e.raw 0x10 48, queue := some (n, e.seq), at_ := s.clk } s.grid.intake }
  else
    { s with setpt.intake := s.setpt.intake ++ [{ master := who, body := bytesAt e.raw 0x10 32, queue := some (n, e.seq) }] }

/-- Entries enter the intakes while one may. -/
def passGo : Nat → State → State
  | 0, s => s
  | k + 1, s => match passWhich s with
    | some (n, e) => passGo k (passOne n e s)
    | none => s

/-- Entries enter the intakes while one may; the two intakes hold eight each. -/
def passEntries (s : State) : State := passGo 16 s

/-- A queue may commit: no completion of it is held for room (R500). -/
def canCommit (s : State) (n : Nat) : Bool := (cq s n).heldComp == []

/-- The oldest entry of a queue commits: COMMIT takes its sequence, and its completion is posted unless QUIET and
DONE (R441, R490, R492, R496). -/
def finishEntry (n : Nat) (r : CmdResult) (s : State) : State :=
  match (cq s n).entries with
  | [] => s
  | e :: rest =>
    let quiet := (byteAt e.raw 5) % 2 = 1 ∧ r.hresult = 0 ∧ r.result = 1
    let s := setCq n (fun c => { c with
      entries := rest, commit := e.seq
      heldComp := if quiet then c.heldComp else c.heldComp ++ [(byteAt e.raw 6 % 16, completion n e r)] }) s
    passEntries (cqSettle n (drainComp n (bump 0x0E0034 1 s)))

/-- What a discard names a queue for (R446): no part, an entry of the affected block, or through a fence. -/
inductive Hit where
  | no | direct | fenced
  deriving DecidableEq, Repr

/-- Queues a FENCE names (R491). -/
def fenceMask (e : CmdEntry) : Nat := leAt e.raw 0x12 2

/-- An entry is a FENCE. -/
def isFence (e : CmdEntry) : Bool := e.target == 0x0E && e.op == 1 && entryCheck e == 0

/-- A fence of queue n waits on an uncommitted entry, fetched before it, of a queue already hit (R443). -/
def fenceHit (s : State) (hit : Nat → Hit) (n : Nat) : Bool :=
  (cq s n).entries.any (fun e => isFence e &&
    (List.range 16).any (fun q => (fenceMask e).testBit q && hit q != .no &&
      (cq s q).entries.any (fun x => decide (x.stamp < e.stamp))))

/-- Queues affected by a discard: those with an uncommitted entry for the block, and then those reached through
fences, over at most 16 rounds. -/
def hitGo (s : State) : Nat → (Nat → Hit) → (Nat → Hit)
  | 0, h => h
  | k + 1, h => hitGo s k (fun n => if h n = .no ∧ fenceHit s h n then .fenced else h n)

/-- The affected queues of a discard, as a list of 16: those a test names, and through fences (R443). -/
def hitFrom (s : State) (direct : Nat → Bool) : List Hit :=
  (List.range 16).map (hitGo s 16 (fun n => if direct n then .direct else .no))

/-- The queues that hold an uncommitted command for the targets (R442, R443). -/
def hitQueues (s : State) (targets : List Nat) : List Hit :=
  hitFrom s (fun n => (cq s n).entries.any (fun e => targets.contains e.target))

/-- A bit per queue of one half. -/
def hitMask (l : List Hit) (base : Nat) (p : Hit → Bool) : Nat :=
  (List.range 8).foldl (fun a j => a + b2n (p (nth l (base + j) .no)) * 2 ^ j) 0

/-- One entry of a cullet report (R446): high names queues 8 to 15. -/
def culletEntry (s : State) (l : List Hit) (high more : Bool) (code cause res dropped : Nat) : Bytes :=
  let b := if high then 8 else 0
  leBytes 1 0x0C ++ leBytes 1 (b2n high + 2 * b2n more) ++ leBytes 2 s.fault.reportSeq.toNat ++ leBytes 2 code
  ++ leBytes 1 cause ++ leBytes 1 res ++ leBytes 8 (now s) ++ leBytes 1 (hitMask l b (· != .no))
  ++ leBytes 1 (hitMask l b (· == .fenced)) ++ leBytes 2 0
  ++ ((List.range 8).flatMap (fun j => leBytes 4 (if nth l (b + j) .no = .no then 0 else (cq s (b + j)).commit.toNat)))
  ++ leBytes 4 (satNat 32 dropped) ++ leBytes 8 0

/-- CULLET_Q has room: a report waits for its queue to be enabled (R447, R498). -/
def culletQueue (s : State) : Nat :=
  let q := regFld s 0x0C0000 3 0
  if (eq_ s q).solution then 0 else q

/-- The entry is its report's last (R446). -/
def lastOfReport (e : Bytes) : Bool := !(byteAt e 1).testBit 1

/-- A report entry posted; its last tells that the report is posted (R447). -/
def culletPush (e : Bytes) (s : State) : State :=
  let s := eqPush (culletQueue s) e s
  if lastOfReport e then raise bFAULT 3 (bump 0x0C0044 5 s) else s

/-- Held report entries posted while there is room (R447). -/
def culletGo : List Bytes → State → State
  | [], s => { s with fault.held := [] }
  | e :: l, s =>
    if eqRoom s (culletQueue s) then
      culletGo l (culletPush e s)
    else { s with fault.held := e :: l }

/-- Held report entries posted while there is room (R447). -/
def postCullets (s : State) : State := culletGo s.fault.held s

/-- The Strata records of a report: one for each affected queue (R447). -/
def culletRecords (l : List Hit) (s : State) : State :=
  (List.range 16).foldl (fun s n =>
    if nth l n .no = .no then s
    else note 0x0C40 2 n (cq s n).commit.toNat s.fault.reportSeq.toNat s) s

/-- An affected queue loses every entry after its last committed one and halts (R441, R444). One that was stopping has nothing
fetched left, so its shutdown ends (R488; assumption log 26). -/
def haltQueue (n : Nat) (s : State) : State :=
  let s := setCq n (fun c => { c with
    entries := [], fetch := c.commit + 1
    state := if c.state = .run ∨ c.state = .halted then .halted else c.state }) s
  let s := cqSettle n s
  { s with grid.intake := s.grid.intake.filter (fun (c : GridCmd) => c.queue.map Prod.fst != some n)
           setpt.intake := s.setpt.intake.filter (fun (c : SpCmd) => c.queue.map Prod.fst != some n) }

/-- A discard in the affected queues (R441 to R447). kind is KIND of R446, cls its CLASS; toQueue is false when the report
goes to Strata alone (R91). -/
def discardHits (l : List Hit) (kind cls code res dropped : Nat) (toQueue : Bool) (s : State) : State :=
  let lo := (l.take 8).any (· != .no)
  let hi := (l.drop 8).any (· != .no)
  if ¬ lo ∧ ¬ hi then s else
  let s := { s with fault.reportSeq := s.fault.reportSeq + 1 }
  let cause := cls + 16 * kind
  let es := (if lo then [culletEntry s l false hi code cause res dropped] else [])
    ++ (if hi then [culletEntry s l true false code cause res dropped] else [])
  let s := culletRecords l s
  let s := (List.range 16).foldl (fun s n => if nth l n .no = .no then s else haltQueue n s) s
  let s := { s with fault.held := if toQueue then s.fault.held ++ es else s.fault.held }
  passEntries (postCullets s)

/-- A discard of the uncommitted commands that address the targets (R442). -/
def discard (targets : List Nat) (kind cls code res dropped : Nat) (toQueue : Bool) (s : State) : State :=
  discardHits (hitQueues s targets) kind cls code res dropped toQueue s

/-- The targets that the host queues address: grid, set-point engine, switch and the host interface itself. -/
def allTargets : List Nat := [0x06, 0x07, 0x0A, 0x0E]

end Sys2Proof.Machine
end

