-- ==== Sys2Proof/Machine/AssayQ.lean ====
section
/-! DEFINITION. AssayQ.lean: Assay's totals, derived quantities, checkpoints and stored copies (18_assay_metering.md R525 to
R531, R536). -/

namespace Sys2Proof.Machine

open Sys2Proof

/-- ASSAY's block index. -/
def bASSAY : Nat := 0x10

/-- An Assay channel. -/
def asChan (s : State) (c : Nat) : AsChan := vget s.assay.chs c {}

/-- An Assay channel changed. -/
def setAs (c : Nat) (f : AsChan → AsChan) (s : State) : State := { s with assay.chs := vmod s.assay.chs c f }

/-- Every Assay channel changed. -/
def mapAs (f : AsChan → AsChan) (s : State) : State := { s with assay.chs := s.assay.chs.map f }

/-- Reported forward total: the front-end count plus B (R536). -/
def AsChan.totalFwd (c : AsChan) : BitVec 64 := c.fwd + c.bFwd

/-- Reported reverse total. -/
def AsChan.totalRev (c : AsChan) : BitVec 64 := c.rev + c.bRev

/-- The channel counts: not OFF, and enabled (R521). -/
def AsChan.counts (c : AsChan) : Bool := c.mode != .off && c.en

/-- A quantity's source count modulo 2^64 (R529). -/
def AsChan.sourceCount (c : AsChan) : AsSource → BitVec 64
  | .off => 0
  | .fwd => c.totalFwd
  | .rev => c.totalRev
  | .net => c.totalFwd - c.totalRev

/-- P − P_b, signed for NET (R529). -/
def pulsesSince (q : Quantity) (p : BitVec 64) : Int :=
  if q.source = .net then (p - q.baseP).toInt else (p - q.baseP).toNat

/-- A quantity's value from its base (R529), in units of 2^−16 modulo 2^80. -/
def valueFrom (q : Quantity) (p : BitVec 64) : BitVec 80 := q.base + BitVec.ofInt 80 (q.gain.toNat * pulsesSince q p)

/-- A quantity recomputed from its base (R531). -/
def AsChan.recompute (c : AsChan) (q : Quantity) : Quantity :=
  if q.source = .off then q else { q with val := valueFrom q (c.sourceCount q.source) }

/-- A quantity checkpointed: its value becomes the base (R530). -/
def AsChan.checkpoint (c : AsChan) (q : Quantity) : Quantity :=
  if q.source = .off then q else { q with base := q.val, baseP := c.sourceCount q.source }

/-- An enabled channel's quantities checkpointed (R530). -/
def checkpointChan (c : AsChan) : AsChan := if c.counts then { c with qs := c.qs.map c.checkpoint } else c

/-- Every enabled channel checkpointed (R530). -/
def checkpointAll (s : State) : State := mapAs checkpointChan s

/-- The copy that the next write of a channel's totals goes to, and the write (R525). -/
def storeChan (c : AsChan) : AsChan :=
  let n := max c.copy0.seq c.copy1.seq + 1
  let t : TotalCopy := { seq := n, fwd := c.fwd, rev := c.rev, good := true }
  if ¬ c.dirty then c
  else if c.copy0.good ∧ (¬ c.copy1.good ∨ c.copy1.seq < c.copy0.seq) then { c with copy1 := t, dirty := false }
  else { c with copy0 := t, dirty := false }

/-- The totals that a power-up takes: the valid copy with the higher sequence number (R525). -/
def loadChan (c : AsChan) : AsChan :=
  let t := if c.copy0.good ∧ (¬ c.copy1.good ∨ c.copy1.seq < c.copy0.seq) then c.copy0 else c.copy1
  { c with fwd := t.fwd, rev := t.rev, dirty := false, levelA := false, levelB := false, stuck := false, countAt := none }

/-- Every quantity recomputed from its base, as the engine does when it starts on the exit from RESERVE (R531). -/
def recomputeAll (s : State) : State := mapAs (fun c => { c with qs := c.qs.map c.recompute }) s

/-- The engine starts: every quantity recomputed, and the intervals marked (R531, R534). -/
def engineStart (s : State) : State :=
  let f (c : AsChan) : AsChan := { c with qs := c.qs.map c.recompute, sawLost := true }
  let s := { mapAs f s with assay.engine := true }
  let t := now s
  { s with assay := { s.assay with
      nextCkpt := if s.assay.ckptMs = 0 then 0 else nextMultiple t (s.assay.ckptMs * 10 ^ 6)
      nextInt := if s.assay.intervalS = 0 then 0 else nextMultiple t (s.assay.intervalS * 10 ^ 9) } }
where
  /-- Index of the first multiple at or after a time. -/
  nextMultiple (t p : Nat) : Nat := cdiv t p

/-- The engine stops (R535). -/
def engineStop (s : State) : State := { s with assay.engine := false }

end Sys2Proof.Machine
end

