-- ==== Sys2Proof/Machine/LodeQ.lean ====
section
/-! DEFINITION. LodeQ.lean: Lode's instances: buckets, insertion, the length filter, and the writer with what it holds for a stopped
pipeline 1 (07_lode_tables.md R202 to R216, R221 to R224). -/

namespace Sys2Proof.Machine

open Sys2Proof

/-- LODE's block index. -/
def bLODE : Nat := 0x05

/-- One event of a LODE counter of a pipeline. -/
def bumpLode (pipe : Bool) (ev : Nat) (s : State) : State := bump 0x050044 (ev + 0x100 * b2n pipe) s

/-- A table's descriptor. -/
def tableDesc (s : State) (id : Nat) : Option TableDesc := s.lode.tables.find? (fun t => t.id == id)

/-- An instance. -/
def inst (s : State) (id : Nat) (pipe : Bool) : Option Inst := s.lode.insts.find? (fun i => i.table == id && i.pipe == pipe)

/-- An instance replaced. -/
def setInst (i : Inst) (s : State) : State :=
  { s with lode.insts := s.lode.insts.map (fun x => if x.table = i.table ∧ x.pipe = i.pipe then i else x) }

/-- Instances of a table. -/
def instsOf (s : State) (id : Nat) : List Inst := s.lode.insts.filter (fun i => i.table == id)

/-- The table of lowest ID of a content whose mask names a pipeline (R384). -/
def tableFor (s : State) (c : Content) (pipe : Bool) : Option TableDesc :=
  (s.lode.tables.filter (fun t => t.content == c && t.pipeMask.toNat.testBit (b2n pipe))).foldl (fun b t =>
    match b with
    | none => some t
    | some x => if t.id < x.id then some t else some x) none

/-- Slots of a bucket (R203). -/
def slotsOf (d : TableDesc) : Nat := if d.entryBytes = 64 then 4 else 8

/-- Buckets of an instance (R212). -/
def bucketsOf (i : Inst) : Nat := i.banks.length * 8192

/-- CRC-32C of a key with an initial value (R212). -/
def crcFrom (seed : Nat) (bs : Bytes) : Nat := bs.foldl (crcByte 0x82F63B78) (seed % 2 ^ 32) ^^^ 0xFFFFFFFF

/-- A key as hashed: its bits in whole little-endian bytes; a prefix's length is one byte more (R212, R215; assumption
log 14). -/
def hashKey (d : TableDesc) (k : LodeKey) : Bytes :=
  if d.lpm then leBytes ((k.len + 7) / 8) k.val ++ leBytes 1 k.len else leBytes ((d.keyBits + 7) / 8) k.val

/-- The four candidate buckets of a key (R212). -/
def candidates (d : TableDesc) (i : Inst) (k : LodeKey) : List Nat :=
  let b := bucketsOf i
  i.seeds.map (fun sd =>
    let c := crcFrom sd.toNat (hashKey d k)
    if d.lpm then 512 + c % max 1 (b - 512) else c % max 1 b)

/-- The entry with a key, with its place (R213). While a bank is under restore, what its lookup misses is answered from the
written copy (R238). -/
def findKey (i : Inst) (k : LodeKey) : Option ((Nat × Nat) × LodeEntry) := (i.entries ++ i.lost).find? (fun e => e.2.key == k)

/-- An entry at a place, kept in ascending order. -/
def putAt (pos : Nat × Nat) (e : LodeEntry) : List ((Nat × Nat) × LodeEntry) → List ((Nat × Nat) × LodeEntry)
  | [] => [(pos, e)]
  | x :: l =>
    if x.1 = pos then (pos, e) :: l
    else if pos.1 < x.1.1 ∨ (pos.1 = x.1.1 ∧ pos.2 < x.1.2) then (pos, e) :: x :: l
    else x :: putAt pos e l

/-- An instance with an entry at a place; an entry under restore is written over in the written copy (R224, R238). -/
def Inst.put (i : Inst) (pos : Nat × Nat) (e : LodeEntry) : Inst :=
  if i.lost.any (fun x => x.1 == pos) then { i with lost := putAt pos e i.lost } else { i with entries := putAt pos e i.entries }

/-- An instance without the entry of a place. -/
def Inst.clear (i : Inst) (pos : Nat × Nat) : Inst := { i with entries := i.entries.filter (fun x => x.1 != pos) }

/-- Filter entries that a prefix covers (R216): one of a prefix longer than 12 bits, 2^(12 − L) of a shorter one. -/
def filterOf (k : LodeKey) : List Nat :=
  if 12 < k.len then [k.val / 2 ^ (k.len - 12)] else (List.range (2 ^ (12 - k.len))).map (fun j => k.val * 2 ^ (12 - k.len) + j)

/-- A filter entry of an instance (R215). -/
def Inst.filterAt (i : Inst) (n : Nat) : FilterEntry := (kget i.filter n).getD {}

/-- The key of the prefix of length l above a filter entry. -/
def shortKey (l n : Nat) : LodeKey := { len := l, val := n / 2 ^ (12 - l) }

/-- The longest short prefix below a length that covers a filter entry, with its entry's place (R216). -/
def Inst.nextShort (i : Inst) (n : Nat) : Nat → Option (Nat × (Nat × Nat))
  | 0 => none
  | l + 1 => match findKey i (shortKey l n) with
    | some x => some (l, x.1)
    | none => i.nextShort n l

/-- The filter with a prefix newly written at a place (R216). -/
def Inst.index (i : Inst) (k : LodeKey) (pos : Nat × Nat) : Inst :=
  (filterOf k).foldl (fun i n =>
    let fe := i.filterAt n
    if 12 < k.len then
      { i with lengthCount := kmod i.lengthCount (256 * n + k.len) 0 (· + 1)
               filter := kset i.filter n { fe with lengths := fe.lengths ||| BitVec.ofNat 116 (2 ^ (k.len - 13)) } }
    else if (match fe.short with | some x => decide (x.1 ≤ k.len) | none => true) then
      { i with filter := kset i.filter n { fe with short := some (k.len, pos) } }
    else i) i

/-- The filter with a prefix deleted (R216): the last of a length clears its bit, and the next shorter short prefix returns. -/
def Inst.unindex (i : Inst) (k : LodeKey) : Inst :=
  (filterOf k).foldl (fun i n =>
    let fe := i.filterAt n
    if 12 < k.len then
      let c := (kget i.lengthCount (256 * n + k.len)).getD 0 - 1
      if c = 0 then
        { i with lengthCount := kdel i.lengthCount (256 * n + k.len)
                 filter := kset i.filter n { fe with lengths := fe.lengths &&& ~~~(BitVec.ofNat 116 (2 ^ (k.len - 13))) } }
      else { i with lengthCount := kset i.lengthCount (256 * n + k.len) c }
    else if (fe.short.map Prod.fst) = some k.len then
      { i with filter := kset i.filter n { fe with short := i.nextShort n k.len } }
    else i) i

/-- An instance without the entry of a key, in buckets and under restore, and its filter after it (R216). -/
def Inst.drop (d : TableDesc) (i : Inst) (k : LodeKey) : Inst :=
  let j := { i with entries := i.entries.filter (fun x => x.2.key != k), lost := i.lost.filter (fun x => x.2.key != k) }
  if d.lpm ∧ (findKey i k).isSome then j.unindex k else j

/-- The first free slot of the buckets, in order (R214). -/
def freeSlot (d : TableDesc) (i : Inst) (bs : List Nat) : Option (Nat × Nat) :=
  (bs.flatMap (fun b => (List.range (slotsOf d)).map (fun j => (b, j)))).find? (fun p => !(i.entries ++ i.lost).any (fun x => x.1 == p))

/-- Learned residents of the buckets, in slot order. -/
def learnedIn (i : Inst) (bs : List Nat) : List ((Nat × Nat) × LodeEntry) :=
  bs.flatMap (fun b => i.entries.filter (fun x => x.1.1 == b && !x.2.written))

/-- A displacement path of at most n steps that makes room for an entry in the buckets. No rule says which resident
moves, so the choice is free (R214; assumption log 14). -/
def displace (d : TableDesc) (free : Nat) : Nat → Inst → List Nat → LodeEntry → Option Inst
  | n, i, bs, e =>
    match freeSlot d i bs with
    | some p => some (i.put p e)
    | none =>
      match n with
      | 0 => none
      | n + 1 =>
        let l := learnedIn i bs
        match l[Config.freeNat (free + n) % max 1 l.length]? with
        | none => none
        | some v => displace d free n (i.put v.1 e) ((candidates d i v.2.key).filter (· != v.1.1)) v.2

/-- The learned entry that a written one evicts: SEEN_CLEAR set, else HIT clear, else any, in slot order (R214). -/
def evictee (l : List ((Nat × Nat) × LodeEntry)) : Option ((Nat × Nat) × LodeEntry) :=
  (l.find? (fun x => x.2.seenClear)).orElse (fun _ => (l.find? (fun x => !x.2.hit)).orElse (fun _ => l.head?))

/-- An insertion (R214): the instance after it, and whether it evicted. -/
def insertEntry (d : TableDesc) (free : Nat) (i : Inst) (e : LodeEntry) : Option (Inst × Bool) :=
  let bs := candidates d i e.key
  match displace d free 64 i bs e with
  | some i' => some (i', false)
  | none =>
    if e.written then
      match evictee (learnedIn i bs) with
      | some v => some (i.put v.1 e, true)
      | none => none
    else none

/-- The place of a key newly inserted enters the filter of an LPM instance (R216). -/
def indexed (d : TableDesc) (k : LodeKey) (i : Inst) : Inst :=
  if d.lpm then (match findKey i k with | some x => i.index k x.1 | none => i) else i

/-- A written entry put into one instance: over the entry with its key, or inserted (R222). To write over a written entry is no
hit, so that its HIT and SEEN_CLEAR stay (R227). -/
def writeInst (d : TableDesc) (free : Nat) (i : Inst) (e : LodeEntry) : Option (Inst × Bool) :=
  match findKey i e.key with
  | some x => some (i.put x.1 (if x.2.written then { e with hit := x.2.hit, seenClear := x.2.seenClear } else e), false)
  | none => (insertEntry d free i e).map (fun y => (indexed d e.key y.1, y.2))

/-- A held write done to one instance: the instance after it and whether it evicted; none if it cannot take the entry. -/
def HeldWrite.run (d : TableDesc) (h : HeldWrite) (i : Inst) : Option (Inst × Bool) :=
  match h.entry with
  | some e => writeInst d h.free i e
  | none => some (i.drop d h.key, false)

/-- A pipeline is stopped by the shedding of load, so that the writer holds what is written for it (R208). -/
def stopped (s : State) (pipe : Bool) : Bool := pipe && s.lode.run0 && !s.lode.run1

/-- An instance as the writer sees it: with what it holds for it (R208). -/
def writerView (s : State) (d : TableDesc) (i : Inst) : Inst :=
  if stopped s i.pipe then
    (s.lode.held1.filter (fun h => h.table == d.id)).foldl (fun i h => match h.run d i with | some x => x.1 | none => i) i
  else i

/-- A written entry put into every instance; none if any cannot take it (R221). -/
def writeAll (d : TableDesc) (free : Nat) (e : LodeEntry) : List Inst → Option (List (Inst × Bool))
  | [] => some []
  | i :: l => match writeInst d free i e, writeAll d free e l with
    | some x, some r => some (x :: r)
    | _, _ => none

/-- The written copy with an entry set or removed (R224). -/
def copySet (t : Nat) (k : LodeKey) (e : Option LodeEntry) (l : List (Nat × LodeEntry)) : List (Nat × LodeEntry) :=
  let rest := l.filter (fun x => !(x.1 == t && x.2.key == k))
  match e with | some x => rest ++ [(t, x)] | none => rest

/-- Free values drawn by a displacement. -/
def drawn64 (s : State) : State := { s with fresh := s.fresh + 64 }

/-- An instance after a write, with its eviction counted (R214). -/
def commitInst (x : Inst × Bool) (s : State) : State :=
  let s := setInst x.1 s
  if x.2 then bumpLode x.1.pipe 13 s else s

/-- What the writer does to one instance: at once, or held for a stopped pipeline (R208, R221). -/
def commitWrite (h : HeldWrite) (x : Inst × Bool) (s : State) : State :=
  if stopped s x.1.pipe then { s with lode := { s.lode with held1 := s.lode.held1 ++ [h] } } else commitInst x s

/-- A written entry committed to a table, or none with TABLE_FULL (R221, R224, R208). -/
def writeEntry (d : TableDesc) (e : LodeEntry) (s : State) : Option State :=
  match writeAll d s.fresh e ((instsOf s d.id).map (writerView s d)) with
  | none => none
  | some l =>
    let h : HeldWrite := { table := d.id, key := e.key, entry := some e, free := s.fresh }
    let t := l.foldl (fun s x => commitWrite h x s) (drawn64 s)
    some { t with lode := { t.lode with copy := copySet d.id e.key (some e) t.lode.copy } }

/-- TABLE_FULL raised and counted in every pipeline of the table. -/
def tableFull (d : TableDesc) (s : State) : State :=
  raise bLODE 2 ((instsOf s d.id).foldl (fun s i => bumpLode i.pipe 12 s) s)

/-- An entry's key removed from the instances of a table that hold it and that a test names. -/
def removeKey (d : TableDesc) (k : LodeKey) (p : Inst → Bool) (s : State) : State :=
  { s with lode.insts := s.lode.insts.map (fun i => if i.table = d.id ∧ p i then i.drop d k else i) }

/-- A written entry removed from every instance and from the copy; the removal from a stopped pipeline is held (R208, R221, R239). -/
def deleteWritten (d : TableDesc) (k : LodeKey) (s : State) : State :=
  let h : HeldWrite := { table := d.id, key := k }
  let hold := (instsOf s d.id).any (fun i => stopped s i.pipe)
  let s := removeKey d k (fun i => !stopped s i.pipe) s
  { s with lode := { s.lode with
    copy := copySet d.id k none s.lode.copy, held1 := if hold then s.lode.held1 ++ [h] else s.lode.held1 } }

/-- A held write done to the instance of pipeline 1 (R208); its space was found when it was taken. -/
def applyHeldOne (s : State) (h : HeldWrite) : State :=
  match tableDesc s h.table, inst s h.table true with
  | some d, some i => match h.run d i with
    | some x => commitInst x s
    | none => tableFull d s
  | _, _ => s

/-- Pipeline 1 runs again: the writes that were held are applied first, and its sweepers go on where they stopped, which extends
every bound of R228 by the time of the stop (R208, R228). -/
def resume1 (s : State) : State :=
  let l := s.lode.held1
  let s := l.foldl applyHeldOne { s with lode := { s.lode with held1 := [] } }
  let gap := now s - s.lode.stopAt1
  { s with lode := { s.lode with
    run1 := s.lode.insts.any (fun i => i.pipe), pend1 := false, stop1 := false
    insts := s.lode.insts.map (fun i => if i.pipe ∧ ¬ s.lode.run1 then { i with sweepStart := i.sweepStart + gap } else i) } }

/-- The lookups of pipeline 1 in flight have retired: an enable of it that was PENDING takes effect, with PENDING_DONE (R69, R208). -/
def settleSection (s : State) : State :=
  let was := s.lode.pend1
  let s := { s with lode := { s.lode with stop1 := false } }
  if was then raise bPARISON 2 (resume1 s) else s

/-- A bank held PENDING becomes active once its own shutdown is complete (R69, R241). -/
def settleBanks (s : State) : State :=
  if s.lode.banks.any (fun (b : Bank) => b.state == .pending) then
    raise bPARISON 2 { s with lode.banks := s.lode.banks.map (fun (b : Bank) => if b.state = .pending then { b with state := .active } else b) }
  else s

/-- One item of a batch: an entry to write, or a key to delete (R223). -/
inductive BatchItem where
  | write (t : Nat) (e : LodeEntry)
  | delete (t : Nat) (k : LodeKey)
  deriving DecidableEq, Repr

/-- The items of a batch, all of them or nothing (R223). -/
def runItems : List BatchItem → State → Option State
  | [], s => some s
  | .write t e :: l, s =>
    match tableDesc s t with
    | some d => match writeEntry d e s with | some s' => runItems l s' | none => none
    | none => none
  | .delete t k :: l, s =>
    match tableDesc s t with
    | some d => runItems l (deleteWritten d k s)
    | none => runItems l s

/-- A batch of up to 16,384 entries and deletions commits in one cycle (R223): all of it, or nothing. -/
def runBatch (l : List BatchItem) (s : State) : Option State := if 16384 < l.length then none else runItems l s

end Sys2Proof.Machine
end

