-- ==== Sys2Proof/Machine/Hostif.lean ====
section
/-! DEFINITION. Hostif.lean: the PCIe link, mailboxes, locks, command queues and event queues
(16_host_interface.md). -/

namespace Sys2Proof.Machine

open Sys2Proof

/-- A mailbox. -/
def mb (s : State) (m : Nat) : Mailbox := vget s.hostif.mbs m {}

/-- A mailbox changed. -/
def setMb (m : Nat) (f : Mailbox → Mailbox) (s : State) : State :=
  { s with hostif.mbs := vmod s.hostif.mbs m f }

/-- A master is on the host side of a mailbox; mailbox 8 takes the host and every field core (R478, R459). -/
def onHostSide (m : Nat) : Master → Bool
  | .host => true
  | .core _ => m == 8
  | _ => false

/-- A master is on the core side of a mailbox: core m, or the warden for mailbox 8 (R478). -/
def onCoreSide (m : Nat) : Master → Bool
  | .warden => m == 8
  | .core k => k.val == m
  | _ => false

/-- A push: a full direction overwrites its newest word and sets COLLISION (R478). same tells that a pop of the direction, or the reset
of its receiver, comes in the same cycle and makes the room that the word takes (R500). -/
def MbDir.push (d : MbDir) (w : Word) (same : Bool) : MbDir :=
  if d.words.length < 8 ∨ same then { d with words := d.words ++ [w] }
  else { d with words := d.words.take 7 ++ [w], collision := true }

/-- A pop: EMPTY sets when the level falls to 0 (R478, R479). -/
def MbDir.pop (d : MbDir) : MbDir :=
  { d with words := d.words.drop 1, empty := d.empty || d.words.length == 1 }

/-- The receiver of a direction is reset: its words are discarded, and EMPTY and RX_RESET set (R480). pushed tells that the newest
word was pushed in the same cycle: it is appended to the emptied queue (R500). -/
def MbDir.rxSide (d : MbDir) (pushed : Bool := false) : MbDir :=
  { d with words := if pushed then d.words.drop (d.words.length - 1) else [], empty := true, rxReset := true }

/-- The sender of a direction is reset: its words stay readable, and TX_RESET sets (R480). -/
def MbDir.txSide (d : MbDir) : MbDir := { d with txReset := true }

/-- Locks that a rank holds are freed (R483). -/
def freeLocksOf (rank : Nat) (s : State) : State :=
  { s with hostif := { s.hostif with locks := s.hostif.locks.filter (fun p => p.2 != rank), lockWon := [] } }

/-- The core side of mailbox m is reset, a core's locks are freed and its Geode buffers cleared (R480, R483, R514). -/
def coreSideReset (m : Nat) (s : State) (pushed : Bool := false) : State :=
  let s := setMb m (fun b => { b with h2c := b.h2c.rxSide pushed, c2h := b.c2h.txSide }) s
  if h : m < 8 then
    let s := freeLocksOf (2 + m) s
    { s with geode.bufs := s.geode.bufs.filter (fun b => b.master != .core ⟨m, h⟩) }
  else s

/-- The host side of mailbox m is reset (R480). -/
def hostSideReset (m : Nat) (s : State) (pushed : Bool := false) : State :=
  setMb m (fun b => { b with c2h := b.c2h.rxSide pushed, h2c := b.h2c.txSide }) s

/-- A command queue is disabled: it stops fetching, its fetched entries run to commit, and it is then OFF (R488). -/
def disableCq (n : Nat) (s : State) : State :=
  cqSettle n (setCq n (fun c =>
    if c.state = .retired then { c with en := false }
    else { c with en := false, stopping := true, state := if c.state = .pending then .run else c.state }) s)

/-- An event queue is disabled (R488). -/
def disableEq (q : Nat) (s : State) : State :=
  setEq q (fun e => { e with en := false, ring := [], pend := 0, above := false, state := if e.state = .retired then .retired else .off }) s

/-- Every queue that an owner rank has is disabled (R488, R500). -/
def disableOwned (rank : Nat) (s : State) : State :=
  (List.range 16).foldl (fun s n =>
    let s := if (cq s n).owner = rank then disableCq n s else s
    if (eq_ s n).owner = rank then disableEq n s else s) s

/-- A host reset (R477): configuration space, the host's locks, its queues and its mailbox sides; the host world
closes (R506). -/
def hostReset (linkDown : Bool) (s : State) : State :=
  let s := { s with hostif := { s.hostif with
    hostResets := satNat 16 (s.hostif.hostResets + 1)
    linkUp := if linkDown then false else s.hostif.linkUp
    busMaster := false, pba := [] } }
  let s := disableOwned 1 (freeLocksOf 1 s)
  let s := (List.range 9).foldl (fun s m => hostSideReset m s) s
  let s := { s with
    geode := { s.geode with hostOpen := false, bufs := s.geode.bufs.filter (fun b => b.master != .host) }
    regs := s.regs.filter (fun p => p.1 / 0x10000 != 0xF0) }
  raise bHOSTIF 1 s

/-- The flags of one side of a mailbox (R481): a collision or a reset of the other side in the direction it sends,
and a loss in the direction it receives. -/
def mbFlags (sent got : MbDir) : Bool := sent.collision || sent.rxReset || got.txReset

/-- Interrupt of one side: DATA, EMPTY, BELL and FLAGS under its enables (R481). -/
def mbLine (ie : BitVec 4) (sent got : MbDir) : Bool :=
  (ie.toNat.testBit 0 && got.words != []) || (ie.toNat.testBit 1 && sent.empty) ||
  (ie.toNat.testBit 2 && (got.bell &&& got.mask) != 0) || (ie.toNat.testBit 3 && mbFlags sent got)

/-- The host-side interrupt of mailbox m (R481). -/
def mbHostLine (s : State) (m : Nat) : Bool := mbLine (mb s m).hostIe (mb s m).h2c (mb s m).c2h

/-- The core-side interrupt of mailbox m; for a core it drives MEIP (R481, R454). -/
def mbCoreLine (s : State) (m : Nat) : Bool := mbLine (mb s m).coreIe (mb s m).c2h (mb s m).h2c

/-- A push from a side; a collision is counted (R478). -/
def mbPush (m : Nat) (h2c : Bool) (w : Word) (same : Bool) (s : State) : State :=
  let full := if h2c then 8 ≤ (mb s m).h2c.words.length else 8 ≤ (mb s m).c2h.words.length
  let s := setMb m (fun b => if h2c then { b with h2c := b.h2c.push w same } else { b with c2h := b.c2h.push w same }) s
  if full ∧ ¬ same then bump 0x0E0034 6 s else s

/-- A pop from a side: the oldest word, or 0 of an empty direction (R478). -/
def mbPop (m : Nat) (h2c : Bool) (s : State) : State :=
  let d := if h2c then (mb s m).h2c else (mb s m).c2h
  let s := { s with rdata := d.words.headD 0 }
  if d.words = [] then s
  else setMb m (fun b => if h2c then { b with h2c := b.h2c.pop } else { b with c2h := b.c2h.pop }) s

/-- H2C_PUSH (R478). -/
def execH2cPush (m : Fin 9) (by_ : Master) (w : Word) (same : Bool) (s : State) : Out :=
  .next (bus s fun s => if onHostSide m.val by_ then mbPush m.val true w same s else s)

/-- H2C_POP (R478, R479). -/
def execH2cPop (m : Fin 9) (by_ : Master) (s : State) : Out :=
  .next (bus s fun s => if onCoreSide m.val by_ then mbPop m.val true s else { s with rdata := 0 })

/-- C2H_PUSH (R478). -/
def execC2hPush (m : Fin 9) (by_ : Master) (w : Word) (same : Bool) (s : State) : Out :=
  .next (bus s fun s => if onCoreSide m.val by_ then mbPush m.val false w same s else s)

/-- C2H_POP (R478, R479). -/
def execC2hPop (m : Fin 9) (by_ : Master) (s : State) : Out :=
  .next (bus s fun s => if onHostSide m.val by_ then mbPop m.val false s else { s with rdata := 0 })

/-- MAILBOX_SIDE_RESET (R480): the core side is reset when its core is held, stopped, tested, retired, gated or started,
the host side by a host reset. -/
def execMailboxSideReset (m : Fin 9) (coreSide pushed : Bool) (s : State) : Out :=
  .next (bus s fun s => if coreSide then coreSideReset m.val s pushed else hostSideReset m.val s pushed)

/-- What a read of a lock returns: the taker's or the holder's rank, with ACQUIRED for the taker. -/
def lockWord (acquired : Bool) (rank : Nat) : Word := BitVec.ofNat 32 (0x80000000 * b2n acquired + rank)

/-- A read of a lock (R482): a read of a free lock takes it; a read of a held one names its holder. rival is another master that
reads the lock in the same cycle: the higher of the two ranks takes it, whichever is detected first (R11). -/
def lockRead (n : Nat) (who : Master) (rival : Option Master) (s : State) : State :=
  match kget s.hostif.locks n with
  | some r =>
    if r = who.rank ∧ s.hostif.lockWon.contains n then { s with rdata := lockWord true r, hostif.lockWon := s.hostif.lockWon.filter (· != n) }
    else { s with rdata := lockWord false r }
  | none =>
    match rival.filter (fun m => decide (m.rank < who.rank)) with
    | some m => { s with rdata := lockWord false m.rank, hostif := { s.hostif with
        locks := kset s.hostif.locks n m.rank, lockWon := n :: s.hostif.lockWon.filter (· != n) } }
    | none => { s with rdata := lockWord true who.rank, hostif.locks := kset s.hostif.locks n who.rank }

/-- LOCK_ACQUIRE (R482, R11). -/
def execLockAcquire (n : Fin 64) (by_ : Master) (rival : Option Master) (s : State) : Out :=
  .next (bus s (lockRead n.val by_ rival))

/-- LOCK_FREE (R483): a write by the holder, or a host write with KEY 0x9610. -/
def execLockFree (n : Fin 64) (by_ : Master) (w : Word) (s : State) : Out :=
  .next (bus s fun s =>
    if kget s.hostif.locks n.val = some by_.rank ∨ (by_ = .host ∧ fld w 31 16 = 0x9610) then
      { s with hostif := { s.hostif with locks := kdel s.hostif.locks n.val, lockWon := s.hostif.lockWon.filter (· != n.val) } }
    else s)

/-- HOST_RESET (R477): a Function Level Reset or a hot reset, or a link-down. -/
def execHostReset (linkDown : Bool) (s : State) : Out := .next (bus s (hostReset linkDown))

/-- PCIE_LINK_UP (R474): the link trains, and the host leaves Bus Master Enable as it says. -/
def execPcieLinkUp (gen : Fin 4) (width : Fin 3) (busMaster : Bool) (s : State) : Out :=
  .next (bus s fun s => { s with hostif := { s.hostif with
    linkUp := true, gen := gen.val + 1, width := 2 ^ width.val, busMaster := busMaster } })

/-- The line of an MSI-X vector that is no event queue's: a command queue's HALTED, OVERFILL or RETIRED, the host-side interrupt of a
mailbox, or a block's interrupt line; any other is never signalled (R476). -/
def msixLine (s : State) (v : Nat) : Bool :=
  if 16 ≤ v ∧ v < 32 then (cq s (v - 16)).state == .halted || (cq s (v - 16)).overfill || (cq s (v - 16)).state == .retired
  else if 32 ≤ v ∧ v < 41 then mbHostLine s (v - 32)
  else if 48 ≤ v ∧ v < 67 then intLine s (v - 48)
  else false

/-- The vectors whose messages a change from s to t sends: those whose line rises, and the event queues signalled (R476, R494). -/
def msixSent (s t : State) : List Nat :=
  (List.range 67).filter (fun v =>
    if v < 16 then (kget s.hostif.msix v).getD 0 < (kget t.hostif.msix v).getD 0 else !msixLine s v && msixLine t v)

/-- A write of HOSTIF_CQn_CFG (R489, R500): the fields are RW while EN is 0, and setting EN resets TAIL, FETCH and
COMMIT; a retired queue refuses enabling (R488). -/
def cqConfig (n : Nat) (w : Word) (s : State) : State :=
  let c := cq s n
  if c.en then (if bit w 31 then s else disableCq n s)
  else
    let s := setCq n (fun c => { c with owner := fld w 27 24, sizeLog2 := fld w 3 0 }) s
    if ¬ bit w 31 ∨ c.state = .retired then s
    else if c.stopping then setCq n (fun c => { c with state := .pending }) s
    else setCq n (fun c => { c with en := true, state := .run, tail := 0, fetch := 0, commit := 0xFFFFFFFF }) s

/-- CQ_ENABLE (R489). -/
def execCqEnable (n : Fin 16) (cfg : Word) (s : State) : Out := .next (bus s (cqConfig n.val cfg))

/-- A write of HOSTIF_CQn_TAIL (R489): a TAIL more than SIZE entries after COMMIT + 1 is ignored and sets OVERFILL. -/
def tailWrite (n : Nat) (tail : Word) (s : State) : State :=
  setCq n (fun c =>
    if 2 ^ c.sizeLog2 < (tail - (c.commit + 1)).toNat then { c with overfill := true } else { c with tail := tail }) s

/-- TAIL_WRITE (R489). -/
def execTailWrite (n : Fin 16) (tail : Word) (s : State) : Out := .next (bus s (tailWrite n.val tail))

/-- A command queue may fetch: running, an entry before TAIL, a free slot in its SRAM copy, its owner's memory reachable,
and its SRAM bank not under test (R489, R475, R438). -/
def mayFetch (s : State) (n : Nat) : Bool :=
  let c := cq s n
  c.state == .run && !c.stopping && c.fetch != c.tail &&
  decide ((c.fetch - (c.commit + 1)).toNat < 2 ^ c.sizeLog2) && dmaOk s c.owner && !sramTesting s n

/-- ENTRY_FETCH (R489, R493): the next entry's 64 bytes, in its turn for its target's intake. -/
def execEntryFetch (n : Fin 16) (raw : Bytes) (s : State) : Out :=
  .next (bus s fun s =>
    if mayFetch s n.val then
      let k := s.hostif.stamps
      let s := { s with hostif.stamps := k + 1 }
      let s := setCq n.val (fun c => { c with
        fetch := c.fetch + 1
        entries := c.entries ++ [{ seq := c.fetch, raw := padTo 64 raw, stamp := k, passed := false }] }) s
      passEntries (bump 0x0E0034 0 s)
    else s)

/-- The oldest uncommitted entry of a queue, when its queue may run it: not halted, and no completion held. -/
def frontEntry (s : State) (n : Nat) : Option CmdEntry :=
  if (cq s n).state = .halted ∨ ¬ canCommit s n then none else (cq s n).entries.head?

/-- COMMAND_COMMIT (R492, R500): completions held for room are posted in order; then an entry that fails its checks
commits with no effect. A valid entry commits with its own command. -/
def execCommandCommit (n : Fin 16) (s : State) : Out :=
  .next (bus s fun s =>
    let s := drainComp n.val s
    match frontEntry s n.val with
    | some e => if entryCheck e = 0 then s else finishEntry n.val { hresult := entryCheck e, result := 0 } s
    | none => s)

/-- NOP (R492): commits at once. -/
def execNop (n : Fin 16) (s : State) : Out :=
  .next (bus s fun s =>
    match frontEntry s n.val with
    | some e => if entryCheck e = 0 ∧ e.target = 0x0E ∧ e.op = 0 then finishEntry n.val {} s else s
    | none => s)

/-- A fence may commit: no entry fetched before it stands uncommitted in a queue it names (R443). -/
def fenceReady (s : State) (e : CmdEntry) : Bool :=
  (List.range 16).all (fun q => !((fenceMask e).testBit q) || (cq s q).entries.all (fun x => decide (e.stamp ≤ x.stamp)))

/-- FENCE (R443). -/
def execFence (n : Fin 16) (s : State) : Out :=
  .next (bus s fun s =>
    match frontEntry s n.val with
    | some e => if isFence e ∧ fenceReady s e then finishEntry n.val {} s else s
    | none => s)

/-- RX_BUF (R497): the buffer joins the receive pool of the queue's owner. -/
def execRxBuf (n : Fin 16) (s : State) : Out :=
  .next (bus s fun s =>
    match frontEntry s n.val with
    | some e =>
      if entryCheck e = 0 ∧ e.target = 0x0A ∧ e.op = 2 then
        let b : RxBuf := { len := leAt e.raw 0x16 2, addr := BitVec.ofNat 64 (leAt e.raw 0x18 8), tag := BitVec.ofNat 64 (leAt e.raw 8 8) }
        let s := if (cq s n.val).owner = 1 then { s with hostif.hostPool := s.hostif.hostPool ++ [b] }
                 else { s with hostif.corePool := s.hostif.corePool ++ [b] }
        finishEntry n.val {} s
      else s
    | none => s)

/-- FLUSH (R486): a halted queue's FETCH moves to TAIL; the skipped entries never run and their sequences are
consumed, so COMMIT follows. resumed tells that FAULT_RESUME named the queue in the same cycle: the flush acts first (R500). -/
def execFlush (n : Fin 16) (resumed : Bool) (s : State) : Out :=
  .next (bus s (setCq n.val fun c =>
    if c.state = .halted ∨ (resumed ∧ c.state = .run ∧ c.entries = [] ∧ c.fetch = c.commit + 1) then { c with fetch := c.tail, commit := c.tail - 1, entries := [], flushed := true } else c))

/-- A write of HOSTIF_EQn_CFG (R494, R495): the fields are RW while EN is 0; setting EN resets WRITE and HEAD. Reports
held for the queue are then posted (R447, R498). -/
def eqConfig (q : Nat) (w : Word) (s : State) : State :=
  let e := eq_ s q
  if e.en then (if bit w 31 then s else disableEq q s)
  else
    let s := setEq q (fun e => { e with
      solution := bit w 30 && q != 0, owner := fld w 27 24, coalN := fld w 23 16, coalUs := fld w 15 4, sizeLog2 := fld w 3 0 }) s
    if ¬ bit w 31 ∨ e.state = .retired then s
    else postCullets (setEq q (fun e => { e with en := true, state := .run, head := 0, write := 0, ring := [], pend := 0 }) s)

/-- EQ_ENABLE (R494). -/
def execEqEnable (q : Fin 16) (cfg : Word) (s : State) : Out := .next (bus s (eqConfig q.val cfg))

/-- A write of HOSTIF_EQn_HEAD (R494): entries up to HEAD are freed; a HEAD beyond WRITE is ignored and sets BAD_HEAD.
Reports held for room are then posted (R447). -/
def headWrite (q : Nat) (head : Word) (s : State) : State :=
  let e := eq_ s q
  if (e.write - e.head).toNat < (head - e.head).toNat then setEq q (fun e => { e with badHead := true }) s
  else
    let s := setEq q (fun e => { e with head := head, ring := e.ring.drop (head - e.head).toNat }) s
    postCullets (withPause (eqAbove q) s)

/-- HEAD_WRITE (R494). -/
def execHeadWrite (q : Fin 16) (head : Word) (s : State) : Out := .next (bus s (headWrite q.val head))

/-- EVENT_POST (R494, R500): completions that wait for room are posted, in the order of their queues and commits. -/
def execEventPost (q : Fin 16) (s : State) : Out :=
  .next (bus s fun s => (List.range 16).foldl (fun s n =>
    if (cq s n).heldComp.head?.map Prod.fst = some q.val then passEntries (drainComp n s) else s) s)

/-- COALESCE_TIMEOUT (R494): COAL_US has passed since the first pending entry. -/
def execCoalesceTimeout (q : Fin 16) (s : State) : Out :=
  .next (bus s fun s =>
    if (eq_ s q.val).pend = 0 then s
    else eqSignal q.val (advanceClk ((eq_ s q.val).pendSince + (eq_ s q.val).coalUs * 1000) s))

end Sys2Proof.Machine
end

