-- ==== Sys2Proof/Machine/Time.lean ====
section
/-! DEFINITION. Time.lean: domains, selection, slewing, stepping, compares, PPS and captures (04_timebase.md). What
a step of served time does in other blocks stands in TimeStep.lean. -/

namespace Sys2Proof.Machine

open Sys2Proof

/-- TIME's block index. -/
def bTIME : Nat := 0x02

/-- A domain: true names ALTERNATE. -/
def dom (s : State) (a : Bool) : Domain := if a then s.time.a else s.time.p

/-- A domain changed. -/
def setDom (a : Bool) (d : Domain) (s : State) : State :=
  if a then { s with time.a := d } else { s with time.p := d }

/-- The source in force: TWIN in SERVITOR, whatever the gather names (R110, R111). -/
def sourceOf (s : State) (a : Bool) : Nat := if s.sys.mode = .servitor then 3 else (dom s a).source

/-- SYS_MODE.TIME_VALID: the selected domain is valid (R112). -/
def timeValid (s : State) : Bool := s.time.sel.valid

/-- Modes in which a step is accepted (R117). -/
def stepMode : Mode → Bool
  | .reset | .forming | .survey | .quenched | .maintenance | .dormant => true
  | _ => false

/-- Modes in which machines may move: a rate write may not jump (R116). -/
def moveMode : Mode → Bool
  | .field | .holdover | .anneal => true
  | _ => false

/-- The other domain takes over served time: the residual makes it continuous (R112, R115). -/
def selectDom (a : Bool) (s : State) : State :=
  let t := { s.time with selA := a, resid40 := 0 }
  raise bTIME 0 { s with time := { t with resid40 := (now s : Int) * q40 - domTime40 t t.sel } }

/-- Rates held, newest first, cut to those the last 60 s need (R131). -/
def pruneRates (clk : Nat) : List (Nat × Int) → List (Nat × Int)
  | [] => []
  | (t, r) :: l => if t + 60 * 10 ^ 9 ≤ clk then [(t, r)] else (t, r) :: pruneRates clk l

/-- A domain with a new rate, which stands in its log from now on. -/
def Domain.putRate (d : Domain) (clk : Nat) (r : BitVec 32) : Domain :=
  { d with rate := r, rateLog := (clk, r.toInt) :: pruneRates clk d.rateLog }

/-- Sum of rate times time over a log, newest first, back to a start. -/
def rateSum (start : Nat) : Nat → List (Nat × Int) → Int
  | _, [] => 0
  | upto, (t, r) :: l =>
    if upto ≤ start then 0 else r * ((upto - max t start : Nat) : Int) + rateSum start t l

/-- The mean rate of the last 60 s, or of the time since lock if that is shorter (R131). -/
def meanRate (d : Domain) (clk : Nat) : Int :=
  let start := max d.validAt (clk - 60 * 10 ^ 9)
  if clk ≤ start then d.rate.toInt else roundDiv (rateSum start clk d.rateLog) (clk - start)

/-- A pending correction in ns, held to ±(2^31 − 1); a saturated one sets CORR_SAT (R114). -/
def setPend (a : Bool) (p40 : Int) (s : State) : State :=
  let m : Int := (2 ^ 31 - 1) * q40
  if p40 > m then raise bTIME 15 (setDom a { dom s a with pend40 := m } s)
  else if p40 < -m then raise bTIME 15 (setDom a { dom s a with pend40 := -m } s)
  else setDom a { dom s a with pend40 := p40 } s

/-- R587: the pending correction becomes E, and the rate changes by dF, held to the slew limit. hz is the rate of
the epochs or exchanges. No rule says what F_d holds when F_d + dF leaves the signed 32 bits: it wraps (DESIGN CHOICE, assumption
log 7). -/
def discipline (a : Bool) (e : Int) (hz : Nat) (s : State) : State :=
  let s := setPend a (e * q40) s
  let lim : Int := slewUnits s.time
  let df := max (-lim) (min lim (roundDiv (e * q40) (hz * 10 ^ 13)))
  setDom a ((dom s a).putRate s.clk (BitVec.ofInt 32 ((dom s a).rate.toInt + df))) s

/-- A domain's source becomes invalid: holdover at its mean rate (R131). -/
def dropSource (a : Bool) (s : State) : State :=
  let d := (dom s a).putRate s.clk (BitVec.ofInt 32 (meanRate (dom s a) s.clk))
  raise bTIME 1 (setDom a { d with valid := false, lostAt := s.clk } s)

/-- The sources of the domains named become invalid in one event. The other domain is selected at once if the selected one is lost
and the other is valid after it; where both are lost, SEL stays (R112, R131, R135). -/
def loseSources (l : List Bool) (s : State) : State :=
  let gone := l.filter (fun a => (dom s a).valid)
  let s := gone.foldl (fun s a => dropSource a s) s
  if gone.contains s.time.selA = true ∧ (dom s (!s.time.selA)).valid = true then selectDom (!s.time.selA) s else s

/-- The source of one domain becomes invalid. -/
def loseSource (a : Bool) (s : State) : State := loseSources [a] s

/-- SPOOF condition of R110: PASS or DISABLED. -/
def spoofOk (s : State) : Bool := s.gnss.spoof.state == .pass || s.gnss.spoof.state == .disabled

/-- A domain's registers: CFG at 0x040 or 0x060. -/
def domCfg (a : Bool) : Nat := if a then 0x020060 else 0x020040

/-- SOFT_OK. -/
def softOk (s : State) (a : Bool) : Bool := regBit s (domCfg a) 29

/-- SOFT_TIMEOUT in ns. -/
def softTimeoutNs (s : State) (a : Bool) : Nat := regFld s (domCfg a + 0x1C) 15 0 * 10 ^ 6

/-- The 48-bit target of a compare. -/
def cmpTarget (s : State) (n : Nat) : Nat :=
  (regWord s (0x0200A0 + 8 * n)).toNat + regFld s (0x0200A4 + 8 * n) 15 0 * 2 ^ 32

/-- ARM of a compare. -/
def cmpArmed (s : State) (n : Nat) : Bool := regBit s (0x0200A4 + 8 * n) 31

/-- The function of a GPIO pin (IOCTL_GPIO_FUNC). -/
def gpioFunc (s : State) (j : Nat) : Nat :=
  regFld s (0x120010 + 4 * (j / 8)) (4 * (j % 8) + 3) (4 * (j % 8))

/-- Pins routed to a compare's pulse. -/
def cmpPins (s : State) (n : Nat) : BitVec 24 :=
  BitVec.ofNat 24 ((List.range 24).foldl (fun a j => a + (if gpioFunc s j = n + 1 then 2 ^ j else 0)) 0)

/-- A compare fires: ARM clears, FIRED and its interrupt set, and every pin routed to it pulses for 1 µs (R121). -/
def fireCompare (n : Nat) (s : State) : State :=
  let off := 0x0200A4 + 8 * n
  let s := setRegFld off 31 30 1 s
  let s := raise bTIME (9 + n) s
  if cmpPins s n = 0 then s
  else { s with time.pulses := vmod s.time.pulses n (fun _ => (s.clk + 1000, cmpPins s n)) }

/-- Every armed compare whose target is past fires (R120, R121). -/
def fireDue (s : State) : State :=
  (List.range 4).foldl (fun s n => if cmpArmed s n ∧ isPast (cmpTarget s n) (now s) then fireCompare n s else s) s

/-- The next multiple of a period that is equal to or greater than served time, as an index (R25, R26). -/
def nextIndex (t period : Nat) : Nat := cdiv t period

/-- Epochs a second, 1 in burst tracking (R152, R154). -/
def epochHz (s : State) : Nat := if s.gnss.burst then 1 else max 1 s.gnss.cfg.rateHz

/-- TIME_PPS_ADV in ns. -/
def ppsAdv (s : State) : Nat := regFld s 0x020084 15 0

/-- Every tick next occurs at the first multiple of its period at or after the new served time (R26). The radio's
slots count from its schedule epoch (R311). -/
def realignTicks (s : State) : State :=
  let t := now s
  { s with time := { s.time with
      nextDisp := nextIndex t (10 ^ 4)
      nextProf := nextIndex t (10 ^ 6)
      nextSlot := nextIndex (t - s.radio.schedE) (10 ^ 7)
      nextEpoch := nextIndex (t * epochHz s) (10 ^ 9)
      nextSec := nextIndex t (10 ^ 9)
      ppsNext := nextIndex (t + ppsAdv s) (10 ^ 9) } }

/-- The timebase's own part of a step of a domain by e ns: a step of the selected domain clears the residual and
the pending correction, ends a PPS pulse, marks the captures and realigns the ticks (R118, R127, R130, R26). The automatic step of a
domain that is not selected (R133) is reported like any other: STEP_RESULT, STEP_DONE and its record (DESIGN CHOICE, assumption
log 7). -/
def stepDom (a : Bool) (e : Int) (s : State) : State :=
  let s := setDom a { dom s a with off40 := (dom s a).off40 + e * q40, pend40 := 0, slow := false } s
  let s := { s with time.stepResult := .done }
  let s := note 0x0241 2 (unsignedOf 64 e % 2 ^ 32) (unsignedOf 64 e / 2 ^ 32) 0 s
  let s := raise bTIME 4 s
  if s.time.selA = a then
    let s := { s with time := { s.time with resid40 := 0, ppsHigh := false, caps := s.time.caps.map (fun (c : CapInput) => { c with stepped := true }) } }
    let s := { s with time.lastStep := some (now s), gnss.stepped := true }
    fireDue (realignTicks s)
  else s

/-- The extra delay fields of a port, signed ns (R123). -/
def portDly (s : State) (n : Nat) (ingress : Bool) : Int :=
  signedOf 16 (if ingress then regFld s (0x020100 + 4 * n) 31 16 else regFld s (0x020100 + 4 * n) 15 0)

/-- The figures of R122 in 0.1 ns: egress and ingress, by port and line speed in Mbit/s. -/
def macDelay (port speed : Nat) (ingress : Bool) : Int :=
  if port < 4 then
    if speed = 10000 then (if ingress then 512 else 384) else (if ingress then 1760 else 1120)
  else if port < 12 then
    if speed = 1000 then (if ingress then 1520 else 960)
    else if speed = 100 then (if ingress then 4160 else 3280)
    else (if ingress then 32160 else 24080)
  else 0

/-- A MAC timestamp referred to the balls: with AUTO_CORR the ingress figure is subtracted and the egress figure
added, and an external port's own delay with it (R122, R123). Whole ns, rounded down. -/
def macStamp (s : State) (port speed : Nat) (ingress : Bool) (t : Nat) : Nat :=
  let auto : Int := if regBit s 0x0200E0 31 then macDelay port speed ingress else 0
  let ext : Int := if port < 12 then portDly s port ingress * 10 else 0
  let d := auto + ext
  unsignedOf 64 (((t : Int) * 10 + (if ingress then -d else d)) / 10)

/-- A transmit timestamp enters the queue of 64, or is dropped and counted (R125). -/
def pushTxTs (x : TxTs) (s : State) : State :=
  if s.time.txts.length < 64 then raise bTIME 7 { s with time.txts := s.time.txts ++ [x] }
  else raise bTIME 8 (bump 0x02014C 0 s)

/-- A write of TIME_CTRL.SEL (R112): a valid domain is selected; a write that selects an invalid one is refused. -/
def selWrite (sel : Bool) (s : State) : State :=
  if ¬ (dom s sel).valid then raise bTIME 13 s
  else if s.time.selA = sel then s else selectDom sel s

/-- SEL_WRITE (R112). -/
def execSelWrite (sel : Bool) (s : State) : Out := .next (bus s (selWrite sel))

/-- SOURCE_LOST (R112, R131, R135): both tells that the other domain's source is lost in the same cycle. -/
def execSourceLost (alt both : Bool) (s : State) : Out := .next (bus s (loseSources (if both then [alt, !alt] else [alt])))

/-- SOFT_TIMEOUT (R110): SOFT_TIMEOUT passes without a RATE or CORR write; a domain whose own falls in the same cycle goes with it
(R135). -/
def execSoftTimeout (alt : Bool) (s : State) : Out :=
  .next (bus s fun s =>
    if sourceOf s alt = 2 ∧ (dom s alt).valid then
      let s := advanceClk ((dom s alt).lastWrite + softTimeoutNs s alt) s
      loseSources ([alt, !alt].filter (fun a => sourceOf s a == 2 && decide ((dom s a).lastWrite + softTimeoutNs s a ≤ s.clk))) s
    else s)

/-- TWIN_EXCHANGE_TIMEOUT (R110): 10 ms pass without an exchange, for both domains where both follow it (R135). -/
def execTwinExchangeTimeout (alt : Bool) (s : State) : Out :=
  .next (bus s fun s =>
    if sourceOf s alt = 3 ∧ (dom s alt).valid then
      let s := advanceClk ((dom s alt).lastWrite + 10 ^ 7) s
      loseSources ([alt, !alt].filter (fun a => sourceOf s a == 3 && decide ((dom s a).lastWrite + 10 ^ 7 ≤ s.clk))) s
    else s)

/-- COMPARE_ARM (R121): a write of TIME_CMPn_HI; a target already past fires at once (R120). -/
def execCompareArm (n : Fin 4) (hi : Word) (s : State) : Out :=
  .next (bus s fun s =>
    let s := regWrite (0x0200A4 + 8 * n.val) hi s
    if cmpArmed s n ∧ isPast (cmpTarget s n) (now s) then fireCompare n s else s)

/-- COMPARE_FIRE (R121): the target of an armed compare becomes past. -/
def execCompareFire (n : Fin 4) (s : State) : Out :=
  .next (bus s fun s =>
    if cmpArmed s n then
      let d := (cmpTarget s n + 2 ^ 48 - now s % 2 ^ 48) % 2 ^ 48
      fireCompare n (if isPast (cmpTarget s n) (now s) then s else advanceTo (now s + d) s)
    else s)

/-- Served time lies within 1 ms after the last step (R127). -/
def nearStep (s : State) : Bool :=
  match s.time.lastStep with
  | some t => decide (now s < t + 10 ^ 6)
  | none => false

/-- The PPS edge of the whole second now reached: PPS_OUT rises, unless it is disabled, held by a wake, or the edge
falls within 1 ms after a step (R126, R127, R95). EN governs the edge: to clear it while PPS_OUT is high leaves the pulse to its fall
(DESIGN CHOICE, assumption log 7). -/
def ppsEdge (s : State) : State :=
  let s := { s with time.ppsNext := s.time.ppsNext + 1 }
  if regBit s 0x020080 31 ∧ ¬ s.sys.wakeHold ∧ ¬ nearStep s then
    { s with time := { s.time with ppsHigh := true, ppsFallAt := s.clk + regFld s 0x020080 23 0 * 1000 } }
  else s

/-- PPS_OUT_EDGE (R126): the next whole second, less TIME_PPS_ADV. -/
def execPpsOutEdge (s : State) : Out :=
  .next (bus s fun s => ppsEdge (advanceTo (s.time.ppsNext * 10 ^ 9 - ppsAdv s) s))

/-- PPS_OUT_FALL (R126): WIDTH_US after the edge. -/
def execPpsOutFall (s : State) : Out :=
  .next (bus s fun s =>
    if s.time.ppsHigh then
      let s := advanceClk s.time.ppsFallAt s
      { s with time.ppsHigh := false }
    else s)

/-- CAPTURE_EDGE (R129, R130): a selected edge enters its FIFO of 16, or is lost. -/
def execCaptureEdge (inp : Fin 5) (rising : Bool) (s : State) : Out :=
  .next (bus s fun s =>
    let e := regFld s 0x0200C0 (2 * inp.val + 1) (2 * inp.val)
    let c := s.time.caps[inp]
    if ¬ (if rising then e % 2 = 1 else 2 ≤ e) then s
    else if c.fifo.length < 16 then
      let x : CapEntry := { time := BitVec.ofNat 64 (now s), rising := rising, stepped := c.stepped, ovf := c.lost }
      raise bTIME 5 { s with time.caps := s.time.caps.set inp { fifo := c.fifo ++ [x], lost := false, stepped := false } }
    else raise bTIME 6 { s with time.caps := s.time.caps.set inp { c with lost := true } })

/-- A read of TIME_CAP_LO (R129): the oldest entry of the selected input goes, and is held for CAP_HI and CAP_META. -/
def captureRead (s : State) : State :=
  let i := regFld s 0x0200C8 2 0
  let c := vget s.time.caps i {}
  match c.fifo with
  | x :: l =>
    { s with time := { s.time with capHeld := some x, caps := vmod s.time.caps i (fun c => { c with fifo := l }) }
             rdata := x.time.truncate 32 }
  | [] => { s with time.capHeld := none, rdata := 0 }

/-- CAPTURE_READ (R129): a read of TIME_CAP_LO removes the oldest entry of the selected input. -/
def execCaptureRead (s : State) : Out := .next (bus s captureRead)

/-- A read of TIME_TXTS_LO (R125): the oldest timestamp goes, and is held for TXTS_HI and TXTS_META. -/
def txtsRead (s : State) : State :=
  match s.time.txts with
  | x :: l => { s with time := { s.time with txtsHeld := some x, txts := l }, rdata := x.time.truncate 32 }
  | [] => { s with time.txtsHeld := none, rdata := 0 }

/-- TXTS_READ (R125): a read of TIME_TXTS_LO removes the oldest transmit timestamp. -/
def execTxtsRead (s : State) : Out := .next (bus s txtsRead)

end Sys2Proof.Machine
end

