-- ==== Sys2Proof/Machine/Cores.lean ====
section
/-! DEFINITION. Cores.lean: starting and holding the field cores, and the task dispatcher (15_cores_dispatcher.md). -/

namespace Sys2Proof.Machine

open Sys2Proof

/-- A field core. -/
def core_ (s : State) (k : Nat) : FieldCore := vget s.dispatch.cores k {}

/-- A field core changed. -/
def setCore (k : Nat) (f : FieldCore → FieldCore) (s : State) : State :=
  { s with dispatch.cores := vmod s.dispatch.cores k f }

/-- Modes in which cores run (R457). -/
def coreMode (s : State) : Bool := !(s.sys.mode == .reset || s.sys.mode == .forming || s.sys.mode == .dormant)

/-- A descriptor that is VALID (R460). -/
def desc (s : State) (t : Nat) : Option TaskDesc := kget s.dispatch.descs t

/-- Pending activations of a task (R462). -/
def actsOf (s : State) (t : Nat) : Nat := (kget s.dispatch.acts t).getD 0

/-- Some core runs the task. -/
def running (s : State) (t : Nat) : Bool := (List.range 8).any (fun k => (core_ s k).task == some t)

/-- Pending activations set; 0 is not listed. -/
def setActs (t n : Nat) (s : State) : State :=
  { s with dispatch.acts := if n = 0 then kdel s.dispatch.acts t else kset s.dispatch.acts t n }

/-- A task joins the tail of its queue when it has become ready, and leaves it when it no longer is (R462, R464). -/
def settleTask (t : Nat) (s : State) : State :=
  let isReady := (desc s t).isSome && decide (0 < actsOf s t) && !running s t
  if isReady then
    if s.dispatch.ready.contains t then s else { s with dispatch.ready := s.dispatch.ready ++ [t] }
  else { s with dispatch.ready := s.dispatch.ready.filter (· != t) }

/-- One activation more, merged at 65,535 (R462). -/
def postTask (t : Nat) (s : State) : State :=
  if (desc s t).isNone then s else settleTask t (setActs t (min 65535 (actsOf s t + 1)) s)

/-- Activations and delay entry of a task removed; an activation that a core runs continues (R461, R469). -/
def cancelTask (t : Nat) (s : State) : State :=
  let s := settleTask t (setActs t 0 s)
  let s := { s with dispatch.delays := s.dispatch.delays.filter (fun e => e.task != t) }
  (List.range 8).foldl (fun s k => setCore k (fun c => if c.task = some t then { c with dropped := true } else c) s) s

/-- WEIGHT and core mask of a group in force. -/
def group (s : State) (g : Nat) : Nat × BitVec 8 := nth s.dispatch.groups g (1, 0xFF)

/-- A task is eligible for core k (R464). -/
def eligible (s : State) (k t : Nat) : Bool :=
  match desc s t with
  | some d => d.cores.toNat.testBit k && (group s d.group).2.toNat.testBit k && (core_ s k).health != .retired && !(core_ s k).gated
  | none => false

/-- Level of a task. -/
def levelOf (s : State) (t : Nat) : Nat := match desc s t with | some d => d.level | none => 64

/-- Group of a task. -/
def groupOf (s : State) (t : Nat) : Nat := match desc s t with | some d => d.group | none => 0

/-- The lowest level that holds a ready task eligible for k. -/
def bestLevel (s : State) (k : Nat) : Option Nat :=
  ((s.dispatch.ready.filter (eligible s k)).map (levelOf s)).min?

/-- The first ready task of a group at a level eligible for k. -/
def firstReady (s : State) (k p g : Nat) : Option Nat :=
  s.dispatch.ready.find? (fun t => eligible s k t && levelOf s t == p && groupOf s t == g)

/-- cur[p] of R464. -/
def cursor (s : State) (p : Nat) : Nat := (kget s.dispatch.cur p).getD 0

/-- def[g][p] of R464. -/
def deficit (s : State) (g p : Nat) : Nat :=
  ((s.dispatch.defs.find? (fun x => x.1 == (g, p))).map Prod.snd).getD 0

/-- def[g][p] set; 0 is not listed. -/
def setDeficit (g p n : Nat) (s : State) : State :=
  let rest := s.dispatch.defs.filter (fun x => x.1 != (g, p))
  { s with dispatch.defs := if n = 0 then rest else ((g, p), n) :: rest }

/-- cur[p] moves on and the next group gains its weight (R464). -/
def nextGroup (p : Nat) (s : State) : State :=
  let g := (cursor s p + 1) % 16
  setDeficit g p (deficit s g p + (group s g).1) { s with dispatch.cur := kset s.dispatch.cur p g }

/-- COST of a task. -/
def costOf (s : State) (t : Nat) : Nat := match desc s t with | some d => d.cost | none => 0

/-- The loop of R464 at a level. Each group gains at least 1 in 16 rounds and a cost is at most 255, so 4,112 rounds
always find a task. -/
def selectGo (k p : Nat) : Nat → State → Option Nat × State
  | 0, s => (none, s)
  | n + 1, s =>
    let g := cursor s p
    match firstReady s k p g with
    | none => selectGo k p n (nextGroup p (setDeficit g p 0 s))
    | some t =>
      if costOf s t ≤ deficit s g p then (some t, setDeficit g p (deficit s g p - costOf s t) s)
      else selectGo k p n (nextGroup p s)

/-- The selection of R464 for core k. -/
def selectTask (k : Nat) (s : State) : Option Nat × State :=
  match bestLevel s k with
  | none => (none, s)
  | some p => selectGo k p 4112 s

/-- The DISPATCH interrupt of core k (R465). -/
def dispatchIrq (s : State) (k : Nat) : Bool :=
  (core_ s k).task == none && s.dispatch.ready.any (eligible s k)

/-- Cores that a ready task could preempt (R466). -/
def victims (s : State) (t : Nat) : List Nat :=
  (List.range 8).filter (fun k => eligible s k t && (match (core_ s k).task with
    | some r => decide (levelOf s t < levelOf s r) && !(match desc s r with | some d => d.noPreempt | none => false)
    | none => false))

/-- The victim of a task among cores not yet one: the lowest-priority run, ties to the higher core (R466). -/
def victimOf (s : State) (used : List Nat) (t : Nat) : Option Nat :=
  ((victims s t).filter (fun k => !used.contains k)).foldl (fun b k =>
    match b with
    | none => some k
    | some j => if levelOf s (((core_ s j).task).getD 0) ≤ levelOf s (((core_ s k).task).getD 0) then some k else some j) none

/-- Ready tasks without an idle core for which they are eligible, by level then queue order, with their victims (R466). A core that
is held is not idle (DEDUCED, assumption log 13). -/
def victimList (s : State) : List Nat :=
  ((List.range 64).flatMap (fun p => s.dispatch.ready.filter (fun t => levelOf s t == p))).foldl (fun used t =>
    if (List.range 8).any (fun k => eligible s k t && (core_ s k).started && (core_ s k).task == none) then used
    else match victimOf s used t with | some k => used ++ [k] | none => used) []

/-- The PREEMPT interrupt of core k (R466). -/
def preemptIrq (s : State) (k : Nat) : Bool := (victimList s).contains k

/-- The value of DISPATCH_TIMECMPk. -/
def timeCmp (s : State) (k : Nat) : Nat :=
  (regWord s (0x0D0300 + 8 * k)).toNat + (regWord s (0x0D0304 + 8 * k)).toNat * 2 ^ 32

/-- MTIP of core k (R454). -/
def mtip (s : State) (k : Nat) : Bool := decide (timeCmp s k ≤ now s)

/-- MEIP of core k (R454, R481). -/
def meip (s : State) (k : Nat) : Bool := mbCoreLine s k

/-- Registers of a core that read the same for ever, and those that follow the part (R450, R454). -/
inductive CoreCsr where
  | misa | mvendorid | marchid | mimpid | mhartid | time | mip
  deriving DecidableEq, Repr

/-- What a core's registers read that do not hold state of the core: mip has MSIP at 3, MTIP at 7, MEIP at 11, DISPATCH at 16 and
PREEMPT at 17 (R450, R454). -/
def coreCsr (s : State) (k : Nat) : CoreCsr → BitVec 64
  | .misa => 0x800000000014112D
  | .mvendorid | .marchid => 0
  | .mimpid => 0x96100010
  | .mhartid => BitVec.ofNat 64 k
  | .time => BitVec.ofNat 64 (now s)
  | .mip => BitVec.ofNat 64 (2 ^ 3 * b2n (regBit s 0x0D0010 k) + 2 ^ 7 * b2n (mtip s k) + 2 ^ 11 * b2n (meip s k)
      + 2 ^ 16 * b2n (dispatchIrq s k) + 2 ^ 17 * b2n (preemptIrq s k))

/-- A core's state at a start: machine mode at DISPATCH_RESET_VEC, a0 the core's number and a1 the start cause; the rest is
undefined, so free (R455). -/
def startArch (s : State) (k cause : Nat) : CoreArch :=
  let free (i : Nat) : Nat := Config.coreReg s.fresh i
  { pc := BitVec.ofNat 64 ((regWord s 0x0D0008).toNat / 4 * 4 + (regWord s 0x0D000C).toNat * 2 ^ 32)
    priv := .machine
    xs := (List.range 32).map (fun i =>
      if i = 0 then 0 else if i = 10 then BitVec.ofNat 64 k else if i = 11 then BitVec.ofNat 64 cause else BitVec.ofNat 64 (free i))
    fs := (List.range 32).map (fun i => BitVec.ofNat 64 (free (32 + i)))
    pmpcfg := (List.range 16).map (fun i => BitVec.ofNat 8 (free (64 + i)))
    pmpaddr := (List.range 16).map (fun i => BitVec.ofNat 64 (free (80 + i)))
    satp := BitVec.ofNat 64 (free 96), mie := BitVec.ofNat 64 (free 97), mideleg := BitVec.ofNat 64 (free 98) }

/-- A core leaves its run and its reset-bound state: its activation is discarded, its mailbox side reset (R480). -/
def stopCore (k : Nat) (s : State) : State :=
  let t := (core_ s k).task
  let s := setCore k (fun c => { c with started := false, stopping := false, task := none, dropped := false }) s
  let s := match t with | some t => settleTask t s | none => s
  coreSideReset k s

/-- A core starts if its RUN bit is set and nothing holds it (R455). -/
def startCore (k cause : Nat) (s : State) : State :=
  let c := core_ s k
  if c.run ∧ coreMode s ∧ ¬ c.gated ∧ c.health = .ok then
    let a := startArch s k cause
    coreSideReset k (setCore k (fun c => { c with started := true, startCause := cause, arch := a }) (drawn s))
  else s

/-- A core's shutdown comes to its instruction boundary; a RUN that was set meanwhile takes effect (R456, R69). -/
def settleCore (k : Nat) (s : State) : State :=
  if ¬ (core_ s k).stopping then s
  else
    let s := stopCore k s
    if (core_ s k).run then raise bPARISON 2 (startCore k 0 s) else s

/-- RUN of DISPATCH_CTRL written (R455, R456). inside names the cores that are not at an instruction boundary: their shutdown
completes later. -/
def writeRun (mask inside : Nat) (s : State) : State :=
  (List.range 8).foldl (fun s k =>
    let on := mask.testBit k
    if on = (core_ s k).run then s
    else
      let s := setCore k (fun c => { c with run := on }) s
      if (core_ s k).stopping then s
      else if on then startCore k 0 s
      else if ¬ (core_ s k).started then s
      else if inside.testBit k then setCore k (fun c => { c with stopping := true }) s
      else stopCore k s) s

/-- RUN (R455, R456). -/
def execRun (mask inside : BitVec 8) (s : State) : Out := .next (bus s (writeRun mask.toNat inside.toNat))

/-- Cores 2 to 7 are power-gated (R86, R457). -/
def gateCores (s : State) : State :=
  (List.range 6).foldl (fun s j => setCore (j + 2) (fun c => { c with gated := true }) (stopCore (j + 2) s)) s

/-- Cores 2 to 7 return, those whose RUN bit is set with start cause 2 (R457). -/
def ungateCores (s : State) : State :=
  (List.range 6).foldl (fun s j =>
    if (core_ s (j + 2)).gated then startCore (j + 2) 2 (setCore (j + 2) (fun c => { c with gated := false }) s) else s) s

/-- Forming holds every core, clears RUN and clears every descriptor and binding (R456). -/
def clearDispatch (s : State) : State :=
  let s := (List.range 8).foldl (fun s k => setCore k (fun c => { c with run := false }) (stopCore k s)) s
  { s with dispatch := { s.dispatch with
    descs := [], acts := [], ready := [], delays := [], cur := [], defs := [], binds := [], descResult := 0 } }

/-- A descriptor's fields from its 32 bytes (R460). -/
def descOf (bs : Bytes) : TaskDesc :=
  { entry := BitVec.ofNat 64 (leAt bs 0 8), arg := BitVec.ofNat 64 (leAt bs 8 8), level := byteAt bs 0x10
    group := byteAt bs 0x11, cores := BitVec.ofNat 8 (byteAt bs 0x12), noPreempt := (byteAt bs 0x13).testBit 1
    cost := byteAt bs 0x14, period := BitVec.ofNat 32 (leAt bs 0x18 4) }

/-- The descriptor buffer as bytes. -/
def descBytes (s : State) : Bytes := padTo 32 (s.dispatch.descBuf.flatMap (fun w => leBytes 4 w.toNat))

/-- A GO write of DISPATCH_DESC_CTRL (R461). -/
def descWrite (t : Nat) (s : State) : State :=
  let bs := descBytes s
  let d := descOf bs
  let valid := (byteAt bs 0x13).testBit 0
  if 63 < d.level ∨ 15 < d.group ∨ d.cost = 0 ∨ (valid ∧ d.cores = 0) then { s with dispatch.descResult := 2 }
  else
    let s := cancelTask t s
    { s with dispatch := { s.dispatch with
      descs := if valid then kset s.dispatch.descs t d else kdel s.dispatch.descs t, descResult := 1 } }

/-- DESC_WRITE (R461). -/
def execDescWrite (t : Fin 4096) (s : State) : Out := .next (bus s (descWrite t.val))

/-- POST (R462). -/
def execPost (t : Fin 4096) (s : State) : Out := .next (bus s (postTask t.val))

/-- CANCEL (R469): ignored for a task that is not VALID (R462). -/
def execCancel (t : Fin 4096) (s : State) : Out :=
  .next (bus s fun s => if (desc s t.val).isNone then s else cancelTask t.val s)

/-- DISPATCH_DELAY_LO of a master. -/
def delayLo (s : State) (m : Master) : Nat :=
  ((s.dispatch.delayLo.find? (fun b => b.1 == m)).map (fun b => b.2.toNat)).getD 0

/-- A task's delay entry set (R468). -/
def setDelay (t wake : Nat) (s : State) : State :=
  { s with dispatch.delays := s.dispatch.delays.filter (fun e => e.task != t) ++ [{ task := t, wake := BitVec.ofNat 48 wake }] }

/-- A write of DISPATCH_DELAY_HI (R468). -/
def delayTask (m : Master) (t hi : Nat) (s : State) : State :=
  if (desc s t).isNone then s else setDelay t (delayLo s m + hi * 2 ^ 32) s

/-- DELAY (R468). -/
def execDelay (who : Master) (t : Fin 4096) (hi : BitVec 16) (s : State) : Out :=
  .next (bus s (delayTask who t.val hi.toNat))

/-- How far a wake time lies back, on the low 48 bits of served time (R120). -/
def lateBy (s : State) (e : DelayEntry) : Nat := (now s % 2 ^ 48 + 2 ^ 48 - e.wake.toNat) % 2 ^ 48

/-- Due delay entries, earliest wake first, then by task index (R468). -/
def dueDelays (s : State) : List DelayEntry :=
  sortBy (fun a b => decide (lateBy s b < lateBy s a) || (lateBy s a == lateBy s b && decide (a.task ≤ b.task)))
    (s.dispatch.delays.filter (fun e => isPast e.wake.toNat (now s)))

/-- The next wake of a periodic task: the first of its sequence that lies in the future (R469). -/
def nextWake (s : State) (e : DelayEntry) (periodNs : Nat) : Nat :=
  e.wake.toNat + periodNs * (lateBy s e / periodNs + 1)

/-- A due entry wakes its task (R468, R469). -/
def wakeOne (s : State) (e : DelayEntry) : State :=
  let period := match desc s e.task with | some d => d.period.toNat * 10000 | none => 0
  let rest := { s with dispatch.delays := s.dispatch.delays.filter (fun x => x.task != e.task) }
  let s1 := if period = 0 then rest else setDelay e.task (nextWake s e period) rest
  postTask e.task s1

/-- Group writes take effect (R471). -/
def applyGroups (s : State) : State :=
  let gs := s.dispatch.nextGroups.foldl (fun l x => lmod l x.1 (fun _ => x.2)) s.dispatch.groups
  { s with dispatch := { s.dispatch with groups := gs, nextGroups := [] } }

/-- A dispatcher tick: group changes and due wakes (R25, R468, R471). -/
def dispTick (s : State) : State :=
  let s := applyGroups { s with time.nextDisp := now s / 10000 + 1 }
  (dueDelays s).foldl wakeOne s

/-- DISPATCHER_TICK (R25): served time passes the next multiple of 10 µs. -/
def execDispatcherTick (s : State) : Out :=
  .next (bus s fun s => dispTick (advanceTo (s.time.nextDisp * 10000) s))

/-- The first tick from the next one on at which a wake time is past. -/
def wakeTick (s : State) (wake : Nat) : Nat :=
  match aheadNs wake (now s) with
  | some d => max (s.time.nextDisp * 10000) (cdiv (now s + d) 10000 * 10000)
  | none => s.time.nextDisp * 10000
where
  /-- Distance of a future target on the low 48 bits (R120). -/
  aheadNs (target nowNs : Nat) : Option Nat :=
    let d := (target % 2 ^ 48 + 2 ^ 48 - nowNs % 2 ^ 48) % 2 ^ 48
    if 0 < d ∧ d < 2 ^ 47 then some d else none

/-- DELAY_WAKE (R468): the first tick at which the task's wake time is past. -/
def execDelayWake (t : Fin 4096) (s : State) : Out :=
  .next (bus s fun s =>
    match s.dispatch.delays.find? (fun e => e.task == t.val) with
    | some e => dispTick (advanceTo (wakeTick s e.wake.toNat) s)
    | none => s)

/-- What a take puts into rdata. -/
def taken : Option Nat → Word
  | some t => BitVec.ofNat 32 (0x80000000 + t)
  | none => 0

/-- The selection of R464 made for a core, with the state it leaves (R465, R467). A core that takes while it runs a task gives that run up
(assumption log 13). -/
def takeOne (k : Nat) (s : State) : Option Nat × State :=
  match selectTask k s with
  | (none, _) => (none, s)
  | (some t, s) =>
    let old := (core_ s k).task
    let d := (desc s t).getD {}
    let s := setActs t (actsOf s t - 1) s
    let s := setCore k (fun c => { c with task := some t, dropped := false, takeEntry := d.entry, takeArg := d.arg }) s
    let s := settleTask t s
    let s := match old with | some o => settleTask o s | none => s
    (some t, s)

/-- A core's take is made before its own command comes: what it will read is kept (R472). -/
def takeEarly (k : Nat) (s : State) : State :=
  let r := takeOne k s
  { r.2 with dispatch.early := r.2.dispatch.early ++ [(k, taken r.1)] }

/-- A read of DISPATCH_TAKEk by its core. rivals names the cores that read TAKE in the same cycle: those with a lower number select
first (R465, R472). -/
def takeTask (k rivals : Nat) (s : State) : State :=
  match kget s.dispatch.early k with
  | some w => { s with rdata := w, dispatch.early := kdel s.dispatch.early k }
  | none =>
    let ahead := (List.range k).filter (fun j => rivals.testBit j && (kget s.dispatch.early j).isNone && (core_ s j).task.isNone)
    let r := takeOne k (ahead.foldl (fun s j => takeEarly j s) s)
    { r.2 with rdata := taken r.1 }

/-- TAKE (R465, R467, R472). -/
def execTake (k : Fin 8) (who : Master) (rivals : BitVec 8) (s : State) : Out :=
  .next (bus s fun s => if who = .core k then takeTask k.val rivals.toNat s else { s with rdata := 0 })

/-- A write of DISPATCH_DONEk by its core (R465, R467). -/
def doneTask (k t : Nat) (s : State) : State :=
  if (core_ s k).task = some t then
    settleTask t (setCore k (fun c => { c with task := none, dropped := false }) s)
  else s

/-- DONE (R465, R467). -/
def execDone (k : Fin 8) (who : Master) (t : Fin 4096) (s : State) : Out :=
  .next (bus s fun s => if who = .core k then doneTask k.val t.val s else s)

/-- A write of DISPATCH_YIELDk by its core: the task returns to the head of its queue with its activation, unless it
was cancelled since its take (R466, R467, R472). -/
def yieldTask (k t : Nat) (s : State) : State :=
  let c := core_ s k
  if c.task ≠ some t then s
  else
    let s := setCore k (fun c => { c with task := none, dropped := false }) s
    if c.dropped ∨ (desc s t).isNone then settleTask t s
    else
      let s := setActs t (min 65535 (actsOf s t + 1)) s
      { s with dispatch.ready := t :: s.dispatch.ready.filter (· != t) }

/-- DISPATCH_YIELD (R466, R467). -/
def execDispatchYield (k : Fin 8) (who : Master) (t : Fin 4096) (s : State) : Out :=
  .next (bus s fun s => if who = .core k then yieldTask k.val t.val s else s)

/-- A write of DISPATCH_BINDn (R463). -/
def writeBind (n : Nat) (w : Word) (s : State) : State :=
  let rest := s.dispatch.binds.filter (fun b => b.n != n)
  if ¬ bit w 31 then { s with dispatch.binds := rest }
  else
    let b : Binding := { n := n, block := fld w 28 24, task := fld w 11 0, line := intLine s (fld w 28 24) }
    { s with dispatch.binds := rest ++ [b] }

/-- BIND (R463). -/
def execBind (n : Fin 32) (w : Word) (s : State) : Out := .next (bus s (writeBind n.val w))

/-- Bindings whose line has fallen are ready for its next rising edge (R463). -/
def dropLines (s : State) : State :=
  { s with dispatch.binds := s.dispatch.binds.map (fun (b : Binding) => if intLine s b.block then b else { b with line := false }) }

/-- A binding's line has risen: one activation (R463). -/
def bindEdge (n : Nat) (s : State) : State :=
  match s.dispatch.binds.find? (fun b => b.n == n) with
  | some b =>
    if intLine s b.block ∧ ¬ b.line then
      postTask b.task { s with dispatch.binds := s.dispatch.binds.map (fun (x : Binding) => if x.n = n then { x with line := true } else x) }
    else s
  | none => s

/-- BOUND_INTERRUPT (R463). -/
def execBoundInterrupt (n : Fin 32) (s : State) : Out := .next (bus s (bindEdge n.val))

/-- TIMER_COMPARE (R454): served time reaches the compare value, and MTIP is pending from then on. -/
def execTimerCompare (k : Fin 8) (s : State) : Out :=
  .next (bus s fun s => advanceTo (timeCmp s k.val) s)

end Sys2Proof.Machine
end

