-- ==== Sys2Proof/Machine/Geode.lean ====
section
/-! DEFINITION. Geode.lean: the key vault: checks of a slot's use, the key commands, the fuses and the host world
(17_geode_keys.md). -/

namespace Sys2Proof.Machine

open Sys2Proof

/-- GEODE's block index. -/
def bGEODE : Nat := 0x0F

/-- USAGE codes of an attribute word (R501). -/
def useEnc : Nat := 0
def useDec : Nat := 1
def useWrap : Nat := 2
def useDerive : Nat := 3

/-- TYPE codes of an attribute word (R501). -/
def tyAes128 : Nat := 1
def tyAes256 : Nat := 2
def tyP384 : Nat := 3
def tyKdf256 : Nat := 4

/-- MASTERS bit of a master (R501). -/
def masterBit : Master → Nat
  | .host => 8
  | .core k => 9 + k.val
  | .warden => 17
  | .pendant => 18
  | .frauri => 19

/-- MASTERS bits of the radio MAC, the Frauri engine and the image loader (R501). -/
def mbRadio : Nat := 18
def mbFrauri : Nat := 19
def mbLoader : Nat := 20

/-- An access carries the TRUSTED world (R504). -/
def trusted (s : State) (a : Access) : Bool :=
  match a.master with
  | .host => s.geode.hostOpen || s.geode.fuses.life == .factory
  | .core _ => a.mmode
  | _ => true

/-- LIFE bit of a life-cycle state (R501, R503); BLANK and SCRAPPED have none. -/
def Life.bit : Life → Option Nat
  | .factory => some 23
  | .owned => some 24
  | .field => some 25
  | .returned => some 26
  | _ => none

/-- A mask whose LIFE bits stand at 23 holds the state. -/
def lifeIn (w : Nat) (l : Life) : Bool := match l.bit with | some b => w.testBit b | none => false

/-- The root that a state selects (R507). -/
def currentRoot (f : Fuses) : Option Bytes :=
  match f.life with
  | .factory => some f.rootFactory
  | .owned => some f.rootOwner
  | .field => some f.rootField
  | .returned => some f.rootReturn
  | _ => none

/-- A slot's attribute word; 0 for an empty slot. -/
def slotAttr (s : State) (n : Nat) : Nat := match kget s.geode.slots n with | some x => x.attr.toNat | none => 0

/-- A slot's key. -/
def slotKey (s : State) (n : Nat) : Bytes := match kget s.geode.slots n with | some x => x.key | none => []

/-- A slot's MASTERS and WORLDS checks (R503). -/
def slotOwner (s : State) (n mbit : Nat) (tr : Bool) : GResult :=
  if (kget s.geode.slots n).isNone then .empty
  else if ¬ (slotAttr s n).testBit mbit then .deniedMaster
  else if ¬ (slotAttr s n).testBit (if tr then 21 else 22) then .deniedWorld
  else .done

/-- The checks of a use of a slot, in order; DONE passes (R503). types are those that suit the operation. -/
def slotCheck (s : State) (n mbit : Nat) (tr : Bool) (usage : Nat) (types : List Nat) : GResult :=
  let r := slotOwner s n mbit tr
  if r ≠ .done then r
  else if ¬ lifeIn (slotAttr s n) s.geode.fuses.life then .deniedLc
  else if bitsOf (slotAttr s n) 1 0 ≠ usage then .usage
  else if ¬ types.contains (bitsOf (slotAttr s n) 5 2) then .type
  else .done

/-- Types of a key-encryption key: key wrap is an operation of AES, whose keys have 128 or 256 bits (R502, R503). -/
def kekTypes : List Nat := [tyAes128, tyAes256]

/-- The key that a block may use, whose world is TRUSTED (R503, R504, R518). -/
def blockKey (s : State) (n mbit usage type : Nat) : Option Bytes :=
  if slotCheck s n mbit true usage [type] = .done then some (slotKey s n) else none

/-- A refused use by a block (R503). -/
def useRefused (s : State) : State := raise bGEODE 2 (bump 0x0F0154 0 s)

/-- Bytes of a key by TYPE (R501). -/
def keyLen (type : Nat) : Nat := if type = tyAes128 then 16 else if type = tyP384 then 48 else 32

/-- One block of the counter-mode derivation (R508). -/
def kdfBlock (k label ctx : Bytes) (bits i : Nat) : Bytes :=
  padTo 16 (Config.cmac k (beBytes 1 i ++ label ++ [0] ++ ctx ++ beBytes 2 bits))

/-- Derivation of L bits (R508). -/
def kdf (k label ctx : Bytes) (bits : Nat) : Bytes :=
  padTo (bits / 8) ((List.range ((bits + 127) / 128)).flatMap (fun i => kdfBlock k label ctx bits (i + 1)))

/-- The order n of P-384 (FIPS 186-5). -/
def p384N : Nat :=
  0xFFFFFFFFFFFFFFFFFFFFFFFFFFFFFFFFFFFFFFFFFFFFFFFFC7634D81F4372DDF581A0DB248B0A77AECEC196ACCC52973

/-- A derived key of a TYPE (R508). A scalar is kept big-endian, as R508 writes integers (assumption log 9). -/
def derivedKey (k label ctx : Bytes) (type : Nat) : Bytes :=
  if type = tyP384 then beBytes 48 (beNat (kdf k label ctx 512) % (p384N - 1) + 1)
  else kdf k label ctx (if type = tyAes128 then 128 else 256)

/-- ASCII bytes. -/
def ascii (l : List Nat) : Bytes := l.map (BitVec.ofNat 8)

/-- "TZ96-HOST-AUTH" (R505). -/
def labelHostAuth : Bytes := ascii [0x54, 0x5A, 0x39, 0x36, 0x2D, 0x48, 0x4F, 0x53, 0x54, 0x2D, 0x41, 0x55, 0x54, 0x48]

/-- "TZ96-LC-RETURN" (R509). -/
def labelLcReturn : Bytes := ascii [0x54, 0x5A, 0x39, 0x36, 0x2D, 0x4C, 0x43, 0x2D, 0x52, 0x45, 0x54, 0x55, 0x52, 0x4E]

/-- "TZ96-IMAGE-KEK" (R517). -/
def labelImageKek : Bytes := ascii [0x54, 0x5A, 0x39, 0x36, 0x2D, 0x49, 0x4D, 0x41, 0x47, 0x45, 0x2D, 0x4B, 0x45, 0x4B]

/-- The UID as context, little-endian (R4, R505). -/
def uidBytes (s : State) : Bytes := leBytes 8 s.geode.fuses.uid.toNat

/-- The buffers of a master (R514). -/
def gbufs (s : State) (m : Master) : GBufs :=
  (s.geode.bufs.find? (fun b => b.master == m)).getD { master := m }

/-- The buffers of a master changed; an unchanged reset value is not listed. -/
def setBufs (m : Master) (f : GBufs → GBufs) (s : State) : State :=
  let b := f (gbufs s m)
  let rest := s.geode.bufs.filter (fun x => x.master != m)
  let before := rest.filter (fun x => decide (x.master.rank < m.rank))
  let after := rest.filter (fun x => decide (m.rank < x.master.rank))
  { s with geode.bufs := if b = { master := m } then before ++ after else before ++ [b] ++ after }

/-- Slots without one. -/
def delSlot (n : Nat) (s : State) : State := { s with geode.slots := kdel s.geode.slots n }

/-- Every slot erased (R515). -/
def eraseSlots (s : State) : State := { s with geode.slots := [] }

/-- A key put into a slot, VALID set (R501). -/
def putSlot (n attr : Nat) (key : Bytes) (s : State) : State :=
  let w : BitVec 32 := BitVec.ofNat 32 (bitsOf attr 26 8 * 256 + 0x80 + bitsOf attr 6 0)
  { s with geode.slots := kset s.geode.slots n { attr := w, key := padTo (keyLen (bitsOf attr 5 2)) key } }

/-- An attribute word apart from VALID and its reserved bits. -/
def attrCore (w : Nat) : Nat := bitsOf w 26 8 * 256 + bitsOf w 6 0

/-- The checks of a key that enters a slot: its type, a scalar's range, an empty slot, the policy (R501, R514). -/
def entryResult (s : State) (n attr : Nat) (key : Bytes) : GResult :=
  let ty := bitsOf attr 5 2
  if ty < 1 ∨ 4 < ty then .badParam
  else if ty = tyP384 ∧ (beNat (padTo 48 key) = 0 ∨ p384N ≤ beNat (padTo 48 key)) then .badParam
  else if (kget s.geode.slots n).isSome then .occupied
  else match kget s.geode.policy n with
    | some p => if attrCore p.toNat = attrCore attr then .done else .attrMismatch
    | none => .done

/-- A key enters a slot if its checks pass. -/
def enterKey (n attr : Nat) (key : Bytes) (s : State) : GResult × State :=
  let r := entryResult s n attr key
  (r, if r = .done then putSlot n attr key s else s)

/-- The unwrap of R514: the attribute word inside, little-endian, and the key. -/
def unwrapInto (n : Nat) (kek wrapped : Bytes) (s : State) : GResult × State :=
  match Config.kwpOpen kek wrapped with
  | none => (.unwrapFail, s)
  | some p =>
    let attr := leAt p 0 4
    let ty := bitsOf attr 5 2
    if 1 ≤ ty ∧ ty ≤ 4 ∧ p.length ≠ 4 + keyLen ty then (.unwrapFail, s)
    else enterKey n attr (p.drop 4) s

/-- RESET and MAINTENANCE, the modes of the fuse commands (R509, R513). -/
def fuseMode (s : State) : Bool := s.sys.mode == .reset || s.sys.mode == .maintenance

/-- A revoked entry does not count, and an entry serves the states of its mask (R511). -/
def hashServes (h : KeyHash) (l : Life) : Bool := !h.revoked && lifeIn (h.life.toNat * 2 ^ 23) l

/-- Some unrevoked hash has a state in its mask (R509). -/
def hasHash (s : State) (l : Life) : Bool := s.geode.fuses.hashes.any (fun h => hashServes h l)

/-- GEODE_ARG.VALUE, LABEL_LEN and CTX_LEN as a master set them. -/
def argValue (s : State) (m : Master) : Nat := (gbufs s m).value.toNat

/-- Code of a life-cycle state (R507). -/
def Life.code : Life → Nat
  | .blank => 0 | .factory => 1 | .owned => 2 | .field => 3 | .returned => 4 | .scrapped => 5

/-- Slots that the new state leaves (R510). -/
def keptSlots (l : Life) (slots : List (Nat × Slot)) : List (Nat × Slot) :=
  if l = .returned ∨ l = .scrapped then [] else slots.filter (fun p => lifeIn p.2.attr.toNat l)

/-- A life-cycle transition takes effect: the slots of R510, and the host world closes (R506). -/
def enterLife (l : Life) (a : Access) (s : State) : State :=
  let old := s.geode.fuses.life
  let s := { s with geode := { s.geode with
    fuses := { s.geode.fuses with life := l }, slots := keptSlots l s.geode.slots, hostOpen := false } }
  record 0x0F41 a.master.rank 2 old.code l.code 0 s

/-- LC_ADVANCE (R509). -/
def lcAdvance (a : Access) (s : State) : GResult × State :=
  let old := s.geode.fuses.life
  let key := padTo 64 (gbufs s a.master).keyBuf
  let t := argValue s a.master % 8
  if ¬ trusted s a then (.deniedWorld, s)
  else if ¬ fuseMode s then (.mode, s)
  else if t = 5 ∧ old ≠ .blank ∧ old ≠ .scrapped then (.done, enterLife .scrapped a s)
  else if t = 2 ∧ old = .factory then
    if hasHash s .owned then (.done, enterLife .owned a { s with geode.fuses.rootOwner := key.take 32 }) else (.noKeyHash, s)
  else if t = 3 ∧ old = .owned then
    if hasHash s .field then (.done, enterLife .field a { s with geode.fuses.rootField := key.take 32 }) else (.noKeyHash, s)
  else if t = 4 ∧ old = .field then
    let k := kdf s.geode.fuses.rootReturn labelLcReturn (uidBytes s) 256
    if key.take 16 = padTo 16 (Config.cmac k (uidBytes s)) then (.done, enterLife .returned a s) else (.token, s)
  else (.lifeCycle, s)

/-- ADD_KEY_HASH (R511, R513). -/
def addKeyHash (a : Access) (s : State) : GResult × State :=
  if ¬ trusted s a then (.deniedWorld, s)
  else if ¬ fuseMode s then (.mode, s)
  else if 8 ≤ s.geode.fuses.hashes.length then (.fuseExhausted, s)
  else
    let h : KeyHash := { hash := padTo 48 (gbufs s a.master).keyBuf, life := BitVec.ofNat 4 (bitsOf (gbufs s a.master).attr.toNat 26 23) }
    (.done, { s with geode.fuses.hashes := s.geode.fuses.hashes ++ [h] })

/-- REVOKE_HASH (R511, R513). An entry that no hash occupies is refused with BAD_PARAM (assumption log 9). -/
def revokeHash (a : Access) (s : State) : GResult × State :=
  let n := argValue s a.master % 8
  let l := s.geode.fuses.life
  if ¬ trusted s a then (.deniedWorld, s)
  else if ¬ fuseMode s then (.mode, s)
  else match s.geode.fuses.hashes[n]? with
    | none => (.badParam, s)
    | some h =>
      if hashServes h l ∧ (s.geode.fuses.hashes.filter (fun x => hashServes x l)).length ≤ 1 then (.lastKey, s)
      else (.done, { s with geode.fuses.hashes := lmod s.geode.fuses.hashes n (fun (x : KeyHash) => { x with revoked := true }) })

/-- RAISE_SECVER (R512, R513). -/
def raiseSecver (a : Access) (s : State) : GResult × State :=
  let v := argValue s a.master
  if ¬ trusted s a then (.deniedWorld, s)
  else if ¬ fuseMode s then (.mode, s)
  else if v ≤ s.geode.fuses.secMin ∨ s.parison.inForce < v then (.badParam, s)
  else if 64 ≤ s.geode.fuses.raises then (.fuseExhausted, s)
  else (.done, { s with geode.fuses := { s.geode.fuses with secMin := v, raises := s.geode.fuses.raises + 1 } })

/-- WRITE_KEY (R514). -/
def writeKey (a : Access) (slot : Nat) (s : State) : GResult × State :=
  if ¬ trusted s a then (.deniedWorld, s)
  else enterKey slot (gbufs s a.master).attr.toNat (gbufs s a.master).keyBuf s

/-- ERASE (R514). -/
def eraseKey (a : Access) (slot : Nat) (s : State) : GResult × State :=
  let r := slotOwner s slot (masterBit a.master) (trusted s a)
  if trusted s a ∨ r = .done then (.done, delSlot slot s) else (r, s)

/-- DERIVE (R508, R514). The root of a state that has none is refused with DENIED_LC (assumption log 9). -/
def deriveKey (a : Access) (root : Bool) (src slot : Nat) (s : State) : GResult × State :=
  let b := gbufs s a.master
  let attr := b.attr.toNat
  let label := bytesAt b.keyBuf 0 b.labelLen
  let ctx := bytesAt b.keyBuf 32 b.ctxLen
  let r := if root then (if ¬ trusted s a then .deniedWorld else if (currentRoot s.geode.fuses).isNone then .deniedLc else .done)
    else slotCheck s src (masterBit a.master) (trusted s a) useDerive [tyKdf256]
  let k := if root then (currentRoot s.geode.fuses).getD [] else slotKey s src
  if r ≠ .done then (r, s)
  else if b.labelLen = 0 ∨ 32 < b.labelLen ∨ 32 < b.ctxLen then (.badParam, s)
  else enterKey slot attr (derivedKey k label ctx (bitsOf attr 5 2)) s

/-- WRAP (R514). -/
def wrapKey (a : Access) (src slot : Nat) (s : State) : GResult × State :=
  let r := slotCheck s src (masterBit a.master) (trusted s a) useWrap kekTypes
  let o := slotOwner s slot (masterBit a.master) (trusted s a)
  if r ≠ .done then (r, s)
  else if o ≠ .done then (o, s)
  else if ¬ (slotAttr s slot).testBit 6 then (.notExportable, s)
  else
    let out := Config.kwpWrap (slotKey s src) (leBytes 4 (slotAttr s slot) ++ slotKey s slot)
    (.done, setBufs a.master (fun b => { b with wrap := padTo 104 out }) s)

/-- UNWRAP (R514). -/
def unwrapKey (a : Access) (src slot : Nat) (s : State) : GResult × State :=
  let r := slotCheck s src (masterBit a.master) (trusted s a) useWrap kekTypes
  if r ≠ .done then (r, s)
  else if 104 < argValue s a.master then (.badParam, s)
  else if (kget s.geode.slots slot).isSome then (.occupied, s)
  else unwrapInto slot (slotKey s src) (bytesAt (gbufs s a.master).wrap 0 (argValue s a.master)) s

/-- PUBKEY (R514). -/
def pubKey (a : Access) (slot : Nat) (s : State) : GResult × State :=
  let o := slotOwner s slot (masterBit a.master) (trusted s a)
  if o ≠ .done then (o, s)
  else if bitsOf (slotAttr s slot) 5 2 ≠ tyP384 then (.type, s)
  else (.done, setBufs a.master (fun b => { b with wrap := padTo 104 (padTo 97 (Config.p384Public (slotKey s slot))) }) s)

/-- A command ends: its result, KEY_BUF of the master cleared, and a refusal counted (R514). -/
def geodeEnd (a : Access) (r : GResult × State) : State :=
  let s := setBufs a.master (fun b => { b with keyBuf := [] }) r.2
  let s := raise bGEODE 0 { s with geode.result := r.1 }
  if r.1 = .done then s else bump 0x0F0154 1 s

/-- A write of GEODE_CMD with GO: the command that OP names. same tells that another master's GO of the same cycle was ordered first: this
one is refused with BUSY (R520). -/
def geodeRun (a : Access) (op : Nat) (root : Bool) (src slot : Nat) (same : Bool) (s : State) : State :=
  geodeEnd a
    (if same then (.busy, s)
    else if op = 1 then writeKey a slot s
    else if op = 2 then eraseKey a slot s
    else if op = 3 then deriveKey a root src slot s
    else if op = 4 then wrapKey a src slot s
    else if op = 5 then unwrapKey a src slot s
    else if op = 6 then addKeyHash a s
    else if op = 7 then revokeHash a s
    else if op = 8 then raiseSecver a s
    else if op = 9 then lcAdvance a s
    else if op = 10 then pubKey a slot s
    else (.badParam, s))

/-- WRITE_KEY (R514). -/
def execWriteKey (who : Access) (slot : Fin 128) (same : Bool) (s : State) : Out :=
  .next (bus s (geodeRun who 1 false 0 slot.val same))

/-- ERASE (R514). -/
def execErase (who : Access) (slot : Fin 128) (same : Bool) (s : State) : Out :=
  .next (bus s (geodeRun who 2 false 0 slot.val same))

/-- DERIVE (R508, R514). -/
def execDerive (who : Access) (root : Bool) (src slot : Fin 128) (same : Bool) (s : State) : Out :=
  .next (bus s (geodeRun who 3 root src.val slot.val same))

/-- WRAP (R514). -/
def execWrap (who : Access) (src slot : Fin 128) (same : Bool) (s : State) : Out :=
  .next (bus s (geodeRun who 4 false src.val slot.val same))

/-- UNWRAP (R514). -/
def execUnwrap (who : Access) (src slot : Fin 128) (same : Bool) (s : State) : Out :=
  .next (bus s (geodeRun who 5 false src.val slot.val same))

/-- PUBKEY (R514). -/
def execPubkey (who : Access) (slot : Fin 128) (same : Bool) (s : State) : Out :=
  .next (bus s (geodeRun who 10 false 0 slot.val same))

/-- ADD_KEY_HASH (R511). -/
def execAddKeyHash (who : Access) (same : Bool) (s : State) : Out := .next (bus s (geodeRun who 6 false 0 0 same))

/-- REVOKE_HASH (R511). -/
def execRevokeHash (who : Access) (same : Bool) (s : State) : Out := .next (bus s (geodeRun who 7 false 0 0 same))

/-- RAISE_SECVER (R512). -/
def execRaiseSecver (who : Access) (same : Bool) (s : State) : Out := .next (bus s (geodeRun who 8 false 0 0 same))

/-- LC_ADVANCE (R509). -/
def execLcAdvance (who : Access) (same : Bool) (s : State) : Out := .next (bus s (geodeRun who 9 false 0 0 same))

/-- A read of GEODE_CHAL0 by the host draws a fresh challenge from the random source (R505). -/
def drawChallenge (a : Access) (s : State) : State :=
  if a.master ≠ .host then { s with rdata := 0 }
  else
    let c := BitVec.ofNat 128 (freeVal s)
    let s := drawn s
    { s with geode := { s.geode with chal := c }, rdata := c.truncate 32 }

/-- CHALLENGE_READ (R505). -/
def execChallengeRead (who : Access) (s : State) : Out := .next (bus s (drawChallenge who))

/-- The response that opens the host world (R505). -/
def authResponse (s : State) : Option Bytes :=
  (currentRoot s.geode.fuses).map fun k =>
    padTo 16 (Config.cmac (kdf k labelHostAuth (uidBytes s) 256) (leBytes 16 s.geode.chal.toNat ++ uidBytes s))

/-- OPEN written to GEODE_AUTH_CTRL (R505, R506). -/
def openHost (a : Access) (s : State) : State :=
  if a.master ≠ .host then s
  else if 8 ≤ s.geode.fails then { s with geode.result := .deniedWorld }
  else if authResponse s = some (leBytes 16 s.geode.resp.toNat) then { s with geode.hostOpen := true }
  else raise bGEODE 1 { s with geode.fails := s.geode.fails + 1 }

/-- OPEN (R505, R506). -/
def execOpenWorld (who : Access) (s : State) : Out := .next (bus s (openHost who))

/-- CLOSE written to GEODE_AUTH_CTRL (R506). -/
def closeHost (a : Access) (s : State) : State :=
  if a.master ≠ .host then s else { s with geode.hostOpen := false }

/-- CLOSE (R506). -/
def execCloseWorld (who : Access) (s : State) : Out := .next (bus s (closeHost who))

/-- The renewal of a slot's masks finds that many of its two copies failed: one is rebuilt from the other; when both
fail, the slot is erased (R516). -/
def renewMasks (slot copies : Nat) (s : State) : State :=
  if (kget s.geode.slots slot).isNone ∨ copies = 0 then s
  else if copies = 1 then bump 0x0F0154 2 s
  else note 0x0F40 3 slot 0 0 (raise bGEODE 3 (bump 0x0F0154 3 (delSlot slot s)))

/-- MASK_RENEWAL (R516). The masks are visible at no register, so they are no state of the model. -/
def execMaskRenewal (slot : Fin 128) (failed : Fin 3) (s : State) : Out :=
  .next (bus s (renewMasks slot.val failed.val))

end Sys2Proof.Machine
end

