-- ==== Sys2Proof/Machine/SwitchQ.lean ====
section
/-! DEFINITION. SwitchQ.lean: the packet switch's egress queues: admission, refusal, discard, depth and the quench frame
(12_packet_switch.md R390 to R403; 11_quench_permit.md R365, R366). -/

namespace Sys2Proof.Machine

open Sys2Proof

/-- SWITCH's block index. -/
def bSWITCH : Nat := 0x0A

/-- A port's live state. -/
def swPort (s : State) (p : Nat) : SwPort := nth s.switch.live p {}

/-- A port's live state changed. -/
def setPort (p : Nat) (f : SwPort → SwPort) (s : State) : State :=
  { s with switch.live := lmod s.switch.live p f }

/-- A port's PORTS record. -/
def portCfg (s : State) (p : Nat) : PortCfg := nth s.switch.ports p {}

/-- A queue's QUEUES record, by k. -/
def queueCfg (s : State) (k : Nat) : QueueCfg := nth s.switch.qcfg k {}

/-- A queue's live state, by k. -/
def swQ (s : State) (k : Nat) : SwQueue := (kget s.switch.queues k).getD {}

/-- A queue's live state changed. -/
def setQ (k : Nat) (f : SwQueue → SwQueue) (s : State) : State :=
  { s with switch.queues := kmod s.switch.queues k {} f }

/-- Queue index of a port's queue (R390). -/
def qk (p q : Nat) : Nat := 32 * p + q

/-- One event of a port counter. -/
def bumpPort (p ev : Nat) (s : State) : State := bump 0x0A0024 (ev + 16 * p) s

/-- One event of a queue counter. -/
def bumpQ (k ev : Nat) (s : State) : State := bump 0x0A0048 (ev + 8 * k) s

/-- The switch runs a port in this mode (R404, R86); nothing leaves during a wake (R95). -/
def portRuns (s : State) (p : Nat) : Bool :=
  match s.sys.mode with
  | .reset | .forming | .dormant => false
  | .reserve => p < 4 || 12 ≤ p
  | .yielded => !s.sys.shed || p < 4 || 12 ≤ p
  | _ => true

/-- A port is enabled, runs and has its link up (R379, R402). -/
def portUp (s : State) (p : Nat) : Bool :=
  let x := swPort s p
  x.en && !x.stopping && !x.shedWait && portRuns s p && (12 ≤ p || x.up)

/-- Link rate R of a port in Mbit/s (R377). -/
def portRate (s : State) (p : Nat) : Nat :=
  if p = 12 then 32000 else if p = 13 then 20000 else if p = 14 then 1000 else if p = 15 then 10000
  else (swPort s p).speed

/-- Time of n wire bytes on a port, in ps. -/
def wirePs (s : State) (p n : Nat) : Nat := n * (8000000 / max 1 (portRate s p))

/-- Wire bytes of a frame: preamble and interframe gap included (R393). -/
def QFrame.wire (f : QFrame) : Nat := f.bytes.length + 20

/-- Blocks of a frame (R392). -/
def QFrame.blocks (f : QFrame) : Nat := cdiv f.bytes.length 256

/-- Class of a queue. -/
def classOf (s : State) (k : Nat) : Option Nat := (queueCfg s k).cls

/-- Frames queued on a port, each with its queue's k; the frame on the wire is not among them. -/
def portFrames (s : State) (p : Nat) : List (Nat × QFrame) :=
  (List.range 32).flatMap (fun q => (swQ s (qk p q)).frames.map (fun f => (qk p q, f)))

/-- Frames not completely sent, the one on the wire included. -/
def openFrames (s : State) (p : Nat) : List (Nat × QFrame) :=
  (match (swPort s p).onWire with | some x => [x] | none => []) ++ portFrames s p

/-- Frames that an admission check counts: one that completes in the cycle of the check counts as sent (R405). -/
def unsent (s : State) (p : Nat) : List (Nat × QFrame) :=
  if p < 12 ∧ (swPort s p).wireEnd ≤ s.clk then portFrames s p else openFrames s p

/-- A queue's depth in blocks, the frame on the wire included (R403; 12_packet_switch.md, worked example). -/
def swDepth (s : State) (k : Nat) : Nat :=
  ((openFrames s (k / 32)).map (fun x => if x.1 = k then x.2.blocks else 0)).sum

/-- A queue's above flag after its depth changed (R403). -/
def swAbove (k : Nat) (s : State) : State :=
  let d := swDepth s k
  setQ k (fun q => { q with above := aboveNext q.above d (queueCfg s k).high (queueCfg s k).low }) s

/-- Packet-buffer blocks in use: DL1 to DL3 in two banks, DL0 in the express store (R392). -/
def blocksUsed (s : State) : Nat :=
  ((List.range 16).map (fun p => ((unsent s p).map (fun x => match classOf s x.1 with
    | some 0 => 0
    | some c => x.2.blocks * (if c ≤ 3 then 2 else 1)
    | none => 0)).sum)).sum

/-- Bytes of a port's express store that frames of DL0 hold, quench frames apart (R392). -/
def expressUsed (s : State) (p : Nat) : Nat :=
  ((unsent s p).map (fun x => if classOf s x.1 = some 0 ∧ ¬ x.2.quench then x.2.bytes.length else 0)).sum

/-- Express store of a port less its 256 bytes for quench frames (R392). -/
def expressSize (p : Nat) : Nat := (if p < 4 then 16384 else 4096) - 256

/-- Served time ahead of now, on the low 48 bits (R120): none when past. -/
def aheadOf (target nowNs : Nat) : Option Nat :=
  let d := (target % 2 ^ 48 + 2 ^ 48 - nowNs % 2 ^ 48) % 2 ^ 48
  if d < 2 ^ 47 then some d else none

/-- The wire window of a launch frame on a port, in ps after now: start and end (R398). -/
def launchWindow (s : State) (p : Nat) (f : QFrame) : Option (Nat × Nat) :=
  match f.launch with
  | none => none
  | some t => match aheadOf t.toNat (now s) with
    | some d => some (d * 1000, d * 1000 + wirePs s p f.wire)
    | none => some (0, 0)

/-- Launch reservations of a port, in ps after now (R398). -/
def reservations (s : State) (p : Nat) : List (Nat × Nat) :=
  (portFrames s p).filterMap (fun x => launchWindow s p x.2)

/-- Bound of a class in ns (R390). -/
def boundNs (s : State) (c : Nat) : Nat := nth s.switch.bounds c 0 * 1000

/-- Bytes A of R393. A launch frame counts as its reservation (assumption log 12). -/
def aheadBytes (s : State) (p c : Nat) : Nat :=
  ((unsent s p).map (fun x =>
    match launchWindow s p x.2, classOf s x.1 with
    | some w, _ => if w.1 < boundNs s c * 1000 then x.2.wire else 0
    | none, some c' => if c' ≤ c then x.2.wire else 0
    | none, none => 0)).sum

/-- The worst-case leaving time s − now of a copy, in ps (R393). -/
def drainPs (s : State) (p c : Nat) (quench : Bool) : Nat :=
  let ml := (portCfg s p).maxLen + 20
  let h := if c = 0 then 6000000 else 18000000
  let k := if c = 0 then 16 else ml
  let q := if c = 0 then (if quench then 0 else 88) else 88 + ml
  h + wirePs s p (k + q + aheadBytes s p c)

/-- A copy of class c in queue k overtakes a frame (R394). -/
def overtakes (s : State) (k c : Nat) (x : Nat × QFrame) : Bool :=
  match classOf s x.1 with
  | some c' => c < c' || (c' == c && x.1 != k)
  | none => false

/-- Admitted frames that a copy of class c in queue k overtakes; one of DL0 also overtakes the frame on the wire, which it cuts off
(R391, R394). -/
def overtaken (s : State) (p k c : Nat) : List (Nat × QFrame) :=
  (if c = 0 then unsent s p else portFrames s p).filter (overtakes s k c)

/-- What a copy takes from the slack of each frame it overtakes, in ps (R394). -/
def slackCost (s : State) (p c : Nat) (f : QFrame) : Nat :=
  wirePs s p f.wire + (if c = 0 then wirePs s p ((portCfg s p).maxLen + 20) else 0)

/-- The unit holds the claim or runs alone (R400, R407). -/
def claimHeld (s : State) : Bool := s.twin.claimO

/-- Refusal cause of R397 by the launch checks of R398; 0 passes. -/
def launchCause (s : State) (p c : Nat) (f : QFrame) : Nat :=
  match f.launch with
  | none => 0
  | some t => match aheadOf t.toNat (now s) with
    | none => 7
    | some d =>
      if d < 5000 then 7
      else if 10 ^ 9 < d then 8
      else if (reservations s p).any (fun w => decide (w.1 < d * 1000 + wirePs s p f.wire ∧ d * 1000 < w.2)) then 9
      else if boundNs s c < d then 1
      else 0

/-- A receive pool holds a buffer for a frame of this length, after the frames already admitted (R497). -/
def rxBuffered (s : State) (p len : Nat) : Bool :=
  let pool := if p = 12 then s.hostif.hostPool else s.hostif.corePool
  let waiting := (unsent s p).map (fun x => x.2.bytes.length)
  (waiting.foldl (fun (l : List RxBuf) n => l.eraseP (fun b => decide (n ≤ b.len))) pool).any (fun b => decide (len ≤ b.len))

/-- A receive queue has room for one more frame: an entry of its event queue and a buffer of its pool, after the
frames already admitted (R395, R497). -/
def rxRoom (s : State) (p len : Nat) : Bool :=
  let q := if p = 12 then regFld s 0x0E000C 3 0 else regFld s 0x0E000C 11 8
  eqRuns s q && decide (((eq_ s q).write - (eq_ s q).head).toNat + (unsent s p).length < 2 ^ (eq_ s q).sizeLog2) && rxBuffered s p len

/-- Offset and EtherType of what an Ethernet header and at most n tags carry. -/
def etherBody (bs : Bytes) (ofs : Nat) : Nat → Nat × Nat
  | 0 => (ofs + 2, beAt bs ofs 2)
  | n + 1 => if beAt bs ofs 2 = 0x8100 ∨ beAt bs ofs 2 = 0x88A8 then etherBody bs (ofs + 4) n else (ofs + 2, beAt bs ofs 2)

/-- The payload of a radio envelope: none for a frame of another EtherType (R388). -/
def envelopeOf (bs : Bytes) : Option Bytes :=
  let b := etherBody bs 12 2
  if b.2 = 0x88B6 then some (bs.drop b.1) else none

/-- ADDR and CHAIN of a radio envelope (R388). -/
def envelopeTo (bs : Bytes) : Option (BitVec 16 × Nat) := (envelopeOf bs).map (fun e => (BitVec.ofNat 16 (leAt e 0 2), byteAt e 2))

/-- The radio's downlink store has room for an envelope: its chain's frames, and two for a sleepy node
(R395, R335, R388). A frame that is no envelope takes none (assumption log 12). -/
def downRoom (s : State) (f : QFrame) : Bool :=
  let waiting (p : BitVec 16 × Nat → Bool) : Nat := ((unsent s 14).filter (fun x => (envelopeTo x.2.bytes).any p)).length
  match envelopeTo f.bytes with
  | none => true
  | some (addr, ch) =>
    match s.radio.nodes.find? (fun n => n.addr == addr) with
    | some n => decide (n.held.length + waiting (fun x => x.1 == addr) < 2)
    | none => decide ((vget s.radio.chains ch {}).downQ.length + waiting (fun x => x.2 == ch) < Config.downlinkStore)

/-- Room at the consumer of ports 12, 13 and 14 (R395). -/
def consumerRoom (s : State) (p : Nat) (f : QFrame) : Bool :=
  if p = 12 ∨ p = 13 then rxRoom s p f.bytes.length else if p = 14 then downRoom s f else true

/-- The refusal cause of a copy, 0 when it is admitted (R394 to R400). The order among the checks is the model's
(assumption log 12). -/
def refusal (s : State) (p q : Nat) (f : QFrame) : Nat :=
  match classOf s (qk p q) with
  | none => 11
  | some c =>
    if ¬ portUp s p then 6
    else if f.quench then 0
    else if c ≤ 3 ∧ p < 12 ∧ ¬ claimHeld s then 5
    else if launchCause s p c f ≠ 0 then launchCause s p c f
    else if boundNs s c * 1000 < drainPs s p c false then 1
    else if (overtaken s p (qk p q) c).any (fun x => decide (x.2.slack < slackCost s p c f)) then 2
    else if c = 0 ∧ expressSize p < expressUsed s p + f.bytes.length then 3
    else if c ≠ 0 ∧ s.switch.blocks < blocksUsed s + f.blocks * (if c ≤ 3 then 2 else 1) then 3
    else if ¬ consumerRoom s p f then 4
    else 0

/-- A refused copy (R397). -/
def refuseCopy (k cause : Nat) (s : State) : State :=
  raise bSWITCH 0 (bumpQ k 1 (setQ k (fun x => { x with lastCause := cause }) s))

/-- A frame of another class on the wire is cut off and waits to be sent again whole (R391). -/
def cutWire (p : Nat) (s : State) : State :=
  match (swPort s p).onWire with
  | some (k, f) =>
    if classOf s k = some 0 then s
    else
      let busy := s.clk + cdiv (wirePs s p 16) 1000
      let s := setPort p (fun x => { x with onWire := none, wireEnd := busy }) s
      bumpPort p 12 (setQ k (fun x => { x with frames := { f with again := true } :: x.frames }) s)
  | none => s

/-- A copy enters its queue: its deadline and slack, and the slack of the frames it overtakes (R393, R394). -/
def enqueue (p q c : Nat) (f : QFrame) (s : State) : State :=
  let k := qk p q
  let bound := boundNs s c
  let slack := bound * 1000 - drainPs s p c f.quench
  let cost := slackCost s p c f
  let g : QFrame := { f with deadline := now s + bound, slack := slack }
  let hit : List Nat := (List.range 32).filter (fun j => overtakes s k c (qk p j, f))
  let s := hit.foldl (fun s j => if (kget s.switch.queues (qk p j)).isNone then s else
    setQ (qk p j) (fun x => { x with frames := x.frames.map (fun (y : QFrame) => { y with slack := y.slack - cost }) }) s) s
  let lower (x : Nat × QFrame) : Nat × QFrame := if c = 0 ∧ overtakes s k c x then (x.1, { x.2 with slack := x.2.slack - cost }) else x
  let s := setPort p (fun x => { x with onWire := x.onWire.map lower }) s
  let s := setQ k (fun x => { x with frames := x.frames ++ [g] }) s
  let s := bumpQ k 0 (withPause (swAbove k) s)
  if c = 0 then cutWire p s else s

/-- A frame that port 12 or 13 refuses for want of a buffer is counted in RX_NO_BUFFER (HOSTIF_CNT; assumption log 12). -/
def countNoBuffer (p r : Nat) (f : QFrame) (s : State) : State :=
  if r = 4 ∧ (p = 12 ∨ p = 13) ∧ ¬ rxBuffered s p f.bytes.length then bump 0x0E0034 5 s else s

/-- A copy is admitted to a queue or refused (R394 to R398). -/
def enqueueFrame (p q : Nat) (f : QFrame) (s : State) : State :=
  let r := refusal s p q f
  if r = 0 then enqueue p q ((classOf s (qk p q)).getD 0) f s else refuseCopy (qk p q) r (countNoBuffer p r f s)

/-- Frames of a port that a test names are discarded from its queues and counted (R379, R400, R402). -/
def discardFrames (p ev : Nat) (drop : Nat → QFrame → Bool) (s : State) : State :=
  ((List.range 32).filter (fun q => (swQ s (qk p q)).frames.any (drop (qk p q)))).foldl (fun s q =>
    let k := qk p q
    let gone := ((swQ s k).frames.filter (drop k)).length
    let s := setQ k (fun x => { x with frames := x.frames.filter (fun f => !(drop k f)) }) s
    withPause (swAbove k) (bumpBy 0x0A0048 (3 + 8 * k) gone (bumpBy 0x0A0024 (ev + 16 * p) gone s))) s

/-- A frame of DL4 to DL7 lies in a physical bank. No rule says which frames lie in a bank, so it is free which they are (R237, R392;
assumption log 12). -/
def inBank (s : State) (i k : Nat) (f : QFrame) : Bool :=
  (match classOf s k with | some c => decide (4 ≤ c) | none => false) && Config.inBank i f.deadline f.bytes

/-- Frames of a port that a test names. -/
def countFrames (s : State) (p : Nat) (drop : Nat → QFrame → Bool) : Nat :=
  ((portFrames s p).filter (fun x => drop x.1 x.2)).length

/-- A frame of a gated queue that a claim drop discards (R400). -/
def gatedFrame (s : State) (k : Nat) (f : QFrame) : Bool :=
  !f.quench && (match classOf s k with | some c => decide (c ≤ 3) | none => false)

/-- The claim drops: gated frames on ports 0 to 11 are discarded (R400, R32); the number discarded. -/
def dropClaimFrames (s : State) : Nat × State :=
  let drop := gatedFrame s
  let n := ((List.range 12).map (fun p => countFrames s p drop)).sum
  let t := (List.range 12).foldl (fun s p => discardFrames p 13 drop s) s
  (n, if n = 0 then t else raise bSWITCH 4 t)

/-- Every frame queued on a port is discarded (R379, R402). -/
def flushPort (p : Nat) (s : State) : State :=
  let t := setPort p (fun x => { x with onWire := none }) s
  discardFrames p 11 (fun _ _ => true) (match (swPort s p).onWire with
    | some (k, _) => withPause (swAbove k) (bumpQ k 3 (bumpPort p 11 t))
    | none => t)

/-- UNIT of the quench frame (R366). -/
def quenchUnit (s : State) : Nat := b2n (if s.radio.present then s.radio.unit else s.twin.unit)

/-- The key of the quench frame's MIC (R365, R366, R518). -/
def quenchKey (s : State) : Option Bytes :=
  if s.radio.present then blockKey s (regFld s 0x08003C 14 8) mbRadio useEnc tyAes128 else none

/-- The CRC-32 of IEEE 802.3. -/
def crc32 (bs : Bytes) : Nat := bs.foldl (crcByte 0xEDB88320) 0xFFFFFFFF ^^^ 0xFFFFFFFF

/-- A frame with its FCS appended. -/
def withFcs (bs : Bytes) : Bytes := bs ++ leBytes 4 (crc32 bs)

/-- The Ethernet quench frame (R365, R366). -/
def quenchFrame (s : State) (p target rep qseq time : Nat) : Bytes :=
  let da := leBytes 4 (regWord s 0x090058).toNat ++ leBytes 2 (regFld s 0x09005C 15 0)
  let vid := regFld s 0x090054 11 0
  let tag := if vid = 0 then [] else beBytes 2 0x8100 ++ beBytes 2 (7 * 2 ^ 13 + vid)
  let body := leBytes 1 1 ++ leBytes 1 target ++ leBytes 1 (if target = 0xFF then 1 else 2) ++ leBytes 1 (quenchUnit s)
    ++ leBytes 2 qseq ++ leBytes 2 rep ++ leBytes 8 time ++ leBytes 8 Config.baseEui
  let mic := match quenchKey s with | some k => padTo 8 (Config.cmac k body) | none => leBytes 8 0
  withFcs (da ++ beBytes 6 (portCfg s p).mac.toNat ++ tag ++ beBytes 2 (regFld s 0x090054 31 16)
    ++ body ++ mic ++ leBytes 1 (b2n (quenchKey s).isNone) ++ leBytes 13 0)

/-- The lowest-numbered DL0 queue of a port (R390). -/
def dl0Queue (s : State) (p : Nat) : Option Nat := (List.range 32).find? (fun q => classOf s (qk p q) == some 0)

/-- One quench frame admitted to the DL0 queue of every enabled port of 0 to 11 (R365, R375). -/
def sendQuenchFrames (target rep qseq time : Nat) (s : State) : State :=
  let s := if s.radio.present ∧ (quenchKey s).isNone then useRefused s else s
  (List.range 12).foldl (fun s p =>
    match dl0Queue s p with
    | some q => if portUp s p then enqueueFrame p q { bytes := quenchFrame s p target rep qseq time, inPort := 0xFF, quench := true } s else s
    | none => s) s

end Sys2Proof.Machine
end

