-- ==== Sys2Proof/Machine/RadioQ.lean ====
section
/-! DEFINITION. RadioQ.lean: the field radio's slot layout, frame protection, duty-cycle ledger, transmission and the
slot break (10_field_radio.md R307 to R345). -/

namespace Sys2Proof.Machine

open Sys2Proof

/-- RADIO's block index. -/
def bRADIO : Nat := 0x08

/-- A chain. -/
def chain (s : State) (c : Nat) : Chain := vget s.radio.chains c {}

/-- A chain changed. -/
def setChain (c : Nat) (f : Chain → Chain) (s : State) : State :=
  { s with radio.chains := vmod s.radio.chains c f }

/-- One event of a chain's counter, and of the counter of all chains. -/
def bumpChain (c ev : Nat) (s : State) : State := bump 0x080094 (ev + 0x300) (bump 0x080094 (ev + 0x100 * c) s)

/-- Airtime of n bytes in µs (R307). -/
def airtime (mode n : Nat) : Nat :=
  if mode = 0 then 1920 + 160 * n
  else if mode = 1 then 960 + 80 * n
  else if mode = 2 then 480 + 40 * n
  else if mode = 3 then 600 + 120 * cdiv n 3
  else if mode = 4 then 600 + 120 * cdiv n 6
  else if mode = 5 then 600 + 120 * cdiv n 12
  else 192 + 32 * n

/-- Largest PSDU of a mode (R308). -/
def maxPsdu (mode : Nat) : Nat := if mode = 6 then 127 else 255

/-- Turnaround TA in µs (R313). -/
def taUs : Nat := 200

/-- End of the BEACON segment in µs from the slot boundary (R313). -/
def beaconEnd (c : ChainCfg) : Nat := 1000 + airtime c.mode 40

/-- End of the stop sub-slot, or of the segment before it (R313). -/
def stopEnd (c : ChainCfg) : Nat := if c.stop then beaconEnd c + taUs + 1000 else beaconEnd c

/-- Start of the stop sub-slot, 0 when absent (RADIO_CHAIN_LAYOUT0). -/
def stopStart (c : ChainCfg) : Nat := if c.stop then beaconEnd c + taUs else 0

/-- Start of the GANG segment, 0 when absent. -/
def gangStart (c : ChainCfg) : Nat := if c.gang then stopEnd c + taUs else 0

/-- End of the GANG segment, or of the segment before it. -/
def gangEnd (c : ChainCfg) : Nat := if c.gang then stopEnd c + taUs + airtime c.mode 88 else stopEnd c

/-- The shared segment exists (R313). -/
def hasShared (c : ChainCfg) : Bool :=
  decide (gangEnd c + taUs + airtime c.mode 19 + taUs + airtime c.mode 26 ≤ 9600)

/-- Start of the shared segment, 0 when absent. -/
def sharedStart (c : ChainCfg) : Nat := if hasShared c then gangEnd c + taUs else 0

/-- Length S of the shared segment. -/
def sharedLen (c : ChainCfg) : Nat := if hasShared c then 9600 - sharedStart c else 0

/-- Length of the recovery frame's segment chain that R348 tests, ending at what µs. -/
def recoveryEnd (c : ChainCfg) : Nat :=
  let afterBeacon := 1000 + 2 * airtime c.mode 40
  let gangMoved := if c.gang then max (afterBeacon + taUs) (gangStart c) + airtime c.mode 88 else afterBeacon
  let gangCut := if c.gang then gangEnd c + airtime c.mode 88 else 0
  max gangMoved gangCut

/-- A chain is recoverable: a recovery frame cut at the last instant of its segment, with the GANG it moves, ends by
10,000 µs; step 7 of R428 starts it at most 32 µs after the cut (R348). -/
def recoverable (c : ChainCfg) : Bool := decide (recoveryEnd c + 32 ≤ 10000)

/-- Served time of the boundary of the current slot (R311). -/
def slotStart (s : State) : Nat := s.radio.schedE + s.radio.asn * 10 ^ 7

/-- Slot index (R311). -/
def slotIndex (s : State) : Nat := s.radio.asn % 100

/-- A band's channel plan. -/
def hopBand (s : State) (b : Nat) : HopBand := (s.radio.hops.find? (fun h => h.band == b)).getD {}

/-- The channel of a chain in the current slot (R312). -/
def slotChannel (s : State) (c : Nat) : Nat :=
  let h := hopBand s (chain s c).cfg.band
  nth h.hops ((s.radio.asn + nth s.radio.ofs c 0) % max 1 h.hops.length) 0

/-- Short address of this base (R319). -/
def baseAddr (s : State) : Nat := 0xFFF0 + b2n s.radio.unit

/-- TYPE codes (R324). -/
def FrameType.code : FrameType → Nat
  | .beacon => 0 | .gang => 1 | .corr => 2 | .data => 3 | .poll => 4 | .ack => 5
  | .quench => 6 | .anneal => 7 | .stopReq => 8 | .syncReq => 9

/-- Types that are authenticated only (R320). -/
def FrameType.clear : FrameType → Bool
  | .beacon | .quench | .anneal | .stopReq | .syncReq => true
  | _ => false

/-- The nonce of a frame (R320). -/
def nonce (eui asn sub : Nat) : Bytes := beBytes 8 eui ++ beBytes 5 (asn % 2 ^ 36 * 16 + sub)

/-- The 7-byte header of a base frame (R318). -/
def frameHeader (t : FrameType) (asn src dst seq : Nat) : Bytes :=
  leBytes 1 (t.code + 0x10 + (if t.clear then 0 else 0x40) + 0x80) ++ leBytes 1 asn ++ leBytes 2 src ++ leBytes 2 dst ++ leBytes 1 seq

/-- The 16-bit FCS of IEEE 802.15.4: the CRC of generator x^16 + x^12 + x^5 + 1, bit-reflected, from 0 (R307, R318). -/
def crc16 (bs : Bytes) : Nat := bs.foldl (crcByte 0x8408) 0

/-- A PSDU: a frame with its FCS appended (R318). -/
def psduOf (frame : Bytes) : Bytes := frame ++ leBytes 2 (crc16 frame)

/-- A frame as sent: header, payload, MIC and FCS (R318, R320). -/
def sealFrame (key : Bytes) (t : FrameType) (non head payload : Bytes) : Bytes :=
  psduOf (if t.clear then head ++ payload ++ padTo 8 (Config.ccmSeal key non (head ++ payload) [])
    else head ++ padTo (payload.length + 8) (Config.ccmSeal key non head payload))

/-- PSDU bytes of a payload: header, MIC and FCS added (R318). -/
def psduLen (payload : Nat) : Nat := 7 + payload + 8 + 2

/-- Ledger limits of a band (R352). -/
def ledgerBand (s : State) (b : Nat) : LedgerBand :=
  (s.radio.limits.find? (fun l => l.band == b)).getD { band := b, limit := 10000, q := 5, f := 100, subs := [] }

/-- A limit in µs (R339). -/
def limitUs (s : State) (x : Nat) : Nat := x * s.radio.windowS * 100

/-- Sub-band of a channel (R339, R352). -/
def subOf (s : State) (b ch : Nat) : Option Nat :=
  (List.range (ledgerBand s b).subs.length).find? (fun k =>
    let x := nth (ledgerBand s b).subs k (0, 0, 0)
    decide (x.1 ≤ ch ∧ ch ≤ x.2.1))

/-- The current bucket (R339). -/
def bucketNow (s : State) : Nat := now s / 10 ^ 9

/-- The use U of an account over the last W buckets (R339). -/
def ledgerUse (s : State) (b : Nat) (sub : Option Nat) : Nat :=
  ((s.radio.ledger.filter (fun e => e.band == b && e.sub == sub && decide (bucketNow s < e.sec + s.radio.windowS))).map LedgerEntry.us).sum

/-- Airtime charged to one account. -/
def chargeOne (b : Nat) (sub : Option Nat) (us : Nat) (s : State) : State :=
  let sec := bucketNow s
  let live := s.radio.ledger.filter (fun e => decide (sec < e.sec + s.radio.windowS))
  let same (e : LedgerEntry) : Bool := e.band == b && e.sub == sub && e.sec == sec
  { s with radio.ledger :=
      if live.any same then live.map (fun (e : LedgerEntry) => if same e then { e with us := e.us + us } else e)
      else live ++ [{ band := b, sub := sub, sec := sec, us := us }] }

/-- Airtime charged to a band and the channel's sub-band (R339). -/
def charge (b ch us : Nat) (s : State) : State :=
  let s1 := chargeOne b none us s
  match subOf s b ch with | some k => chargeOne b (some k) us s1 | none => s1

/-- Reserve m of a type (R340). -/
def reserveUs (s : State) (b : Nat) : FrameType → Nat
  | .quench | .anneal => 0
  | .beacon | .gang | .ack => limitUs s (ledgerBand s b).q
  | _ => limitUs s ((ledgerBand s b).q + (ledgerBand s b).f)

/-- Limit of an account. -/
def accountLimit (s : State) (b : Nat) (sub : Option Nat) : Nat :=
  match sub with
  | none => limitUs s (ledgerBand s b).limit
  | some k => limitUs s (nth (ledgerBand s b).subs k (0, 0, 0)).2.2

/-- An account has room for t µs of a type (R340). -/
def accountRoom (s : State) (b : Nat) (sub : Option Nat) (type : FrameType) (t : Nat) : Bool :=
  decide (ledgerUse s b sub + t + reserveUs s b type ≤ accountLimit s b sub)

/-- The ledger admits t µs of a type on a channel (R340). -/
def ledgerRoom (s : State) (b ch : Nat) (type : FrameType) (t : Nat) : Bool :=
  accountRoom s b none type t && (match subOf s b ch with | some k => accountRoom s b (some k) type t | none => true)

/-- A chain is enabled: a disable takes effect at the end of the frame on air (R69). -/
def chainOn (s : State) (c : Nat) : Bool :=
  let x := chain s c
  x.en && (!x.stopping || (x.onAir.isSome && decide (now s < x.airEnd)))

/-- A chain has any transmit role: it is enabled and does not listen to a parent (R331, R338). -/
def activeChain (s : State) (c : Nat) : Bool :=
  let x := chain s c
  s.radio.present && chainOn s c && x.health == .ok && !x.cfg.parentRx

/-- What the mode lets a chain transmit (R345, R86, R88, R95): nothing, QUENCH alone, BEACON and QUENCH, everything. -/
inductive TxScope where
  | none | quench | beacon | all
  deriving DecidableEq, Repr

/-- The chain kept in RESERVE (SYS_PWR_CFG). -/
def beaconChain (s : State) : Nat := regFld s 0x50 9 8

/-- Scope of a chain in the current mode. -/
def txScope (s : State) (c : Nat) : TxScope :=
  if s.sys.wakeHold then .none else
  match s.sys.mode with
  | .reset | .forming | .dormant => .none
  | .servitor => .quench
  | .yielded => if s.sys.shed ∧ c ≠ beaconChain s then .none else .quench
  | .reserve => if c = beaconChain s then .beacon else .none
  | _ => .all

/-- The scope lets a type go. -/
def TxScope.allows : TxScope → FrameType → Bool
  | .none, _ => false
  | .quench, t => t == .quench
  | .beacon, t => t == .quench || t == .beacon
  | .all, _ => true

/-- The radio sends in this slot at all: its schedule runs, and neither ASN_HOLD nor ASN_WRAP holds it (R311, R323). -/
def slotOpen (s : State) : Bool := s.radio.running && !s.radio.asnHold && !s.radio.asnWrap

/-- The claim lets a type go: QUENCH frames need none (R344). -/
def claimAllows (s : State) (t : FrameType) : Bool := t == .quench || s.twin.gateOpen

/-- The downlink key (R321, R518). -/
def dnKey (s : State) : Option Bytes := blockKey s (regFld s 0x08003C 14 8) mbRadio useEnc tyAes128

/-- KEY_FAULT sets (R321). -/
def keyFault (s : State) : State := useRefused (raise bRADIO 8 { s with radio.keyFault := true })

/-- A counter event of each type sent. -/
def txEvent : FrameType → Option Nat
  | .beacon => some 0 | .gang => some 1 | .corr => some 2 | .data => some 3 | .quench => some 4
  | _ => none

/-- A chain may send a type now, the key and the ledger apart. -/
def mayTx (s : State) (c : Nat) (t : FrameType) : Bool :=
  activeChain s c && slotOpen s && (txScope s c).allows t && claimAllows s t && (t == .quench || !(chain s c).broken)

/-- A frame goes on air: charged, counted, TX_ASN_MAX and SEQ advanced (R318, R323, R339). -/
def emit (c : Nat) (t : FrameType) (dst sub : Nat) (key payload : Bytes) (s : State) : State :=
  let ch := slotChannel s c
  let cfg := (chain s c).cfg
  let us := airtime cfg.mode (psduLen payload.length)
  let head := frameHeader t s.radio.asn (baseAddr s) dst s.radio.seq.toNat
  let f : RadioFrame := { type := t, channel := ch, asn := s.radio.asn, sub := sub, plain := head ++ payload
                          psdu := sealFrame key t (nonce Config.baseEui s.radio.asn sub) head payload }
  let s := charge cfg.band ch us s
  let start := now s
  let s := setChain c (fun x => { x with onAir := some f, airStart := start, airEnd := start + us * 1000, channel := ch }) s
  let s := { s with radio := { s.radio with seq := s.radio.seq + 1, txMax := max s.radio.asn s.radio.txMax } }
  match txEvent t with | some e => bumpChain c e s | none => s

/-- A frame the ledger refuses is not sent, and is counted (R340). -/
def ledgerRefuse (c : Nat) (s : State) : State :=
  let b := (chain s c).cfg.band
  let k := subOf s b (slotChannel s c)
  let s := bump 0x08004C (16 * b + 15) s
  let s := match k with | some j => bump 0x08004C (16 * b + j) s | none => s
  raise bRADIO 4 (bumpChain c 15 s)

/-- Whether a frame was sent, with the state after. -/
abbrev Sent := Bool × State

/-- A chain sends one frame if the mode, the claim, the key and the ledger let it go. -/
def transmit (c : Nat) (t : FrameType) (dst sub : Nat) (payload : Bytes) (s : State) : Sent :=
  if ¬ mayTx s c t then (false, s) else
  match dnKey s with
  | none => (false, keyFault s)
  | some key =>
    if ledgerRoom s (chain s c).cfg.band (slotChannel s c) t (airtime (chain s c).cfg.mode (psduLen payload.length)) then
      (true, emit c t dst sub key payload s)
    else (false, ledgerRefuse c s)

/-- The QUENCH payload (R324). -/
def quenchPayload (target qseq : Nat) : Bytes :=
  leBytes 1 target ++ leBytes 1 (if target = 0xFF then 1 else 2) ++ leBytes 2 qseq

/-- How far an account stands over its limit, in µs. -/
def overUs (s : State) (b : Nat) (sub : Option Nat) : Nat := ledgerUse s b sub - accountLimit s b sub

/-- An account beyond its limit after a slot break sets LEDGER_OVERDRAW and writes a record (R341). -/
def overdraw (c : Nat) (s : State) : State :=
  let b := (chain s c).cfg.band
  let o := max (overUs s b none) (match subOf s b (slotChannel s c) with | some k => overUs s b (some k) | none => 0)
  if o = 0 then s else note 0x0841 3 b (satNat 32 o) 0 (raise bRADIO 5 s)

/-- A chain's frame on air ends now. -/
def Chain.cut (t : Nat) (x : Chain) : Chain := { x with onAir := none, airEnd := min x.airEnd t }

/-- A chain broken off at a served time: its frame on air is cut, a reception in progress is abandoned, and nothing more of its
schedule is sent in the slot (R331). -/
def Chain.broke (t : Nat) (x : Chain) : Chain := { x with onAir := none, broken := true, airStart := t, airEnd := t }

/-- The QUENCH of one chain's slot break (R331, R341). -/
def breakQuench (c : Nat) (s : State) : State :=
  match dnKey s with
  | none => keyFault s
  | some key =>
    let s := emit c .quench 0xFFFF (12 + c) key (quenchPayload 0xFF s.quench.qseq.toNat) s
    raise bRADIO 0 (bumpChain c 5 (overdraw c s))

/-- A slot break applies to a chain: it is active, and it may send a QUENCH (R331, R345). -/
def breaks (s : State) (c : Nat) : Bool := activeChain s c && slotOpen s && (txScope s c).allows .quench && !(chain s c).broken

/-- One chain's slot break (R331, R349): a second decision in the slot sends no second QUENCH. -/
def breakChain (c : Nat) (s : State) : State :=
  let t := now s
  if breaks s c then breakQuench c (setChain c (Chain.broke t) s) else s

/-- A voted decision falls within 250 µs before the next slot boundary: the QUENCH goes in the new slot (R349). -/
def breakLate (s : State) : Bool := s.radio.running && decide (slotStart s + 9750000 < now s)

/-- One chain cut off by a decision whose QUENCH goes in the slot that follows. -/
def cutChain (c : Nat) (s : State) : State :=
  let t := now s
  if breaks s c then setChain c (Chain.broke t) s else s

/-- The slot break of a voted decision, and its repeats (R331, R332, R349). -/
def slotBreak (s : State) : State :=
  if breakLate s then
    cutChain 2 (cutChain 1 (cutChain 0 { s with radio := { s.radio with
      repeatLeft := s.radio.quenchRepeat, breakAsn := some (s.radio.asn + 1), breakDue := true } }))
  else
    breakChain 2 (breakChain 1 (breakChain 0 { s with radio := { s.radio with
      repeatLeft := s.radio.quenchRepeat, breakAsn := some s.radio.asn } }))

/-- A machine QUENCH waits for the next shared frame of every active chain (R332). -/
def queueMachQuench (m qseq : Nat) (s : State) : State :=
  (List.range 3).foldl (fun s c => if activeChain s c then
    setChain c (fun x => { x with machQuench := x.machQuench ++ [(m, qseq)] }) s else s) s

/-- A machine ANNEAL waits for the next shared frame of every chain with a shared segment (R333). -/
def queueMachAnneal (m : Nat) (s : State) : State :=
  (List.range 3).foldl (fun s c => if activeChain s c ∧ hasShared (chain s c).cfg then
    setChain c (fun x => { x with machAnneal := x.machAnneal ++ [m] }) s else s) s

end Sys2Proof.Machine
end

