-- ==== Sys2Proof/Machine/Quench.lean ====
section
/-! DEFINITION. Quench.lean: the stop sources, the vote, the relay outputs, the permits and a machine quench
(11_quench_permit.md R353 to R372). What a voted decision does to the mode stands in Mode.lean. -/

namespace Sys2Proof.Machine

open Sys2Proof

/-- QUENCH's block index. -/
def bQUENCH : Nat := 0x09

/-- One event of a QUENCH counter. -/
def bumpQuench (ev : Nat) (s : State) : State := bump 0x090074 ev s

/-- A quench channel: 0 is QA, 1 is QB, 2 is QC. -/
def qch (s : State) (k : Nat) : QChannel := vget s.quench.chs k {}

/-- A quench channel changed. -/
def setQch (k : Nat) (f : QChannel → QChannel) (s : State) : State :=
  { s with quench.chs := vmod s.quench.chs k f }

/-- A pulse that still runs. -/
def pulseOn (s : State) : PulseEnd → Bool
  | some e => decide (s.clk < e)
  | none => false

/-- Host source (R358). -/
def hostSource (s : State) : Bool := pulseOn s s.quench.hostEnd || regBit s 0x090000 0

/-- Pendant source (R358). -/
def pendantSource (s : State) : Bool := pulseOn s s.quench.pendantEnd || pulseOn s s.quench.peerEnd

/-- Warden source (R358, R84, R85, R89). -/
def wardenSource (s : State) : Bool :=
  pulseOn s s.quench.wardenEnd || s.aon.battCrit || s.aon.battAnneal || s.aon.thermal110 || s.aon.lockstep

/-- A pair counts as active (R356). -/
def QChannel.pairActive (c : QChannel) : Bool := c.pair || c.discrepant

/-- Any of a channel's four sources is active (R354). -/
def sourceOn (s : State) (k : Nat) : Bool :=
  (qch s k).pairActive || hostSource s || pendantSource s || wardenSource s

/-- A channel's result is STOP (R354). -/
def resultStop (s : State) (k : Nat) : Bool := sourceOn s k || (qch s k).latch

/-- What a channel presents to the voters (R359). -/
def presentsStop (s : State) (k : Nat) : Bool := (qch s k).health != .healthy || resultStop s k

/-- The voted decision is STOP: at least two channels present STOP (R359, R360). -/
def votedStop (s : State) : Bool := decide (2 ≤ ((List.range 3).filter (presentsStop s)).length)

/-- The quench latch. -/
def latched (s : State) : Bool := (List.range 3).any (fun k => (qch s k).latch)

/-- Channels retired. -/
def retiredChs (s : State) : Nat := ((List.range 3).filter (fun k => (qch s k).health == .retired)).length

/-- Codes of QUENCH_STATUS.CAUSE. -/
def QCause.code : QCause → Nat
  | .powerOn => 1 | .contact => 2 | .discrepant => 3 | .host => 4 | .pendant => 5 | .peer => 6 | .warden => 7 | .channelFault => 8

/-- QUENCH_SRC (R358, R354). -/
def quenchSrc (s : State) : Nat :=
  (List.range 3).foldl (fun a k =>
    let c := qch s k
    a + 2 ^ (8 * k) * (b2n c.c1.active + 2 * b2n c.c2.active + 4 * b2n c.pair + 8 * b2n c.discrepant + 16 * b2n (hostSource s)
      + 32 * b2n (pendantSource s) + 64 * b2n (wardenSource s) + 128 * b2n (resultStop s k))) 0

/-- The one channel whose result stands alone at STOP (R360). -/
def loneChannel (s : State) : Option Nat :=
  match (List.range 3).filter (fun k => (qch s k).health == .healthy && resultStop s k) with
  | [k] => some k
  | _ => none

/-- The lone result starts or ends (R360). -/
def trackLone (s : State) : State :=
  match loneChannel s, s.quench.loneSince with
  | some _, none => { s with quench.loneSince := some s.clk }
  | none, some _ => { s with quench := { s.quench with loneSince := none, loneDone := false } }
  | _, _ => s

/-- QUENCH_OUT_x after a change (R361). -/
def outNext (s : State) (k : Nat) : Bool :=
  match (qch s k).health with
  | .retired => false
  | .testing => (qch s k).out && !votedStop s
  | .healthy => !votedStop s

/-- A field driver that an OVERCURRENT holds off is free again once STOP and then RUN have been presented (R564). -/
def Driver.follow (x : Driver) (stop : Bool) : Driver :=
  if ¬ x.held then x
  else if stop then { x with sawStop := true }
  else if x.sawStop then { x with held := false, sawStop := false }
  else x

/-- A field driver: QUENCH_OUT_A, _B, _C, PERMIT_OUT for 0 to 3. -/
def driver (s : State) (d : Nat) : Driver := vget s.ioctl.drivers d {}

/-- A field driver changed. -/
def setDriver (d : Nat) (f : Driver → Driver) (s : State) : State := { s with ioctl.drivers := vmod s.ioctl.drivers d f }

/-- The relay outputs follow the voters (R361), and stay off while OVERCURRENT holds them (R564). -/
def driveRelays (s : State) : State :=
  (List.range 3).foldl (fun t k =>
    let t := setDriver k (fun x => x.follow (presentsStop s k)) t
    let held := (driver t k).held
    setQch k (fun c => { c with out := outNext s k && !held }) t) s

/-- The PERMIT_OUT driver is energised (R363). -/
def permitDriver (s : State) : Bool :=
  (s.sys.mode == .field || s.sys.mode == .holdover || (s.sys.mode == .anneal && !s.sys.annealDone)) &&
  !latched s && s.twin.gateOpen && regBit s 0x090000 1

/-- The PERMIT_OUT driver follows its conditions; the pin rises with it (R363, R429). -/
def drivePermit (s : State) : State :=
  let want := permitDriver s
  let s := setDriver 3 (fun x => x.follow (!want)) s
  let d := want && !(driver s 3).held
  if d = s.quench.permitOut then s
  else if d then { s with quench := { s.quench with permitOut := true, permitPin := true, permitFall := none } }
  else { s with quench := { s.quench with permitOut := false, permitFall := some s.clk } }

/-- Every stop output follows its conditions. -/
def driveOutputs (s : State) : State := drivePermit (driveRelays (trackLone s))

/-- A cause comes before the one that waits for its decision: none waits, or both fall in one cycle and its code is lower (R367). -/
def causeFirst (s : State) (cause : QCause) : Bool :=
  match s.quench.deciding with
  | none => true
  | some (c, _) => s.quench.decidingAt == s.clk && decide (cause.code < c.code)

/-- A source changed: a vote that now resolves to STOP waits for its decision with the cause that brought a second
channel to STOP (R354, R364, R367). -/
def settleVote (cause : QCause) (rank : Nat) (s : State) : State :=
  let s := trackLone s
  if votedStop s ∧ ¬ latched s ∧ causeFirst s cause = true then
    { s with quench := { s.quench with deciding := some (cause, rank), decidingAt := s.clk } }
  else s

/-- A contact input by number 0 to 5: channel and first or second contact. -/
def contact (s : State) (i : Nat) : Contact := if i % 2 = 0 then (qch s (i / 2)).c1 else (qch s (i / 2)).c2

/-- A contact input changed. -/
def setContact (i : Nat) (f : Contact → Contact) (s : State) : State :=
  setQch (i / 2) (fun c => if i % 2 = 0 then { c with c1 := f c.c1 } else { c with c2 := f c.c2 }) s

/-- The level of a contact input changes; an active level that ends within 2.0 µs is a GLITCH (R355). -/
def contactEdge (i : Nat) (level : Bool) (s : State) : State :=
  let c := contact s i
  if c.level = level then s
  else
    let s := if ¬ level ∧ ¬ c.active ∧ s.clk - c.edgeAt < 2000 then bumpQuench 3 s else s
    setContact i (fun x => { x with level := level, edgeAt := s.clk }) s

/-- CONTACT_EDGE (R355). -/
def execContactEdge (inp : Fin 6) (active : Bool) (s : State) : Out :=
  .next (onAon s (contactEdge inp.val active))

/-- The agreement window of a pair ends: DISCREPANT if exactly one contact is still active (R356). -/
def endWindow (k : Nat) (s : State) : State :=
  let c := qch s k
  let s := setQch k (fun c => { c with window := none }) s
  if c.c1.active = c.c2.active then s
  else settleVote .discrepant srcSelf (raise bQUENCH 4 (bumpQuench 4 (setQch k (fun c => { c with discrepant := true }) s)))

/-- A window whose 5 ms have passed ends. -/
def endIfDue (k : Nat) (s : State) : State :=
  match (qch s k).window with
  | some t => if t + 5000000 ≤ s.clk then endWindow k s else s
  | none => s

/-- The pair follows its contacts (R356). -/
def pairFollow (k : Nat) (s : State) : State :=
  let c := qch s k
  if c.c1.active ∧ c.c2.active then
    settleVote .contact srcSelf (setQch k (fun c => { c with pair := true, window := none }) s)
  else if c.c1.active ∨ c.c2.active then
    driveOutputs (setQch k (fun x => { x with pair := false
                                              window := if x.discrepant then none else x.window.orElse (fun _ => some s.clk) }) s)
  else driveOutputs (setQch k (fun c => { c with pair := false, window := none }) s)

/-- A contact input's level has stood for 2.0 µs (R355). -/
def contactAccept (i : Nat) (s : State) : State :=
  let c := contact s i
  if c.level = c.active then s
  else
    let s := endIfDue (i / 2) (advanceClk (c.edgeAt + 2000) s)
    pairFollow (i / 2) (setContact i (fun x => { x with active := x.level }) s)

/-- CONTACT_ACCEPT (R355, R356). -/
def execContactAccept (inp : Fin 6) (s : State) : Out := .next (onAon s (contactAccept inp.val))

/-- DISCREPANT (R356): the 5 ms agreement window ends. -/
def execDiscrepant (ch : Fin 3) (s : State) : Out :=
  .next (onAon s fun s =>
    match (qch s ch.val).window with
    | some t => endWindow ch.val (advanceClk (t + 5000000) s)
    | none => s)

/-- A write of 1 to a DISCREPANT bit: it clears while both contacts are healthy (R356, QUENCH_SRC). -/
def clearDiscrepant (k : Nat) (s : State) : State :=
  if (qch s k).c1.active ∨ (qch s k).c2.active then s
  else driveOutputs (setQch k (fun c => { c with discrepant := false }) s)

/-- DISCREPANT_CLEAR (R356). -/
def execDiscrepantClear (ch : Fin 3) (s : State) : Out := .next (bus s (clearDiscrepant ch.val))

/-- The host source is asserted for 10 µs (R358). -/
def hostQuench (rank : Nat) (s : State) : State :=
  settleVote .host rank { s with quench := { s.quench with hostEnd := some (s.clk + 10000), result := .done } }

/-- QUENCH (R358). -/
def execQuench (who : Master) (s : State) : Out := .next (bus s (hostQuench who.rank))

/-- HOST_SOURCE_END (R358): the 10 µs of the host source end. -/
def execHostSourceEnd (s : State) : Out :=
  .next (onAon s fun s =>
    match s.quench.hostEnd with
    | some e => let s := advanceClk e s; driveOutputs { s with quench.hostEnd := none }
    | none => s)

/-- WARDEN_PULSE_END (R358): the 10 µs pulse of the warden source ends. -/
def execWardenPulseEnd (s : State) : Out :=
  .next (onAon s fun s =>
    match s.quench.wardenEnd with
    | some e => let s := advanceClk e s; driveOutputs { s with quench.wardenEnd := none }
    | none => s)

/-- The warden source is pulsed for 10 µs (R358). -/
def wardenPulse (s : State) : State :=
  settleVote .warden 0 { s with quench.wardenEnd := some (s.clk + 10000) }

/-- The pendant source is held for PENDANT_HOLD_MS by a pendant or a parent (R358, R330). -/
def holdPendant (s : State) : State :=
  settleVote .pendant 10 { s with quench.pendantEnd := some (s.clk + s.radio.pendantHoldMs * 10 ^ 6) }

/-- The pendant source is held by the twin peer (R358, R419). -/
def holdPeer (s : State) : State :=
  settleVote .peer 11 { s with quench.peerEnd := some (s.clk + s.radio.pendantHoldMs * 10 ^ 6) }

/-- A lone result has stood for 10 ms (R360). -/
def loneStop (s : State) : State :=
  match s.quench.loneSince, loneChannel s with
  | some t, some k =>
    if s.quench.loneDone then s
    else
      let s := advanceClk (t + 10 ^ 7) s
      note 0x0944 2 k 0 0 (raise bQUENCH 6 (bumpQuench 8 { s with quench.loneDone := true }))
  | _, _ => s

/-- LONE_STOP (R360). -/
def execLoneStop (s : State) : Out := .next (onAon s loneStop)

/-- REMINDER (R370): the next multiple of 60 s after the decision. -/
def execReminder (s : State) : Out :=
  .next (onAon s fun s =>
    if ¬ latched s then s
    else
      let n := s.quench.reminders + 1
      let s := advanceClk (s.quench.latchAt + n * 60 * 10 ^ 9) s
      let s := { s with quench.reminders := n }
      if (List.range 3).any (sourceOn s) then note 0x0943 2 (quenchSrc s) (n * 60) 0 (bumpQuench 6 s) else s)

/-- What the set-point engine holds of a machine. -/
def spMach (s : State) (m : Nat) : SpMach := (kget s.setpt.machs m).getD {}

/-- A machine's class (R279). -/
def spClassOf (s : State) (m : Nat) : Option SpClass :=
  match nth s.setpt.cfg.machs m (none, 0) with
  | (some c, _) => s.setpt.cfg.classes[c]?
  | _ => none

/-- A machine has the set-point table that lets the engine plan it: its class exists and it has a forward SPMEAN candidate
at rung 0 (R279, R288). -/
def planable (s : State) (m : Nat) : Bool :=
  (spClassOf s m).isSome && (spMach s m).means.any (fun x => !x.reverse && x.rungs.toNat.testBit 0)

/-- Modes that grant permits (R33). -/
def permitMode (s : State) : Bool := s.sys.mode == .field || s.sys.mode == .holdover || s.sys.mode == .anneal

/-- Bit m of QUENCH_PERMIT_EN. -/
def permitEn (s : State) (m : Nat) : Bool := regBit s (0x090030 + 4 * (m / 32)) (m % 32)

/-- Machine m holds a permit (R371). -/
def granted (s : State) (m : Nat) : Bool :=
  permitMode s && s.twin.claimO && !latched s && permitEn s m && planable s m && !s.quench.machq.toNat.testBit m &&
  !(s.sys.mode == .anneal && s.quench.stood.toNat.testBit m)

/-- QUENCH_PERMIT0 to 3 as one number, bit m for machine m (R371). -/
def permits (s : State) : Nat := (List.range 128).foldl (fun a m => a + b2n (granted s m) * 2 ^ m) 0

/-- No machine holds a permit (R80, R90). -/
def noPermit (s : State) : Bool := (List.range 128).all (fun m => !granted s m)

/-- A machine quench takes effect (R372). -/
def machineQuench (m : Nat) (s : State) : State :=
  let s := { s with quench := { s.quench with
    machq := s.quench.machq ||| BitVec.ofNat 128 (2 ^ m), count := s.quench.count + 1 } }
  let s := raise bQUENCH 3 (bumpQuench 5 s)
  sendQuenchFrames m 0 s.quench.count.toNat (now s) (queueMachQuench m s.quench.count.toNat s)

/-- QUENCH_MACH (R372). -/
def execQuenchMach (m : Fin 128) (s : State) : Out :=
  .next (bus s fun s => let s := machineQuench m.val s; { s with quench.result := .done })

/-- A refused QUENCH_CMD (QUENCH_INT_STATUS.REFUSED). -/
def quenchRefuse (r : QResult) (s : State) : State := raise bQUENCH 2 { s with quench.result := r }

/-- OP = MACH_RELEASE written (R372); a QUENCH_MACH of the machine in the same cycle wins (R376). -/
def machRelease (who : Master) (m : Nat) (against : Bool) (s : State) : State :=
  if who ≠ .host then quenchRefuse .denied s
  else if against then quenchRefuse .conflictLost s
  else { s with quench := { s.quench with machq := s.quench.machq &&& ~~~(BitVec.ofNat 128 (2 ^ m)), result := .done } }

/-- MACH_RELEASE (R372). -/
def execMachRelease (who : Master) (m : Fin 128) (against : Bool) (s : State) : Out := .next (bus s (machRelease who m.val against))

/-- A quench channel is under its self-test (R368). -/
def testingCh (s : State) : Bool := (List.range 3).any (fun k => (qch s k).health == .testing)

/-- A source, a contact input or a DISCREPANT bit of a channel that is not retired stands against a release (R368). -/
def releaseBlocked (s : State) : Bool :=
  (List.range 3).any (fun k => let c := qch s k
    c.health != .retired && (sourceOn s k || c.c1.active || c.c2.active || c.discrepant))

/-- A re-forming is in progress, from the read of the header that tells it from a forming to its end; before that header the
load is not known as one (R61, R64, R71; assumption log 24). -/
def reformingNow (s : State) : Bool :=
  match s.parison.load with
  | some l =>
    (l.action == 0 || l.action == 3) && !l.storing &&
      (l.reform || (match l.header with
        | some x => x.reformOnly || !(s.sys.mode == .forming || s.sys.mode == .maintenance || s.sys.mode == .quenched)
        | none => false))
  | none => false

/-- The first condition of R368 that fails; a source that becomes active in the same cycle wins over the release (R376). -/
def releaseResult (who : Master) (against : Bool) (s : State) : QResult :=
  if who ≠ .host then .denied
  else if ¬ latched s then .notLatched
  else if reformingNow s = true ∨ testingCh s then .busy
  else if 1 < retiredChs s then .degraded
  else if against then .conflictLost
  else if releaseBlocked s then .sourceActive
  else .done

/-- Codes of QUENCH_RESULT.RESULT. -/
def QResult.code : QResult → Nat
  | .none => 0 | .done => 1 | .busy => 2 | .denied => 3 | .notLatched => 4 | .degraded => 5 | .sourceActive => 6
  | .conflictLost => 7 | .badParam => 8

/-- OP = RELEASE written (R368, R369). The mode QUENCHED moves to SURVEY at the next profile tick (R73). -/
def releaseLatch (who : Master) (against : Bool) (s : State) : State :=
  let r := releaseResult who against s
  if r ≠ .done then record 0x0942 who.rank 2 r.code 0 0 (bumpQuench 2 (quenchRefuse r s))
  else
    let s := { s with
      quench := { s.quench with
        chs := s.quench.chs.map (fun (c : QChannel) => { c with latch := false }), result := .done, ethLeft := 0 }
      radio.repeatLeft := 0
      sys := { s.sys with released := s.sys.mode == .quenched }
      aon := { s.aon with agePulse := false, annealPulse := false } }
    driveOutputs (record 0x0941 who.rank 1 s.quench.qseq.toNat 0 0 (raise bQUENCH 1 (bumpQuench 1 s)))

/-- RELEASE_LATCH (R368, R369). -/
def execReleaseLatch (who : Master) (against : Bool) (s : State) : Out := .next (bus s (releaseLatch who against))

/-- A write of QUENCH_CMD (R358, R368, R372). -/
def quenchCmd (who : Master) (w : Word) (s : State) : State :=
  let m := fld w 7 0
  if fld w 31 16 ≠ 0x9610 then s
  else if fld w 15 12 = 1 then hostQuench who.rank s
  else if fld w 15 12 = 2 then releaseLatch who false s
  else if fld w 15 12 = 3 ∧ m < 128 then let s := machineQuench m s; { s with quench.result := .done }
  else if fld w 15 12 = 4 ∧ m < 128 then machRelease who m false s
  else quenchRefuse .badParam s

/-- QUENCH_REPEAT: 100 without a RADIO gather (R366). -/
def quenchRepeats (s : State) : Nat := if s.radio.present then s.radio.quenchRepeat else 100

/-- QUENCH_FRAME_REPEAT (R365): the next multiple of 10 ms of served time after the decision. -/
def execQuenchFrameRepeat (s : State) : Out :=
  .next (bus s fun s =>
    if s.quench.ethLeft = 0 ∨ ¬ latched s then s
    else
      let s := advanceTo (s.quench.ethNext * 10 ^ 7) s
      let n := quenchRepeats s - s.quench.ethLeft + 1
      let s := { s with quench := { s.quench with ethLeft := s.quench.ethLeft - 1, ethNext := s.quench.ethNext + 1 } }
      sendQuenchFrames 0xFF n s.quench.qseq.toNat s.quench.time.toNat s)

/-- PERMIT_OUT_OFF_DELAY (R429): the pin falls 100 µs after its driver was withdrawn. -/
def execPermitOutOffDelay (s : State) : Out :=
  .next (onAon s fun s =>
    match s.quench.permitFall with
    | some t => let s := advanceClk (t + 100000) s; { s with quench := { s.quench with permitPin := false, permitFall := none } }
    | none => s)

end Sys2Proof.Machine
end

