-- ==== Sys2Proof/Machine/Frauri.lean ====
section
/-! DEFINITION. Frauri.lean: the frames a unit sends over the Frauri link: headers, payloads, the gaffer's groups, its snapshot and
the HOSTQ commit points (13_twin_redundancy.md R416 to R425). The IDLE frames of a unit with nothing else to send are no events of
the model: SEQ and FRAMES_TX count the other frames (assumption log 22). -/

namespace Sys2Proof.Machine

open Sys2Proof

/-- One event of a TWIN counter. -/
def bumpTwin (ev : Nat) (s : State) : State := bump 0x0B0034 ev s

/-- SYS_ID of stepping B0 (R1). -/
def sysId : Nat := 0x96100010

/-- Codes of KIND (R416). -/
def FrKind.code : FrKind → Nat
  | .idle => 0 | .hello => 1 | .mirror => 2 | .commit => 3 | .time => 4 | .notice => 5 | .ack => 6 | .nak => 7 | .snapshot => 8

/-- TFLAGS of this unit (R416). -/
def frFlags (s : State) : Nat :=
  b2n s.twin.claimO + 2 * b2n s.twin.gateOpen + 4 * b2n (latched s) + 8 * b2n s.twin.unit + 16 * b2n (s.twin.pair == .ready)

/-- The header of a frame (R416). -/
def frHead (s : State) (k : FrKind) (seq len : Nat) : Bytes :=
  leBytes 1 k.code ++ leBytes 1 (frFlags s) ++ leBytes 2 len ++ leBytes 8 seq ++ leBytes 4 s.twin.rxSeq

/-- A frame as it leaves: the header, the payload encrypted with its tag, and the CRC-32C over both (R416, R417). -/
def frBytes (key : Bytes) (unit : Bool) (f : FrTx) : Bytes :=
  let nonce := leBytes 1 (b2n unit) ++ leBytes 3 0 ++ leBytes 8 f.seq
  let body := f.head ++ padTo (f.payload.length + 16) (Config.gcmSeal key nonce f.head f.payload)
  body ++ leBytes 4 (crc32c body).toNat

/-- One frame sent (R416). -/
def sendFrame (k : FrKind) (payload : Bytes) (s : State) : State :=
  let n := s.fr.seq + 1
  bumpTwin 0 { s with fr := { s.fr with seq := n, sent := s.fr.sent ++ [{ seq := n, head := frHead s k n payload.length, payload := payload }] } }

/-- The frames of a body: no rule gives the payloads' layouts, and a record may take several frames (assumption log 22). -/
def sendBody (k : FrKind) (b : FrBody) (s : State) : State :=
  if b = .empty then sendFrame k [] s else (Config.frauriPayloads b).foldl (fun s p => sendFrame k p s) s

/-- A NOTICE frame goes to the peer, with the link up (R419). -/
def sendNotice (s : State) : State := if s.twin.link = .up then sendBody .notice .empty s else s

/-- A class that the TWIN gather selects; PAIR always is (R421). -/
def selected (s : State) (c : Nat) : Bool := c == 6 || s.twin.mirrorSet.toNat.testBit c

/-- The links of the classes of a mirror record: its COMMIT number, the bits of R421 and 6 for PAIR. -/
def MirRecord.cls : MirRecord → Nat
  | .grid _ => 0 | .setpt _ _ => 1 | .radio _ => 2 | .assay _ => 3 | .time _ => 4 | .hostq _ => 5 | .pair _ => 6

/-- The unit sends mirror records: it is the gaffer of a link that is UP (R414, R421). -/
def gaffer (s : State) : Bool := s.twin.present && s.twin.claimO && s.twin.link == .up && s.sys.mode != .servitor && s.sys.mode != .yielded

/-- One group: the record, and the COMMIT that ends it (R421). -/
def sendGroup (r : MirRecord) (s : State) : State :=
  if gaffer s && selected s r.cls then sendBody .commit (.commit r.cls) (sendBody .mirror (.record r) s) else s

/-- The PAIR class (R421). -/
def mirPair (s : State) : MirPair :=
  { mode := s.sys.mode, latched := latched s, cause := s.quench.cause
    permitEn := regWord s 0x09003C ++ regWord s 0x090038 ++ regWord s 0x090034 ++ regWord s 0x090030, machq := s.quench.machq }

/-- RESV table of the grid. -/
def resvTable (s : State) : Option TableDesc := (s.lode.tables.filter (fun t => t.content == .resv)).head?

/-- ZONE table of the grid. -/
def zoneTable (s : State) : Option TableDesc := (s.lode.tables.filter (fun t => t.content == .zone)).head?

/-- A machine's LAPSED mark and anneal requests (R421). -/
def GridMach.flags (g : GridMach) : GridMach := { lapsed := g.lapsed, annealMargin := g.annealMargin, annealOutside := g.annealOutside }

/-- The GRID class (R421). -/
def mirGrid (s : State) : MirGrid :=
  { origin := s.grid.origin, zones := s.grid.zones, tracks := s.grid.tracks
    entries := s.lode.copy.filter (fun x => (zoneTable s).map TableDesc.id == some x.1 || (resvTable s).map TableDesc.id == some x.1)
    allots := s.grid.allots, gens := s.grid.gens, tasks := s.grid.tasks, machs := s.grid.machs.map (fun p => (p.1, p.2.flags)) }

/-- The RADIO class (R346). -/
def mirRadio (s : State) : MirRadio :=
  { asn := s.radio.asn, repeatLeft := s.radio.repeatLeft, txMax := s.radio.txMax, marks := s.radio.marks, nodes := s.radio.nodes
    ledger := s.radio.ledger, corr := (List.range 3).map (fun c => ((chain s c).corrSeq, (chain s c).corrChunk)) }

/-- One channel of the ASSAY class (R421, R423): its totals, and each quantity's value with the source count it stands at. -/
def mirAssayChan (c : AsChan) : MirAssay :=
  { fwd := c.totalFwd, rev := c.totalRev, vals := c.qs.map (fun q => (q.val, c.sourceCount q.source)) }

/-- The ASSAY class (R421). -/
def mirAssay (s : State) : List (Nat × MirAssay) :=
  ((List.range 16).filter (fun c => (asChan s c).mode != .off)).map (fun c => (c, mirAssayChan (asChan s c)))

/-- The TIME class (R421). -/
def mirTime (s : State) : MirTime :=
  { served := now s, p := s.time.p, a := s.time.a, selA := s.time.selA, resid40 := s.time.resid40 }

/-- The HOSTQ class (R421): the commit points of the queues that are enabled. -/
def mirHostq (s : State) : List (Nat × BitVec 32) :=
  ((List.range 16).filter (fun n => (cq s n).en)).map (fun n => (n, (cq s n).commit))

/-- The whole of every selected class (R425). -/
def snapshotRecords (s : State) : List MirRecord :=
  [.pair (mirPair s), .grid (mirGrid s), .setpt s.setpt.machs s.setpt.odos, .radio (mirRadio s), .assay (mirAssay s), .time (mirTime s),
    .hostq (mirHostq s)].filter (fun r => selected s r.cls)

/-- The snapshot is sent (R425). -/
def sendSnapshot (s : State) : State :=
  let a := mirAssay s
  let h := mirHostq s
  let s := (snapshotRecords s).foldl (fun s r => sendBody .snapshot (.record r) s) s
  { s with fr := { s.fr with snapSent := true, assaySent := a, hostSent := h, hostDue := none } }

/-- The ASSAY group: the channels that changed (R421). -/
def sendAssay (s : State) : State :=
  let a := mirAssay s
  let new := a.filter (fun x => kget s.fr.assaySent x.1 != some x.2)
  if new = [] then s else sendGroup (.assay new) { s with fr.assaySent := a }

/-- HOSTQ commit points noted: they wait until the groups sent so far have been acknowledged (R422). -/
def noteHostq (s : State) : State :=
  let h := mirHostq s
  if s.fr.hostDue.isSome ∨ h = s.fr.hostSent then s else { s with fr.hostDue := some (s.fr.seq, h) }

/-- The frames of a profile tick: the snapshot while the servitor has none, the groups of PAIR, SETPT, ASSAY and TIME, and the
two-way time exchange, which the servitor takes part in (R110, R421, R425). -/
def mirrorTick (s : State) : State :=
  if gaffer s then
    let s := if s.fr.snapSent then s else sendSnapshot s
    let s := sendGroup (.setpt s.setpt.machs s.setpt.odos) (sendGroup (.pair (mirPair s)) s)
    let s := sendAssay s
    let s := noteHostq (sendGroup (.time (mirTime s)) s)
    sendBody .time (.time (now s)) s
  else if s.twin.link = .up then sendBody .time (.time (now s)) s
  else s

/-- The RADIO group of a slot boundary (R346, R421). -/
def mirrorSlot (s : State) : State := if s.radio.present then sendGroup (.radio (mirRadio s)) s else s

/-- A change of the GRID class is followed by its group (R421). -/
def gridMirrored (f : State → State) (s : State) : State :=
  let t := f s
  if gaffer t && decide (mirGrid t ≠ mirGrid s) then sendGroup (.grid (mirGrid t)) t else t

/-- A command that may change the GRID class. -/
def gridBus (s : State) (f : State → State) : State := bus s (gridMirrored f)

/-- The SEQ that ACK_SEQ stands for: the highest no later than the last one sent (R416). -/
def ackedSeq (s : State) (ack : BitVec 32) : Nat := s.fr.seq - (s.fr.seq + 2 ^ 32 - ack.toNat) % 2 ^ 32

/-- The peer acknowledges frames: they need no re-send, and commit points whose records it has committed go out (R418, R422). -/
def acked (ack : BitVec 32) (s : State) : State :=
  let n := ackedSeq s ack
  let s := { s with fr.sent := s.fr.sent.filter (fun f => decide (n < f.seq)) }
  match s.fr.hostDue with
  | some (b, h) => if b ≤ n then sendGroup (.hostq h) { s with fr := { s.fr with hostDue := none, hostSent := h } } else s
  | none => s

/-- The sending side when the link starts over or leaves UP. -/
def frReset (s : State) : State := { s with fr := {} }

end Sys2Proof.Machine
end

