-- ==== Sys2Proof/Machine/Mode.lean ====
section
/-! DEFINITION. Mode.lean: mode transitions with what they start and stop, the voted decision, the claim and the yield,
and mode requests (03_modes_power_reset.md R73 to R90; 11_quench_permit.md R354, R367; 13_twin_redundancy.md R407 to
R413). -/

namespace Sys2Proof.Machine

open Sys2Proof

/-- SYS's block index. -/
def bSYS : Nat := 0x00

/-- Mode codes (01_architecture.md, modes at a glance). -/
def Mode.code : Mode → Nat
  | .reset => 0 | .forming => 1 | .survey => 2 | .field => 3 | .holdover => 4 | .anneal => 5
  | .quenched => 6 | .servitor => 7 | .reserve => 8 | .dormant => 9 | .maintenance => 10 | .yielded => 11

/-- Codes of SYS_MODE.CAUSE. -/
def ModeCause.code : ModeCause → Nat
  | .boot => 0 | .hostReq => 1 | .warden => 2 | .quench => 3 | .timeLost => 4 | .timeRegained => 5 | .ageLimit => 6
  | .mainLost => 7 | .mainReturned => 8 | .battLow => 9 | .wake => 10 | .fault => 11 | .takeover => 12 | .peerClaim => 13
  | .release => 14 | .thermal => 15 | .formed => 16 | .autoField => 17

/-- Codes of SYS_MODE_RESULT.RESULT. -/
def ReqResult.code : ReqResult → Nat
  | .none => 0 | .done => 1 | .busy => 2 | .mode => 3 | .notReady => 4 | .notPermitted => 5 | .notStored => 6 | .conflictLost => 7

/-- POS_FIXED: the reference position is fixed for this session (R162). -/
def posFixed (s : State) : Bool := s.rtk.refState == .fixed

/-- SYS_MODE_RESULT as a read returns it. -/
def modeResultWord (s : State) : Nat := b2n s.sys.req.isSome * 2 ^ 31 + s.sys.reqResult.code

/-- An answer of the warden in the C2H direction of mailbox 8 (R102). -/
def wardenAnswer (op tag status : Nat) (data : List Nat) (s : State) : State :=
  let s := mbPush 8 false (BitVec.ofNat 32 (op * 2 ^ 24 + tag * 2 ^ 16 + status * 2 ^ 8 + data.length)) false s
  data.foldl (fun s d => mbPush 8 false (BitVec.ofNat 32 d) false s) s

/-- A mode request ends: its result, REQ_DONE, and the answer of a MODE_REQ that carried it (R103, R104). -/
def endRequest (tag : Option (BitVec 8)) (r : ReqResult) (s : State) : State :=
  let s := raise bSYS 1 { s with sys := { s.sys with req := none, reqResult := r } }
  match tag with
  | some t =>
    let s := { s with hostif.wardenTaken := s.hostif.wardenTaken - 1 }
    wardenAnswer 3 t.toNat 0 [modeResultWord s] s
  | none => s

/-- The request in progress ends. -/
def finishRequest (r : ReqResult) (s : State) : State :=
  match s.sys.req with
  | some q => endRequest q.mboxTag r s
  | none => s

/-- The planners and the RTK engine stop: their state is discarded (R86, R198, R275, R301). Reservations stay in Lode. -/
def stopPlanners (s : State) : State :=
  { s with
    grid := { s.grid with allots := [], cmdBusy := false, intake := s.grid.intake.filter (fun c => c.queue.isSome) }
    setpt := { s.setpt with machs := [], odos := [], extends_ := [], cmdBusy := false, intake := s.setpt.intake.filter (fun c => c.queue.isSome) }
    rtk := { s.rtk with machs := s.rtk.machs.map (fun p => (p.1, emptyFilter p.2)) } }

/-- Accepted items that a stop of the planners discards (R29, R442, R446): EXTEND requests, machine epochs at RTK ingest or in
process, and commands of the register path. -/
def plannerWork (s : State) : Nat :=
  s.setpt.extends_.length + (s.rtk.machs.map (fun p => p.2.epochs.length)).sum
    + (s.grid.intake.filter (fun c => c.queue.isNone)).length + (s.setpt.intake.filter (fun c => c.queue.isNone)).length

/-- Frames queued on ports 4 to 11. -/
def backPorts : List Nat := [4, 5, 6, 7, 8, 9, 10, 11]

/-- A back port at the shedding of load: it ends with the frame in progress (R86 step 2). -/
def shedPort (p : Nat) (s : State) : State :=
  setPort p (fun x => { x with shedWait := x.onWire.isSome }) (discardFrames p 11 (fun _ _ => true) s)

/-- A chain at the shedding of load: every chain but BEACON_CHAIN ends with the frame in progress (R86 step 3). -/
def shedChain (s : State) (c : Nat) : State :=
  if c = regFld s 0x000050 9 8 then s else setChain c (fun x => { x with shedWait := x.onAir.isSome }) s

/-- Steps 2 to 5 of R86: ports 4 to 11 and the chains end at the frame in progress, pipeline 1 stops, cores 2 to 7 are gated,
GNSS enters burst tracking at the next whole second. A second shutdown of pipeline 1 cancels its pending enable (R70). -/
def shedLoad (s : State) : State :=
  let s := backPorts.foldl (fun s p => shedPort p s) s
  let s := (List.range 3).foldl shedChain s
  let s := gateCores s
  { s with sys.shed := true, lode := { s.lode with run1 := false, stop1 := s.lode.run1 || s.lode.stop1, pend1 := false, stopAt1 := if s.lode.run1 then now s else s.lode.stopAt1 }, gnss.burstNext := true }

/-- The shed functions return (R87); pipeline 1 waits for its own shutdown (R69, R208), and a port or chain for its frame. -/
def restoreLoad (s : State) : State :=
  let s := ungateCores { s with sys.shed := false, gnss.burstNext := false }
  if s.lode.stop1 then { s with lode.pend1 := true } else resume1 s

/-- What leaving a mode does. No rule says when the decision at the battery anneal limit ceases to stand: the model ends it with
the anneal, and at the return of VIN_MAIN (DESIGN CHOICE, assumption log 25). A move from RESERVE to YIELDED restores the load as
every exit from RESERVE does, and a unit that yields while it runs on VIN_RES sheds none: R88 speaks of a loss in YIELDED alone
(DESIGN CHOICE, assumption log 25). -/
def leaveMode (old : Mode) (s : State) : State :=
  match old with
  | .reserve => restoreLoad (recomputeAll s)
  | .anneal => { s with sys := { s.sys with annealDone := false, annealOnRes := false }, aon.battAnneal := false }
  | .holdover => { s with sys.ageTaken := false }
  | _ => s

/-- Chains with a shared segment owe the first ANNEAL frame of a fleet anneal (R333). -/
def armAnneal (s : State) : State :=
  (List.range 3).foldl (fun s c => armChain c s) s
where
  /-- One chain: the slot at hand if its shared segment is still to come, else the next. -/
  armChain (c : Nat) (s : State) : State :=
    let a := s.radio.asn + (if (chain s c).sentShared ∨ slotStart s + sharedStart (chain s c).cfg * 1000 < now s then 1 else 0)
    setChain c (fun x => { x with annealFirst := if hasShared x.cfg then some a else none }) s

/-- What entering a mode does. -/
def enterMode (m : Mode) (cause : ModeCause) (s : State) : State :=
  match m with
  | .anneal =>
    let s := { s with
      sys := { s.sys with annealDone := false, annealOnRes := cause == .mainLost }
      quench := { s.quench with annealAt := s.clk, stood := 0 } }
    armAnneal s
  | .reserve =>
    let n := plannerWork s + (backPorts.map (fun p => countFrames s p (fun _ _ => true))).sum
    shedLoad (discard [0x06, 0x07] 1 7 0 0xFF n true (stopPlanners (checkpointAll s)))
  | .yielded => discard [0x06, 0x07] 1 7 0 0xFF (plannerWork s) true (stopPlanners s)
  | .quenched => { s with sys := { s.sys with released := false } }
  | _ => s

/-- A source is good as the part itself knows it (R110): GNSS with POS_FIXED, four satellites and the spoof check. Firmware has written
nothing of late to a domain that followed TWIN. -/
def sourceStands (s : State) (a : Bool) (src : Nat) : Bool :=
  match src with
  | 1 => posFixed s && spoofOk s && decide (4 ≤ s.gnss.sats)
  | 2 => softOk s a && decide (s.clk < (dom s a).lastWrite + softTimeoutNs s a)
  | 3 => true
  | _ => false

/-- The domains change their source with SERVITOR (R110, R111): on entry both follow TWIN, which has not been exchanged yet; on exit
each returns to its own, and is valid if that stands. -/
def changeSources (old new : Mode) (s : State) : State :=
  if decide (old = .servitor) = decide (new = .servitor) then s
  else loseSources ([false, true].filter (fun a => (dom s a).source != 3 && (new == .servitor || (dom s a).source == 2 || !sourceStands s a (dom s a).source))) s

/-- A mode request that waits when the mode changes otherwise has no move left: MODE (R78); a thermal request is spent with
FIELD and HOLDOVER (R89, R105). -/
def endStale (m : Mode) (s : State) : State :=
  let s := if s.sys.req.isSome then finishRequest .mode s else s
  if m = .field ∨ m = .holdover then s else { s with sys := { s.sys with thermalReq := false } }

/-- A mode transition takes effect (R73): SYS_MODE, its interrupt and its record (R551), then what it stops and starts. -/
def toMode (m : Mode) (cause : ModeCause) (rank : Nat) (s : State) : State :=
  let old := s.sys.mode
  let s := leaveMode old s
  let s := { s with sys := { s.sys with mode := m, prev := old, cause := cause } }
  let s := record 0x0041 rank 1 m.code old.code cause.code (raise bSYS 0 s)
  driveOutputs (enterMode m cause (endStale m (changeSources old m s)))

/-- A transition that would end in SURVEY ends in QUENCHED while the latch is set (R75). -/
def surveyOr (s : State) : Mode := if latched s then .quenched else .survey

/-- The gated outputs close: a frame on air other than a QUENCH is cut off (R407, R411, R413). -/
def closeGates (s : State) : State :=
  let isQuench (f : RadioFrame) : Bool := f.type == .quench
  let t := now s
  let s := (List.range 3).foldl (fun s c => setChain c (fun x => if x.onAir.any isQuench then x else x.cut t) s) s
  { s with twin.gateOpen := false }

/-- TWIN_CLAIM_O falls: gated outputs closed, gated frames discarded and the discard reported (R400, R413). -/
def dropClaim (s : State) : State :=
  if ¬ s.twin.claimO then closeGates s
  else
    let s := closeGates s
    let s := { s with twin := { s.twin with claimO := false, everOpen := false, conflictAt := none }, fr := { s.fr with snapSent := false, hostDue := none } }
    let r := dropClaimFrames s
    driveOutputs (if r.1 = 0 then r.2 else discard [0x0A] 3 7 0 0xFF r.1 true r.2)

/-- TWIN_CLAIM_O rises; a lone unit's gated outputs open with it, a paired unit's after the guard (R407). -/
def raiseClaim (s : State) : State :=
  if s.twin.claimO then s
  else driveOutputs { s with twin := { s.twin with claimO := true, claimOAt := s.clk, gateOpen := !s.twin.present, everOpen := !s.twin.present } }

/-- A yield: outputs closed, claim dropped, YIELDED (R413). Only the modes of R78 yield; the latch keeps its state. -/
def yieldUnit (rank : Nat) (s : State) : State :=
  match s.sys.mode with
  | .reset | .forming | .dormant | .yielded => s
  | _ => toMode .yielded .fault rank (finishRequest .conflictLost (dropClaim s))

/-- Modes that a voted quench turns to QUENCHED (R74). -/
def quenchableMode : Mode → Bool
  | .survey | .field | .holdover | .anneal => true
  | _ => false

/-- The voted decision: the latch in all three copies, its cause, time and QSEQ, the mode, the frames and the outputs
(R20, R354, R365, R367, R419). A mode request that waits for the tick has lost (R105). -/
def latchQuench (cause : QCause) (rank : Nat) (s : State) : State :=
  let was := s.sys.mode
  let n := s.quench.count + 1
  let s := { s with quench := { s.quench with
    chs := s.quench.chs.map (fun (c : QChannel) => { c with latch := true })
    cause := cause, time := BitVec.ofNat 64 (recordTime s).1, count := n, qseq := n, latchAt := s.clk, deciding := none
    reminders := 0, ethLeft := quenchRepeats s, ethNext := now s / 10 ^ 7 + 1 } }
  let s := if quenchableMode was then toMode .quenched .quench rank (finishRequest .conflictLost s) else s
  let s := record 0x0940 rank 3 cause.code n.toNat was.code (raise bQUENCH 0 (bumpQuench 0 s))
  let s := sendQuenchFrames 0xFF 0 n.toNat s.quench.time.toNat (sendNotice s)
  driveOutputs (slotBreak s)

/-- No peer claim has been seen for 4 µs (R409). -/
def claimFree (s : State) : Bool := !s.twin.claimI && decide (s.twin.claimIAt + 4000 ≤ s.clk)

/-- The first three conditions of R77. -/
def fieldReady (s : State) : Bool :=
  posFixed s && timeValid s && (!s.twin.present || s.twin.claimO || claimFree s)

/-- SURVEY ends in FIELD; a paired unit asserts its claim on the way (R77, R409). -/
def enterField (cause : ModeCause) (rank : Nat) (s : State) : State := toMode .field cause rank (raiseClaim s)

/-- A forming or a re-forming is in progress (R90): a load that is to apply its image, and has not ended its application. -/
def imageWork (s : State) : Bool :=
  match s.parison.load with
  | some l => (l.action == 0 || l.action == 3) && !l.storing
  | none => false

/-- The conditions of DORMANT in order (R90); DONE when all hold. -/
def dormantResult (s : State) : ReqResult :=
  if ¬ (s.sys.mode = .quenched ∨ noPermit s) then .notPermitted
  else if ¬ s.parison.inStore then .notStored
  else if imageWork s then .busy
  else .done

/-- Modes that R78 leads to DORMANT. -/
def dormantMode : Mode → Bool
  | .survey | .quenched | .maintenance | .servitor | .reserve | .anneal => true
  | _ => false

/-- A request's first answer: NONE when it is accepted and waits for the profile tick (R77, R78, R90). -/
def requestResult (target : Nat) (s : State) : ReqResult :=
  let m := s.sys.mode
  if target = 2 then (if m = .maintenance ∨ (m = .anneal ∧ s.sys.annealDone) then .none else .mode)
  else if target = 3 then (if m ≠ .survey then .mode else if fieldReady s then .none else .notReady)
  else if target = 5 then (if m = .field ∨ m = .holdover then .none else .mode)
  else if target = 9 then (if dormantMode m then dormantResult s else .mode)
  else if target = 10 then (if m = .survey ∨ m = .quenched ∨ m = .servitor then .none else .mode)
  else .mode

/-- A DORMANT request is accepted (R90, R91). From here on the rises of R92 count: VIN_MAIN is out of range, or must leave it
first, and SOLAR_SENSE likewise. -/
def acceptDormant (who : Master) (s : State) : State :=
  { s with aon := { s.aon with
    dormantReq := true, dormantWho := who, wakePending := none
    mainArmed := !s.aon.mainGood && !decide (10800 ≤ s.aon.vmainMv ∧ s.aon.vmainMv ≤ 13200)
    solarArmed := decide (s.aon.solarMv ≤ regFld s 0x000054 31 16), solarRise := none } }

/-- Target of a code that SYS_MODE_REQ takes. -/
def targetMode (t : Nat) : Mode :=
  if t = 2 then .survey else if t = 3 then .field else if t = 5 then .anneal else if t = 9 then .dormant else .maintenance

/-- A mode request (R78, R90, R103, R105): refused, accepted to wait for the profile tick, or, for DORMANT, accepted with
its entry under way. -/
def modeRequest (target : Nat) (who : Master) (tag : Option (BitVec 8)) (s : State) : State :=
  if s.sys.req.isSome ∨ s.aon.dormantReq then endBusy s
  else
    let r := requestResult target s
    if r = .none then
      { s with sys := { s.sys with req := some { target := targetMode target, master := who, mboxTag := tag }, reqResult := .none } }
    else if r = .done then
      endRequest tag .done (acceptDormant who s)
    else endRequest tag r s
where
  /-- A request while an earlier one is in progress (R105): the earlier one goes on. A MODE_REQ that is answered BUSY has no
  effect (R102). -/
  endBusy (s : State) : State :=
    match tag with
    | some g => wardenAnswer 3 g.toNat 3 [] { s with hostif.wardenTaken := s.hostif.wardenTaken - 1 }
    | none => raise bSYS 1 { s with sys.reqResult := .busy }

/-- REQ_SURVEY (R78). -/
def execReqSurvey (who : Master) (s : State) : Out := .next (bus s (modeRequest 2 who none))

/-- REQ_FIELD (R77). -/
def execReqField (who : Master) (s : State) : Out := .next (bus s (modeRequest 3 who none))

/-- REQ_ANNEAL (R78). -/
def execReqAnneal (who : Master) (s : State) : Out := .next (bus s (modeRequest 5 who none))

/-- REQ_DORMANT (R90). -/
def execReqDormant (who : Master) (s : State) : Out := .next (bus s (modeRequest 9 who none))

/-- REQ_MAINTENANCE (R78). -/
def execReqMaintenance (who : Master) (s : State) : Out := .next (bus s (modeRequest 10 who none))

/-- The pending request's target, if it waits in a mode that leads there. -/
def reqFor (s : State) (m : Mode) : Option Master :=
  match s.sys.req with
  | some q => if q.target = m then some q.master else none
  | none => none

/-- A pending request takes effect. -/
def grantReq (m : Mode) (who : Master) (s : State) : State :=
  toMode m (if who = .warden then .warden else .hostReq) who.rank (finishRequest .done s)

/-- The correction age is past its limit (R100). -/
def ageDue (s : State) : Bool :=
  match s.time.cleanAt with
  | none => true
  | some t => decide (t + s.time.ageLimit * 10 ^ 9 < s.clk)

/-- The action at the correction-age limit (R100). -/
def ageAction (s : State) : State :=
  if s.sys.ageTaken then s
  else
    let s := { s with sys.ageTaken := true }
    if s.time.ageQuench then wardenPulse { s with aon.agePulse := true } else toMode .anneal .ageLimit 0 s

/-- VIN_MAIN counts as lost, until it has been back for the 1 s of R81: the moves that R78 ties to its loss are due even when
the path has gone back before the tick (R83). -/
def mainAbsent (s : State) : Bool := s.aon.onRes || !s.aon.mainGood

/-- Transitions from SURVEY at a profile tick. -/
def tickSurvey (s : State) : State :=
  if mainAbsent s then toMode .reserve .mainLost 0 s
  else if s.twin.present ∧ s.twin.claimI then toMode .servitor .peerClaim 11 (dropClaim s)
  else match reqFor s .maintenance, reqFor s .field with
    | some w, _ => grantReq .maintenance w s
    | _, some w => if fieldReady s then enterField .hostReq w.rank (finishRequest .done s) else finishRequest .notReady s
    | none, none => if regBit s 0x10 0 ∧ fieldReady s then enterField .autoField srcSelf s else s

/-- Transitions from FIELD and HOLDOVER to ANNEAL (R78). -/
def annealCause (s : State) : Option (ModeCause × Nat) :=
  if mainAbsent s then some (.mainLost, 0)
  else if s.sys.thermalReq then some (.thermal, 0)
  else match reqFor s .anneal with
    | some w => some (if w = .warden then .warden else .hostReq, w.rank)
    | none => none

/-- A fleet anneal starts, and a request for it is done. -/
def startAnneal (c : ModeCause) (rank : Nat) (s : State) : State :=
  toMode .anneal c rank (if (reqFor s .anneal).isSome then finishRequest .done s else s)

/-- Transitions from FIELD at a profile tick. -/
def tickField (s : State) : State :=
  match annealCause s with
  | some (c, r) => startAnneal c r s
  | none => if ¬ s.time.p.valid ∧ ¬ s.time.a.valid then toMode .holdover .timeLost srcSelf s else s

/-- Transitions from HOLDOVER at a profile tick: the return of time wins over the limit (R105). -/
def tickHoldover (s : State) : State :=
  match annealCause s with
  | some (c, r) => startAnneal c r s
  | none =>
    if timeValid s then toMode .field .timeRegained srcSelf s
    else if ageDue s then ageAction s else s

/-- Transitions from ANNEAL at a profile tick. -/
def tickAnneal (s : State) : State :=
  if s.sys.annealDone then
    if mainAbsent s then toMode .reserve .mainLost 0 s
    else match reqFor s .survey with
      | some w => grantReq (surveyOr s) w s
      | none => s
  else s

/-- ANNEAL_DONE sets at the first profile tick in ANNEAL at which no machine holds a permit, once the engine has reported the
machines at standstill (R80, R298). -/
def annealDoneTick (s : State) : State :=
  if s.sys.mode = .anneal ∧ ¬ s.sys.annealDone ∧ noPermit s = true then driveOutputs { s with sys := { s.sys with annealDone := true } } else s

/-- Transitions from the modes without permits at a profile tick. -/
def tickOther (s : State) : State :=
  match s.sys.mode with
  | .quenched =>
    if mainAbsent s then toMode .reserve .mainLost 0 s
    else match reqFor s .maintenance with
      | some w => grantReq .maintenance w s
      | none => if s.sys.released ∧ ¬ latched s then toMode .survey .release 1 s else s
  | .maintenance =>
    if mainAbsent s then toMode .reserve .mainLost 0 s
    else match reqFor s .survey with
      | some w => grantReq (surveyOr s) w s
      | none => s
  | .servitor =>
    if mainAbsent s then toMode .reserve .mainLost 0 s
    else match reqFor s .maintenance with
      | some w => grantReq .maintenance w s
      | none => s
  | .reserve => if s.aon.mainGood then toMode (surveyOr s) .mainReturned 0 s else s
  | _ => s

/-- The mode transition of a profile tick, if a condition of R78 holds; a request whose move no longer exists is refused
with MODE (R73, R78). -/
def modeTick (s : State) : State :=
  match s.sys.mode with
  | .survey => tickSurvey s
  | .field => tickField s
  | .holdover => tickHoldover s
  | .anneal => tickAnneal s
  | _ => tickOther s

/-- CORRECTION_AGE_LIMIT (R100): the profile tick at which the correction age passes the limit. -/
def execCorrectionAgeLimit (s : State) : Out :=
  .next (bus s fun s =>
    if s.sys.mode ≠ .holdover ∨ timeValid s then s
    else
      let at_ := match s.time.cleanAt with | some t => t + s.time.ageLimit * 10 ^ 9 + 1 | none => 0
      let s := advanceClk at_ s
      let s := advanceTo (cdiv (now s) (10 ^ 6) * 10 ^ 6) s
      ageAction s)

/-- ANNEAL_LIMIT (R373): ANNEAL_LIMIT_S after the start of a fleet anneal that is not done. -/
def execAnnealLimit (s : State) : Out :=
  .next (bus s fun s =>
    let lim := regFld s 0x090050 7 0
    if s.sys.mode ≠ .anneal ∨ s.sys.annealDone ∨ lim = 0 then s
    else
      let s := advanceClk (s.quench.annealAt + lim * 10 ^ 9) s
      wardenPulse (raise bQUENCH 7 { s with aon.annealPulse := true }))

end Sys2Proof.Machine
end

