-- ==== Sys2Proof/Machine/Lode.lean ====
section
/-! DEFINITION. Lode.lean: the Lode table engine: lookups, learning, ageing, the entry window and bank faults
(07_lode_tables.md R217 to R241). -/

namespace Sys2Proof.Machine

open Sys2Proof

/-- Width W of an LPM key (R210). -/
def lpmWidth (d : TableDesc) : Nat := d.keyBits

/-- A prefix covers a key of W bits, left-aligned (R215, R217). -/
def covers (w key : Nat) (k : LodeKey) : Bool := k.len ≤ w && key / 2 ^ (w - k.len) == k.val

/-- An interval is unused or its END is past (R217, R120). -/
def intervalOver (nowNs : Nat) : Option ResvInterval → Bool
  | none => true
  | some v => isPast v.end_.toNat nowNs

/-- A RESV entry is expired (R217). -/
def expired (nowNs : Nat) (e : LodeEntry) : Bool :=
  match e.result with
  | .resv ivs => ivs.all (intervalOver nowNs)
  | _ => false

/-- An exact lookup (R213). -/
def exactLookup (s : State) (id : Nat) (pipe : Bool) (k : LodeKey) : Option LodeEntry :=
  match inst s id pipe with
  | some i => (findKey i k).map Prod.snd
  | none => none

/-- The entry at a place, in a bucket or under restore. -/
def entryAt (i : Inst) (pos : Nat × Nat) : Option LodeEntry := ((i.entries ++ i.lost).find? (fun x => x.1 == pos)).map Prod.snd

/-- An entry that is not expired. -/
def unexpired (nowNs : Nat) (e : Option LodeEntry) : Option LodeEntry := e.filter (fun e => !expired nowNs e)

/-- Lengths that a filter entry names, longest first (R217). -/
def lengthsOf (fe : FilterEntry) : List Nat := ((List.range 116).reverse.filter (fun j => fe.lengths.getLsbD j)).map (· + 13)

/-- A longest-prefix lookup, as R217 sets out: the populated lengths, longest first, then the short result. -/
def lpmSearch (nowNs w : Nat) (i : Inst) (key : Nat) : Option LodeEntry :=
  let fe := i.filterAt (key / 2 ^ (w - 12))
  match (lengthsOf fe).findSome? (fun l => unexpired nowNs ((findKey i { len := l, val := key / 2 ^ (w - l) }).map Prod.snd)) with
  | some e => some e
  | none => match fe.short with
    | some x => unexpired nowNs (entryAt i x.2)
    | none => none

/-- A longest-prefix lookup in an instance (R217). -/
def lpmLookup (s : State) (id : Nat) (pipe : Bool) (key : Nat) : Option LodeEntry :=
  match inst s id pipe, tableDesc s id with
  | some i, some d => lpmSearch (now s) (lpmWidth d) i key
  | _, _ => none

/-- A lookup counted, and a miss. -/
def countLookup (pipe miss : Bool) (s : State) : State :=
  let s := bumpLode pipe 0 s
  if miss then bumpLode pipe 1 s else s

/-- Learned entries of a source in an instance (R232). -/
def learnedBy (i : Inst) (src : Nat) : Nat := (i.entries.filter (fun x => !x.2.written && x.2.source == src)).length

/-- The learning limit of a source (R232). -/
def learnLimit (s : State) (d : TableDesc) : Nat :=
  if d.content = .occ then min d.learnLimit s.grid.cfg.occLimit else d.learnLimit

/-- A machine stands at its occupancy limit in a pipeline (R269). -/
def occAtLimit (s : State) (m : Nat) : Bool :=
  s.lode.insts.any (fun i =>
    match tableDesc s i.table with
    | some d => d.content == .occ && decide (learnLimit s d ≤ learnedBy i m)
    | none => false)

/-- OCC_LIMIT of a machine follows AT_LIMIT, and its interrupt is raised when the bit sets (R269). -/
def settleOccLimit (m : Nat) (s : State) : State :=
  let was := ((kget s.grid.machs m).getD {}).occLimit
  let is := occAtLimit s m
  if was = is then s
  else
    let t := { s with grid.machs := kmod s.grid.machs m {} (fun g => { g with occLimit := is }) }
    if is then raise 0x06 4 t else t

/-- Learning is enabled in a pipeline (LODE_CTRL). -/
def learnEn (s : State) (pipe : Bool) : Bool := regBit s 0x050000 (b2n pipe)

/-- A request enters a queue behind those raised before it, and behind those of its own cycle with a lower source (R231). -/
def queueReq (r : LearnReq) : List LearnReq → List LearnReq
  | [] => [r]
  | x :: l => if x.at_ = r.at_ ∧ r.source < x.source then r :: x :: l else x :: queueReq r l

/-- A learn request put into one instance's queue, or lost (R231). LEARN_LOST is raised for a full queue alone: the discard of a
disabled instance is only counted (LODE_CTRL). -/
def learnOne (r : LearnReq) (s : State) (i : Inst) : State :=
  if ¬ learnEn s i.pipe then bumpLode i.pipe 11 s
  else if 256 ≤ i.learnQ.length then raise bLODE 0 (bumpLode i.pipe 11 s)
  else setInst { i with learnQ := queueReq { r with pipe := i.pipe, at_ := s.clk } i.learnQ } s

/-- A table learns (R209): a LEARN_LIMIT of 0 means no learning. -/
def learns (d : TableDesc) : Bool := d.learnLimit != 0

/-- A learn request to every instance of its table (R230); a table without learning takes none (R209). -/
def learn (r : LearnReq) (s : State) : State :=
  if (tableDesc s r.table).any learns then (instsOf s r.table).foldl (fun s i => learnOne r s i) s else s

/-- Served time in ms, modulo 2^32. -/
def nowMs (s : State) : Nat := now s / 10 ^ 6 % 2 ^ 32

/-- A time in ms lies at or before now, modulo 2^32. -/
def msPast (s : State) (t : Nat) : Bool := decide ((nowMs s + 2 ^ 32 - t % 2 ^ 32) % 2 ^ 32 < 2 ^ 31)

/-- The move window of an entry that moves: its new MOVES, MOVE_MS and FLAPPING (R233). -/
def moveWindow (s : State) (e : LodeEntry) : LodeEntry :=
  if e.moves = 0 ∨ (msPast s (e.moveMs + 1000) ∧ e.moveMs + 1000 ≠ nowMs s) then { e with moves := 1, moveMs := nowMs s }
  else if e.moves + 1 = 9 then { e with moves := 9, flapping := true, moveMs := (nowMs s + 1000) % 2 ^ 32 }
  else { e with moves := e.moves + 1 }

/-- Excess in an instance: the entry is not learned (R234). For an OCC table the grid raises OCC_LIMIT. -/
def excess (d : TableDesc) (pipe : Bool) (src : Nat) (s : State) : State :=
  match d.excess with
  | .drop => bumpLode pipe 6 s
  | .flood => bumpLode pipe 7 s
  | .dropFlag => settleOccLimit src (bumpLode pipe 8 s)

/-- A move of a learned entry to another source (R232, R233). -/
def applyMove (d : TableDesc) (i : Inst) (pos : Nat × Nat) (e : LodeEntry) (r : LearnReq) (s : State) : State :=
  if learnLimit s d ≤ learnedBy i r.source then
    let t := setInst (i.clear pos) s
    if d.content = .occ then excess d i.pipe r.source t else t
  else
    let x := moveWindow s e
    let e1 : LodeEntry := { x with source := r.source, hit := true, result := match e.result, r.result with
      | .mac _ q f, .mac p _ _ => .mac p q f
      | _, y => y }
    let s := bumpLode i.pipe 3 (setInst (i.put pos e1) s)
    if e1.flapping then raise bLODE 1 (bumpLode i.pipe 4 s) else s

/-- A learn request applied by an instance (R232). -/
def applyLearn (d : TableDesc) (i : Inst) (r : LearnReq) (s : State) : State :=
  match findKey i r.key with
  | some (pos, e) =>
    if e.written then s
    else if e.source = r.source then
      let keep := match r.result with | .occ _ _ => r.result | _ => e.result
      setInst (i.put pos { e with hit := true, result := keep }) s
    else if e.flapping then bumpLode i.pipe 5 s
    else applyMove d i pos e r s
  | none =>
    if learnLimit s d ≤ learnedBy i r.source then (if d.content = .occ then excess d i.pipe r.source s else s)
    else match insertEntry d s.fresh i { hit := true, source := r.source, key := r.key, result := r.result } with
      | some (i', _) => bumpLode i.pipe 2 (setInst i' (drawn64 s))
      | none => raise bLODE 2 (bumpLode i.pipe 12 (drawn64 s))

/-- A pipeline runs (R208). -/
def pipeRuns (s : State) (pipe : Bool) : Bool := if pipe then s.lode.run1 else s.lode.run0

/-- An entry whose FLAPPING has come to its end: FLAPPING and MOVES clear when MOVE_MS is past (R233). -/
def flapSettled (s : State) (e : LodeEntry) : LodeEntry :=
  if e.flapping ∧ msPast s e.moveMs then { e with flapping := false, moves := 0 } else e

/-- An instance whose entries have FLAPPING as it stands now (R233). -/
def Inst.flaps (s : State) (i : Inst) : Inst := { i with entries := i.entries.map (fun x => (x.1, flapSettled s x.2)) }

/-- The oldest learn request of an instance applied (R231); a stopped pipeline applies none (R208). -/
def learnStep (t : Nat) (pipe : Bool) (s : State) : State :=
  match inst s t pipe, tableDesc s t with
  | some i, some d =>
    match i.learnQ with
    | r :: l =>
      if ¬ pipeRuns s pipe then s
      else let i' := { i.flaps s with learnQ := l }; applyLearn d i' r (setInst i' s)
    | [] => s
  | _, _ => s

/-- A learn request that every instance of its table can queue, or discards because its learning is off, is queued (R231, R268). -/
def occIssue (s : State) (r : LearnReq) : Option State :=
  if (instsOf s r.table).all (fun i => !learnEn s i.pipe || decide (i.learnQ.length < 256)) then some (learn r s) else none

/-- The grid issues the occupancy requests that wait, in their order, as the learn queues have room (R268). -/
def issueOcc : List LearnReq → State → State
  | [], s => { s with grid.occWait := [] }
  | r :: l, s => match occIssue s r with
    | some t => issueOcc l t
    | none => { s with grid.occWait := r :: l }

/-- OCC_LIMIT of the machine whose request an OCC instance has applied (R269). -/
def afterLearn (old : State) (t : Nat) (pipe : Bool) (s : State) : State :=
  match inst old t pipe, tableDesc old t with
  | some i, some d => (match i.learnQ with
    | r :: _ => if d.content = .occ then settleOccLimit r.source s else s
    | [] => s)
  | _, _ => s

/-- LEARN_APPLY (R232), after which the grid may issue what waits for room (R268). -/
def execLearnApply (table : Fin 64) (pipe : Bool) (s : State) : Out :=
  .next (bus s fun s => let t := afterLearn s table.val pipe (learnStep table.val pipe s); issueOcc t.grid.occWait t)

/-- The sweeper's action on one entry (R226): none removes it. -/
def sweepEntry (nowNs : Nat) (e : LodeEntry) : Option LodeEntry :=
  if expired nowNs e then none
  else if e.written ∧ ¬ e.age then some e
  else if e.hit then some { e with hit := false, seenClear := false }
  else if ¬ e.seenClear then some { e with seenClear := true }
  else none

/-- The sweeper's action on the entry of a slot which a hit of the same cycle may reach: the removal then fails, and HIT stands for
the next pass (R229). An expired entry goes whatever its flags. -/
def sweepSlot (nowNs : Nat) (hit : Bool) (e : LodeEntry) : Option LodeEntry :=
  if hit ∧ ¬ expired nowNs e ∧ (e.written → e.age) then some { (sweepEntry nowNs e).getD { e with seenClear := false } with hit := true }
  else sweepEntry nowNs e

/-- The written copy without the written entries that a sweep removed and no instance holds any more (R224). -/
def dropCopies (t : Nat) (gone : List LodeEntry) (s : State) : State :=
  { s with lode.copy := gone.foldl (fun c e =>
      if e.written ∧ (instsOf s t).all (fun i => (findKey i e.key).isNone) then copySet t e.key none c else c) s.lode.copy }

/-- A sweep of one bucket (R226), with the slots that hits of the same cycle reach (R229). -/
def sweepBucket (d : TableDesc) (b : Nat) (hits : List (Fin 8)) (i : Inst) (s : State) : State :=
  let act (x : (Nat × Nat) × LodeEntry) : Option LodeEntry := sweepSlot (now s) (hits.any (fun h => h.val == x.1.2)) x.2
  let gone := (i.entries.filter (fun x => x.1.1 == b && (act x).isNone)).map Prod.snd
  let exp := (gone.filter (expired (now s))).length
  let left := i.entries.filterMap (fun x => if x.1.1 = b then (act x).map (fun e => (x.1, e)) else some x)
  let j := { i with entries := left }
  let s := setInst (if d.lpm then gone.foldl (fun j e => j.unindex e.key) j else j) s
  let s := dropCopies i.table gone s
  bumpBy 0x050044 (9 + 0x100 * b2n i.pipe) (gone.length - exp) (bumpBy 0x050044 (10 + 0x100 * b2n i.pipe) exp s)

/-- Sweep period of a table in ns (R209). -/
def sweepNs (d : TableDesc) : Nat := d.sweep * 10 ^ 7

/-- When the next visit of an instance's sweeper falls due (R225). -/
def sweepDue (d : TableDesc) (i : Inst) : Nat := i.sweepStart + i.sweepAt * sweepNs d / max 1 (bucketsOf i)

/-- The sweepers of a pipeline. -/
def sweepersOf (s : State) (pipe : Bool) : List (TableDesc × Inst) :=
  (s.lode.tables.filter (fun d => d.sweep != 0)).filterMap (fun d => (inst s d.id pipe).map (fun i => (d, i)))

/-- The sweeper that takes the next sweeper cycle: the most overdue, and the lower table ID on a tie (R225). -/
def nextSweeper (s : State) (pipe : Bool) : Option (TableDesc × Inst) :=
  (sweepersOf s pipe).foldl (fun b x =>
    match b with
    | none => some x
    | some y =>
      if sweepDue x.1 x.2 < sweepDue y.1 y.2 ∨ (sweepDue x.1 x.2 = sweepDue y.1 y.2 ∧ x.1.id < y.1.id) then some x else b) none

/-- The next visit of a pipeline's sweepers, at its due time (R225). -/
def sweepVisit (pipe : Bool) (hits : List (Fin 8)) (s : State) : State :=
  match nextSweeper s pipe with
  | some (d, i) =>
    if ¬ pipeRuns s pipe then s
    else
      let s := advanceTo (sweepDue d i) s
      let last := i.sweepAt + 1 = bucketsOf i
      let i' := { i with sweepAt := if last then 0 else i.sweepAt + 1, sweepStart := if last then i.sweepStart + sweepNs d else i.sweepStart }
      sweepBucket d i.sweepAt hits i' s
  | none => s

/-- Machines whose OCC_LIMIT stands. -/
def limitedMachs (s : State) : List Nat := (s.grid.machs.filter (fun p => p.2.occLimit)).map Prod.fst

/-- SWEEP_VISIT (R225, R226, R229); a machine may come off its occupancy limit (R269). -/
def execSweepVisit (pipe : Bool) (hits : List (Fin 8)) (s : State) : Out :=
  .next (bus s fun s => let t := sweepVisit pipe hits s; (limitedMachs t).foldl (fun t m => settleOccLimit m t) t)

/-- FLAPPING and MOVES of the instance's entries clear once MOVE_MS is past (R233). -/
def flapExpire (t : Nat) (pipe : Bool) (s : State) : State :=
  match inst s t pipe with
  | some i =>
    let due := (i.entries.filterMap (fun x => if x.2.flapping ∧ ¬ msPast s x.2.moveMs then
      some ((x.2.moveMs + 2 ^ 32 - nowMs s) % 2 ^ 32) else none)).min?
    let s := match due with | some d => advanceTo ((now s / 10 ^ 6 + d) * 10 ^ 6) s | none => s
    setInst (i.flaps s) s
  | none => s

/-- FLAP_EXPIRE (R233). -/
def execFlapExpire (table : Fin 64) (pipe : Bool) (s : State) : Out := .next (bus s (flapExpire table.val pipe))

/-- One interval of a RESV entry in its 16 bytes (R220). -/
def intervalBytes : Option ResvInterval → Bytes
  | none => leBytes 16 0
  | some v => leBytes 1 v.mach ++ leBytes 1 1 ++ leBytes 2 v.task.toNat ++ leBytes 6 v.start.toNat ++ leBytes 6 v.end_.toNat

/-- An interval read from its 16 bytes. -/
def intervalAt (bs : Bytes) (o : Nat) : Option ResvInterval :=
  if (byteAt bs (o + 1)).testBit 0 then
    some { mach := byteAt bs o, task := BitVec.ofNat 16 (leAt bs (o + 2) 2)
           start := BitVec.ofNat 48 (leAt bs (o + 4) 6), end_ := BitVec.ofNat 48 (leAt bs (o + 10) 6) }
  else none

/-- Result bytes, from offset 0x10, or 0x20 of a ROUTE6 entry (R220). -/
def resultBytes : LodeResult → Bytes
  | .mac pm q f => leBytes 2 pm.toNat ++ leBytes 1 q.toNat ++ leBytes 1 f.toNat
  | .route nh p q v f => leBytes 6 nh.toNat ++ leBytes 1 p ++ leBytes 1 q.toNat ++ leBytes 2 v.toNat ++ leBytes 1 f.toNat
  | .zone i c a => leBytes 2 i.toNat ++ leBytes 1 c ++ leBytes 1 0 ++ leBytes 4 a.toNat
  | .resv ivs => ivs.flatMap intervalBytes
  | .occ l h => leBytes 6 l.toNat ++ leBytes 2 h
  | .spmean c r => leBytes 4 (unsignedOf 32 c) ++ leBytes 1 r.toNat

/-- Key bytes, from offset 0x08 (R220). -/
def keyBytes (d : TableDesc) (k : LodeKey) : Bytes :=
  if d.lpm then
    let p := k.val * 2 ^ (d.keyBits - k.len)
    if d.content = .route6 then leBytes 1 k.len ++ leBytes 7 0 ++ leBytes 16 p else leBytes 1 k.len ++ leBytes 3 0 ++ leBytes 4 p
  else leBytes 8 k.val

/-- An entry image (R219, R220). -/
def entryBytes (d : TableDesc) (e : LodeEntry) : Bytes :=
  padTo d.entryBytes (leBytes 1 (1 + 2 * b2n e.written + 4 * b2n e.hit + 8 * b2n e.seenClear + 16 * b2n e.age + 32 * b2n e.flapping)
    ++ leBytes 1 e.moves ++ leBytes 1 e.source ++ leBytes 1 d.id ++ leBytes 4 e.moveMs ++ keyBytes d e.key ++ resultBytes e.result)

/-- The key of an entry image (R220). -/
def keyOfImage (d : TableDesc) (bs : Bytes) : LodeKey :=
  match d.content with
  | .mac => { len := 0, val := leAt bs 8 8 % 2 ^ 60 }
  | .occ => { len := 0, val := leAt bs 8 5 }
  | .spmean => { len := 0, val := byteAt bs 8 + (byteAt bs 9 % 64) * 256 }
  | .route6 => let n := min 128 (byteAt bs 8); { len := n, val := leAt bs 0x10 16 / 2 ^ (128 - n) }
  | _ => let n := min 32 (byteAt bs 8); { len := n, val := leAt bs 0x0C 4 / 2 ^ (32 - n) }

/-- The result of an entry image (R220). -/
def resultOfImage (d : TableDesc) (bs : Bytes) : LodeResult :=
  match d.content with
  | .mac => .mac (BitVec.ofNat 16 (leAt bs 0x10 2)) (BitVec.ofNat 8 (byteAt bs 0x12)) (BitVec.ofNat 8 (byteAt bs 0x13))
  | .route4 => .route (BitVec.ofNat 48 (leAt bs 0x10 6)) (byteAt bs 0x16) (BitVec.ofNat 8 (byteAt bs 0x17)) (BitVec.ofNat 16 (leAt bs 0x18 2)) (BitVec.ofNat 8 (byteAt bs 0x1A))
  | .route6 => .route (BitVec.ofNat 48 (leAt bs 0x20 6)) (byteAt bs 0x26) (BitVec.ofNat 8 (byteAt bs 0x27)) (BitVec.ofNat 16 (leAt bs 0x28 2)) (BitVec.ofNat 8 (byteAt bs 0x2A))
  | .zone => .zone (BitVec.ofNat 16 (leAt bs 0x10 2)) (byteAt bs 0x12) (BitVec.ofNat 32 (leAt bs 0x14 4))
  | .resv => .resv [intervalAt bs 0x10, intervalAt bs 0x20, intervalAt bs 0x30]
  | .occ => .occ (BitVec.ofNat 48 (leAt bs 0x10 6)) (leAt bs 0x16 2)
  | .spmean => .spmean (signedOf 32 (leAt bs 0x10 4)) (BitVec.ofNat 8 (byteAt bs 0x14))

/-- A written entry from an image: VALID and WRITTEN set, SOURCE 0xFF (R239). An entry is created with HIT set (R227). -/
def writtenOf (d : TableDesc) (bs : Bytes) : LodeEntry :=
  { written := true, hit := true, age := (byteAt bs 0).testBit 4, source := 0xFF, key := keyOfImage d bs, result := resultOfImage d bs }

/-- A window operation ends (R239). -/
def accEnd (r : AccResult) (s : State) : State := raise bLODE 5 { s with lode.accResult := r }

/-- READ (R239). A 32-byte entry uses the buffer's first 32 bytes. -/
def accRead (d : TableDesc) (i : Inst) (s : State) : State :=
  match findKey i (keyOfImage d s.lode.buffer) with
  | some x => accEnd .done { s with lode.buffer := entryBytes d (flapSettled s x.2) ++ (padTo 64 s.lode.buffer).drop d.entryBytes }
  | none => accEnd .notFound s

/-- Tables that only the grid writes (R240). -/
def gridTable (d : TableDesc) : Bool := d.content == .zone || d.content == .resv || d.content == .occ

/-- WRITE (R239, R240). -/
def accWrite (d : TableDesc) (s : State) : State :=
  if gridTable d then accEnd .denied s
  else match writeEntry d (writtenOf d s.lode.buffer) s with
    | some s' => accEnd .done s'
    | none => accEnd .tableFull (tableFull d (drawn64 s))

/-- DELETE (R239, R240): a written entry in every instance, a learned one in the instance that PIPE names. -/
def accDelete (d : TableDesc) (i : Inst) (s : State) : State :=
  let k := keyOfImage d s.lode.buffer
  if gridTable d then accEnd .denied s
  else match (instsOf s d.id).findSome? (fun j => (findKey j k).filter (fun x => x.2.written)), findKey i k with
    | some _, _ => accEnd .done (deleteWritten d k s)
    | none, some _ => accEnd .done (removeKey d k (fun j => j.pipe == i.pipe) s)
    | none, none => accEnd .notFound s

/-- READ_AT (R239, R212): the bucket b of an instance lies in its bank b mod n at row b div n. A bucket of the length filter holds
no table entry, so that VALID reads clear; a bank outside the instance answers NOT_FOUND (DESIGN CHOICE, assumption log 14). -/
def accReadAt (d : TableDesc) (i : Inst) (bank row slot : Nat) (s : State) : State :=
  match i.banks.findIdx? (· == bank) with
  | none => accEnd .notFound { s with lode.buffer := padTo 64 [] }
  | some j =>
    match i.entries.find? (fun x => x.1 == (row * i.banks.length + j, slot)) with
    | some x => accEnd .done { s with lode.buffer := entryBytes d (flapSettled s x.2) ++ (padTo 64 s.lode.buffer).drop d.entryBytes }
    | none => accEnd .done { s with lode.buffer := padTo 64 [] }

/-- A write of LODE_ACC_CTRL with GO (R239): the second of two GO writes of one cycle finds the first under way, and is refused
with BUSY (R241). -/
def lodeAcc (op : Nat) (t : Nat) (pipe same : Bool) (s : State) : State :=
  match tableDesc s t with
  | none => accEnd .badTable s
  | some d =>
    if same then { s with lode.accResult := .busy }
    else if op = 1 then accWrite d s
    else match inst s t pipe with
      | none => accEnd .badTable s
      | some i =>
        if op = 0 then accRead d i s
        else if op = 2 then accDelete d i s
        else
          let w := regWord s 0x050034
          accReadAt d i (fld w 21 16) (fld w 15 3) (fld w 2 0) s

/-- LODE_READ (R239). -/
def execLodeRead (table : Fin 64) (pipe same : Bool) (s : State) : Out := .next (bus s (lodeAcc 0 table.val pipe same))

/-- LODE_WRITE (R239, R240). -/
def execLodeWrite (table : Fin 64) (same : Bool) (s : State) : Out := .next (bus s (lodeAcc 1 table.val false same))

/-- LODE_DELETE (R239, R240). -/
def execLodeDelete (table : Fin 64) (pipe same : Bool) (s : State) : Out := .next (bus s (lodeAcc 2 table.val pipe same))

/-- READ_AT (R239). -/
def execReadAt (table : Fin 64) (pipe same : Bool) (s : State) : Out := .next (bus s (lodeAcc 3 table.val pipe same))

/-- A logical bank. -/
def bank (s : State) (n : Nat) : Bank := nth s.lode.banks n {}

/-- A logical bank changed. -/
def setBank (n : Nat) (f : Bank → Bank) (s : State) : State := { s with lode.banks := lmod s.lode.banks n f }

/-- The logical bank that a physical one stands behind. -/
def logicalOf (s : State) (phys : Nat) : Option Nat := s.lode.banks.findIdx? (fun (b : Bank) => b.phys == phys && b.owner != 0xFF)

/-- Spare physical banks in the order they are taken (R236). -/
def sparesNow (s : State) : List Nat :=
  ([64, 65] ++ (s.lode.banks.filter (fun (b : Bank) => b.owner == 0xFF)).map Bank.phys).filter
    (fun p => !s.lode.retired.contains p && !s.lode.banks.any (fun (b : Bank) => b.phys == p && b.owner != 0xFF))

/-- An instance that has lost one of its banks: the bank's learned entries are gone, and its written entries stand in the written
copy until the restore puts them back (R224, R237, R238). -/
def Inst.loseBank (copy : List (Nat × LodeEntry)) (n : Nat) (i : Inst) : Inst :=
  match i.banks.findIdx? (· == n) with
  | some j =>
    let mine (x : (Nat × Nat) × LodeEntry) : Bool := decide (x.1.1 % i.banks.length = j)
    let lost := (i.entries.filter (fun x => mine x && x.2.written)).map (fun x =>
      (x.1, match copy.find? (fun c => c.1 == i.table && c.2.key == x.2.key) with | some c => c.2 | none => x.2))
    { i with entries := i.entries.filter (fun x => !mine x), lost := lost.foldl (fun l x => putAt x.1 x.2 l) i.lost }
  | none => i

/-- A logical bank loses its contents (R237). -/
def loseBankEntries (n : Nat) (s : State) : State := { s with lode.insts := s.lode.insts.map (Inst.loseBank s.lode.copy n) }

/-- A spare takes a retired bank's place; a table bank then waits for its restore (R236, R238). -/
def swapBank (n spare : Nat) (s : State) : State :=
  let t := (bank s n).owner != 0xFE
  let old := (bank s n).phys
  let s := if t then loseBankEntries n s else s
  let s := setBank n (fun b => { b with phys := spare, state := if t then .restoring else .active }) s
  raise bLODE 3 { s with lode := { s.lode with
    retired := s.lode.retired ++ [old], restoring := if t then s.lode.restoring ++ [n] else s.lode.restoring } }

/-- An instance with the written entries of a bank back in the buckets and slots they had (R214, R238). -/
def Inst.restoreBank (n : Nat) (i : Inst) : Inst :=
  match i.banks.findIdx? (· == n) with
  | some j =>
    let mine (x : (Nat × Nat) × LodeEntry) : Bool := decide (x.1.1 % i.banks.length = j)
    { i with entries := (i.lost.filter mine).foldl (fun l x => putAt x.1 x.2 l) i.entries, lost := i.lost.filter (fun x => !mine x) }
  | none => i

/-- The restore of a bank is done: the written entries of its tables stand in their instances again (R238). -/
def restoreBank (n : Nat) (s : State) : State :=
  if ¬ s.lode.restoring.contains n then s
  else
    let s := { s with lode.restoring := s.lode.restoring.filter (· != n) }
    let s := setBank n (fun b => { b with state := .active }) s
    raise bLODE 4 { s with lode.insts := s.lode.insts.map (Inst.restoreBank n) }

/-- RESTORE_DONE (R238). -/
def execRestoreDone (logical : Fin 64) (s : State) : Out := .next (bus s (restoreBank logical.val))

end Sys2Proof.Machine
end

