-- ==== Sys2Proof/Machine/Strata.lean ====
section
/-! DEFINITION. Strata.lean: storing records in drift, bedrock and cairn, summaries and clears (19_strata_recorder.md). -/

namespace Sys2Proof.Machine

open Sys2Proof

/-- STRATA's block index. -/
def bSTRATA : Nat := 0x11

/-- The value that a selector takes from a record, unsigned or two's complement (R547). -/
def sumValue (sel : StSel) (e : StEvent) : Int :=
  let w := if sel.pflags.toNat % 4 = 0 then e.p0 else if sel.pflags.toNat % 4 = 1 then e.p1 else e.p2
  if sel.pflags.toNat.testBit 2 then w.toInt else w.toNat

/-- A summary's BASE as SIGNED reads it. -/
def sumBase (sel : StSel) : Int := if sel.pflags.toNat.testBit 2 then sel.base.toInt else sel.base.toNat

/-- A summary that holds nothing (R547). -/
def emptySum (sel : StSel) : StSum :=
  if sel.pflags.toNat.testBit 2 then { count := 0, min := 0x7FFFFFFF, max := 0x80000000, bins := List.replicate 32 0 }
  else { count := 0, min := 0xFFFFFFFF, max := 0, bins := List.replicate 32 0 }

/-- Bin of a value (R547). -/
def sumBin (sel : StSel) (v : Int) : Nat :=
  let d := v - sumBase sel
  if d < 0 then 0 else min 31 (d.toNat >>> sel.shift)

/-- A saturating 32-bit increment. -/
def satInc (w : BitVec 32) : BitVec 32 := if w = 0xFFFFFFFF then w else w + 1

/-- MIN or MAX of a summary as the selector reads it. -/
def sumLimit (sel : StSel) (w : BitVec 32) : Int := if sel.pflags.toNat.testBit 2 then w.toInt else w.toNat

/-- A summary after a record (R547). -/
def sumAdd (sel : StSel) (e : StEvent) (x : StSum) : StSum :=
  if sel.code ≠ e.code then x
  else
    let v := sumValue sel e
    { count := satInc x.count
      min := if v < sumLimit sel x.min then BitVec.ofInt 32 v else x.min
      max := if sumLimit sel x.max < v then BitVec.ofInt 32 v else x.max
      bins := lmod x.bins (sumBin sel v) satInc }

/-- Summaries after a record. -/
def sumAll (st : Strata) (e : StEvent) : List StSum :=
  (st.sels.zip st.sums).map (fun p => sumAdd p.1 e p.2)

/-- A record but for its CRC (R539). -/
def stBody (r : StRecord) : Bytes :=
  leBytes 2 r.ev.code.toNat ++ leBytes 1 r.ev.source.toNat ++ leBytes 1 r.ev.sev.toNat ++ leBytes 8 r.ev.time.toNat
  ++ leBytes 4 r.ev.p0.toNat ++ leBytes 4 r.ev.p1.toNat ++ leBytes 4 r.ev.p2.toNat ++ leBytes 4 r.seq.toNat

/-- The 32 bytes of a record (R4, R539). -/
def stBytes (r : StRecord) : Bytes := stBody r ++ leBytes 4 (crc32c (stBody r)).toNat

/-- A record in drift and, where its index lies below BEDROCK_N, in bedrock (R544). -/
def storeAreas (r : StRecord) (st : Strata) : Strata :=
  match st.sizes with
  | none => st
  | some (n, lg) =>
    let k := (r.seq - st.bedrockFirst).toNat
    { st with
      drift := kset st.drift (r.seq.toNat % 2 ^ lg) r
      bedrock := if k < n then kset st.bedrock k r else st.bedrock }

/-- Code of an MRAM failure's record (R448, R548). -/
def mramFailure : BitVec 16 := 0x1101

/-- A record in cairn: the MRAM failure stands at index 0 and is kept, and the others are overwritten in turn once it is
full (R548). -/
def storeCairn (r : StRecord) (st : Strata) : Strata :=
  if r.ev.code = mramFailure ∧ st.cairnFirst.isNone then { st with cairnFirst := some r }
  else if st.cairn.length < 511 then { st with cairn := st.cairn ++ [r] }
  else { st with cairn := lmod st.cairn (st.cairnNext % 511) (fun _ => r), cairnNext := st.cairnNext + 1, cairnOver := st.cairnOver + 1 }

/-- RECORD, of a severity at or above SEV_INT (STRATA_CTRL). -/
def recordInt (e : StEvent) (s : State) : State := if regFld s 0x110000 3 0 ≤ e.sev.toNat % 16 then raise bSTRATA 0 s else s

/-- A numbered record in the area that the writer uses (R544, R547, R548). -/
def placeRecord (r : StRecord) (st : Strata) : Strata :=
  if st.inCairn then storeCairn r st else { storeAreas r st with sums := sumAll st r.ev }

/-- A record is written: it takes the next SEQ (R540). -/
def writeRecord (e : StEvent) (s : State) : State :=
  let st := { s.strata with next := s.strata.next + 1 }
  recordInt e { s with strata := placeRecord { ev := e, seq := s.strata.next } st }

/-- An event that the writer itself writes at once. -/
def ownEvent (s : State) (code source sev p0 p1 : Nat) : StEvent :=
  let t := recordTime s
  { code := BitVec.ofNat 16 code, source := BitVec.ofNat 8 source, sev := BitVec.ofNat 8 (sev + 128 * b2n t.2)
    time := BitVec.ofNat 64 t.1, p0 := BitVec.ofNat 32 p0, p1 := BitVec.ofNat 32 p1 }

/-- With room in the queue again, one LOST record gives the events that found none (R542). -/
def lostRecord (s : State) : State :=
  if s.strata.lostDue = 0 then s else note 0x1141 2 s.strata.lostDue 0 0 { s with strata.lostDue := 0 }

/-- The oldest event that the writer can store: none before the first forming lays the areas out (R540, R545). -/
def nextEvent (s : State) : Option StEvent :=
  if s.strata.sizes.isNone ∧ ¬ s.strata.inCairn then none else s.strata.queue.head?

/-- The oldest queued event is stored (R542, R544). -/
def storeNext (s : State) : State :=
  match nextEvent s with
  | none => s
  | some e => lostRecord (writeRecord e { s with strata.queue := s.strata.queue.tail })

/-- EVENT_RECORD (R542): an event of a block enters the writer's queue. -/
def execEventRecord (code : BitVec 16) (source : BitVec 8) (sev : Fin 5) (p0 p1 p2 : Word) (s : State) : Out :=
  .next (record code.toNat source.toNat sev.val p0.toNat p1.toNat p2.toNat s)

/-- A caller that CLEAR accepts (R550). -/
def mayClear (s : State) (a : Access) : Bool :=
  match a.master with
  | .host => trusted s a
  | .core _ => a.mmode
  | _ => false

/-- The areas of a mask cleared at a record boundary; seq is the SEQ of the record that follows (R550). -/
def clearAreas (mask : Nat) (st : Strata) : Strata :=
  { st with
    bedrock := if mask.testBit 0 then [] else st.bedrock
    bedrockFirst := if mask.testBit 0 then st.next else st.bedrockFirst
    drift := if mask.testBit 1 then [] else st.drift
    driftFirst := if mask.testBit 1 then st.next else st.driftFirst
    sums := if mask.testBit 2 then st.sels.map emptySum else st.sums }

/-- CLEAR (R550, R552); same tells that another master's GO stands before this one in the same cycle. -/
def strataClear (a : Access) (mask : Nat) (same : Bool) (s : State) : State :=
  if ¬ mayClear s a then { s with strata.result := .denied }
  else if mask = 0 then { s with strata.result := .badParam }
  else if s.strata.inCairn ∨ same = true then { s with strata.result := .busy }
  else
    let e := ownEvent s 0x1140 a.master.rank 1 mask s.strata.next.toNat
    let s := { s with strata := clearAreas mask { s.strata with result := .done } }
    raise bSTRATA 4 (writeRecord e s)

/-- STRATA_CLEAR (R550). -/
def execStrataClear (who : Access) (mask : BitVec 3) (same : Bool) (s : State) : Out := .next (bus s (strataClear who mask.toNat same))

/-- A summary's 160 bytes (R547). -/
def sumBytes (sel : StSel) (x : StSum) : Bytes :=
  leBytes 2 sel.code.toNat ++ leBytes 1 sel.pflags.toNat ++ leBytes 1 sel.shift ++ leBytes 4 sel.base.toNat
  ++ leBytes 4 x.count.toNat ++ leBytes 4 x.min.toNat ++ leBytes 4 x.max.toNat ++ leBytes 12 0
  ++ x.bins.flatMap (fun b => leBytes 4 b.toNat)

/-- A write of STRATA_SUM_SEL copies a summary into the window, zeros from a number that has none (R547). -/
def sumSelect (k : Nat) (s : State) : State :=
  let s := setReg 0x11002C (BitVec.ofNat 32 k) s
  { s with strata.window :=
      if k < s.strata.sumCount then padTo 160 (sumBytes (nth s.strata.sels k {}) (nth s.strata.sums k {})) else List.replicate 160 0 }

/-- SUM_SELECT (R547). -/
def execSumSelect (k : Fin 64) (s : State) : Out := .next (bus s (sumSelect k.val))

/-- The writer turns to cairn (R548). -/
def toCairn (s : State) : State :=
  if s.strata.inCairn then s
  else raise bSTRATA 1 { s with strata := { s.strata with inCairn := true, cairnFirst := none, cairn := [], cairnNext := 0, cairnOver := 0 } }

/-- A fault record (R551). The MRAM's own goes straight to index 0 of cairn when the writer has turned there (R548). -/
def faultRecord (code sev p0 p1 : Nat) (s : State) : State :=
  if BitVec.ofNat 16 code = mramFailure ∧ s.strata.inCairn ∧ s.strata.cairnFirst.isNone then writeRecord (ownEvent s code srcSelf sev p0 p1) s
  else note code sev p0 p1 0 s

/-- The records held in cairn, oldest first. -/
def cairnRecords (st : Strata) : List StRecord :=
  sortBy (fun a b => decide ((st.next - b.seq).toNat ≤ (st.next - a.seq).toNat)) (st.cairnFirst.toList ++ st.cairn)

/-- The writer returns to the MRAM: cairn's records go to drift and bedrock in SEQ order and into the summaries (R549). -/
def leaveCairn (s : State) : State :=
  if ¬ s.strata.inCairn then s
  else
    let l := cairnRecords s.strata
    let st := l.foldl (fun st r => placeRecord r st) { s.strata with inCairn := false }
    let lost := s.strata.cairnOver
    let s := { s with strata := { st with cairnFirst := none, cairn := [], cairnNext := 0, cairnOver := 0 } }
    note 0x1142 2 l.length lost 0 (raise bSTRATA 2 s)

/-- A forming applies the STRATA gather: changed sizes clear the areas and write SIZE_CHANGED first; a changed selector
zeroes its summary (R543, R545). -/
def strataForm (n lg cnt : Nat) (sels : List StSel) (s : State) : State :=
  let old := s.strata
  let sums := (List.range cnt).map (fun k =>
    let x := nth sels k {}
    if k < old.sumCount ∧ nth old.sels k {} = x then nth old.sums k (emptySum x) else emptySum x)
  let s := { s with strata := { old with sumCount := cnt, sels := sels.take cnt, sums := sums } }
  if old.sizes = some (n, lg) then s
  else
    let e := ownEvent s 0x1143 srcSelf 1 n lg
    writeRecord e { s with strata := clearAreas 7 { s.strata with sizes := some (n, lg) } }

end Sys2Proof.Machine
end

