-- ==== Sys2Proof/Machine/SwitchIn.lean ====
section
/-! DEFINITION. SwitchIn.lean: the packet switch's ingress: the parser walk, learning, routing, bridging and the egress
copies (12_packet_switch.md R380 to R389, R396). A frame's bytes run from its header to its FCS. -/

namespace Sys2Proof.Machine

open Sys2Proof

/-- A frame less its FCS. -/
def lessFcs (bs : Bytes) : Bytes := bs.take (bs.length - 4)

/-- The FCS of a frame is right. -/
def fcsGood (bs : Bytes) : Bool := 4 ≤ bs.length && bs == withFcs (lessFcs bs)

/-- What a parser walk found (R382, R383): ACTIONS of the nodes visited, and where the marked headers begin. -/
structure Parsed where
  acts : Nat := 0
  l2   : Option Nat := none
  vlan : Option Nat := none
  ip   : Option (Nat × Bool) := none
  deriving DecidableEq, Repr

/-- A node visited at an offset: its actions, and the first header of each mark (assumption log 18). -/
def Parsed.visit (x : Parsed) (acts ofs : Nat) : Parsed :=
  { acts := x.acts ||| acts
    l2 := if acts.testBit 0 then x.l2.orElse (fun _ => some ofs) else x.l2
    vlan := if acts.testBit 1 then x.vlan.orElse (fun _ => some ofs) else x.vlan
    ip := if acts.testBit 2 then x.ip.orElse (fun _ => some (ofs, false))
          else if acts.testBit 3 then x.ip.orElse (fun _ => some (ofs, true)) else x.ip }

/-- The next node (R382): the first transition of the node that matches, else DEFAULT. -/
def parseNext (g : ParseGraph) (n : Nat) (node : ParseNode) (sel : Nat) : Nat :=
  match g.trans.find? (fun t => t.from_ == n && (sel &&& t.mask.toNat) == t.value.toNat) with
  | some t => t.next
  | none => node.default_

/-- The parser walk from a node, over at most k more nodes (R382): none is PARSE_DROP. -/
def parseGo (g : ParseGraph) (bs : Bytes) : Nat → Nat → Nat → Parsed → Option Parsed
  | 0, _, _, _ => none
  | k + 1, n, ofs, x =>
    let node := nth g.nodes n {}
    let y := x.visit node.actions.toNat ofs
    if node.endNode then some y
    else
      let len := node.len + (byteAt bs (ofs + node.lenOfs) &&& node.lenMask.toNat) * node.lenScale
      let sel := beAt bs (ofs + node.selOfs) node.selBytes
      if 255 < ofs + len then none else parseGo g bs k (parseNext g n node sel) (ofs + len) y

/-- The walk of a graph over the first 256 bytes of a frame. -/
def parseFrame (g : ParseGraph) (bs : Bytes) : Option Parsed := parseGo g (bs.take 256) 16 g.start 0 {}

/-- The ingress pipeline of a port (R205): true for pipeline 1. -/
def pipeOf (p : Nat) : Bool := decide (4 ≤ p ∧ p < 12)

/-- A frame on its way through the ingress pipeline. -/
structure InFrame where
  port : Nat := 0
  pipe : Bool := false
  bytes : Bytes := []
  parse : Parsed := {}
  vid : Nat := 0
  pcp : Nat := 0
  tagged : Bool := false
  stamp : Option Nat := none
  noLearn : Bool := false
  /-- What a transmit command asked (R387). -/
  launch : Option (BitVec 64) := none
  tsReq : Bool := false
  oneStep : Bool := false
  deriving DecidableEq, Repr

/-- Where a frame's Ethernet header begins. -/
def InFrame.l2 (f : InFrame) : Nat := f.parse.l2.getD 0

/-- One egress copy (R384, R385): port, queue of the result or none under the class rule, consumer mark, frame. -/
structure Copy where
  port : Nat
  queue : Option Nat := none
  mark : Mark := .none
  flooded : Bool := false
  routed : Bool := false
  bytes : Bytes
  deriving DecidableEq, Repr

/-- The key of a MAC lookup (R220): six address bytes and a VID. -/
def macKey (addr : Bytes) (vid : Nat) : LodeKey := { len := 0, val := leNat (padTo 6 addr) + vid * 2 ^ 48 }

/-- The queue that a result's QUEUE field names; 0xFF is the class rule (R220, R385). -/
def resQueue (q : BitVec 8) : Option Nat := if q.toNat = 0xFF then none else some (q.toNat % 32)

/-- The source at its limit would gain an entry (R232, R234): the excess policy applies to the frame. A table without learning has
no excess (R209); where LEARN_EN is off the instance takes no request, so that no excess arises (DEDUCED, assumption log 14). -/
def sourceExcess (s : State) (d : TableDesc) (pipe : Bool) (k : LodeKey) (src : Nat) : Bool :=
  match inst s d.id pipe with
  | none => false
  | some i =>
    learns d && decide (learnLimit s d ≤ learnedBy i src) &&
    (match findKey (i.flaps s) k with
     | none => true
     | some x => !x.2.written && x.2.source != src && !x.2.flapping)

/-- The source lookup in the pipeline's MAC table, its learn request, and the excess policy (R230, R234, R384): true discards the
frame. -/
def sourceOne (f : InFrame) (k : LodeKey) (d : TableDesc) (s : State) : Bool × State :=
  let hit := sourceExcess s d f.pipe k f.port && learnEn s f.pipe
  let s := countLookup f.pipe (exactLookup s d.id f.pipe k).isNone s
  let s := learn { table := d.id, pipe := f.pipe, key := k, source := f.port, result := .mac (BitVec.ofNat 16 (2 ^ f.port)) 0xFF 0 } s
  if hit then (d.excess == .drop, excess d f.pipe f.port s) else (false, s)

/-- The source lookup and the learn request of a frame (R384, R230). -/
def sourceLookup (f : InFrame) (s : State) : Bool × State :=
  match tableFor s .mac f.pipe with
  | some d => sourceOne f (macKey (bytesAt f.bytes (f.l2 + 6) 6) f.vid) d s
  | none => (false, s)

/-- The checksum word that follows a change of one 16-bit word of an IPv4 header. -/
def ipChecksum (hc old new : Nat) : Nat :=
  let a := (0xFFFF - hc) + (0xFFFF - old) + new
  let b := a % 65536 + a / 65536
  0xFFFF - (b % 65536 + b / 65536)

/-- An IP packet with its TTL or hop limit one lower, and the IPv4 checksum updated (R384). -/
def ipHop (ip : Bytes) (v6 : Bool) : Bytes :=
  if v6 then ip.take 7 ++ leBytes 1 (byteAt ip 7 - 1) ++ ip.drop 8
  else
    let old := beAt ip 8 2
    ip.take 8 ++ beBytes 2 (old - 256) ++ beBytes 2 (ipChecksum (beAt ip 10 2) old (old - 256)) ++ ip.drop 12

/-- TTL or hop limit. -/
def ipTtl (ip : Bytes) (v6 : Bool) : Nat := if v6 then byteAt ip 7 else byteAt ip 8

/-- Destination address, as the key of a route lookup. -/
def ipDest (ip : Bytes) (v6 : Bool) : Nat := if v6 then beAt ip 24 16 else beAt ip 16 4

/-- A port's MAC address as it stands on the wire. -/
def portMac (s : State) (p : Nat) : Bytes := beBytes 6 (portCfg s p).mac.toNat

/-- A routed frame (R384): DA, SA, the tag of the result's VID, and the packet one hop on. -/
def routedFrame (s : State) (f : InFrame) (nh : BitVec 48) (port : Nat) (vid : BitVec 16) (ofs : Nat) (v6 : Bool) : Bytes :=
  let v := vid.toNat % 4096
  let tag := if v = 0 then [] else beBytes 2 0x8100 ++ beBytes 2 (f.pcp * 8192 + v)
  withFcs (leBytes 6 nh.toNat ++ portMac s port ++ tag ++ beBytes 2 (if v6 then 0x86DD else 0x0800)
    ++ ipHop (lessFcs (f.bytes.drop ofs)) v6)

/-- Step 5 of R384: the copies that ACTIONS and the result's TO_HOST add to those of the lookup. -/
def addedCopies (f : InFrame) (bs : Bytes) (toHost : Option (Option Nat)) (routed : Bool) (l : List Copy) : List Copy :=
  let act := f.parse.acts
  let has (p : Nat) : Bool := l.any (fun c => c.port == p)
  let host : List Copy :=
    if has 12 then []
    else match toHost with
      | some q => [{ port := 12, queue := q, routed := routed, bytes := bs }]
      | none => if act.testBit 7 then [{ port := 12, routed := routed, bytes := bs }] else []
  l ++ host
    ++ (if act.testBit 6 ∧ ¬ has 13 then [{ port := 13, routed := routed, bytes := bs }] else [])
    ++ (if act.testBit 5 then [{ port := 15, mark := .rtk, routed := routed, bytes := bs }] else [])
    ++ (if act.testBit 10 then [{ port := 15, mark := .setpt, routed := routed, bytes := bs }] else [])

/-- A mask less the ingress port, as copies. -/
def maskCopies (f : InFrame) (mask : Nat) (queue : Option Nat) (flooded : Bool) : List Copy :=
  ((List.range 16).filter (fun p => mask.testBit p && p != f.port)).map
    (fun p => { port := p, queue := queue, flooded := flooded, bytes := f.bytes })

/-- What forwarding decides: the egress copies. -/
abbrev Fwd := List Copy × State

/-- Steps 4 and 5 of R384: bridging by DA and VID. -/
def bridge (f : InFrame) (s : State) : Fwd :=
  let flood := maskCopies f (portCfg s f.port).floodMask.toNat none true
  let hit := match tableFor s .mac f.pipe with
    | some d => (exactLookup s d.id f.pipe (macKey (bytesAt f.bytes f.l2 6) f.vid)).map (flapSettled s)
    | none => none
  let s := countLookup f.pipe hit.isNone s
  match hit with
  | none => (addedCopies f f.bytes none false flood, s)
  | some e =>
    if e.flapping then (addedCopies f f.bytes none false flood, s)
    else match e.result with
      | .mac mask q flags =>
        if flags.toNat.testBit 0 then ([], bumpPort f.port 9 s)
        else (addedCopies f f.bytes (if flags.toNat.testBit 1 then some (resQueue q) else none) false
          (maskCopies f mask.toNat (resQueue q) false), s)
      | _ => (addedCopies f f.bytes none false flood, s)

/-- A route hit (R384 steps 3 and 5). -/
def routeHit (f : InFrame) (ofs : Nat) (v6 : Bool) (r : LodeResult) (s : State) : Fwd :=
  match r with
  | .route nh port q vid flags =>
    if ipTtl (f.bytes.drop ofs) v6 ≤ 1 then ([{ port := 13, bytes := f.bytes }], bumpPort f.port 10 s)
    else if flags.toNat.testBit 0 then ([], bumpPort f.port 9 s)
    else
      let bs := routedFrame s f nh port vid ofs v6
      let c : Copy := { port := port, queue := resQueue q, routed := true, bytes := bs }
      (addedCopies f bs (if flags.toNat.testBit 1 then some (resQueue q) else none) true [c], s)
  | _ => ([], bumpPort f.port 8 s)

/-- Step 3 of R384: routing. -/
def route (f : InFrame) (ofs : Nat) (v6 : Bool) (s : State) : Fwd :=
  let hit := match tableFor s (if v6 then .route6 else .route4) f.pipe with
    | some d => lpmLookup s d.id f.pipe (ipDest (f.bytes.drop ofs) v6)
    | none => none
  let s := countLookup f.pipe hit.isNone s
  match hit with
  | none => ([], bumpPort f.port 8 s)
  | some e => routeHit f ofs v6 e.result s

/-- Steps 2 to 5 of R384. -/
def forward (f : InFrame) (s : State) : Fwd :=
  let r := if f.parse.acts.testBit 8 ∨ f.noLearn then (false, s) else sourceLookup f s
  if r.1 then ([], r.2)
  else match f.parse.ip with
    | some (ofs, v6) =>
      if bytesAt f.bytes f.l2 6 = portMac r.2 f.port then route f ofs v6 r.2 else bridge f r.2
    | none => bridge f r.2

/-- The frame of a copy as its queue holds it. -/
def copyFrame (f : InFrame) (c : Copy) : QFrame :=
  { bytes := c.bytes, inPort := f.port, mark := c.mark, tsValid := f.stamp.isSome,
    rxTime := BitVec.ofNat 64 (f.stamp.getD 0), flooded := c.flooded, routed := c.routed, pipe := f.pipe,
    vid := BitVec.ofNat 12 f.vid, pcp := f.pcp, tagged := f.tagged, launch := f.launch, tsReq := f.tsReq,
    oneStep := f.oneStep, ptp := f.parse.acts.testBit 4 }

/-- The queue of a copy: the result's, or the egress port's for the PCP under the class rule (R385). -/
def copyQueue (s : State) (f : InFrame) (c : Copy) : Nat :=
  match c.queue with
  | some q => q
  | none => nth (portCfg s c.port).pcpMap f.pcp 0

/-- Copies offered to their queues, each on its own (R396); the refusal causes, 0 for an admitted copy. -/
def offerGo (f : InFrame) : List Copy → State → List Nat × State
  | [], s => ([], s)
  | c :: l, s =>
    let q := copyQueue s f c
    let g := copyFrame f c
    let r := refusal s c.port q g
    let t := offerGo f l (enqueueFrame c.port q g s)
    (r :: t.1, t.2)

/-- A frame parsed: its tag, or the ingress port's default (R383). -/
def withTag (s : State) (f : InFrame) (x : Parsed) : InFrame :=
  match x.vlan with
  | some o => { f with parse := x, vid := beAt f.bytes o 2 % 4096, pcp := beAt f.bytes o 2 / 8192, tagged := true }
  | none => { f with parse := x, vid := (portCfg s f.port).defVid.toNat, pcp := (portCfg s f.port).defPcp }

/-- The parser graph of a port's pipeline (R381). -/
def graphOf (s : State) (p : Nat) : ParseGraph := if pipeOf p then s.switch.graph1 else s.switch.graph0

/-- A frame through the ingress pipeline of its port (R382 to R385): the refusal causes of its copies. -/
def ingress (f : InFrame) (s : State) : List Nat × State :=
  match parseFrame (graphOf s f.port) f.bytes with
  | none => ([], bumpPort f.port 7 s)
  | some x =>
    if x.acts.testBit 9 then ([], bumpPort f.port 9 s)
    else
      let f := withTag s { f with pipe := pipeOf f.port } x
      let r := forward f s
      offerGo f r.1 r.2

/-- Lookups are held: a bank of a table is under its self-test (R235). -/
def lookupsHeld (s : State) : Bool := s.lode.banks.any (fun (b : Bank) => b.state == .testing && b.owner != 0xFE)

/-- A frame comes to the ingress pipeline: its lookups are made, or held in order of arrival (R235). -/
def arrive (p : Nat) (bs : Bytes) (stamp : Option Nat) (s : State) : State :=
  if lookupsHeld s then { s with switch.heldIn := s.switch.heldIn ++ [(p, bs, stamp)] }
  else (ingress { port := p, bytes := bs, stamp := stamp } s).2

/-- The held lookups complete after the test, in the order in which they arrived (R235). -/
def releaseHeld (s : State) : State :=
  if lookupsHeld s then s
  else s.switch.heldIn.foldl (fun s x => (ingress { port := x.1, bytes := x.2.1, stamp := x.2.2 } s).2) { s with switch.heldIn := [] }

/-- The timestamp of a received PTP event frame: served time when its first bit after the delimiter stood at the balls,
one frame time before now; at an internal port, now (R122, R123). -/
def rxStamp (s : State) (p : Nat) (bs : Bytes) : Option Nat :=
  match parseFrame (graphOf s p) bs with
  | some x =>
    if x.acts.testBit 4 ∧ (portCfg s p).tsEn then
      some (if p < 12 then macStamp s p (portRate s p) true (now s - wirePs s p bs.length / 1000) else now s)
    else none
  | none => none

/-- A frame counted as received at a port. -/
def countRx (p n : Nat) (s : State) : State := bumpBy 0x0A0024 (1 + 16 * p) n (bumpPort p 0 s)

/-- A frame that a block of the part sends into the switch at an internal port. -/
def injectFrame (p : Nat) (bs : Bytes) (s : State) : State :=
  if portUp s p then
    arrive p (withFcs bs) (rxStamp s p (withFcs bs)) (countRx p (bs.length + 4) s)
  else s

/-- PAUSE or priority-based flow control (R380): MAC control frames of opcode 0x0001 or 0x0101. -/
def pauseFrame (bs : Bytes) : Bool := beAt bs 12 2 == 0x8808 && (beAt bs 14 2 == 0x0001 || beAt bs 14 2 == 0x0101)

/-- A length the ingress port takes (R378). -/
def lengthOk (s : State) (p : Nat) (bs : Bytes) : Bool := 64 ≤ bs.length && bs.length ≤ (portCfg s p).maxLen

/-- A frame whole at an external port (R384, R380): bad FCS, bad length and pause frames are discarded and counted. -/
def frameIn (p : Nat) (bs : Bytes) (s : State) : State :=
  if ¬ portUp s p then s
  else if ¬ fcsGood bs then bumpPort p 4 s
  else if ¬ lengthOk s p bs then bumpPort p 5 s
  else
    let s := countRx p bs.length s
    if pauseFrame bs then bumpPort p 6 s
    else arrive p bs (rxStamp s p bs) s

/-- FRAME_INGRESS (R384). -/
def execFrameIngress (port : Fin 12) (bytes : Bytes) (s : State) : Out := .next (bus s (frameIn port.val bytes))

/-- The transmit metadata of a TX_FRAME entry (R387, R491). -/
def txMeta (e : CmdEntry) (o n : Nat) : Nat := leAt e.raw (0x20 + o) n

/-- A frame of a TX_FRAME whose OUT_PORT names a port (R387): parsed for its marks, and offered to that port alone. -/
def txDirect (f : InFrame) (outPort queue : Nat) (s : State) : List Nat × State :=
  match parseFrame (graphOf s f.port) f.bytes with
  | none => ([], bumpPort f.port 7 s)
  | some x =>
    if 16 ≤ outPort ∨ (32 ≤ queue ∧ queue ≠ 0xFF) then ([11], s)
    else
      offerGo (withTag s f x) [{ port := outPort, queue := if queue = 0xFF then none else some queue, bytes := f.bytes }] s

/-- A transmit frame offered to the switch (R387, R491): the refusal causes of its copies. -/
def txOffer (p : Nat) (e : CmdEntry) (bytes : Bytes) (s : State) : List Nat × State :=
  let bs := padTo (txMeta e 0 2) bytes
  let flags := txMeta e 4 2
  let f : InFrame := { port := p, bytes := bs, stamp := rxStamp s p bs, noLearn := flags.testBit 3, tsReq := flags.testBit 1,
                       launch := if flags.testBit 0 then some (BitVec.ofNat 64 (txMeta e 8 8)) else none
                       oneStep := flags.testBit 2 }
  if ¬ portUp s p then ([6], s)
  else if ¬ lengthOk s p bs then ([], bumpPort p 5 s)
  else if txMeta e 2 1 = 0xFF then ingress f (countRx p bs.length s)
  else txDirect f (txMeta e 2 1) (txMeta e 3 1) (countRx p bs.length s)

/-- RESULT of a TX_FRAME (R496): DONE, or the last cause when every copy is refused (assumption log 18). -/
def txResult (l : List Nat) : Nat :=
  if l = [] ∨ l.any (· == 0) then 1 else 0x80 + l.getLastD 0

/-- TX_FRAME (R491, R492): the frame is read from ADDR and admitted or refused; it waits while lookups are held. -/
def execTxFrame (n : Fin 16) (bytes : Bytes) (s : State) : Out :=
  .next (bus s fun s =>
    match frontEntry s n.val with
    | some e =>
      if entryCheck e = 0 ∧ e.target = 0x0A ∧ e.op = 1 ∧ lookupsHeld s = false then
        let r := txOffer (if (cq s n.val).owner = 1 then 12 else 13) e bytes s
        finishEntry n.val { result := txResult r.1 } r.2
      else s
    | none => s)

end Sys2Proof.Machine
end

