-- ==== Sys2Proof/Machine/Fault.lean ====
section
/-! DEFINITION. Fault.lean: error classes, targeted self-tests, retirement, yield requests, resuming and injection
(14_faults_recovery.md). -/

namespace Sys2Proof.Machine

open Sys2Proof

/-- Fault code of a resource's error (R439, R448). -/
def faultCode : ResKind → Nat
  | .correlator => 0x0301 | .fp64 => 0x0401 | .search => 0x0402 | .filterRead => 0x0403 | .lodeBank => 0x0501
  | .allocator => 0x0601 | .setpt => 0x0701 | .chain => 0x0801 | .quench => 0x0901 | .internalLink => 0x0A01
  | .express => 0x0A02 | .frauri => 0x0B01 | .core => 0x0D01 | .queuePtr => 0x0E01 | .queueSram => 0x0E02
  | .mram => 0x1101 | .ref10 => 0x0001 | .lockstep => 0x0002 | .rawCounter => 0x0201 | .faultCtl => 0x0C01

/-- Errors of R439. -/
def fatalKind : ResKind → Bool
  | .ref10 | .lockstep | .rawCounter | .faultCtl => true
  | _ => false

/-- Errors that a good re-send corrects (R448). -/
def resendKind : ResKind → Bool
  | .lodeBank | .internalLink | .frauri => true
  | _ => false

/-- Errors without a self-test (R436). -/
def noTest : ResKind → Bool
  | .filterRead | .queuePtr => true
  | _ => false

/-- Targets of host commands that address the block that owns a resource (R442). -/
def blockTargets : ResKind → List Nat
  | .allocator => [0x06]
  | .setpt => [0x07]
  | .express | .internalLink => [0x0A]
  | .queueSram | .queuePtr => [0x0E]
  | _ => []

/-- Where a kind's resources begin in the numbering of their block: in the order of R438, filter states after them. No rule
numbers the resources of a block that has several kinds (DESIGN CHOICE, assumption log 26). -/
def resBase : ResKind → Nat
  | .search => 16 | .filterRead => 17 | .internalLink => 1 | .queuePtr => 4 | _ => 0

/-- RESOURCE of an error: the index within the block, and 0xFF for an error of R439, which has no resource of R438. -/
def resIndex (k : ResKind) (i : Nat) : Nat := if fatalKind k then 0xFF else resBase k + i

/-- CLASS codes (R446). -/
def classCode : FaultClass → Nat
  | .corrected => 0 | .transient => 1 | .lasting => 2 | .fatal => 3

/-- Severity of a fault record (R551). -/
def classSev : FaultClass → Nat
  | .corrected => 2 | .transient => 3 | .lasting => 3 | .fatal => 4

/-- A chain whose loss is critical (R347). -/
def criticalChain (s : State) (c : Nat) : Bool := (chain s c).cfg.beaconDiv == 1 || (chain s c).cfg.gang

/-- A resource is critical with no spare left (R438, R440). -/
def critical (s : State) (k : ResKind) (i : Nat) : Bool :=
  match k with
  | .lodeBank => (sparesNow s).isEmpty
  | .express | .internalLink | .search | .allocator | .setpt => true
  | .fp64 => decide (4 ≤ s.rtk.lanesRetired)
  | .chain => criticalChain s i
  | .quench => decide (1 ≤ retiredChs s)
  | _ => false

/-- A yield is requested (R413, R438): in a mode that has one (R78). -/
def yieldRequest (s : State) : State :=
  match s.sys.mode with
  | .reset | .forming | .dormant | .yielded => s
  | _ => raise bFAULT 4 (bump 0x0C0044 6 (yieldUnit srcSelf s))

/-- An error classed: counter, interrupt, FAULT_LAST and record (R435, R551). -/
def classCount (c : FaultClass) (res code : Nat) (esc first : Bool) (t : BitVec 64) (s : State) : State :=
  let s := bump 0x0C0044 (classCode c) s
  let s := if esc then bump 0x0C0044 4 s else s
  let s := raise bFAULT (if c = .corrected then 0 else if c = .transient then 1 else 2) s
  let s := if c = .corrected then s else
    { s with fault := { s.fault with
      lastCode := BitVec.ofNat 16 code, lastRes := BitVec.ofNat 8 res, lastEscalated := esc, lastYieldFirst := first, lastClass := c, lastTime := t } }
  faultRecord code (classSev c) (classCode c + 32 * b2n first + 64 * b2n esc) res s

/-- An error that follows from others, LASTING: spares exhausted, a second quench channel, a claim conflict (R448). -/
def consequence (code res : Nat) (s : State) : State := classCount .lasting res code false false (BitVec.ofNat 64 (now s)) s

/-- A resource's error classed (R435). -/
def classify (k : ResKind) (i : Nat) (c : FaultClass) (esc first : Bool) (t : BitVec 64) (s : State) : State :=
  let s := setRes { resOf s k i with code := BitVec.ofNat 16 (faultCode k) } s
  classCount c (resIndex k i) (faultCode k) esc first t s

/-- The Frauri link leaves its state; open groups and a snapshot under way are lost with it (R415, R425). -/
def leaveLink (dst : LinkState) (s : State) : State :=
  let was := s.twin.link
  let n := if s.twin.open_ = [] then 0 else 1
  let s := { s with twin := { s.twin with
    link := dst, open_ := [], snapshot := [], groups := [],
    pair := if s.twin.pair = .alone then .alone else .unpaired } }
  let s := bumpBy 0x0B0034 6 n (frReset s)
  if was = .up ∧ dst ≠ .up then raise 0x0B 1 (bump 0x0B0034 4 s) else s

/-- Correlator block of a channel (R140). -/
def corrBlock (ch : Nat) : Nat := ch / 32

/-- A channel's block is retired, or in DUAL that of its pair partner (R151). -/
def blockRetired (retired : BitVec 16) (aOnly : Bool) (n : Nat) : Bool :=
  retired.toNat.testBit (corrBlock n) || (!aOnly && retired.toNat.testBit ((corrBlock n + 8) % 16))

/-- Channels of a correlator block changed. -/
def blockChannels (b : Nat) (f : Channel → Channel) (s : State) : State :=
  { s with gnss.chans := s.gnss.chans.map (fun p => (p.1, if corrBlock p.1 = b then f p.2 else p.2)) }

/-- Channels that a retired block takes out of service (R151). -/
def retireChans (s : State) : State :=
  { s with gnss.chans := s.gnss.chans.map (fun p =>
      (p.1, if blockRetired s.gnss.retired s.gnss.cfg.aOnly p.1 then { p.2 with state := .retired } else p.2)) }

/-- Before a core's self-test its dirty lines are written back, those whose check fails marked poisoned (R458). -/
def poisonLines (k : Nat) (s : State) : State :=
  let l := Config.poisoned s.fresh k
  drawn { s with dispatch.poison := s.dispatch.poison ++ l.filter (fun x => !s.dispatch.poison.contains x) }

/-- What an error takes from the work of its resource at once: the chain's frame, the core's tasks, the epoch in process
(R347, R458, R199); the Strata writer turns to cairn (R549). -/
def loseWork (k : ResKind) (i : Nat) (s : State) : State :=
  match k with
  | .chain => setChain i (fun c => c.cut (now s)) s
  | .core => poisonLines i (stopCore i s)
  | .fp64 | .search => match currentEpoch s with | some p => epochGone p.1 p.2 s | none => s
  | .mram => toCairn s
  | _ => s

/-- A self-test begins: what the resource does meanwhile (R438). -/
def beginTest (k : ResKind) (i : Nat) (s : State) : State :=
  let s := loseWork k i s
  match k with
  | .quench => driveOutputs (settleVote .channelFault srcSelf (raise bQUENCH 5 (bumpQuench 7 (setQch i (fun c => { c with health := .testing }) s))))
  | .chain => raise bRADIO 9 (setChain i (fun c => { c with health := .testing }) s)
  | .core => setCore i (fun c => { c with health := .testing }) s
  | .frauri => leaveLink .testing s
  | .lodeBank => match logicalOf s i with | some n => setBank n (fun b => { b with state := .testing }) s | none => s
  | .correlator =>
    let s := { s with gnss := { s.gnss with testing := s.gnss.testing ||| BitVec.ofNat 16 (2 ^ i) } }
    raise 0x03 6 (blockChannels i (fun c => if c.state = .track then { c with state := .coast, coastAt := s.clk, tested := true } else c) s)
  | _ => s

/-- A filter state read with an uncorrected error: the machine's filter restarts empty (R199). -/
def restartFilter (i : Nat) (s : State) : State :=
  raise 0x04 4 { s with rtk.machs := s.rtk.machs.map (fun p => if p.1 = i then (p.1, emptyFilter p.2) else p) }

/-- A self-test passes: the resource returns to service (R435, R415, R458, R549, R151). -/
def passTest (k : ResKind) (i : Nat) (s : State) : State :=
  match k with
  | .quench => driveOutputs (setQch i (fun c => { c with health := .healthy }) s)
  | .chain => setChain i (fun c => { c with health := .ok }) s
  | .core => startCore i 1 (setCore i (fun c => { c with health := .ok }) s)
  | .frauri => { s with twin.link := .training }
  | .mram => leaveCairn s
  | .lodeBank => match logicalOf s i with | some n => setBank n (fun b => { b with state := .active }) s | none => s
  | .correlator =>
    let s := { s with gnss.testing := s.gnss.testing &&& ~~~(BitVec.ofNat 16 (2 ^ i)) }
    blockChannels i (fun c => if c.state = .coast ∧ c.tested = true then { c with state := .track, slip := true, lockAt := none, tested := false } else c) s
  | .filterRead => restartFilter i s
  | _ => s

/-- A command queue is retired (R488). -/
def retireCq (n : Nat) (s : State) : State := setCq n (fun c => { c with state := .retired, en := false, entries := [] }) s

/-- An event queue is retired: the entries it has not posted are lost (R488). -/
def retireEq (n : Nat) (s : State) : State :=
  let lost := (eq_ s n).pend
  let s := withPause (setEq n (fun e => { e with state := .retired, en := false, ring := [], pend := 0, above := false, lost := e.lost || lost != 0 })) s
  if lost = 0 then s else raise bHOSTIF 2 (bumpBy 0x0E0034 3 lost s)

/-- A command queue and an event queue retired with their queue SRAM bank (R488). -/
def retireQueue (n : Nat) (s : State) : State := retireEq n (retireCq n s)

/-- Frames of DL4 to DL7 in a lost packet-buffer bank are discarded (R237, R392). -/
def loseBufferFrames (i : Nat) (s : State) : State :=
  let n := ((List.range 16).map (fun p => countFrames s p (inBank s i))).sum
  let t := (List.range 16).foldl (fun t p => discardFrames p 14 (inBank s i) t) s
  if n = 0 then t else raise bSWITCH 3 t

/-- A bank with no spare left: what it held is lost, and it serves no more (R237, R438). -/
def dropBank (i : Nat) (s : State) : State :=
  let s := { s with lode.retired := s.lode.retired ++ [i] }
  match logicalOf s i with
  | none => s
  | some n =>
    let s := if (bank s n).owner = 0xFE then { loseBufferFrames i s with switch.blocks := s.switch.blocks - 8192 } else loseBankEntries n s
    setBank n (fun b => { b with state := .off }) s

/-- A test fails: the resource is retired, with its spare where one exists (R438). -/
def failTest (k : ResKind) (i : Nat) (s : State) : State :=
  match k with
  | .quench =>
    let s := setQch i (fun c => { c with health := .retired }) s
    driveOutputs (settleVote .channelFault srcSelf (note 0x0945 3 i 0 0 s))
  | .chain => setChain i (fun c => { c with health := .retired }) s
  | .core => disableOwned (2 + i) (setCore i (fun c => { c with health := .retired }) s)
  | .frauri => leaveLink .failed s
  | .lodeBank =>
    match logicalOf s i, sparesNow s with
    | some n, sp :: _ =>
      let s := if (bank s n).owner = 0xFE then loseBufferFrames i s else s
      swapBank n sp s
    | _, _ => dropBank i s
  | .correlator =>
    let s := { s with gnss := { s.gnss with
      testing := s.gnss.testing &&& ~~~(BitVec.ofNat 16 (2 ^ i)), retired := s.gnss.retired ||| BitVec.ofNat 16 (2 ^ i) } }
    retireChans s
  | .fp64 => { s with rtk.lanesRetired := s.rtk.lanesRetired + 1 }
  | .search => { s with rtk.searchOk := false }
  | .filterRead => restartFilter i s
  | .queueSram =>
    let s := raise bHOSTIF 0 { s with hostif.sramRetired := s.hostif.sramRetired ||| BitVec.ofNat 4 (2 ^ i) }
    (List.range 4).foldl (fun s j => retireQueue (4 * i + j) s) s
  | _ => s

/-- An event queue whose pointers disagree: its unposted entries are lost and WRITE is HEAD (R494). -/
def resetEq (q : Nat) (s : State) : State :=
  let lost := (eq_ s q).pend
  let s := setEq q (fun e => { e with write := e.head, ring := [], pend := 0, lost := e.lost || lost != 0 }) s
  let s := bumpBy 0x0E0034 3 lost (withPause (eqAbove q) s)
  if lost = 0 then s else raise bHOSTIF 2 s

/-- The learn queues of a pipeline lose their requests, counted as lost (R487, R231). -/
def resetLearn (pipe : Bool) (s : State) : State :=
  let n := ((s.lode.insts.filter (fun i => i.pipe == pipe)).map (fun i => i.learnQ.length)).sum
  bumpBy 0x050044 (11 + 0x100 * b2n pipe) n
    { s with lode.insts := s.lode.insts.map (fun i => if i.pipe = pipe then { i with learnQ := [] } else i) }

/-- An internal queue is reset: its entries are discarded and counted where its block counts a loss (R487). No rule lists the
internal queues: the model numbers the pointer pairs from 32 as learn queues of pipelines 0 and 1, transmit timestamps, the
Strata writer's queue, and the capture inputs (DESIGN CHOICE, assumption log 26). -/
def resetInternal (i : Nat) (s : State) : State :=
  if i = 32 ∨ i = 33 then resetLearn (i == 33) s
  else if i = 34 then bumpBy 0x02014C 0 s.time.txts.length { s with time.txts := [] }
  else if i = 35 then
    let n := s.strata.queue.length
    let s := lostRecord { s with strata := { s.strata with queue := [], lostDue := s.strata.lostDue + n } }
    if n = 0 then s else orReg 0x110030 0x8 (bumpBy 0x110028 0 n s)
  else if i < 41 then { s with time.caps := vmod s.time.caps (i - 36) (fun c => { c with fifo := [], lost := c.lost || c.fifo != [] }) }
  else s

/-- A queue whose duplicated pointers disagree is reset; the discard of a command queue is R442's (R487, R494). Index 0 to 15 is a
command queue, 16 to 31 an event queue; any other is internal. -/
def resetQueue (i : Nat) (s : State) : State :=
  if i < 16 then s else if i < 32 then resetEq (i - 16) s else resetInternal i s

/-- The queues that an error names for a discard: those with an uncommitted command for the block that owns the resource, and
those whose own memory or pointers it takes (R442, R487, R488). -/
def namedQueue (k : ResKind) (i : Nat) (c : FaultClass) (s : State) (n : Nat) : Bool :=
  (cq s n).entries.any (fun e => (blockTargets k).contains e.target) ||
  ((cq s n).entries != [] && ((k == .queuePtr && n == i) || (k == .queueSram && c == .lasting && n / 4 == i)))

/-- Work of its own that a block loses to an error: its number, which a report's DROPPED gives, and the state without it. The
allocator and the set-point engine lose the EXTEND requests and the commands of the register path, Lode its learn requests
(R442; assumption log 26). -/
def ownWork (k : ResKind) (s : State) : Nat × State :=
  match k with
  | .allocator =>
    let own := s.grid.intake.filter (fun (c : GridCmd) => c.queue.isNone)
    (own.length + s.setpt.extends_.length,
      { s with grid.intake := s.grid.intake.filter (fun c => c.queue.isSome), grid.cmdBusy := s.grid.cmdBusy && own.isEmpty, setpt.extends_ := [] })
  | .setpt =>
    let own := s.setpt.intake.filter (fun (c : SpCmd) => c.queue.isNone)
    (own.length + s.setpt.extends_.length,
      { s with setpt.intake := s.setpt.intake.filter (fun c => c.queue.isSome), setpt.cmdBusy := s.setpt.cmdBusy && own.isEmpty, setpt.extends_ := [] })
  | .lodeBank =>
    ((s.lode.insts.map (fun i => i.learnQ.length)).sum, { s with lode.insts := s.lode.insts.map (fun i => { i with learnQ := [] }) })
  | _ => (0, s)

/-- The discard of an error that is not CORRECTED (R442). -/
def faultDiscard (k : ResKind) (i : Nat) (c : FaultClass) (s : State) : State :=
  let w := ownWork k s
  discardHits (hitFrom w.2 (namedQueue k i c w.2)) 0 (classCode c) (faultCode k) (resIndex k i) w.1 true w.2

/-- A queue whose pointers disagree a fourth time is retired, if it faces the host; an internal one is reset again (R438). -/
def retirePtr (i : Nat) (s : State) : State :=
  if i < 16 then retireCq i s else if i < 32 then retireEq (i - 16) s else resetInternal i s

/-- A LASTING class takes effect: retirement, spare, yield (R435, R437, R438). An internal queue stays in service. -/
def lasting (k : ResKind) (i : Nat) (s : State) : State :=
  let crit := critical s k i
  let stays : Bool := k == .queuePtr && decide (32 ≤ i)
  let fate : ResState := if stays then .healthy else if k = .lodeBank ∧ ¬ crit then .spared else .retired
  let s := setRes { resOf s k i with state := fate, failTest := false } s
  let s := if k = .queuePtr then retirePtr i s else failTest k i s
  if ¬ crit then s
  else
    let s := if k = .lodeBank then consequence 0x0502 i s else if k = .quench then consequence 0x0902 i s else s
    yieldRequest s

/-- Transient classes of the last 60 s of served time (R437). -/
def recentTransients (s : State) (r : ResRec) : List Nat := r.transients.filter (fun t => decide (now s < t + 60 * 10 ^ 9))

/-- A TRANSIENT class is remembered. -/
def rememberTransient (k : ResKind) (i : Nat) (s : State) : State :=
  let r := resOf s k i
  setRes { r with transients := now s :: recentTransients s r, state := .healthy, failTest := false, yieldFirst := false } s

/-- What a TRANSIENT error of a resource without a test leaves (R199, R487). -/
def untested (k : ResKind) (i : Nat) (s : State) : State :=
  if k = .queuePtr then resetQueue i s else passTest k i s

/-- A FATAL error: the unit yields at once (R439); a warden mismatch also stops the fleet (R358). No host command addresses a
block of R439, so what is discarded is what the yield discards (R442, R29). -/
def fatalError (k : ResKind) (i : Nat) (s : State) : State :=
  let s := if k = .lockstep then settleVote .warden 0 { s with aon.lockstep := true } else s
  yieldRequest (classify k i .fatal false false (BitVec.ofNat 64 (now s)) s)

/-- The unit is paired with a READY peer that it can yield to at detection (R440). -/
def peerReady (s : State) : Bool := s.twin.present && s.twin.claimO && s.twin.pair == .ready

/-- An error in a critical block other than Lode while a load applies its image: the load will end with RESOURCE (R449). -/
def refuseForming (k : ResKind) (i : Nat) (resent : Bool) (s : State) : State :=
  if s.sys.mode = .forming ∧ k ≠ .lodeBank ∧ critical s k i ∧ ¬ (resent ∧ resendKind k) then
    { s with parison.load := s.parison.load.map (fun l => { l with resource := true }) }
  else s

/-- An error is detected: classed, or its self-test begins (R435 to R440, R449). unready tells that the peer stops being READY in the
same cycle, so that the unit tests first. An error that a retired resource or a replaced bank reports changes nothing (DESIGN
CHOICE, assumption log 26). -/
def detect (k : ResKind) (i : Nat) (resent unready : Bool) (s : State) : State :=
  let s := refuseForming k i resent s
  let r := resOf s k i
  let t := BitVec.ofNat 64 (now s)
  if fatalKind k then fatalError k i s
  else if resent ∧ resendKind k then classify k i .corrected false false t s
  else if r.state = .testing then setRes { r with failTest := true } s
  else if r.state = .retired ∨ r.state = .spared then s
  else if 3 ≤ (recentTransients s r).length then
    lasting k i (faultDiscard k i .lasting (classify k i .lasting true false t (loseWork k i s)))
  else if noTest k then
    rememberTransient k i (untested k i (faultDiscard k i .transient (classify k i .transient false false t s)))
  else
    let first := peerReady s && !unready && critical s k i
    let s := setRes { r with state := .testing, failTest := false, yieldFirst := first, detected := t } s
    beginTest k i (if first then yieldRequest s else s)

/-- ERROR_DETECTED (R435). -/
def execErrorDetected (res : ResKind) (idx : Fin 256) (resent unready : Bool) (s : State) : Out :=
  .next (onAon s (detect res idx.val resent unready))

/-- A self-test ends (R435, R438, R440). -/
def endTest (k : ResKind) (i : Nat) (pass : Bool) (s : State) : State :=
  let r := resOf s k i
  if r.state ≠ .testing then s
  else
    let c : FaultClass := if pass ∧ ¬ r.failTest then .transient else .lasting
    let s := faultDiscard k i c (classify k i c false r.yieldFirst r.detected s)
    releaseHeld (if c = .transient then postCullets (rememberTransient k i (passTest k i s)) else lasting k i s)

/-- A write of a record into the MRAM fails: the error starts the MRAM's self-test, and the record follows the failure into cairn with
its own SEQ (R548). -/
def storeFailed (s : State) : State :=
  match nextEvent s with
  | none => s
  | some e =>
    let r : StRecord := { ev := e, seq := s.strata.next }
    let s := detect .mram 0 false false { s with strata := { s.strata with queue := s.strata.queue.tail, next := s.strata.next + 1 } }
    lostRecord (recordInt e { s with strata := placeRecord r s.strata })

/-- RECORD_STORE (R544, R548); ok is false of a write into the MRAM that fails. -/
def execRecordStore (ok : Bool) (s : State) : Out :=
  .next (onAon s (if ok ∨ s.strata.inCairn then storeNext else storeFailed))

/-- SELF_TEST_DONE (R438). -/
def execSelfTestDone (res : ResKind) (idx : Fin 256) (pass : Bool) (s : State) : Out :=
  .next (onAon s (endTest res idx.val pass))

/-- CULLET_POST (R447). -/
def execCulletPost (s : State) : Out := .next (bus s postCullets)

/-- A write of FAULT_RESUME (R444): only the host's acts. against names the queues that a new discard halts in the same cycle, which
stay HALTED (R449). -/
def resumeQueues (who : Master) (mask against : Nat) (s : State) : State :=
  if who ≠ .host then s
  else passEntries ((List.range 16).foldl (fun s n =>
    if mask.testBit n ∧ ¬ against.testBit n ∧ (cq s n).state = .halted then setCq n (fun c => { c with state := .run }) s else s) s)

/-- FAULT_RESUME (R444). -/
def execFaultResume (who : Master) (mask against : BitVec 16) (s : State) : Out :=
  .next (bus s (resumeQueues who mask.toNat against.toNat))

/-- Resources of a kind (R438), and none for what is no resource there. -/
def resCount : ResKind → Nat
  | .lodeBank => 66 | .express => 1 | .internalLink => 1 | .queueSram => 4 | .correlator => 16 | .fp64 => 16
  | .search => 1 | .allocator => 1 | .setpt => 1 | .chain => 3 | .quench => 3 | .frauri => 1 | .core => 8 | .mram => 1
  | .queuePtr => 41 | _ => 0

/-- Kinds that an injection may name (FAULT_INJECT). -/
def injectKinds : List ResKind :=
  [.correlator, .fp64, .search, .lodeBank, .allocator, .setpt, .chain, .quench, .internalLink, .express, .frauri, .core,
   .queuePtr, .queueSram, .mram]

/-- A write of FAULT_INJECT with GO (R438, FAULT_INJECT). -/
def inject (code i : Nat) (fail : Bool) (s : State) : State :=
  if s.sys.mode ≠ .maintenance then { s with fault.injectResult := 2 }
  else match injectKinds.find? (fun k => faultCode k == code) with
    | none => { s with fault.injectResult := 3 }
    | some k =>
      let j := i - resBase k
      if i < resBase k ∨ resCount k ≤ j then { s with fault.injectResult := 3 }
      else
        let s := detect k j false false (bump 0x0C0044 7 { s with fault.injectResult := 1 })
        if fail ∧ (resOf s k j).state = .testing then setRes { resOf s k j with failTest := true } s else s

/-- FAULT_INJECT. -/
def execFaultInject (code : BitVec 16) (idx : BitVec 8) (fail : Bool) (s : State) : Out :=
  .next (bus s (inject code.toNat idx.toNat fail))

/-- The pipeline that reads a physical bank: that of the instance it belongs to. The packet buffer is shared, and counts in
pipeline 0 (DESIGN CHOICE, assumption log 14). -/
def pipeOfBank (s : State) (phys : Nat) : Bool :=
  match logicalOf s phys with
  | some n => s.lode.insts.any (fun i => i.pipe && i.banks.contains n)
  | none => false

/-- LODE_BUCKET_CRC_ERROR (R235): a bucket read of a physical bank fails; good names the re-read that is good, first or second, and 0
that none is. Each re-read is a CRC_RESEND. -/
def execLodeBucketCrcError (bank : Fin 66) (good : Fin 3) (s : State) : Out :=
  .next (bus s fun s =>
    detect .lodeBank bank.val (good.val != 0) false (bumpBy 0x050044 (14 + 0x100 * b2n (pipeOfBank s bank.val)) (if good.val = 1 then 1 else 2) s))

end Sys2Proof.Machine
end

