-- ==== Sys2Proof/Machine/GridQ.lean ====
section
/-! DEFINITION. GridQ.lean: cells, the sweep, the allocator's checks and batches, the ends of allotments and the
reserved chain (08_field_grid.md R245 to R274). -/

namespace Sys2Proof.Machine

open Sys2Proof

/-- GRID's block index. -/
def bGRID : Nat := 0x06

/-- One event of a GRID counter. -/
def bumpGrid (ev : Nat) (s : State) : State := bump 0x060054 ev s

/-- a + b√n is positive. -/
def posRoot (a b : Int) (n : Nat) : Bool :=
  if 0 ≤ a then (if 0 ≤ b then decide (0 < a ∨ (0 < b ∧ 0 < n)) else decide (b * b * n < a * a))
  else if 0 < b then decide (a * a < b * b * n) else false

/-- A piece of a swept area (R255): a rectangle on the line through a point along a direction, from one distance to
another and to half-width r on each side, or a disc. A distance (a, b) is a mm and b lengths of the direction. -/
inductive Piece where
  | rect (p d : Vertex) (u0 u1 : Int × Int) (r : Nat)
  | disc (c : Vertex) (r : Nat)
  deriving DecidableEq, Repr

/-- The rectangle overlaps the slab between two lines of one axis: hi and lo are its far ends along that axis, c is the
coordinate of its point, k the direction's component and w the other component's magnitude. -/
def slabMeets (n : Nat) (hi lo : Int × Int) (c k : Int) (w r : Nat) (x0 side : Int) : Bool :=
  posRoot (hi.1 * k + r * w) (hi.2 * k + c - x0) n && posRoot (r * w - lo.1 * k) (x0 + side - c - lo.2 * k) n

/-- The square with lower corner (x0, y0) meets a rectangle with positive area: no axis of either separates them. -/
def rectMeets (p d : Vertex) (u0 u1 : Int × Int) (r : Nat) (x0 y0 side : Int) : Bool :=
  let n := (d.e * d.e + d.n * d.n).toNat
  let a := (x0 - p.e) * d.e + (y0 - p.n) * d.n
  let b := (y0 - p.n) * d.e - (x0 - p.e) * d.n
  let maxA := a + max 0 (side * d.e) + max 0 (side * d.n)
  let minA := a + min 0 (side * d.e) + min 0 (side * d.n)
  let maxB := b + max 0 (side * d.e) + max 0 (-(side * d.n))
  let minB := b + min 0 (side * d.e) + min 0 (-(side * d.n))
  decide (0 < r) && posRoot (u1.1 - u0.1) (u1.2 - u0.2) n &&
  posRoot (maxA - u0.2 * n) (-u0.1) n && posRoot (u1.2 * n - minA) u1.1 n && posRoot maxB r n && posRoot (-minB) r n &&
  slabMeets n (if 0 ≤ d.e then u1 else u0) (if 0 ≤ d.e then u0 else u1) p.e d.e d.n.natAbs r x0 side &&
  slabMeets n (if 0 ≤ d.n then u1 else u0) (if 0 ≤ d.n then u0 else u1) p.n d.n d.e.natAbs r y0 side

/-- Distance from a coordinate to an interval. -/
def gap (c x0 side : Int) : Int := max 0 (max (x0 - c) (c - (x0 + side)))

/-- The square meets a piece with positive area (R255). -/
def Piece.meets (x0 y0 side : Int) : Piece → Bool
  | .rect p d u0 u1 r => rectMeets p d u0 u1 r x0 y0 side
  | .disc c r => decide (gap c.e x0 side * gap c.e x0 side + gap c.n y0 side * gap c.n y0 side < (r : Int) * r)

/-- A square box, centre and half-side, that holds a piece. -/
def Piece.box : Piece → Vertex × Int
  | .rect p d u0 u1 r => (p, (u0.1.natAbs + u1.1.natAbs + r + (u0.2.natAbs + u1.2.natAbs) * (d.e.natAbs + d.n.natAbs) : Nat))
  | .disc c r => (c, (r : Int))

/-- Side of a cell of level v in mm (R245). -/
def cellSide (v : Nat) : Int := 8192000 / 2 ^ v

/-- Index of a coordinate at level v (R245). -/
def cellIndex (v : Nat) (x : Int) : Int := (x + 4096000) / cellSide v

/-- Integers from lo to hi. -/
def spanOf (lo hi : Int) : List Int := (List.range (hi - lo + 1).toNat).map (fun k => lo + (k : Int))

/-- Cells of level v that a piece meets, as index pairs, rows by ascending i_N, then by ascending i_E (R255). -/
def pieceCells (v : Nat) (x : Piece) : List (Int × Int) :=
  let side := cellSide v
  let es := spanOf (cellIndex v (x.box.1.e - x.box.2)) (cellIndex v (x.box.1.e + x.box.2))
  let ns := spanOf (cellIndex v (x.box.1.n - x.box.2)) (cellIndex v (x.box.1.n + x.box.2))
  ns.flatMap (fun j => (es.filter (fun i => x.meets (i * side - 4096000) (j * side - 4096000) side)).map (fun i => (i, j)))

/-- Each element at its first occurrence. -/
def firsts {α : Type} [DecidableEq α] (l : List α) : List α :=
  l.foldl (fun a x => if x ∈ a then a else a ++ [x]) []

/-- Pieces along a track after its first vertex: each segment, and a disc at each interior vertex. -/
def trackPieces (r : Nat) : List Vertex → List Piece
  | a :: b :: l =>
    .rect a { e := b.e - a.e, n := b.n - a.n } (0, 0) (0, 1) r :: (if l = [] then [] else .disc b r :: trackPieces r (b :: l))
  | _ => []

/-- Last vertex of a track and the direction of its last segment. -/
def trackEnd : List Vertex → Vertex × Vertex
  | [a, b] => (b, { e := b.e - a.e, n := b.n - a.n })
  | _ :: l => trackEnd l
  | [] => ({}, {})

/-- First vertex and the direction of the first segment. -/
def trackStart : List Vertex → Vertex × Vertex
  | a :: b :: _ => (a, { e := b.e - a.e, n := b.n - a.n })
  | _ => ({}, {})

/-- The sweep of an allotment of a track with margin M (R255). -/
def sweepTrack (fp : Footprint) (m : Nat) (l : List Vertex) : List Piece :=
  let r := fp.halfWidth + m
  .rect (trackStart l).1 (trackStart l).2 (-(fp.rear + m : Nat), 0) (0, 0) r ::
  (trackPieces r l ++ [.rect (trackEnd l).1 (trackEnd l).2 (0, 0) ((fp.front + m : Nat), 0) r])

/-- The sweep of an extension by d mm of a track already extended by e mm (R274). -/
def sweepExt (fp : Footprint) (m : Nat) (l : List Vertex) (e d : Nat) : List Piece :=
  let r := fp.halfWidth + m
  [.rect (trackEnd l).1 (trackEnd l).2 ((e : Int), 0) ((e + d : Nat), 0) r,
   .rect (trackEnd l).1 (trackEnd l).2 ((e + d : Nat), 0) ((e + d + fp.front + m : Nat), 0) r]

/-- Swept cells in emission order. -/
def sweptCells (v : Nat) (l : List Piece) : List (Int × Int) := firsts (l.flatMap (pieceCells v))

/-- An index pair lies inside the grid (R245). -/
def inGrid (v : Nat) (c : Int × Int) : Bool :=
  decide (0 ≤ c.1 ∧ c.1 < (2 : Int) ^ v ∧ 0 ≤ c.2 ∧ c.2 < (2 : Int) ^ v)

/-- The cell of an index pair. -/
def toCell (v : Nat) (c : Int × Int) : Cell := { level := v, iE := c.1.toNat, iN := c.2.toNat }

/-- Interleaved index of v bit pairs (R246). -/
def mortonOf (iE iN : Nat) : Nat → Nat
  | 0 => 0
  | k + 1 => mortonOf iE iN k + (iE / 2 ^ k % 2) * 2 ^ (2 * k) + (iN / 2 ^ k % 2) * 2 ^ (2 * k + 1)

/-- The MORTON field of a cell: its Lode key, left-aligned in 32 bits (R218, R246). -/
def Cell.morton (c : Cell) : Nat := mortonOf c.iE c.iN c.level * 2 ^ (32 - 2 * c.level)

/-- The code of a cell (R246). -/
def Cell.code (c : Cell) : Nat := c.level * 2 ^ 35 + c.morton

/-- The ancestor of a cell at a coarser level. -/
def Cell.up (c : Cell) (v : Nat) : Cell :=
  { level := v, iE := c.iE / 2 ^ (c.level - v), iN := c.iN / 2 ^ (c.level - v) }

/-- The RESV key of a cell. -/
def Cell.prefix_ (c : Cell) : LodeKey := { len := 2 * c.level, val := mortonOf c.iE c.iN c.level }

/-- What the grid holds of a machine. -/
def gridMach (s : State) (m : Nat) : GridMach := (kget s.grid.machs m).getD {}

/-- A machine's grid state changed. -/
def setGridMach (m : Nat) (f : GridMach → GridMach) (s : State) : State :=
  { s with grid.machs := kmod s.grid.machs m {} f }

/-- An allotment is live: its END is not past (R262). -/
def liveAllot (s : State) (a : Allot) : Bool := decide (now s < a.end_.toNat)

/-- Live allotments. -/
def liveAllots (s : State) : List Allot := s.grid.allots.filter (liveAllot s)

/-- Live allotments of a machine. -/
def machAllots (s : State) (m : Nat) : List Allot := (liveAllots s).filter (fun a => a.mach == m)

/-- A machine is reporting (R263). -/
def reporting (s : State) (m : Nat) : Bool :=
  match (gridMach s m).goodAt with
  | some t => decide (s.clk < t + s.grid.cfg.lapseMs * 10 ^ 6)
  | none => false

/-- Pipelines that hold a table of a content. -/
def pipesOf (s : State) (c : Content) : List Bool := [false, true].filter (fun p => (tableFor s c p).isSome)

/-- A longest-prefix lookup of a cell in the table of a content. -/
def gridLpm (s : State) (c : Content) (pipe : Bool) (key : Nat) : Option LodeEntry :=
  match tableFor s c pipe with
  | some d => lpmLookup s d.id pipe key
  | none => none

/-- x is before y (R120). -/
def before48 (x y : Nat) : Bool :=
  let d := (y % 2 ^ 48 + 2 ^ 48 - x % 2 ^ 48) % 2 ^ 48
  decide (0 < d ∧ d < 2 ^ 47)

/-- Two intervals overlap (R256). -/
def overlaps (a b c d : Nat) : Bool := before48 c b && before48 a d

/-- What an allotment asks of a cell. -/
structure AllotAsk where
  mach : Nat
  op : Nat
  partner : Nat
  start : Nat
  stop : Nat
  deriving DecidableEq, Repr

/-- Check 1 of R256 fails. -/
def noZone (s : State) (c : Cell) (p : Bool) : Bool := (gridLpm s .zone p c.morton).isNone

/-- Check 2 fails: the finest zone is no WORK zone, or does not permit the operation. -/
def zoneDenied (s : State) (c : Cell) (op : Nat) (p : Bool) : Bool :=
  match (gridLpm s .zone p c.morton).map LodeEntry.result with
  | some (.zone _ cls attr) => !(cls == 1 && attr.toNat.testBit op)
  | _ => true

/-- Intervals of a cell's RESV entry in a pipeline. -/
def cellIntervals (s : State) (c : Cell) (p : Bool) : List (Option ResvInterval) :=
  match (gridLpm s .resv p c.morton).map LodeEntry.result with
  | some (.resv ivs) => ivs
  | _ => []

/-- Check 3: the machine whose USED interval overlaps. -/
def resvConflict (s : State) (c : Cell) (q : AllotAsk) (p : Bool) : Option Nat :=
  (cellIntervals s c p).findSome? (fun v =>
    match v with
    | some x => if x.mach ≠ q.mach ∧ ¬ intervalOver (now s) (some x) ∧ overlaps q.start q.stop x.start.toNat x.end_.toNat
                then some x.mach else none
    | none => none)

/-- Check 4 fails: the entry stands and no interval of it is free. -/
def resvFull (s : State) (c : Cell) (p : Bool) : Bool :=
  cellIntervals s c p != [] && !(cellIntervals s c p).any (intervalOver (now s))

/-- The OCC entry of a cell's ancestor in a pipeline. -/
def occEntry (s : State) (c : Cell) (p : Bool) : Option LodeEntry :=
  match tableFor s .occ p with
  | some d => (exactLookup s d.id p { len := 0, val := (c.up s.grid.cfg.occLevel).code }).map (flapSettled s)
  | none => none

/-- Check 5: the source that occupies the cell's ancestor. -/
def occupiedBy (s : State) (c : Cell) (q : AllotAsk) (p : Bool) : Option Nat :=
  match occEntry s c p with
  | some e => if (e.source = q.mach ∨ e.source = q.partner) ∧ ¬ e.flapping then none else some e.source
  | none => none

/-- Check 5 applies to an interval that starts then (R256). -/
def occApplies (s : State) (start : Nat) : Bool :=
  s.grid.cfg.horizonS == 0 || decide (start < now s + s.grid.cfg.horizonS * 10 ^ 9)

/-- The first check that a cell fails in either pipeline, with the blocker (R256). -/
def cellFails (s : State) (q : AllotAsk) (c : Cell) : Option (GridResult × Nat) :=
  let pz := pipesOf s .zone
  if pz = [] ∨ pz.any (noZone s c) then some (.noZone, 0xFF)
  else if pz.any (zoneDenied s c q.op) then some (.zoneDenied, 0xFF)
  else match (pipesOf s .resv).findSome? (resvConflict s c q) with
    | some m => some (.resvConflict, m)
    | none =>
      if (pipesOf s .resv).any (resvFull s c) then some (.resvFull, 0xFF)
      else if occApplies s q.start then
        match (pipesOf s .occ).findSome? (occupiedBy s c q) with
        | some m => some (.occupied, m)
        | none => none
      else none

/-- The first cell, in emission order, that fails a check. -/
def firstFail (s : State) (q : AllotAsk) (l : List Cell) : Option (Cell × GridResult × Nat) :=
  l.findSome? (fun c => (cellFails s q c).map (fun r => (c, r)))

/-- The entry of a table that holds a key in any instance. -/
def anyEntry (s : State) (t : Nat) (k : LodeKey) : Option LodeEntry :=
  (instsOf s t).findSome? (fun i => (findKey i k).map Prod.snd)

/-- The lowest free interval of an entry replaced (R257). -/
def putInterval (nowNs : Nat) (v : ResvInterval) : List (Option ResvInterval) → List (Option ResvInterval)
  | [] => []
  | x :: l => if intervalOver nowNs x then some v :: l else x :: putInterval nowNs v l

/-- Intervals of an entry. -/
def resvOf (e : LodeEntry) : List (Option ResvInterval) :=
  match e.result with
  | .resv l => l
  | _ => []

/-- The batch that writes an allotment's intervals (R257). -/
def allotBatch (s : State) (t : Nat) (v : ResvInterval) (l : List Cell) : List BatchItem :=
  l.map (fun c =>
    match anyEntry s t c.prefix_ with
    | some e => .write t { e with written := true, hit := true, result := .resv (putInterval (now s) v (resvOf e)) }
    | none => .write t { written := true, hit := true, age := true, source := 0xFF, key := c.prefix_, result := .resv [some v, none, none] })

/-- An entry without the intervals that a test names. -/
def clearIvs (drop : ResvInterval → Bool) (e : LodeEntry) : LodeEntry :=
  { e with result := .resv ((resvOf e).map (fun x => match x with | some v => if drop v then none else some v | none => none)) }

/-- USED cleared in the intervals of at most 16,384 cells of an allotment as one batch (R223, R266). An entry that has aged out is not
written again. -/
def clearCells (d : TableDesc) (id : BitVec 16) (l : List Cell) (s : State) : State :=
  let items := l.filterMap (fun c => (anyEntry s d.id c.prefix_).map (fun e => BatchItem.write d.id (clearIvs (fun v => v.task == id) e)))
  (runBatch items s).getD s

/-- The cells of an allotment cleared, by batches no longer than R223 allows: an allotment whose extensions have taken it past 16,384
cells takes more than one (DESIGN CHOICE, assumption log 16). -/
def clearChunks (d : TableDesc) (id : BitVec 16) : Nat → List Cell → State → State
  | 0, _, s => s
  | n + 1, l, s => if l = [] then s else clearChunks d id n (l.drop 16384) (clearCells d id (l.take 16384) s)

/-- USED cleared in an allotment's intervals (R266). -/
def clearAllot (a : Allot) (s : State) : State :=
  match resvTable s with
  | none => s
  | some d => clearChunks d a.id (a.cells.length / 16384 + 1) a.cells s

/-- Tasks with a live allotment; a task ends with its last one (R253). -/
def settleTasks (s : State) : State :=
  { s with grid.tasks := s.grid.tasks.filter (fun t => s.grid.allots.any (fun a => a.task == t.1)) }

/-- Records removed without their intervals (R264, R275). -/
def dropRecords (p : Allot → Bool) (s : State) : State :=
  settleTasks { s with grid.allots := s.grid.allots.filter (fun a => !p a) }

/-- Allotments ended with their intervals (R266). -/
def endAllots (p : Allot → Bool) (s : State) : State :=
  dropRecords p ((s.grid.allots.filter p).foldl (fun s a => clearAllot a s) s)

/-- Allotments whose END is past lose their records (R262). -/
def expireAllots (s : State) : State := dropRecords (fun a => !liveAllot s a) s

/-- Later allotments of a chain, each at the next index with a START no later than the END before (R273). -/
def chainFrom (l : List Allot) : Nat → Allot → List Allot
  | 0, _ => []
  | k + 1, a =>
    match l.find? (fun b => b.task == a.task && b.index == a.index + 1 && decide (b.start.toNat ≤ a.end_.toNat)) with
    | some b => b :: chainFrom l k b
    | none => []

/-- The reserved chain of a machine (R273). -/
def reservedChain (s : State) (m : Nat) : List Allot :=
  if (gridMach s m).lapsed then []
  else
    let l := machAllots s m
    let nowA := l.filter (fun a => decide (a.start.toNat ≤ now s))
    match nowA.foldl (fun (b : Option Allot) a => match b with
        | some x => if a.index < x.index then some a else some x
        | none => some a) none with
    | some a => a :: chainFrom l 64 a
    | none => []

/-- The cell at a level that holds a point, if the point lies in the grid (R245). -/
def pointCell (v : Nat) (e n : Int) : Option Cell :=
  let c := (cellIndex v e, cellIndex v n)
  if inGrid v c then some (toCell v c) else none

/-- The cell codes of an allotment nest with a prefix through their bounding cell: the longest prefix common to all of
them (R249). -/
def commonLevel (l : List Cell) (v : Nat) : Nat :=
  match l with
  | [] => 0
  | c :: _ => (List.range (v + 1)).foldl (fun b k => if l.all (fun x => x.up k == c.up k) then k else b) 0

/-- The bounding cell of an allotment (R249). -/
def boundingCell (a : Allot) : Cell :=
  match a.cells with
  | [] => {}
  | c :: _ => c.up (commonLevel a.cells c.level)

/-- Two cells nest, in either direction. -/
def cellsNest (a b : Cell) : Bool :=
  if a.level ≤ b.level then b.up a.level == a else a.up b.level == b

end Sys2Proof.Machine
end

