-- ==== Sys2Proof/Machine/Grid.lean ====
section
/-! DEFINITION. Grid.lean: the commands of the field grid, and what it does with solutions (08_field_grid.md R242 to
R278). -/

namespace Sys2Proof.Machine

open Sys2Proof

/-- Codes of GRID_CMD_STATUS.RESULT. -/
def GridResult.code : GridResult → Nat
  | .none => 0 | .done => 1 | .busy => 2 | .mode => 3 | .conflictLost => 4 | .badParam => 5 | .badTrack => 6 | .noTrack => 7
  | .inUse => 8 | .outOfGrid => 9 | .tooLarge => 0x0A | .noFix => 0x0B | .badTime => 0x0C | .ageLimit => 0x0D | .order => 0x0E
  | .storeFull => 0x0F | .noZone => 0x10 | .zoneDenied => 0x11 | .resvConflict => 0x12 | .resvFull => 0x13 | .occupied => 0x14
  | .occCold => 0x15 | .badZone => 0x16 | .zoneInUse => 0x17 | .tableFull => 0x18 | .notFound => 0x19 | .notClear => 0x1A

/-- What a command's completion reports (R278). -/
structure GridEnd where
  result : GridResult := .done
  blocker : Nat := 0xFF
  allotId : Nat := 0
  cells : Nat := 0
  cell : Nat := 0
  arc : Nat := 0
  deriving DecidableEq, Repr

/-- A result with nothing else to report. -/
def gridRes (r : GridResult) : GridEnd := { result := r }

/-- The grid is on (R275). -/
def gridOn (s : State) : Bool :=
  match s.sys.mode with
  | .reset | .forming | .dormant => false
  | _ => true

/-- The mode accepts ALLOT. -/
def allotMode (s : State) : Bool := s.sys.mode == .field || s.sys.mode == .holdover

/-- The command at the head of the intake completes (R260, R278). -/
def gridFinish (c : GridCmd) (e : GridEnd) (s : State) : State :=
  let s := { s with grid.intake := s.grid.intake.drop 1 }
  let s := raise bGRID (if e.result = .done then 0 else 1) s
  match c.queue with
  | some (n, _) =>
    finishEntry n { result := e.result.code, blocker := e.blocker, allotId := e.allotId, cells := e.cells, cell := e.cell, arc := e.arc } s
  | none => { s with grid := { s.grid with cmdBusy := false, cmdResult := e.result, cmdBlocker := BitVec.ofNat 8 e.blocker } }

/-- The outcome of a command's work: what it reports, and the state it leaves. -/
abbrev GridRun := GridEnd × State

/-- A register-path GO: the body joins the intake, or is refused with BUSY (R260). -/
def gridGo (who : Master) (body : Bytes) (s : State) : State :=
  if 8 ≤ s.grid.intake.length ∨ s.grid.cmdBusy then raise bGRID 1 { s with grid := { s.grid with cmdResult := .busy, cmdBlocker := 0xFF } }
  else { s with grid := { s.grid with
           cmdBusy := true, cmdResult := .none, cmdBlocker := 0xFF
           intake := joinIntake { master := who, body := padTo 48 body, queue := none, at_ := s.clk } s.grid.intake } }

/-- The head of the intake may run: the grid is on and not under test, its probes are not held by a bank's test, no EXTEND goes before it, and its queue may commit (R260, R276,
R500). -/
def gridReady (s : State) (op : Nat) (c : GridCmd) : Bool :=
  byteAt c.body 0 == op && gridOn s && !underTest s .allocator && !lookupsHeld s && s.setpt.extends_.isEmpty &&
  (match c.queue with | some (n, _) => canCommit s n | none => true)

/-- Footprint of a machine (R277). -/
def footprint (s : State) (m : Nat) : Footprint := nth s.grid.cfg.prints m { halfWidth := 2000, front := 2000, rear := 2000 }

/-- The allotted margin M (R254). -/
def marginOf (s : State) (mach want : Nat) : Nat := max want (gridMach s mach).hpl

/-- The cells that an ALLOT command sweeps (R255); none if its track is not held. -/
def cmdCells (s : State) (c : GridCmd) : List (Int × Int) :=
  match kget s.grid.tracks (leAt c.body 8 2) with
  | some l => sweptCells s.grid.cfg.resvLevel (sweepTrack (footprint s (byteAt c.body 1)) (marginOf s (byteAt c.body 1) (leAt c.body 0x0A 2)) l)
  | none => []

/-- A command is an ALLOT. -/
def isAllot (c : GridCmd) : Bool := byteAt c.body 0 == 3

/-- The machine whose allotments a command releases. -/
def releasesMach (s : State) (c : GridCmd) : Option Nat :=
  if byteAt c.body 0 = 5 then some (byteAt c.body 1)
  else if byteAt c.body 0 = 4 then ((liveAllots s).find? (fun a => a.id.toNat == leAt c.body 2 2)).map Allot.mach
  else none

/-- Two ALLOTs overlap in both cells and intervals (R261). -/
def allotsOverlap (s : State) (a b : GridCmd) : Bool :=
  isAllot a && isAllot b && overlaps (leAt a.body 0x10 8) (leAt a.body 0x18 8) (leAt b.body 0x10 8) (leAt b.body 0x18 8) &&
  (cmdCells s a).any (fun x => (cmdCells s b).contains x)

/-- A command loses to another of its cycle (R24, R261): an ALLOT to a release of its machine, and to an overlapping ALLOT of a lower
rank number. -/
def gridLoses (s : State) (c w : GridCmd) : Bool :=
  sameCycle c w && ((isAllot c && releasesMach s w == some (byteAt c.body 1)) || (allotsOverlap s c w && decide (w.master.rank < c.master.rank)))

/-- An EXTEND request loses to a release of its machine in its cycle (R261, R276). -/
def extLoses (s : State) (x : ExtReq) (w : GridCmd) : Bool := x.at_ == w.at_ && releasesMach s w == some x.mach

/-- What waits and loses to a command that runs is marked (R261). -/
def markLosers (c : GridCmd) (s : State) : State :=
  { s with
    grid.intake := s.grid.intake.map (fun x => { x with lost := x.lost || gridLoses s x c })
    setpt.extends_ := s.setpt.extends_.map (fun x => { x with lost := x.lost || extLoses s x c }) }

/-- The head of the intake has lost to another command of its cycle, done or still to come (R261). -/
def gridLost (s : State) (c : GridCmd) : Bool := c.lost || s.grid.intake.any (gridLoses s c)

/-- Supervision, refresh and learning run (R275). -/
def gridRuns (s : State) : Bool :=
  match s.sys.mode with
  | .survey | .quenched | .maintenance | .field | .holdover | .anneal => true
  | _ => false

/-- A command's work: one that has lost completes with CONFLICT_LOST and changes nothing (R24, R261). -/
def gridWork (c : GridCmd) (f : GridCmd → State → GridRun) (s : State) : GridRun :=
  if gridRuns s = true ∧ gridLost s c = true then ({ result := .conflictLost }, bumpGrid 0x0A s) else f c (markLosers c s)

/-- The head of the intake runs, if it is the command named. -/
def gridHead (op : Nat) (f : GridCmd → State → GridRun) (s : State) : State :=
  match s.grid.intake with
  | c :: _ => if gridReady s op c then let r := gridWork c f s; gridFinish c r.1 r.2 else s
  | [] => s

/-- A grid command: from the command buffer or from the intake (R260). -/
def gridCmd (op : Nat) (src : CmdSrc) (f : GridCmd → State → GridRun) (s : State) : State :=
  match src with
  | .regs who body => gridHead op f (gridGo who (BitVec.ofNat 8 op :: (padTo 48 body).drop 1) s)
  | .post who body => gridGo who (BitVec.ofNat 8 op :: (padTo 48 body).drop 1) s
  | .intake => gridHead op f s

/-- Modes that refuse every grid command with MODE (R275). -/
def refusedMode (s : State) : Bool := !gridRuns s

/-- A command's work, refused first by the mode. -/
def gridIn (s : State) (ok : Bool) (r : State → GridRun) : GridRun := if refusedMode s ∨ ¬ ok then (gridRes .mode, s) else r s

/-- A refusal that changes nothing. -/
def refuse (s : State) (r : GridResult) : GridRun := (gridRes r, s)

/-- Vertices of a track record (R250). -/
def vertexList (bs : Bytes) : Nat → List Vertex
  | 0 => []
  | k + 1 => vertexList bs k ++ [{ e := signedOf 32 (leAt bs (16 + 8 * k) 4), n := signedOf 32 (leAt bs (20 + 8 * k) 4) }]

/-- Squared length of a segment in mm². -/
def segSq (a b : Vertex) : Nat := ((b.e - a.e) * (b.e - a.e) + (b.n - a.n) * (b.n - a.n)).toNat

/-- Squared segment lengths of a track. -/
def segSqs : List Vertex → List Nat
  | a :: b :: l => segSq a b :: segSqs (b :: l)
  | _ => []

/-- Arc length of a track in units of 2^−16 mm, each segment rounded down (assumption log 15). -/
def arc16 (l : List Vertex) : Nat := ((segSqs l).map (fun q => isqrt (q * 2 ^ 32))).sum

/-- A live allotment uses a track. -/
def trackUsed (s : State) (t : Nat) : Bool := (liveAllots s).any (fun a => a.trackId == t)

/-- A vertex lies in the grid (R245). -/
def vertexIn (v : Vertex) : Bool := decide (-4096000 ≤ v.e ∧ v.e < 4096000 ∧ -4096000 ≤ v.n ∧ v.n < 4096000)

/-- What is wrong with a track record (R251). -/
def trackFault (rec : Bytes) : Option GridResult :=
  let n := leAt rec 0 2
  if n < 2 ∨ 4096 < n then some .badTrack
  else if crc32c (bytesAt rec 16 (8 * n)) ≠ BitVec.ofNat 32 (leAt rec 4 4) then some .badTrack
  else if (segSqs (vertexList rec n)).any (fun q => q < 100) then some .badTrack
  else if (vertexList rec n).any (fun v => !vertexIn v) then some .outOfGrid
  else none

/-- TRACK_LOAD (R250, R251). rec is what the fetch reads. -/
def trackLoad (rec : Bytes) (c : GridCmd) (s : State) : GridRun :=
  gridIn s true fun s =>
    let t := leAt c.body 2 2
    if 4095 < t then refuse s .badParam
    else if trackUsed s t then refuse s .inUse
    else match trackFault rec with
      | some r => refuse s r
      | none =>
        let l := vertexList rec (leAt rec 0 2)
        ({ arc := arc16 l / 2 ^ 16 }, { s with grid.tracks := kset s.grid.tracks t l })

/-- TRACK_LOAD. -/
def execTrackLoad (src : CmdSrc) (rec : Bytes) (s : State) : Out := .next (gridBus s (gridCmd 0x01 src (trackLoad rec)))

/-- TRACK_DROP (R250). -/
def trackDrop (c : GridCmd) (s : State) : GridRun :=
  gridIn s true fun s =>
    let t := leAt c.body 2 2
    if (kget s.grid.tracks t).isNone then refuse s .notFound
    else if trackUsed s t then refuse s .inUse
    else ({}, { s with grid.tracks := kdel s.grid.tracks t })

/-- TRACK_DROP. -/
def execTrackDrop (src : CmdSrc) (s : State) : Out := .next (gridBus s (gridCmd 0x02 src trackDrop))

/-- No solution bounds the machine (R254). -/
def noFix (s : State) (m : Nat) : Bool :=
  let g := gridMach s m
  g.stale || !g.fixOk || g.hpl == 0xFFFF || g.lapsed

/-- An interval that R254 refuses. -/
def badTime (s : State) (start stop : Nat) : Bool := decide (stop ≤ start ∨ stop ≤ now s ∨ now s + 2 ^ 47 ≤ stop)

/-- The served time at which the correction age passes its limit; none while no clean epoch has occurred since forming, when it counts
as past it already (R100). -/
def ageEnd (s : State) : Option Nat := s.rtk.lastClean.map (· + s.time.ageLimit * 10 ^ 9)

/-- A renewal that R265 refuses: in HOLDOVER one whose END lies past the limit, and in any mode every one once the limit has passed
without GNSS time (R101). -/
def pastAge (s : State) (stop : Nat) : Bool :=
  match ageEnd s with
  | some t => (s.sys.mode == .holdover && decide (t < stop)) || (!timeValid s && decide (t < now s))
  | none => s.sys.mode == .holdover || !timeValid s

/-- An index that R253 refuses, with its code. -/
def taskFault (s : State) (task mach index : Nat) : Option GridResult :=
  match s.grid.tasks.find? (fun t => t.1 == task) with
  | some (_, m, hi) => if m ≠ mach then some .badParam else if index = hi + 1 ∧ index ≤ 63 then none else some .order
  | none => if index = 0 then none else some .order

/-- What stands against an ALLOT before the sweep (R252 to R254, R262, R265, R250). -/
def allotFault (s : State) (c : GridCmd) : Option GridResult :=
  let b := c.body
  let mach := byteAt b 1
  let op := byteAt b 5
  if 127 < mach ∨ op < 1 ∨ 7 < op ∨ 511 < leAt b 2 2 then some .badParam
  else if (kget s.grid.tracks (leAt b 8 2)).isNone then some .noTrack
  else match taskFault s (leAt b 2 2) mach (byteAt b 4) with
    | some r => some r
    | none =>
      if noFix s mach then some .noFix
      else if badTime s (leAt b 0x10 8) (leAt b 0x18 8) then some .badTime
      else if pastAge s (leAt b 0x18 8) then some .ageLimit
      else if 4096 ≤ (liveAllots s).length then some .storeFull
      else none

/-- The lowest record index that no allotment holds. -/
def freeRecord (s : State) : Nat :=
  ((List.range 4096).find? (fun k => !s.grid.allots.any (fun a => a.id.toNat % 4096 == k))).getD 0

/-- The ALLOT_ID of a new record: its index, and a generation count that moves on at each use (R262). -/
def newAllotId (s : State) : Nat × Nat :=
  let k := freeRecord s
  (k, (kget s.grid.gens k).getD 0)

/-- Why a sweep is refused, with its number of cells and the failing cell (R255, R256); cold is true of an ALLOT in the interval of R270. -/
def sweepFault (s : State) (cold : Bool) (q : AllotAsk) (v : Nat) (l : List (Int × Int)) : Option GridEnd :=
  let n := l.length
  if 6144 < n then some { result := .tooLarge, cells := n }
  else if l.any (fun c => !inGrid v c) then some { result := .outOfGrid, cells := n }
  else if cold ∧ occApplies s q.start then some { result := .occCold, cells := n }
  else (firstFail s q (l.map (toCell v))).map (fun r => { result := r.2.1, blocker := r.2.2, cells := n, cell := r.1.code })

/-- The RESV interval of an allotment. -/
def intervalFor (mach id start stop : Nat) : ResvInterval :=
  { mach := mach, task := BitVec.ofNat 16 id, start := BitVec.ofNat 48 start, end_ := BitVec.ofNat 48 stop }

/-- An allotment's cells committed as one batch, or TABLE_FULL (R257, R221). -/
def commitCells (v : ResvInterval) (cells : List Cell) (s : State) : Option State :=
  match resvTable s with
  | none => none
  | some d => runBatch (allotBatch s d.id v cells) s

/-- TABLE_FULL of the RESV table. -/
def resvTableFull (s : State) : State := match resvTable s with | some d => tableFull d s | none => s

/-- ALLOT once nothing stands against it before the sweep. -/
def allotSweep (c : GridCmd) (track : List Vertex) (s : State) : GridRun :=
  let b := c.body
  let mach := byteAt b 1
  let m := marginOf s mach (leAt b 0x0A 2)
  let q : AllotAsk := { mach := mach, op := byteAt b 5, partner := byteAt b 6, start := leAt b 0x10 8, stop := leAt b 0x18 8 }
  let v := s.grid.cfg.resvLevel
  let l := sweptCells v (sweepTrack (footprint s mach) m track)
  match sweepFault s s.grid.occCold q v l with
  | some e => (e, s)
  | none =>
    let g := newAllotId s
    let id := g.1 + g.2 % 16 * 4096
    let cells := l.map (toCell v)
    match commitCells (intervalFor mach id q.start q.stop) cells s with
    | none => ({ result := .tableFull, cells := l.length }, resvTableFull s)
    | some t =>
      let a : Allot := { id := BitVec.ofNat 16 id, mach := mach, task := leAt b 2 2, index := byteAt b 4, trackId := leAt b 8 2
                         op := q.op, margin := m, start := BitVec.ofNat 64 q.start, end_ := BitVec.ofNat 64 q.stop
                         track := track, ext := 0, cells := cells }
      let t := { t with grid := { t.grid with
        allots := t.grid.allots ++ [a], gens := kset t.grid.gens g.1 ((g.2 + 1) % 16)
        tasks := t.grid.tasks.filter (fun x => x.1 != a.task) ++ [(a.task, mach, a.index)] } }
      ({ allotId := id, cells := l.length }, bumpBy 0x060054 2 l.length t)

/-- Time from t0 to step 4 of R259 in µs: within its bound, and else open (assumption log 16). -/
def runTime (s : State) : Nat := freeVal s % 2001

/-- The last ALLOT or EXTEND as GRID_ALLOT_STATUS and its neighbours report it. -/
def reportAllot (e : GridEnd) (waitNs : Nat) (s : State) : State :=
  let r : AllotReport := { result := e.result, blocker := BitVec.ofNat 8 e.blocker, allotId := BitVec.ofNat 16 e.allotId
                           cells := e.cells, waitUs := satNat 16 (waitNs / 1000), runUs := runTime s, cell := BitVec.ofNat 40 e.cell }
  drawn { s with grid.report := r }

/-- ALLOT (R253 to R262). -/
def allot (c : GridCmd) (s : State) : GridRun :=
  let r := gridIn s (allotMode s) fun s =>
    match allotFault s c with
    | some r => refuse s r
    | none => allotSweep c ((kget s.grid.tracks (leAt c.body 8 2)).getD []) s
  (r.1, reportAllot r.1 (s.clk - c.at_) (bumpGrid (if r.1.result = .done then 0 else 1) r.2))

/-- An ALLOT is the command that the grid takes next. -/
def allotNext (s : State) : Bool := match s.grid.intake with | c :: _ => byteAt c.body 0 == 3 | [] => false

/-- RELEASE (R266). -/
def release (c : GridCmd) (s : State) : GridRun :=
  gridIn s true fun s =>
    let id := leAt c.body 2 2
    if (liveAllots s).any (fun a => a.id.toNat == id) then ({ allotId := id }, endAllots (fun a => a.id.toNat == id) s)
    else refuse s .notFound

/-- RELEASE. -/
def execRelease (src : CmdSrc) (s : State) : Out := .next (gridBus s (gridCmd 0x04 src release))

/-- RELEASE_MACH (R266). -/
def releaseMach (c : GridCmd) (s : State) : GridRun :=
  gridIn s true fun s =>
    let m := byteAt c.body 1
    if 127 < m then refuse s .badParam else ({}, endAllots (fun a => a.mach == m) s)

/-- RELEASE_MACH. -/
def execReleaseMach (src : CmdSrc) (s : State) : Out := .next (gridBus s (gridCmd 0x05 src releaseMach))

/-- A live allotment's bounding cell nests with a prefix (R249). -/
def zoneInUse (s : State) (level prefix_ : Nat) : Bool :=
  (liveAllots s).any (fun a =>
    let b := boundingCell a
    let v := min b.level level
    b.morton / 2 ^ (32 - 2 * v) == prefix_ / 2 ^ (32 - 2 * v))

/-- Zone parameters that R246 to R248 refuse, with the code (assumption log 15). -/
def zoneFault (s : State) (z : Zone) : Option GridResult :=
  if z.level < 2 ∨ min 12 s.grid.cfg.resvLevel < z.level ∨ z.prefix_.toNat % 2 ^ (32 - 2 * z.level) ≠ 0 then some .badParam
  else if z.id = 0 ∨ z.id = 0xFFFF ∨ z.attr.toNat % 2 = 1 ∨ 256 ≤ z.attr.toNat ∨ (z.cls = 2 ∧ z.attr ≠ 0) then some .badParam
  else if ¬ (z.cls = 1 ∨ z.cls = 2) then some .badZone
  else if s.grid.zones.any (fun x => (x.level == z.level && x.prefix_ == z.prefix_) || x.id == z.id) then some .badZone
  else if 1024 ≤ s.grid.zones.length then some .storeFull
  else none

/-- The ZONE entry of a zone. -/
def zoneEntry (z : Zone) : LodeEntry :=
  { written := true, hit := true, source := 0xFF, key := { len := 2 * z.level, val := z.prefix_.toNat / 2 ^ (32 - 2 * z.level) }
    result := .zone (BitVec.ofNat 16 z.id) z.cls z.attr }

/-- A zone enters the list and the ZONE table, or none when the table is full. -/
def addZone (z : Zone) (s : State) : Option State :=
  match zoneTable s with
  | none => none
  | some d => (writeEntry d (zoneEntry z) s).map (fun t => { t with grid.zones := t.grid.zones ++ [z] })

/-- TABLE_FULL of the ZONE table. -/
def zoneTableFull (s : State) : State := match zoneTable s with | some d => tableFull d s | none => s

/-- ZONE_ADD (R248, R249). -/
def zoneAdd (c : GridCmd) (s : State) : GridRun :=
  gridIn s true fun s =>
    let b := c.body
    let z : Zone := { level := byteAt b 4, cls := byteAt b 5, id := leAt b 2 2, prefix_ := BitVec.ofNat 32 (leAt b 0x0C 4)
                      attr := BitVec.ofNat 32 (leAt b 0x20 4) }
    match zoneFault s z with
    | some r => refuse s r
    | none =>
      if zoneInUse s z.level z.prefix_.toNat then refuse s .zoneInUse
      else match addZone z s with
        | some t => ({}, t)
        | none => (gridRes .tableFull, zoneTableFull s)

/-- ZONE_ADD. -/
def execZoneAdd (src : CmdSrc) (s : State) : Out := .next (gridBus s (gridCmd 0x06 src zoneAdd))

/-- ZONE_DEL (R248, R249). -/
def zoneDel (c : GridCmd) (s : State) : GridRun :=
  gridIn s true fun s =>
    match s.grid.zones.find? (fun z => z.id == leAt c.body 2 2), zoneTable s with
    | some z, some d =>
      if zoneInUse s z.level z.prefix_.toNat then refuse s .zoneInUse
      else
        let t := deleteWritten d (zoneEntry z).key s
        ({}, { t with grid.zones := t.grid.zones.filter (fun x => x.id != z.id) })
    | _, _ => refuse s .notFound

/-- ZONE_DEL. -/
def execZoneDel (src : CmdSrc) (s : State) : Out := .next (gridBus s (gridCmd 0x07 src zoneDel))

/-- The smallest M of a machine's live allotments, 0xFFFF for none. -/
def leastMargin (s : State) (m : Nat) : Nat := ((machAllots s m).map Allot.margin).foldl min 0xFFFF

/-- The margin check of R271 fails. -/
def marginFails (s : State) (m : Nat) : Bool :=
  (gridMach s m).stale || (gridMach s m).hpl == 0xFFFF || decide (leastMargin s m < (gridMach s m).hpl)

/-- An interval is the machine's, USED and contains a time. -/
def holdsTime (m t : Nat) : Option ResvInterval → Bool
  | some v => v.mach == m && !before48 t v.start.toNat && before48 t v.end_.toNat
  | none => false

/-- The position check of R271 fails. -/
def positionFails (s : State) (m : Nat) : Bool :=
  let g := gridMach s m
  match pointCell s.grid.cfg.resvLevel g.posE g.posN with
  | none => true
  | some c => !(pipesOf s .resv).any (fun p => (cellIntervals s c p).any (holdsTime m g.epoch))

/-- RESUME (R272). -/
def resume (c : GridCmd) (s : State) : GridRun :=
  gridIn s true fun s =>
    let m := byteAt c.body 1
    if 127 < m then refuse s .badParam
    else if machAllots s m ≠ [] ∧ (marginFails s m ∨ positionFails s m) then refuse s .notClear
    else ({}, setGridMach m (fun g => { g with annealMargin := false, annealOutside := false }) s)

/-- RESUME. -/
def execResume (src : CmdSrc) (s : State) : Out := .next (gridBus s (gridCmd 0x08 src resume))

/-- Every OCC entry removed in both pipelines (R243). -/
def clearOcc (s : State) : State :=
  { s with lode.insts := s.lode.insts.map (fun (i : Inst) =>
      if (tableDesc s i.table).map TableDesc.content = some .occ then { i with entries := [] } else i) }

/-- Modes that may change the origin (R243). -/
def originMode (s : State) : Bool := s.sys.mode == .survey || s.sys.mode == .quenched || s.sys.mode == .maintenance

/-- ORIGIN_SET and ORIGIN_CLEAR (R243, R244). -/
def originTo (o : Option Ecef) (s : State) : GridRun :=
  gridIn s (originMode s) fun s =>
    if liveAllots s ≠ [] then refuse s .inUse else ({}, clearOcc { s with grid.origin := o })

/-- ORIGIN_SET. -/
def execOriginSet (src : CmdSrc) (s : State) : Out :=
  .next (gridBus s (gridCmd 0x09 src (fun _ s => originTo (some s.grid.staged) s)))

/-- ORIGIN_CLEAR. -/
def execOriginClear (src : CmdSrc) (s : State) : Out := .next (gridBus s (gridCmd 0x0A src (fun _ s => originTo none s)))

/-- SETPT's block index. -/
def bSETPT : Nat := 0x07

/-- One event of a SETPT counter. -/
def bumpSetpt (ev : Nat) (s : State) : State := bump 0x070054 ev s

/-- The set-point engine requests a quench of a machine (R299). -/
def setptQuench (m : Nat) (s : State) : State := machineQuench m (raise bSETPT 4 (bumpSetpt 4 s))

/-- What an EXTEND by d metres of a chain's last allotment comes to (R274, R265). -/
def extendRun (a : Allot) (d : Nat) (s : State) : GridRun :=
  let stop := max a.end_.toNat (now s + 30 * 10 ^ 9)
  if pastAge s stop then refuse s .ageLimit
  else
    let q : AllotAsk := { mach := a.mach, op := a.op, partner := 0xFF, start := now s, stop := stop }
    let v := s.grid.cfg.resvLevel
    let l := sweptCells v (sweepExt (footprint s a.mach) a.margin a.track a.ext (d * 1000))
    match sweepFault s false q v l with
    | some e => (e, s)
    | none =>
      let cells := l.map (toCell v)
      match commitCells (intervalFor a.mach a.id.toNat q.start stop) cells s with
      | none => ({ result := .tableFull, cells := l.length }, resvTableFull s)
      | some t =>
        let t := { t with grid.allots := t.grid.allots.map (fun (x : Allot) =>
          if x.id = a.id then { x with ext := x.ext + d * 1000, end_ := BitVec.ofNat 64 stop, cells := firsts (x.cells ++ cells) } else x) }
        ({ allotId := a.id.toNat, cells := l.length }, bumpBy 0x060054 2 l.length t)

/-- The oldest EXTEND request of the set-point engine runs (R274, R299): a refusal, or a release of its cycle (R261), makes the engine
request a quench. A chain that has ended meanwhile leaves nothing to extend: NOT_FOUND (DESIGN CHOICE, assumption log 16). -/
def extend (s : State) : State :=
  match s.setpt.extends_ with
  | [] => s
  | x :: l =>
    if underTest s .allocator ∨ ¬ gridOn s then s
    else
      let s := expireAllots { s with setpt.extends_ := l }
      let r : GridRun :=
        if refusedMode s then (gridRes .mode, s)
        else if x.lost ∨ s.grid.intake.any (extLoses s x) then (gridRes .conflictLost, bumpGrid 0x0A s)
        else match (reservedChain s x.mach).getLast? with
          | some a => extendRun a x.dist s
          | none => (gridRes .notFound, s)
      let ok := r.1.result = .done
      let s := reportAllot r.1 (s.clk - x.at_) (bumpGrid (if ok then 7 else 8) r.2)
      if ok then s else setptQuench x.mach (raise bGRID 5 s)

/-- EXTEND. -/
def execExtend (s : State) : Out := .next (gridBus s extend)

/-- A machine's live allotments end without their intervals, and a machine not at standstill is quenched (R264). -/
def lapse (m : Nat) (s : State) : State :=
  let s := setGridMach m (fun g => { g with lapsed := true }) (dropRecords (fun a => a.mach == m) s)
  let s := raise bGRID 3 (bumpGrid 6 s)
  if (spMach s m).still then s else machineQuench m (raise bGRID 6 (bumpGrid 5 s))

/-- LAPSE (R264): LAPSE_MS after a machine's last good solution. -/
def execLapse (mach : Fin 128) (s : State) : Out :=
  .next (gridBus s fun s =>
    if ¬ gridRuns s ∨ machAllots s mach.val = [] then s
    else
      let due := match (gridMach s mach.val).goodAt with | some t => t + s.grid.cfg.lapseMs * 10 ^ 6 | none => s.clk
      lapse mach.val (advanceClk due s))

/-- An interval is USED, has not ended, and its machine passes a test. -/
def ivWith (s : State) (p : Nat → Bool) : Option ResvInterval → Bool
  | some v => !intervalOver (now s) (some v) && p v.mach
  | none => false

/-- One RESV entry refreshed: a hit of an entry with AGE set (R227), and the intervals of LAPSED machines cleared (R263). -/
def refreshEntry (s : State) (e : LodeEntry) : LodeEntry :=
  if (resvOf e).any (ivWith s (reporting s)) then
    let x := clearIvs (fun v => (gridMach s v.mach).lapsed) e
    { x with hit := x.hit || x.age }
  else e

/-- RESV_REFRESH (R263): every entry that holds an interval of a reporting machine is hit. -/
def resvRefresh (s : State) : State :=
  match resvTable s with
  | none => s
  | some d =>
    let n := ((s.lode.copy.filter (fun x => x.1 == d.id && (resvOf x.2).any (ivWith s (reporting s))))).length
    let t := { s with lode := { s.lode with
      insts := s.lode.insts.map (fun (i : Inst) =>
        if i.table = d.id then { i with entries := i.entries.map (fun x => (x.1, refreshEntry s x.2))
                                        lost := i.lost.map (fun x => (x.1, refreshEntry s x.2)) } else i)
      copy := s.lode.copy.map (fun x => if x.1 = d.id then (x.1, refreshEntry s x.2) else x) } }
    bumpBy 0x060054 3 n t

/-- RESV_REFRESH. -/
def execResvRefresh (s : State) : Out := .next (gridBus s fun s => if gridRuns s then resvRefresh s else s)

/-- ALLOTMENT_END (R262): the END of an allotment becomes past. -/
def execAllotmentEnd (id : BitVec 16) (s : State) : Out :=
  .next (gridBus s fun s =>
    match s.grid.allots.find? (fun a => a.id == id) with
    | some a => let s := advanceTo a.end_.toNat s; dropRecords (fun x => x.id == id && !liveAllot s x) s
    | none => s)

/-- The grid starts taking solutions (R270). -/
def gridStart (s : State) : State := { s with grid := { s.grid with occStart := s.clk, occCold := true } }

/-- OCC_COLD_END (R270): 1 s after that start. -/
def execOccColdEnd (s : State) : Out :=
  .next (gridBus s fun s =>
    if s.grid.occCold then let s := advanceClk (s.grid.occStart + 10 ^ 9) s; { s with grid.occCold := false } else s)

/-- A margin or position check has failed: the anneal request is raised (R271). -/
def askAnneal (m : Nat) (margin outside : Bool) (s : State) : State :=
  let g := gridMach s m
  let newly := (margin && !g.annealMargin) || (outside && !g.annealOutside)
  let s := setGridMach m (fun g => { g with annealMargin := g.annealMargin || margin, annealOutside := g.annealOutside || outside }) s
  if newly then raise bGRID 2 (bumpGrid 4 s) else s

/-- Supervision of a machine with a live allotment (R271). A stale marker and a solution without a fix carry no position, and fail by
their margin. -/
def supervise (m : Nat) (s : State) : State :=
  if machAllots s m = [] then s else askAnneal m (marginFails s m) ((gridMach s m).fixOk && !(gridMach s m).stale && positionFails s m) s

/-- The occupied area of a machine (R267). -/
def occupiedArea (s : State) (m h : Nat) : Piece :=
  let g := gridMach s m
  let d : Vertex := if g.headE = 0 ∧ g.headN = 0 then { e := 0, n := 1 } else { e := g.headE, n := g.headN }
  let fp := footprint s m
  .rect { e := g.posE, n := g.posN } d (-(fp.rear + h : Nat), 0) ((fp.front + h : Nat), 0) (fp.halfWidth + h)

/-- Codes of the cells at OCC_LEVEL that an area meets, ascending (R267, R268). -/
def occCodes (s : State) (x : Piece) : List Nat :=
  let v := s.grid.cfg.occLevel
  sortBy (fun a b => decide (a ≤ b)) (((pieceCells v x).filter (inGrid v)).map (fun c => (toCell v c).code))

/-- The OCC table, in whichever pipelines it stands (R205, R210). -/
def occTable (s : State) : Option TableDesc := s.lode.tables.find? (fun t => t.content == .occ)

/-- Occupancy learned from a solution: one request for each cell, in ascending cell code, issued as the learn queues have room
(R267, R268). -/
def learnOcc (m epoch : Nat) (s : State) : State :=
  match occTable s, regBit s 0x060000 0 with
  | some d, true =>
    let h := min (gridMach s m).hpl 2000
    let l := occCodes s (occupiedArea s m h)
    let rs : List LearnReq := l.map (fun code =>
      { table := d.id, key := { len := 0, val := code }, source := m, result := .occ (BitVec.ofNat 48 epoch) h })
    let s := bumpBy 0x060054 9 l.length s
    issueOcc (s.grid.occWait ++ rs) s
  | _, _ => s

/-- A solution or stale marker reaches the grid (R263, R264, R267, R271). -/
def gridSolution (x : Solution) (s : State) : State :=
  if ¬ gridRuns s then s
  else
    let m := x.mach
    let good := x.fix ≠ 0 ∧ x.hpl ≠ 0xFFFF
    let fast := 10000 ≤ (x.velE * x.velE + x.velN * x.velN).toNat ∧ x.fix ≠ 0
    let s := setGridMach m (fun g => { g with
      hpl := x.hpl, fixOk := decide (x.fix ≠ 0), stale := x.sflags.toNat.testBit 0
      posE := if x.fix ≠ 0 then x.posE else g.posE, posN := if x.fix ≠ 0 then x.posN else g.posN
      epoch := if x.fix ≠ 0 then x.epochTime else g.epoch
      goodAt := if good then some s.clk else g.goodAt, lapsed := g.lapsed && x.fix == 0
      headE := if fast then x.velE else g.headE, headN := if fast then x.velN else g.headN }) s
    let s := supervise m s
    if good then learnOcc m x.epochTime s else s

end Sys2Proof.Machine
end

