-- ==== Sys2Proof/Machine/Plan.lean ====
section
/-! DEFINITION. Plan.lean: arithmetic of the set-point engine: the path of a chain, curvature, stop distances, the step of a
profile tick and the code (09_setpoint_engine.md R281 to R289, R293, R295, R299). Arc lengths are in pm, speeds in nm/s,
accelerations in µm/s², curvature in 10^−9 m^−1 (assumption log 20). -/

namespace Sys2Proof.Machine

open Sys2Proof

/-- Length of a segment in pm. -/
def segPm (a b : Vertex) : Nat := isqrt (segSq a b * 10 ^ 18)

/-- Equal neighbours of a list of vertices taken once. -/
def dedupe : List Vertex → List Vertex
  | a :: b :: l => if a = b then dedupe (b :: l) else a :: dedupe (b :: l)
  | l => l

/-- The vertices of an allotment's track, with its extension continued straight on (R274). -/
def allotPath (a : Allot) : List Vertex :=
  match a.track.reverse with
  | b :: c :: _ =>
    if a.ext = 0 then a.track
    else
      let n := segPm c b
      let on (x y : Int) : Int := x + roundDiv ((x - y) * a.ext * 10 ^ 9) (max 1 n)
      a.track ++ [{ e := on b.e c.e, n := on b.n c.n }]
  | _ => a.track

/-- Arc length of each vertex from the first. -/
def arcsFrom : Nat → List Vertex → List Nat
  | s, a :: b :: l => s :: arcsFrom (s + segPm a b) (b :: l)
  | s, [_] => [s]
  | _, [] => []

/-- Length of a run of vertices in pm. -/
def runLength (l : List Vertex) : Nat := (arcsFrom 0 l).getLastD 0

/-- Curvature at the interior vertex b of a run (R285): the turning angle over half the sum of the adjoining lengths. -/
def curvAt (a b c : Vertex) : Int :=
  let x1 := b.e - a.e
  let y1 := b.n - a.n
  let x2 := c.e - b.e
  let y2 := c.n - b.n
  roundDiv (angleOf (x1 * y2 - y1 * x2) (x1 * x2 + y1 * y2) * 2 * 10 ^ 9) (max 1 (segPm a b + segPm b c))

/-- Curvature at each vertex after the first; 0 at the last (R285). -/
def curvsFrom : List Vertex → List Int
  | a :: b :: c :: l => curvAt a b c :: curvsFrom (b :: c :: l)
  | [_, _] => [0]
  | _ => []

/-- The path of a chain: vertices, arc lengths and curvatures. -/
structure Path where
  pts : List Vertex := []
  arcs : List Nat := []
  curv : List Int := []
  deriving DecidableEq, Repr

/-- The path of a chain (R281, R285). -/
def pathOf (l : List Allot) : Path :=
  let v := dedupe (l.flatMap allotPath)
  { pts := v, arcs := arcsFrom 0 v, curv := if v = [] then [] else 0 :: curvsFrom v }

/-- End arc length of a path. -/
def Path.length (p : Path) : Nat := p.arcs.getLastD 0

/-- Arc lengths with curvatures. -/
def Path.knots (p : Path) : List (Nat × Int) := p.arcs.zip p.curv

/-- Curvature at an arc length, linear between vertices (R285). -/
def curvIn (x : Nat) : List (Nat × Int) → Int
  | (a, k) :: (b, m) :: l => if x < b then (if x ≤ a then k else k + roundDiv ((m - k) * ((x - a : Nat) : Int)) (max 1 (b - a))) else curvIn x ((b, m) :: l)
  | [(_, k)] => k
  | [] => 0

/-- The greatest magnitude of curvature from x over a distance d. -/
def curvMax (p : Path) (x d : Nat) : Nat :=
  ((p.knots.filter (fun q => decide (x ≤ q.1 ∧ q.1 ≤ x + d))).map (fun q => q.2.natAbs)).foldl max
    (max (curvIn x p.knots).natAbs (curvIn (x + d) p.knots).natAbs)

/-- A point's projection onto one segment: squared distance as a fraction in mm², and the part of the segment as a
fraction. -/
def projSeg (q a b : Vertex) : (Nat × Nat) × (Nat × Nat) :=
  let dx := b.e - a.e
  let dy := b.n - a.n
  let len := (dx * dx + dy * dy).toNat
  let t := (q.e - a.e) * dx + (q.n - a.n) * dy
  if t ≤ 0 ∨ len = 0 then ((segSq a q, 1), (0, 1))
  else if (len : Int) ≤ t then ((segSq b q, 1), (1, 1))
  else
    let c := ((q.e - a.e) * dy - (q.n - a.n) * dx).natAbs
    ((c * c, len), (t.toNat, len))

/-- What a projection finds: the squared distance, the arc length, and the direction of the segment. -/
structure Proj where
  num : Nat
  den : Nat
  arc : Nat
  dir : Vertex
  len : Nat
  deriving DecidableEq, Repr

/-- The nearest point of a run; among equals, the one of least arc length (R281). -/
def projGo (q : Vertex) : Nat → Option Proj → List Vertex → Option Proj
  | s, best, a :: b :: l =>
    let r := projSeg q a b
    let n := segPm a b
    let x : Proj := { num := r.1.1, den := r.1.2, arc := s + n * r.2.1 / r.2.2, dir := { e := b.e - a.e, n := b.n - a.n }, len := n }
    let best' := match best with
      | some y => if x.num * y.den < y.num * x.den then x else y
      | none => x
    projGo q (s + n) (some best') (b :: l)
  | _, best, _ => best

/-- The projection of a point onto a path (R281). -/
def project (p : Path) (q : Vertex) : Option Proj := projGo q 0 none p.pts

/-- Speed along a segment of a velocity in mm/s, in nm/s (R281). -/
def along (x : Proj) (ve vn : Int) : Int := (ve * x.dir.e + vn * x.dir.n) * 10 ^ 15 / (max 1 x.len : Nat)

/-- Limits a machine is planned by: speed in nm/s; accelerations in mm/s²; jerk in mm/s³ (R280, R300). -/
structure SpLimits where
  vLim : Nat
  aMax : Nat
  dNorm : Nat
  dAnneal : Nat
  dHard : Nat
  jerk : Nat
  latA : Nat
  deriving DecidableEq, Repr

/-- A class's limits as lowered for one machine (R279, R300). -/
def limitsOf (c : SpClass) (x : SpMach) : SpLimits :=
  let v := if x.reverse then c.vRev else c.vFwd
  { vLim := (if x.vMax = 0 then v else min v x.vMax) * 10 ^ 6, aMax := c.aMax
    dNorm := if x.dNorm = 0 then c.dNorm else x.dNorm
    dAnneal := if x.dAnneal = 0 then c.dAnneal else x.dAnneal
    dHard := c.dHard, jerk := max 1 c.jMax, latA := c.latA }

/-- The stop distance for speed vp pm/s, acceleration ap pm/s², peak deceleration p pm/s² and jerk j pm/s³ when the
acceleration has to fall to −p: exact, rounded up to a pm (R282). -/
def stopFall (vp : Nat) (ap : Int) (p j : Nat) : Int :=
  let n := ap + p
  let w : Int := 2 * j * vp + ap * ap - (p * p : Nat)
  let a := 4 * p * (6 * vp * n * j + 3 * ap * n * n - n * n * n + (p * p * p : Nat))
  let b := 3 * (w * w - (p * p * p * p : Nat))
  let r : Int := -(-(a + b) / ((24 * j * j * max 1 p : Nat) : Int))
  r

/-- The same when the acceleration stands below −p and has to rise to it. -/
def stopRise (vp : Nat) (ap : Int) (p j : Nat) : Int :=
  let n := -(ap + p)
  let w : Int := 2 * j * vp - ap * ap + (p * p : Nat)
  let a := 4 * p * (6 * vp * n * j + 3 * ap * n * n + n * n * n + (p * p * p : Nat))
  let b := 3 * (w * w - (p * p * p * p : Nat))
  let r : Int := -(-(a + b) / ((24 * j * j * max 1 p : Nat) : Int))
  r

/-- The stop distance D(v, a, d) in pm (R282): v in nm/s, a in µm/s², d in mm/s², j in mm/s³. A deceleration too great for
the speed is let out at J_MAX until the speed is 0. -/
def stopDist (v a : Int) (d jerk : Nat) : Nat :=
  let vp := v.toNat * 1000
  let ap := a * 10 ^ 6
  let j : Nat := jerk * 10 ^ 9
  let p : Nat := d * 10 ^ 9
  let jv : Int := ((2 * j * vp : Nat) : Int)
  let out := vp * ap.natAbs / max 1 j
  if ap + (p : Int) < 0 then
    if jv - ap * ap < 0 then out else (stopRise vp ap p j).toNat
  else if ((2 * (p * p) : Nat) : Int) ≤ jv + ap * ap then (stopFall vp ap p j).toNat
  else
    let k := isqrt ((jv + ap * ap) / 2).toNat
    if ap + (k : Int) < 0 then out else (stopFall vp ap k j).toNat

/-- Time of that ramp in ns (R284). -/
def rampNs (v a : Int) (d jerk : Nat) : Nat :=
  let p := d * 1000
  let q := 2 * (jerk : Int) * v + a * a
  if 2 * (p * p : Nat) ≤ q then
    ((a + p) * 10 ^ 6 / jerk + (2 * v * jerk + a * a - 2 * (p * p : Nat)) * 1000 / (2 * jerk * max 1 d) + (p : Int) * 10 ^ 6 / jerk).toNat
  else
    let k := isqrt (q / 2).toNat
    ((a + 2 * k) * 10 ^ 6 / jerk).toNat

/-- The least deceleration in (lo, hi] whose stop distance fits l, by n halvings; hi is taken to fit. -/
def leastDec (v a : Int) (l jerk : Nat) : Nat → Nat → Nat → Nat
  | 0, _, hi => hi
  | n + 1, lo, hi =>
    if hi ≤ lo + 1 then hi
    else
      let m := (lo + hi) / 2
      if stopDist v a m jerk ≤ l then leastDec v a l jerk n lo m else leastDec v a l jerk n m hi

/-- Speed, acceleration and arc length of a machine at a tick. -/
structure Kin where
  s : Int
  v : Int
  a : Int
  deriving DecidableEq, Repr

/-- One tick at a new acceleration, reached evenly over the tick: speed and arc length follow. -/
def kinStep (k : Kin) (a' : Int) : Kin :=
  let v' := k.v + (k.a + a') / 2
  if v' ≤ 0 then { s := k.s + max 0 (k.v / 2), v := 0, a := 0 }
  else { s := k.s + k.v + (2 * k.a + a') / 6, v := v', a := a' }

/-- One tick of the ramp of R282 at deceleration d. -/
def brakeStep (k : Kin) (d jerk : Nat) : Kin :=
  let j : Int := jerk
  let dec : Int := d * 1000
  if k.a < -dec then kinStep k (min (-dec) (k.a + j))
  else if k.a < 0 ∧ 2 * j * k.v ≤ k.a * k.a then kinStep k (min 0 (k.a + j))
  else kinStep k (max (-dec) (k.a - j))

/-- A next step keeps the rules of R283. Decelerations reach dMax. -/
def stepOk (x : SpLimits) (dMax : Nat) (p : Path) (k k' : Kin) : Bool :=
  let d := stopDist k'.v k'.a x.dNorm x.jerk
  decide (k'.v ≤ x.vLim) &&
  decide (k'.v.toNat * k'.v.toNat * curvMax p k'.s.toNat d ≤ x.latA * 10 ^ 24) &&
  decide (k'.a ≤ x.aMax * 1000 ∧ -(dMax * 1000 : Int) ≤ k'.a ∧ (k'.a - k.a).natAbs ≤ x.jerk) &&
  decide ((d : Int) ≤ p.length - k'.s)

/-- The engine's own choice of the next step: any that keeps R283, else the ramp at D_NORM. No rule says which, so the
choice is free (assumption log 20). -/
def freeStep (x : SpLimits) (p : Path) (free : Nat) (k : Kin) : Kin :=
  let k' := kinStep k (k.a - x.jerk + (free % (2 * x.jerk + 1) : Nat))
  if stepOk x x.dNorm p k k' then k' else brakeStep k x.dNorm x.jerk

/-- 2^16 times h(u) of R295, u = y / b. -/
def blendH (y : Int) (b : Nat) : Int :=
  if y ≤ 0 then 0
  else if (b : Int) ≤ y then 2 ^ 16
  else (3 * y * y * b - 2 * y * y * y) * 2 ^ 16 / (b * b * b : Nat)

/-- The integral of h over master travel y, in the unit of y. -/
def blendSum (y : Int) (b : Nat) : Int :=
  if y ≤ 0 then 0
  else if (b : Int) ≤ y then y - b / 2
  else (2 * b * y * y * y - y * y * y * y) / (2 * b * b * b : Nat)

/-- Schedule entries as steps of ratio at master positions in pm from x_m0: position, blend in pm, change of ratio. -/
def schedSteps (base : BitVec 32) (frac : Int) : Int → List SchedEntry → List (Int × Nat × Int)
  | _, [] => []
  | r, e :: l =>
    ((e.pos - base).toInt * 10 ^ 9 - frac, e.blend * 10 ^ 9, (e.ratio.toNat : Int) - r) :: schedSteps base frac e.ratio.toNat l

/-- r(x) in Q16.16 at master travel x (R293, R295). -/
def ratioAt (r0 : Nat) (steps : List (Int × Nat × Int)) (x : Int) : Int :=
  r0 + (steps.map (fun t => t.2.2 * blendH (x - t.1) t.2.1 / 2 ^ 16)).sum

/-- The integral of r from x_m0, in pm of follower travel (R293, R295). -/
def ratioSum (r0 : Nat) (steps : List (Int × Nat × Int)) (x : Int) : Int :=
  (r0 * x + (steps.map (fun t => t.2.2 * (blendSum (x - t.1) t.2.1 - blendSum (-t.1) t.2.1))).sum) / 2 ^ 16

/-- Base of a rung in mm/s (R286). -/
def rungBase (r : Nat) : Nat := 128 * (2 ^ r - 1)

/-- Step of a rung in mm/s (R286). -/
def rungStep (r : Nat) : Nat := 2 ^ r

/-- The highest rung whose base is at most v mm/s (R286). -/
def rungOf (v : Nat) : Nat := (List.range 8).foldl (fun b r => if rungBase r ≤ v then r else b) 0

/-- Candidates of a direction at a rung (R287). -/
def candidates_ (l : List SpMean) (reverse : Bool) (r : Nat) : List SpMean :=
  l.filter (fun x => x.reverse == reverse && x.rungs.toNat.testBit r)

/-- The highest rung at or below r that has candidates (R287). -/
def rungDown (l : List SpMean) (reverse : Bool) : Nat → Option Nat
  | 0 => if candidates_ l reverse 0 = [] then none else some 0
  | r + 1 => if candidates_ l reverse (r + 1) = [] then rungDown l reverse r else some (r + 1)

/-- The candidate whose CURV lies nearest κ, the lower index where two lie equally near (R287). -/
def nearest (k : Int) : List SpMean → Option SpMean
  | [] => none
  | x :: l => match nearest k l with
    | none => some x
    | some y =>
      let dx := (x.curv * 1000 - k).natAbs
      let dy := (y.curv * 1000 - k).natAbs
      if dx < dy ∨ (dx = dy ∧ x.index ≤ y.index) then some x else some y

/-- The code of a planned speed and curvature (R286, R287); the last code's curvature at rung 0 when its direction has no
candidate (assumption log 20). -/
def codeOf (l : List SpMean) (reverse : Bool) (v : Nat) (k : Int) (last : BitVec 16) : BitVec 16 :=
  let mm := v / 10 ^ 6
  let r := rungOf mm
  match rungDown l reverse r with
  | none => BitVec.ofNat 16 (b2n reverse * 2 ^ 15 + last.toNat % 32)
  | some q =>
    let idx := if q = r then min 127 ((mm - rungBase r) / rungStep r) else 127
    let c := match nearest k (candidates_ l reverse q) with | some x => x.index | none => 0
    BitVec.ofNat 16 (b2n reverse * 2 ^ 15 + q * 2 ^ 12 + idx * 32 + c)

/-- The standstill code (R289). -/
def stillCode (last : BitVec 16) : BitVec 16 := last &&& 0x801F

end Sys2Proof.Machine
end

