-- ==== Sys2Proof/Machine/TimeStep.lean ====
section
/-! DEFINITION. TimeStep.lean: a step of served time with what it does in other blocks, sources that become valid, rate
and correction writes, and the quality of served time (04_timebase.md R110 to R119, R132, R133, R587). -/

namespace Sys2Proof.Machine

open Sys2Proof

/-- A held frame's launch time is past. -/
def launchPast (s : State) (f : QFrame) : Bool := match f.launch with | some t => isPast t.toNat (now s) | none => false

/-- Frames of one queue whose launch time a step has put in the past are discarded, each counted as a refusal of its
queue (R119). -/
def dropLaunches (k : Nat) (s : State) : State :=
  let n := ((swQ s k).frames.filter (launchPast s)).length
  if n = 0 then s
  else
    let s := setQ k (fun x => { x with frames := x.frames.filter (fun f => !launchPast s f) }) s
    (List.range n).foldl (fun s _ => refuseCopy k 0xA s) (withPause (swAbove k) s)

/-- A periodic task's delay entry after a step: the first wake of its sequence that lies in the future (R469). -/
def stepDelay (s : State) (e : DelayEntry) : DelayEntry :=
  let p := match desc s e.task with | some d => d.period.toNat * 10000 | none => 0
  if p = 0 then e
  else
    let ahead := (e.wake.toNat + 2 ^ 48 - now s % 2 ^ 48) % 2 ^ 48
    let w := if 0 < ahead ∧ ahead < 2 ^ 47 then e.wake.toNat + 2 ^ 48 - p * ((ahead - 1) / p) else nextWake s e p
    { e with wake := BitVec.ofNat 48 w }

/-- What a step of served time does outside the timebase: launch frames (R119), allotments (R266), delay entries (R469), and ticks of other
blocks, which next occur at the first multiple at or after the new time (R26). -/
def stepHooks (s : State) : State :=
  let s := (s.switch.queues.map Prod.fst).foldl (fun s k => dropLaunches k s) s
  let s := if gridRuns s then endAllots (fun _ => true) s else s
  let t := now s
  { s with
    quench := { s.quench with ethNext := nextIndex t (10 ^ 7) }
    dispatch := { s.dispatch with delays := s.dispatch.delays.map (stepDelay s) }
    assay := { s.assay with
      nextCkpt := if s.assay.ckptMs = 0 then 0 else nextIndex t (s.assay.ckptMs * 10 ^ 6)
      nextInt := if s.assay.intervalS = 0 then 0 else nextIndex t (s.assay.intervalS * 10 ^ 9) } }

/-- The served times that the engine matches against machine epochs, after a step by d ns (R200). -/
def stepBase (d : Int) (r : Rtk) : Rtk :=
  let on (t : Nat) : Nat := ((t : Int) + d).toNat
  { r with base := r.base.map (fun (b : BaseEpoch) => { b with time := on b.time }), lastBase := r.lastBase.map on, lastClean := r.lastClean.map on
           machs := r.machs.map (fun p => (p.1, { p.2 with filter := p.2.filter.map (fun (f : RtkFilter) =>
             { f with slips := f.slips.map (fun x => (x.1, on x.2)) }) })) }

/-- A domain steps by e ns, with all that a step of served time does. -/
def stepAll (a : Bool) (e : Int) (s : State) : State :=
  let t := stepDom a e s
  if s.time.selA = a then stepHooks { t with rtk := stepBase ((now t : Int) - now s) t.rtk } else t

/-- A step commanded by the two STEP registers (R117, R118). -/
def stepCmd (hi : Word) (s : State) : State :=
  let e := signedOf 64 (s.time.stepLo.toNat + hi.toNat * 2 ^ 32)
  if stepMode s.sys.mode then stepAll s.time.selA e s
  else raise bTIME 4 { s with time.stepResult := .mode }

/-- STEP (R117, R118): a write of TIME_STEP_HI. -/
def execStep (hi : Word) (s : State) : Out := .next (bus s (stepCmd hi))

/-- A return error above 100 µs is reported (R133). -/
def rejoinSlow (a : Bool) (e : Int) (s : State) : State :=
  if e.natAbs ≤ 100000 then setDom a { dom s a with slow := false } s
  else note 0x0240 2 (b2n a) (unsignedOf 32 (satSigned 32 e)) 0 (raise bTIME 3 (setDom a { dom s a with slow := true } s))

/-- The domain steps by its error instead of slewing (R133, R111). -/
def returnSteps (s : State) (e : Int) : Bool :=
  1000 < e.natAbs && (s.sys.mode == .servitor || (stepMode s.sys.mode && regBit s 0x020000 5))

/-- A domain's source becomes valid with error e (R133). The domain is not selected by that, even while the selected one is invalid:
R134 holds against the last sentence of R112 (DESIGN CHOICE, assumption log 7). -/
def sourceValid (a : Bool) (e : Int) (s : State) : State :=
  if (dom s a).valid then s
  else
    let s := setDom a { dom s a with valid := true, everValid := true, validAt := s.clk, lastWrite := s.clk } s
    let s := raise bTIME 2 { s with time.rejoinErr := e }
    let s := rejoinSlow a e (setPend a (e * q40) s)
    if returnSteps s e then stepAll a e s else s

/-- A source may become valid by what it measures (R110, R133): GNSS under its conditions, TWIN by an exchange. SOFT becomes valid by
a RATE or CORR write alone. -/
def sourceMay (s : State) (a : Bool) : Bool := if sourceOf s a = 2 then false else sourceStands s a (sourceOf s a)

/-- SOURCE_VALID (R133): the source of a domain becomes valid with error e, in ns. -/
def execSourceValid (alt : Bool) (e : Int) (s : State) : Out :=
  .next (bus s fun s => if sourceMay s alt then sourceValid alt e s else s)

/-- A rate write is too far from the rate in force (R116). -/
def rateJump (s : State) (a : Bool) (r : Word) : Bool :=
  moveMode s.sys.mode && decide (slewUnits s.time < (r.toInt - (dom s a).rate.toInt).natAbs)

/-- A write of TIME_DOM_x_RATE (R110, R116, R133). -/
def rateWrite (a : Bool) (r : Word) (s : State) : State :=
  if sourceOf s a = 1 ∨ sourceOf s a = 3 then s
  else if rateJump s a r then raise bTIME 14 s
  else
    let s := setDom a { (dom s a).putRate s.clk r with lastWrite := s.clk } s
    if sourceOf s a = 2 ∧ softOk s a then sourceValid a 0 s else s

/-- RATE_WRITE. -/
def execRateWrite (alt : Bool) (rate : Word) (s : State) : Out := .next (bus s (rateWrite alt rate))

/-- A domain in holdover takes no new correction (R131), but for the one that makes a SOFT source valid again (R133). -/
def softHeld (s : State) (a : Bool) : Bool := !(dom s a).valid && (dom s a).everValid && !(sourceOf s a == 2 && softOk s a)

/-- A write of TIME_DOM_x_CORR (R114, R131, R133). -/
def corrWrite (a : Bool) (c : Word) (s : State) : State :=
  if sourceOf s a = 1 ∨ sourceOf s a = 3 ∨ softHeld s a = true then s
  else
    let s := setDom a { dom s a with lastWrite := s.clk } s
    if sourceOf s a = 2 ∧ softOk s a ∧ ¬ (dom s a).valid then sourceValid a c.toInt s
    else setPend a ((dom s a).pend40 + c.toInt * q40) s

/-- CORR_WRITE. -/
def execCorrWrite (alt : Bool) (corr : Word) (s : State) : Out := .next (bus s (corrWrite alt corr))

/-- Holdover code for e ns since the loss (R132). -/
def holdCode (e : Nat) : Nat :=
  if e ≤ 100 * 10 ^ 9 then 2 else if e ≤ 1000 * 10 ^ 9 then 3 else if e ≤ 14400 * 10 ^ 9 then 4
  else if e ≤ 86400 * 10 ^ 9 then 5 else 6

/-- TIME_STATUS.QUALITY (R132). For a TCXO each elapsed time counts sixteenfold. -/
def quality (s : State) : Nat :=
  let d := s.time.sel
  if d.valid then (if (d.pend40.natAbs + s.time.resid40.natAbs : Nat) ≤ 100 * 2 ^ 40 then 0 else 1)
  else if ¬ d.everValid then 7
  else holdCode ((s.clk - d.lostAt) * (if regBit s 0x020000 3 then 16 else 1))

end Sys2Proof.Machine
end

