-- ==== Sys2Proof/Machine/Gnss.lean ====
section
/-! DEFINITION. Gnss.lean: antennas, channels, notches, jamming, the spoof check and the measurement epoch
(05_gnss_baseband.md), with the clean epoch (06_reference_central_rtk.md R170) and GNSS time (04_timebase.md R587). -/

namespace Sys2Proof.Machine

open Sys2Proof

/-- GNSS's block index. -/
def bGNSS : Nat := 0x03

/-- The baseband runs (R153). -/
def gnssRuns (s : State) : Bool :=
  match s.sys.mode with
  | .reset | .forming | .dormant => false
  | _ => true

/-- An event of the running baseband. -/
def gnssEvent (f : State → State) (s : State) : State := bus s fun s => if gnssRuns s then f s else s

/-- A channel. -/
def chanOf (s : State) (n : Nat) : Channel := (kget s.gnss.chans n).getD {}

/-- A channel that is not FREE changed. -/
def modChan (n : Nat) (f : Channel → Channel) (s : State) : State :=
  { s with gnss.chans := s.gnss.chans.map (fun p => (p.1, if p.1 = n then f p.2 else p.2)) }

/-- An antenna's bias supply: true names ANT_B. -/
def antOf (s : State) (b : Bool) : Antenna := if b then s.gnss.antB else s.gnss.antA

/-- An antenna changed. -/
def setAnt (b : Bool) (a : Antenna) (s : State) : State := if b then { s with gnss.antB := a } else { s with gnss.antA := a }

/-- A_EN or B_EN; ANT_B is powered down in A_ONLY (R138, R139). -/
def antEn (s : State) (b : Bool) : Bool := regBit s 0x030020 (if b then 4 else 0) && !(b && s.gnss.cfg.aOnly)

/-- Codes of R138. -/
def AntState.code : AntState → Nat
  | .off => 0 | .ok => 1 | .openCct => 2 | .short => 3

/-- Channels of an antenna in TRACK enter COAST (R138, R141, R161). -/
def antCoast (b : Bool) (s : State) : State :=
  { s with gnss.chans := s.gnss.chans.map (fun p =>
      (p.1, if decide (256 ≤ p.1) = b ∧ p.2.state = .track then { p.2 with state := .coast, coastAt := s.clk } else p.2)) }

/-- An antenna's state changes: its record, its fault and what its channels do (R138). -/
def antTo (b : Bool) (x : AntState) (s : State) : State :=
  if (antOf s b).state = x then s
  else
    let s := note 0x0340 2 (b2n b) x.code 0 (setAnt b { antOf s b with state := x } s)
    match x with
    | .openCct | .short => antCoast b (raise bGNSS 5 s)
    | _ => s

/-- A sample of an enabled antenna's bias current (R138). The table gives no state for a current below 3 mA in fewer than ten samples:
an antenna that was OFF reads OK meanwhile, and any other keeps its state (DESIGN CHOICE, assumption log 17). -/
def antSample (b : Bool) (ma : Nat) (s : State) : State :=
  let a := antOf s b
  if ¬ antEn s b then antTo b .off (setAnt b { a with ma := 0, low := 0, biasOn := false } s)
  else if a.state = .short ∧ ¬ a.biasOn then s
  else
    let a := { a with ma := ma, biasOn := true }
    if 120 < ma then
      let s := antTo b .short (setAnt b { a with low := 0, biasOn := false, tripAt := s.clk } s)
      if a.state = .short then raise bGNSS 5 s else s
    else if 3 ≤ ma then antTo b .ok (setAnt b { a with low := 0 } s)
    else
      let s := setAnt b { a with low := a.low + 1 } s
      if 9 ≤ a.low then antTo b .openCct s else if a.state = .off then antTo b .ok s else s

/-- ANT_BIAS_SAMPLE (R138). -/
def execAntBiasSample (antB : Bool) (ma : Nat) (s : State) : Out := .next (gnssEvent (antSample antB ma) s)

/-- ANT_BIAS_RETRY (R138): 1 s after the removal. -/
def execAntBiasRetry (antB : Bool) (s : State) : Out :=
  .next (gnssEvent (fun s =>
    let a := antOf s antB
    if a.state = .short ∧ ¬ a.biasOn ∧ antEn s antB = true then
      let s := advanceClk (a.tripAt + 10 ^ 9) s
      setAnt antB { antOf s antB with biasOn := true, low := 0 } s
    else s) s)

/-- Burst tracking runs the notch filters and the jamming indicator in its window only (R155). -/
def inWindow (s : State) : Bool := !s.gnss.burst || s.gnss.window

/-- Notch width in kHz (GNSS_JAM_THR). -/
def notchWidth (s : State) : Nat := [100, 250, 500, 1000].getD (regFld s 0x030038 25 24) 500

/-- Codes of the signals that the part tracks (R137). -/
def sigCodes : List Nat :=
  [0x01, 0x02, 0x03, 0x04, 0x11, 0x12, 0x13, 0x21, 0x22, 0x23, 0x24] ++ [0x31, 0x32, 0x33, 0x34, 0x35, 0x41, 0x42, 0x43, 0x51, 0x61]

/-- Carrier and chip rate of a signal in Hz and its band path, 0 U, 1 M, 2 L; GLONASS FDMA by frequency number (R137). -/
def sigInfo (sig : Nat) (k : Int) : Int × Int × Nat :=
  if sig = 0x03 ∨ sig = 0x42 then (1227600000, 1023000, 1)
  else if sig = 0x04 ∨ sig = 0x22 ∨ sig = 0x33 ∨ sig = 0x43 then (1176450000, 10230000, 2)
  else if sig = 0x11 then (1602000000 + k * 562500, 511000, 0)
  else if sig = 0x12 then (1246000000 + k * 437500, 511000, 1)
  else if sig = 0x13 then (1202025000, 10230000, 2)
  else if sig = 0x23 ∨ sig = 0x34 then (1207140000, 10230000, 2)
  else if sig = 0x24 then (1278750000, 5115000, 1)
  else if sig = 0x31 then (1561098000, 2046000, 0)
  else if sig = 0x35 then (1268520000, 10230000, 1)
  else if sig = 0x51 then (1176450000, 1023000, 2)
  else (1575420000, 1023000, 0)

/-- Path centre in Hz (R136). -/
def pathCentre (p : Nat) : Int := if p = 0 then 1584500000 else if p = 1 then 1257500000 else 1189500000

/-- A band path is powered: some enabled signal lies in its range, and its antenna is powered (R137, R139). -/
def pathPowered (c : GnssCfg) (path : Nat) : Bool :=
  c.signals.any (fun g => (sigInfo g 0).2.2 == path % 3) && (decide (path < 3) || !c.aOnly)

/-- A path with its spectrum, notches and jamming indicator at work (R137, R139, R155). -/
def pathRuns (s : State) (path : Nat) : Bool := pathPowered s.gnss.cfg path && inWindow s

/-- The notch of a path that a line stands in: it follows the line (R146). -/
def notchAt (s : State) (path : Nat) (f : Int) : Option Nat :=
  (s.gnss.notches.find? (fun n => n.1 / 8 == path && decide (2 * (n.2.freq - f).natAbs ≤ notchWidth s))).map Prod.fst

/-- A free notch of a path (R146). -/
def freeNotch (s : State) (path : Nat) : Option Nat :=
  ((List.range 8).map (fun k => 8 * path + k)).find? (fun i => (kget s.gnss.notches i).isNone)

/-- NOTCH_THR. -/
def notchThr (s : State) : Nat := regFld s 0x030038 23 16

/-- A notch after a spectrum: it follows the strongest line in it, and holds since when that line stands below NOTCH_THR − 3 dB
(R146). -/
def notchHeld (s : State) (path : Nat) (lines : List SpecLine) (p : Nat × Notch) : Nat × Notch :=
  if p.1 / 8 ≠ path then p
  else match lines.find? (fun x => notchAt s path x.freq == some p.1) with
    | some x => (p.1, { p.2 with freq := x.freq, below := if notchThr s ≤ x.height + 6 then none else p.2.below.or (some s.clk) })
    | none => (p.1, { p.2 with below := p.2.below.or (some s.clk) })

/-- A line that no notch holds claims a free one, or is left unnotched (R146). The depth of a new notch is open up to 50 dB. -/
def claimNotch (path : Nat) (x : SpecLine) (s : State) : State :=
  if x.height < notchThr s ∨ (notchAt s path x.freq).isSome = true then s
  else match freeNotch s path with
    | some i => drawn { s with gnss.notches := kset s.gnss.notches i { freq := x.freq, depth := freeVal s % 101 } }
    | none => s

/-- Notches after a spectrum whose lines stand strongest first (R146). -/
def notchLines (path : Nat) (lines : List SpecLine) (s : State) : State :=
  if ¬ s.gnss.cfg.notchEn.toNat.testBit path then s
  else
    let held := s.gnss.notches.map (notchHeld s path lines)
    lines.foldl (fun s x => claimNotch path x s) { s with gnss.notches := held }

/-- JAM_ON. -/
def jamOn (s : State) : Nat := regFld s 0x030038 15 8

/-- JAM_OFF, held at JAM_ON. -/
def jamOff (s : State) : Nat := min (jamOn s) (regFld s 0x030038 7 0)

/-- A noise power above a floor in whole units of 0.5 dB, cut to a byte (R148; assumption log 17). -/
def riseOf (power floor : Nat) : Nat := ((List.range 255).filter (fun k => decide (10 ^ (k + 1) * floor ^ 20 ≤ power ^ 20))).length

/-- The median, of an even number the mean of the middle two (assumption log 17). -/
def median (l : List Nat) : Nat :=
  let x := sortBy (fun (a b : Nat) => decide (a ≤ b)) l
  (nth x ((l.length - 1) / 2) 0 + nth x (l.length / 2) 0) / 2

/-- A second of noise power ends: its mean moves the floor, which JAM holds (R148). -/
def BandPath.second (p : BandPath) : BandPath :=
  if p.jam then p
  else
    let l := (p.sum / max 1 p.num :: p.means).take 600
    { p with means := l, floor := median l }

/-- The evaluation of a path's jamming indicator at a noise power (R148). -/
def BandPath.eval (p : BandPath) (clk on off power : Nat) : BandPath :=
  let p := if p.num ≠ 0 ∧ p.secAt + 10 ^ 9 ≤ clk then { p.second with secAt := clk, sum := 0, num := 0 } else p
  let r := riseOf power p.floor
  { p with
    secAt := if p.num = 0 then clk else p.secAt, sum := p.sum + power, num := p.num + 1, specAt := clk, rise := r
    above := if on ≤ r then p.above.or (some clk) else none
    below := if r < off then p.below.or (some clk) else none }

/-- A path's in-band noise power after the notches: with every line that no notch holds (R146, R148). -/
def pathPower (s : State) (path : Nat) (lines : List SpecLine) (noise : Nat) : Nat :=
  noise + ((lines.filter (fun x => (notchAt s path x.freq).isNone)).map SpecLine.power).sum

/-- A spectrum of a path, 1 ms after the last (R146): the jamming indicator takes the noise power before the lines claim notches
(R161). -/
def notchSpectrum (path : Nat) (lines : List SpecLine) (noise gain : Nat) (s : State) : State :=
  if ¬ pathRuns s path then s
  else
    let s := advanceClk ((vget s.gnss.paths path {}).specAt + 10 ^ 6) s
    let l := sortBy (fun (a b : SpecLine) => decide (b.height ≤ a.height)) lines
    let power := pathPower s path l noise
    let paths := vmod s.gnss.paths path (fun p => { p.eval s.clk (jamOn s) (jamOff s) power with agc := gain })
    notchLines path l { s with gnss.paths := paths }

/-- NOTCH_SPECTRUM (R146, R148). -/
def execNotchSpectrum (path : Fin 6) (lines : List SpecLine) (noise : Nat) (gain : Byte) (s : State) : Out :=
  .next (gnssEvent (notchSpectrum path.val lines noise gain.toNat) s)

/-- A notch is released 100 ms after its line fell below NOTCH_THR − 3 dB (R146). -/
def releaseNotch (n : Nat) (s : State) : State :=
  match kget s.gnss.notches n with
  | none => s
  | some x => match x.below with
    | none => s
    | some t =>
      if ¬ pathRuns s (n / 8) then s
      else
        let s := advanceClk (t + 10 ^ 8) s
        { s with gnss.notches := kdel s.gnss.notches n }

/-- NOTCH_RELEASE (R146). -/
def execNotchRelease (notch : Fin 48) (s : State) : Out := .next (gnssEvent (releaseNotch notch.val) s)

/-- A path's jamming state changed. -/
def jamTo (path : Nat) (on : Bool) (s : State) : State :=
  let s := { s with gnss.paths := vmod s.gnss.paths path (fun p => { p with jam := on }) }
  note 0x0341 2 path (b2n on) (vget s.gnss.paths path {}).rise (raise bGNSS (if on then 3 else 4) s)

/-- JAM sets once the rise has been at JAM_ON or more for 1 s (R148). -/
def jamSet (path : Nat) (s : State) : State :=
  let p := vget s.gnss.paths path {}
  match p.above with
  | some t => if p.jam ∨ ¬ pathRuns s path then s else jamTo path true (advanceClk (t + 10 ^ 9) s)
  | none => s

/-- JAM_SET (R148). -/
def execJamSet (path : Fin 6) (s : State) : Out := .next (gnssEvent (jamSet path.val) s)

/-- JAM clears once the rise has been below JAM_OFF for 10 s (R148). -/
def jamClear (path : Nat) (s : State) : State :=
  let p := vget s.gnss.paths path {}
  match p.below with
  | some t => if ¬ p.jam ∨ ¬ pathRuns s path then s else jamTo path false (advanceClk (t + 10 ^ 10) s)
  | none => s

/-- JAM_CLEAR (R148). -/
def execJamClear (path : Fin 6) (s : State) : Out := .next (gnssEvent (jamClear path.val) s)

/-- LOCK_LOST (R141). -/
def execLockLost (chan : Fin 512) (s : State) : Out :=
  .next (gnssEvent (fun s => modChan chan.val (fun c =>
    if c.state = .track then { c with state := .coast, coastAt := s.clk } else c) s) s)

/-- Code lock by 20 ms into the burst window gives a record at its epoch (R154). -/
def lateLock (s : State) : Bool := s.gnss.burst && decide (s.gnss.windowAt + 20 * 10 ^ 6 < s.clk)

/-- A channel regains code lock: from COAST within 2 s, with CYCLE_SLIP and lock time 0 (R141), or in its burst window (R154). One whose
block is under test does not (R151). -/
def regain (s : State) (c : Channel) : Channel :=
  if c.state = .coast ∧ ¬ c.tested ∧ s.clk < c.coastAt + 2 * 10 ^ 9 then
    { c with state := .track, slip := true, lockAt := none, gap := lateLock s }
  else if c.state = .track then { c with gap := c.gap && lateLock s }
  else c

/-- CODE_LOCK_REGAINED (R141, R154). -/
def execCodeLockRegained (chan : Fin 512) (s : State) : Out := .next (gnssEvent (fun s => modChan chan.val (regain s) s) s)

/-- COAST_TIMEOUT (R141): after 2 s. -/
def execCoastTimeout (chan : Fin 512) (s : State) : Out :=
  .next (gnssEvent (fun s =>
    if (chanOf s chan.val).state = .coast then
      let s := advanceClk ((chanOf s chan.val).coastAt + 2 * 10 ^ 9) s
      modChan chan.val (fun c => { c with state := .acquire, slip := true, lockAt := none, tested := false }) s
    else s) s)

/-- ACQUISITION (R141). -/
def execAcquisition (chan : Fin 512) (s : State) : Out :=
  .next (gnssEvent (fun s => modChan chan.val (fun c =>
    if c.state = .acquire then { c with state := .track, lockAt := none, gap := lateLock s } else c) s) s)

/-- SPOOF_ACK (R150, R161): kept until enough passing epochs have followed it. -/
def spoofAck (s : State) : State :=
  if s.gnss.spoof.state = .fail then { s with gnss := { s.gnss with spoof := { s.gnss.spoof with ackHeld := true, passN := 0 } } } else s

/-- SPOOF_ACK. -/
def execSpoofAck (s : State) : Out := .next (bus s spoofAck)

/-- COLD_START (R142, GNSS_CTRL). -/
def coldStart (s : State) : State :=
  match s.sys.mode with
  | .survey | .quenched | .maintenance | .servitor =>
    { s with gnss := { s.gnss with
      aiding := none
      chans := s.gnss.chans.map (fun p => (p.1, if p.2.state = .retired then p.2 else { p.2 with state := .acquire, lockAt := none, slip := true, tested := false })) } }
  | _ => raise bGNSS 7 s

/-- COLD_START. -/
def execColdStart (s : State) : Out := .next (bus s coldStart)

/-- ADD of GNSS_EXCL_CTRL (R143). -/
def exclAdd (sig svid : Nat) (s : State) : State :=
  if (sig, svid) ∈ s.gnss.excl then s
  else if 32 ≤ s.gnss.excl.length then raise bGNSS 7 { s with gnss.exclFull := true }
  else { s with gnss := { s.gnss with
    excl := s.gnss.excl ++ [(sig, svid)], exclFull := false, exclNew := s.gnss.exclNew ++ [((sig, svid), s.clk)] } }

/-- EXCL_ADD. -/
def execExclAdd (sig svid : Byte) (s : State) : Out := .next (bus s (exclAdd sig.toNat svid.toNat))

/-- REMOVE of GNSS_EXCL_CTRL (R143). -/
def exclRemove (sig svid : Nat) (s : State) : State :=
  { s with gnss := { s.gnss with excl := s.gnss.excl.filter (fun x => x != (sig, svid)), exclFull := false } }

/-- EXCL_REMOVE. -/
def execExclRemove (sig svid : Byte) (s : State) : Out := .next (bus s (exclRemove sig.toNat svid.toNat))

/-- CLEAR of GNSS_EXCL_CTRL (R143). -/
def exclClear (s : State) : State := { s with gnss := { s.gnss with excl := [], exclFull := false } }

/-- EXCL_CLEAR. -/
def execExclClear (s : State) : Out := .next (bus s exclClear)

/-- Satellite numbers searched without geometry: GLONASS and SBAS by R159, the others the families' (assumption log 17). -/
def svids (con : Nat) : List Nat :=
  if con = 0 then (List.range 32).map (· + 1)
  else if con = 1 then (List.range 24).map (· + 1)
  else if con = 2 then (List.range 36).map (· + 1)
  else if con = 3 then (List.range 63).map (· + 1)
  else if con = 4 then (List.range 10).map (· + 1)
  else if con = 5 then (List.range 14).map (· + 1)
  else (List.range 39).map (· + 120)

/-- Satellites of a constellation that the allocator serves, highest first (R140). -/
def wantSats (s : State) (sky : Option (List SkySat)) (con : Nat) : List Nat :=
  match sky with
  | none => svids con
  | some l => (sortBy (fun (a b : SkySat) => decide (b.elev ≤ a.elev))
      (l.filter (fun x => x.con == con && decide (s.gnss.cfg.elevMask ≤ x.elev)))).map SkySat.svid

/-- Signals to serve in order: the gather's constellations and signals, then satellites (R140, R143). -/
def wanted (s : State) (sky : Option (List SkySat)) : List (Nat × Nat) :=
  (s.gnss.cfg.signals.flatMap (fun sig => (wantSats s sky (sig / 16)).map (fun v => (sig, v)))).filter
    (fun x => !(s.gnss.excl.contains x))

/-- A channel keeps its signal at an allocator run (R140): it is enabled, and its satellite has not set 2° below the mask. An excluded
pair leaves its channel at an epoch (R143). -/
def keeps (s : State) (sky : Option (List SkySat)) (c : Channel) : Bool :=
  c.state == .retired ||
  (s.gnss.cfg.signals.contains c.sig &&
   (match sky with
    | none => true
    | some l => match l.find? (fun x => x.con == c.sig / 16 && x.svid == c.svid) with
      | some x => decide (s.gnss.cfg.elevMask - 2 ≤ x.elev)
      | none => true))

/-- The state of a channel as GNSS_CHAN_STATUS reports it: RETIRED with its block, or in DUAL with that of its partner (R141, R151). -/
def chanState (s : State) (n : Nat) : ChanState := if blockRetired s.gnss.retired s.gnss.cfg.aOnly n then .retired else (chanOf s n).state

/-- Codes of R141. -/
def ChanState.code : ChanState → Nat
  | .free => 0 | .acquire => 1 | .track => 2 | .coast => 3 | .retired => 4

/-- A FREE ANT_A channel. -/
def freeChan (s : State) : Option Nat := (List.range 256).find? (fun n => chanState s n == .free)

/-- One signal takes a free channel, with its partner in DUAL (R139, R140). -/
def assignOne (x : Nat × Nat) (s : State) : State :=
  match freeChan s with
  | none => { s with gnss.unserved := s.gnss.unserved + 1 }
  | some n =>
    let c : Channel := { state := .acquire, sig := x.1, svid := x.2 }
    let l := kset s.gnss.chans n c
    { s with gnss.chans := if s.gnss.cfg.aOnly then l else kset l (n + 256) c }

/-- A signal holds an ANT_A channel already. -/
def served (s : State) (x : Nat × Nat) : Bool :=
  s.gnss.chans.any (fun p => decide (p.1 < 256) && p.2.state != .retired && p.2.sig == x.1 && p.2.svid == x.2)

/-- What the MRAM holds is younger than 4 h, and serves as aiding (R142). -/
def aided (s : State) : Bool := match s.gnss.aiding with | some t => decide (now s < t + 14400 * 10 ^ 9) | none => false

/-- The geometry at an allocator run: what rests on the MRAM alone serves only while it is young enough (R140, R142). -/
def skyNow (s : State) (sky : Option SkyView) : Option (List SkySat) :=
  match sky with
  | some v => if v.stored ∧ ¬ aided s then none else some v.sats
  | none => none

/-- The allocator's run (R140). -/
def allocate (sky : Option (List SkySat)) (s : State) : State :=
  let s := { s with gnss := { s.gnss with chans := s.gnss.chans.filter (fun p => keeps s sky p.2), unserved := 0 } }
  let s := ((wanted s sky).filter (fun x => !served s x)).foldl (fun s x => assignOne x s) s
  { s with gnss.assigned := (s.gnss.chans.filter (fun p => decide (p.1 < 256) && p.2.state != .retired)).length }

/-- Burst tracking starts or ends at a whole second (R154). The epoch of that second has been latched. -/
def burstSwitch (s : State) : State :=
  if s.gnss.burst = s.gnss.burstNext then s
  else
    let s := { s with gnss := { s.gnss with burst := s.gnss.burstNext, rateChanged := true, window := false } }
    { s with time.nextEpoch := now s * epochHz s / 10 ^ 9 + 1 }

/-- The allocator's run at a whole second, with the start or end of burst tracking (R140, R154). -/
def wholeSecond (sky : Option SkyView) (s : State) : State := burstSwitch (allocate (skyNow s sky) { s with gnss.allocDue := none })

/-- The whole served second t has come: an epoch of that second latches first (R161). -/
def allocateAt (sky : Option SkyView) (t : Nat) (s : State) : State :=
  let s := { s with time.nextSec := now s / 10 ^ 9 + 1 }
  if s.time.nextEpoch = t * epochHz s then { s with gnss.allocDue := some sky } else wholeSecond sky s

/-- GNSS_ALLOCATE (R140): the next whole served second. -/
def execGnssAllocate (sky : Option SkyView) (s : State) : Out :=
  .next (gnssEvent (fun s => allocateAt sky s.time.nextSec (advanceTo (s.time.nextSec * 10 ^ 9) s)) s)

/-- The burst window begins: no channel has regained code lock in it yet (R154). -/
def openWindow (s : State) : State :=
  { s with gnss := { s.gnss with window := true, windowAt := s.clk, chans := s.gnss.chans.map (fun p => (p.1, { p.2 with gap := true })) } }

/-- BURST_WINDOW (R154): the last 40 ms of a served second. -/
def execBurstWindow (s : State) : Out :=
  .next (gnssEvent (fun s =>
    if s.gnss.burst then openWindow (advanceTo (s.time.nextSec * 10 ^ 9 - 40 * 10 ^ 6) s) else s) s)

/-- The signal's main lobe, the carrier and one chip rate to each side, holds an active notch (R147; assumption log 17). -/
def notched (s : State) (chan sig : Nat) (k : Int) : Bool :=
  let i := sigInfo sig k
  s.gnss.notches.any (fun n =>
    n.1 / 8 == 3 * (chan / 256) + i.2.2 && decide ((pathCentre i.2.2 + n.2.freq * 1000 - i.1).natAbs ≤ i.2.1.natAbs))

/-- Magnitude of a tap. -/
def tap (m : ChanMeas) (k : Nat) : Int := (nth m.mags k 0 : Nat)

/-- The multipath index (R145); with a prompt of 0 it is open. -/
def mpIndex (s : State) (m : ChanMeas) : Nat :=
  let a := (tap m 2 - tap m 6 - 2 * (tap m 3 - tap m 5)).natAbs
  if tap m 4 = 0 then freeVal s % 256 else min 255 (roundDiv (256 * a : Nat) (tap m 4).toNat).toNat

/-- Normalised taps (R145). -/
def tapsOf (s : State) (m : ChanMeas) : List Nat :=
  (List.range 9).map (fun k => if tap m 4 = 0 then freeVal s % 256 else min 255 (roundDiv (128 * tap m k) (tap m 4).toNat).toNat)

/-- The code discriminator that the gather selects, numerator and denominator (R144). -/
def codeDisc (c : GnssCfg) (m : ChanMeas) : Int × Int :=
  let d := tap m 3 - tap m 5
  (if c.doubleDelta then 2 * d - (tap m 2 - tap m 6) else d, tap m 3 + tap m 5)

/-- Signals on 1575.42 MHz (R149). -/
def spoofSigs : List Nat := [0x01, 0x02, 0x21, 0x32, 0x41, 0x61]

/-- A latch of a channel in TRACK. -/
def trackMeas (s : State) (e : EpochMeas) (n : Nat) : Option ChanMeas :=
  if (chanOf s n).state = .track then e.chans.find? (fun m => m.chan == n) else none

/-- The baseline is 0.3 m to 10 m long (R149). -/
def baselineOk (s : State) : Bool :=
  let x := (regWord s 0x030054).toInt
  let y := (regWord s 0x030058).toInt
  let z := (regWord s 0x03005C).toInt
  let d := x * x + y * y + z * z
  decide (90000 ≤ d ∧ d ≤ 100000000)

/-- wrap of R149 in 2^−24 cycle. -/
def wrap24 (x : Int) : Int := (x + 2 ^ 23) % 2 ^ 24 - 2 ^ 23

/-- A pair serves the check (R149). -/
def spoofUsable (s : State) (a b : ChanMeas) : Bool :=
  a.carrierLock && a.halfCycle && b.carrierLock && b.halfCycle && decide ((regFld s 0x030050 15 8 : Int) ≤ a.elev)

/-- The predicted difference p_i: the baseline in mm along the unit vector, over λ = 190.294 mm, in 2^−24 cycle (R149). -/
def predicted24 (s : State) (m : ChanMeas) : Int :=
  let dot := (regWord s 0x030054).toInt * m.los.1 + (regWord s 0x030058).toInt * m.los.2.1 + (regWord s 0x03005C).toInt * m.los.2.2
  roundDiv (dot * 1000) (190294 * 64)

/-- A satellite: constellation and number. -/
abbrev SatId := Nat × Nat

/-- The differences d_i with their ANT_A channel and satellite, one signal per satellite: its lowest channel (R149; assumption log 17).
None is used while the check is disabled or its baseline is out of range. -/
def pairDiffs (s : State) (e : EpochMeas) : List (Nat × SatId × Int) :=
  let all := s.gnss.chans.filterMap (fun p =>
    if p.1 < 256 ∧ spoofSigs.contains p.2.sig = true then
      match trackMeas s e p.1, trackMeas s e (p.1 + 256) with
      | some a, some b =>
        if spoofUsable s a b then some (p.1, (p.2.sig / 16, p.2.svid), a.carrier.toInt - b.carrier.toInt - predicted24 s a) else none
      | _, _ => none
    else none)
  if ¬ s.gnss.cfg.spoofEn ∨ ¬ baselineOk s then []
  else all.foldl (fun (acc : List (Nat × SatId × Int)) x => if acc.any (fun y => y.2.1 == x.2.1) then acc else acc ++ [x]) []

/-- The common bias of R149 in 2^−24 cycle. -/
def spoofBias (l : List (Nat × SatId × Int)) : Int :=
  let v := l.map (fun x => cosSin24 x.2.2)
  dir24 (v.map Prod.snd).sum (v.map Prod.fst).sum

/-- Residuals r_i with their ANT_A channel and satellite (R149). -/
def residuals (s : State) (e : EpochMeas) : List (Nat × SatId × Int) :=
  let l := pairDiffs s e
  l.map (fun x => (x.1, x.2.1, wrap24 (x.2.2 - spoofBias l)))

/-- Sum of squared residuals in 2^−48 cycle². -/
def sumSq (l : List (Nat × SatId × Int)) : Nat := (l.map (fun x => (x.2.2 * x.2.2).toNat)).sum

/-- SPOOF_RMS_THR in 2^−24 cycle. -/
def rmsThr (s : State) : Nat := regFld s 0x030050 7 0 * 2 ^ 16

/-- rms ≤ SPOOF_RMS_THR (R149, R150), in exact arithmetic. -/
def rmsPasses (s : State) (l : List (Nat × SatId × Int)) : Bool := decide (sumSq l ≤ l.length * (rmsThr s * rmsThr s))

/-- rms in 1/256 cycle, rounded to nearest, saturating. -/
def rms256 (l : List (Nat × SatId × Int)) : Nat := satNat 8 ((isqrt (sumSq l / max 1 l.length) + 2 ^ 15) / 2 ^ 16)

/-- Codes of R150. -/
def SpoofState.code : SpoofState → Nat
  | .disabled => 0 | .notReady => 1 | .pass => 2 | .suspect => 3 | .fail => 4

/-- The next state of the check (R150, R161). -/
def spoofNext (s : State) (ready pass : Bool) (passN failN : Nat) : SpoofState :=
  let x := s.gnss.spoof
  if ¬ s.gnss.cfg.spoofEn then .disabled
  else if x.state = .fail then
    if ready ∧ pass ∧ x.ackHeld ∧ regFld s 0x030050 19 16 ≤ passN then .pass else .fail
  else if ¬ ready then .notReady
  else if ¬ pass ∧ regFld s 0x030050 23 20 ≤ failN then .fail
  else match x.state with
    | .pass => if pass then .pass else .suspect
    | .disabled => .notReady
    | y => if pass ∧ regFld s 0x030050 19 16 ≤ passN then .pass else y

/-- The spoof check at an epoch (R149, R150). -/
def spoofEpoch (e : EpochMeas) (s : State) : State :=
  let l := residuals s e
  let ready := baselineOk s && decide (regFld s 0x030050 27 24 ≤ l.length)
  let pass := rmsPasses s l
  let passN := if ready ∧ pass then s.gnss.spoof.passN + 1 else 0
  let failN := if ready ∧ ¬ pass then s.gnss.spoof.failN + 1 else 0
  let was := s.gnss.spoof.state
  let x := spoofNext s ready pass passN failN
  let s := { s with gnss.spoof := { s.gnss.spoof with
    state := x, passN := passN, failN := failN, ackHeld := s.gnss.spoof.ackHeld && x == .fail
    bias := (spoofBias (pairDiffs s e) % 2 ^ 24 / 2 ^ 16).toNat, rms := rms256 l, nsv := l.length } }
  if x = was then s
  else if x = .fail then note 0x0342 3 (rms256 l) l.length 0 (raise bGNSS 1 s)
  else if x = .pass then raise bGNSS 2 s
  else s

/-- The carrier phase of a channel has broken since its previous record: it lost code lock, its loop reports a slip, or it has lost
the carrier lock that the previous record reported (R160). -/
def broken (c : Channel) (m : ChanMeas) : Bool := c.slip || m.slip || (c.lockAt.isSome && !m.carrierLock)

/-- Since when the continuous carrier lock at a record has held (R159, R160): from the record at which it is first reported
(DESIGN CHOICE, assumption log 17). -/
def lockSince (s : State) (c : Channel) (m : ChanMeas) : Option Nat :=
  if ¬ m.carrierLock then none else if broken c m then some s.clk else c.lockAt.or (some s.clk)

/-- LOCK_TIME of a record in ms (R159, R160). -/
def lockTime (s : State) (c : Channel) (m : ChanMeas) : Nat :=
  match lockSince s c m with | some t => satNat 32 ((s.clk - t) / 10 ^ 6) | none => 0

/-- The satellite of a channel. -/
def Channel.sat (c : Channel) : SatId := (c.sig / 16, c.svid)

/-- A satellite's residual exceeds twice the threshold (R150). -/
def outlier (s : State) (l : List (Nat × SatId × Int)) (c : Channel) : Bool :=
  l.any (fun x => x.2.1 == c.sat && decide (2 * rmsThr s < x.2.2.natAbs))

/-- FLAGS of a record (R159). SPOOF_OUTLIER stands in every record of an outlier's satellite at the epoch that enters FAIL (R150). -/
def recordFlags (s : State) (c : Channel) (m : ChanMeas) (mp : Nat) (used out : Bool) : Nat :=
  1 + 2 * b2n m.carrierLock + 4 * b2n m.halfCycle + 8 * b2n (broken c m) + 16 * b2n m.tow
  + 32 * b2n (decide (s.gnss.cfg.mpThr ≤ mp)) + 64 * b2n (notched s m.chan c.sig m.gloK) + 128 * b2n used + 256 * b2n out
  + 512 * b2n s.gnss.burst + 1024 * b2n s.gnss.burst + 2048 * b2n m.pilot

/-- The residual of a used channel, or of its partner. -/
def resOfChan (l : List (Nat × SatId × Int)) (n : Nat) : Option Int := (l.find? (fun x => x.1 == n % 256)).map (fun x => x.2.2)

/-- One channel record (R159). -/
def recordOf (s : State) (l : List (Nat × SatId × Int)) (entered : Bool) (m : ChanMeas) : GnssRecord :=
  let c := chanOf s m.chan
  let mp := mpIndex s m
  let r := resOfChan l m.chan
  { chan := m.chan, sig := c.sig, svid := c.svid
    flags := BitVec.ofNat 32 (recordFlags s c m mp r.isSome (entered && outlier s l c))
    pseudorange := m.pseudorange, carrier := m.carrier, codePhase := m.codePhase, doppler := m.doppler, cn0 := satNat 16 m.cn0
    mp := mp, spoofRes := match r with | some x => satSigned 8 (roundDiv x (2 ^ 16)) | none => 0
    lockTime := lockTime s c m, elev := m.elev, gloK := if c.sig = 0x11 ∨ c.sig = 0x12 then m.gloK else 0, azim := m.azim
    taps := tapsOf s m }

/-- The bytes of a channel record (R159). -/
def GnssRecord.bytes (r : GnssRecord) : Bytes :=
  leBytes 2 (r.chan % 512) ++ leBytes 1 r.sig ++ leBytes 1 r.svid ++ leBytes 4 r.flags.toNat ++ leBytes 8 r.pseudorange.toNat
  ++ leBytes 8 r.carrier.toNat ++ leBytes 4 r.codePhase.toNat ++ leBytes 4 r.doppler.toNat ++ leBytes 2 r.cn0 ++ leBytes 1 r.mp
  ++ leBytes 1 (unsignedOf 8 r.spoofRes) ++ leBytes 4 r.lockTime ++ leBytes 1 (unsignedOf 8 r.elev) ++ leBytes 1 (unsignedOf 8 r.gloK)
  ++ leBytes 2 r.azim ++ padTo 9 (r.taps.map (BitVec.ofNat 8)) ++ List.replicate 11 0

/-- The bytes of an epoch in its bank: the header, then the records (R158, R159). -/
def GnssEpoch.bytes (x : GnssEpoch) : Bytes :=
  leBytes 4 x.seq ++ leBytes 2 x.records.length ++ leBytes 2 x.hflags.toNat ++ leBytes 8 x.time ++ leBytes 8 x.raw ++ leBytes 1 x.quality
  ++ leBytes 1 x.spoof.code ++ leBytes 1 x.spoofNsv ++ leBytes 1 x.spoofRms ++ leBytes 2 x.rateHz ++ leBytes 2 0
  ++ padTo 6 (x.rise.map (BitVec.ofNat 8)) ++ leBytes 1 x.notches ++ List.replicate 21 0 ++ leBytes 4 x.seq
  ++ x.records.flatMap GnssRecord.bytes

/-- HFLAGS (R158). -/
def headFlags (s : State) : Nat :=
  b2n s.gnss.stepped + 2 * b2n s.gnss.burst + 4 * b2n (s.gnss.testing != 0) + 8 * b2n (s.gnss.spoof.state == .fail)
  + 16 * b2n (s.gnss.paths.toList.any BandPath.jam) + 32 * b2n (timeValid s) + 64 * b2n s.gnss.rateChanged

/-- Channels that give a record: in TRACK, their block not under test, and in burst tracking with code lock regained by 20 ms into the
window (R154, R159, R161). -/
def recorded (s : State) (m : ChanMeas) : Bool :=
  let c := chanOf s m.chan
  c.state == .track && !(s.gnss.testing.toNat.testBit (corrBlock m.chan)) && (!s.gnss.burst || (s.gnss.window && !c.gap))

/-- A channel after its record: a broken lock stays broken until the record that reports it again (R160). -/
def Channel.latched (c : Channel) (s : State) (m : ChanMeas) : Channel :=
  { c with lockAt := lockSince s c m, slip := broken c m && !m.carrierLock, cn0 := m.cn0, disc := codeDisc s.gnss.cfg m }

/-- The epoch latched (R152, R158), after the spoof check ran. -/
def latchEpoch (e : EpochMeas) (was : SpoofState) (s : State) : State :=
  let l := residuals s e
  let entered := s.gnss.spoof.state == .fail && was != .fail
  let ms := sortBy (fun (a b : ChanMeas) => decide (a.chan ≤ b.chan)) (e.chans.filter (recorded s))
  let x : GnssEpoch := { seq := s.gnss.seq, hflags := BitVec.ofNat 16 (headFlags s), time := now s, raw := s.time.raw
                         quality := quality s, spoof := s.gnss.spoof.state, spoofNsv := l.length, spoofRms := rms256 l
                         rateHz := epochHz s, rise := s.gnss.paths.toList.map BandPath.rise, notches := s.gnss.notches.length
                         records := ms.map (recordOf s l entered) }
  let chans := s.gnss.chans.map (fun p =>
    match ms.find? (fun m => m.chan == p.1) with
    | some m => (p.1, p.2.latched s m)
    | none => p)
  drawn { s with gnss := { s.gnss with
    latched := some x, seq := (s.gnss.seq + 1) % 2 ^ 32, chans := chans, stepped := false, rateChanged := false, window := false } }

/-- Tracked channels of excluded pairs are released at the epoch after the command, which one of the epoch's own cycle waits for (R143,
R161). -/
def releaseExcluded (s : State) : State :=
  let late := s.gnss.exclNew.filter (fun x => x.2 == s.clk)
  let old := s.gnss.excl.filter (fun x => !(late.any (fun y => y.1 == x)))
  { s with gnss := { s.gnss with
    chans := s.gnss.chans.filter (fun p => p.2.state == .retired || !(old.contains (p.2.sig, p.2.svid))), exclNew := late } }

/-- The epoch is clean (R170). -/
def cleanEpoch (e : EpochMeas) (s : State) : Bool := posFixed s && decide (4 ≤ e.sats) && spoofOk s

/-- GNSS time disciplines one domain at a clean epoch, or makes it valid (R587, R133). -/
def gnssDomain (e : EpochMeas) (a : Bool) (s : State) : State :=
  if sourceOf s a ≠ 1 then s
  else
    let err : Int := (e.gnssTime : Int) - domTime40 s.time (dom s a) / q40
    if (dom s a).valid then discipline a err (epochHz s) s else sourceValid a err s

/-- GNSS time at an epoch: each domain that follows it is disciplined, or all of them lose it in one event (R110, R135, R587). -/
def gnssTimes (e : EpochMeas) (clean : Bool) (s : State) : State :=
  let s := { s with gnss.sats := e.sats }
  if clean then gnssDomain e true (gnssDomain e false s)
  else loseSources ([false, true].filter (fun a => sourceOf s a == 1)) s

/-- A message of a bundle is due: MSM7 at its rate, the others at whole multiples of their period (R172, R173). -/
def dueEvery (t period : Nat) : Bool := period != 0 && t % (period * 10 ^ 9) == 0

/-- MSM7 number of a constellation (R172). -/
def msm7 (con : Nat) : Nat := [1077, 1087, 1097, 1127, 1117, 1137, 1107].getD con 1077

/-- MSM_SET bit of a constellation (R201). -/
def msmBit (con : Nat) : Nat := [0, 1, 2, 5, 4, 6, 3].getD con 0

/-- Bytes of a record that an MSM7 message reports; a GLONASS satellite with its frequency number (R172). -/
def measBytes (r : GnssRecord) : Bytes :=
  leBytes 1 r.sig ++ leBytes 1 r.svid ++ leBytes 1 (unsignedOf 8 r.gloK) ++ leBytes 4 r.flags.toNat ++ leBytes 8 r.pseudorange.toNat ++ leBytes 8 r.carrier.toNat
  ++ leBytes 4 r.doppler.toNat ++ leBytes 2 r.cn0 ++ leBytes 4 r.lockTime

/-- Records of a constellation of ANT_A, the reference antenna. -/
def conRecords (x : GnssEpoch) (con : Nat) : List GnssRecord := x.records.filter (fun r => decide (r.chan < 256) && r.sig / 16 == con)

/-- Cells cut into runs of at most 64 (R173). -/
def cells64 (l : List GnssRecord) : Nat → List (List GnssRecord)
  | 0 => []
  | k + 1 => if l = [] then [] else l.take 64 :: cells64 (l.drop 64) k

/-- MSM7 messages of an epoch before the multiple message bit: number and cells, ascending (R172, R173). -/
def msmParts (s : State) (x : GnssEpoch) : List (Nat × List GnssRecord) :=
  let cons := (List.range 7).filter (fun c => s.rtk.cfg.msmSet.toNat.testBit (msmBit c) && s.gnss.cfg.signals.any (fun g => g / 16 == c))
  sortBy (fun (a b : Nat × List GnssRecord) => decide (a.1 ≤ b.1))
    (cons.flatMap (fun c => (cells64 (conRecords x c) 8).map (fun l => (msm7 c, l))))

/-- MSM7 transport frames, the multiple message bit set in every one but the last (R173). -/
def msmFrames (s : State) (x : GnssEpoch) : List RtcmMsg :=
  let l := msmParts s x
  (List.range l.length).map (fun k =>
    let p := nth l k (0, [])
    { num := p.1, frame := Config.rtcm p.1 (leBytes 2 s.rtk.cfg.stationId ++ leBytes 8 x.time ++ leBytes 1 (b2n (decide (k + 1 < l.length)))
        ++ (p.2.flatMap measBytes)) })

/-- A message other than an MSM7. -/
def staticMsg (num : Nat) (input : Bytes) : RtcmMsg := { num := num, frame := Config.rtcm num input }

/-- The ARP as the station message reports it. -/
def arpBytes (s : State) : Bytes :=
  let p := s.rtk.pos.getD {}
  leBytes 2 s.rtk.cfg.stationId ++ leBytes 8 p.x.toNat ++ leBytes 8 p.y.toNat ++ leBytes 8 p.z.toNat

/-- Messages due at an epoch besides MSM7 (R172, R173). -/
def periodicMsgs (s : State) (t : Nat) : List RtcmMsg :=
  (if posFixed s ∧ dueEvery t s.rtk.cfg.staPeriod = true then [staticMsg (if s.rtk.cfg.sta1006 then 1006 else 1005) (arpBytes s)] else [])
  ++ (if dueEvery t s.rtk.cfg.antPeriod then [staticMsg 1033 (leBytes 2 s.rtk.cfg.stationId ++ s.rtk.cfg.antDesc)] else [])
  ++ (if dueEvery t s.rtk.cfg.biasPeriod ∧ s.gnss.cfg.signals.any (fun g => g / 16 == 1) = true then
        [staticMsg 1230 (leBytes 2 s.rtk.cfg.stationId)] else [])

/-- The reference function emits (R198). -/
def emits (s : State) : Bool :=
  match s.sys.mode with
  | .survey => posFixed s
  | .field | .holdover | .anneal | .quenched | .maintenance => true
  | _ => false

/-- The bundle of an epoch, if anything is due (R172, R173). -/
def bundleOf (s : State) (x : GnssEpoch) (clean : Bool) : Option Bundle :=
  let msm := if clean ∧ (x.time * s.rtk.cfg.msmRate) % 10 ^ 9 = 0 then msmFrames s x else []
  let l := msm ++ periodicMsgs s x.time
  if ¬ emits s ∨ l = [] then none
  else some { seq := s.rtk.bundleSeq, epochMs := ((x.time / 10 ^ 6 + 604800000 * 1000 - 315964819000 % 604800000) % 604800000)
              time := x.time, messages := l }

/-- An epoch serves a survey or a confirmation: the spoof condition holds, and four satellites contribute (R164, R165). -/
def surveyUsable (e : EpochMeas) (s : State) : Bool := spoofOk s && decide (4 ≤ e.sats)

/-- A sum with one more position. -/
def PosSum.plus (a : PosSum) (p : Ecef) : PosSum := { x := a.x + p.x.toInt, y := a.y + p.y.toInt, z := a.z + p.z.toInt, n := a.n + 1 }

/-- n² times the squared distance of an average of n positions from a position, in (0.1 mm)². -/
def PosSum.off2 (a : PosSum) (p : Ecef) : Nat :=
  let d (u : Int) (v : BitVec 64) : Nat := (u - a.n * v.toInt).natAbs
  d a.x p.x ^ 2 + d a.y p.y ^ 2 + d a.z p.z ^ 2

/-- An average lies at most d from a position, in 0.1 mm. -/
def PosSum.within (a : PosSum) (p : Ecef) (d : Nat) : Bool := decide (a.off2 p ≤ (a.n * d) ^ 2)

/-- The average of a sum as a position, to the nearest 0.1 mm. -/
def PosSum.mean (a : PosSum) : Ecef :=
  let c (u : Int) : BitVec 64 := BitVec.ofInt 64 (roundDiv u (max 1 a.n))
  { x := c a.x, y := c a.y, z := c a.z }

/-- Positions summed. -/
def sumOf (l : List Ecef) : PosSum := l.foldl PosSum.plus {}

/-- The squared standard deviation of the mean of a survey, in mm²: that of the block means over their number, from two blocks on (R165;
assumption log 19). -/
def surveySd2 (l : List PosSum) : Option Rat :=
  let k : Nat := l.length
  let axis (f : PosSum → Int) : Rat :=
    let v := l.map (fun b => (f b : Rat) / b.n)
    let m := v.sum / k
    (v.map (fun x => (x - m) * (x - m))).sum
  if k < 2 then none else some ((axis PosSum.x + axis PosSum.y + axis PosSum.z) / ((k - 1) * k) / 100)

/-- SD_MM as RTK_SURVEY_SD reports it, rounded up and saturating. -/
def surveySd (l : List PosSum) : Nat := match surveySd2 l with | some v => satNat 16 (csqrt v.ceil.toNat) | none => 0xFFFF

/-- A block of a survey ends 60 s after it began (R165). -/
def closeBlock (s : State) : State :=
  if s.clk < s.rtk.blockAt + 60 * 10 ^ 9 then s
  else
    let l := if s.rtk.block.n = 0 then s.rtk.blocks else s.rtk.blocks ++ [s.rtk.block]
    { s with rtk := { s.rtk with blocks := l, block := {}, blockAt := s.rtk.blockAt + 60 * 10 ^ 9, sdMm := surveySd l } }

/-- A survey takes a position at 1 Hz, a confirmation one at each usable epoch of its 60 s (R164, R165). -/
def surveyEpoch (e : EpochMeas) (s : State) : State :=
  match e.spp, s.rtk.refState with
  | some p, .surveying =>
    let s := closeBlock s
    if ¬ surveyUsable e s ∨ now s % 10 ^ 9 ≠ 0 then s
    else
      let sum := s.rtk.sum.plus p
      { s with rtk := { s.rtk with sum := sum, block := s.rtk.block.plus p, mean := sum.mean } }
  | some p, .confirming =>
    if ¬ surveyUsable e s ∨ s.rtk.startAt + 60 * 10 ^ 9 < s.clk then s
    else
      let k := (s.clk - s.rtk.startAt) / 10 ^ 9
      { s with rtk := { s.rtk with sum := s.rtk.sum.plus p, seconds := if k ∈ s.rtk.seconds then s.rtk.seconds else k :: s.rtk.seconds } }
  | _, _ => s

/-- The 60 s moving average of single-point positions against the position in force (R169). -/
def movedEpoch (e : EpochMeas) (s : State) : State :=
  match e.spp with
  | none => s
  | some p =>
    let l := (s.clk, p) :: s.rtk.recent.filter (fun x => decide (s.clk < x.1 + 60 * 10 ^ 9))
    let far := match s.rtk.refState, s.rtk.pos with
      | .fixed, some q => !(sumOf (l.map Prod.snd)).within q (s.rtk.cfg.moveM * 1000)
      | _, _ => false
    { s with rtk := { s.rtk with recent := l, movedAt := if far then s.rtk.movedAt.or (some s.clk) else none } }

/-- The base's observation of a channel of ANT_A at an epoch (R159, R171). -/
def baseObs (r : GnssRecord) (m : ChanMeas) : BaseObs :=
  let f (i : Nat) : Bool := r.flags.toNat.testBit i
  { sat := (r.sig, r.svid), gloK := r.gloK, code := if f 4 then some r.pseudorange.toNat else none
    phase := if f 1 && f 2 then some r.carrier.toInt else none
    dopp := r.doppler.toInt, slip := f 3, los := m.los, dist := m.dist }

/-- Base observations of an epoch. -/
def baseObsOf (x : GnssEpoch) (e : EpochMeas) : List BaseObs :=
  (x.records.filter (fun r => decide (r.chan < 256))).filterMap (fun r => (e.chans.find? (fun m => m.chan == r.chan)).map (baseObs r))

/-- Base epochs that the engine holds for matching: those of the last 1 s, and the newest clean one before them, from which it predicts
(R181, R194). -/
def keepBase (t : Nat) (l : List BaseEpoch) : List BaseEpoch :=
  l.filter (fun b => decide (t < b.time + 10 ^ 9)) ++ ((l.filter (fun b => b.clean && decide (b.time + 10 ^ 9 ≤ t))).take 1)

/-- A slip of the base's own record reaches every filter (R183). -/
def baseSlips (b : BaseEpoch) (r : RtkMach) : RtkMach :=
  { r with filter := r.filter.map (fun (f : RtkFilter) =>
      { f with slips := f.slips ++ (b.obs.filter BaseObs.slip).map (fun o => (o.sat, b.time)) }) }

/-- The engine takes a base epoch (R171, R181). -/
def takeBase (e : EpochMeas) (clean : Bool) (s : State) : State :=
  let t := now s
  let obs := match s.gnss.latched with | some x => baseObsOf x e | none => []
  let b : BaseEpoch := { time := t, clean := clean, pos := s.rtk.pos, drift := e.drift, obs := obs }
  { s with rtk := { s.rtk with
    base := b :: keepBase t s.rtk.base, lastBase := some t, lastClean := if clean then some t else s.rtk.lastClean
    machs := s.rtk.machs.map (fun p => (p.1, baseSlips b p.2)) } }

/-- What the reference function does with an epoch (R164, R165, R169 to R173, R181, R100). -/
def referenceEpoch (e : EpochMeas) (clean : Bool) (s : State) : State :=
  let s := takeBase e clean (movedEpoch e (surveyEpoch e s))
  let s := { s with
    time := { s.time with cleanAt := if clean then some s.clk else s.time.cleanAt }
    gnss := { s.gnss with aiding := if clean then some (now s) else s.gnss.aiding } }
  let s := match e.utc with | some u => { s with time := { s.time with utcValid := true, utcOfs := u } } | none => s
  match s.gnss.latched with
  | some x => match bundleOf s x clean with
    | some b => { s with rtk := { s.rtk with bundleDue := some b } }
    | none => s
  | none => s

/-- A measurement epoch (R152): latched, checked for spoofing, and handed to the timebase and the reference function. -/
def measurementEpoch (e : EpochMeas) (s : State) : State :=
  let was := s.gnss.spoof.state
  let s := spoofEpoch e s
  let s := releaseExcluded (latchEpoch e was s)
  let clean := cleanEpoch e s
  let s := referenceEpoch e clean s
  gnssTimes e clean s

/-- The epoch that is latched stands in its bank (R156). -/
def writeBank (s : State) : State :=
  match s.gnss.latched with
  | some x =>
    raise bGNSS 0 { s with gnss := { s.gnss with
      banks := vmod s.gnss.banks (x.seq % 4) (fun _ => some x), latched := none, lastSeq := x.seq, lastTime := x.time } }
  | none => s

/-- EPOCH_WINDOW_WRITTEN (R156). -/
def execEpochWindowWritten (s : State) : Out := .next (gnssEvent writeBank s)

end Sys2Proof.Machine
end

