-- ==== Sys2Proof/Machine/Matrix.lean ====
section
/-! DEFINITION. Matrix.lean: exact vectors and matrices, the axes of a point on the WGS 84 ellipsoid, and integer least squares, for the
filters of the central RTK engine (06_reference_central_rtk.md R182 to R188; assumption log 19). -/

namespace Sys2Proof.Machine

open Sys2Proof

/-- A vector. -/
abbrev Vec := List Rat

/-- A matrix by rows. -/
abbrev Mat := List (List Rat)

/-- The sum of products. -/
def dot (a b : Vec) : Rat := (List.zipWith (fun (x y : Rat) => x * y) a b).sum

/-- a + k·b. -/
def axpy (a : Vec) (k : Rat) (b : Vec) : Vec := List.zipWith (fun (x y : Rat) => x + k * y) a b

/-- The columns of a matrix of n columns. -/
def columns (n : Nat) (a : Mat) : Mat := (List.range n).map (fun k => a.map (fun r => nth r k 0))

/-- A matrix times a vector. -/
def mulVec (a : Mat) (x : Vec) : Vec := a.map (fun r => dot r x)

/-- The product with a matrix of n columns. -/
def mmul (n : Nat) (a b : Mat) : Mat := let c := columns n b; a.map (fun r => c.map (dot r))

/-- a + k·b. -/
def madd (a : Mat) (k : Rat) (b : Mat) : Mat := List.zipWith (fun x y => axpy x k y) a b

/-- The unit matrix. -/
def unitMat (n : Nat) : Mat := (List.range n).map (fun i => (List.range n).map (fun j => if i = j then 1 else 0))

/-- The entry of a matrix. -/
def ent (a : Mat) (i j : Nat) : Rat := nth (nth a i []) j 0

/-- The entries at some rows and columns. -/
def subMat (a : Mat) (is js : List Nat) : Mat := is.map (fun i => js.map (fun j => ent a i j))

/-- The entries of a vector at some indices. -/
def subVec (x : Vec) (is : List Nat) : Vec := is.map (fun i => nth x i 0)

/-- T·P·Tᵀ for a T of m rows and n columns. -/
def congr (m n : Nat) (t p : Mat) : Mat := mmul m (mmul n t p) (columns n t)

/-- One step of the elimination at a pivot, on rows that hold a matrix with its right-hand sides. -/
def pivot (k : Nat) (rows : Mat) : Mat :=
  let p := nth rows k []
  let p := p.map (fun x => x / nth p k 0)
  (List.range rows.length).map (fun i =>
    let r := nth rows i []
    if i = k then p else axpy r (-(nth r k 0)) p)

/-- A⁻¹·B for a positive definite A of n rows. -/
def solve (n : Nat) (a b : Mat) : Mat :=
  ((List.range n).foldl (fun rows k => pivot k rows) (List.zipWith (fun x y => x ++ y) a b)).map (List.drop n)

/-- The inverse of a positive definite matrix of n rows. -/
def inverse (n : Nat) (a : Mat) : Mat := solve n a (unitMat n)

/-- A square root to 2^−30 below. -/
def sqrtR (x : Rat) : Rat := (isqrt (x * 2 ^ 60).floor.toNat : Rat) / 2 ^ 30

/-- The nearestInt integer, halves up. -/
def nearestInt (x : Rat) : Int := (x + 1 / 2).floor

/-- A vector of three over its length. -/
def unit3 (v : Vec) : Vec := let n := sqrtR (dot v v); v.map (fun x => x / n)

/-- East, north and up of the WGS 84 ellipsoid at an ECEF position in m, the latitude by one step from the reduced latitude (R242). -/
def axesAt (p : Vec) : Mat :=
  let a : Rat := 6378137
  let f : Rat := 1000000000 / 298257223563
  let b := a * (1 - f)
  let e2 := f * (2 - f)
  let x := nth p 0 0
  let y := nth p 1 0
  let z := nth p 2 0
  let r := sqrtR (x * x + y * y)
  let beta := unit3 [b * r, a * z]
  let c := nth beta 0 0
  let s := nth beta 1 0
  let h := unit3 [r - e2 * a * c * c * c, z + e2 / (1 - e2) * b * s * s * s]
  let ch := nth h 0 0
  let sh := nth h 1 0
  let ex := -y / r
  let ey := x / r
  [[ex, ey, 0], [-sh * ey, sh * ex, ch], [ch * ey, -ch * ex, sh]]

/-- A point in 0.1 mm as a vector in m. -/
def metres (p : Ecef) : Vec := [(p.x.toInt : Rat) / 10000, (p.y.toInt : Rat) / 10000, (p.z.toInt : Rat) / 10000]

/-! Integer least squares (R186) -/

/-- The variances of Gaussian values each given those before it, and the coefficients of the others on it. -/
def conditional : Nat → Mat → List (Rat × Vec)
  | 0, _ => []
  | n + 1, q =>
    let d := ent q 0 0
    let col := (q.drop 1).map (fun r => nth r 0 0)
    let l := col.map (fun x => x / d)
    (d, l) :: conditional n (List.zipWith (fun r k => axpy (r.drop 1) (-k) col) (q.drop 1) l)

/-- An elementary integer change of variables: value j less k times value i, or values i and i + 1 exchanged. -/
inductive Elementary where
  | less (j i : Nat) (k : Int)
  | swap (i : Nat)
  deriving DecidableEq, Repr

/-- What an elementary change does to values. -/
def Elementary.on {α : Type} (lessK : α → Int → α → α) (d : α) (e : Elementary) (l : List α) : List α :=
  match e with
  | .less j i k => lmod l j (fun x => lessK x k (nth l i d))
  | .swap i => (List.range l.length).map (fun n => nth l (if n = i then i + 1 else if n = i + 1 then i else n) d)

/-- What it undoes on integers. -/
def Elementary.undo (e : Elementary) (l : List Int) : List Int :=
  match e with
  | .less j i k => lmod l j (fun x => x + k * nth l i 0)
  | .swap i => Elementary.on (fun x _ _ => x) 0 (.swap i) l

/-- The covariance after a change. -/
def Elementary.cov (n : Nat) (e : Elementary) (q : Mat) : Mat :=
  let rows (a : Mat) : Mat := e.on (fun x k y => axpy x (-(k : Rat)) y) [] a
  rows (columns n (rows q))

/-- The next change of a decorrelation: a coefficient above one half is reduced, then two neighbours are exchanged where that lowers
the variance of the first. -/
def nextChange (c : List (Rat × Vec)) : Option Elementary :=
  let n := c.length
  let coef (j i : Nat) : Rat := nth (nth c i (0, [])).2 (j - i - 1) 0
  let var (i : Nat) : Rat := (nth c i (0, [])).1
  let pairs := (List.range n).flatMap (fun i => (List.range (n - i - 1)).map (fun k => (i + k + 1, i)))
  match pairs.find? (fun p => nearestInt (coef p.1 p.2) != 0) with
  | some (j, i) => some (.less j i (nearestInt (coef j i)))
  | none =>
    ((List.range (n - 1)).find? (fun i => decide (var (i + 1) + coef (i + 1) i * coef (i + 1) i * var i < var i))).map .swap

/-- The changes that decorrelate a covariance of n values, in order, and the covariance after them. -/
def decorrelate (n : Nat) : Nat → Mat → List Elementary × Mat
  | 0, q => ([], q)
  | k + 1, q =>
    match nextChange (conditional n q) with
    | none => ([], q)
    | some e =>
      let r := decorrelate n k (e.cov n q)
      (e :: r.1, r.2)

/-- Integers within a squared distance of a real number. -/
def near (x bound : Rat) : List Int :=
  let r : Int := (isqrt bound.ceil.toNat : Nat) + 1
  ((List.range (2 * r.toNat + 2)).map (fun k => x.floor - r + (k : Int))).filter (fun z => decide ((z - x) * (z - x) ≤ bound))

/-- Every integer vector within a squared norm of the float one, with its norm; the float values are given one by one, each with the
coefficients of those after it. -/
def within_ : List (Rat × Vec) → Vec → Rat → List (List Int × Rat)
  | [], _, _ => [([], 0)]
  | (d, l) :: c, a, bound =>
    let x := nth a 0 0
    (near x (bound * d)).flatMap (fun (z : Int) =>
      let q : Rat := ((z : Rat) - x) * (z - x) / d
      (within_ c (axpy (a.drop 1) (z - x) l) (bound - q)).map (fun r => (z :: r.1, q + r.2)))

/-- The squared norm of the vector of nearestInt integers taken one by one, the last of them moved by one if far is set. -/
def rounded : List (Rat × Vec) → Vec → Bool → Rat
  | [], _, _ => 0
  | (d, l) :: c, a, far =>
    let x := nth a 0 0
    let z : Int := nearestInt x + (if far ∧ c.isEmpty = true then (if (nearestInt x : Rat) ≤ x then 1 else -1) else 0)
    (z - x) * (z - x) / d + rounded c (axpy (a.drop 1) (z - x) l) far

/-- What the search unit finds (R186): the best integer vector, its squared norm and that of the second best, and the conditional
variances of the decorrelated ambiguities. -/
structure Search where
  best : List Int := []
  norm : Rat := 0
  second : Rat := 0
  vars : List Rat := []
  deriving DecidableEq, Repr

/-- The integer least-squares vector and the second best of n float ambiguities a with covariance q (R186). -/
def search (n : Nat) (a : Vec) (q : Mat) : Search :=
  let z := decorrelate n (10000 * n) q
  let c := conditional n z.2
  let a := z.1.foldl (fun (l : Vec) e => Elementary.on (fun (x : Rat) (k : Int) (y : Rat) => x - k * y) 0 e l) a
  let l := sortBy (fun (x y : List Int × Rat) => decide (x.2 ≤ y.2)) (within_ c a (max (rounded c a false) (rounded c a true)))
  let b := nth l 0 ([], 0)
  { best := z.1.reverse.foldl (fun v e => e.undo v) b.1, norm := b.2, second := (nth l 1 ([], 0)).2, vars := c.map Prod.fst }

end Sys2Proof.Machine
end

