-- ==== Sys2Proof/Machine/Filter.lean ====
section
/-! DEFINITION. Filter.lean: the float filter of one machine and its integer fix (06_reference_central_rtk.md R182 to R188, R194).
Numbers are exact; assumption log 19 names what the manual leaves open. -/

namespace Sys2Proof.Machine

open Sys2Proof

/-- The speed of light in m/s, by which RTCM and the receivers turn a carrier phase into a range. -/
def lightSpeed : Rat := 299792458

/-- Wavelength of a signal in m. -/
def waveLen (a : Amb) : Rat := lightSpeed / (sigInfo a.sat.1 a.gloK).1

/-- GLONASS FDMA signals, whose ambiguities stay float (R187). -/
def fdma (a : Amb) : Bool := a.sat.1 == 0x11 || a.sat.1 == 0x12

/-- One signal that both receivers track: its satellite, its distance from the base's phase centre of its band path and the vector to it
as a baseline from path U's sees it, in ECEF m, the sine of its elevation at the base, and machine less base code, phase and range rate in m and m/s (R183). -/
structure Common where
  amb   : Amb := {}
  dist  : Rat := 0
  v     : Vec := []
  sinEl : Rat := 0
  code  : Option Rat := none
  phase : Option Rat := none
  rate  : Option Rat := none
  lock  : Nat := 0
  half  : Bool := false
  deriving DecidableEq, Repr, Inhabited

/-- Vertical offset of the phase centre of a signal's band path from that of path U, in m (PCO_U, PCO_M, PCO_L). -/
def pcoOf (c : RtkCfg) (a : Amb) : Rat :=
  let p := (sigInfo a.sat.1 a.gloK).2.2
  (((if p = 0 then c.pcoU else if p = 1 then c.pcoM else c.pcoL) - c.pcoU : Int) : Rat) / 1000

/-- Length of a vector of three. -/
def norm3 (v : Vec) : Rat := sqrtR (dot v v)

/-- A difference of two that both hold. -/
def less? (a b : Option Rat) : Option Rat := match a, b with | some x, some y => some (x - y) | _, _ => none

/-- The pair that a machine's observation forms with the base's. For a base epoch earlier than the machine epoch the base's is predicted
by the satellite's motion and the base's clock drift (R178, R194). -/
def commonOf (c : RtkCfg) (axes : Mat) (b : BaseEpoch) (t : Nat) (m : MachObs) (o : BaseObs) : Common :=
  let k := m.gloK.getD o.gloK
  let a : Amb := { sat := m.sat, gloK := k }
  let e : Vec := [(o.los.1 : Rat) / 2 ^ 30, (o.los.2.1 : Rat) / 2 ^ 30, (o.los.2.2 : Rat) / 2 ^ 30]
  let v0 := (mulVec (columns 3 axes) e).map (fun x => x * ((o.dist : Rat) / 1000))
  let d := Config.satMove m.sat b.time t
  let v := axpy v0 (1 / 1000) [(d.1 : Rat), (d.2.1 : Rat), (d.2.2 : Rat)]
  let age : Rat := ((t - b.time : Nat) : Rat) / 10 ^ 9
  let grown := if b.time = t then 0 else norm3 v - norm3 v0 + lightSpeed * ((b.drift : Rat) / 10 ^ 12) * age
  let w := waveLen a
  { amb := a, dist := norm3 v, v := axpy v (pcoOf c a) (nth axes 2 [])
    sinEl := nth e 2 0
    code := less? m.code (o.code.map (fun x => (x : Rat) / 2 ^ 16 + grown))
    phase := less? m.phase (o.phase.map (fun x => (x : Rat) / 2 ^ 24 * w + grown))
    rate := less? m.rate (some (-((o.dopp : Rat) / 2 ^ 8 * w)))
    lock := m.lock, half := m.half }

/-- The pairs of a machine epoch with a base epoch: a signal that the base does not track contributes nothing (R178, R183). -/
def commons (c : RtkCfg) (axes : Mat) (b : BaseEpoch) (t : Nat) (l : List MachObs) : List Common :=
  l.filterMap (fun m => (b.obs.find? (fun o => o.sat == m.sat)).map (commonOf c axes b t m))

/-- A filter that starts empty (R183, R198, R199). -/
def newFilter (t : Nat) : RtkFilter :=
  let p := (unitMat 6).zipIdx.map (fun r => r.1.map (fun x => x * (if r.2 < 3 then Config.newFilter.1 else Config.newFilter.2)))
  { time := t, x := List.replicate 6 0, p := p }

/-- The number of states. -/
def RtkFilter.n (f : RtkFilter) : Nat := 6 + f.amb.length

/-- The place of an ambiguity in the state. -/
def RtkFilter.at? (f : RtkFilter) (s : SatSig) : Option Nat := (f.amb.findIdx? (fun a => a.sat == s)).map (· + 6)

/-- Step 1 (R182, R183): the baseline is integrated from the velocity, whose random walk has the spectral densities Q_H and Q_V in
mm/s²/√Hz along the base's axes; ambiguities are constant. -/
def propagate (axes : Mat) (qh qv t : Nat) (f : RtkFilter) : RtkFilter :=
  let dt : Rat := ((t - f.time : Nat) : Rat) / 10 ^ 9
  let n := f.n
  let tr := (List.range n).map (fun i => (List.range n).map (fun j => if i = j then 1 else if i < 3 ∧ j = i + 3 then dt else 0))
  let q (k : Nat) : Rat := let d : Rat := ((if k < 2 then qh else qv : Nat) : Rat) / 1000; d * d
  let s (i j : Nat) : Rat := ((List.range 3).map (fun k => ent axes k i * q k * ent axes k j)).sum
  let noise := (List.range n).map (fun i => (List.range n).map (fun j =>
    if 6 ≤ i ∨ 6 ≤ j then 0
    else s (i % 3) (j % 3) * (if i < 3 ∧ j < 3 then dt * dt * dt / 3 else if 3 ≤ i ∧ 3 ≤ j then dt else dt * dt / 2)))
  { f with time := t, x := mulVec tr f.x, p := madd (congr n n tr f.p) 1 noise }

/-- The state at some indices of an old one, with their ambiguities. -/
def RtkFilter.keep (f : RtkFilter) (amb : List Amb) : RtkFilter :=
  let is := List.range 6 ++ amb.filterMap (fun a => f.at? a.sat)
  { f with x := subVec f.x is, p := subMat f.p is is, amb := amb.filter (fun a => (f.at? a.sat).isSome) }

/-- The variance of a new ambiguity in cycles² (R183). -/
def newVar : Rat := 10 ^ 4

/-- An ambiguity reset to a value with the variance of a new one (R183). -/
def RtkFilter.reset (f : RtkFilter) (i : Nat) (v : Rat) : RtkFilter :=
  { f with
    x := lmod f.x i (fun _ => v)
    p := (List.range f.n).map (fun r => (List.range f.n).map (fun c => if r = i ∧ c = i then newVar else if r = i ∨ c = i then 0 else ent f.p r c)) }

/-- A new ambiguity added (R183). -/
def RtkFilter.add (f : RtkFilter) (a : Amb) (v : Rat) : RtkFilter :=
  { f with x := f.x ++ [v], p := f.p.map (fun r => r ++ [0]) ++ [List.replicate f.n 0 ++ [newVar]], amb := f.amb ++ [a] }

/-- The reference satellite of a signal: of highest elevation, then lowest number (R183). -/
def refOf (l : List Common) (sig : Nat) : Option Common :=
  (sortBy (fun (a b : Common) => decide (b.sinEl < a.sinEl ∨ (b.sinEl = a.sinEl ∧ a.amb.sat.2 ≤ b.amb.sat.2))) (l.filter (fun x => x.amb.sat.1 == sig))).head?

/-- Step 2 for one signal (R183): the ambiguities are carried over to another reference satellite with their covariance; where the new
one has no ambiguity, those of the signal start afresh. -/
def RtkFilter.reref (f : RtkFilter) (dst : Amb) : RtkFilter :=
  let sig := dst.sat.1
  let refs := f.refs.filter (fun r => r.sat.1 != sig) ++ [dst]
  match f.refs.find? (fun r => r.sat.1 == sig) with
  | none => { f with refs := refs }
  | some old =>
    if old.sat = dst.sat then f
    else match f.at? dst.sat with
      | none => { f.keep (f.amb.filter (fun a => a.sat.1 != sig)) with refs := refs }
      | some k =>
        let amb (i : Nat) : Amb := nth f.amb (i - 6) {}
        let tr := (List.range f.n).map (fun i => (List.range f.n).map (fun j =>
          if i = k then (if j = k then -(waveLen dst / waveLen old) else 0)
          else (if i = j then 1 else 0) + (if j = k ∧ 6 ≤ i ∧ (amb i).sat.1 = sig then -(waveLen dst / waveLen (amb i)) else 0)))
        { f with x := mulVec tr f.x, p := congr f.n f.n tr f.p, amb := lmod f.amb (k - 6) (fun _ => old), refs := refs }

/-- Step 2 (R183). -/
def rereference (l : List Common) (f : RtkFilter) : RtkFilter :=
  ((l.map (fun x => x.amb.sat.1)).dedup).foldl (fun f g => match refOf l g with | some r => f.reref r.amb | none => f) f

/-- One double difference against its reference: its row of the design matrix, its innovation, the variances of its satellite and of its
reference, and its kind, 0 code, 1 phase, 2 range rate. -/
structure Row where
  sat  : SatSig := (0, 0)
  kind : Nat := 0
  h    : Vec := []
  nu   : Rat := 0
  own  : Rat := 0
  ref  : Rat := 0
  deriving DecidableEq, Repr

/-- a² + b² / sin²(el) of both receivers (R184). -/
def pairVar (a b sinEl : Rat) : Rat := 2 * (a * a + b * b / (sinEl * sinEl))

/-- The direction by which a baseline lengthens the range, and the machine's range less the base's. -/
def rangeOf (f : RtkFilter) (x : Common) : Vec × Rat :=
  let d := axpy x.v (-1) (f.x.take 3)
  let r := norm3 d
  (d.map (fun y => -y / r), r - x.dist)

/-- The double differences of a pair against its reference (R183, R184). -/
def rowsOf (c : RtkCfg) (f : RtkFilter) (ref x : Common) : List Row :=
  let rx := rangeOf f x
  let rr := rangeOf f ref
  let g := axpy rx.1 (-1) rr.1
  let m := f.amb.length
  let zero := List.replicate m 0
  let mk (kind : Nat) (h : Vec) (y : Rat) (a b : Rat) : Row :=
    { sat := x.amb.sat, kind := kind, h := h, nu := y, own := pairVar a b x.sinEl, ref := pairVar a b ref.sinEl }
  let pred := rx.2 - rr.2
  (match x.code, ref.code with
    | some y, some z => [mk 0 (g ++ [0, 0, 0] ++ zero) (y - z - pred) (c.codeA / 1000) (c.codeB / 1000)]
    | _, _ => [])
  ++ (match x.phase, ref.phase, f.at? x.amb.sat with
    | some y, some z, some k =>
      let w := waveLen x.amb
      [mk 1 (g ++ [0, 0, 0] ++ (List.range m).map (fun j => if j + 6 = k then w else 0)) (y - z - pred - w * nth f.x k 0)
        (c.phaseA / 10000) (c.phaseB / 10000)]
    | _, _, _ => [])
  ++ (match x.rate, ref.rate with
    | some y, some z => [mk 2 ([0, 0, 0] ++ g ++ zero) (y - z - dot g ((f.x.drop 3).take 3)) Config.rateAB.1 Config.rateAB.2]
    | _, _ => [])

/-- Every double difference of an epoch. -/
def rows (c : RtkCfg) (l : List Common) (f : RtkFilter) : List Row :=
  l.flatMap (fun x => match refOf l x.amb.sat.1 with
    | some r => if r.amb.sat = x.amb.sat then [] else rowsOf c f r x
    | none => [])

/-- The covariance of the double differences (R184), each with more variance where the base is predicted (R194). -/
def rowCov (l : List Row) (more : Rat) : Mat :=
  l.zipIdx.map (fun a => l.zipIdx.map (fun b =>
    if a.2 = b.2 then a.1.own + a.1.ref + more
    else if a.1.kind = b.1.kind ∧ a.1.sat.1 = b.1.sat.1 then a.1.ref else 0))

/-- The covariance of the innovations. -/
def innovCov (f : RtkFilter) (l : List Row) (more : Rat) : Mat :=
  madd (congr l.length f.n (l.map Row.h) f.p) 1 (rowCov l more)

/-- The value of a new or reset ambiguity, by which the phase agrees with the code, or with the state without code
(DESIGN CHOICE, assumption log 19). -/
def ambValue (f : RtkFilter) (ref x : Common) : Option Rat :=
  match x.phase, ref.phase with
  | some y, some z =>
    let by_ := match x.code, ref.code with
      | some u, some v => u - v
      | _, _ => (rangeOf f x).2 - (rangeOf f ref).2
    some ((y - z - by_) / waveLen x.amb)
  | _, _ => none

/-- The ambiguity of a pair reset, where it has one. -/
def resetPair (l : List Common) (x : Common) (f : RtkFilter) : RtkFilter :=
  match f.at? x.amb.sat, refOf l x.amb.sat.1 with
  | some k, some r => match ambValue f r x with | some v => f.reset k v | none => f.reset k 0
  | _, _ => f

/-- A slip of a signal as its records tell it (R183): the machine's lock time indicator falls, its half-cycle flag changes, or the base
record carries CYCLE_SLIP. -/
def slipped (f : RtkFilter) (t : Nat) (x : Common) : Bool :=
  (match f.locks.find? (fun y => y.1 == x.amb.sat) with | some y => decide (x.lock < y.2.1) || x.half != y.2.2 | none => false)
  || f.slips.any (fun y => y.1 == x.amb.sat && decide (y.2 ≤ t))

/-- The pairs whose ambiguity slips: with a reference satellite, every ambiguity of its signal. -/
def slipSet (l : List Common) (bad : Common → Bool) : List Common :=
  l.filter (fun x => bad x || (match refOf l x.amb.sat.1 with | some r => bad r | none => false))

/-- Step 4 (R183, R184): at most 64 ambiguities are kept, those of the epoch's highest satellites before those without an observation;
slipped ones are reset and new ones added. -/
def ambStep (t : Nat) (l : List Common) (f : RtkFilter) : RtkFilter :=
  let high := sortBy (fun (a b : Common) => decide (b.sinEl ≤ a.sinEl))
    (l.filter (fun x => x.phase.isSome && (match refOf l x.amb.sat.1 with | some r => r.amb.sat != x.amb.sat && r.phase.isSome | none => false)))
  let want := high.take 64
  let rest := (f.amb.filter (fun a => !(want.any (fun x => x.amb.sat == a.sat)))).take (64 - want.length)
  let f := f.keep (f.amb.filter (fun a => want.any (fun x => x.amb.sat == a.sat) || rest.contains a))
  let f := (slipSet l (slipped f t)).foldl (fun f x => resetPair l x f) f
  want.foldl (fun f x => match f.at? x.amb.sat, refOf l x.amb.sat.1 with
    | none, some r => match ambValue f r x with | some v => f.add x.amb v | none => f
    | _, _ => f) f

/-- The pairs that contribute where more than 64 ambiguities are available: those of satellites that keep every ambiguity (R184). -/
def capped (l : List Common) (f : RtkFilter) : List Common :=
  let out := l.filter (fun x => x.phase.isSome && (f.at? x.amb.sat).isNone &&
    (match refOf l x.amb.sat.1 with | some r => r.amb.sat != x.amb.sat && r.phase.isSome | none => false))
  l.filter (fun x => !(out.any (fun y => y.amb.sat.1 / 16 == x.amb.sat.1 / 16 && y.amb.sat.2 == x.amb.sat.2)))

/-- Phase innovations above four standard deviations are slips (R183). -/
def jumpStep (c : RtkCfg) (l : List Common) (more : Rat) (f : RtkFilter) : RtkFilter × List SatSig :=
  let rs := rows c l f
  let s := innovCov f rs more
  let bad := (rs.zipIdx.filter (fun r => r.1.kind == 1 && decide (16 * ent s r.2 r.2 < r.1.nu * r.1.nu))).map (fun r => r.1.sat)
  ((l.filter (fun x => bad.contains x.amb.sat)).foldl (fun f x => resetPair l x f) f, bad)

/-- What an update gives: the filter, the weighted residual sum T, its degrees of freedom, and the satellite of the largest normalised
residual. -/
structure Update where
  f     : RtkFilter := {}
  t     : Rat := 0
  dof   : Nat := 0
  worst : Option SatSig := none
  slips : List SatSig := []
  used  : List Common := []
  deriving DecidableEq, Repr

/-- Step 5 (R183), with the residual sum of R185. -/
def update (c : RtkCfg) (l : List Common) (more : Rat) (slips : List SatSig) (f : RtkFilter) : Update :=
  let rs := rows c l f
  let k := rs.length
  let n := f.n
  let h := rs.map Row.h
  let s := innovCov f rs more
  let nu := rs.map Row.nu
  let sn := solve k s (nu.map (fun x => [x]))
  let ht := columns n h
  let gain := mmul k (mmul k f.p ht) (inverse k s)
  let big := sortBy (fun (a b : Rat × SatSig) => decide (b.1 ≤ a.1)) (rs.zipIdx.map (fun r => (r.1.nu * r.1.nu / ent s r.2 r.2, r.1.sat)))
  { f := { f with x := axpy f.x 1 (mulVec gain nu), p := madd f.p (-1) (mmul n gain (mmul n h f.p)) }
    t := dot nu (sn.map (fun r => nth r 0 0)), dof := k, worst := big.head?.map Prod.snd, slips := slips, used := l }

/-- Steps 2 to 5 on a propagated filter. -/
def floatStep (c : RtkCfg) (t : Nat) (l : List Common) (more : Rat) (f : RtkFilter) : Update :=
  let f := rereference l f
  let slips := (slipSet l (slipped f t)).map (fun x => x.amb.sat)
  let f := ambStep t l f
  let l := capped l f
  let j := jumpStep c l more f
  update c l more (slips ++ j.2) j.1

/-- The residual test (R185): a satellite removed and its ambiguities reset, one repeat, and the covariance scaled. -/
structure Tested where
  u        : Update := {}
  excluded : Bool := false
  failed   : Bool := false
  deriving DecidableEq, Repr

/-- A satellite: constellation and number. -/
def satOf (x : SatSig) : SatId := (x.1 / 16, x.2)

/-- The test passes. -/
def Update.passes (u : Update) : Bool := decide (u.t ≤ Config.chi2 u.dof)

/-- The covariance times s² = max(1, T / dof) (R185). -/
def Update.scaled (u : Update) : Update :=
  let s := max 1 (u.t / u.dof)
  { u with f := { u.f with p := u.f.p.map (fun r => r.map (fun x => x * s)) } }

/-- The float solution of an epoch with its residual test (R183, R185). -/
def floatSolve (c : RtkCfg) (t : Nat) (l : List Common) (more : Rat) (f : RtkFilter) : Tested :=
  let u := floatStep c t l more f
  match u.passes, u.worst with
  | false, some w =>
    let f := f.amb.foldl (fun (g : RtkFilter) a => if satOf a.sat = satOf w then (match g.at? a.sat with | some k => g.reset k (nth g.x k 0) | none => g) else g) f
    let v := floatStep c t (l.filter (fun x => satOf x.amb.sat != satOf w)) more f
    { u := v.scaled, excluded := true, failed := !v.passes }
  | ok, _ => { u := u.scaled, failed := !ok }

/-! The integer fix (R186 to R188) -/

/-- The state given the values of some of its ambiguities with a variance v each: their mean and covariance follow (R188, R189). -/
def RtkFilter.given (f : RtkFilter) (is : List Nat) (z : List Rat) (v : Rat) : RtkFilter :=
  let k := is.length
  let all := List.range f.n
  let paa := subMat f.p is is
  let g := mmul k (subMat f.p all is) (inverse k paa)
  let d := axpy z (-1) (subVec f.x is)
  let q := (unitMat k).map (fun r => r.map (fun x => x * v))
  let drop := mmul f.n (mmul k g (madd paa (-1) q)) (columns k g)
  { f with x := axpy f.x 1 (mulVec g d), p := madd f.p (-1) drop }

/-- One attempt: the ambiguities searched, in descending elevation, and what the search unit found. -/
structure Attempt where
  sats : List SatSig := []
  is   : List Nat := []
  s    : Search := {}
  deriving DecidableEq, Repr

/-- An attempt declares the fix (R186). -/
def Attempt.fixes (c : RtkCfg) (a : Attempt) : Bool :=
  decide ((c.ratioMin : Rat) / 256 * a.s.norm ≤ a.s.second)
  && decide (1 - (1 / 10 : Rat) ^ c.irAmb ≤ (a.s.vars.map Config.roundProb).prod) && decide (c.minAmb ≤ a.is.length)

/-- An attempt at some ambiguities. -/
def attempt (f : RtkFilter) (sats : List SatSig) : Attempt :=
  let is := sats.filterMap f.at?
  { sats := sats, is := is, s := search is.length (subVec f.x is) (subMat f.p is is) }

/-- Attempts at ever fewer ambiguities, the lowest satellite dropped each time, until one fixes or MIN_AMB are left (R187). -/
def attempts (c : RtkCfg) (f : RtkFilter) : Nat → List SatSig → Attempt
  | 0, l => attempt f l
  | n + 1, l =>
    let a := attempt f l
    if a.fixes c ∨ l.length ≤ c.minAmb then a else attempts c f n l.dropLast

/-- Ambiguities of the epoch that may be searched, in descending elevation (R187). -/
def searchable (u : Update) : List SatSig :=
  ((sortBy (fun (a b : Common) => decide (b.sinEl ≤ a.sinEl)) (u.used.filter (fun x => x.phase.isSome && (u.f.at? x.amb.sat).isSome && !fdma x.amb))).map
    (fun x => x.amb.sat))

/-- The same integers have been fixed: the same ambiguities, with values that differ by one amount in each signal, which a change of
reference satellite alone brings about (R183, R188). -/
def sameInts (a b : List (SatSig × Int)) : Bool :=
  let v (l : List (SatSig × Int)) (k : SatSig) : Option Int := (l.find? (fun x => x.1 == k)).map Prod.snd
  decide (a.length = b.length) && a.all (fun x => a.all (fun y =>
    x.1.1 != y.1.1 || (match v b x.1, v b y.1 with | some p, some q => decide (x.2 - y.2 = p - q) | _, _ => false)))

/-- A fix with the reference satellites, whose ambiguity is 0 by definition. -/
def withRefs (f : RtkFilter) (sats : List SatSig) (z : List Int) : List (SatSig × Int) :=
  sats.zip z ++ ((f.refs.filter (fun r => sats.any (fun x => x.1 == r.sat.1))).map (fun r => (r.sat, 0)))

/-- What the engine finds for one machine epoch (R183 to R189): the filter as it stays, the state that the solution reports, whether and
how it is fixed, the integers and for how many epochs they have stood, and the counts and flags of its record. -/
structure RtkFix where
  filter  : RtkFilter := {}
  out     : RtkFilter := {}
  nsv     : Nat := 0
  nDd     : Nat := 0
  nAmb    : Nat := 0
  fixed   : Bool := false
  ints    : List (SatSig × Int) := []
  nfix    : Nat := 0
  ratio   : Nat := 0
  partial_ : Bool := false
  count   : Nat := 0
  held    : Bool := false
  failed  : Bool := false
  excluded : Bool := false
  pdop    : Nat := 0
  deriving DecidableEq, Repr

/-- A ratio in units of 1/256, cut. -/
def ratioOf (s : Search) : Nat := if s.norm = 0 then 0xFFFF else satNat 16 (s.second / s.norm * 256).floor.toNat

/-- PDOP × 100 of the satellites used. -/
def pdopOf (f : RtkFilter) (l : List Common) : Nat :=
  let one := l.foldl (fun (acc : List Common) x => if acc.any (fun y => satOf y.amb.sat == satOf x.amb.sat) then acc else acc ++ [x]) []
  let g := one.map (fun x => (rangeOf f x).1 ++ [1])
  let q := inverse 4 (mmul 4 (columns 4 g) g)
  satNat 16 (isqrt ((ent q 0 0 + ent q 1 1 + ent q 2 2) * 10000).floor.toNat)

/-- Satellites of a list of pairs. -/
def satsIn (l : List SatSig) : Nat := (l.map satOf).dedup.length

/-- The lock indicators and half-cycle flags after an epoch. -/
def locksAfter (old : List (SatSig × Nat × Bool)) (l : List Common) : List (SatSig × Nat × Bool) :=
  l.map (fun x => (x.amb.sat, x.lock, x.half)) ++ old.filter (fun y => !(l.any (fun x => x.amb.sat == y.1)))

/-- One machine epoch solved against a base epoch (R183 to R188): r is the machine's state, a the correction age in ns. -/
def solveEpoch (c : RtkCfg) (axes : Mat) (qh qv : Nat) (b : BaseEpoch) (r : RtkMach) (e : MachEpoch) (a : Nat) : RtkFix :=
  let l := commons c axes b e.time e.obs
  let q : Rat := (c.qcorr : Rat) / 100000 * ((a : Rat) / 10 ^ 9)
  let f := propagate axes qh qv e.time (r.filter.getD (newFilter e.time))
  let x := floatSolve c e.time l (q * q) f
  let u := x.u
  let g := { u.f with locks := locksAfter u.f.locks l, slips := u.f.slips.filter (fun y => decide (e.time < y.2)) }
  let full := searchable u
  let t := attempts c g full.length full
  let ok := t.fixes c
  let z := withRefs g t.sats t.s.best
  let n := if ¬ ok then 0 else if sameInts z r.ints ∧ ¬ t.sats.any u.slips.contains then r.holdCount + 1 else 1
  let held := decide (c.holdN ≠ 0 ∧ c.holdN ≤ n)
  let best := t.s.best.map (fun (y : Int) => (y : Rat))
  { filter := if held then g.given t.is best (1 / 10 ^ 6) else g
    out := if ok then g.given t.is best 0 else g
    nsv := satsIn (u.used.map (fun y => y.amb.sat))
    nDd := satsIn ((rows c u.used g).map Row.sat)
    nAmb := full.length + (u.used.filter (fun y => fdma y.amb && (g.at? y.amb.sat).isSome && y.phase.isSome)).length
    fixed := ok, ints := if ok then z else [], nfix := if ok then t.is.length else 0, ratio := ratioOf t.s
    partial_ := ok && decide (t.sats.length < full.length), count := n, held := held, failed := x.failed, excluded := x.excluded
    pdop := pdopOf g u.used }

end Sys2Proof.Machine
end

