-- ==== Sys2Proof/Machine/Rtk.lean ====
section
/-! DEFINITION. Rtk.lean: the reference position, correction output, ingest of machine observations, and what the central
RTK engine reports of its filters (06_reference_central_rtk.md). -/

namespace Sys2Proof.Machine

open Sys2Proof

/-- RTK's block index. -/
def bRTK : Nat := 0x04

/-- REF_STATE codes (R162). -/
def RefState.code : RefState → Nat
  | .none => 0 | .surveying => 1 | .confirming => 2 | .fixed => 3 | .confirmFail => 4 | .moved => 5

/-- REF_SRC codes. -/
def RefSrc.code : RefSrc → Nat
  | .none => 0 | .survey => 1 | .entered => 2 | .stored => 3

/-- The reference state changes, with its record (R551). -/
def refTo (st : RefState) (src : RefSrc) (s : State) : State :=
  note 0x0440 1 st.code src.code 0 { s with rtk := { s.rtk with refState := st, refSrc := src } }

/-- The state becomes FIXED at a position: stored in the MRAM with its source, and the origin if none is held (R167, R243). -/
def refFixed (p : Ecef) (src kept : RefSrc) (s : State) : State :=
  let s := { s with
    rtk := { s.rtk with pos := some p, stored := some (p, kept), result := .done, testing := none, movedAt := none }
    grid := { s.grid with origin := some (s.grid.origin.getD p) } }
  refTo .fixed src (raise bRTK 0 s)

/-- A confirmation starts (R164). -/
def confirmStart (p : Ecef) (src : RefSrc) (s : State) : State :=
  refTo .confirming .none { s with rtk := { s.rtk with testing := some (p, src), startAt := s.clk, result := .none, sum := {}, seconds := [] } }

/-- Modes that take SURVEY_START and CLEAR (R168). -/
def surveyMode (s : State) : Bool := s.sys.mode == .survey || s.sys.mode == .quenched || s.sys.mode == .maintenance

/-- More than one command bit of an RTK_CTRL word is set (R200). -/
def manyBits (w : Word) : Bool := decide (1 < ((List.range 4).map (fun i => b2n (bit w i))).sum)

/-- A write of RTK_CTRL that orders a reference command: LOCK, the refusals of R168 and R200, then the command. -/
def refCmd (w : Word) (modeOk : Bool) (run : State → State) (s : State) : State :=
  let s := regWrite 0x040000 w s
  if manyBits w then { s with rtk.result := .busy }
  else if ¬ modeOk then { s with rtk.result := .mode }
  else run s

/-- SURVEY_START (R165, R168). w is the word written to RTK_CTRL. -/
def execSurveyStart (w : Word) (s : State) : Out :=
  .next (bus s fun s => refCmd w (surveyMode s) (fun s =>
    if s.twin.present then { s with rtk.result := .paired }
    else refTo .surveying .none { s with rtk := { s.rtk with
      startAt := s.clk, result := .none, sdMm := 0xFFFF, testing := none, sum := {}, block := {}, blockAt := s.clk, blocks := [] } }) s)

/-- A result code that no rule gives, drawn free (assumption log 19). -/
def freeResult (s : State) : RefResult :=
  [RefResult.none, .done, .mode, .paired, .busy, .disagree, .noSignal].getD (freeVal s % 7) .none

/-- CONFIRM (R164, R168). With no stored position nothing is confirmed, and no rule gives the result. -/
def execConfirm (w : Word) (s : State) : Out :=
  .next (bus s fun s => refCmd w (surveyMode s || s.sys.mode == .servitor) (fun s =>
    match s.rtk.stored with
    | some p => confirmStart p.1 .stored s
    | none => drawn { s with rtk.result := freeResult s }) s)

/-- ENTER (R166, R168). -/
def execEnter (w : Word) (s : State) : Out :=
  .next (bus s fun s => refCmd w (surveyMode s || s.sys.mode == .servitor) (fun s => confirmStart s.rtk.staged .entered s) s)

/-- CLEAR (R168). -/
def execClear (w : Word) (s : State) : Out :=
  .next (bus s fun s => refCmd w (surveyMode s) (fun s =>
    refTo .none .none { s with rtk := { s.rtk with pos := none, stored := none, testing := none, result := .done } }) s)

/-- The state becomes CONFIRM_FAIL (R164). -/
def confirmFail (r : RefResult) (s : State) : State :=
  refTo .confirmFail .none (raise bRTK 1 { s with rtk := { s.rtk with result := r, testing := none } })

/-- The reference function works (R198). -/
def refRuns (s : State) : Bool := gnssRuns s

/-- A confirmation ends 60 s after it began (R164). -/
def confirmationDone (s : State) : State :=
  match s.rtk.refState, s.rtk.testing with
  | .confirming, some (p, src) =>
    let s := advanceClk (s.rtk.startAt + 60 * 10 ^ 9) s
    if s.rtk.seconds.length < 30 then confirmFail .noSignal s
    else if s.rtk.sum.within p (s.rtk.cfg.confirmM * 1000) then
      refFixed p src (if src = .stored then (s.rtk.stored.map Prod.snd).getD .none else src) s
    else confirmFail .disagree s
  | _, _ => s

/-- CONFIRMATION_DONE (R164). -/
def execConfirmationDone (s : State) : Out := .next (bus s fun s => if refRuns s then confirmationDone s else s)

/-- The precision that ends a survey holds (R165). -/
def surveyFine (s : State) : Bool :=
  match surveySd2 s.rtk.blocks with | some v => decide (v ≤ (s.rtk.cfg.survAcc : Rat) * s.rtk.cfg.survAcc) | none => false

/-- A survey ends FIXED once both of its conditions hold (R165). -/
def surveyDone (s : State) : State :=
  if s.rtk.refState ≠ .surveying then s
  else
    let s := closeBlock s
    if s.rtk.startAt + s.rtk.cfg.survMin * 10 ^ 9 ≤ s.clk ∧ surveyFine s = true then refFixed s.rtk.sum.mean .survey .survey s else s

/-- SURVEY_DONE (R165). -/
def execSurveyDone (s : State) : Out := .next (bus s fun s => if refRuns s then surveyDone s else s)

/-- The average has lain more than MOVE_M from the position for 60 s without a break: the base has moved (R169). -/
def refMoved (s : State) : State :=
  match s.rtk.refState, s.rtk.movedAt with
  | .fixed, some t =>
    let s := refTo .moved s.rtk.refSrc (raise bRTK 3 { advanceClk (t + 60 * 10 ^ 9) s with rtk := { s.rtk with movedAt := none } })
    loseSources ([false, true].filter (fun a => sourceOf s a == 1)) s
  | _, _ => s

/-- REF_MOVED (R169). -/
def execRefMoved (s : State) : Out := .next (bus s fun s => if refRuns s then refMoved s else s)

/-- One shift of the CRC-24Q register. -/
def crc24Step (c : Nat) : Nat := if 2 ^ 23 ≤ c then ((c * 2) ^^^ 0x1864CFB) % 2 ^ 24 else c * 2

/-- The CRC-24Q of RTCM SC-104. -/
def crc24 (bs : Bytes) : Nat :=
  bs.foldl (fun c b => (List.range 8).foldl (fun c _ => crc24Step c) (c ^^^ (b.toNat * 2 ^ 16))) 0

/-- An RTCM transport frame: preamble, reserved bits, length, message, CRC-24Q. -/
def rtcmFrame (msg : Bytes) : Bytes :=
  let h := beBytes 1 0xD3 ++ beBytes 2 (msg.length % 1024) ++ msg
  h ++ beBytes 3 (crc24 h)

/-- The signature message of R177 from its fields, most significant bit first. -/
def signMessage (num station seq epochMs count : Nat) (sig : Bytes) : Bytes :=
  let v := ((((num % 2 ^ 12) * 2 ^ 12 + station % 2 ^ 12) * 2 ^ 16 + seq % 2 ^ 16) * 2 ^ 30 + epochMs % 2 ^ 30) * 2 ^ 8 + count % 2 ^ 8
  beBytes 106 (v * 4 * 2 ^ 768 + beNat (padTo 96 sig))

/-- A bundle's transport frames in emission order. -/
def bundleBytes (b : Bundle) : Bytes := b.messages.flatMap RtcmMsg.frame

/-- The bundle with its signature message; with an unusable key it goes unsigned and SIGN_FAULT sets (R176). -/
def signBundle (b : Bundle) (s : State) : Bundle × State :=
  if ¬ regBit s 0x040034 31 then (b, s)
  else match blockKey s (regFld s 0x040034 30 24) mbRadio useEnc tyP384 with
    | none => (b, useRefused (raise bRTK 5 s))
    | some key =>
      let num := regFld s 0x040034 23 12
      let sig := Config.ecdsaSign key (bundleBytes b) (freeVal s)
      let m : RtcmMsg := { num := num, frame := rtcmFrame (signMessage num s.rtk.cfg.stationId b.seq b.epochMs b.messages.length sig) }
      ({ b with messages := b.messages ++ [m] }, drawn s)

/-- One bundle dropped on a route (R175). -/
def routeDrop (s : State) : State := bump 0x040030 0 s

/-- The chains that carry corrections, each with its own cursor; a bundle unfinished on a chain is dropped there
(R327, R175). -/
def routeRadio (seq : Nat) (bs : Bytes) (s : State) : State :=
  let on := (List.range 3).filter (fun c => (chain s c).cfg.corr)
  let late := on.any (fun c => (chain s c).corrLeft != [])
  let s := on.foldl (fun s c => setChain c (fun x => { x with corrSeq := seq, corrChunk := 0, corrLeft := bs }) s) s
  if late then routeDrop s else s

/-- Time of a byte on a UART in ns: start, eight data, parity and stop bits at 50,000,000 / DIV baud (IOCTL_UARTn_CFG). -/
def uartByteNs (s : State) (n : Nat) : Nat :=
  let w := 0x120050 + 0x10 * n
  (10 + b2n (regFld s w 29 28 ≠ 0) + b2n (regBit s w 27)) * regFld s w 15 0 * 20

/-- UART0 takes the bundle that waits once the one on the line has ended (R174, R175). -/
def uartSettle (s : State) : State :=
  match s.rtk.uartWait with
  | some bs =>
    if s.rtk.uartEnd ≤ s.clk then
      { s with rtk := { s.rtk with uartEnd := s.rtk.uartEnd + bs.length * uartByteNs s 0, uartLine := bs, uartWait := none } }
    else s
  | none => s

/-- The UART0 route (R174, R175). -/
def routeUart (bs : Bytes) (s : State) : State :=
  let s := uartSettle s
  if s.rtk.uartEnd ≤ s.clk then { s with rtk := { s.rtk with uartEnd := s.clk + bs.length * uartByteNs s 0, uartLine := bs } }
  else
    let s := if s.rtk.uartWait.isSome then routeDrop s else s
    { s with rtk := { s.rtk with uartWait := some bs } }

/-- The Internet checksum of a header of 16-bit words. -/
def ipSum (bs : Bytes) : Nat :=
  let t := ((List.range (bs.length / 2)).map (fun k => beAt bs (2 * k) 2)).sum
  let u := t % 65536 + t / 65536
  0xFFFF - (u % 65536 + u / 65536)

/-- A UDP datagram over IPv4 to an ETH_DEST (R174, R291): MAC, IPv4 address and UDP port. Header fields that no rule gives are
Config's (assumption log 19). -/
def udpDatagram (s : State) (dest payload : Bytes) : Bytes :=
  let o := Config.ipOpen dest payload.length
  let head (ck : Nat) : Bytes := beBytes 1 0x45 ++ bytesAt o 0 1 ++ beBytes 2 (payload.length + 28) ++ bytesAt o 1 4
    ++ bytesAt o 5 1 ++ beBytes 1 17 ++ beBytes 2 ck ++ bytesAt o 6 4 ++ bytesAt dest 6 4
  bytesAt dest 0 6 ++ portMac s 15 ++ beBytes 2 0x0800 ++ head (ipSum (head 0))
    ++ bytesAt o 10 2 ++ beBytes 2 (leAt dest 10 2) ++ beBytes 2 (payload.length + 8) ++ bytesAt o 12 2 ++ payload

/-- The bundle that waits for port 15 enters the switch there once the port takes it (R174, R175). -/
def ethSettle (s : State) : State :=
  match s.rtk.ethWait with
  | some bs => if portUp s 15 then injectFrame 15 (udpDatagram s s.rtk.cfg.ethDest bs) { s with rtk.ethWait := none } else s
  | none => s

/-- The ETH route (R174, R175): the datagram enters the switch at port 15. A bundle that the route has not taken is dropped for it. -/
def routeEth (bs : Bytes) (s : State) : State :=
  let s := if s.rtk.ethWait.isSome then routeDrop s else s
  ethSettle { s with rtk.ethWait := some bs }

/-- BUNDLE_COMPLETE (R175): the bundle of the last epoch is signed and sent on every enabled route. -/
def execBundleComplete (s : State) : Out :=
  .next (bus s fun s =>
    match s.rtk.bundleDue with
    | none => s
    | some b =>
      let r := signBundle b { s with rtk := { s.rtk with bundleDue := none, bundleSeq := (s.rtk.bundleSeq + 1) % 2 ^ 16 } }
      let bs := bundleBytes r.1
      let s := if regBit r.2 0x040034 0 then routeRadio b.seq bs r.2 else r.2
      let s := if regBit s 0x040034 1 then routeUart bs s else s
      if regBit s 0x040034 2 then routeEth bs s else s)

/-- The engine solves and marks in this mode (R198). -/
def engineMode (m : Mode) : Bool :=
  match m with
  | .survey | .field | .holdover | .anneal | .quenched | .maintenance | .servitor => true
  | _ => false

/-- The engine runs (R198): in SURVEY once POS_FIXED is set. -/
def engineRuns (s : State) : Bool := engineMode s.sys.mode && (s.sys.mode != .survey || posFixed s)

/-- Message numbers of R178. -/
def msmNumber (n : Nat) : Bool := decide (1074 ≤ n ∧ n ≤ 1137 ∧ 4 ≤ n % 10 ∧ n % 10 ≤ 7)

/-- Bits of a string of bytes, most significant first (R4, R177). -/
def msbBits (bs : Bytes) (ofs n : Nat) : Nat := bitsOf (beNat bs) (bs.length * 8 - ofs - 1) (bs.length * 8 - ofs - n)

/-- The message in a transport frame. -/
def rtcmBody (frame : Bytes) : Bytes := (frame.drop 3).take (frame.length - 6)

/-- A transport frame's CRC-24Q holds (R180). -/
def rtcmCrcOk (frame : Bytes) : Bool := decide (6 ≤ frame.length) && crc24 (frame.take (frame.length - 3)) == beNat (frame.drop (frame.length - 3))

/-- A message number and a station ID, the first 12 bits and the next 12 of a message, as in R177 (assumption log 19). -/
def rtcmNum (frame : Bytes) : Nat := msbBits (rtcmBody frame) 0 12
def rtcmStation (frame : Bytes) : Nat := msbBits (rtcmBody frame) 12 12

/-- A message whose number is one of R178 and whose fields are well formed, preamble and length among them (R180). -/
def rtcmMsm (frame : Bytes) : Option Msm :=
  if byteAt frame 0 = 0xD3 ∧ beAt frame 1 2 = frame.length - 6 ∧ msmNumber (rtcmNum frame) = true then Config.msm (rtcmBody frame) else none

/-- The GPS epoch in served ms (R107). -/
def gpsEpochMs : Int := 315964819000

/-- The time nearest to now, in ms, that is congruent to t modulo a period. -/
def nearestMs (nowMs t period : Int) : Int := t + roundDiv (nowMs - t) period.toNat * period

/-- The epoch of a message in served ns: BeiDou counts from 14 s after GPS, GLONASS the time of day of UTC + 3 h, and the other scales as
GPS does (R180; assumption log 19). -/
def msmTime (s : State) (num : Nat) (x : Msm) : Nat :=
  let t := (now s : Int) / 10 ^ 6
  let week : Int := 604800000
  let e : Int := x.epoch
  (if 1084 ≤ num ∧ num ≤ 1087 then nearestMs t (e % 2 ^ 27 - 10800000 + s.time.utcOfs.toInt * 1000) 86400000
   else if 1124 ≤ num ∧ num ≤ 1127 then nearestMs t (gpsEpochMs + e + 14000) week
   else nearestMs t (gpsEpochMs + e) week).toNat * 10 ^ 6

/-- The admission entry that a message matches (R179). -/
def admissionOf (s : State) (x : RtcmIn) : Option Admission :=
  s.rtk.cfg.admitted.find? (fun a => a.station == rtcmStation x.frame &&
    (match x.eui with
     | some e => a.eui == e
     | none => a.srcMac == 0 || a.srcMac == x.srcMac))

/-- An epoch time is a whole multiple of a machine's period, to 1 ms (R180). -/
def aligned (rateHz t : Nat) : Bool := (t / 10 ^ 6) % (1000 / max 1 rateHz) == 0

/-- The outcome of a message of epoch t that its machine's entry admits (R180): 0 accepted, else the code of the first failed check. -/
def msmCheck (s : State) (a : Admission) (num t : Nat) : Nat :=
  let r := rtkMach s a.mach
  if ¬ engineRuns s ∨ ¬ posFixed s ∨ r.suspended then 4
  else if ¬ aligned a.rateHz t then 5
  else if r.epochs.any (fun e => e.time == t && e.taken.contains num) then 6
  else if (match s.rtk.lastBase with | some b => decide (t + s.rtk.cfg.ageMaxMs * 10 ^ 6 < b) | none => false) then 7
  else if (match r.lastSolved with | some u => decide (t ≤ u) | none => false) then 7
  else 0

/-- A message taken into its machine epoch, complete when the multiple message bit is clear (R180). -/
def takeMsm (clk order t num : Nat) (x : Msm) (l : List MachEpoch) : List MachEpoch :=
  let old := (l.find? (fun e => e.time == t)).getD { time := t, firstAt := clk }
  let ends := !x.more && old.doneAt.isNone
  let e : MachEpoch := { old with
    taken := old.taken ++ [num], obs := old.obs ++ x.obs, doneAt := if ends then some clk else old.doneAt, order := if ends then order else old.order }
  insertBy (fun (a b : MachEpoch) => decide (a.time ≤ b.time)) e (l.filter (fun y => y.time != t))

/-- The outcome of an RTCM frame at the ingest (R180): 0 accepted, else the code of the first failed check. -/
def ingestCode (s : State) (x : RtcmIn) : Nat :=
  if ¬ rtcmCrcOk x.frame then 1
  else match rtcmMsm x.frame, admissionOf s x with
    | none, _ => 2
    | some _, none => 3
    | some y, some a => msmCheck s a (rtcmNum x.frame) (msmTime s (rtcmNum x.frame) y)

/-- An accepted message joins its machine epoch (R180). -/
def acceptMsm (x : RtcmIn) (s : State) : State :=
  match rtcmMsm x.frame, admissionOf s x with
  | some y, some a =>
    let num := rtcmNum x.frame
    let s := { s with rtk.doneCount := s.rtk.doneCount + 1 }
    setRtkMach a.mach (fun r => { r with epochs := takeMsm s.clk s.rtk.doneCount (msmTime s num y) num y r.epochs }) s
  | _, _ => s

/-- An RTCM frame is checked, accepted or rejected, and counted (R180). -/
def ingest (x : RtcmIn) (s : State) : State :=
  let n := ingestCode s x
  bump (0x040040 + 4 * n) 0 (if n = 0 then acceptMsm x s else s)

/-- MSM_MESSAGE (R180): the oldest frame that waits at the ingest. -/
def execMsmMessage (s : State) : Out :=
  .next (bus s fun s => match s.rtk.ingest with | x :: l => ingest x { s with rtk.ingest := l } | [] => s)

/-- RTCM frames reach the ingest at port 15 (R179, R328, R389). -/
def toIngest (l : List RtcmIn) (s : State) : State := { s with rtk.ingest := s.rtk.ingest ++ l }

/-- Transport frames that a payload holds one after the other, cut by their lengths; what is left without one is a frame of its own, which
no CRC admits (R389; assumption log 19). -/
def rtcmFrames : Nat → Bytes → List Bytes
  | 0, _ => []
  | n + 1, bs =>
    if bs = [] then []
    else
      let k := beAt bs 1 2 % 1024 + 6
      if byteAt bs 0 = 0xD3 ∧ k ≤ bs.length then bs.take k :: rtcmFrames n (bs.drop k) else [bs]

/-- MACHINE_EPOCH_INCOMPLETE (R180): COLLECT_MS after the first message of a machine's oldest open epoch. -/
def execMachineEpochIncomplete (mach : Fin 128) (s : State) : Out :=
  .next (bus s fun s =>
    match (rtkMach s mach).epochs.find? (fun e => e.doneAt.isNone) with
    | none => s
    | some e =>
      let s := advanceClk (e.firstAt + s.rtk.cfg.collectMs * 10 ^ 6) s
      bump 0x040060 0 (setRtkMach mach (fun r => { r with epochs := r.epochs.filter (fun x => x != e) }) s))

/-- K_H and K_V of R190 in thousandths, by k. -/
def kH (k : Nat) : Nat := [4799, 5257, 5678, 6070, 6438].getD (k - 5) 5678
def kV (k : Nat) : Nat := [4417, 4892, 5327, 5730, 6109].getD (k - 5) 5327

/-- n mm bound K_H × dmaj, in whole numbers: 2·10^12·n² − K²·(C_EE + C_NN) ≥ K²·√D (R190). -/
def hplHolds (k a d n : Nat) : Bool :=
  let l := 2 * 10 ^ 12 * (n * n)
  decide (k * k * a ≤ l) && decide (k * k * k * k * d ≤ (l - k * k * a) * (l - k * k * a))

/-- K_H × dmaj in mm, rounded up (R190). Covariances are in µm². -/
def hplMm (k cEE cNN : Nat) (cEN : Int) : Nat :=
  let a := cEE + cNN
  let b := (cEE : Int) - cNN
  let d := (b * b + 4 * cEN * cEN).toNat
  let n := isqrt (k * k * (a + isqrt d) / (2 * 10 ^ 12))
  if hplHolds k a d n then n else if hplHolds k a d (n + 1) then n + 1 else n + 2

/-- K_V × σ_U in mm, rounded up (R190). -/
def vplMm (k cUU : Nat) : Nat := csqrt (cdiv (k * k * cUU) (10 ^ 12))

/-- A protection level as reported (R191). -/
def plShown (bounded : Bool) (mm : Nat) : Nat := if ¬ bounded then 0xFFFF else if 65534 < mm then 0xFFFE else mm

/-- A standard deviation in 0.1 mm, rounded up and saturating (R197). -/
def sdShown (c : Nat) : Nat := satNat 16 (csqrt (cdiv c 10000))

/-- A correlation coefficient in units of 1/127, rounded to nearest (R197). -/
def rhoShown (c : Int) (a b : Nat) : Int :=
  let p := a * b
  let n := ((List.range 128).filter (fun n => decide (n = 0 ∨ (p ≠ 0 ∧ (2 * n - 1) * (2 * n - 1) * p ≤ 64516 * c.natAbs * c.natAbs)))).length - 1
  if c < 0 then -(n : Int) else n

/-- The fix type (R189): a position needs four double differences, which is five satellites in common. -/
def fixType (s : State) (x : RtkFix) : Nat :=
  if x.nsv < 5 ∨ x.nDd < 4 then 0 else if x.nAmb < s.rtk.cfg.minAmb then 1 else if x.fixed then 3 else 2

/-- The base epoch that a machine epoch is solved from: the newest clean one not after it, to 1 ms, and its correction age in ns
(R171, R194). -/
def baseFor (s : State) (t : Nat) : Option (BaseEpoch × Nat) :=
  (s.rtk.base.find? (fun b => b.clean && decide (b.time ≤ t + 500000))).map
    (fun b => if t ≤ b.time + 500000 then ({ b with time := t }, 0) else (b, t - b.time))

/-- The base observations are predicted (R194): in HOLDOVER, and where the machine epoch has no clean base epoch of its own. -/
def predicted (s : State) (age : Nat) : Bool := s.sys.mode == .holdover || age != 0

/-- A machine epoch may be solved at a correction age (R195). -/
def solvable (s : State) (age : Nat) : Bool := decide (age ≤ s.time.ageLimit * 10 ^ 9)

/-- The position of a filter's state in the field frame, in m; without an origin the base's position serves (R242; assumption log 19). -/
def fieldPos (s : State) (axes : Mat) (b : BaseEpoch) (f : RtkFilter) : Vec :=
  let p := metres (b.pos.getD {})
  let o := metres (s.grid.origin.getD (b.pos.getD {}))
  let here := axpy p ((s.rtk.cfg.pcoU : Rat) / 1000) (nth axes 2 [])
  mulVec (axesAt o) (axpy (axpy here 1 (f.x.take 3)) (-1) o)

/-- Rows and columns of a covariance turned to the axes of the field frame. -/
def fieldCov (s : State) (b : BaseEpoch) (f : RtkFilter) : Mat :=
  congr 3 3 (axesAt (metres (s.grid.origin.getD (b.pos.getD {})))) (subMat f.p [0, 1, 2] [0, 1, 2])

/-- A length or a speed in thousandths, to the nearest (assumption log 6). -/
def milli (x : Rat) : Int := nearestInt (x * 1000)

/-- A variance in µm², cut up, and a covariance, to the nearest. -/
def var12 (x : Rat) : Nat := (x * 10 ^ 12).ceil.toNat
def cov12 (x : Rat) : Int := nearestInt (x * 10 ^ 12)

/-- The solution record of a machine epoch (R189 to R197). -/
def solutionOf (s : State) (m : Nat) (e : MachEpoch) (b : BaseEpoch) (age : Nat) (x : RtkFix) : Solution :=
  let c := s.rtk.cfg
  let f := fixType s x
  let ok := f != 0 && !x.failed
  let axes := axesAt (metres (b.pos.getD {}))
  let p := (fieldPos s axes b x.out).map milli
  let v := (mulVec (axesAt (metres (s.grid.origin.getD (b.pos.getD {})))) ((x.out.x.drop 3).take 3)).map milli
  let q := fieldCov s b x.out
  let d (i : Nat) : Nat := var12 (ent q i i)
  let o (i j : Nat) : Int := cov12 (ent q i j)
  { mach := m, fix := f, nsv := x.nsv, nfix := if f = 3 then x.nfix else 0
    sflags := BitVec.ofNat 16 (2 * b2n (x.partial_ && f == 3) + 4 * b2n (x.held && f == 3) + 8 * b2n (predicted s age)
      + 16 * b2n x.failed + 32 * b2n x.excluded)
    ratio := x.ratio, epochTime := e.time
    posE := nth p 0 0, posN := nth p 1 0, posU := nth p 2 0, velE := nth v 0 0, velN := nth v 1 0, velU := nth v 2 0
    sdE := sdShown (d 0), sdN := sdShown (d 1), sdU := sdShown (d 2)
    rhoEN := rhoShown (o 0 1) (d 0) (d 1), rhoEU := rhoShown (o 0 2) (d 0) (d 2), rhoNU := rhoShown (o 1 2) (d 1) (d 2)
    hpl := plShown ok (hplMm (kH c.irH) (d 0) (d 1) (o 0 1) + c.plFloorH)
    vpl := plShown ok (vplMm (kV c.irV) (d 2) + c.plFloorV)
    corrAge := if predicted s age then satNat 16 (age / 10 ^ 6) else 0
    latUs := satNat 16 ((s.clk - e.doneAt.getD s.clk) / 1000)
    seq := (rtkMach s m).seq, pdop := x.pdop }

/-- A solution record's 64 bytes (R197). -/
def solBytes (x : Solution) : Bytes :=
  leBytes 1 x.mach ++ leBytes 1 x.fix ++ leBytes 1 x.nsv ++ leBytes 1 x.nfix ++ leBytes 2 x.sflags.toNat ++ leBytes 2 x.ratio
  ++ leBytes 8 x.epochTime ++ leBytes 4 (unsignedOf 32 x.posE) ++ leBytes 4 (unsignedOf 32 x.posN) ++ leBytes 4 (unsignedOf 32 x.posU)
  ++ leBytes 2 (unsignedOf 16 x.velE) ++ leBytes 2 (unsignedOf 16 x.velN) ++ leBytes 2 (unsignedOf 16 x.velU)
  ++ leBytes 2 x.sdE ++ leBytes 2 x.sdN ++ leBytes 2 x.sdU ++ leBytes 1 (unsignedOf 8 x.rhoEN) ++ leBytes 1 (unsignedOf 8 x.rhoEU)
  ++ leBytes 1 (unsignedOf 8 x.rhoNU) ++ leBytes 1 0 ++ leBytes 2 x.hpl ++ leBytes 2 x.vpl ++ leBytes 2 x.corrAge
  ++ leBytes 2 x.latUs ++ leBytes 4 x.seq ++ leBytes 2 x.pdop ++ leBytes 6 0

/-- The host copy: offered to its SOLUTION queue, or dropped and counted (R193, R495). -/
def hostCopy (x : Solution) (s : State) : State :=
  if ¬ regBit s 0x040070 31 then s
  else
    let q := regFld s 0x040070 3 0
    if (eq_ s q).solution ∧ eqRoom s q = true then eqPush q (solBytes x) s else bump 0x040074 0 s

/-- A solution reaches the set-point engine: its position and velocity, for the next tick (R281, R290). -/
def setptSolution (x : Solution) (s : State) : State :=
  if x.fix = 0 then s
  else { s with setpt.machs := kmod s.setpt.machs x.mach {} (fun p => { p with
    solE := x.posE, solN := x.posN, solVE := x.velE, solVN := x.velN, solAt := some s.clk, solTime := x.epochTime, solNew := true
    stale := false }) }

/-- Delivery of a solution (R192): in SERVITOR to the host only. -/
def deliver (x : Solution) (s : State) : State :=
  hostCopy x (if s.sys.mode = .servitor then s else setptSolution x (gridSolution x s))

/-- One more solution in the load figures (RTK_ENGINE_STATUS). -/
def countLoad (lat : Nat) (s : State) : State :=
  let sec := now s / 10 ^ 9
  let r := s.rtk
  let r := if r.loadSec = sec then r else { r with load := if r.loadSec + 1 = sec then r.loadNow else 0, loadNow := 0, loadSec := sec }
  { s with rtk := { r with loadNow := r.loadNow + 1, maxLat := max r.maxLat lat } }

/-- A machine's state after a solution. -/
def solvedMach (s : State) (e : MachEpoch) (x : RtkFix) (sol : Solution) (r : RtkMach) : RtkMach :=
  { r with
    filter := some x.filter, lastSolved := some e.time, lastFix := sol.fix, lastNfix := sol.nfix
    lastAt := some s.clk, markAt := s.clk, seq := (r.seq + 1) % 2 ^ 32, ints := x.ints, holdCount := x.count, held := x.held }

/-- The admission entry of a machine. -/
def admitted (s : State) (m : Nat) : Admission := (s.rtk.cfg.admitted.find? (fun a => a.mach == m)).getD {}

/-- What the engine finds for a machine epoch (R183 to R188). -/
def fixOf (s : State) (m : Nat) (e : MachEpoch) (b : BaseEpoch) (age : Nat) : RtkFix :=
  let a := admitted s m
  solveEpoch s.rtk.cfg (axesAt (metres (b.pos.getD {}))) a.qh a.qv b (rtkMach s m) e age

/-- A machine epoch that is solved leaves the engine as a solution (R192 to R197). -/
def emitSolution (m : Nat) (e : MachEpoch) (b : BaseEpoch) (age : Nat) (s : State) : State :=
  let x := fixOf s m e b age
  let sol := solutionOf s m e b age x
  let s := epochGone m e (setRtkMach m (solvedMach s e x sol) s)
  let s := if x.failed then raise bRTK 2 s else s
  deliver sol (countLoad sol.latUs s)

/-- The next machine epoch of the engine is solved, or goes without a solution where no clean base epoch is young enough (R171, R195). -/
def solveNext (m : Nat) (e : MachEpoch) (s : State) : State :=
  match baseFor s e.time with
  | some (b, age) => if engineMode s.sys.mode = true ∧ solvable s age = true then emitSolution m e b age s else epochGone m e s
  | none => epochGone m e s

/-- SOLUTION_OUT (R192 to R197): the engine takes complete machine epochs in the order of completion; its searches wait for a self-test of
the search unit (R199). -/
def execSolutionOut (s : State) : Out :=
  .next (gridBus s fun s =>
    match currentEpoch s with
    | some (m, e) => if underTest s .search then s else solveNext m e s
    | none => s)

/-- The stale marker (R192); what it holds besides FIX, STALE and the levels is free (assumption log 19). -/
def staleMarker (s : State) (m : Nat) : Solution :=
  let f (k : Nat) : Nat := Config.freeNat (s.fresh + k)
  { mach := m, fix := 0, sflags := 1, hpl := 0xFFFF, vpl := 0xFFFF, nsv := f 0, nfix := f 1, ratio := f 2, epochTime := f 3
    posE := f 4, posN := f 5, posU := f 6, velE := f 7, velN := f 8, velU := f 9, sdE := f 10, sdN := f 11, sdU := f 12
    rhoEN := f 13, rhoEU := f 14, rhoNU := f 15, corrAge := f 16, latUs := f 17, seq := f 18, pdop := f 19 }

/-- A stale marker reaches the set-point engine (R192). -/
def setptStale (m : Nat) (s : State) : State := { s with setpt.machs := kmod s.setpt.machs m {} (fun p => { p with stale := true }) }

/-- STALE_MARKER (R192): STALE_MS after a machine's last solution or marker. -/
def execStaleMarker (mach : Fin 128) (s : State) : Out :=
  .next (gridBus s fun s =>
    if ¬ (s.rtk.cfg.admitted.any (fun a => a.mach == mach.val)) ∨ ¬ engineRuns s then s
    else
      let s := advanceClk ((rtkMach s mach).markAt + s.rtk.cfg.staleMs * 10 ^ 6) s
      let x := staleMarker s mach
      let s := setRtkMach mach (fun r => { r with markAt := s.clk }) { s with fresh := s.fresh + 20 }
      if s.sys.mode = .servitor then hostCopy x s else setptStale mach (gridSolution x s))

/-- An epoch of the machine is in process: complete, and its solution has not left. -/
def inProcess (r : RtkMach) : Bool := r.epochs.any (fun e => e.doneAt.isSome)

/-- RESET_FILTER (R200). -/
def execResetFilter (mach : Fin 128) (s : State) : Out :=
  .next (bus s (setRtkMach mach (fun r => if inProcess r then { r with resetNext := true } else { emptyFilter r with epochs := r.epochs })))

/-- SUSPEND (R180, R200). -/
def execSuspend (mach : Fin 128) (s : State) : Out :=
  .next (bus s (setRtkMach mach (fun r => if inProcess r then { r with suspendNext := true } else { r with suspended := true })))

/-- FILTER_RESUME (R180, R200). -/
def execFilterResume (mach : Fin 128) (s : State) : Out :=
  .next (bus s (setRtkMach mach (fun r => { r with suspended := false, suspendNext := false })))

end Sys2Proof.Machine
end

