-- ==== Sys2Proof/Machine/Setpt.lean ====
section
/-! DEFINITION. Setpt.lean: the set-point engine: its commands, odometer reports and the profile tick (09_setpoint_engine.md
R279 to R304). -/

namespace Sys2Proof.Machine

open Sys2Proof

/-- Codes of SETPT_CMD_STATUS.RESULT. -/
def SpResult.code : SpResult → Nat
  | .none => 0 | .done => 1 | .busy => 2 | .mode => 3 | .conflictLost => 4 | .badParam => 5 | .noChain => 6 | .loop => 7
  | .passed => 8 | .notGeared => 9

/-- What the engine holds of a machine changed. -/
def setSp (m : Nat) (f : SpMach → SpMach) (s : State) : State := { s with setpt.machs := kmod s.setpt.machs m {} f }

/-- The engine takes commands in the mode, RESERVE and the like refusing them with MODE (R301). -/
def setptTakes (s : State) : Bool :=
  match s.sys.mode with
  | .survey | .quenched | .maintenance | .field | .holdover | .anneal => true
  | _ => false

/-- The outcome of a command's work. -/
abbrev SpRun := SpResult × State

/-- The orders of a tick after a command is done (R24): a move that is done with no other command waiting has ended what the engine
latched at that tick (R290 step 1), so that the next command belongs to a later one. -/
def ordersAfter (c : SpCmd) (r : SpResult) (rest old : List SpCmd) : List SpCmd :=
  if r ≠ .done then old else if rest = [] ∧ byteAt c.body 0 ≠ 6 then [] else old ++ [c]

/-- The command at the head of the intake completes (R300). -/
def setptFinish (c : SpCmd) (r : SpResult) (s : State) : State :=
  let rest := s.setpt.intake.drop 1
  let s := { s with setpt := { s.setpt with intake := rest, orders := ordersAfter c r rest s.setpt.orders } }
  let s := if r = .conflictLost then bumpSetpt 7 s else s
  let s := raise bSETPT 5 s
  match c.queue with
  | some (n, _) => finishEntry n { result := r.code } s
  | none => { s with setpt := { s.setpt with cmdBusy := false, cmdResult := r } }

/-- A register-path GO: the body joins the intake, or is refused with BUSY (R300). -/
def setptGo (who : Master) (body : Bytes) (s : State) : State :=
  if 8 ≤ s.setpt.intake.length ∨ s.setpt.cmdBusy then { s with setpt.cmdResult := .busy }
  else { s with setpt := { s.setpt with
           cmdBusy := true, cmdResult := .none, intake := s.setpt.intake ++ [{ master := who, body := padTo 32 body, queue := none }] } }

/-- Two move-type orders contradict each other: they set the same thing of one machine and differ (R24). -/
def clash (a b : SpCmd) : Bool :=
  let fn (x : SpCmd) : Nat :=
    let c := byteAt x.body 0
    if c = 1 ∨ c = 2 then 1 else if c = 3 then 16 + byteAt x.body 3 else if c = 4 then 2 else if c = 5 then 3 else 0
  byteAt a.body 1 == byteAt b.body 1 && fn a == fn b && fn a != 0 && a.body != b.body

/-- A command loses to another order of the same tick: a stop beats a move, and the lower rank number a contradictory
move (R24, R304). -/
def losesTo (c o : SpCmd) : Bool :=
  if byteAt c.body 0 = 6 then false
  else if byteAt o.body 0 = 6 then byteAt o.body 1 == byteAt c.body 1
  else clash c o && decide (o.master.rank < c.master.rank)

/-- A command loses to an order completed since the last tick, or to one that waits behind it (R24). -/
def conflicted (s : State) (c : SpCmd) : Bool := s.setpt.orders.any (losesTo c) || (s.setpt.intake.drop 1).any (losesTo c)

/-- The head of the intake may run: the engine is on and not under test, and its queue may commit. -/
def setptReady (s : State) (op : Nat) (c : SpCmd) : Bool :=
  byteAt c.body 0 == op && gridOn s && !underTest s .setpt &&
  (match c.queue with | some (n, _) => canCommit s n | none => true)

/-- A command's work, refused first by the mode, then by R24, then for a machine that does not exist. -/
def setptWork (c : SpCmd) (f : Nat → SpCmd → State → SpRun) (s : State) : SpRun :=
  if ¬ setptTakes s then (.mode, s)
  else if conflicted s c then (.conflictLost, s)
  else if 128 ≤ byteAt c.body 1 then (.badParam, s)
  else f (byteAt c.body 1) c s

/-- The head of the intake runs, if it is the command named. -/
def setptHead (op : Nat) (f : Nat → SpCmd → State → SpRun) (s : State) : State :=
  match s.setpt.intake with
  | c :: _ => if setptReady s op c then let r := setptWork c f s; setptFinish c r.1 r.2 else s
  | [] => s

/-- A set-point command: from the command buffer or from the intake (R300). -/
def setptCmd (op : Nat) (src : CmdSrc) (f : Nat → SpCmd → State → SpRun) (s : State) : State :=
  match src with
  | .regs who body => setptHead op f (setptGo who (BitVec.ofNat 8 op :: (padTo 32 body).drop 1) s)
  | .post who body => setptGo who (BitVec.ofNat 8 op :: (padTo 32 body).drop 1) s
  | .intake => setptHead op f s

/-- Machine m is the master of a pair. -/
def isMaster (s : State) (m : Nat) : Bool := s.setpt.machs.any (fun p => match p.2.gear with | some g => g.master == m | none => false)

/-- A follower's pair ends; a master with no pair left forgets its report, so that its next first one is taken (R292). -/
def unpair (m : Nat) (s : State) : State :=
  match (spMach s m).gear with
  | none => s
  | some g =>
    let s := setSp m (fun x => { x with gear := none }) s
    if isMaster s g.master then s else { s with setpt.odos := kdel s.setpt.odos g.master }

/-- Masters above a machine, counted at most n deep. -/
def depthOf (s : State) : Nat → Nat → Nat
  | 0, _ => 0
  | n + 1, m => match (spMach s m).gear with | some g => 1 + depthOf s n g.master | none => 0

/-- m stands among the masters above k. -/
def aboveOf (s : State) (m : Nat) : Nat → Nat → Bool
  | 0, _ => false
  | n + 1, k => match (spMach s k).gear with | some g => g.master == m || aboveOf s m n g.master | none => false

/-- Followers below a machine, counted at most n deep. -/
def heightOf (s : State) : Nat → Nat → Nat
  | 0, _ => 0
  | n + 1, m => ((s.setpt.machs.filter (fun p => (p.2.gear.map Gear.master) == some m)).map (fun p => 1 + heightOf s n p.1)).foldl max 0

/-- A ratio of R293. -/
def ratioOk (r : Nat) : Bool := decide (1 ≤ r ∧ r ≤ 0x40000)

/-- ENGAGE's work (R293, R294, R301). -/
def engageRun (f : Nat) (c : SpCmd) (s : State) : SpRun :=
  let m := byteAt c.body 2
  if s.sys.mode = .anneal then (.mode, s)
  else if 128 ≤ m ∨ ¬ ratioOk (leAt c.body 4 4) then (.badParam, s)
  else if reservedChain s f = [] ∨ reservedChain s m = [] then (.noChain, s)
  else if m = f ∨ aboveOf s f 8 m = true ∨ 4 < depthOf s 8 m + 1 + heightOf s 8 f then (.loop, s)
  else
    let s := unpair f s
    let s := if isMaster s m then s else { s with setpt.odos := kdel s.setpt.odos m }
    (.done, setSp f (fun x => { x with gear := some { master := m, ratio0 := BitVec.ofNat 32 (leAt c.body 4 4), since := s.clk } }) s)

/-- ENGAGE (R293). -/
def execEngage (src : CmdSrc) (s : State) : Out := .next (bus s (setptCmd 1 src engageRun))

/-- DISENGAGE (R300). -/
def execDisengage (src : CmdSrc) (s : State) : Out :=
  .next (bus s (setptCmd 2 src (fun f _ s => if (spMach s f).gear.isNone then (.notGeared, s) else (.done, unpair f s))))

/-- Served time of the next profile tick. -/
def nextTick (s : State) : Nat := s.time.nextProf * 10 ^ 6

/-- A master's position at a served time, as its last report's mm and the travel since in pm (R292). -/
def masterAt (s : State) (m t : Nat) : Option (BitVec 32 × Int) :=
  (kget s.setpt.odos m).map (fun o => (o.odo, o.speed * ((t : Int) - o.time.toNat)))

/-- A master's travel in pm from a captured position (R292). -/
def travelFrom (base : BitVec 32) (frac : Int) (x : BitVec 32 × Int) : Int := (x.1 - base).toInt * 10 ^ 9 + x.2 - frac

/-- An entry's position lies behind the master at the next tick (R295, R304). -/
def passed (s : State) (g : Gear) (pos : BitVec 32) : Bool :=
  match masterAt s g.master (nextTick s) with
  | some x => decide (0 < travelFrom pos 0 x)
  | none => false

/-- A schedule entry's parameters hold (R295). -/
def schedOk (g : Gear) (idx : Nat) (e : SchedEntry) : Bool :=
  decide (idx < 8 ∧ idx ≤ g.sched.length ∧ 500 ≤ e.blend ∧ e.blend ≤ 100000) && ratioOk e.ratio.toNat &&
  (idx == 0 || (let q := nth g.sched (idx - 1) {}; decide (0 ≤ (e.pos - (q.pos + BitVec.ofNat 32 q.blend)).toInt)))

/-- SCHED's work (R295). -/
def schedRun (f : Nat) (c : SpCmd) (s : State) : SpRun :=
  let e : SchedEntry := { pos := BitVec.ofNat 32 (leAt c.body 8 4), ratio := BitVec.ofNat 32 (leAt c.body 4 4), blend := leAt c.body 12 4 }
  let idx := byteAt c.body 3
  match (spMach s f).gear with
  | none => (.notGeared, s)
  | some g =>
    if ¬ schedOk g idx e then (.badParam, s)
    else if passed s g e.pos then (.passed, s)
    else (.done, setSp f (fun x => { x with gear := some { g with sched := if idx = g.sched.length then g.sched ++ [e] else g.sched.set idx e } }) s)

/-- SCHED (R295). -/
def execSched (src : CmdSrc) (s : State) : Out := .next (bus s (setptCmd 3 src schedRun))

/-- SCHED_CLEAR (R295). -/
def execSchedClear (src : CmdSrc) (s : State) : Out :=
  .next (bus s (setptCmd 4 src (fun f _ s => match (spMach s f).gear with
    | none => (.notGeared, s)
    | some g => (.done, setSp f (fun x => { x with gear := some { g with sched := [] } }) s))))

/-- LIMITS' work (R300). -/
def limitsRun (m : Nat) (c : SpCmd) (s : State) : SpRun :=
  let v := leAt c.body 0x10 2
  let dn := leAt c.body 0x12 2
  let da := leAt c.body 0x14 2
  match spClassOf s m with
  | none => (.badParam, s)
  | some k =>
    if k.vFwd < v ∨ k.dNorm < dn ∨ k.dAnneal < da ∨ (if da = 0 then k.dAnneal else da) < (if dn = 0 then k.dNorm else dn) then (.badParam, s)
    else (.done, setSp m (fun x => { x with vMax := v, dNorm := dn, dAnneal := da }) s)

/-- LIMITS (R299, R300). -/
def execLimits (src : CmdSrc) (s : State) : Out := .next (bus s (setptCmd 5 src limitsRun))

/-- Any anneal cause (R297). -/
def SpCauses.any (c : SpCauses) : Bool := c.fleet || c.margin || c.outside || c.host || c.gearLost || c.overrun || c.noChain

/-- Causes of a machine changed; the first that sets starts an anneal, which one ANNEAL frame tells the
machine of, and the machine's own pair breaks (R297, R333). -/
def setCauses (m : Nat) (f : SpCauses → SpCauses) (s : State) : State :=
  let old := (spMach s m).causes
  let new := f old
  let s := setSp m (fun x => { x with causes := new }) s
  let s := if new.any then unpair m s else s
  if ¬ new.any ∨ old.any then s
  else bumpSetpt 0 (if new.fleet then s else queueMachAnneal m s)

/-- ANNEAL_MACH (R297). -/
def execAnnealMach (src : CmdSrc) (s : State) : Out :=
  .next (bus s (setptCmd 6 src (fun m _ s => (.done, setCauses m (fun c => { c with host := true }) s))))

/-- RESUME_MACH (R297). -/
def execResumeMach (src : CmdSrc) (s : State) : Out :=
  .next (bus s (setptCmd 7 src (fun m _ s =>
    (.done, setCauses m (fun c => { c with host := false, gearLost := false, overrun := false }) s))))

/-- A pair breaks with GEAR_LOST, and the follower anneals (R296). -/
def gearLost (m : Nat) (s : State) : State :=
  raise bSETPT 3 (bumpSetpt 5 (setCauses m (fun c => { c with gearLost := true }) (unpair m s)))

/-- An odometer report (R292): accepted from the master of a pair, by radio only from its admitted EUI, and if it is later
than the last. -/
def odometer (rec : Bytes) (eui : Option (BitVec 64)) (s : State) : State :=
  let m := byteAt rec 0
  let seq := BitVec.ofNat 16 (leAt rec 2 2)
  let known : Bool := match eui with
    | some e => s.rtk.cfg.admitted.any (fun a => a.mach == m && a.eui == e)
    | none => true
  let later : Bool := match kget s.setpt.odos m with
    | some o => decide (1 ≤ (seq - o.seq).toNat ∧ (seq - o.seq).toNat ≤ 32767)
    | none => true
  if ¬ isMaster s m ∨ ¬ known ∨ ¬ later then bumpSetpt 6 s
  else
    let o : Odo := { seq := seq, odo := BitVec.ofNat 32 (leAt rec 4 4), speed := signedOf 16 (leAt rec 8 2),
                     time := BitVec.ofNat 64 (leAt rec 12 8), at_ := s.clk }
    { s with setpt := { s.setpt with
      odos := kset s.setpt.odos m o
      machs := s.setpt.machs.map (fun p => (p.1, { p.2 with gear := p.2.gear.map (fun (g : Gear) => if g.master = m then { g with since := s.clk } else g) })) } }

/-- ODOMETER_REPORT (R292): eui is the sender's of a report by radio. -/
def execOdometerReport (rec : Bytes) (eui : Option (BitVec 64)) (s : State) : Out :=
  .next (bus s fun s => if setptTakes s then odometer (padTo 20 rec) eui s else s)

/-- GEAR_LOST (R296): ODO_STALE_MS without a report of a follower's master. -/
def execGearLost (mach : Fin 128) (s : State) : Out :=
  .next (bus s fun s =>
    match (spMach s mach).gear with
    | some g => if setptTakes s then gearLost mach (advanceClk (g.since + s.setpt.cfg.odoStaleMs * 10 ^ 6) s) else s
    | none => s)

/-- SPMEAN entries of a machine as the table now holds them (R288, R220). -/
def meansOf (s : State) (m : Nat) : List SpMean :=
  match tableFor s .spmean false with
  | none => []
  | some d => match inst s d.id false with
    | none => []
    | some i =>
      sortBy (fun (a b : SpMean) => decide (b2n a.reverse * 32 + a.index ≤ b2n b.reverse * 32 + b.index))
        (i.entries.filterMap (fun x => match x.2.result with
          | .spmean curv rungs =>
            if x.2.key.val % 256 = m then
              some { reverse := (x.2.key.val / 256).testBit 5, index := x.2.key.val / 256 % 32, curv := curv, rungs := rungs }
            else none
          | _ => none))

/-- A machine's entries re-read; entering NO_TABLE sets NO_TABLE. -/
def refreshMeans (s : State) (m : Nat) : State :=
  let was := planable s m
  let l := meansOf s m
  if l = (spMach s m).means then s
  else
    let s := setSp m (fun x => { x with means := l }) s
    if was ∧ ¬ planable s m then raise bSETPT 0 s else s

/-- SPMEAN_REFRESH (R288): every machine's entries through pipeline 0; the permits follow (R371). -/
def execSpmeanRefresh (s : State) : Out :=
  .next (bus s fun s => if gridOn s then driveOutputs ((List.range 128).foldl refreshMeans s) else s)

/-- The chain's new start moves the origin of arc length: what lay before it (R281); none when the chain does not continue
the old one. -/
def chainShift : List (BitVec 16 × Nat) → BitVec 16 → Option Nat
  | [], _ => none
  | (i, n) :: l, a => if i = a then some 0 else (chainShift l a).map (· + n)

/-- Arc length moved with the chain's start; a chain that does not continue the old one is planned anew (R281). -/
def moveChain (l : List Allot) (x : SpMach) : SpMach :=
  let ids := l.map (fun a => (a.id, runLength (dedupe (allotPath a))))
  match ids with
  | [] => { x with chain := [] }
  | (a, _) :: _ =>
    match chainShift x.chain a with
    | some n => { x with chain := ids, s := x.s - n, gear := x.gear.map (fun (g : Gear) => { g with captured := g.captured.map (fun c => (c.1, c.2.1, c.2.2 - n)) }) }
    | none => { x with chain := ids, planned := false }

/-- s and v by the latest solution's projection (R281). -/
def projected (p : Path) (x : SpMach) : SpMach :=
  match x.solAt, project p { e := x.solE, n := x.solN } with
  | some _, some q => { x with planned := true, s := q.arc, v := max 0 (along q x.solVE x.solVN), a := 0, solNew := false }
  | _, _ => x

/-- s re-based at a new solution, carried forward to the tick by v (R281). -/
def rebased (p : Path) (t : Nat) (x : SpMach) : SpMach :=
  if ¬ x.solNew then x
  else match project p { e := x.solE, n := x.solN } with
    | some q => { x with s := q.arc + x.v * ((t : Int) - x.solTime) / 10 ^ 6, solNew := false }
    | none => { x with solNew := false }

/-- The allotment under an arc length. -/
def allotUnder : List Allot → Int → Option Allot
  | [], _ => none
  | [a], _ => some a
  | a :: l, x => let n := runLength (dedupe (allotPath a)); if x < n then some a else allotUnder l (x - n)

/-- The deceleration limit that applies (R283, R297). -/
def limitNow (x : SpLimits) (c : SpCauses) : Nat := if c.noChain then x.dHard else if c.any then x.dAnneal else x.dNorm

/-- What R299 decides at a tick: the machine's new state, and the metres of an EXTEND it asks for. -/
def overrunCheck (x : SpLimits) (left : Nat) (p : SpMach) : SpMach × Option Nat :=
  let d0 := limitNow x p.causes
  let fits := decide (stopDist p.v p.a d0 x.jerk ≤ left)
  let changed := decide (d0 ≠ p.limit ∨ left < p.remain)
  let q := { p with limit := d0 }
  if p.causes.noChain ∨ fits = true ∨ p.v = 0 then ({ q with ramp := none, stopLow := false }, none)
  else if ¬ changed then (q, none)
  else if stopDist p.v p.a x.dHard x.jerk ≤ left then
    ({ q with ramp := some (leastDec p.v p.a left x.jerk 17 d0 x.dHard), stopLow := true }, none)
  else
    ({ q with ramp := some x.dHard, causes := { q.causes with overrun := true } },
     if p.causes.overrun then none else some (cdiv (stopDist p.v p.a x.dHard x.jerk - left) (10 ^ 12)))

/-- A follower's target: its error and the speed it is to take, or none when it would exceed D_HARD (R293, R296). -/
def gearTarget (x : SpLimits) (c : SpClass) (g : Gear) (cap : BitVec 32 × Int × Int) (o : Odo) (t free : Nat) (k : Kin) : Int × Option Int :=
  let pos := travelFrom cap.1 cap.2.1 (o.odo, o.speed * ((t : Int) - o.time.toNat))
  let steps := schedSteps cap.1 cap.2.1 g.ratio0.toNat g.sched
  let err := cap.2.2 + ratioSum g.ratio0.toNat steps pos - k.s
  let base := ratioAt g.ratio0.toNat steps pos * o.speed * 10 ^ 6 / 2 ^ 16
  let most := min (c.catchup * 10 ^ 6) err.natAbs
  let add : Int := (free % (most + 1) : Nat)
  let v := max 0 (base + (if 0 ≤ err then add else -add))
  (err, if v - k.v < -(x.dHard * 1000 : Int) then none else some v)

/-- One tick of a geared follower: towards the target within its limits and R283 (R293). -/
def gearStep (x : SpLimits) (p : Path) (v : Int) (k : Kin) : Kin :=
  let j : Int := x.jerk
  let k' := kinStep k (max (k.a - j) (min (k.a + j) (v - k.v)))
  if stepOk x x.dHard p k k' then k' else brakeStep k x.dNorm x.jerk

/-- The gear state of a machine at a tick: captured at the first tick with a report, its error and GEAR_SLIP (R293). -/
def gearAt (x : SpLimits) (c : SpClass) (g : Gear) (o : Odo) (t free : Nat) (k : Kin) : Gear × Option Int :=
  let cap := g.captured.getD (o.odo, o.speed * ((t : Int) - o.time.toNat), k.s)
  let r := gearTarget x c g cap o t free k
  ({ g with captured := some cap, err := r.1, slip := decide (c.slipMm * 10 ^ 9 < r.1.natAbs) }, r.2)

/-- A machine's record after its step, with its standstill timer. -/
def stepped (clk : Nat) (k : Kin) (x : SpMach) : SpMach :=
  { x with s := k.s, v := k.v, a := k.a, zeroSince := if k.v = 0 then some (x.zeroSince.getD clk) else none }

/-- The step that the plan takes without a pair: a ramp while annealing, ending or stopping short, else the engine's
choice (R283, R284, R297, R299). -/
def planStep (x : SpLimits) (p : Path) (free : Nat) (m : SpMach) : Kin :=
  let k : Kin := { s := m.s, v := m.v, a := m.a }
  match m.ramp with
  | some d => brakeStep k d x.jerk
  | none => if m.causes.any ∨ m.endNear then brakeStep k m.limit x.jerk else freeStep x p free k

/-- A geared machine's step, or GEAR_LOST (R293, R296). -/
def planGeared (m : Nat) (x : SpLimits) (c : SpClass) (p : Path) (t free : Nat) (g : Gear) (s : State) : State :=
  let k : Kin := { s := (spMach s m).s, v := (spMach s m).v, a := (spMach s m).a }
  match kget s.setpt.odos g.master with
  | none => setSp m (stepped s.clk (planStep x p free (spMach s m))) s
  | some o =>
    match gearAt x c g o t free k with
    | (_, none) =>
      let s := gearLost m s
      setSp m (stepped s.clk (brakeStep k x.dAnneal x.jerk)) s
    | (g', some v) =>
      let s := if g'.slip ∧ ¬ g.slip then raise bSETPT 2 s else s
      setSp m (fun y => { stepped s.clk (gearStep x p v k) y with gear := some g' }) s

/-- An EXTEND is asked for, or the overrun is too great for one and the machine is quenched (R299). -/
def askExtend (m : Nat) (d : Option Nat) (s : State) : State :=
  match d with
  | none => s
  | some n =>
    let s := bumpSetpt 3 s
    if 50 < n then setptQuench m s else { s with setpt.extends_ := s.setpt.extends_ ++ [{ mach := m, dist := n, at_ := s.clk }] }

/-- END of a chain's last allotment lies less than the ramp time at D_NORM plus 1 s ahead (R284). -/
def endsSoon (x : SpLimits) (l : List Allot) (t : Nat) (m : SpMach) : Bool :=
  match l.getLast? with
  | some a => decide (a.end_.toNat < t + rampNs m.v m.a x.dNorm x.jerk + 10 ^ 9) || (m.endNear && m.v != 0)
  | none => false

/-- A chain ahead of a machine: its arc position brought to it (R281, R283). -/
def onChain (c : SpClass) (l : List Allot) (p : Path) (t : Nat) (x : SpMach) : SpMach :=
  let y := moveChain l x
  let y := if y.planned then rebased p t y else projected p y
  let u := allotUnder l y.s
  { y with
    allotId := match u with | some a => a.id | none => 0
    reverse := match u with | some a => c.revOps.toNat.testBit a.op | none => y.reverse }

/-- One machine with a chain is planned (R283 to R299). -/
def planOn (m : Nat) (c : SpClass) (l : List Allot) (t free : Nat) (s : State) : State :=
  let p := pathOf l
  let y := onChain c l p t (spMach s m)
  let x := limitsOf c y
  let r := overrunCheck x (p.length - y.s).toNat { y with endNear := endsSoon x l t y }
  let newly := r.1.stopLow && !y.stopLow
  let late := r.1.causes.overrun && !y.causes.overrun
  let s := setSp m (fun _ => r.1) s
  let s := if newly then raise bSETPT 1 (bumpSetpt 2 s) else s
  let s := if late then setCauses m (fun q => { q with overrun := true }) (setSp m (fun q => { q with causes := { q.causes with overrun := false } }) s) else s
  let s := askExtend m r.2 s
  let s := match (if r.1.ramp.isSome ∨ r.1.endNear ∨ (spMach s m).causes.any then none else (spMach s m).gear) with
    | some g => planGeared m x c p t free g s
    | none => setSp m (stepped s.clk (planStep x p free (spMach s m))) s
  setSp m (fun z => { z with remain := (p.length - z.s).toNat }) s

/-- One machine without a chain: it ramps down by D_HARD with cause NO_CHAIN, and stands (R297). -/
def planOff (m : Nat) (c : SpClass) (s : State) : State :=
  let y := spMach s m
  let s := if y.v ≠ 0 ∧ ¬ y.causes.noChain then setCauses m (fun q => { q with noChain := true }) s else s
  let k := brakeStep { s := y.s, v := y.v, a := y.a } c.dHard (max 1 c.jMax)
  setSp m (fun x => { stepped s.clk k x with chain := [], remain := 0, allotId := 0, planned := k.v != 0, ramp := none, stopLow := false, endNear := false }) s

/-- A machine is at standstill (R298). -/
def stillNow (s : State) (x : SpMach) : Bool :=
  let ms := s.setpt.cfg.stillMs * 10 ^ 6
  let slow := match x.solAt with
    | some t => decide (t + ms ≤ s.clk) || decide (x.solVE * x.solVE + x.solVN * x.solVN ≤ (s.setpt.cfg.stillMmS * s.setpt.cfg.stillMmS : Nat))
    | none => true
  match x.zeroSince with
  | some z => decide (z + ms ≤ s.clk) && slow
  | none => false

/-- Standstill noted: NO_CHAIN clears, and in a fleet anneal the quench logic hears of it (R297, R298). -/
def noteStill (m : Nat) (s : State) : State :=
  let was := (spMach s m).still
  let is := stillNow s (spMach s m)
  let s := setSp m (fun x => { x with still := is, causes := { x.causes with noChain := x.causes.noChain && !is } }) s
  let s := if is ∧ ¬ was then bumpSetpt 1 s else s
  if is ∧ s.sys.mode = .anneal then { s with quench.stood := s.quench.stood ||| BitVec.ofNat 128 (2 ^ m) } else s

/-- A machine's code from its plan (R285 to R289). -/
def codeNow (c : SpClass) (l : List Allot) (x : SpMach) : BitVec 16 :=
  if x.v = 0 then stillCode x.code
  else codeOf x.means x.reverse x.v.toNat (curvIn (x.s + x.v * c.lookMs).toNat (pathOf l).knots) x.code

/-- The causes that the grid and the mode give (R271, R297). -/
def gridCauses (s : State) (m : Nat) (c : SpCauses) : SpCauses :=
  { c with fleet := s.sys.mode == .anneal, margin := (gridMach s m).annealMargin, outside := (gridMach s m).annealOutside }

/-- One machine in a mode that plans (R283 to R299). -/
def planMach (t : Nat) (s : State) (m : Nat) : State :=
  match spClassOf s m, planable s m with
  | some c, true =>
    let l := reservedChain s m
    let s := setCauses m (gridCauses s m) s
    let s := match (spMach s m).gear with
      | some g => if reservedChain s g.master = [] ∨ (spClassOf s g.master).isNone then gearLost m s else s
      | none => s
    let s := if l = [] then planOff m c s else planOn m c l t (Config.freeNat (s.fresh + m)) s
    let s := noteStill m s
    setSp m (fun x => { x with code := codeNow c l x }) s
  | _, _ => setSp m (fun x => { x with code := 0, planned := false }) s

/-- One machine in a mode with standstill codes only: s and v follow solutions (R301). -/
def followMach (t : Nat) (s : State) (m : Nat) : State :=
  match spClassOf s m, planable s m with
  | some c, true =>
    let l := reservedChain s m
    let s := setCauses m (gridCauses s m) s
    let y := if l = [] then { moveChain [] (spMach s m) with v := 0, a := 0 } else projected (pathOf l) (onChain c l (pathOf l) t { spMach s m with planned := false })
    let s := setSp m (fun _ => { stepped s.clk { s := y.s, v := y.v, a := 0 } y with
      planned := false, ramp := none, stopLow := false, endNear := false, code := stillCode y.code }) s
    noteStill m s
  | _, _ => setSp m (fun x => { x with code := 0, planned := false }) s

/-- One entry of the set-point datagram (R291). -/
def spEntry (m : Nat) (x : SpMach) : Bytes :=
  leBytes 1 m ++ leBytes 1 (b2n x.causes.any + 2 * b2n x.gear.isSome + 4 * b2n x.still + 8 * b2n x.endNear) ++ leBytes 2 x.code.toNat

/-- Machines that the set-point datagram carries (R291). -/
def ethMachs (s : State) : List Nat :=
  (List.range 128).filter (fun m => (nth s.setpt.cfg.machs m (none, 0)).2.toNat.testBit 1 && planable s m)

/-- The set-point datagram, when this tick is one of its times (R291). -/
def ethCodes (t : Nat) (s : State) : State :=
  let r := s.setpt.cfg.ethRate
  if r = 0 ∨ t * r % 10 ^ 9 ≠ 0 ∨ ¬ regBit s 0x070000 1 then s
  else
    let l := ethMachs s
    let bs := leBytes 1 1 ++ leBytes 1 l.length ++ leBytes 2 s.setpt.ethSeq.toNat ++ leBytes 4 0 ++ leBytes 8 t
      ++ l.flatMap (fun m => spEntry m (spMach s m))
    let s := { s with setpt := { s.setpt with ethLast := s.setpt.ethSeq, ethSeq := s.setpt.ethSeq + 1 } }
    injectFrame 15 (udpDatagram s s.setpt.cfg.ethDest bs) s

/-- The engine's work at a tick: every machine planned, or only followed (R290, R301). -/
def planTick (t : Nat) (s : State) : State :=
  match s.sys.mode with
  | .field | .holdover | .anneal =>
    let s := (List.range 128).foldl (planMach t) s
    let us := Config.freeNat (s.fresh + 128) % 351
    let s := { s with fresh := s.fresh + 129, setpt.maxPlanUs := max s.setpt.maxPlanUs us }
    ethCodes t (driveOutputs s)
  | .survey | .quenched | .maintenance => ethCodes t ((List.range 128).foldl (followMach t) s)
  | _ => s

/-- PROFILE_TICK (R290, R73): served time passes the next multiple of 1 ms; a due mode transition takes effect, then the
engine plans. -/
def execProfileTick (s : State) : Out :=
  .next (bus s fun s =>
    let s := advanceTo (nextTick s) s
    let t := nextTick s
    let s := modeTick { s with time.nextProf := s.time.nextProf + 1 }
    let s := annealDoneTick (if underTest s .setpt then s else planTick t s)
    mirrorTick { s with setpt.orders := [] })

end Sys2Proof.Machine
end

