-- ==== Sys2Proof/Machine/Radio.lean ====
section
/-! DEFINITION. Radio.lean: the field radio's slots, the frames it sends in them, what it does with received frames, and its
sleepy nodes (10_field_radio.md R311 to R349). -/

namespace Sys2Proof.Machine

open Sys2Proof

/-- A chain holds an enable PENDING: of CHAIN_CTRL, or of the restored load while a frame of before is on air (R69, R87). -/
def chainPending (s : State) (c : Nat) : Bool :=
  let x := chain s c
  x.pendingEn || (x.shedWait && x.en && txScope s c != .none)

/-- A chain after its frame on air has ended: a pending disable or enable takes effect (R69). -/
def Chain.settled (x : Chain) : Chain :=
  { x with en := if x.stopping then x.pendingEn else x.en, stopping := false, pendingEn := false, shedWait := false, onAir := none }

/-- A chain's pending disable or enable takes effect once its frame on air has ended; PENDING_DONE tells of an enable (R69). -/
def settleChain (c : Nat) (s : State) : State :=
  let x := chain s c
  if ¬ (x.stopping ∨ x.shedWait) ∨ (x.onAir.isSome ∧ now s < x.airEnd) then s
  else
    let was := chainPending s c
    let s := setChain c Chain.settled s
    if was then raise bPARISON 2 s else s

/-- A write of RADIO_CHAIN_CTRL for a chain (R69, R309). -/
def chainCtrl (c : Nat) (w : Word) (s : State) : State :=
  let s := settleChain c s
  let p := signedOf 8 (fld w 7 0)
  let s := setChain c (fun x => { x with txpwr := BitVec.ofInt 8 (max (-20) (min 28 p)) }) s
  let air := (chain s c).onAir.isSome && decide (now s < (chain s c).airEnd)
  if bit w 31 then setChain c (fun x => if x.stopping then { x with pendingEn := true } else { x with en := true }) s
  else if air then setChain c (fun x => if x.en then { x with stopping := true, pendingEn := false } else x) s
  else setChain c (fun x => { x with en := false }) s

/-- CHAIN_ENABLE (R69, R309). -/
def execChainEnable (c : Fin 3) (w : Word) (s : State) : Out := .next (bus s (chainCtrl c w))

/-- Widening limit w_cap of a chain in µs (R335). -/
def wCap (x : ChainCfg) : Nat := min 4000 ((sharedLen x - (airtime x.mode 19 + taUs + airtime x.mode 26)) / 2)

/-- Widening w of a node in µs: 40 ppm of the time since the base last answered it (R335). -/
def widening (s : State) (n : Node) : Nat := (now s - n.answered) / 25000000

/-- A node whose w exceeds w_cap becomes RESYNC_REQUIRED (R336). -/
def widenNode (s : State) (n : Node) : Node :=
  if n.synced ∧ wCap (chain s n.chain).cfg < widening s n then { n with synced := false } else n

/-- Nodes widened at a slot boundary. -/
def widenNodes (s : State) : State :=
  let l := s.radio.nodes.map (widenNode s)
  if l = s.radio.nodes then s else raise bRADIO 6 { s with radio.nodes := l }

/-- A chain at the start of a slot: retuned, every segment still to come (R312). -/
def freshChain (s : State) (c : Nat) (x : Chain) : Chain :=
  { x with channel := slotChannel s c, broken := false, sentBeacon := false, sentGang := false, sentShared := false, sentSecond := false
           recEnd := 0, onAir := none, awaitAck := none }

/-- Beacons missed: a slot that ends without one adds to the count (R337, R338). -/
def countMissed (s : State) : State :=
  let r := s.radio
  { s with radio := { r with
    missGaffer := if s.sys.mode ≠ .servitor ∨ r.heardGaffer then 0 else r.missGaffer + 1
    missParent := if r.parent.isNone ∨ r.heardParent then 0 else r.missParent + 1
    heardGaffer := false, heardParent := false } }

/-- QUENCH repeats left in the slot that begins: the first one follows the break's own slot (R332). -/
def repeatsAt (r : Radio) (asn : Nat) : Nat :=
  if r.breakAsn = some asn ∨ r.breakAsn.map (· + 1) = some asn then r.repeatLeft else r.repeatLeft - 1

/-- ASN_HOLD and ASN_WRAP at a slot boundary (R323). -/
def holdAsn (s : State) : State :=
  let hold : Bool := decide (s.radio.asn ≤ s.radio.txMax)
  let was : Bool := s.radio.asnHold
  let s := { s with radio := { s.radio with asnHold := hold, asnWrap := decide (2 ^ 36 ≤ s.radio.asn) } }
  if hold ∧ ¬ was then raise bRADIO 7 s else s

/-- The oldest downlink frame, once one sent three times without an ACK has been dropped (R329). -/
def dropTried (c : Nat) (s : State) : State :=
  match (chain s c).downQ with
  | f :: l => if 3 ≤ f.tries then bumpChain c 13 (setChain c (fun x => { x with downQ := l }) s) else s
  | [] => s

/-- One chain at a slot boundary: an ACK that its last slot awaited no longer comes (R329). -/
def chainBegin (c : Nat) (s : State) : State := dropTried c (setChain c (freshChain s c) (settleChain c s))

/-- The QUENCH of a decision that fell in the last 250 µs of the slot before (R349). -/
def lateBreak (s : State) : State :=
  if s.radio.breakDue then breakChain 2 (breakChain 1 (breakChain 0 { s with radio.breakDue := false })) else s

/-- The slot at the boundary now reached (R311, R312). -/
def slotBegin (s : State) : State :=
  let asn := ((now s - s.radio.schedE) / 10 ^ 7) % 2 ^ 40
  let s := if s.radio.running then countMissed s else s
  let s := { s with radio := { s.radio with
    repeatLeft := repeatsAt s.radio asn, asn := asn, running := true, syncDone := []
    nodes := s.radio.nodes.map (fun (n : Node) => { n with replied := none }) } }
  lateBreak (widenNodes (holdAsn (chainBegin 2 (chainBegin 1 (chainBegin 0 s)))))

/-- The block at a multiple of 10 ms: no slot runs before the schedule's epoch. -/
def slotReached (s : State) : State :=
  let s := { s with time.nextSlot := s.time.nextSlot + 1 }
  if ¬ s.radio.present ∨ now s < s.radio.schedE then { s with radio.running := false } else slotBegin s

/-- RADIO_SLOT (R311): served time passes the next multiple of 10 ms. -/
def execRadioSlot (s : State) : Out :=
  .next (bus s fun s =>
    mirrorSlot (slotReached (advanceTo (s.time.nextSlot * 10 ^ 7) s)))

/-- A frame of the current slot can still start: its µs from the boundary have not passed. -/
def inTime (s : State) (us : Nat) : Bool := s.radio.running && decide (now s ≤ slotStart s + us * 1000)

/-- The part at a µs of the current slot. -/
def toUs (us : Nat) (s : State) : State := advanceTo (slotStart s + us * 1000) s

/-- PERMIT of a BEACON (R325, R332). -/
def permitBytes (s : State) : Bytes := leBytes 16 (permits s)

/-- BFLAGS (R324). -/
def bFlags (s : State) : Nat :=
  b2n (latched s) + 2 * b2n (s.sys.mode == .anneal) + 4 * b2n s.radio.orphan + 8 * b2n (s.sys.mode == .holdover)
  + 16 * b2n (s.sys.mode == .reserve) + 32 * b2n (!permitMode s) + 64 * b2n s.radio.unit

/-- The BEACON payload (R324). -/
def beaconPayload (s : State) : Bytes :=
  leBytes 5 s.radio.asn ++ leBytes 1 (bFlags s) ++ leBytes 1 (quality s) ++ permitBytes s

/-- A chain's BEACON falls in this slot and is still to come (R316). -/
def beaconDue (s : State) (c : Nat) : Bool :=
  let x := chain s c
  s.radio.asn % max 1 x.cfg.beaconDiv == 0 && !x.sentBeacon && inTime s 1000

/-- BEACON_TX (R313, R315, R316, R325): built 200 µs before it goes. -/
def execBeaconTx (c : Fin 3) (s : State) : Out :=
  .next (bus s fun s =>
    if ¬ beaconDue s c then s
    else
      let s := toUs 800 s
      let p := beaconPayload s
      (transmit c .beacon 0xFFFF c (p) (setChain c (fun x => { x with sentBeacon := true }) (toUs 1000 s))).2)

/-- Start of a chain's GANG segment in this slot, moved by a recovery frame (R348). -/
def gangUs (s : State) (c : Nat) : Nat :=
  let x := chain s c
  if x.recEnd = 0 then gangStart x.cfg else max (gangStart x.cfg) (x.recEnd + taUs)

/-- A machine's code goes into a GANG frame (R326). -/
def gangValid (s : State) (m : Nat) : Bool :=
  planable s m && (nth s.setpt.cfg.machs m (none, 0)).2.toNat.testBit 0 && regBit s 0x070000 0

/-- The GANG payload of a group (R324). -/
def gangPayload (s : State) (g : Nat) : Bytes :=
  leBytes 1 g ++ leBytes 2 (s.time.nextProf - 1)
  ++ leBytes 4 ((List.range 32).foldl (fun a j => a + b2n (gangValid s (32 * g + j)) * 2 ^ j) 0)
  ++ (List.range 32).flatMap (fun j => leBytes 2 (if gangValid s (32 * g + j) then (spMach s (32 * g + j)).code.toNat else 0))

/-- A QUENCH repeat falls in this slot of a chain (R332). -/
def repeatDue (s : State) (c : Nat) : Bool :=
  decide (0 < s.radio.repeatLeft) && latched s && s.radio.breakAsn != some s.radio.asn && activeChain s c && !(chain s c).broken

/-- A QUENCH stands in for the GANG frame: the chain has no shared segment (R332). -/
def gangTaken (s : State) (c : Nat) : Bool :=
  !hasShared (chain s c).cfg && (repeatDue s c || (chain s c).machQuench != [])

/-- The GANG segment, moved or not, ends by 10,000 µs (R348). -/
def gangFits (s : State) (c : Nat) : Bool :=
  (chain s c).recEnd == 0 || decide (gangUs s c + airtime (chain s c).cfg.mode 88 ≤ 10000)

/-- GANG_TX (R313, R315, R317, R326). -/
def execGangTx (c : Fin 3) (s : State) : Out :=
  .next (bus s fun s =>
    let us := gangUs s c
    if ¬ (chain s c).cfg.gang ∨ (chain s c).sentGang ∨ ¬ inTime s us ∨ gangTaken s c = true ∨ ¬ gangFits s c then s
    else
      let s := toUs (us - 200) s
      let p := gangPayload s (s.radio.asn % 4)
      (transmit c .gang 0xFEFF (6 + c) p (setChain c (fun x => { x with sentGang := true }) (toUs us s))).2)

/-- Start of a chain's shared segment in this slot, moved by a recovery frame and the GANG it moves (R348). -/
def sharedUs (s : State) (c : Nat) : Nat :=
  let x := chain s c
  if x.recEnd = 0 then sharedStart x.cfg
  else
    let g := if x.cfg.gang then gangUs s c + airtime x.cfg.mode 88 else x.recEnd
    max (sharedStart x.cfg) (max g x.recEnd + taUs)

/-- A shared-segment frame of n payload bytes fits, with what follows it (R313, R348). -/
def sharedFits (s : State) (c n after : Nat) : Bool :=
  decide (psduLen n ≤ maxPsdu (chain s c).cfg.mode ∧ sharedUs s c + airtime (chain s c).cfg.mode (psduLen n) + after ≤ 9600)

/-- The largest payload of at most n bytes that fits, none when even k does not. -/
def largest (s : State) (c after k : Nat) : Nat → Option Nat
  | 0 => if k = 0 ∧ sharedFits s c 0 after = true then some 0 else none
  | n + 1 => if n + 1 < k then none else if sharedFits s c (n + 1) after then some (n + 1) else largest s c after k n

/-- A chain's shared segment is free for a frame in this slot. -/
def sharedOpen (s : State) (c : Nat) : Bool :=
  hasShared (chain s c).cfg && !(chain s c).sentShared && inTime s (sharedUs s c)

/-- The ANNEAL frames that fall due in this slot: the fleet's, or a machine's (R333). -/
def annealTarget (s : State) (c : Nat) : Option Nat :=
  let x := chain s c
  if s.sys.mode == .anneal && !s.sys.annealDone && (x.annealFirst == some s.radio.asn || slotIndex s % 10 == 0) then some 0xFF
  else x.machAnneal.head?

/-- A QUENCH or ANNEAL takes the chain's shared segment in this slot (R332, R333). -/
def sharedTaken (s : State) (c : Nat) : Bool :=
  repeatDue s c || (chain s c).machQuench != [] || (annealTarget s c).isSome

/-- Use of the current slot on a chain, and its OWNER (R329). -/
def slotUse (s : State) (c : Nat) : SlotUse × BitVec 16 := nth (chain s c).cfg.plan (slotIndex s) (.idle, 0)

/-- The shared segment of a chain is used. -/
def useShared (c : Nat) (s : State) : State := setChain c (fun x => { x with sentShared := true }) s

/-- A frame at the start of the shared segment. -/
def sendShared (c : Nat) (t : FrameType) (dst : Nat) (payload : Bytes) (s : State) : Sent :=
  transmit c t dst (9 + c) payload (useShared c (toUs (sharedUs s c) s))

/-- A QUENCH in place of the shared frame, or of the GANG frame on a chain with no shared segment (R332). -/
def sendQuench (c : Nat) (payload : Bytes) (s : State) : Sent :=
  if hasShared (chain s c).cfg then
    if sharedOpen s c && sharedFits s c 4 0 then sendShared c .quench 0xFFFF payload s else (false, s)
  else if (chain s c).cfg.gang ∧ ¬ (chain s c).sentGang ∧ inTime s (gangUs s c) = true ∧ gangFits s c = true then
    transmit c .quench 0xFFFF (6 + c) payload (setChain c (fun x => { x with sentGang := true }) (toUs (gangUs s c) s))
  else (false, s)

/-- QUENCH_REPEAT_TX (R332). -/
def execQuenchRepeatTx (c : Fin 3) (s : State) : Out :=
  .next (bus s fun s => if repeatDue s c then (sendQuench c (quenchPayload 0xFF s.quench.qseq.toNat) s).2 else s)

/-- MACHINE_QUENCH_TX (R332). -/
def execMachineQuenchTx (c : Fin 3) (s : State) : Out :=
  .next (bus s fun s =>
    match (chain s c).machQuench with
    | [] => s
    | (m, q) :: l =>
      if repeatDue s c then s
      else
        let r := sendQuench c (quenchPayload m q) s
        if r.1 then setChain c (fun x => { x with machQuench := l }) r.2 else r.2)

/-- ANNEAL_TX (R333). -/
def execAnnealTx (c : Fin 3) (s : State) : Out :=
  .next (bus s fun s =>
    match annealTarget s c with
    | none => s
    | some m =>
      if repeatDue s c ∨ (chain s c).machQuench ≠ [] ∨ ¬ sharedOpen s c ∨ ¬ sharedFits s c 4 0 then s
      else
        let r := sendShared c .anneal 0xFFFF (leBytes 1 m ++ leBytes 3 0) s
        if ¬ r.1 ∨ m = 0xFF then r.2
        else setChain c (fun x => { x with machAnneal := x.machAnneal.drop 1 }) r.2)

/-- CORR_TX (R327): the next chunk of the chain's bundle, as the largest frame that fits. -/
def execCorrTx (c : Fin 3) (s : State) : Out :=
  .next (bus s fun s =>
    let x := chain s c
    if (slotUse s c).1 ≠ .corr ∨ ¬ x.cfg.corr ∨ x.corrLeft = [] ∨ sharedTaken s c = true ∨ ¬ sharedOpen s c then s
    else match largest s c 0 4 (3 + x.corrLeft.length) with
      | none => s
      | some n =>
        let body := x.corrLeft.take (n - 3)
        let last := decide (x.corrLeft.length ≤ n - 3)
        let r := sendShared c .corr Config.corrDst (leBytes 2 x.corrSeq ++ leBytes 1 (x.corrChunk % 128 + 128 * b2n last) ++ body) s
        if r.1 then setChain c (fun y => { y with corrChunk := y.corrChunk + 1, corrLeft := y.corrLeft.drop (n - 3) }) r.2 else r.2)

/-- One downlink fragment's DATA payload (R324): body bytes n, POLL_REPLY's TCORR if it is one. -/
def downPayload (f : DownFrame) (n : Nat) (more ack : Bool) (tcorr : Option Int) : Bytes :=
  let left := f.body.length - f.done
  leBytes 1 3 ++ leBytes 1 (b2n ack + 2 * b2n more + 4 * b2n tcorr.isSome) ++ leBytes 1 f.msg.toNat
  ++ leBytes 1 (f.frag % 128 + 128 * b2n (decide (left ≤ n)))
  ++ (match tcorr with | some t => leBytes 2 (unsignedOf 16 (satSigned 16 t)) | none => []) ++ (f.body.drop f.done).take n

/-- A downlink frame after n more bytes of it have been delivered: none when it is done. -/
def downNext (f : DownFrame) (n : Nat) : Option DownFrame :=
  if f.body.length ≤ f.done + n then none else some { f with frag := f.frag + 1, done := f.done + n, tries := 0 }

/-- The head of a downlink queue replaced by what is left of it. -/
def putHead (f : Option DownFrame) (l : List DownFrame) : List DownFrame := match f with | some g => g :: l.drop 1 | none => l.drop 1

/-- Body bytes of the next fragment that fit in a DOWN slot with the ACK asked for (R329). -/
def downFit (s : State) (c : Nat) (f : DownFrame) : Option Nat :=
  let after := if f.ackReq then taUs + airtime (chain s c).cfg.mode 26 else 0
  (largest s c after 4 (4 + (f.body.length - f.done))).map (· - 4)

/-- DOWN_TX (R329). -/
def execDownTx (c : Fin 3) (s : State) : Out :=
  .next (bus s fun s =>
    if (slotUse s c).1 ≠ .down ∨ sharedTaken s c = true ∨ ¬ sharedOpen s c then s
    else
      match (chain s c).downQ with
      | [] => s
      | f :: l =>
        match downFit s c f with
        | none => s
        | some n =>
          let seq := s.radio.seq
          let r := sendShared c .data f.dst.toNat (downPayload f n (l != []) f.ackReq none) s
          if ¬ r.1 then r.2
          else if f.ackReq then
            setChain c (fun x => { x with downQ := { f with tries := f.tries + 1 } :: l, awaitAck := some seq }) r.2
          else setChain c (fun x => { x with downQ := putHead (downNext f n) (f :: l) }) r.2)

/-- Who sent a frame (R322 check 3): its EUI and the rank of the master it stands for. -/
inductive Sender where
  | machine (m : Nat) | node | pendant (p : Nat) | peer | parent
  deriving DecidableEq, Repr

/-- SRC mapped to a known sender and its EUI (R322). -/
def senderOf (s : State) (src : Nat) : Option (Sender × Nat) :=
  if 0xFE00 ≤ src ∧ src ≤ 0xFE7F then
    (s.rtk.cfg.admitted.find? (fun a => a.mach == src - 0xFE00)).map (fun a => (.machine (src - 0xFE00), a.eui.toNat))
  else if 0xFF00 ≤ src ∧ src ≤ 0xFF0F then
    (s.radio.pendants[src - 0xFF00]?).map (fun e => (.pendant (src - 0xFF00), e.toNat))
  else if src = 0xFFF0 + b2n (!s.radio.unit) then (if s.twin.present then some (.peer, Config.peerEui) else none)
  else (s.radio.nodes.find? (fun n => n.addr.toNat == src)).map (fun n => (.node, n.eui.toNat))

/-- The parent as the sender of a frame on the PARENT_RX chain (R338). -/
def parentSender (s : State) (src : Nat) : Option (Sender × Nat) :=
  match s.radio.parent with
  | some p => if src = 0xFFF0 + b2n p.unit then some (.parent, p.eui.toNat) else none
  | none => none

/-- The ASN nearest the local one that ends in ASN_LO (R322 check 4). -/
def nearAsn (loc lo : Nat) : Int :=
  let d := (lo + 256 - loc % 256) % 256
  if d < 128 then (loc : Int) + d else (loc : Int) + d - 256

/-- A high-water mark. -/
def markOf (s : State) (eui : Nat) : Option Nat := (s.radio.marks.find? (fun p => p.1 == BitVec.ofNat 64 eui)).map Prod.snd

/-- A high-water mark raised. -/
def setMark (eui v : Nat) (s : State) : State :=
  let k := BitVec.ofNat 64 eui
  { s with radio.marks := s.radio.marks.filter (fun p => p.1 != k) ++ [(k, v)] }

/-- A received frame that has passed R322. -/
structure Heard where
  rx : RxFrame
  src : Nat
  sender : Sender
  eui : Nat
  seq : Nat
  asn : Nat
  payload : Bytes
  deriving DecidableEq, Repr

/-- A received frame but for its FCS (R318). -/
def rxBody (f : RxFrame) : Bytes := f.psdu.take (f.psdu.length - 2)

/-- The FCS of a received frame holds (R318). -/
def fcsOk (f : RxFrame) : Bool := f.psdu == psduOf (rxBody f)

/-- TYPE of a frame's FCTL. -/
def typeOf (f : RxFrame) : Nat := byteAt f.psdu 0 % 16

/-- The chain listens for a type in this mode (R345). -/
def listens (s : State) (c type : Nat) : Bool :=
  let x := chain s c
  s.radio.present && s.radio.running && chainOn s c && x.health == .ok &&
  (match s.sys.mode with
   | .reset | .forming | .dormant => false
   | .reserve => type == 8 && c == beaconChain s
   | .yielded => !s.sys.shed || c == beaconChain s
   | _ => true)

/-- The frame opened under a key: its payload (R320). -/
def openFrame (key : Bytes) (eui asn sub : Nat) (psdu : Bytes) (clear : Bool) : Option Bytes :=
  let head := psdu.take 7
  let rest := psdu.drop 7
  let plain := rest.take (rest.length - 8)
  if clear then (Config.ccmOpen key (nonce eui asn sub) (head ++ plain) (rest.drop (rest.length - 8))).map (fun _ => plain)
  else (Config.ccmOpen key (nonce eui asn sub) head rest).map (padTo (rest.length - 8))

/-- The key that checks a sender's frames (R321). -/
def rxKey (s : State) : Sender → Option Bytes
  | .peer | .parent => blockKey s (regFld s 0x08003C 22 16) mbRadio useDec tyAes128
  | _ => blockKey s (regFld s 0x08003C 6 0) mbRadio useDec tyAes128

/-- A frame's time and replay value are within bounds (R322 check 4). -/
def fresh (s : State) (eui : Nat) (a : Int) (sub : Nat) : Bool :=
  decide (0 ≤ a ∧ (a - s.radio.asn).natAbs ≤ regFld s 0x080000 1 0) &&
  (match markOf s eui with | some m => decide (m < a.toNat * 16 + sub) | none => true)

/-- Checks 4 and 5 of R322, and the high-water mark. -/
def admitFrame (f : RxFrame) (src : Nat) (who : Sender) (eui : Nat) (clear : Bool) (s : State) : Option Heard × State :=
  let sub := 3 * f.seg.val + f.chain.val
  let a := nearAsn s.radio.asn (byteAt f.psdu 1)
  if ¬ fresh s eui a sub then (none, bumpChain f.chain 9 s)
  else match rxKey s who with
    | none => (none, keyFault s)
    | some key =>
      match openFrame key eui a.toNat sub (rxBody f) clear with
      | none => (none, bumpChain f.chain 10 s)
      | some p =>
        (some { rx := f, src := src, sender := who, eui := eui, seq := byteAt f.psdu 6, asn := a.toNat, payload := p },
         setMark eui (a.toNat * 16 + sub) (bumpChain f.chain 6 s))

/-- A frame ends at this served time at the port. -/
def rxEnd (s : State) (f : RxFrame) : Nat := slotStart s + (f.startUs + airtime (chain s f.chain).cfg.mode f.psdu.length) * 1000

/-- The chain had a frame on air, or broke off its slot, while the frame arrived: it is not received (R331, R336, R343). -/
def deafTo (s : State) (f : RxFrame) : Bool :=
  decide (slotStart s + f.startUs * 1000 < (chain s f.chain).airEnd ∧ (chain s f.chain).airStart < rxEnd s f)

/-- A frame of the type named is received at its end (R322). DATA comes in UP slots, and from their OWNER alone (R329). -/
def receive (t : FrameType) (f : RxFrame) (s : State) : Option Heard × State :=
  let c := f.chain.val
  if ¬ listens s c t.code then (none, s)
  else
    let s := advanceTo (rxEnd s f) s
    let src := leAt f.psdu 2 2
    let dst := leAt f.psdu 4 2
    let par := (chain s c).cfg.parentRx
    if deafTo s f then (none, s)
    else if ¬ fcsOk f ∨ f.psdu.length < 17 ∨ byteAt f.psdu 0 / 16 % 4 ≠ 1 ∨ 9 < typeOf f then (none, bumpChain c 7 s)
    else if typeOf f ≠ t.code ∨ (t = .data ∧ (slotUse s c).1 ≠ .up) then (none, s)
    else if par ∧ dst ≠ 0xFFFF then (none, s)
    else if ¬ par ∧ dst ≠ 0xFFFF ∧ dst ≠ baseAddr s then (none, bumpChain c 7 s)
    else match (if par then parentSender s src else senderOf s src) with
      | none => (none, bumpChain c 8 s)
      | some (who, eui) =>
        if t = .data ∧ (slotUse s c).2.toNat ≠ src then (none, bumpChain c 8 s)
        else admitFrame f src who eui t.clear s

/-- What a received frame does, if it passes R322. -/
def onFrame (t : FrameType) (f : RxFrame) (k : Heard → State → State) (s : State) : State :=
  match receive t f s with
  | (some h, s) => k h s
  | (none, s) => s

/-- The base does not listen in a stop sub-slot that a recovery frame overlaps (R348). -/
def stopCovered (s : State) (c : Nat) : Bool := decide (stopStart (chain s c).cfg < (chain s c).recEnd)

/-- STOP_REQ (R330): from a listed pendant, within the stop sub-slot. REASON is recorded (R324): no record code of Strata carries
it, and the model holds the last one in State (DESIGN CHOICE, assumption log 21). -/
def execStopReq (f : RxFrame) (s : State) : Out :=
  .next (bus s (onFrame .stopReq f fun h s =>
    let x := (chain s f.chain).cfg
    match h.sender with
    | .pendant p =>
      if x.stop ∧ stopStart x ≤ f.startUs ∧ f.startUs ≤ stopEnd x ∧ ¬ stopCovered s f.chain then
        holdPendant (raise bRADIO 1 (bumpChain f.chain 11 { s with radio.stopReason := some (p, byteAt h.payload 0) }))
      else s
    | _ => s))

/-- SUB of the base's next frame in a shared segment: its second one has k = 4, and there is no third (R320). -/
def sharedSub (x : Chain) (c : Nat) : Nat := if x.sentShared then 12 + c else 9 + c

/-- An answer of the base in the shared segment, one TA after the frame it answers, if it ends by 9,600 µs (R313, R320, R329, R335). -/
def answer (h : Heard) (t : FrameType) (payload : Bytes) (s : State) : Sent :=
  let c := h.rx.chain.val
  let x := chain s c
  let at_ := h.rx.startUs + airtime x.cfg.mode h.rx.psdu.length + taUs
  if x.sentSecond ∨ 9600 < at_ + airtime x.cfg.mode (psduLen payload.length) then (false, s)
  else transmit c t h.src (sharedSub x c) payload
    (setChain c (fun y => { y with sentShared := true, sentSecond := y.sentShared }) (advanceTo (now s + taUs * 1000) s))

/-- An ACK of the base (R324). -/
def sendAck (h : Heard) (nominal flags : Nat) (s : State) : Sent :=
  let t : Int := (h.rx.startUs : Int) - nominal
  answer h .ack (leBytes 1 h.seq ++ leBytes 1 flags ++ leBytes 2 (unsignedOf 16 (satSigned 16 t)) ++ leBytes 5 s.radio.asn) s

/-- The envelope of an uplink APP message (R388). -/
def envelope (s : State) (h : Heard) (body : Bytes) : Bytes :=
  portMac s 14 ++ portMac s 14 ++ beBytes 2 0x88B6 ++ leBytes 2 h.src ++ leBytes 1 h.rx.chain ++ leBytes 1 2 ++ leBytes 8 h.eui
  ++ leBytes 5 h.asn ++ leBytes 3 0 ++ leBytes 8 (slotStart s + h.rx.sfdUs * 1000) ++ body

/-- A whole uplink message delivered (R328). RTCM goes to the ingest, where MSM_MESSAGE takes it. -/
def deliverUp (h : Heard) (proto : Nat) (body : Bytes) (s : State) : State :=
  if proto = 2 then (if body.length = 20 ∧ setptTakes s = true then odometer body (some (BitVec.ofNat 64 h.eui)) s else s)
  else if proto = 3 then injectFrame 14 (envelope s h body) s
  else if proto = 1 then toIngest [{ frame := body, eui := some (BitVec.ofNat 64 h.eui) }] s
  else s

/-- One fragment taken in FRAG order (R328). -/
def takeFragment (h : Heard) (s : State) : State :=
  let p := h.payload
  let idx := byteAt p 3 % 128
  let last := 128 ≤ byteAt p 3
  let body := p.drop (if (byteAt p 1).testBit 2 then 6 else 4)
  let mine (r : Reasm) : Bool := r.src == BitVec.ofNat 16 h.src && r.msg == BitVec.ofNat 8 (byteAt p 2)
  if idx = 0 ∧ last then deliverUp h (byteAt p 0) body s
  else if idx = 0 then
    let r : Reasm := { chain := h.rx.chain, src := BitVec.ofNat 16 h.src, msg := BitVec.ofNat 8 (byteAt p 2),
                       proto := BitVec.ofNat 8 (byteAt p 0), next := 1, body := body, since := s.clk }
    { s with radio.reasm := s.radio.reasm.filter (fun x => !mine x) ++ [r] }
  else match s.radio.reasm.find? mine with
    | none => s
    | some r =>
      if r.next ≠ idx then s
      else if last then deliverUp h r.proto.toNat (r.body ++ body) { s with radio.reasm := s.radio.reasm.filter (fun x => !mine x) }
      else { s with radio.reasm := s.radio.reasm.map (fun (x : Reasm) => if mine x then { x with next := idx + 1, body := x.body ++ body } else x) }

/-- DATA (R328, R329): acknowledged one TA later if it asks for it. -/
def execData (f : RxFrame) (s : State) : Out :=
  .next (bus s (onFrame .data f fun h s =>
    let s := takeFragment h s
    let held := s.radio.nodes.any (fun n => n.addr.toNat == h.src && n.held != [])
    if (byteAt h.payload 1).testBit 0 then (sendAck h (sharedStart (chain s f.chain).cfg) (b2n held) s).2 else s))

/-- Bytes of a node's head frame that its last POLL_REPLY carried. -/
def replyFit (s : State) (c at_ : Nat) (f : DownFrame) : Nat → Option Nat
  | 0 => none
  | n + 1 =>
    let m := (chain s c).cfg.mode
    if psduLen (6 + (n + 1)) ≤ maxPsdu m ∧ at_ + airtime m (psduLen (6 + (n + 1))) + taUs + airtime m 26 ≤ 9600 then some (n + 1)
    else replyFit s c at_ f n

/-- A downlink queue whose head has been acknowledged: n bytes of it are delivered. -/
def ackHead (l : List DownFrame) (n : Nat) : List DownFrame :=
  match l with
  | f :: r => putHead (downNext f n) (f :: r)
  | [] => []

/-- ACK (R329, R335): what it acknowledges is delivered. -/
def execAck (f : RxFrame) (s : State) : Out :=
  .next (bus s (onFrame .ack f fun h s =>
    let seq := BitVec.ofNat 8 (byteAt h.payload 0)
    let c := f.chain.val
    if s.radio.nodes.any (fun n => n.addr.toNat == h.src && n.replied == some seq) then
      let start := nodeReplyUs s c h.src
      { s with radio.nodes := s.radio.nodes.map (fun (n : Node) =>
          if n.addr.toNat = h.src then { n with replied := none, held := match n.held with
            | d :: _ => ackHead n.held ((replyFit s c start d (d.body.length - d.done)).getD 0)
            | [] => [] } else n) }
    else if (chain s c).awaitAck = some seq then
      match (chain s c).downQ with
      | d :: _ =>
        if d.dst.toNat = h.src then
          setChain c (fun x => { x with awaitAck := none, downQ := ackHead x.downQ ((downFit s c d).getD 0) }) s
        else s
      | [] => s
    else s))
where
  /-- Where the reply to a node's nominal POLL starts. -/
  nodeReplyUs (s : State) (c _src : Nat) : Nat :=
    sharedStart (chain s c).cfg + wCap (chain s c).cfg + airtime (chain s c).cfg.mode 19 + taUs

/-- A node polls in its slot of this slotframe (R334). -/
def pollSlot (s : State) (c : Nat) (n : Node) : Bool :=
  n.chain == c && n.slot == slotIndex s && s.radio.asn / 100 % 2 ^ n.periodLog2 == n.phase

/-- Nodes changed. -/
def setNode (addr : Nat) (f : Node → Node) (s : State) : State :=
  { s with radio.nodes := s.radio.nodes.map (fun n => if n.addr.toNat = addr then f n else n) }

/-- The answer to a POLL: a held frame's fragment, if it and the node's ACK fit, else an ACK (R335). -/
def answerPoll (h : Heard) (nominal : Nat) (n : Node) (s : State) : State :=
  let c := h.rx.chain.val
  let at_ := h.rx.startUs + airtime (chain s c).cfg.mode h.rx.psdu.length + taUs
  let t : Int := (h.rx.startUs : Int) - nominal
  let fit := match n.held with | d :: _ => (replyFit s c at_ d (d.body.length - d.done)).map (fun k => (d, k)) | [] => none
  match fit with
  | some (d, k) =>
    let seq := s.radio.seq
    let r := answer h .data (downPayload d k (1 < n.held.length) true (some t)) s
    if r.1 then setNode h.src (fun n => { n with answered := now r.2, replied := some seq }) r.2 else r.2
  | none =>
    let r := sendAck h nominal (b2n (n.held != [])) s
    if r.1 then setNode h.src (fun n => { n with answered := now r.2 }) r.2 else r.2

/-- POLL (R335, R336). -/
def execPoll (f : RxFrame) (s : State) : Out :=
  .next (bus s (onFrame .poll f fun h s =>
    let s := widenNodes s
    match s.radio.nodes.find? (fun n => n.addr.toNat == h.src) with
    | none => s
    | some n =>
      let x := (chain s f.chain).cfg
      let nominal := sharedStart x + wCap x
      if ¬ pollSlot s f.chain n then s
      else if ¬ n.synced then bumpChain f.chain 14 s
      else if widening s n < ((f.startUs : Int) - nominal).natAbs then s
      else answerPoll h nominal n s))

/-- SYNC_REQ (R336): the first valid one of the rendezvous slot is answered if its ACK fits. -/
def execSyncReq (f : RxFrame) (s : State) : Out :=
  .next (bus s (onFrame .syncReq f fun h s =>
    let c := f.chain.val
    let x := (chain s c).cfg
    if slotIndex s ≠ 0 ∨ ¬ x.nodes ∨ s.radio.syncDone.contains c ∨ h.sender ≠ .node then s
    else
      let r := sendAck h (sharedStart x) 2 { s with radio.syncDone := c :: s.radio.syncDone }
      if r.1 then setNode h.src (fun n => { n with synced := true, answered := now r.2 }) r.2 else r.2))

/-- GAFFER_BEACON_RX (R337): a servitor accepts a BEACON of its gaffer on a permit chain. -/
def execGafferBeaconRx (f : RxFrame) (s : State) : Out :=
  .next (bus s (onFrame .beacon f fun h s =>
    if h.sender = .peer ∧ s.sys.mode = .servitor ∧ (chain s f.chain).cfg.beaconDiv = 1 then
      { s with radio := { s.radio with heardGaffer := true, missGaffer := 0, silent := false } }
    else s))

/-- PARENT_BEACON_RX (R338). -/
def execParentBeaconRx (f : RxFrame) (s : State) : Out :=
  .next (bus s (onFrame .beacon f fun h s =>
    if h.sender = .parent then { s with radio := { s.radio with heardParent := true, missParent := 0, orphan := false } } else s))

/-- PARENT_QUENCH_RX (R338): a fleet QUENCH of the parent asserts the pendant source. -/
def execParentQuenchRx (f : RxFrame) (s : State) : Out :=
  .next (bus s (onFrame .quench f fun h s => if h.sender = .parent ∧ byteAt h.payload 0 = 0xFF then holdPendant s else s))

/-- PEER_QUENCH_RX (R358): a slot-break QUENCH of the twin peer asserts the pendant source; its repeats do not. -/
def execPeerQuenchRx (f : RxFrame) (s : State) : Out :=
  .next (bus s (onFrame .quench f fun h s =>
    if h.sender = .peer ∧ byteAt h.payload 0 = 0xFF ∧ f.seg = 4 then holdPeer s else s))

/-- PENDANT_HOLD_EXPIRE (R330, R358). -/
def execPendantHoldExpire (s : State) : Out :=
  .next (onAon s fun s =>
    if s.quench.pendantEnd.isNone ∧ s.quench.peerEnd.isNone then s
    else
      let s := advanceClk (max (s.quench.pendantEnd.getD 0) (s.quench.peerEnd.getD 0)) s
      driveOutputs { s with quench := { s.quench with pendantEnd := none, peerEnd := none } })

/-- REASM_TIMEOUT (R328): 200 ms after the first fragment of the oldest message in reassembly. -/
def execReasmTimeout (s : State) : Out :=
  .next (bus s fun s =>
    match s.radio.reasm with
    | [] => s
    | r :: l => bumpChain r.chain 12 { advanceClk (r.since + 200 * 10 ^ 6) s with radio.reasm := l })

/-- SILENT_GAFFER (R337). -/
def execSilentGaffer (s : State) : Out :=
  .next (bus s fun s =>
    if s.sys.mode = .servitor ∧ 3 ≤ s.radio.missGaffer ∧ ¬ s.radio.silent then
      note 0x0840 2 (s.radio.asn % 2 ^ 32) 0 0 (raise bRADIO 2 { s with radio.silent := true })
    else s)

/-- ORPHAN (R338). -/
def execOrphan (s : State) : Out :=
  .next (bus s fun s =>
    if s.radio.parent.isSome ∧ 3 ≤ s.radio.missParent ∧ ¬ s.radio.orphan then raise bRADIO 3 { s with radio.orphan := true } else s)

/-- LEDGER_BUCKET (R339): a served second ends; buckets that leave the window no longer count. -/
def execLedgerBucket (s : State) : Out :=
  .next (bus s fun s =>
    let s := advanceTo ((now s / 10 ^ 9 + 1) * 10 ^ 9) s
    { s with radio.ledger := s.radio.ledger.filter (fun e => decide (bucketNow s < e.sec + s.radio.windowS)) })

/-- Two nodes clash (R334). -/
def nodesClash (a b : Node) : Bool :=
  let p := 2 ^ min a.periodLog2 b.periodLog2
  a.chain == b.chain && a.slot == b.slot && a.phase % p == b.phase % p

/-- The node that RADIO_NODE_EUI and RADIO_NODE_CFG stage. -/
def stagedNode (s : State) (addr : BitVec 16) : Node :=
  { addr := addr, eui := (regWord s 0x080070) ++ (regWord s 0x08006C)
    chain := regFld s 0x080074 13 12, slot := regFld s 0x080074 22 16, periodLog2 := regFld s 0x080074 10 8, phase := regFld s 0x080074 5 0 }

/-- A staged node suits its chain: ROLES.NODES, a POLL slot and a phase below its period (R334). -/
def nodeSuits (s : State) (n : Node) : Bool :=
  let x := (chain s n.chain).cfg
  decide (n.chain < 3 ∧ n.periodLog2 ≤ 6 ∧ n.phase < 2 ^ n.periodLog2) && x.nodes &&
  decide ((nth x.plan n.slot (.idle, 0)).1 = .poll)

/-- A node operation's result. -/
def nodeEnd (r : NodeResult) (s : State) : State := { s with radio.nodeResult := r }

/-- NODE_ADD (R334). A GO in the cycle of another master's GO of higher rank is refused with BUSY (R349). -/
def execNodeAdd (addr : BitVec 16) (same : Bool) (s : State) : Out :=
  .next (bus s fun s =>
    let n := stagedNode s addr
    if same then nodeEnd .busy s
    else if s.sys.mode = .servitor then nodeEnd .mode s
    else if s.radio.nodes.any (fun x => x.addr == addr) then nodeEnd .exists_ s
    else if 2048 ≤ s.radio.nodes.length then nodeEnd .full s
    else if ¬ nodeSuits s n ∨ s.radio.nodes.any (nodesClash n) then nodeEnd .clash s
    else nodeEnd .done { s with radio.nodes := s.radio.nodes ++ [n] })

/-- NODE_REMOVE (R334, R349). -/
def execNodeRemove (addr : BitVec 16) (same : Bool) (s : State) : Out :=
  .next (bus s fun s =>
    if same then nodeEnd .busy s
    else if s.sys.mode = .servitor then nodeEnd .mode s
    else if s.radio.nodes.any (fun x => x.addr == addr) then
      nodeEnd .done { s with radio.nodes := s.radio.nodes.filter (fun x => x.addr != addr) }
    else nodeEnd .notFound s)

/-- FORCE_RESYNC (R336, R349). -/
def execForceResync (addr : BitVec 16) (same : Bool) (s : State) : Out :=
  .next (bus s fun s =>
    if same then nodeEnd .busy s
    else if s.sys.mode = .servitor then nodeEnd .mode s
    else match s.radio.nodes.find? (fun x => x.addr == addr) with
      | none => nodeEnd .notFound s
      | some n =>
        let s := if n.synced then raise bRADIO 6 s else s
        nodeEnd .done (setNode addr.toNat (fun n => { n with synced := false }) s))

/-- A downlink envelope for a node or a machine: held for its node, or queued on its chain (R329, R335). -/
def takeDown (env : Bytes) (s : State) : State :=
  let addr := BitVec.ofNat 16 (leAt env 0 2)
  let f : DownFrame := { dst := addr, chain := byteAt env 2, ackReq := (byteAt env 3).testBit 0, body := lessFcs (env.drop 28), msg := s.radio.msg }
  let s := { s with radio.msg := s.radio.msg + 1 }
  if s.radio.nodes.any (fun n => n.addr == addr) then setNode addr.toNat (fun n => { n with held := n.held ++ [f] }) s
  else setChain f.chain (fun x => { x with downQ := x.downQ ++ [f] }) s

/-- A frame leaves port 14 (R388). One that is no radio envelope has no taker (assumption log 12). -/
def deliverDown (bytes : Bytes) (s : State) : State :=
  match envelopeOf bytes with
  | some env => takeDown env s
  | none => s

end Sys2Proof.Machine
end

