-- ==== Sys2Proof/Machine/Gathers.lean ====
section
/-! DEFINITION. Gathers.lean: the payload of each gather type, with the values that check 11 of R47 refuses in it (R41, and
the payload layouts of each block's home chapter). -/

namespace Sys2Proof.Machine

open Sys2Proof

/-- A field of a payload: its byte offset, and that its value is good. -/
abbrev Chk := Nat × Bool

/-- The offset of the first field that is not good. -/
def firstBad (l : List Chk) : Option Nat := ((l.filter (fun c => !c.2)).map Prod.fst).min?

/-- Bytes that the layout reserves hold 0 (R6, R589; assumption log 23). -/
def zeroAt (r : Bytes) (ofs n : Nat) : List Chk := (List.range n).map (fun j => (ofs + j, byteAt r (ofs + j) == 0))

/-- The first k records of n bytes. -/
def recs (n : Nat) : Nat → Bytes → List Bytes
  | 0, _ => []
  | k + 1, bs => padTo n bs :: recs n k (bs.drop n)

/-- The checks of k records of n bytes from an offset on. -/
def perRec (base n k : Nat) (bs : Bytes) (f : Nat → Bytes → List Chk) : List Chk :=
  ((List.range k).zip (recs n k (bs.drop base))).flatMap (fun x => (f x.1 x.2).map (fun c => (base + n * x.1 + c.1, c.2)))

/-- A value lies in a range. -/
def within (lo x hi : Nat) : Bool := decide (lo ≤ x ∧ x ≤ hi)

/-- PORTS (R378); the MAC address is little-endian, as every field of a payload of more than one byte (R35). -/
def portOf (r : Bytes) : PortCfg :=
  { en := (byteAt r 0).testBit 7, tsEn := (byteAt r 0).testBit 6, mode := byteAt r 0 % 16, mac := BitVec.ofNat 48 (leAt r 1 6)
    maxLen := leAt r 7 2, floodMask := BitVec.ofNat 16 (leAt r 9 2), defVid := BitVec.ofNat 12 (leAt r 0xB 2)
    defPcp := leAt r 0xB 2 / 4096 % 8, pcpMap := (List.range 8).map (fun p => leAt r 0xD 3 / 8 ^ p % 8) }

/-- A MODE suits its port (R377, R378). -/
def modeSuits (n m : Nat) : Bool := if n < 4 then within 1 m 2 else if n < 12 then within 3 m 6 else m == 7

/-- R378. -/
def portChk (n : Nat) (r : Bytes) : List Chk :=
  [(0, bitsOf (byteAt r 0) 5 4 == 0 && modeSuits n (byteAt r 0 % 16)), (7, within 64 (leAt r 7 2) 9216),
   (0xB, decide (leAt r 0xB 2 < 0x8000))]

/-- PARSER0 and PARSER1 (R381, R382). -/
def nodeOf (r : Bytes) : ParseNode :=
  { endNode := byteAt r 0 == 1, len := byteAt r 1, lenOfs := byteAt r 2, lenMask := BitVec.ofNat 8 (byteAt r 3), lenScale := byteAt r 4
    selOfs := byteAt r 5, selBytes := byteAt r 6, default_ := byteAt r 7, actions := BitVec.ofNat 32 (leAt r 8 4) }

/-- A transition record (R382). -/
def transOf (r : Bytes) : ParseTrans :=
  { from_ := byteAt r 0, next := byteAt r 1, value := BitVec.ofNat 16 (leAt r 2 2), mask := BitVec.ofNat 16 (leAt r 4 2) }

/-- A parser payload (R381). -/
def parserOf (bs : Bytes) : ParseGraph :=
  { start := byteAt bs 4, nodes := (recs 16 (leAt bs 0 2) (bs.drop 16)).map nodeOf
    trans := (recs 8 (leAt bs 2 2) (bs.drop (16 + 16 * leAt bs 0 2))).map transOf }

/-- Nodes that a walk from the given ones can reach in at most n steps. -/
def reachGo (g : ParseGraph) : Nat → List Nat → List Nat
  | 0, l => l
  | n + 1, l =>
    let next (i : Nat) : List Nat :=
      let x := nth g.nodes i {}
      if x.endNode then [] else x.default_ :: (g.trans.filter (fun t => t.from_ == i)).map ParseTrans.next
    reachGo g n ((l ++ l.flatMap next).foldl (fun a x => if x ∈ a then a else a ++ [x]) [])

/-- A graph applies MARK_L2 (R383). -/
def marksL2 (g : ParseGraph) : Bool := (reachGo g g.nodes.length [g.start]).any (fun i => (nth g.nodes i {}).actions.toNat.testBit 0)

/-- A node record's own values (R381, R383). -/
def nodeChk (n : Nat) (r : Bytes) : List Chk :=
  [(0, decide (byteAt r 0 ≤ 1)), (6, decide (byteAt r 6 ≤ 2)), (7, byteAt r 0 == 1 || decide (byteAt r 7 < n)),
   (8, decide (leAt r 8 4 < 2 ^ 11))] ++ zeroAt r 0xC 4

/-- R381 to R383. -/
def parserChk (bs : Bytes) : List Chk :=
  let n := leAt bs 0 2
  let k := leAt bs 2 2
  let g := parserOf bs
  [(0, within 1 n 256), (2, decide (k ≤ 2048)), (4, decide (g.start < n) && marksL2 g)] ++ zeroAt bs 5 11
  ++ perRec 16 16 n bs (fun _ => nodeChk n)
  ++ perRec (16 + 16 * n) 8 k bs (fun j r =>
      [(0, decide (byteAt r 0 < n) && (j == 0 || decide ((nth g.trans (j - 1) {}).from_ ≤ byteAt r 0))), (1, decide (byteAt r 1 < n))]
      ++ zeroAt r 6 2)

/-- CONTENT codes (R209). -/
def contentOf (c : Nat) : Content :=
  match c with
  | 0 => .mac | 1 => .route4 | 2 => .route6 | 3 => .zone | 4 => .resv | 5 => .occ | _ => .spmean

/-- LODE_TABLES (R209). -/
def tableOf (r : Bytes) : TableDesc :=
  { id := byteAt r 0, lpm := byteAt r 1 == 1, content := contentOf (byteAt r 2), pipeMask := BitVec.ofNat 2 (byteAt r 3)
    keyBits := leAt r 4 2, entryBytes := byteAt r 6, sweep := leAt r 8 4, learnLimit := leAt r 0xC 4
    excess := if byteAt r 0x10 = 0 then .drop else if byteAt r 0x10 = 1 then .flood else .dropFlag }

/-- Descriptors of the payload. -/
def tablesOf (bs : Bytes) : List TableDesc := (recs 32 (bs.length / 32) bs).map tableOf

/-- KIND, KEY_BITS and ENTRY_BYTES that a CONTENT fixes, and that it may learn (R210). -/
def contentShape : Content → Bool × Nat × Nat × Bool
  | .mac => (false, 60, 32, true) | .route4 => (true, 32, 32, false) | .route6 => (true, 128, 64, false)
  | .zone => (true, 32, 32, false) | .resv => (true, 32, 64, false) | .occ => (false, 40, 32, true) | .spmean => (false, 16, 32, false)

/-- EXCESS suits the CONTENT (R210). -/
def excessSuits (c : Content) (x : Nat) : Bool :=
  match c with
  | .mac => decide (x ≤ 1) | .occ => x == 2 | _ => decide (x ≤ 2)

/-- R209 to R211: one descriptor after those before it. -/
def tableChk (before : List TableDesc) (r : Bytes) : List Chk :=
  let d := tableOf r
  let w := contentShape d.content
  let single := d.content == .zone || d.content == .resv || d.content == .occ || d.content == .spmean
  [(0, decide (d.id ≤ 0x3F) && before.all (fun b => b.id != d.id)), (1, decide (byteAt r 1 ≤ 1) && d.lpm == w.1),
   (2, decide (byteAt r 2 ≤ 6) && !(single && before.any (fun b => b.content == d.content))),
   (3, within 1 (byteAt r 3) 3 && !(d.content == .spmean && byteAt r 3 == 2)), (4, d.keyBits == w.2.1), (6, d.entryBytes == w.2.2.1),
   (7, byteAt r 7 == 0), (8, decide (d.sweep ≤ 360000) && (d.sweep != 0 || (d.learnLimit == 0 && d.content != .resv))),
   (0xC, w.2.2.2 || d.learnLimit == 0), (0x10, excessSuits d.content (byteAt r 0x10))] ++ zeroAt r 0x11 15

/-- LODE_PART (R41). -/
def ownerChk (bs : Bytes) : List Chk := (List.range 64).map (fun n => (n, within 0 (byteAt bs n) 0x3F || decide (0xFE ≤ byteAt bs n)))

/-- QUEUES (R390). -/
def queueOf (r : Bytes) : QueueCfg :=
  { cls := if byteAt r 1 = 0xFF then none else some (byteAt r 1), weight := byteAt r 2
    pause := if byteAt r 3 = 0xFF then none else some (byteAt r 3), high := leAt r 4 2, low := leAt r 6 2 }

/-- Bounds of DL0 to DL7 in µs (R390). -/
def boundsOf (bs : Bytes) : List Nat := [20] ++ (List.range 6).map (fun j => leAt bs (4 * j) 4) ++ [100000]

/-- R390. The other fields of an unused queue's record are not checked (assumption log 23). -/
def queuesChk (bs : Bytes) : List Chk :=
  let b := boundsOf bs
  (List.range 6).map (fun j => (4 * j, decide (nth b j 0 < nth b (j + 1) 0 ∧ nth b (j + 1) 0 < 100000))) ++ zeroAt bs 24 8
  ++ perRec 32 8 512 bs (fun k r =>
      let used := byteAt r 1 != 0xFF
      [(0, byteAt r 0 == k / 32), (1, !used || decide (byteAt r 1 ≤ 7)), (2, !used || byteAt r 2 != 0),
       (3, !used || decide (byteAt r 3 ≤ 7) || byteAt r 3 == 0xFF), (6, !used || decide (leAt r 6 2 < leAt r 4 2))])

/-- DISPATCH (R473). -/
def groupsOf (bs : Bytes) : List (Nat × BitVec 8) := (recs 4 16 bs).map (fun r => (byteAt r 0, BitVec.ofNat 8 (byteAt r 1)))

/-- R473. -/
def groupsChk (bs : Bytes) : List Chk := perRec 0 4 16 bs (fun _ r => [(0, byteAt r 0 != 0)] ++ zeroAt r 2 2)

/-- TIME (R589). -/
def timeChk (bs : Bytes) : List Chk :=
  [(0, within 1 (byteAt bs 0) 200), (1, within 1 (byteAt bs 1) 30), (2, decide (byteAt bs 2 ≤ 1)), (3, decide (byteAt bs 3 ≤ 15)),
   (4, within 1 (leAt bs 4 4) 500000)] ++ zeroAt bs 8 8

/-- RTK: one admission entry (R201). -/
def admissionAt (r : Bytes) : Admission :=
  { mach := byteAt r 0, rateHz := byteAt r 1, station := leAt r 2 2, qh := leAt r 4 2, qv := leAt r 6 2
    eui := BitVec.ofNat 64 (leAt r 8 8), srcMac := BitVec.ofNat 48 (leAt r 0x10 6) }

/-- The RTK payload (R201). -/
def rtkOf (bs : Bytes) : RtkCfg :=
  { stationId := leAt bs 0 2, msmSet := BitVec.ofNat 7 (byteAt bs 2), msmRate := byteAt bs 3, sta1006 := byteAt bs 4 == 1
    staPeriod := byteAt bs 5, antPeriod := byteAt bs 6, biasPeriod := byteAt bs 7, irH := byteAt bs 9, irV := byteAt bs 0xA
    irAmb := byteAt bs 0xB, plFloorH := leAt bs 0xC 2, plFloorV := leAt bs 0xE 2, ratioMin := leAt bs 0x10 2, minAmb := byteAt bs 0x12
    holdN := byteAt bs 0x13, ageMaxMs := leAt bs 0x14 2, collectMs := byteAt bs 0x16, staleMs := leAt bs 0x18 2
    codeA := leAt bs 0x1A 2, codeB := leAt bs 0x1C 2, phaseA := leAt bs 0x1E 2, phaseB := leAt bs 0x20 2, qcorr := leAt bs 0x22 2
    survMin := leAt bs 0x24 2 * 2, survAcc := leAt bs 0x26 2, confirmM := leAt bs 0x28 2, moveM := leAt bs 0x2A 2
    autoConfirm := (byteAt bs 0x2C).testBit 0, pcoU := signedOf 8 (byteAt bs 0x2D), pcoM := signedOf 8 (byteAt bs 0x2E)
    pcoL := signedOf 8 (byteAt bs 0x2F), ethDest := bytesAt bs 0x30 12, antDesc := bytesAt bs 0x40 32
    admitted := (recs 32 (leAt bs 0x60 2) (bs.drop 0x68)).map admissionAt }

/-- Every field of RTK at its default (R201). -/
def rtkDefault : RtkCfg :=
  { msmSet := 0x7F, msmRate := 1, staPeriod := 10, antPeriod := 30, biasPeriod := 10, irH := 7, irV := 7, irAmb := 7, ratioMin := 0x300
    minAmb := 5, holdN := 5, ageMaxMs := 200, collectMs := 20, staleMs := 200, codeA := 300, codeB := 300, phaseA := 30, phaseB := 30
    qcorr := 200, survMin := 300, survAcc := 1000, confirmM := 50, moveM := 100, autoConfirm := true
    ethDest := List.replicate 12 0, antDesc := List.replicate 32 0 }

/-- Rates that an entry may name (R201). -/
def machRates : List Nat := [1, 2, 4, 5, 10, 20]

/-- R201 and R181, at a base epoch rate of hz. -/
def rtkChk (hz : Nat) (bs : Bytes) : List Chk :=
  let x := rtkOf bs
  [(0, decide (x.stationId ≤ 4095)), (2, decide (byteAt bs 2 ≤ 0x7F)), (3, [1, 2, 5, 10].contains x.msmRate && hz % max 1 x.msmRate == 0),
   (4, decide (byteAt bs 4 ≤ 1)), (5, within 1 x.staPeriod 60), (8, decide (byteAt bs 8 ≤ 7)), (9, within 5 x.irH 9), (0xA, within 5 x.irV 9),
   (0xB, within 5 x.irAmb 9), (0xC, decide (x.plFloorH ≤ 1000)), (0xE, decide (x.plFloorV ≤ 1000)), (0x10, within 0x180 x.ratioMin 0x1400),
   (0x12, within 4 x.minAmb 20), (0x13, decide (x.holdN ≤ 50)), (0x14, within 20 x.ageMaxMs 900), (0x16, within 5 x.collectMs 50),
   (0x17, byteAt bs 0x17 == 0), (0x18, within 50 x.staleMs 2000), (0x24, within 60 x.survMin 86400), (0x26, within 10 x.survAcc 10000),
   (0x2C, decide (byteAt bs 0x2C ≤ 3))] ++ zeroAt bs 0x3C 4 ++ [(0x60, decide (x.admitted.length ≤ 128))] ++ zeroAt bs 0x62 6
  ++ perRec 0x68 32 x.admitted.length bs (fun k r =>
      let a := admissionAt r
      let before := x.admitted.take k
      [(0, decide (a.mach ≤ 127) && before.all (fun b => b.mach != a.mach)),
       (1, machRates.contains a.rateHz && hz % max 1 a.rateHz == 0 && decide ((before.map Admission.rateHz).sum + a.rateHz ≤ 2560)),
       (2, decide (a.station ≤ 4095) && a.station != x.stationId && before.all (fun b => b.station != a.station))]
      ++ zeroAt r 0x16 10)

/-- GRID: one footprint and one zone record (R277). -/
def footprintOf (r : Bytes) : Footprint := { halfWidth := leAt r 0 2, front := leAt r 2 2, rear := leAt r 4 2 }

/-- A zone record (R277). -/
def zoneOf (r : Bytes) : Zone :=
  { level := byteAt r 0, cls := byteAt r 1, id := leAt r 2 2, prefix_ := BitVec.ofNat 32 (leAt r 4 4), attr := BitVec.ofNat 32 (leAt r 8 4) }

/-- The GRID payload but for its zones (R277). -/
def gridOf (bs : Bytes) : GridCfg :=
  { resvLevel := byteAt bs 0, occLevel := byteAt bs 1, occLimit := leAt bs 2 2, horizonS := leAt bs 4 2, lapseMs := leAt bs 6 2
    prints := (recs 8 128 (bs.drop 0x10)).map footprintOf }

/-- The zone records (R277). -/
def zonesOf (bs : Bytes) : List Zone := (recs 16 (leAt bs 8 2) (bs.drop 0x410)).map zoneOf

/-- Every field of GRID at its default (R277). -/
def gridDefault : GridCfg :=
  { resvLevel := 13, occLevel := 11, occLimit := 1024, horizonS := 30, lapseMs := 10000
    prints := List.replicate 128 { halfWidth := 2000, front := 2000, rear := 2000 } }

/-- SETPT: one class record (R280, R305). -/
def classAt (r : Bytes) : SpClass :=
  { vFwd := leAt r 0 2, vRev := leAt r 2 2, aMax := leAt r 4 2, dNorm := leAt r 6 2, dAnneal := leAt r 8 2, dHard := leAt r 0xA 2
    jMax := leAt r 0xC 2, latA := leAt r 0xE 2, lookMs := leAt r 0x10 2, catchup := leAt r 0x12 2, slipMm := leAt r 0x14 2
    revOps := BitVec.ofNat 8 (byteAt r 0x16) }

/-- The SETPT payload (R305). -/
def setptOf (bs : Bytes) : SpCfg :=
  { ethRate := byteAt bs 1, odoStaleMs := leAt bs 2 2, stillMs := leAt bs 4 2, stillMmS := leAt bs 6 2, odoUdp := leAt bs 8 2
    ethDest := bytesAt bs 0x10 12, classes := (recs 32 (byteAt bs 0) (bs.drop 0x20)).map classAt
    machs := (recs 2 128 (bs.drop 0x220)).map (fun r => (if byteAt r 0 = 0xFF then none else some (byteAt r 0), BitVec.ofNat 2 (byteAt r 1))) }

/-- Every field of SETPT at its default; no machine has a class (R305). -/
def setptDefault : SpCfg :=
  { odoStaleMs := 100, stillMs := 1000, stillMmS := 50, ethDest := List.replicate 12 0, machs := List.replicate 128 (none, 0) }

/-- R305. -/
def setptChk (bs : Bytes) : List Chk :=
  let x := setptOf bs
  [(0, within 1 (byteAt bs 0) 16), (1, [0, 10, 20, 25, 50, 100].contains x.ethRate), (2, within 20 x.odoStaleMs 1000),
   (4, within 100 x.stillMs 5000), (6, within 5 x.stillMmS 500)] ++ zeroAt bs 0xA 6 ++ zeroAt bs 0x1C 4
  ++ perRec 0x20 32 (byteAt bs 0) bs (fun _ r =>
      let c := classAt r
      [(0, decide (c.vFwd ≤ 32512)), (2, decide (c.vRev ≤ 32512)), (6, decide (c.dNorm ≤ c.dAnneal)), (8, decide (c.dAnneal ≤ c.dHard)),
       (0xC, decide (100 ≤ c.jMax))] ++ zeroAt r 0x17 9)
  ++ perRec 0x220 2 128 bs (fun _ r => [(0, byteAt r 0 == 0xFF || decide (byteAt r 0 < byteAt bs 0)), (1, decide (byteAt r 1 ≤ 3))])

/-- USE codes of a slot-plan entry (R350). -/
def useOf (u : Nat) : SlotUse :=
  match u with
  | 1 => .corr | 2 => .down | 3 => .up | 4 => .poll | 5 => .rendezvous | _ => .idle

/-- A slot plan (R350). -/
def planOf (bs : Bytes) : List (SlotUse × BitVec 16) := (recs 4 100 bs).map (fun r => (useOf (byteAt r 0), BitVec.ofNat 16 (leAt r 2 2)))

/-- A chain record with its plan (R350). -/
def chainOf (r plan : Bytes) : ChainCfg :=
  { en := byteAt r 0 == 1, band := byteAt r 1, mode := byteAt r 2, beaconDiv := byteAt r 3, gang := (byteAt r 4).testBit 0
    stop := (byteAt r 4).testBit 1, corr := (byteAt r 4).testBit 2, nodes := (byteAt r 4).testBit 3, parentRx := (byteAt r 4).testBit 4
    plan := planOf plan }

/-- Chain c's record in the RADIO payload. -/
def chainRec (bs : Bytes) (c : Nat) : Bytes := bytesAt bs (0x20 + 16 * c) 16

/-- Chain c of the RADIO payload. -/
def chainIn (bs : Bytes) (c : Nat) : ChainCfg := chainOf (chainRec bs c) (bytesAt bs (0x50 + 400 * c) 400)

/-- A node record (R350). -/
def radioNode (r : Bytes) : Node :=
  { addr := BitVec.ofNat 16 (leAt r 0 2), chain := byteAt r 2, slot := byteAt r 3, periodLog2 := byteAt r 4, phase := byteAt r 5
    eui := BitVec.ofNat 64 (leAt r 8 8) }

/-- The RADIO payload's nodes. -/
def nodesOf (bs : Bytes) : List Node := (recs 16 (leAt bs 0xE 2) (bs.drop 0x600)).map radioNode

/-- Bands and PHY modes of a chain (R306). -/
def chainSuits (c band mode : Nat) : Bool := if c < 2 then within 1 band 2 && decide (mode ≤ 5) else band == 3 && within 3 mode 6

/-- BEACON_DIV values (R316). -/
def beaconDivs : List Nat := [1, 2, 4, 5, 10, 20, 25, 50, 100]

/-- What R313 refuses of a chain's roles and plan. -/
def rolesFit (x : ChainCfg) : Bool :=
  !(x.stop && decide (1000 < airtime x.mode 21)) && !(x.gang && decide (9600 < gangEnd x)) &&
  (hasShared x || !(x.corr || x.nodes || x.plan.any (fun e => e.1 != .idle)))

/-- An enabled chain's record (R306, R313, R316). -/
def chainChk (bs : Bytes) (c : Nat) (permit : Bool) : List Chk :=
  let r := chainRec bs c
  let x := chainIn bs c
  let o := 0x20 + 16 * c
  let prx := (List.range c).any (fun k => (chainIn bs k).parentRx)
  [(o, decide (byteAt r 0 ≤ 1)), (o + 1, !x.en || chainSuits c x.band x.mode), (o + 3, permit && (!x.en || beaconDivs.contains x.beaconDiv)),
   (o + 4, decide (byteAt r 4 ≤ 0x1F) && (!x.en || rolesFit x) && !(x.parentRx && (prx || byteAt bs 0x18 == 0xFF))),
   (o + 6, decide (byteAt r 6 ≤ 1))] ++ (zeroAt r 7 9).map (fun c => (o + c.1, c.2))

/-- A chain's slot plan (R329, R350); owners holds the short addresses that map to a known EUI. -/
def planChk (owners : Nat → Bool) (bs : Bytes) (c : Nat) : List Chk :=
  let x := chainIn bs c
  perRec (0x50 + 400 * c) 4 100 bs (fun j r =>
    [(0, decide (byteAt r 0 ≤ 5) && !(j == 0 && x.nodes && byteAt r 0 != 5)), (1, byteAt r 1 == 0),
     (2, if byteAt r 0 = 3 then owners (leAt r 2 2) else leAt r 2 2 == 0)])

/-- A node record (R319, R334). -/
def radioNodeChk (bs : Bytes) (before : List Node) (r : Bytes) : List Chk :=
  let n := radioNode r
  let x := chainIn bs n.chain
  [(0, within 1 n.addr.toNat 0xFDFF && before.all (fun b => b.addr != n.addr)), (2, decide (n.chain ≤ 2) && x.en && x.nodes),
   (3, decide (n.slot < 100) && (nth x.plan n.slot (.idle, 0)).1 == .poll), (4, decide (n.periodLog2 ≤ 6)),
   (5, decide (n.phase < 2 ^ n.periodLog2) && before.all (fun b => !nodesClash b n))] ++ zeroAt r 6 2

/-- R350, with R306, R311, R313, R316, R329 and R334. -/
def radioChk (owners : Nat → Bool) (bs : Bytes) : List Chk :=
  let permit := (List.range 3).any (fun c => (chainIn bs c).en && (chainIn bs c).beaconDiv == 1)
  [(0, leAt bs 0 8 % 10 ^ 7 == 0), (8, decide (byteAt bs 8 ≤ 1)), (9, decide (byteAt bs 9 ≤ 3)), (0xB, decide (byteAt bs 0xB ≤ 16)),
   (0xC, within 20 (leAt bs 0xC 2) 1000), (0xE, decide (leAt bs 0xE 2 ≤ 2048)),
   (0x18, decide (byteAt bs 0x18 ≤ 2) || byteAt bs 0x18 == 0xFF), (0x19, decide (byteAt bs 0x19 ≤ 1))] ++ zeroAt bs 0x1A 6
  ++ chainChk bs 0 permit ++ chainChk bs 1 true ++ chainChk bs 2 true
  ++ (List.range 3).flatMap (planChk owners bs)
  ++ perRec 0x500 16 16 bs (fun p r => (if p < byteAt bs 0xB then [] else zeroAt r 0 8) ++ zeroAt r 8 8)
  ++ perRec 0x600 16 (leAt bs 0xE 2) bs (fun k r => radioNodeChk bs ((nodesOf bs).take k) r)

/-- HOPS: one band record (R351). -/
def hopOf (r : Bytes) : HopBand :=
  { band := byteAt r 0, chCount := byteAt r 1, f0 := leAt r 4 4, spacing := leAt r 8 4, hops := (bytesAt r 16 (min 64 (byteAt r 2))).map BitVec.toNat }

/-- The HOPS payload's bands. -/
def hopsOf (bs : Bytes) : List HopBand := (recs 80 (byteAt bs 3) (bs.drop 32)).map hopOf

/-- Edges of a band in kHz (R306). -/
def bandEdges (b : Nat) : Nat × Nat := if b = 1 then (863000, 870000) else if b = 2 then (902000, 928000) else (2400000, 2483500)

/-- Every channel, widened by half its spacing, stays in its band (R308). -/
def planFits (h : HopBand) : Bool :=
  let e := bandEdges h.band
  decide (2 * e.1 + h.spacing ≤ 2 * h.f0 ∧ 2 * (h.f0 + (h.chCount - 1) * h.spacing) + h.spacing ≤ 2 * e.2)

/-- R308, R312, R351. -/
def hopsChk (bs : Bytes) : List Chk :=
  zeroAt bs 4 28 ++ perRec 32 80 (byteAt bs 3) bs (fun k r =>
    let h := hopOf r
    [(0, within 1 h.band 3 && ((hopsOf bs).take k).all (fun b => b.band != h.band)), (1, h.chCount != 0), (2, within 1 (byteAt r 2) 64),
     (3, byteAt r 3 == 0), (4, planFits h)] ++ zeroAt r 0xC 4
    ++ (List.range h.hops.length).map (fun j => (16 + j, decide (nth h.hops j 0 < h.chCount) && !(h.hops.take j).contains (nth h.hops j 0))))

/-- LEDGER: band records from an offset on (R352). -/
def ledgerGo : Nat → Bytes → List LedgerBand
  | 0, _ => []
  | k + 1, bs =>
    let n := byteAt bs 1
    { band := byteAt bs 0, limit := leAt bs 2 2, q := leAt bs 4 2, f := leAt bs 6 2
      subs := (recs 8 n (bs.drop 8)).map (fun r => (byteAt r 0, byteAt r 1, leAt r 2 2)) } :: ledgerGo k (bs.drop (8 + 8 * n))

/-- Length of k band records. -/
def ledgerLen : Nat → Bytes → Nat
  | 0, _ => 0
  | k + 1, bs => 8 + 8 * byteAt bs 1 + ledgerLen k (bs.drop (8 + 8 * byteAt bs 1))

/-- The checks of k band records, whose first stands at an offset (R352). -/
def ledgerRecChk : Nat → Nat → List Nat → Bytes → List Chk
  | 0, _, _, _ => []
  | k + 1, o, seen, bs =>
    let n := byteAt bs 1
    [(o, within 1 (byteAt bs 0) 3 && !seen.contains (byteAt bs 0)), (o + 1, decide (n ≤ 8))]
    ++ (perRec 8 8 n bs (fun _ r => [(1, decide (byteAt r 0 ≤ byteAt r 1))] ++ zeroAt r 4 4)).map (fun c => (o + c.1, c.2))
    ++ ledgerRecChk k (o + 8 + 8 * n) (byteAt bs 0 :: seen) (bs.drop (8 + 8 * n))

/-- R339, R352. -/
def ledgerChk (bs : Bytes) : List Chk :=
  [(0, within 60 (leAt bs 0 2) 3600)] ++ zeroAt bs 3 13 ++ ledgerRecChk (byteAt bs 2) 16 [] (bs.drop 16)

/-- ASSAY: a quantity and a channel record (R538). -/
def quantityAt (r : Bytes) : Quantity :=
  { source := if byteAt r 0 = 1 then .fwd else if byteAt r 0 = 2 then .rev else if byteAt r 0 = 3 then .net else .off
    gain := BitVec.ofNat 32 (leAt r 4 4), offset := BitVec.ofNat 64 (leAt r 8 8) }

/-- A channel record's mode (R521). -/
def asModeOf (m : Nat) : AsMode := if m = 1 then .single else if m = 2 then .quad else .off

/-- Channel records of the ASSAY payload. -/
def assayRecs (bs : Bytes) : List Bytes := recs 72 16 (bs.drop 0x10)

/-- R538 and check 11 of R47; other is the mask of B pins that IOCTL gives another function. -/
def assayChk (other : Nat) (bs : Bytes) : List Chk :=
  [(0, within 100 (leAt bs 0 2) 60000), (2, decide (leAt bs 2 2 ≤ 3600)), (4, leAt bs 4 4 == 0 || within 60 (leAt bs 4 4) 86400)]
  ++ zeroAt bs 8 8 ++ perRec 0x10 72 16 bs (fun n r =>
      [(0, decide (byteAt r 0 ≤ 2) && !(byteAt r 0 == 2 && other.testBit n)), (1, decide (byteAt r 1 ≤ 3)), (2, within 20 (leAt r 2 2) 20000)]
      ++ zeroAt r 4 4 ++ perRec 8 16 4 r (fun _ q =>
        [(0, decide (byteAt q 0 ≤ 3))] ++ zeroAt q 1 3 ++ [(4, byteAt q 0 == 0 || leAt q 4 4 != 0)]))

/-- STRATA: a summary selector (R543). -/
def selOf (r : Bytes) : StSel :=
  { code := BitVec.ofNat 16 (leAt r 0 2), pflags := BitVec.ofNat 8 (byteAt r 2), shift := byteAt r 3, base := BitVec.ofNat 32 (leAt r 4 4) }

/-- R543. -/
def strataChk (bs : Bytes) : List Chk :=
  [(0, leAt bs 0 4 % 1024 == 0 && within 1024 (leAt bs 0 4) 65536), (4, within 12 (byteAt bs 4) 18), (5, decide (byteAt bs 5 ≤ 64))]
  ++ zeroAt bs 6 10 ++ perRec 0x10 8 (byteAt bs 5) bs (fun _ r =>
      [(2, decide (byteAt r 2 ≤ 7 ∧ byteAt r 2 % 4 ≤ 2)), (3, decide (byteAt r 3 ≤ 31))])

/-- GEODE_POLICY (R517). -/
def policyOf (bs : Bytes) : List (Nat × BitVec 32) :=
  (recs 8 (leAt bs 0 2) (bs.drop 8)).foldl (fun l r => kset l (byteAt r 0) (BitVec.ofNat 32 (leAt r 4 4))) []

/-- R501, R517. -/
def policyChk (bs : Bytes) : List Chk :=
  zeroAt bs 2 6 ++ perRec 8 8 (leAt bs 0 2) bs (fun _ r =>
    [(0, decide (byteAt r 0 ≤ 127))] ++ zeroAt r 1 3 ++ [(4, decide (leAt r 4 4 < 2 ^ 27) && within 1 (bitsOf (leAt r 4 4) 5 2) 4)])

/-- One wrapped key record: SLOT, KEK, and the wrap (R517). -/
def wrapRecs (bs : Bytes) : List (Nat × Nat × Bytes) :=
  (recs 72 (leAt bs 0 2) (bs.drop 8)).map (fun r => (byteAt r 0, byteAt r 1, bytesAt r 8 (min 64 (byteAt r 2))))

/-- The form of the records; their keys are tried by `wrapsFault`. -/
def wrapsChk (bs : Bytes) : List Chk :=
  zeroAt bs 2 6 ++ perRec 8 72 (leAt bs 0 2) bs (fun _ r =>
    [(0, decide (byteAt r 0 ≤ 127)), (1, decide (byteAt r 1 ≤ 127) || byteAt r 1 == 0xFF), (2, within 32 (byteAt r 2) 64)] ++ zeroAt r 3 5
    ++ zeroAt r (8 + min 64 (byteAt r 2)) (64 - min 64 (byteAt r 2)))

/-- R434. -/
def twinChk (bs : Bytes) : List Chk :=
  [(0, decide (byteAt bs 0 ≤ 1)), (1, decide (byteAt bs 1 ≤ 0x3F) && (byteAt bs 1).testBit 4 && (byteAt bs 1).testBit 2),
   (2, within 2 (leAt bs 2 2) 100)] ++ zeroAt bs 4 12

/-- REGINIT pairs: offset and value (R43). -/
def pairsOf (bs : Bytes) : List (Nat × Word) :=
  (recs 8 (bs.length / 8) bs).map (fun r => (leAt r 0 3, BitVec.ofNat 32 (leAt r 4 4)))

/-- A payload has a length that its layout can take. -/
def lengthSuits (t : Nat) (bs : Bytes) : Bool :=
  let n := bs.length
  match t with
  | 0x01 => n == 256
  | 0x02 | 0x03 => decide (16 ≤ n) && n == 16 + 16 * leAt bs 0 2 + 8 * leAt bs 2 2
  | 0x10 => n == 64
  | 0x11 => n % 32 == 0
  | 0x20 => n == 4128
  | 0x30 => n == 64
  | 0x40 => n == 16
  | 0x51 => decide (0x68 ≤ n) && n == 0x68 + 32 * leAt bs 0x60 2
  | 0x60 => decide (0x410 ≤ n) && n == 0x410 + 16 * leAt bs 8 2
  | 0x61 => n == 0x320
  | 0x70 => decide (0x600 ≤ n) && n == 0x600 + 16 * leAt bs 0xE 2
  | 0x71 => decide (32 ≤ n) && n == 32 + 80 * byteAt bs 3
  | 0x72 => decide (16 ≤ n) && n == 16 + ledgerLen (byteAt bs 2) (bs.drop 16)
  | 0x80 => n == 1168
  | 0x90 => n == 528
  | 0xA0 => n == 8 + 8 * leAt bs 0 2
  | 0xA1 => n == 8 + 72 * leAt bs 0 2
  | 0xB0 => n == 16
  | _ => true

end Sys2Proof.Machine
end

