-- ==== Sys2Proof/Machine/ImageChk.lean ====
section
/-! DEFINITION. ImageChk.lean: checks 10 to 12 of an image: the gather types, the values that must agree across gathers, and
the fixed gathers of a re-forming (02_parison_image.md R41 to R43, R47, R61 to R64). -/

namespace Sys2Proof.Machine

open Sys2Proof

/-- The gather types (R41): TYPE, required, re-formable. -/
def gatherTypes : List (Nat × Bool × Bool) :=
  [(0x01, true, false), (0x02, true, false), (0x03, true, false), (0x10, true, false), (0x11, true, false), (0x20, true, false),
   (0x30, false, true), (0x40, false, true), (0x50, false, true), (0x51, false, true), (0x60, false, true), (0x61, false, true),
   (0x70, false, false), (0x71, false, true), (0x72, false, true), (0x80, false, true), (0x90, false, false), (0xA0, false, false),
   (0xA1, false, false), (0xB0, false, false), (0xF0, false, true)]

/-- A TYPE of the table. -/
def knownType (t : Nat) : Bool := gatherTypes.any (fun x => x.1 == t)

/-- A TYPE that the table makes re-formable (R40). -/
def reformable (t : Nat) : Bool := gatherTypes.any (fun x => x.1 == t && x.2.2)

/-- The first required TYPE that an image lacks (R42). -/
def missingType (l : List Gather) : Option Nat :=
  ((gatherTypes.filter (fun x => x.2.1)).find? (fun x => l.all (fun g => g.type != x.1))).map Prod.fst

/-- The payload of a type. -/
def payOf (l : List Gather) (t : Nat) : Option Bytes := (l.find? (fun g => g.type == t)).map Gather.payload

/-- Gathers of an image laid over those in force, by TYPE (R61, R62). -/
def overlay (old new : List Gather) : List Gather :=
  sortBy (fun a b => decide (a.type ≤ b.type)) (old.filter (fun g => new.all (fun x => x.type != g.type)) ++ new)

/-- Registers that a REGINIT pair may address, as first offset, stride, count and the bits that are not reserved (R43). -/
def initRegsA : List (Nat × Nat × Nat × Nat) :=
  [(0x010008, 4, 2, 0xFFFFFFFF), (0x010010, 4, 1, 0xFFFFFF), (0x010014, 4, 1, 3), (0x010040, 4, 1, 7), (0x000010, 4, 1, 0x80000003),
   (0x000020, 4, 1, 0x1F), (0x000048, 4, 2, 0xFFFFFFFF), (0x000050, 4, 1, 0x3FF), (0x000054, 4, 1, 0xFFFF007F), (0x000058, 4, 1, 0xFFFFFFFF),
   (0x020000, 4, 1, 0x80000039), (0x020030, 4, 1, 0xFFFF), (0x020040, 0x20, 2, 0xE0000003), (0x020044, 0x20, 2, 0xFFFFFFFF),
   (0x02005C, 0x20, 2, 0xFFFF), (0x020080, 4, 1, 0x80FFFFFF), (0x020084, 4, 1, 0xFFFF), (0x0200A0, 8, 4, 0xFFFFFFFF),
   (0x0200C0, 4, 1, 0x3FF), (0x0200C8, 4, 1, 7), (0x0200E0, 4, 1, 0x80000000), (0x020100, 4, 12, 0xFFFFFFFF), (0x030020, 4, 1, 0x33),
   (0x030038, 4, 1, 0x3FFFFFF), (0x030040, 4, 1, 0x3F), (0x030050, 4, 1, 0x8FFFFFFF), (0x030054, 4, 3, 0xFFFFFFFF), (0x030070, 4, 1, 0x1FF),
   (0x030094, 4, 1, 0xFF), (0x040010, 4, 6, 0xFFFFFFFF), (0x040034, 4, 1, 0xFFFFF007), (0x040070, 4, 1, 0x8000000F), (0x040080, 4, 1, 0x7F),
   (0x040094, 4, 1, 0x3F), (0x050000, 4, 1, 0x80000003), (0x050008, 4, 1, 0x3F), (0x050010, 4, 1, 0x13F), (0x050020, 4, 1, 0x13FFF),
   (0x050034, 4, 1, 0x3FFFFF), (0x050040, 4, 1, 0x10F), (0x050054, 4, 1, 0x3F)]

/-- The registers of the grid to the twin. -/
def initRegsB : List (Nat × Nat × Nat × Nat) :=
  [(0x060000, 4, 1, 0x80000001), (0x060020, 4, 6, 0xFFFFFFFF), (0x060040, 4, 1, 0x7F), (0x060050, 4, 1, 0xF), (0x060064, 4, 1, 0x7F),
   (0x070000, 4, 1, 0x80000003), (0x070010, 4, 1, 0x7F), (0x070050, 4, 1, 7), (0x070064, 4, 1, 0x3F), (0x080000, 4, 1, 0x80000003),
   (0x080020, 4, 1, 3), (0x080034, 4, 1, 0x800000FF), (0x080038, 4, 1, 0xE000FFFF), (0x08003C, 4, 1, 0x7F7F7F), (0x080040, 4, 1, 0x3F),
   (0x080060, 4, 1, 0x7FF), (0x08006C, 4, 2, 0xFFFFFFFF), (0x080074, 4, 1, 0x7F373F), (0x080090, 4, 1, 0x30F), (0x0800A4, 4, 1, 0x3FF),
   (0x090000, 4, 1, 0x80000003), (0x090030, 4, 4, 0xFFFFFFFF), (0x090050, 4, 1, 0xFF), (0x090054, 4, 1, 0xFFFF0FFF), (0x090058, 4, 1, 0xFFFFFFFF),
   (0x09005C, 4, 1, 0xFFFF), (0x090070, 4, 1, 0xF), (0x090084, 4, 1, 0xFF), (0x0A0000, 4, 1, 0x80000001), (0x0A0010, 4, 1, 0xF),
   (0x0A001C, 4, 1, 0x80000000), (0x0A0020, 4, 1, 0xF), (0x0A0030, 4, 1, 0x1F0F), (0x0A0044, 4, 1, 7), (0x0A0094, 4, 1, 0x3F),
   (0x0B0000, 4, 1, 0x80000001), (0x0B001C, 4, 1, 0x7F7F), (0x0B0030, 4, 1, 0xF), (0x0B0044, 4, 1, 0xFF)]

/-- The registers of FAULT to IOCTL. -/
def initRegsC : List (Nat × Nat × Nat × Nat) :=
  [(0x0C0000, 4, 1, 0x8000000F), (0x0C0020, 4, 1, 0x1FFF), (0x0C0040, 4, 1, 7), (0x0C0054, 4, 1, 0x1F), (0x0D0000, 4, 1, 0x800000FF),
   (0x0D0008, 4, 2, 0xFFFFFFFF), (0x0D0010, 4, 1, 0xFF), (0x0D0040, 4, 16, 0xFFFF), (0x0D0300, 4, 16, 0xFFFFFFFF), (0x0E000C, 4, 1, 0xF0F),
   (0x0E0024, 4, 1, 0xF), (0x0E0030, 4, 1, 7), (0x0E0118, 0x40, 9, 0xFFFFFFFF), (0x0E0120, 0x40, 9, 0xFFFFFFFF), (0x0E0124, 0x40, 9, 0xF),
   (0x0E0128, 0x40, 9, 0xF), (0x0E0800, 0x40, 16, 0xFFFFFFFF), (0x0E0804, 0x40, 16, 0xFFFFFFFF), (0x0E0808, 0x40, 16, 0x8F00000F),
   (0x0E080C, 0x40, 16, 0xFFFFFFFF), (0x0E0C00, 0x40, 16, 0xFFFFFFFF), (0x0E0C04, 0x40, 16, 0xFFFFFFFF), (0x0E0C08, 0x40, 16, 0xCFFFFFFF),
   (0x0E0C0C, 0x40, 16, 0xFFFFFFFF), (0x0E0C14, 0x40, 16, 0xFFFFFFFF), (0x0E0C18, 0x40, 16, 0xFFFFFFFF), (0x0E0C1C, 0x40, 16, 0xFFFFFF00),
   (0x0E0C20, 0x40, 16, 0xFFFF), (0x0F0090, 4, 1, 0x7F), (0x0F0140, 4, 1, 7), (0x0F0150, 4, 1, 3), (0x0F0164, 4, 1, 0xF), (0x100008, 4, 1, 0xF),
   (0x100014, 4, 1, 0x80000000), (0x100070, 4, 1, 0xFFFFFFFF), (0x1000A4, 4, 1, 0x3F), (0x110000, 4, 1, 0x8000000F), (0x11002C, 4, 1, 0x3F),
   (0x110034, 4, 1, 0x1F), (0x120010, 4, 3, 0xFFFFFFFF), (0x12001C, 4, 2, 0xFFFFFF), (0x120028, 4, 1, 0xFFFFFF), (0x120030, 4, 1, 0xFFFF),
   (0x120038, 4, 1, 0xFF), (0x120050, 0x10, 2, 0xF800FFFF), (0x120070, 4, 1, 0x8000007F), (0x120084, 4, 1, 7)]

/-- The bits of an eligible register that are not reserved; none of another. -/
def initMask (off : Nat) : Option Nat :=
  ((initRegsA ++ initRegsB ++ initRegsC).find? (fun r =>
    decide (r.1 ≤ off) && (off - r.1) % r.2.1 == 0 && decide ((off - r.1) / r.2.1 < r.2.2.1))).map (fun r => r.2.2.2)

/-- REGINIT (R43). -/
def initChk (bs : Bytes) : List Chk :=
  perRec 0 8 (bs.length / 8) bs (fun _ r =>
    match initMask (leAt r 0 3) with
    | none => [(0, false)]
    | some m => [(3, byteAt r 3 == 0), (4, decide (leAt r 4 4 &&& (0xFFFFFFFF - m) = 0))])

/-- What a register will hold once an image's own REGINIT pairs have acted on it; an image without REGINIT leaves it (R43, R61). -/
def afterInit (s : State) (image : List Gather) (off : Nat) : Word :=
  (((payOf image 0xF0).map pairsOf).getD []).foldl (fun w p =>
    if p.1 = off then (match regRow off with | some r => writtenWord r (locked s off) w p.2 | none => w) else w) (regWord s off)

/-- The base epoch rate of the gathers (R152). -/
def gnssRate (l : List Gather) : Nat := match payOf l 0x50 with | some bs => (Config.gnssOf bs).rateHz | none => 10

/-- Epoch rates of R152. -/
def epochRates : List Nat := [1, 2, 4, 5, 10, 20, 25, 50, 100]

/-- GNSS values that have a range: the signals are those of R137 and no others (R137, R139, R144, R152). -/
def gnssFits (g : GnssCfg) : Bool :=
  epochRates.contains g.rateHz && within 1 g.spacing 40 && !(g.aOnly && g.spoofEn) && g.signals.all sigCodes.contains

/-- Ports of the PORTS gather. -/
def portsIn (l : List Gather) : List PortCfg := match payOf l 0x01 with | some bs => (recs 16 16 bs).map portOf | none => []

/-- An internal port is enabled while a gather that feeds it is present (R378). -/
def fedPorts (l : List Gather) : List Chk :=
  let p := portsIn l
  let en (n : Nat) : Bool := (nth p n {}).en
  [(16 * 14, en 14 || (payOf l 0x70).isNone), (16 * 15, en 15 || ((payOf l 0x51).isNone && (payOf l 0x61).isNone))]

/-- Descriptors of the LODE_TABLES gather. -/
def tablesIn (l : List Gather) : List TableDesc := match payOf l 0x11 with | some bs => tablesOf bs | none => []

/-- A bank names a table of LODE_TABLES (R47). -/
def ownersKnown (l : List Gather) (bs : Bytes) : List Chk :=
  (List.range 64).map (fun n => (n, decide (0x3F < byteAt bs n) || (tablesIn l).any (fun d => d.id == byteAt bs n)))

/-- Banks that LODE_PART gives to an owner, ascending (R206). -/
def banksOf (l : List Gather) (owner : Nat) : List Nat :=
  match payOf l 0x10 with | some bs => (List.range 64).filter (fun n => byteAt bs n == owner) | none => []

/-- Banks of a table's instance in a pipeline (R206). -/
def instBanks (l : List Gather) (d : TableDesc) (pipe : Bool) : List Nat :=
  let b := banksOf l d.id
  if ¬ d.pipeMask.toNat.testBit (b2n pipe) then []
  else if d.pipeMask = 3 then (if pipe then b.drop (b.length / 2) else b.take (b.length / 2))
  else b

/-- The sum of buckets over sweep period in seconds of a pipeline's swept instances is at most 16,000,000 (R211). -/
def sweepFits (l : List Gather) (ds : List TableDesc) (pipe : Bool) : Bool :=
  let t := (ds.filter (fun d => d.sweep != 0)).foldl (fun (x : Nat × Nat) d =>
    (x.1 * d.sweep + (instBanks l d pipe).length * 8192 * 100 * x.2, x.2 * d.sweep)) (0, 1)
  decide (t.1 ≤ 16000000 * t.2)

/-- What the partition must give the tables (R206, R211). -/
def tablesFit (l : List Gather) : List Chk :=
  let ds := tablesIn l
  (List.range ds.length).flatMap (fun k =>
    match ds[k]? with
    | none => []
    | some d =>
      [(32 * k + 3, !(d.pipeMask == 3) || (banksOf l d.id).length % 2 == 0),
       (32 * k + 8, sweepFits l (ds.take (k + 1)) false && sweepFits l (ds.take (k + 1)) true)])

/-- LODE_TABLES: each descriptor after those before it. -/
def descsChk (bs : Bytes) : List Chk := perRec 0 32 (bs.length / 32) bs (fun k r => tableChk ((tablesOf bs).take k) r)

/-- Queues map to enabled ports, and each enabled port of 0 to 11 has a DL0 queue (R47, R390). -/
def queuesFit (l : List Gather) (bs : Bytes) : List Chk :=
  let p := portsIn l
  let qs := (recs 8 512 (bs.drop 32)).map queueOf
  let cls (k : Nat) : Option Nat := (nth qs k {}).cls
  (List.range 512).map (fun k => (32 + 8 * k + 1, (cls k).isNone || (nth p (k / 32) {}).en))
  ++ (List.range 12).map (fun n => (32 + 256 * n + 1, !(nth p n {}).en || (List.range 32).any (fun j => cls (32 * n + j) == some 0)))

/-- The machines of the RTK gather. -/
def admittedIn (l : List Gather) : List Admission := match payOf l 0x51 with | some bs => (rtkOf bs).admitted | none => []

/-- SIGN_EN needs a SIGN_MSG of 4001 to 4095 (R177). -/
def signFits (s : State) (l : List Gather) (bs : Bytes) : Bool :=
  !(byteAt bs 0x2C).testBit 1 || within 4001 (fld (afterInit s l 0x040034) 23 12) 4095

/-- Some number below n satisfies a test. -/
def anyBelow (p : Nat → Bool) : Nat → Bool
  | 0 => false
  | n + 1 => p n || anyBelow p n

/-- Cells of side c that an interval of x mm meets at its worst place. -/
def spanCells (x c : Nat) : Nat := (x + 2 * c - 2) / c

/-- The largest occupied area of a footprint at a place and heading (R267): an HPL of 2,000 mm widens it. -/
def worstArea (fp : Footprint) (x y : Nat) (d : Vertex) : Piece :=
  .rect { e := x, n := y } d (-(fp.rear + 2000 : Nat), 0) ((fp.front + 2000 : Nat), 0) (fp.halfWidth + 2000)

/-- A velocity component in mm/s by its 16-bit code. -/
def velOf (k : Nat) : Int := (k : Int) - 32768

/-- Some place and heading make a footprint meet more than 64 cells of a level (R268). -/
def areaTooWide (v : Nat) (fp : Footprint) : Bool :=
  let c := (cellSide v).toNat
  let a := fp.front + fp.rear + 4000
  let b := 2 * (fp.halfWidth + 2000)
  let d := csqrt (a * a + b * b)
  let w := cdiv d c + 1
  if w * w ≤ 64 then false
  else if 64 < spanCells a c * spanCells b c then true
  else anyBelow (fun x => anyBelow (fun y => anyBelow (fun e => anyBelow (fun n =>
    let h : Vertex := { e := velOf e, n := velOf n }
    decide (10000 ≤ (h.e * h.e + h.n * h.n).toNat) && decide (64 < (pieceCells v (worstArea fp x y h)).length)) 65536) 65536) c) c

/-- A zone record (R246 to R248, R277). -/
def zoneChk (resv : Nat) (before : List Zone) (r : Bytes) : List Chk :=
  let z := zoneOf r
  [(0, within 2 z.level (min 12 resv)), (1, (z.cls == 1 || z.cls == 2)), (2, within 1 z.id 0xFFFE && before.all (fun b => b.id != z.id)),
   (4, z.prefix_.toNat % 2 ^ (32 - 2 * z.level) == 0 && before.all (fun b => !(b.level == z.level && b.prefix_ == z.prefix_))),
   (8, z.attr.toNat % 2 == 0 && decide (z.attr.toNat < 256) && !(z.cls == 2 && z.attr != 0))] ++ zeroAt r 0xC 4

/-- GRID (R247, R248, R268, R277). -/
def gridChk (l : List Gather) (bs : Bytes) : List Chk :=
  let x := gridOf bs
  let has (c : Content) : Bool := (tablesIn l).any (fun d => d.content == c)
  [(0, has .zone && has .resv && has .occ && within 10 x.resvLevel 16), (1, within 8 x.occLevel x.resvLevel), (2, within 1 x.occLimit 4096),
   (4, decide (x.horizonS ≤ 3600)), (6, within 2000 x.lapseMs 60000), (8, decide (leAt bs 8 2 ≤ 1024))] ++ zeroAt bs 0xA 6
  ++ perRec 0x10 8 128 bs (fun _ r => [(0, !(within 8 x.occLevel 16 && areaTooWide x.occLevel (footprintOf r)))] ++ zeroAt r 6 2)
  ++ perRec 0x410 16 (leAt bs 8 2) bs (fun k r => zoneChk x.resvLevel ((zonesOf bs).take k) r)

/-- A re-forming leaves the levels and the zones while an allotment is live (R277). -/
def gridKeeps (s : State) (bs : Bytes) : List Chk :=
  let x := gridOf bs
  let z := zonesOf bs
  if liveAllots s = [] then []
  else [(0, x.resvLevel == s.grid.cfg.resvLevel), (1, x.occLevel == s.grid.cfg.occLevel),
    (8, z.length == s.grid.zones.length && z.all (fun a => s.grid.zones.contains a))]

/-- Short addresses that map to a known EUI (R319, R322, R329). -/
def knownOwner (l : List Gather) (bs : Bytes) (a : Nat) : Bool :=
  if within 0xFE00 a 0xFE7F then (admittedIn l).any (fun m => m.mach == a - 0xFE00)
  else if within 0xFF00 a 0xFF0F then decide (a - 0xFF00 < byteAt bs 0xB)
  else if within 0xFFF0 a 0xFFF1 then (payOf l 0xB0).isSome && a != 0xFFF0 + byteAt bs 8
  else (nodesOf bs).any (fun n => n.addr.toNat == a)

/-- Bands of the HOPS gather. -/
def bandsIn (l : List Gather) : List HopBand := match payOf l 0x71 with | some bs => hopsOf bs | none => []

/-- Each enabled chain's band has a record (R351). -/
def bandsFit (l : List Gather) (bs : Bytes) : List Chk :=
  (List.range 3).map (fun c => (0x20 + 16 * c + 1, !(chainIn bs c).en || (bandsIn l).any (fun h => h.band == (chainIn bs c).band)))

/-- The enabled chain c of the RADIO gather of an image. -/
def liveChain (l : List Gather) (c : Nat) : Option ChainCfg :=
  match payOf l 0x70 with
  | some bs => if (chainIn bs c).en then some (chainIn bs c) else none
  | none => none

/-- Two enabled chains of one band use different channels in a slot (R312). -/
def offsetsDiffer (l : List Gather) (bs : Bytes) (a b : Nat) : Bool :=
  match liveChain l a, liveChain l b with
  | some x, some y =>
    if x.band ≠ y.band then true
    else match (bandsIn l).find? (fun h => h.band == x.band) with
      | some h => byteAt bs a % max 1 h.hops.length != byteAt bs b % max 1 h.hops.length
      | none => true
  | _, _ => true

/-- Bands of the LEDGER gather. -/
def ledgerIn (l : List Gather) : List LedgerBand := match payOf l 0x72 with | some bs => ledgerGo (byteAt bs 2) (bs.drop 16) | none => []

/-- A hop channel lies in exactly one sub-band of a band that has any (R339). -/
def channelPlaced (l : List Gather) (band ch : Nat) : Bool :=
  (ledgerIn l).all (fun b => b.band != band || b.subs.isEmpty || (b.subs.filter (fun x => within x.1 ch x.2.1)).length == 1)

/-- HOPS against RADIO and LEDGER (R312, R339). -/
def hopsFit (l : List Gather) (bs : Bytes) : List Chk :=
  [(1, offsetsDiffer l bs 0 1), (2, offsetsDiffer l bs 0 2 && offsetsDiffer l bs 1 2)]
  ++ perRec 32 80 (byteAt bs 3) bs (fun _ r =>
    let h := hopOf r
    (List.range h.hops.length).map (fun j => (16 + j, channelPlaced l h.band (nth h.hops j 0))))

/-- UNIT of TWIN is that of RADIO (R434). -/
def unitsAgree (l : List Gather) (bs : Bytes) : Bool :=
  match payOf l 0x70 with
  | some r => byteAt r 8 == byteAt bs 0
  | none => true

/-- The key-encryption key of a wrapped record: the image KEK, or a slot that an earlier record has filled (R517). -/
def wrapKek (s : State) (kek : Nat) : Option Bytes :=
  if kek = 0xFF then (currentRoot s.geode.fuses).map (fun k => kdf k labelImageKek (uidBytes s) 256)
  else blockKey s kek mbLoader useWrap tyAes256

/-- One record unwrapped; false when it fails (R517). -/
def wrapStep (x : Bool × State) (r : Nat × Nat × Bytes) : Bool × State :=
  match wrapKek x.2 r.2.1 with
  | none => (false, x.2)
  | some k =>
    let u := unwrapInto r.1 k r.2.2 x.2
    (x.1 && u.1 == .done, u.2)

/-- The slots after a WRAPPED_KEYS payload, from slots erased and a policy, and that every record succeeded (R517). -/
def unwrapAll (recs : List (Nat × Nat × Bytes)) (s : State) : Bool × State := recs.foldl wrapStep (true, s)

/-- The vault as forming clears it, with the image's policy (R515, R517). -/
def freshVault (l : List Gather) (s : State) : State :=
  let p := match payOf l 0xA0 with | some bs => policyOf bs | none => []
  eraseSlots { s with geode.policy := p }

/-- Each wrapped record succeeds after those before it (R517). -/
def wrapsFit (s : State) (l : List Gather) (bs : Bytes) : List Chk :=
  let rs := wrapRecs bs
  (List.range rs.length).map (fun k => (8 + 72 * k, (unwrapAll (rs.take (k + 1)) (freshVault l s)).1))

/-- The fields of a payload of a type against its ranges and the other gathers: image is what the image brings, l what would
be in force; own is true of a gather that the image brings, reform of a re-forming. A channel's mode and SIGN_EN are held
against the registers that a REGINIT of the image changes too. -/
def fieldChk (s : State) (image l : List Gather) (own reform : Bool) (t : Nat) (bs : Bytes) : List Chk :=
  match t with
  | 0x01 => perRec 0 16 16 bs portChk ++ fedPorts l
  | 0x02 | 0x03 => parserChk bs
  | 0x10 => ownerChk bs ++ ownersKnown l bs
  | 0x11 => descsChk bs ++ tablesFit l
  | 0x20 => queuesChk bs ++ queuesFit l bs
  | 0x30 => groupsChk bs
  | 0x40 => timeChk bs
  | 0x51 => rtkChk (gnssRate l) bs ++ (if own || (payOf image 0xF0).isSome then [(0x2C, signFits s image bs)] else [])
  | 0x60 => gridChk l bs ++ (if own && reform then gridKeeps s bs else [])
  | 0x61 => setptChk bs
  | 0x70 => radioChk (knownOwner l bs) bs ++ bandsFit l bs
  | 0x71 => hopsChk bs ++ hopsFit l bs
  | 0x72 => ledgerChk bs
  | 0x80 => assayChk (if own || (payOf image 0xF0).isSome then (afterInit s image 0x120030).toNat else 0) bs
  | 0x90 => strataChk bs
  | 0xA0 => policyChk bs
  | 0xA1 => wrapsChk bs ++ (if own && !reform then wrapsFit s l bs else [])
  | 0xB0 => twinChk bs ++ [(0, unitsAgree l bs)]
  | 0xF0 => if own then initChk bs else []
  | _ => []

/-- The offset of the first bad field of a gather, if any: of a payload whose length does not suit its layout, and of a GNSS
payload, no rule says which field that is (assumption log 23). -/
def gatherFault (s : State) (image l : List Gather) (own reform : Bool) (g : Gather) : Option (Option Nat) :=
  if ¬ lengthSuits g.type g.payload then some none
  else if g.type = 0x50 then
    match Config.gnssBad g.payload with
    | some o => some (some o)
    | none => if gnssFits (Config.gnssOf g.payload) then none else some none
  else (firstBad (fieldChk s image l own reform g.type g.payload)).map some

/-- Check 11 of R47: the first gather, by TYPE, with a bad field, among those of the image and those that stay in force. -/
def semanticFault (s : State) (image all : List Gather) (reform : Bool) : Option (Nat × Option Nat) :=
  all.findSome? (fun g => (gatherFault s image all (image.any (fun x => x.type == g.type)) reform g).map (fun o => (g.type, o)))

/-- The first fixed gather that an image and the structure in force do not share (R62). -/
def fixedDiffers (old new : List Gather) : Option Nat :=
  let fixed (l : List Gather) : List Gather := l.filter (fun g => !reformable g.type)
  let key (g : Gather) : Nat × Nat × BitVec 32 := (g.type, g.payload.length, g.payCrc)
  let missing (a b : List Gather) : List Gather := (fixed a).filter (fun g => ¬ (fixed b).any (fun x => key x == key g))
  ((missing old new ++ missing new old).map Gather.type).min?

end Sys2Proof.Machine
end

