-- ==== Sys2Proof/Machine/SwitchOut.lean ====
section
/-! DEFINITION. SwitchOut.lean: the packet switch's egress: frames started, finished and delivered, launch times, links and
ports (12_packet_switch.md R379, R387 to R391, R398, R399, R402). -/

namespace Sys2Proof.Machine

open Sys2Proof

/-- The UDP header of a frame over IPv4 or IPv6: its offset, and whether it is IPv6. -/
def udpHeader (bs : Bytes) : Option (Nat × Bool) :=
  let b := etherBody bs 12 2
  if b.2 = 0x0800 ∧ byteAt bs (b.1 + 9) = 17 then some (b.1 + 4 * (byteAt bs b.1 % 16), false)
  else if b.2 = 0x86DD ∧ byteAt bs (b.1 + 6) = 17 then some (b.1 + 40, true)
  else none

/-- The odometer report that a frame marked TO_SETPT carries (R389). -/
def odoPayload (s : State) (bs : Bytes) : Option Bytes :=
  match udpHeader bs with
  | some (o, _) =>
    if beAt bs (o + 2) 2 = s.setpt.cfg.odoUdp ∧ beAt bs (o + 4) 2 = 28 then some (bytesAt bs (o + 8) 20) else none
  | none => none

/-- The PTP message of a frame: its offset, and the UDP header under it (R124). -/
def ptpMessage (bs : Bytes) : Option (Nat × Option (Nat × Bool)) :=
  let b := etherBody bs 12 2
  if b.2 = 0x88F7 then some (b.1, none)
  else match udpHeader bs with
    | some u => if beAt bs (u.1 + 2) 2 = 319 then some (u.1 + 8, some u) else none
    | none => none

/-- Bytes of a frame replaced from an offset. -/
def putBytes (bs : Bytes) (ofs : Nat) (new : Bytes) : Bytes := bs.take ofs ++ new ++ bs.drop (ofs + new.length)

/-- A Sync message with its originTimestamp written, 48-bit seconds and 32-bit nanoseconds; on UDP/IPv4 with a UDP checksum
of 0 (R124). -/
def oneStepBytes (bs : Bytes) (stamp : Nat) : Bytes :=
  match ptpMessage bs with
  | some (o, u) =>
    let a := putBytes bs (o + 34) (beBytes 6 (stamp / 10 ^ 9) ++ beBytes 4 (stamp % 10 ^ 9))
    if byteAt bs o % 16 ≠ 0 then bs
    else match u with
      | none => withFcs (lessFcs a)
      | some (h, false) => withFcs (lessFcs (putBytes a (h + 6) [0, 0]))
      | some (_, true) => bs
  | none => bs

/-- The part takes an egress timestamp of the frame (R122, PORTS.TS_EN). -/
def stamped (s : State) (p : Nat) (f : QFrame) : Bool := f.ptp && (portCfg s p).tsEn

/-- The egress timestamp of a frame that starts now: its first bit after the delimiter comes 8 bytes later (R122, R123). -/
def egressStamp (s : State) (p : Nat) : Nat :=
  if p < 12 then macStamp s p (portRate s p) false (now s + wirePs s p 8 / 1000) else now s

/-- A frame as it is sent. -/
def sentFrame (s : State) (p : Nat) (f : QFrame) : QFrame :=
  let t := egressStamp s p
  if ¬ stamped s p f then f
  else { f with sent := BitVec.ofNat 64 t, bytes := if f.oneStep then oneStepBytes f.bytes t else f.bytes }

/-- A frame of a queue starts on the wire: at once, or after the gap that follows a cut frame (R391). -/
def startFrame (p k : Nat) (f : QFrame) (s : State) : State :=
  let s := advanceClk (swPort s p).wireEnd s
  let g := sentFrame s p f
  let done := s.clk + cdiv (wirePs s p f.wire) 1000
  let s := setQ k (fun x => { x with frames := x.frames.erase f }) s
  setPort p (fun x => { x with onWire := some (k, g), wireEnd := done }) s

/-- The receive metadata of R387. -/
def rxMeta (f : QFrame) : Bytes :=
  leBytes 2 f.bytes.length ++ leBytes 1 f.inPort ++ leBytes 1 (b2n f.tsValid + 2 * b2n f.flooded + 4 * b2n f.pipe + 8 * b2n f.routed)
  ++ leBytes 2 (f.vid.toNat + 2 ^ 12 * f.pcp + 2 ^ 15 * b2n f.tagged) ++ leBytes 2 0 ++ leBytes 8 (if f.tsValid then f.rxTime.toNat else 0)

/-- The RX_FRAME entry of R497. -/
def rxEntry (f : QFrame) (b : RxBuf) : Bytes :=
  leBytes 8 2 ++ leBytes 8 b.addr.toNat ++ rxMeta f ++ leBytes 8 b.tag.toNat ++ leBytes 24 0

/-- The event queue of port 12 or 13 (R497). -/
def rxQueue (s : State) (p : Nat) : Nat := if p = 12 then regFld s 0x0E000C 3 0 else regFld s 0x0E000C 11 8

/-- The pool of port 12 or 13. -/
def rxPool (s : State) (p : Nat) : List RxBuf := if p = 12 then s.hostif.hostPool else s.hostif.corePool

/-- The oldest buffer of a pool that holds a frame (R497). -/
def rxBuffer (s : State) (p : Nat) (f : QFrame) : Option RxBuf :=
  (rxPool s p).find? (fun b => decide (f.bytes.length ≤ b.len))

/-- A buffer taken from a pool. -/
def takeBuffer (p : Nat) (b : RxBuf) (s : State) : State :=
  if p = 12 then { s with hostif.hostPool := s.hostif.hostPool.erase b } else { s with hostif.corePool := s.hostif.corePool.erase b }

/-- A frame's consumer takes it now: it waits for a buffer and an entry at ports 12 and 13 (R497). -/
def consumerTakes (s : State) (p : Nat) (f : QFrame) : Bool :=
  if p = 12 ∨ p = 13 then (rxBuffer s p f).isSome && postable s (rxQueue s p) else true

/-- A received frame written to its buffer (R497); that of port 13 lies in core memory (R451). -/
def deliverRx (p : Nat) (f : QFrame) (s : State) : State :=
  match rxBuffer s p f with
  | some b => postEvent (rxQueue s p) (rxEntry f b) (takeBuffer p b (if p = 13 then coreStore b.addr.toNat f.bytes s else s))
  | none => s

/-- A copy marked TO_SETPT at its consumer (R389). -/
def deliverSetpt (f : QFrame) (s : State) : State :=
  if ¬ setptTakes s then s
  else match odoPayload s f.bytes with
    | some r => odometer r none s
    | none => bumpSetpt 6 s

/-- The RTCM frames that a frame marked TO_RTK carries in its UDP payload (R179, R389). -/
def rtcmPayload (bs : Bytes) : List RtcmIn :=
  match udpHeader bs with
  | some (o, _) =>
    let n := beAt bs (o + 4) 2 - 8
    (rtcmFrames n ((bs.drop (o + 8)).take n)).map (fun x => { frame := x, srcMac := BitVec.ofNat 48 (beAt bs 6 6) })
  | none => []

/-- A frame written to its consumer, or off the wire (R389, R391). -/
def deliverFrame (p : Nat) (f : QFrame) (s : State) : State :=
  if p = 12 ∨ p = 13 then deliverRx p f s
  else if p = 14 then deliverDown f.bytes s
  else if p = 15 ∧ f.mark = .setpt then deliverSetpt f s
  else if p = 15 ∧ f.mark = .rtk then toIngest (rtcmPayload f.bytes) s
  else s

/-- The transmit timestamp entry of a frame with TS_REQ (R125, R399). -/
def queueStamp (p : Nat) (f : QFrame) (s : State) : State :=
  match ptpMessage f.bytes with
  | some (o, _) =>
    if f.tsReq ∧ stamped s p f = true then
      pushTxTs { time := f.sent, port := BitVec.ofNat 4 p, msgType := BitVec.ofNat 4 (byteAt f.bytes o),
                 seqId := BitVec.ofNat 16 (beAt f.bytes (o + 30) 2) } s
    else s
  | none => s

/-- A port that shuts down discards its queued frames and reports them; an enable that waited takes effect (R402, R69). -/
def shutPort (p : Nat) (s : State) : State :=
  let n := countFrames s p (fun _ _ => true)
  let s := flushPort p s
  let s := setPort p (fun x => { x with en := x.pendingEn, stopping := false, pendingEn := false }) s
  if n = 0 then s else discard [0x0A] 1 7 0 0xFF n true s

/-- A port holds an enable PENDING: of PORT_CTRL, or of the restored load while a frame of before is on its wire (R69, R87). -/
def portPending (s : State) (p : Nat) : Bool :=
  let x := swPort s p
  x.pendingEn || (x.shedWait && x.en && portRuns s p)

/-- A port that waits to shut down does so once its wire is idle; PENDING_DONE tells of an enable that takes effect (R69). -/
def settlePort (p : Nat) (s : State) : State :=
  if (swPort s p).onWire.isSome ∨ ¬ ((swPort s p).stopping ∨ (swPort s p).shedWait) then s
  else
    let was := portPending s p
    let s := setPort p (fun x => { x with shedWait := false }) s
    let s := if (swPort s p).stopping then shutPort p s else s
    if was then raise bPARISON 2 s else s

/-- A frame that has left is counted, and its depth falls (R391, R403). -/
def countSent (p k : Nat) (f : QFrame) (s : State) : State :=
  let s := withPause (fun s => swAbove k (setPort p (fun x => { x with onWire := none }) s)) s
  bumpQ k 2 (bumpBy 0x0A0024 (3 + 16 * p) f.bytes.length (bumpPort p 2 s))

/-- The frame on the wire is finished, when its consumer takes it. -/
def finishWire (p : Nat) (s : State) : State :=
  match (swPort s p).onWire with
  | none => settlePort p s
  | some (k, f) =>
    let s := advanceClk (swPort s p).wireEnd s
    if consumerTakes s p f then settlePort p (queueStamp p f (deliverFrame p f (countSent p k f s))) else s

/-- A queue may send now: gated queues wait for the open claim gate, quench frames apart (R400, R407, R22). -/
def gateFor (s : State) (p k : Nat) (f : QFrame) : Bool :=
  f.quench || 12 ≤ p || s.twin.gateOpen || !(match classOf s k with | some c => decide (c ≤ 3) | none => false)

/-- A frame ends before the next launch reservation; a quench frame need not (R398, R399). -/
def fitsNow (s : State) (p : Nat) (f : QFrame) : Bool :=
  f.quench || (reservations s p).all (fun w => decide (wirePs s p f.wire ≤ w.1))

/-- A frame's store or path is under its self-test, so that the frame waits: the internal link for every frame, the express store
for DL0, and a packet-buffer bank for a frame that lies in it and has no second copy (R401, R438). -/
def heldByTest (s : State) (k : Nat) (f : QFrame) : Bool :=
  underTest s .internalLink || (classOf s k == some 0 && underTest s .express) ||
  s.lode.banks.any (fun (b : Bank) => b.state == .testing && b.owner == 0xFE && inBank s b.phys k f)

/-- A frame that may start now. -/
def mayStart (s : State) (p k : Nat) (f : QFrame) : Bool := gateFor s p k f && fitsNow s p f && !heldByTest s k f

/-- The frame that a queue offers: its oldest without a launch time, or a quench frame behind one that may not start. -/
def offered (s : State) (p q : Nat) : Option QFrame :=
  let l := (swQ s (qk p q)).frames.filter (fun f => f.launch.isNone)
  match l with
  | [] => none
  | f :: r => if mayStart s p (qk p q) f then some f else r.find? (fun g => g.quench)

/-- Queues of a class that offer a frame, with it. -/
def offers (s : State) (p c : Nat) : List (Nat × QFrame) :=
  (List.range 32).filterMap (fun q => if classOf s (qk p q) = some c then (offered s p q).map (fun f => (q, f)) else none)

/-- What a visit of the round robin adds to a queue's deficit. -/
def quantumOf (s : State) (p q : Nat) : Nat := (queueCfg s (qk p q)).weight * (Config.drrQuantum + 1)

/-- Visits a queue needs before its deficit covers its frame. -/
def visitsFor (s : State) (p : Nat) (x : Nat × QFrame) : Nat :=
  max 1 (cdiv (x.2.bytes.length - (swQ s (qk p x.1)).deficit) (max 1 (quantumOf s p x.1)))

/-- Place of a queue in the round robin after queue j: j itself comes last. -/
def placeAfter (j q : Nat) : Nat := if j < q then q - j else q + 32 - j

/-- Order in which queues come to send: fewest visits, then place in the round robin. -/
def soonerThan (s : State) (p j : Nat) (a b : Nat × QFrame) : Bool :=
  decide (visitsFor s p a < visitsFor s p b ∨ (visitsFor s p a = visitsFor s p b ∧ placeAfter j a.1 ≤ placeAfter j b.1))

/-- The round robin's choice when queue j was served last and its deficit does not cover its next frame (R391). -/
def robinNext (s : State) (p j : Nat) : List (Nat × QFrame) → Option (Nat × QFrame)
  | [] => none
  | x :: l => some (l.foldl (fun a b => if soonerThan s p j a b then a else b) x)

/-- The deficits after the visits that lead to the chosen queue. -/
def robinVisits (p j : Nat) (x : Nat × QFrame) (l : List (Nat × QFrame)) (s : State) : State :=
  let n := visitsFor s p x
  l.foldl (fun t y =>
    let v := if placeAfter j y.1 ≤ placeAfter j x.1 then n else n - 1
    let add := v * quantumOf s p y.1
    setQ (qk p y.1) (fun q => { q with deficit := q.deficit + add }) t) s

/-- A frame of a class is sent: its deficit falls, and to 0 when its queue empties. -/
def serve (p c : Nat) (x : Nat × QFrame) (s : State) : State :=
  let s := startFrame p (qk p x.1) x.2 s
  let n := x.2.bytes.length
  let s := setQ (qk p x.1) (fun q => { q with deficit := if q.frames.isEmpty then 0 else q.deficit - n }) s
  setPort p (fun y => { y with turn := kset y.turn c x.1 }) s

/-- A class with several queues to serve: the queue in turn while its deficit lasts, then the round robin (R391). -/
def robin (p c : Nat) (l : List (Nat × QFrame)) (s : State) : State :=
  let j := (kget (swPort s p).turn c).getD 31
  match l.find? (fun x => x.1 == j && decide (x.2.bytes.length ≤ (swQ s (qk p j)).deficit)) with
  | some x => serve p c x s
  | none => match robinNext s p j l with
    | some x => serve p c x (robinVisits p j x l s)
    | none => s

/-- The first class that offers a frame is served (R391). -/
def startClass (p : Nat) : List Nat → State → State
  | [], s => s
  | c :: r, s => match offers s p c with
    | [] => startClass p r s
    | [x] => startFrame p (qk p x.1) x.2 s
    | l => robin p c l s

/-- The next frame of an idle port starts; none does on ports 0 to 11 during a wake (R95). -/
def startNext (p : Nat) (s : State) : State :=
  if (swPort s p).onWire.isSome ∨ ¬ portUp s p ∨ (s.sys.wakeHold ∧ p < 12) then s else startClass p (List.range 8) s

/-- FRAME_EGRESS (R391): the frame on the wire leaves it, and the next one starts. -/
def execFrameEgress (port : Fin 16) (s : State) : Out :=
  .next (bus s fun s => startNext port (finishWire port s))

/-- The launch frame of a port that leaves first, with its queue. -/
def firstLaunch (s : State) (p : Nat) : Option (Nat × QFrame) :=
  let key (x : Nat × QFrame) : Nat := ((launchWindow s p x.2).getD (0, 0)).1
  match (portFrames s p).filter (fun x => x.2.launch.isSome) with
  | [] => none
  | x :: l => some (l.foldl (fun a b => if key b < key a then b else a) x)

/-- The part at a launch time (R398). -/
def atLaunch (p : Nat) (f : QFrame) (s : State) : State :=
  let w := (launchWindow s p f).getD (0, 0)
  advanceTo (now s + w.1 / 1000) s

/-- A launch frame starts; one that a quench frame delayed is counted as late (R399). -/
def startLaunch (p k : Nat) (f : QFrame) (s : State) : State :=
  let busy := (swPort s p).onWire.isSome && decide (s.clk < (swPort s p).wireEnd)
  let s := finishWire p s
  if (swPort s p).onWire.isSome then s
  else
    let s := bumpQ k 4 (startFrame p k f s)
    if busy then raise bSWITCH 5 (bumpQ k 5 s) else s

/-- LAUNCH (R398, R399): the port's next launch frame leaves at its launch time. -/
def execLaunch (port : Fin 16) (s : State) : Out :=
  .next (bus s fun s =>
    match firstLaunch s port with
    | some (k, f) =>
      if portUp s port ∧ gateFor s port k f = true ∧ heldByTest s k f = false ∧ ¬ (s.sys.wakeHold ∧ port.val < 12) then startLaunch port k f (atLaunch port f s) else s
    | none => s)

/-- Speed in Mbit/s of a port's line mode; mode 0x6 has what auto-negotiation resolves (R378, R379). -/
def lineSpeed (mode resolved : Nat) : Nat :=
  if mode = 1 then 10000 else if mode = 2 ∨ mode = 3 then 1000 else if mode = 4 then 100 else if mode = 5 then 10 else resolved

/-- LINK_UP (R379): speed is what auto-negotiation resolves. -/
def execLinkUp (port : Fin 12) (speed : Nat) (s : State) : Out :=
  .next (bus s fun s =>
    let mode := (portCfg s port).mode
    raise bSWITCH 1 (setPort port (fun x => { x with up := true, speed := lineSpeed mode speed, anDone := mode == 6 }) s))

/-- LINK_DOWN (R379, R405): every frame queued or on the wire is lost and counted. -/
def execLinkDown (port : Fin 12) (s : State) : Out :=
  .next (bus s fun s =>
    settlePort port (raise bSWITCH 1 (flushPort port (setPort port (fun x => { x with up := false, anDone := false }) s))))

/-- A port is told to stop: at the end of the frame on its wire (R402); an enable that waits is cancelled (R70). -/
def stopPort (p : Nat) (s : State) : State :=
  let x := swPort s p
  if x.stopping then setPort p (fun x => { x with pendingEn := false }) s
  else if ¬ x.en then s
  else
    let s := setPort p (fun x => { x with stopping := true, pendingEn := false }) s
    if x.onWire.isSome ∧ x.wireEnd ≤ s.clk then finishWire p s else settlePort p s

/-- A write of SWITCH_PORT_CTRL.EN for a port (R402, R69, R70). -/
def portEnable (p : Nat) (en : Bool) (s : State) : State :=
  if ¬ en then stopPort p s
  else
    let s := setPort p (fun x => if x.stopping then { x with pendingEn := true } else { x with en := true }) s
    if p = 15 then ethSettle s else s

/-- PORT_ENABLE (R402). -/
def execPortEnable (port : Fin 16) (en : Bool) (s : State) : Out := .next (bus s (portEnable port en))

end Sys2Proof.Machine
end

