-- ==== Sys2Proof/Machine/Twin.lean ====
section
/-! DEFINITION. Twin.lean: the claim interlock, the Frauri link, the mirror and the takeover (13_twin_redundancy.md). -/

namespace Sys2Proof.Machine

open Sys2Proof

/-- TWIN's block index. -/
def bTWIN : Nat := 0x0B

/-- The guard of R407, in ns. -/
def guardNs : Nat := 4000

/-- A claim conflict: a LASTING fault in a critical block that retires no resource (R411, R412, R448). -/
def claimConflict (s : State) : State :=
  yieldRequest (consequence 0x0B02 0 (raise bTWIN 6 (bumpTwin 8 s)))

/-- A pair state entered; PAIR READY raises its interrupt. -/
def toPair (p : PairState) (s : State) : State :=
  let was := s.twin.pair
  let s := { s with twin.pair := p }
  if p = .ready ∧ was ≠ .ready then raise bTWIN 3 s else s

/-- Entries of a key-ordered list merged over another. -/
def mergeKeys {α : Type} (new old : List (Nat × α)) : List (Nat × α) := new.foldl (fun l x => kset l x.1 x.2) old

/-- Written entries of the ZONE and RESV tables replaced by the gaffer's (R423). -/
def mirrorEntries (l : List (Nat × LodeEntry)) (s : State) : State :=
  let mine := s.lode.copy.filter (fun x => (zoneTable s).map TableDesc.id == some x.1 || (resvTable s).map TableDesc.id == some x.1)
  let s := mine.foldl (fun s x => match tableDesc s x.1 with | some d => deleteWritten d x.2.key s | none => s) s
  l.foldl (fun s x => match tableDesc s x.1 with
    | some d => (writeEntry d x.2 s).getD (tableFull d s)
    | none => s) s

/-- A machine's mirrored flags: LAPSED and the anneal requests; its solutions are the unit's own (R421, R198). -/
def mirrorMach (s : State) (x : Nat × GridMach) : State :=
  setGridMach x.1 (fun (g : GridMach) => { g with lapsed := x.2.lapsed, annealMargin := x.2.annealMargin, annealOutside := x.2.annealOutside }) s

/-- A GRID group applied (R421, R423). -/
def applyGrid (g : MirGrid) (s : State) : State :=
  let s := mirrorEntries g.entries { s with grid := { s.grid with
    origin := g.origin, zones := g.zones, tracks := g.tracks, allots := g.allots, gens := g.gens, tasks := g.tasks } }
  g.machs.foldl mirrorMach s

/-- CORR cursors of the chains. -/
def applyCorr (l : List (Nat × Nat)) (s : State) : State :=
  (List.range 3).foldl (fun s c => match l[c]? with
    | some k => setChain c (fun x => { x with corrSeq := k.1, corrChunk := k.2 }) s
    | none => s) s

/-- A RADIO group applied: the servitor holds the gaffer's in place of its own (R346). -/
def applyRadio (r : MirRadio) (s : State) : State :=
  applyCorr r.corr { s with radio := { s.radio with
    repeatLeft := r.repeatLeft, txMax := r.txMax, marks := r.marks, nodes := r.nodes, ledger := r.ledger } }

/-- Quantities of a channel take the mirrored bases (R536). -/
def mirrorQs : List Quantity → List (BitVec 80 × BitVec 64) → List Quantity
  | q :: l, v :: r => { q with val := v.1, base := v.1, baseP := v.2 } :: mirrorQs l r
  | l, _ => l

/-- A channel's base count and derived bases set so that the reported total is the mirrored one (R536). -/
def mirrorChan (m : MirAssay) (c : AsChan) : AsChan :=
  { c with bFwd := m.fwd - c.fwd, bRev := m.rev - c.rev, qs := mirrorQs c.qs m.vals }

/-- An ASSAY group applied (R423, R536). -/
def applyAssay (l : List (Nat × MirAssay)) (s : State) : State :=
  l.foldl (fun s x => { s with assay.chs := vmod s.assay.chs x.1 (mirrorChan x.2) }) s

/-- A PAIR group noted: the gaffer's mode and latch (TWIN_STATUS.PEER_MODE). -/
def applyPair (p : MirPair) (s : State) : State :=
  { s with twin := { s.twin with peerMode := p.mode, peerLatched := p.latched, mirror := { s.twin.mirror with pair := some p } } }

/-- One record of a committed group applied (R421). -/
def applyRecord (s : State) : MirRecord → State
  | .pair p => applyPair p s
  | .grid g => applyGrid g { s with twin.mirror.grid := some g }
  | .setpt m o => { s with twin.mirror.setpt := some (m, o) }
  | .radio r => applyRadio r { s with twin.mirror.radio := some r }
  | .assay l => applyAssay l { s with twin.mirror.assay := mergeKeys l s.twin.mirror.assay }
  | .time t => { s with twin.mirror.time := some t }
  | .hostq l => { s with twin.mirror.hostq := mergeKeys l s.twin.mirror.hostq }

/-- The records of one class that are in an open group. -/
def openGroup (s : State) (c : Nat) : List MirRecord := s.twin.open_.filter (fun r => r.cls == c)

/-- A group has been committed: the mirror is young again, and READY once the snapshot is complete (R424, R425). -/
def committed (s : State) : State :=
  let c := s.clk
  let s := { s with twin := { s.twin with lastCommit := some c, stale := false } }
  if s.twin.snapDone then toPair .ready s else s

/-- This unit is the servitor of a link that is UP. -/
def mirrors (s : State) : Bool := s.sys.mode == .servitor && s.twin.link == .up

/-- The group of a class committed: applied, or kept for the end of the snapshot (R421, R425). -/
def commitGroup (c : Nat) (s : State) : State :=
  let g := openGroup s c
  let s := bumpTwin 5 { s with twin.open_ := s.twin.open_.filter (fun r => r.cls != c) }
  if s.twin.snapDone then committed (g.foldl applyRecord s)
  else committed { s with twin.groups := s.twin.groups ++ g }

/-- R412: UNIT 1 with open gated outputs yields to a peer that says it is GATED. -/
def gatedCheck (h : FrHead) (s : State) : State :=
  if s.twin.unit ∧ s.twin.gateOpen ∧ h.gated then claimConflict s else s

/-- PAIR at the gaffer follows the servitor's READY flag (R416, R420). -/
def pairFrom (h : FrHead) (s : State) : State :=
  if s.sys.mode ≠ .servitor ∧ (s.twin.pair = .syncing ∨ s.twin.pair = .ready) then toPair (if h.ready then .ready else .syncing) s else s

/-- A good re-send has been corrected (R418). -/
def corrected (s : State) : State := if s.twin.fails = 0 then s else detect .frauri 0 true false { s with twin.fails := 0 }

/-- What every good frame from the peer does (R412, R416, R418, R422). -/
def headIn (h : FrHead) (s : State) : State :=
  let s := bumpTwin 1 (corrected s)
  let s := { s with twin := { s.twin with
    peerGated := h.gated, peerLatched := h.latched, peerReady := h.ready, rxSeq := h.seq, ackSeq := h.ack.toNat } }
  gatedCheck h (pairFrom h (acked h.ack s))

/-- A third failure on a frame takes the link to TESTING (R418, R415). -/
def linkFails (s : State) : State := detect .frauri 0 false false { s with twin := { s.twin with fails := 0, txFails := 0 } }

/-- A frame is not taken: a NAK answers it, and a third failure takes the link to TESTING (R418). -/
def frameBad (s : State) : State :=
  if 2 ≤ s.twin.fails then linkFails s else sendBody .nak .empty { s with twin := { s.twin with fails := s.twin.fails + 1 } }

/-- A frame received with the link UP: one out of order is answered with a NAK (R418); what another carries is acted on if the link is
still UP after its header. The first frame after HELLO has SEQ 1 (DESIGN CHOICE, assumption log 22). -/
def frameUp (h : FrHead) (k : State → State) (s : State) : State :=
  if s.twin.link ≠ .up then s
  else if h.seq ≠ s.twin.rxSeq + 1 then frameBad s
  else
    let s := headIn h s
    if s.twin.link = .up then k s else s

/-- IDLE (R416, R412). -/
def execIdle (head : FrHead) (s : State) : Out := .next (bus s (frameUp head id))

/-- ACK (R416): the frame it acknowledges has arrived. -/
def execFrauriAck (head : FrHead) (s : State) : Out :=
  .next (bus s (frameUp head fun s => { s with twin.txFails := 0 }))

/-- NAK (R418): the frame is sent again, up to twice. -/
def execNak (head : FrHead) (s : State) : Out :=
  .next (bus s (frameUp head fun s =>
    if 2 ≤ s.twin.txFails then linkFails s
    else bumpTwin 2 (bumpTwin 0 { s with twin.txFails := s.twin.txFails + 1 })))

/-- FRAURI_FRAME_BAD (R418): tag is true of a frame that fails its tag; a NAK answers it. -/
def execFrauriFrameBad (tag : Bool) (s : State) : Out :=
  .next (bus s fun s =>
    if s.twin.link ≠ .up ∧ s.twin.link ≠ .hello then s
    else
      frameBad (if tag then bumpTwin 3 s else s))

/-- The transmit key and the receive key (R417). -/
def twinKeys (s : State) : Bool :=
  (blockKey s (regFld s 0x0B001C 14 8) mbFrauri useEnc tyAes256).isSome && (blockKey s (regFld s 0x0B001C 6 0) mbFrauri useDec tyAes256).isSome

/-- The units are paired (R420). -/
def pairsWith (s : State) (id sum : Word) (unit : Bool) (set : BitVec 6) : Bool :=
  id.toNat == sysId && sum == s.parison.fixedSum && set == s.twin.mirrorSet && unit != s.twin.unit

/-- HELLO compared equal: the link is UP and the snapshot starts (R415, R420, R425). -/
def linkUp (s : State) : State :=
  let s := { s with twin := { s.twin with
    link := .up, keyFault := false, pair := .syncing, snapDone := false, snapshot := [], groups := [], open_ := [], lastCommit := none } }
  raise bTWIN 2 s

/-- HELLO (R417, R420). -/
def execHello (head : FrHead) (id sum : Word) (unit : Bool) (set : BitVec 6) (reform : Word) (s : State) : Out :=
  .next (bus s fun s =>
    if s.twin.link ≠ .hello then s
    else if ¬ twinKeys s then useRefused { s with twin.keyFault := true }
    else if head.seq ≠ s.twin.rxSeq + 1 then frameBad s
    else
      let s := headIn head { s with twin := { s.twin with peerSum := sum, peerReform := some reform } }
      if s.twin.link ≠ .hello then s
      else if pairsWith s id sum unit set then linkUp s
      else raise bTWIN 4 { s with twin := { s.twin with pair := .mismatch, keyFault := false } })

/-- HELLO sent, if the keys allow it (R417, R420). -/
def sendHello (s : State) : State :=
  if twinKeys s then
    sendBody .hello (.hello (BitVec.ofNat 32 sysId) s.parison.fixedSum s.twin.unit s.twin.mirrorSet) { s with twin.keyFault := false }
  else useRefused { s with twin.keyFault := true }

/-- LINK_TRAINED (R415): the frame counts start again (R416), and HELLO goes out. -/
def execLinkTrained (s : State) : Out :=
  .next (bus s fun s =>
    if s.twin.link = .training then
      sendHello (frReset { s with twin := { s.twin with link := .hello, rxSeq := 0, ackSeq := 0, fails := 0, txFails := 0 } })
    else s)

/-- LINK_BLOCK_LOCK_LOST (R415). -/
def execLinkBlockLockLost (s : State) : Out :=
  .next (bus s fun s => if s.twin.link = .up then linkFails s else s)

/-- Left OFF when LINK_EN is set and the TWIN gather is present (R415). -/
def linkStart (s : State) : State :=
  if s.twin.link = .off ∧ s.twin.present ∧ regBit s 0x0B0000 0 then { s with twin.link := .training } else s

/-- A write of TWIN_CTRL (R415). -/
def linkEnWrite (w : Word) (s : State) : State :=
  let s := regWrite 0x0B0000 w s
  if regBit s 0x0B0000 0 then linkStart s
  else if s.twin.link = .off then s
  else leaveLink .off s

/-- LINK_EN_WRITE (R415). -/
def execLinkEnWrite (w : Word) (s : State) : Out := .next (bus s (linkEnWrite w))

/-- MIRROR (R421): the record joins the open group of its class. -/
def execMirror (head : FrHead) (rec : Machine.MirRecord) (s : State) : Out :=
  .next (bus s (frameUp head fun s =>
    if mirrors s ∧ selected s rec.cls = true then { s with twin.open_ := s.twin.open_ ++ [rec] } else s))

/-- COMMIT (R421): cls is the class whose group ends, 6 for PAIR. -/
def execCommit (head : FrHead) (cls : Fin 7) (s : State) : Out :=
  .next (bus s (frameUp head fun s => if mirrors s ∧ selected s cls = true then commitGroup cls s else s))

/-- The snapshot is complete: applied whole, then the groups that came alongside (R425). -/
def snapshotDone (s : State) : State :=
  let l := s.twin.snapshot ++ s.twin.groups
  committed (l.foldl applyRecord { s with twin := { s.twin with snapshot := [], groups := [], snapDone := true } })

/-- SNAPSHOT (R425): start opens a snapshot, which discards one under way; last completes it. -/
def execSnapshot (head : FrHead) (start : Bool) (rec : Machine.MirRecord) (last : Bool) (s : State) : Out :=
  .next (bus s (frameUp head fun s =>
    if ¬ mirrors s then s
    else
      let s := if start then { toPair .syncing s with twin := { s.twin with pair := .syncing, snapDone := false, snapshot := [], groups := [] } } else s
      let s := if selected s rec.cls then { s with twin.snapshot := s.twin.snapshot ++ [rec] } else s
      if last then snapshotDone s else s))

/-- MIRROR_STALE (R424). -/
def execMirrorStale (s : State) : Out :=
  .next (bus s fun s =>
    match s.twin.lastCommit with
    | some t =>
      if s.sys.mode = .servitor ∧ ¬ s.twin.stale then
        let s := advanceClk (t + s.twin.staleMs * 10 ^ 6) s
        raise bTWIN 5 { s with twin := { s.twin with stale := true, pair := if s.twin.pair = .ready then .syncing else s.twin.pair } }
      else s
    | none => s)

/-- Exchanges a second: one at every profile tick (R110). -/
def exchangeHz : Nat := 1000

/-- TIME (R110, R111): both domains of a servitor follow the two-way exchange. -/
def execTime (head : FrHead) (e : Int) (reform : Word) (s : State) : Out :=
  .next (bus s (frameUp head fun s =>
    let s := { s with twin.peerReform := some reform }
    if s.sys.mode = .servitor then
      let dp := e + (served40 s.time - domTime40 s.time s.time.p) / q40
      let da := e + (served40 s.time - domTime40 s.time s.time.a) / q40
      followBoth dp da s
    else s))
where
  /-- Each domain with its own error. -/
  followBoth (dp da : Int) (s : State) : State := followOne true da (followOne false dp s)
  /-- One domain disciplined, or valid from now. -/
  followOne (a : Bool) (d : Int) (s : State) : State :=
    let s := setDom a { dom s a with lastWrite := s.clk } s
    if (dom s a).valid then discipline a d exchangeHz s else sourceValid a d s

/-- NOTICE (R419): the peer's voted decision asserts this unit's pendant source. -/
def execNotice (head : FrHead) (s : State) : Out := .next (bus s (frameUp head holdPeer))

/-- The mode that a takeover ends in (R427, R78): a mirrored mode that R78 offers no takeover into becomes QUENCHED. -/
def takeoverMode (s : State) : Mode :=
  match s.twin.pair, s.twin.mirror.pair with
  | .ready, some p => if latched s then .quenched else if quenchableMode p.mode then p.mode else .quenched
  | _, _ => .quenched

/-- QUENCH_PERMIT_EN and the machine quenches of the mirror (R421). -/
def adoptPair (p : MirPair) (s : State) : State :=
  let s := (List.range 4).foldl (fun s j => setReg (0x090030 + 4 * j) (BitVec.ofNat 32 (p.permitEn.toNat / 2 ^ (32 * j))) s) s
  { s with quench.machq := p.machq }

/-- The set-point engine takes its last committed state (R302, R428). -/
def adoptSetpt (x : List (Nat × SpMach) × List (Nat × Odo)) (s : State) : State :=
  { s with setpt := { s.setpt with machs := x.1, odos := x.2 } }

/-- The new gaffer's queues stand at the mirrored commit points (R431). -/
def adoptQueues (l : List (Nat × BitVec 32)) (s : State) : State :=
  l.foldl (fun s x => setCq x.1 (fun c => { c with commit := x.2, fetch := x.2 + 1, entries := [] }) s) s

/-- The mirror that a new gaffer takes (R428 step 5); open groups are discarded (R432). -/
def adopt (s : State) : State :=
  let n := if s.twin.open_ = [] then 0 else 1
  let s := bumpBy 0x0B0034 6 n { s with twin.open_ := [] }
  let s := match s.twin.mirror.pair with | some p => adoptPair p s | none => s
  let s := match s.twin.mirror.setpt with | some x => adoptSetpt x s | none => s
  adoptQueues s.twin.mirror.hostq s

/-- The cullet report of a takeover: every queue of the mirror's commit points (R431). -/
def takeoverReport (s : State) : State :=
  let named (n : Nat) : Bool := (kget s.twin.mirror.hostq n).isSome
  let s := discardHits (hitFrom s named) 2 7 0 0xFF 0 true s
  (List.range 16).foldl (fun s n => if (kget s.twin.mirror.hostq n).isSome then
    setCq n (fun c => { c with state := if c.state = .retired then .retired else .halted }) s else s) s

/-- A re-forming that has not reached APPLYING is abandoned (R71). -/
def abandonReform (s : State) : State :=
  match s.parison.load with
  | some l =>
    if (l.action = 0 ∨ l.action = 3) ∧ s.parison.loader ≠ .applying then
      raise 0x01 1 { s with parison := { s.parison with load := none, loader := .failed, err := .mode, failType := 0, failWord := 0 } }
    else s
  | none => s

/-- The servitor takes over: the claim, the mirror and the mode; the gated outputs open later (R427, R428). -/
def takeover (s : State) : State :=
  let m := takeoverMode s
  let ready := s.twin.pair == .ready
  let s := abandonReform s
  let s := raiseClaim { s with twin.takeover := some (s.clk, now s) }
  let s := if ready then s else wardenPulse s
  let s := gridStart (toMode m .takeover srcSelf (adopt s))
  takeoverReport s

/-- CLAIM_I_FALL (R406, R427). -/
def execClaimIFall (s : State) : Out :=
  .next (onAon s fun s =>
    if ¬ s.twin.claimI then s
    else
      let s := { s with twin := { s.twin with claimI := false, claimIAt := s.clk, conflictAt := none } }
      if s.twin.present ∧ s.sys.mode = .servitor then takeover s else s)

/-- UNIT 1 loses a tie: it drops its claim and enters SERVITOR (R410). -/
def loseTie (s : State) : State :=
  let s := dropClaim s
  match s.sys.mode with
  | .reset | .forming | .dormant | .yielded | .servitor => s
  | _ => toMode .servitor .peerClaim 11 s

/-- TWIN_CLAIM_I seen asserted by a unit that drives its own claim (R410, R411). -/
def claimSeen (s : State) : State :=
  if s.twin.gateOpen then driveOutputs (closeGates { s with twin.conflictAt := some s.clk })
  else if ¬ s.twin.everOpen ∧ s.clk < s.twin.claimOAt + guardNs ∧ s.twin.unit then loseTie s
  else s

/-- CLAIM_I_RISE (R406, R410, R411). -/
def execClaimIRise (s : State) : Out :=
  .next (onAon s fun s =>
    if s.twin.claimI then s
    else
      let s := { s with twin := { s.twin with claimI := true, claimIAt := s.clk } }
      if s.twin.present ∧ s.twin.claimO then claimSeen s else s)

/-- CLAIM_CONFLICT (R411): TWIN_CLAIM_I is still asserted 4 µs after the gated outputs closed. -/
def execClaimConflict (s : State) : Out :=
  .next (onAon s fun s =>
    match s.twin.conflictAt with
    | some t =>
      if s.twin.claimI ∧ s.twin.claimO then claimConflict (advanceClk (t + guardNs) { s with twin.conflictAt := none }) else s
    | none => s)

/-- CLAIM_GLITCH (R406). -/
def execClaimGlitch (s : State) : Out := .next (onAon s (bumpTwin 9))

/-- The frame that the old gaffer had on air on a chain at a served time: a BEACON or GANG by the mirrored schedule (R348). -/
def cutFrame (s : State) (c t : Nat) : Option FrameType :=
  let x := (chain s c).cfg
  let u := (t - slotStart s) / 1000
  if t < slotStart s ∨ ¬ (chain s c).en then none
  else if 1000 ≤ u ∧ u < beaconEnd x ∧ s.radio.asn % max 1 x.beaconDiv = 0 then some .beacon
  else if x.gang ∧ gangStart x ≤ u ∧ u < gangEnd x then some .gang
  else none

/-- The recovery frame of a chain and the end of it, in µs of the slot (R348). -/
def sendRecovery (c : Nat) (t : FrameType) (s : State) : State :=
  let x := (chain s c).cfg
  let n := if t = .beacon then 40 else 88
  let stop := (now s - slotStart s) / 1000 + airtime x.mode n
  if 10000 < stop then s
  else
    let r := if t = .beacon then transmit c .beacon 0xFFFF c (beaconPayload s) s
      else transmit c .gang 0xFEFF (6 + c) (gangPayload s (s.radio.asn % 4)) s
    if r.1 then setChain c (fun y => { y with recEnd := stop, sentBeacon := true, sentGang := y.sentGang || t == .gang }) r.2 else r.2

/-- The recovery frames of a takeover (R348, R430). -/
def recover (t0 : Nat) (s : State) : State :=
  (List.range 3).foldl (fun s c => match cutFrame s c t0 with | some t => sendRecovery c t s | none => s) s

/-- Step 6 of R428: the gap since step 2 with the 500 ns bound of step 2, the record and the interrupt. -/
def endTakeover (t n : Nat) (s : State) : State :=
  let gap := s.clk - t + 500
  let s := { s with twin := { s.twin with takeover := none, gap := gap, gapAt := BitVec.ofNat 64 n } }
  recover n (note 0x0B40 3 gap 0 0 (raise bTWIN 0 (bumpTwin 7 s)))

/-- The gated outputs open (R407). -/
def openGates (s : State) : State := driveOutputs { s with twin := { s.twin with gateOpen := true, everOpen := true } }

/-- The time a takeover takes from the end of the guard to step 6, in ns: any that meets R428 (assumption log 22). -/
def openDelay (s : State) : Nat := freeVal s % 27001

/-- CLAIM_GUARD_EXPIRE (R407, R428). -/
def execClaimGuardExpire (s : State) : Out :=
  .next (onAon s fun s =>
    if ¬ s.twin.present ∨ ¬ s.twin.claimO ∨ s.twin.claimI ∨ s.twin.gateOpen then s
    else guardEnd (advanceClk (max s.twin.claimOAt s.twin.claimIAt + guardNs) s))
where
  /-- The guard has ended. -/
  guardEnd (s : State) : State :=
    match s.twin.takeover with
    | some (t, n) => endTakeover t n (openGates (advance (openDelay s) (drawn s)))
    | none => openGates s

/-- A twin command ends (TWIN_RESULT). -/
def twinEnd (r : TwinResult) (s : State) : State := raise bTWIN 7 { s with twin.result := r }

/-- YIELD (R426, R432): same tells of another master's write of higher rank in the cycle, against of a voted decision in it. -/
def execYield (who : Master) (same against : Bool) (s : State) : Out :=
  .next (bus s fun s =>
    if same then twinEnd .busy s
    else if who ≠ .host then twinEnd .denied s
    else if ¬ s.twin.present ∨ ¬ s.twin.gateOpen then twinEnd .mode s
    else if s.twin.pair ≠ .ready then twinEnd .notReady s
    else if against ∨ s.quench.deciding.isSome then twinEnd .conflictLost s
    else yieldUnit who.rank (twinEnd .done s))

/-- RESYNC (R425, R432): the gaffer's snapshot starts again. -/
def execResync (same : Bool) (s : State) : Out :=
  .next (bus s fun s =>
    if same then twinEnd .busy s
    else if ¬ s.twin.present ∨ ¬ s.twin.claimO then twinEnd .mode s
    else if s.twin.link ≠ .up then twinEnd .notReady s
    else twinEnd .done (sendSnapshot { s with twin := { s.twin with pair := .syncing, peerReady := false } }))

end Sys2Proof.Machine
end

