-- ==== Sys2Proof/Machine/Assay.lean ====
section
/-! DEFINITION. Assay.lean: pulses, stored totals, checkpoints, rebases, intervals and snapshots
(18_assay_metering.md). -/

namespace Sys2Proof.Machine

open Sys2Proof

/-- A is at its active level (POL). -/
def activeA (c : AsChan) (high : Bool) : Bool := high != c.aLow

/-- The accepted edge counts forward: always in SINGLE; by B's level and DIR_INV in QUAD (R521, R522). -/
def countsForward (c : AsChan) : Bool := c.mode != .quad || (c.levelB == c.dirInv)

/-- Pulses a quantity moves by for one pulse. -/
def quantityStep (fwd : Bool) : AsSource → Int
  | .off => 0
  | .fwd => if fwd then 1 else 0
  | .rev => if fwd then 0 else 1
  | .net => if fwd then 1 else -1

/-- V after one pulse (R530). -/
def stepQuantity (fwd : Bool) (q : Quantity) : Quantity :=
  { q with val := q.val + BitVec.ofInt 80 (q.gain.toNat * quantityStep fwd q.source) }

/-- A counted pulse (R521, R525, R530). -/
def countPulse (run : Bool) (clk : Nat) (c : AsChan) : AsChan :=
  let f := countsForward c
  { c with
    fwd := if f then c.fwd + 1 else c.fwd, rev := if f then c.rev else c.rev + 1
    countAt := some clk, dirty := true, sawRev := c.sawRev || !f
    qs := if run then c.qs.map (stepQuantity f) else c.qs }

/-- A pulse less than 500 µs after the last counted one is an overrun (R523). -/
def tooSoon (s : State) (c : AsChan) : Bool := match c.countAt with | some t => decide (s.clk < t + 500000) | none => false

/-- An active-going edge of A is accepted (R521, R523). -/
def pulse (n : Nat) (s : State) : State :=
  let c := asChan s n
  if tooSoon s c then
    raise bASSAY 0 (bump 0x100018 n (setAs n (fun c => { c with overrun := true, sawOvr := true }) s))
  else
    let clk := s.clk
    let run := s.assay.engine
    let s := setAs n (countPulse run clk) s
    if ¬ countsForward c ∧ ¬ c.sawRev then raise bASSAY 2 s else s

/-- A level of A is accepted (R522, R524). -/
def acceptA (n : Nat) (high : Bool) (s : State) : State :=
  let was := activeA (asChan s n) (asChan s n).levelA
  let clk := s.clk
  let s := setAs n (fun c => { c with levelA := high }) s
  if activeA (asChan s n) high then
    if was then s else pulse n (setAs n (fun c => { c with activeAt := clk }) s)
  else setAs n (fun c => { c with stuck := false }) s

/-- An interval opens: the opening totals, and the flags that stand (R534). -/
def openInterval (t : Nat) (lost unstored : Bool) (c : AsChan) : AsChan :=
  { c with openFwd := c.totalFwd, openRev := c.totalRev, openAt := BitVec.ofNat 64 t, sawRev := false, sawOvr := c.overrun,
           sawStuck := c.stuck, sawLost := lost, sawUnstored := unstored }

/-- A channel's mode, polarity and debounce set at served time t; a channel that starts to count opens an interval (R67, R534). -/
def AsChan.putSet (t : Nat) (x : AsMode × Bool × Bool × Nat) (c : AsChan) : AsChan :=
  let was := c.counts
  let c := { c with mode := x.1, aLow := x.2.1, dirInv := x.2.2.1, debounce := x.2.2.2, nextSet := none }
  if !was && x.1 != .off then openInterval t false false c else c

/-- A channel whose shutdown is complete: the settings and the enable that waited take effect (R67, R69). -/
def AsChan.settled (t : Nat) (c : AsChan) : AsChan :=
  let d := { c with en := false, shutting := false, pendingEn := false }
  let d := match c.nextSet with | some x => d.putSet t x | none => d
  { d with en := c.pendingEn }

/-- A shutdown completes when its debounce interval has ended; an enable that waited takes effect, as PENDING_DONE tells (R537, R69). -/
def settleAs (n : Nat) (s : State) : State :=
  let t := now s
  let was := (asChan s n).pendingEn
  if (asChan s n).shutting ∧ (asChan s n).shutAt ≤ s.clk then
    let s := setAs n (AsChan.settled t) s
    if was then raise bPARISON 2 s else s
  else s

/-- An accepted pin level (R521, R522, R527). ASSAY_B given to a status function keeps its level for IOCTL_ASSAY_B_IN. -/
def acceptPin (n : Nat) (pinB high : Bool) (s : State) : State :=
  if s.assay.supplyFail then s
  else if pinB then setAs n (fun c => { c with levelB := high }) s
  else if (asChan s n).counts then acceptA n high s
  else s

/-- PIN_LEVEL_ACCEPT (R522): a new level of ASSAY_A or ASSAY_B of a channel has been stable for DEBOUNCE_US. -/
def execPinLevelAccept (ch : Fin 16) (pinB high : Bool) (s : State) : Out :=
  .next (onAon s fun s => acceptPin ch pinB high (settleAs ch s))

/-- STUCK (R524). -/
def execStuck (ch : Fin 16) (s : State) : Out :=
  .next (onAon s fun s =>
    let c := asChan s ch
    if s.assay.stuckS = 0 ∨ ¬ c.counts ∨ c.stuck ∨ ¬ activeA c c.levelA then s
    else
      let s := advanceClk (c.activeAt + s.assay.stuckS * 10 ^ 9) s
      note 0x1040 2 ch.val 0 0 (raise bASSAY 1 (setAs ch (fun c => { c with stuck := true, sawStuck := true }) s)))

/-- A raw total's write succeeds: with UNSTORED set, every total that waits is written (R525, R528). -/
def stored (n : Nat) (s : State) : State :=
  if s.assay.unstored then { mapAs storeChan s with assay.unstored := false } else setAs n storeChan s

/-- A raw total's write fails (R528). -/
def storeFails (s : State) : State :=
  let was := s.assay.unstored
  let s := { mapAs (fun c => { c with sawUnstored := true }) s with assay.unstored := true }
  detect .mram 0 false false (if was then s else raise bASSAY 4 s)

/-- RAW_TOTAL_STORED (R525, R528): ok is false of a write that fails. -/
def execRawTotalStored (ch : Fin 16) (ok : Bool) (s : State) : Out :=
  .next (onAon s fun s => if ¬ (asChan s ch).dirty then s else if ok then stored ch s else storeFails s)

/-- SUPPLY_FAIL (R527): no new pulse is accepted, and the writes in flight complete. -/
def execSupplyFail (s : State) : Out :=
  .next (onAon s fun s =>
    let s := { s with assay.supplyFail := true }
    if s.assay.unstored then s else mapAs storeChan s)

/-- CHECKPOINT_TICK (R530). -/
def execCheckpointTick (s : State) : Out :=
  .next (bus s fun s =>
    if ¬ s.assay.engine ∨ s.assay.ckptMs = 0 then s
    else ckpt (advanceTo (s.assay.nextCkpt * (s.assay.ckptMs * 10 ^ 6)) s))
where
  /-- At the multiple of CKPT_MS. -/
  ckpt (s : State) : State := checkpointAll { s with assay.nextCkpt := s.assay.nextCkpt + 1 }

/-- A command ends (ASSAY_RESULT). -/
def assayEnd (r : AsResult) (s : State) : State := raise bASSAY 5 { s with assay.result := r }

/-- CHECKPOINT (R530). same tells that another master's GO of the same cycle was ordered first: this one is refused with BUSY (R537). -/
def execCheckpoint (same : Bool) (s : State) : Out :=
  .next (bus s fun s => if same then assayEnd .busy s else if ¬ s.assay.engine then assayEnd .mode s else assayEnd .done (checkpointAll s))

/-- A quantity rebased: V is OFFSET, F is 0, and the current source count is P_b (R532). -/
def rebased_ (c : AsChan) (q : Quantity) : Quantity :=
  let v := q.offset.setWidth 80 <<< 16
  { q with val := v, base := v, baseP := c.sourceCount q.source, based := true }

/-- A quantity of a channel. -/
def quantity (s : State) (n q : Nat) : Quantity := nth (asChan s n).qs q {}

/-- REBASE comes from the host or a field core, in the TRUSTED world (R532). -/
def mayRebase (s : State) (a : Access) : Bool :=
  match a.master with
  | .host | .core _ => trusted s a
  | _ => false

/-- REBASE (R532, R536, R537). -/
def execRebase (who : Access) (ch : Fin 16) (q : Fin 4) (same : Bool) (s : State) : Out :=
  .next (bus s fun s =>
    if same then assayEnd .busy s
    else if ¬ s.assay.engine ∨ s.sys.mode = .servitor then assayEnd .mode s
    else if ¬ mayRebase s who then assayEnd .denied s
    else if ¬ (asChan s ch).counts ∨ (quantity s ch q).source = .off then assayEnd .off s
    else assayEnd .done (setAs ch (fun c => { c with qs := lmod c.qs q (rebased_ c) }) s))

/-- IFLAGS of an interval record (R534). -/
def iFlags (c : AsChan) (byHost : Bool) : Nat :=
  b2n c.sawRev + 2 * b2n c.sawOvr + 4 * b2n c.sawStuck + 8 * b2n c.sawLost + 16 * b2n byHost + 32 * b2n c.sawUnstored

/-- The interval record of a channel (R534). -/
def iRecord (s : State) (n : Nat) (byHost : Bool) : Bytes :=
  let c := asChan s n
  let f := (c.totalFwd - c.openFwd).toNat
  let r := (c.totalRev - c.openRev).toNat
  leBytes 1 n ++ leBytes 1 (iFlags c byHost) ++ leBytes 2 0 ++ leBytes 4 s.assay.irecNext.toNat ++ leBytes 8 (now s)
  ++ leBytes 4 ((now s - c.openAt.toNat) / 10 ^ 6) ++ leBytes 4 (satNat 32 f) ++ leBytes 4 (satNat 32 r)
  ++ leBytes 4 (unsignedOf 32 (satSigned 32 ((f : Int) - r)))

/-- A channel's interval closes and the next one opens (R534). -/
def closeOne (byHost : Bool) (s : State) (n : Nat) : State :=
  if ¬ (asChan s n).counts then s
  else
    let r : IRec := { seq := s.assay.irecNext, bytes := iRecord s n byHost, good := true }
    let t := now s
    let u := s.assay.unstored
    let s := setAs n (openInterval t false u) s
    raise bASSAY 3 { s with assay := { s.assay with irecNext := s.assay.irecNext + 1, irecs := (r :: s.assay.irecs).take 4096 } }

/-- CLOSE_INTERVAL (R534, R536, R537). -/
def execCloseInterval (all : Bool) (ch : Fin 16) (same : Bool) (s : State) : Out :=
  .next (bus s fun s =>
    if same then assayEnd .busy s
    else if ¬ s.assay.engine ∨ s.sys.mode = .servitor then assayEnd .mode s
    else if all then assayEnd .done ((List.range 16).foldl (closeOne true) s)
    else if ¬ (asChan s ch).counts then assayEnd .off s
    else assayEnd .done (closeOne true s ch))

/-- INTERVAL_CLOSE (R534, R536): a servitor closes no interval. -/
def execIntervalClose (s : State) : Out :=
  .next (bus s fun s =>
    if ¬ s.assay.engine ∨ s.assay.intervalS = 0 then s
    else closeAll (advanceTo (s.assay.nextInt * (s.assay.intervalS * 10 ^ 9)) s))
where
  /-- At the multiple of INTERVAL_S. -/
  closeAll (s : State) : State :=
    let s := { s with assay.nextInt := s.assay.nextInt + 1 }
    if s.sys.mode = .servitor then s else (List.range 16).foldl (closeOne false) s

/-- ASSAY_SNAPSHOT (R533). -/
def execAssaySnapshot (who : Master) (ch : Fin 16) (s : State) : Out :=
  .next (bus s fun s =>
    let c := asChan s ch
    let x : AsSnap := { master := who, time := BitVec.ofNat 64 (now s), fwd := c.totalFwd, rev := c.totalRev
                        qs := c.qs.map (fun (q : Quantity) => q.val.extractLsb' 16 64) }
    { s with assay.snaps := x :: s.assay.snaps.filter (fun y => y.master != who) })

/-- A write of ASSAY_IREC_SEL copies the record (R534, R537). -/
def irecSelect (seq : Word) (s : State) : State :=
  let s := setReg 0x100070 seq s
  match s.assay.irecs.find? (fun r => r.seq == seq) with
  | some r => { s with assay := { s.assay with irecData := r.bytes, irecValid := r.good, irecGone := false, irecCrcBad := !r.good } }
  | none => { s with assay := { s.assay with irecData := [], irecValid := false, irecGone := true, irecCrcBad := false } }

/-- IREC_SELECT (R534). -/
def execIrecSelect (seq : Word) (s : State) : Out := .next (bus s (irecSelect seq))

/-- A channel's enable written (R69, R70, R537). -/
def assayEnable (n : Nat) (en : Bool) (left : Nat) (s : State) : State :=
  let c := asChan s n
  let at_ := s.clk + left
  if en then setAs n (fun c => if c.shutting then { c with pendingEn := true } else { c with en := true }) s
  else if c.shutting then setAs n (fun c => { c with pendingEn := false }) s
  else if ¬ c.en then s
  else settleAs n (setAs n (fun c => { c with shutting := true, shutAt := at_ }) s)

/-- ASSAY_CHANNEL_ENABLE (R69, R537): left is what remains of a debounce interval in progress, in ns. -/
def execAssayChannelEnable (ch : Fin 16) (en : Bool) (left : Nat) (s : State) : Out :=
  .next (bus s fun s => assayEnable ch en left (settleAs ch s))

end Sys2Proof.Machine
end

