-- ==== Sys2Proof/Machine/SysView.lean ====
section
/-! DEFINITION. SysView.lean: what a read of each SYS register returns (03_modes_power_reset.md, registers). -/

namespace Sys2Proof.Machine

open Sys2Proof

/-- SYS_MODE. -/
def sysModeWord (s : State) : Nat :=
  b2n s.aon.onRes * 2 ^ 31 + b2n (latched s) * 2 ^ 30 + b2n (posFixed s) * 2 ^ 29 + b2n (timeValid s) * 2 ^ 28
  + b2n s.twin.claimO * 2 ^ 27 + b2n s.sys.annealDone * 2 ^ 26 + b2n s.sys.wakeHold * 2 ^ 25 + b2n s.aon.battLow * 2 ^ 24
  + s.sys.cause.code * 2 ^ 16 + s.sys.prev.code * 2 ^ 8 + s.sys.mode.code

/-- SYS_WAKE_SRC. -/
def wakeCode : WakeSrc → Nat
  | .none => 0 | .alarm => 1 | .main => 2 | .solar => 3 | .gpio i => 4 + i.val | .failed => 0xF

/-- SYS_PWR_STATUS. -/
def pwrStatusWord (s : State) : Nat :=
  satNat 16 s.aon.vmainMv * 2 ^ 16 + satNat 14 (s.aon.vresMv / 4) * 4 + 2 * b2n s.aon.refMissing

/-- A read of the SYS register at an offset. -/
def sysWord (s : State) (off : Nat) : Word :=
  if off = 0 then BitVec.ofNat 32 sysId
  else if off = 4 then BitVec.ofNat 32 (sysModeWord s)
  else if off = 0xC then BitVec.ofNat 32 (modeResultWord s)
  else if off = 0x40 then BitVec.ofNat 32 (pwrStatusWord s)
  else if off = 0x44 then BitVec.ofNat 32 (satNat 16 s.aon.battMv * 2 ^ 16 + satNat 16 s.aon.solarMv)
  else if off = 0x5C then s.aon.seconds
  else if off = 0x60 then BitVec.ofNat 32 (wakeCode s.aon.wakeSrc)
  else if off = 0x64 then BitVec.ofNat 32 (unsignedOf 16 s.aon.tj)
  else if (regRow off).isSome then regWord s off
  else 0

end Sys2Proof.Machine
end

