-- ==== Sys2Proof/Machine/Ioctl.lean ====
section
/-! DEFINITION. Ioctl.lean: field drivers, UARTs, the SMBus target and ASSAY_B status inputs (20_pins_electrical.md). -/

namespace Sys2Proof.Machine

open Sys2Proof

/-- IOCTL's block index. -/
def bIOCTL : Nat := 0x12

/-- DRIVER_OVERCURRENT (R564): the driver turns off and is held off. -/
def execDriverOvercurrent (d : Fin 4) (s : State) : Out :=
  .next (onAon s fun s =>
    driveOutputs (raise bIOCTL 0 (setDriver d (fun x => { x with trip := true, held := true, sawStop := false }) s)))

/-- A driver is energised. -/
def energised (s : State) (d : Nat) : Bool := if d < 3 then (qch s d).out else s.quench.permitOut

/-- OPEN_LOAD (R564). -/
def execOpenLoad (d : Fin 4) (s : State) : Out :=
  .next (onAon s fun s =>
    if energised s d then raise bIOCTL 1 (setDriver d (fun x => { x with openLoad := true }) s) else s)

/-- IOCTL_UARTn_CFG. -/
def uartCfg (n : Nat) : Nat := 0x120050 + 0x10 * n

/-- A UART. -/
def uart (s : State) (n : Nat) : Uart := vget s.ioctl.uarts n {}

/-- A UART changed. -/
def setUart (n : Nat) (f : Uart → Uart) (s : State) : State := { s with ioctl.uarts := vmod s.ioctl.uarts n f }

/-- RTK_OWNED: the correction route owns UART0's transmit line (R174). -/
def rtkOwns (s : State) (n : Nat) : Bool := n == 0 && regBit s 0x040034 1

/-- Bytes of a UART that have not left yet. -/
def uartLeft (s : State) (n : Nat) : List (BitVec 8 × Nat) := (uart s n).tx.filter (fun x => decide (s.clk < x.2))

/-- Model clock at which a byte queued now will have left. -/
def uartDone (s : State) (n : Nat) : Nat := ((uartLeft s n).getLast?.map Prod.snd).getD s.clk + uartByteNs s n

/-- A byte queued to send, or dropped at a full FIFO of 64 (IOCTL_UARTn_TX). -/
def uartTx (n : Nat) (b : BitVec 8) (s : State) : State :=
  if ¬ regBit s (uartCfg n) 31 ∨ rtkOwns s n then s
  else if 64 ≤ (uartLeft s n).length then raise bIOCTL 2 (setUart n (fun u => { u with txOvf := true }) s)
  else
    let l := uartLeft s n ++ [(b, uartDone s n)]
    setUart n (fun u => { u with tx := l }) s

/-- UART_TX (R174). -/
def execUartTx (n : Fin 2) (byte : BitVec 8) (s : State) : Out := .next (bus s (uartTx n byte))

/-- A received byte, or one lost to a full FIFO (IOCTL_UARTn_STATUS). A byte with an error is kept with its error bit. -/
def uartRx (n : Nat) (b : BitVec 8) (frameErr parityErr : Bool) (s : State) : State :=
  if ¬ regBit s (uartCfg n) 31 then s
  else
    let par := parityErr && regFld s (uartCfg n) 29 28 != 0
    raise bIOCTL 2 (setUart n (fun u => { u with
      rx := if u.rx.length < 64 then u.rx ++ [b] else u.rx
      rxOvf := u.rxOvf || decide (64 ≤ u.rx.length), frameErr := u.frameErr || frameErr, parityErr := u.parityErr || par }) s)

/-- UART_RX_BYTE. -/
def execUartRxByte (n : Fin 2) (byte : BitVec 8) (frameErr parityErr : Bool) (s : State) : Out :=
  .next (bus s (uartRx n byte frameErr parityErr))

/-- A read of IOCTL_UARTn_RX (R584): the oldest received byte, with VALID. -/
def uartRxRead (n : Nat) (s : State) : State :=
  match (uart s n).rx with
  | b :: l => setUart n (fun u => { u with rx := l }) { s with rdata := BitVec.ofNat 32 (256 + b.toNat) }
  | [] => { s with rdata := 0 }

/-- UART_RX_READ (R584). -/
def execUartRxRead (n : Fin 2) (s : State) : Out := .next (bus s (uartRxRead n))

/-- One bit of the SMBus PEC, the CRC-8 of polynomial x^8 + x^2 + x + 1. -/
def pecBit (c : Nat) : Nat := if 128 ≤ c then (2 * c % 256) ^^^ 7 else 2 * c

/-- One byte of it. -/
def pecByte (c : Nat) (b : BitVec 8) : Nat := (List.range 8).foldl (fun c _ => pecBit c) (c ^^^ b.toNat)

/-- The answer of a Block Read (IOCTL_I2C_CFG). -/
def blockRead (s : State) (c : Nat) (pec : Bool) : SmbAnswer :=
  let a := regFld s 0x120070 6 0
  let bs := leBytes 4 (sysWord s (4 * c)).toNat
  .block bs (if pec then some (BitVec.ofNat 8
    ((leBytes 1 (2 * a) ++ leBytes 1 c ++ leBytes 1 (2 * a + 1) ++ leBytes 1 4 ++ bs).foldl pecByte 0)) else none)

/-- SMBUS_BLOCK_READ (R588): any other transaction, or a command byte above 0x19, gets a NACK. pec is set when the
controller clocks the PEC. -/
def execSmbusBlockRead (c : BitVec 8) (pec : Bool) (s : State) : Out :=
  .next (onAon s fun s =>
    { s with ioctl.smb := if regBit s 0x120070 31 ∧ c.toNat ≤ 0x19 then blockRead s c.toNat pec else .nack })

/-- Channels in QUAD, one bit each. -/
def quadMask (s : State) : Nat := (List.range 16).foldl (fun a n => a + b2n ((asChan s n).mode == .quad) * 2 ^ n) 0

/-- A write of IOCTL_ASSAY_B_FUNC (R578): a bit of a QUAD channel stays clear. -/
def bFuncWrite (w : Word) (s : State) : State := regWrite 0x120030 (w &&& ~~~(BitVec.ofNat 32 (quadMask s))) s

/-- ASSAY_B_FUNC_WRITE (R578). -/
def execAssayBFuncWrite (w : Word) (s : State) : Out := .next (bus s (bFuncWrite w))

end Sys2Proof.Machine
end

