-- ==== Sys2Proof/Machine/RegWrite.lean ====
section
/-! DEFINITION. RegWrite.lean: what a 32-bit write of a register does where its fields are held by a block's own state, and
the plain registers (00_scope.md R5 to R8; 21_address_map.md R579 to R585). -/

namespace Sys2Proof.Machine

open Sys2Proof

/-- Who writes: a master over the interconnect, or none for the image loader (R43). -/
abbrev Writer := Option Access

/-- The master of a writer; the loader's writes stand as the warden's where a rank is recorded. -/
def Writer.rank (a : Writer) : Nat := match a with | some x => x.master.rank | none => 0

/-- A word put at a byte offset of a buffer of n bytes. -/
def putWord (n : Nat) (bs : Bytes) (ofs : Nat) (v : Word) : Bytes := putBytes (padTo n bs) ofs (leBytes 4 v.toNat)

/-- One 32-bit half of a 64-bit component replaced. -/
def putHalf (x : BitVec 64) (hi : Bool) (v : Word) : BitVec 64 :=
  if hi then BitVec.ofNat 64 (v.toNat * 2 ^ 32 + x.toNat % 2 ^ 32) else BitVec.ofNat 64 (x.toNat / 2 ^ 32 * 2 ^ 32 + v.toNat)

/-- A half of a staged position, o bytes from its X_LO (RTK_REF_X_LO to _Z_HI, GRID_ORIGIN_X_LO to _Z_HI). -/
def putStaged (p : Ecef) (o : Nat) (v : Word) : Ecef :=
  let hi := o % 8 == 4
  if o < 8 then { p with x := putHalf p.x hi v }
  else if o < 16 then { p with y := putHalf p.y hi v }
  else { p with z := putHalf p.z hi v }

/-- TIME: SEL, the staged step, RATE, CORR, SOFT_OK and the compares have behaviour of their own (04_timebase.md). -/
def writeTime (o : Nat) (v : Word) (s : State) : State :=
  if o = 0 then
    let s := regWrite 0x020000 v s
    if bit v 0 = s.time.selA then s else selWrite (bit v 0) s
  else if o = 0x18 then { s with time.stepLo := v }
  else if o = 0x44 ∨ o = 0x64 then rateWrite (o == 0x64) v s
  else if o = 0x48 ∨ o = 0x68 then corrWrite (o == 0x68) v s
  else if o = 0x40 ∨ o = 0x60 then softDone (o == 0x60) (regWrite (0x020000 + o) v s)
  else if 0xA4 ≤ o ∧ o ≤ 0xBC ∧ o % 8 = 4 then armed ((o - 0xA4) / 8) (regWrite (0x020000 + o) v s)
  else regWrite (0x020000 + o) v s
where
  /-- A SOFT source is valid only while SOFT_OK is 1 (R110). -/
  softDone (a : Bool) (s : State) : State := if sourceOf s a = 2 ∧ ¬ softOk s a then loseSource a s else s
  /-- A compare armed on a past target fires at once (R121). -/
  armed (n : Nat) (s : State) : State := if cmpArmed s n ∧ isPast (cmpTarget s n) (now s) then fireCompare n s else s

/-- RTK: the staged position. -/
def writeRtk (o : Nat) (v : Word) (s : State) : State :=
  if 0x10 ≤ o ∧ o ≤ 0x24 then { s with rtk.staged := putStaged s.rtk.staged (o - 0x10) v } else regWrite (0x040000 + o) v s

/-- The 32-bit words of a command buffer as bytes. -/
def bufBytes (l : List (BitVec 32)) (words : Nat) : Bytes := (List.range words).flatMap (fun j => leBytes 4 (nth l j 0).toNat)

/-- A word of a command buffer set. -/
def putBuf (l : List (BitVec 32)) (words j : Nat) (v : Word) : List (BitVec 32) :=
  (List.range words).map (fun i => if i = j then v else nth l i 0)

/-- GRID: the staged origin, the command buffer and its GO (R260). -/
def writeGrid (a : Writer) (o : Nat) (v : Word) (s : State) : State :=
  if 0x20 ≤ o ∧ o ≤ 0x34 then { s with grid.staged := putStaged s.grid.staged (o - 0x20) v }
  else if 0x100 ≤ o ∧ o ≤ 0x12C then { s with grid.cmdBuf := putBuf s.grid.cmdBuf 12 ((o - 0x100) / 4) v }
  else if o = 0x70 then
    match a with
    | some x => if bit v 31 then gridGo x.master (bufBytes s.grid.cmdBuf 12) s else s
    | none => s
  else regWrite (0x060000 + o) v s

/-- SETPT: the command buffer and its GO (R300). -/
def writeSetpt (a : Writer) (o : Nat) (v : Word) (s : State) : State :=
  if 0x80 ≤ o ∧ o ≤ 0x9C then { s with setpt.cmdBuf := putBuf s.setpt.cmdBuf 8 ((o - 0x80) / 4) v }
  else if o = 0x40 then
    match a with
    | some x => if bit v 31 then setptGo x.master (bufBytes s.setpt.cmdBuf 8) s else s
    | none => s
  else regWrite (0x070000 + o) v s

/-- RADIO: the selected chain's CTRL and FEM, and the key slots; a change of DN_SLOT resets TX_ASN_MAX to 0 (R323). -/
def writeRadio (o : Nat) (v : Word) (s : State) : State :=
  if o = 0x34 then chainCtrl (regFld s 0x080020 1 0) v s
  else if o = 0x38 then setChain (regFld s 0x080020 1 0) (fem v) s
  else if o = 0x3C then slotChange (regFld s 0x08003C 14 8) (regWrite 0x08003C v s)
  else regWrite (0x080000 + o) v s
where
  /-- RADIO_CHAIN_FEM; PA_LEAD is held at 100 µs. -/
  fem (v : Word) (x : Chain) : Chain :=
    { x with bypass := bit v 31, paPol := bit v 30, lnaPol := bit v 29
             paLead := BitVec.ofNat 8 (min 100 (fld v 15 8)), lnaLead := BitVec.ofNat 8 (fld v 7 0) }
  /-- TX_ASN_MAX and its hold after a write of the key slots. -/
  slotChange (was : Nat) (s : State) : State :=
    if regFld s 0x08003C 14 8 = was then s
    else { s with radio := { s.radio with txMax := 0, asnHold := s.radio.asnHold && decide (s.radio.asn ≤ 0) } }

/-- QUENCH: HOST_HOLD, PERMIT_OUT_EN, the grant enables, DISCREPANT and the commands act at once (11_quench_permit.md). -/
def writeQuench (a : Writer) (o : Nat) (v : Word) (s : State) : State :=
  if o = 0 then driveOutputs (settleVote .host (Writer.rank a) (regWrite 0x090000 v s))
  else if 0x30 ≤ o ∧ o ≤ 0x3C then driveOutputs (regWrite (0x090000 + o) v s)
  else if o = 0x08 then (List.range 3).foldl (fun s k => if bit v (8 * k + 3) then clearDiscrepant k s else s) s
  else if o = 0x0C then
    match a with
    | some x => quenchCmd x.master v s
    | none => s
  else regWrite (0x090000 + o) v s

/-- A group's weight and core mask as last written. -/
def groupWritten (s : State) (g : Nat) : Nat × BitVec 8 :=
  ((s.dispatch.nextGroups.filter (fun x => x.1 == g)).getLast?.map Prod.snd).getD (group s g)

/-- A group's weight and core mask written: in force at the next dispatcher tick (R471); a weight of 0 is ignored. -/
def writeGroup (g : Nat) (v : Word) (s : State) : State :=
  if locked s 0x0D0040 then s
  else
    let old := groupWritten s g
    let w := if fld v 7 0 = 0 then old.1 else fld v 7 0
    { s with dispatch.nextGroups := s.dispatch.nextGroups ++ [(g, w, BitVec.ofNat 8 (fld v 15 8))] }

/-- A list of per-master words with one master's entry replaced. -/
def putMaster {α : Type} (l : List (Master × α)) (m : Master) (x : α) : List (Master × α) :=
  let rest := l.filter (fun y => y.1 != m)
  rest.filter (fun y => decide (y.1.rank < m.rank)) ++ [(m, x)] ++ rest.filter (fun y => decide (m.rank < y.1.rank))

/-- DISPATCH: RUN, the groups, the descriptor buffer, and a master's own DELAY_LO (R585). -/
def writeDispatch (a : Writer) (o : Nat) (v : Word) (s : State) : State :=
  if o = 0 then writeRun (fld v 7 0) 0 (regWrite 0x0D0000 v s)
  else if 0x40 ≤ o ∧ o ≤ 0x7C then writeGroup ((o - 0x40) / 4) v s
  else if 0x80 ≤ o ∧ o ≤ 0x9C then { s with dispatch.descBuf := putBuf s.dispatch.descBuf 8 ((o - 0x80) / 4) v }
  else
    match a with
    | some x =>
      if o = 0xB8 then { s with dispatch.delayLo := putMaster s.dispatch.delayLo x.master v }
      else regWrite (0x0D0000 + o) v s
    | none => regWrite (0x0D0000 + o) v s

/-- The writer stands on the host side of a mailbox; the loader on both. -/
def hostSide (a : Writer) (m : Nat) : Bool := match a with | some x => onHostSide m x.master | none => true

/-- The writer stands on the core side of a mailbox. -/
def coreSide (a : Writer) (m : Nat) : Bool := match a with | some x => onCoreSide m x.master | none => true

/-- W1C of one direction's flags: collision, emptied, reader reset, writer reset. -/
def MbDir.w1c (d : MbDir) (col emp rx tx : Bool) : MbDir :=
  { d with collision := d.collision && !col, empty := d.empty && !emp, rxReset := d.rxReset && !rx, txReset := d.txReset && !tx }

/-- The bells, masks, enables and flags of a mailbox (R478 to R481). -/
def writeMailbox (a : Writer) (m o : Nat) (v : Word) (s : State) : State :=
  let host := hostSide a m
  let core := coreSide a m
  if o = 0x10 then
    setMb m (fun x => { x with h2c := x.h2c.w1c (bit v 0) (bit v 4) (bit v 6) (bit v 7), c2h := x.c2h.w1c (bit v 1) (bit v 5) (bit v 8) (bit v 9) }) s
  else if o = 0x14 then
    setMb m (fun x => { x with h2c := { x.h2c with bell := if core then x.h2c.bell &&& ~~~v else if host then x.h2c.bell ||| v else x.h2c.bell } }) s
  else if o = 0x1C then
    setMb m (fun x => { x with c2h := { x.c2h with bell := if host then x.c2h.bell &&& ~~~v else if core then x.c2h.bell ||| v else x.c2h.bell } }) s
  else if o = 0x18 ∧ core then setMb m (fun x => { x with h2c := { x.h2c with mask := v } }) s
  else if o = 0x20 ∧ host then setMb m (fun x => { x with c2h := { x.c2h with mask := v } }) s
  else if o = 0x24 ∧ host then setMb m (fun x => { x with hostIe := BitVec.ofNat 4 (fld v 3 0) }) s
  else if o = 0x28 ∧ core then setMb m (fun x => { x with coreIe := BitVec.ofNat 4 (fld v 3 0) }) s
  else s

/-- A command queue's registers; BASE stands in the register file (R489). -/
def writeCq (n o : Nat) (v : Word) (s : State) : State :=
  if o = 0x08 then cqConfig n v s
  else if o = 0x0C then tailWrite n v s
  else if o = 0x18 then setCq n (fun c => { c with overfill := c.overfill && !bit v 1, flushed := c.flushed && !bit v 0 }) s
  else if (cq s n).en ∧ o < 0x08 then s
  else regWrite (0x0E0800 + 0x40 * n + o) v s

/-- An event queue's registers; BASE, SHADOW and the watermarks stand in the register file (R494). -/
def writeEq (q o : Nat) (v : Word) (s : State) : State :=
  if o = 0x08 then eqConfig q v s
  else if o = 0x0C then headWrite q v s
  else if o = 0x24 then setEq q (fun e => { e with badHead := e.badHead && !bit v 1, lost := e.lost && !bit v 0 }) s
  else if (eq_ s q).en ∧ (o < 0x08 ∨ o = 0x14 ∨ o = 0x18) then s
  else regWrite (0x0E0C00 + 0x40 * q + o) v s

/-- HOSTIF: mailboxes and queues. -/
def writeHostif (a : Writer) (o : Nat) (v : Word) (s : State) : State :=
  if 0x100 ≤ o ∧ o < 0x340 then writeMailbox a ((o - 0x100) / 0x40) (o % 0x40) v s
  else if 0x800 ≤ o ∧ o < 0xC00 then writeCq ((o - 0x800) / 0x40) (o % 0x40) v s
  else if 0xC00 ≤ o ∧ o < 0x1000 then writeEq ((o - 0xC00) / 0x40) (o % 0x40) v s
  else regWrite (0x0E0000 + o) v s

/-- GEODE: a master's own buffers (R514, R585) and the response (R505). -/
def writeGeode (a : Writer) (o : Nat) (v : Word) (s : State) : State :=
  if 0x120 ≤ o ∧ o ≤ 0x12C then
    if a.any (fun x => x.master != .host) then s else { s with geode.resp := BitVec.ofNat 128 (leNat (putWord 16 (leBytes 16 s.geode.resp.toNat) (o - 0x120) v)) }
  else
    match a with
    | some x =>
      if 0x40 ≤ o ∧ o ≤ 0x7C then setBufs x.master (fun b => { b with keyBuf := putWord 64 b.keyBuf (o - 0x40) v }) s
      else if o = 0x80 then setBufs x.master (fun b => { b with attr := v }) s
      else if o = 0x8C then setBufs x.master (arg v) s
      else if 0xA0 ≤ o ∧ o ≤ 0x104 then setBufs x.master (fun b => { b with wrap := putWord 104 b.wrap (o - 0xA0) v }) s
      else regWrite (0x0F0000 + o) v s
    | none => regWrite (0x0F0000 + o) v s
where
  /-- GEODE_ARG. -/
  arg (v : Word) (b : GBufs) : GBufs :=
    { b with value := BitVec.ofNat 16 (fld v 31 16), labelLen := fld v 13 8, ctxLen := fld v 5 0 }

/-- ASSAY: OVERRUN, EN of the selected channel and the record select. What is left of a debounce interval in progress is no
state of the part's registers: a disable through here takes it as a free value within the interval (R537). -/
def writeAssay (o : Nat) (v : Word) (s : State) : State :=
  let n := regFld s 0x100008 3 0
  if o = 0x10 then (if bit v 0 then setAs n (fun c => { c with overrun := false }) s else s)
  else if o = 0x14 then assayEnable n (bit v 31) (freeVal s % ((asChan s n).debounce * 1000 + 1)) (settleAs n (drawn s))
  else if o = 0x70 then irecSelect v s
  else regWrite (0x100000 + o) v s

/-- IOCTL: the B functions, the driver flags and the UARTs (20_pins_electrical.md). -/
def writeIoctl (o : Nat) (v : Word) (s : State) : State :=
  if o = 0x30 then bFuncWrite v s
  else if o = 0x40 then
    (List.range 4).foldl (fun s d => setDriver d (fun x =>
      { x with trip := x.trip && !bit v (4 * d + 2), openLoad := x.openLoad && !bit v (4 * d + 1) }) s) s
  else if o = 0x54 ∨ o = 0x64 then setUart ((o - 0x54) / 0x10) (flags v) s
  else if o = 0x58 ∨ o = 0x68 then uartTx ((o - 0x58) / 0x10) (BitVec.ofNat 8 (fld v 7 0)) s
  else regWrite (0x120000 + o) v s
where
  /-- W1C of UARTn_STATUS. -/
  flags (v : Word) (x : Uart) : Uart :=
    { x with rxOvf := x.rxOvf && !bit v 19, frameErr := x.frameErr && !bit v 18, parityErr := x.parityErr && !bit v 17, txOvf := x.txOvf && !bit v 16 }

/-- An aligned 32-bit write of a register (R5, R7, R8, R581). -/
def busWrite (a : Writer) (off : Nat) (v : Word) (s : State) : State :=
  let o := off % 0x10000
  match off / 0x10000 with
  | 0x02 => writeTime o v s
  | 0x04 => writeRtk o v s
  | 0x06 => writeGrid a o v s
  | 0x07 => writeSetpt a o v s
  | 0x08 => writeRadio o v s
  | 0x09 => writeQuench a o v s
  | 0x0A => if o = 0x1C then portEnable (regFld s 0x0A0010 3 0) (bit v 31) s else regWrite off v s
  | 0x0B => if o = 0 then linkEnWrite v s else regWrite off v s
  | 0x0D => writeDispatch a o v s
  | 0x0E => writeHostif a o v s
  | 0x0F => writeGeode a o v s
  | 0x10 => writeAssay o v s
  | 0x11 => if o = 0x2C then sumSelect (fld v 5 0) s else regWrite off v s
  | 0x12 => writeIoctl o v s
  | 0x100 => if o < 0x40 then { s with lode.buffer := putWord 64 s.lode.buffer o v } else s
  | _ => regWrite off v s

end Sys2Proof.Machine
end

