-- ==== Sys2Proof/Machine/Form.lean ====
section
/-! DEFINITION. Form.lean: how the gathers of a checked image are applied, by forming and by re-forming
(02_parison_image.md R42, R43, R55, R59, R65 to R67, with each block's home chapter). -/

namespace Sys2Proof.Machine

open Sys2Proof

/-- AON time in ns: SYS_AON_TIME with the sub-second phase of its counter (R59). -/
def aonTime (s : State) : Int := (s.aon.seconds.toNat * 10 ^ 9 + 10 ^ 9 + s.aon.aonNs : Nat) - (s.aon.secondAt : Int)

/-- A payload read by a type, or the default of its home chapter (R42). -/
def gatherAs {α : Type} (l : List Gather) (t : Nat) (f : Bytes → α) (d : α) : α := match payOf l t with | some bs => f bs | none => d

/-- A port's state as forming leaves it: its links are down (12_packet_switch.md; assumption log 24). -/
def freshPort (p : PortCfg) : SwPort := { en := p.en }

/-- PORTS, PARSER0, PARSER1 and QUEUES, with the packet buffer that LODE_PART gives (R204, R378, R381, R390). -/
def formSwitch (l : List Gather) (s : State) : State :=
  { s with switch :=
      { ports := portsIn l
        live := (portsIn l).map freshPort
        qcfg := gatherAs l 0x20 (fun bs => (recs 8 512 (bs.drop 32)).map queueOf) (List.replicate 512 {})
        bounds := gatherAs l 0x20 boundsOf []
        graph0 := gatherAs l 0x02 parserOf {}
        graph1 := gatherAs l 0x03 parserOf {}
        blocks := (banksOf l 0xFE).length * 8192 } }

/-- Physical banks of the 64 logical ones: bank n on physical bank n, and a spare in place of one that is retired (R60,
R202, R236). -/
def mapBanks (owners : List Nat) (retired : List Nat) : List Bank :=
  let spares := ([64, 65] ++ (List.range 64).filter (fun n => nth owners n 0xFF == 0xFF)).filter (fun p => !retired.contains p)
  let r := (List.range 64).foldl (fun (x : List Bank × List Nat) n =>
    let o := nth owners n 0xFF
    let st : BankState := if o = 0xFF then .off else .active
    let b : Bank := { owner := BitVec.ofNat 8 o, phys := n, state := st }
    match x.2 with
    | sp :: rest => if o ≠ 0xFF ∧ retired.contains n = true then (x.1 ++ [{ b with phys := sp }], rest) else (x.1 ++ [b], x.2)
    | [] => (x.1 ++ [b], [])) ([], spares)
  r.1

/-- An instance of a table in a pipeline, with its four seeds drawn (R206, R212). -/
def newInst (l : List Gather) (fresh k : Nat) (d : TableDesc) (pipe : Bool) : Inst :=
  { table := d.id, pipe := pipe, banks := instBanks l d pipe
    seeds := (List.range 4).map (fun j => BitVec.ofNat 32 (Config.freeNat (fresh + 4 * k + j))) }

/-- Every instance of the tables. -/
def newInsts (l : List Gather) (fresh : Nat) : List Inst :=
  let ps := (tablesIn l).flatMap (fun d => ([false, true].filter (fun p => d.pipeMask.toNat.testBit (b2n p))).map (fun p => (d, p)))
  (List.range ps.length).flatMap (fun k => match ps[k]? with | some x => [newInst l fresh k x.1 x.2] | none => [])

/-- LODE_PART and LODE_TABLES: the Lode SRAM is cleared (R55, R202, R206, R212). -/
def formLode (l : List Gather) (s : State) : State :=
  let insts := newInsts l s.fresh
  let retired := s.lode.retired
  let t := now s
  { s with
    fresh := s.fresh + 4 * insts.length
    lode :=
      { tables := tablesIn l
        insts := insts.map (fun (i : Inst) => { i with sweepStart := t })
        banks := mapBanks (gatherAs l 0x10 (fun bs => (List.range 64).map (byteAt bs)) []) retired
        run0 := true, run1 := true, retired := retired } }

/-- A command queue cleared; a retired one stays so (R55, R488). -/
def clearCq (c : CmdQueue) : CmdQueue :=
  { owner := c.owner, sizeLog2 := c.sizeLog2, state := if c.state = .retired then .retired else .off }

/-- An event queue cleared. -/
def clearEq (e : EvtQueue) : EvtQueue :=
  { solution := e.solution, owner := e.owner, coalN := e.coalN, coalUs := e.coalUs, sizeLog2 := e.sizeLog2
    state := if e.state = .retired then .retired else .off }

/-- The queue SRAM and every queue cleared (R55). -/
def formQueues (s : State) : State :=
  { s with hostif := { s.hostif with
      cqs := s.hostif.cqs.map clearCq, eqs := s.hostif.eqs.map clearEq, hostPool := [], corePool := [] } }

/-- DISPATCH (R456, R473). -/
def formDispatch (l : List Gather) (s : State) : State :=
  let s := clearDispatch s
  { s with dispatch := { s.dispatch with groups := gatherAs l 0x30 groupsOf (List.replicate 16 (1, 0xFF)), nextGroups := [] } }

/-- Fields of the TIME payload (R589): SLEW_PPM, AGE_LIMIT_S, AGE_ACTION, SOURCES, PPS_WIDTH_US. -/
def timeFields (bs : Bytes) : Nat × Nat × Nat × Nat × Nat :=
  (byteAt bs 0, byteAt bs 1, byteAt bs 2, byteAt bs 3, leAt bs 4 4)

/-- The TIME payload of an image, or its defaults (R589). -/
def timeIn (l : List Gather) : Nat × Nat × Nat × Nat × Nat := gatherAs l 0x40 timeFields (20, 10, 0, 1, 100000)

/-- The limits and the pulse width of a TIME payload. -/
def timeLimits (x : Nat × Nat × Nat × Nat × Nat) (s : State) : State :=
  setRegFld 0x020080 23 0 x.2.2.2.2 { s with time := { s.time with slewPpm := x.1, ageLimit := x.2.1, ageQuench := x.2.2.1 == 1 } }

/-- A domain after a main-die reset: rate, slew and corrections 0, and an offset that makes its time the AON time, or 0
(R59). -/
def domainAtBoot (s : State) (src : Nat) : Domain :=
  { off40 := if s.aon.aligned.isSome then (aonTime s - s.time.raw) * q40 else 0, source := src }

/-- A domain that a host-commanded forming keeps (R59). -/
def domainKept (clk : Nat) (d : Domain) (src : Nat) : Domain :=
  { off40 := d.off40, rate := d.rate, pend40 := d.pend40, source := src, rateLog := [(clk, d.rate.toInt)] }

/-- TIME (R59, R100, R589): boot is true of a forming after a main-die reset. -/
def formTime (l : List Gather) (boot : Bool) (s : State) : State :=
  let x := timeIn l
  let pSrc := x.2.2.2.1 % 4
  let aSrc := x.2.2.2.1 / 4
  let dp := if boot then domainAtBoot s pSrc else domainKept s.clk s.time.p pSrc
  let da := if boot then domainAtBoot s aSrc else domainKept s.clk s.time.a aSrc
  timeLimits x { s with time := { s.time with p := dp, a := da, resid40 := if boot then 0 else s.time.resid40, cleanAt := none } }

/-- The GNSS settings when the gather is absent (05_gnss_baseband.md). -/
def gnssDefault : GnssCfg := { elevMask := 5, rateHz := 10, spacing := 4, doubleDelta := true, mpThr := 32 }

/-- GNSS_SPOOF_CFG and GNSS_SPOOF_BASE as the gather or the defaults of R149 and R150 give them. -/
def spoofRegs (l : List Gather) (s : State) : State :=
  let x := gatherAs l 0x50 Config.gnssSpoof (0x053A0F14, 0, 0, 0)
  setReg 0x03005C x.2.2.2 (setReg 0x030058 x.2.2.1 (setReg 0x030054 x.2.1 (setRegFld 0x030050 27 0 x.1.toNat s)))

/-- The spoof check under new settings (R150). -/
def spoofFor (c : GnssCfg) (old : Spoof) : Spoof :=
  if ¬ c.spoofEn then { state := .disabled } else if old.state = .disabled then { state := .notReady } else old

/-- GNSS (R55, R139, R142, R143, R158): what the MRAM holds and the retired blocks stay; the antenna supplies are off until
REGINIT or a write enables them. -/
def formGnss (l : List Gather) (s : State) : State :=
  let c := gatherAs l 0x50 Config.gnssOf gnssDefault
  spoofRegs l { s with gnss :=
    { cfg := c, retired := s.gnss.retired, aiding := s.gnss.aiding, spoof := spoofFor c {}
      paths := Vector.ofFn (fun k => { floor := Config.gnssFloor k.val }) } }

/-- ROUTES and SIGN_EN of RTK_SIGN_CFG: SIGN_EN stays clear without a fit SIGN_MSG (R174, R177). -/
def rtkRegs (l : List Gather) (s : State) : State :=
  let routes := gatherAs l 0x51 (fun bs => byteAt bs 8) 1
  let sign := gatherAs l 0x51 (fun bs => (byteAt bs 0x2C).testBit 1) false
  setRegFld 0x040034 31 31 (b2n sign) (setRegFld 0x040034 2 0 routes s)

/-- RTK (R163, R201): the reference state is NONE, and what the MRAM holds stays. -/
def formRtk (l : List Gather) (s : State) : State :=
  rtkRegs l { s with rtk :=
    { cfg := gatherAs l 0x51 rtkOf rtkDefault, stored := s.rtk.stored, sdMm := 0xFFFF
      lanesRetired := s.rtk.lanesRetired, searchOk := s.rtk.searchOk } }

/-- Zones written into the ZONE table in their order; one that the table cannot take is reported as TABLE_FULL (R221). -/
def putZones (l : List Zone) (s : State) : State :=
  l.foldl (fun s z => match addZone z s with | some t => t | none => zoneTableFull s) s

/-- OCC_LIMIT is held at the OCC table's LEARN_LIMIT (R277). -/
def heldOcc (l : List Gather) (c : GridCfg) : GridCfg :=
  match (tablesIn l).find? (fun d => d.content == .occ) with
  | some d => { c with occLimit := min c.occLimit d.learnLimit }
  | none => c

/-- The GRID settings of an image. -/
def gridFrom (l : List Gather) : GridCfg := heldOcc l (gatherAs l 0x60 gridOf gridDefault)

/-- GRID (R243, R277): a held origin stays. -/
def formGrid (l : List Gather) (s : State) : State :=
  putZones (gatherAs l 0x60 zonesOf []) { s with grid :=
    { cfg := gridFrom l, present := (payOf l 0x60).isSome, origin := s.grid.origin } }

/-- SETPT (R305). -/
def formSetpt (l : List Gather) (s : State) : State :=
  { s with setpt := { cfg := gatherAs l 0x61 setptOf setptDefault } }

/-- TXPWR is −10 dBm to +14 dBm in steps of 0.5 dB (RADIO_CHAIN_CTRL; assumption log 23). -/
def clampPower (b : Nat) : BitVec 8 := BitVec.ofInt 8 (max (-20) (min 28 (signedOf 8 b)))

/-- A chain as the RADIO gather sets it; the FEM's polarities and leads are reset (R55). -/
def formChain (bs : Bytes) (c : Nat) (x : Chain) : Chain :=
  let r := chainRec bs c
  { cfg := chainIn bs c, en := byteAt r 0 == 1, txpwr := clampPower (byteAt r 5), bypass := byteAt r 6 == 1
    health := x.health }

/-- A chain without a RADIO gather does not operate (R42). -/
def idleChain (x : Chain) : Chain :=
  { health := x.health }

/-- HOPS and LEDGER (R351, R352). -/
def radioTables (l : List Gather) (s : State) : State :=
  { s with radio := { s.radio with
      ofs := gatherAs l 0x71 (fun bs => (List.range 3).map (byteAt bs)) []
      hops := bandsIn l
      windowS := gatherAs l 0x72 (fun bs => leAt bs 0 2) 3600
      limits := ledgerIn l } }

/-- The PARENT of the RADIO gather (R338, R350). -/
def parentIn (bs : Bytes) : Option Parent :=
  if byteAt bs 0x18 = 0xFF then none
  else some { eui := BitVec.ofNat 64 (leAt bs 0x10 8), chain := byteAt bs 0x18, unit := byteAt bs 0x19 == 1 }

/-- The radio of a RADIO gather: TX_ASN_MAX stays (R323, R350). -/
def radioFrom (bs : Bytes) (r : Radio) : Radio :=
  { present := true, schedE := leAt bs 0 8, unit := byteAt bs 8 == 1, quenchRepeat := byteAt bs 0xA, pendantHoldMs := leAt bs 0xC 2
    pendants := (recs 16 (min 16 (byteAt bs 0xB)) (bs.drop 0x500)).map (fun p => BitVec.ofNat 64 (leAt p 0 8))
    parent := parentIn bs, chains := Vector.ofFn (fun (c : Fin 3) => formChain bs c (vget r.chains c {})), nodes := nodesOf bs, txMax := r.txMax }

/-- RADIO, HOPS and LEDGER (R42, R350 to R352). -/
def formRadio (l : List Gather) (s : State) : State :=
  radioTables l (match payOf l 0x70 with
    | some bs => setRegFld 0x080000 1 0 (byteAt bs 9) { s with radio := radioFrom bs s.radio }
    | none => { s with radio := { chains := s.radio.chains.map idleChain, txMax := s.radio.txMax } })

/-- A quantity under new settings; one that was off must be rebased (R532). -/
def newQuantity (r : Bytes) (old : Quantity) : Quantity :=
  let q := quantityAt r
  { old with source := q.source, gain := q.gain, offset := q.offset, based := old.based && old.source != .off }

/-- The four quantities of a channel record. -/
def newQuantities (r : Bytes) (c : AsChan) : List Quantity :=
  (List.range 4).map (fun j => newQuantity (bytesAt r (8 + 16 * j) 16) (nth c.qs j {}))

/-- A channel's settings; its totals and its quantities' bases stay. -/
def formAsChan (r : Bytes) (t : Nat) (c : AsChan) : AsChan :=
  let m := asModeOf (byteAt r 0)
  let fresh := !c.counts && m != .off
  let c := { c with
    mode := m, aLow := (byteAt r 1).testBit 0, dirInv := (byteAt r 1).testBit 1, debounce := leAt r 2 2, en := m != .off
    shutting := false, pendingEn := false, nextSet := none, qs := newQuantities r c }
  if fresh then openInterval t false false c else c

/-- The ASSAY payload when the gather is absent: every channel OFF (R538). -/
def assayDefault : Bytes :=
  leBytes 2 1000 ++ leBytes 2 10 ++ leBytes 4 3600 ++ List.replicate 8 0
  ++ (List.range 16).flatMap (fun _ => leBytes 2 0 ++ leBytes 2 1000 ++ List.replicate 68 0)

/-- CKPT_MS, STUCK_S and INTERVAL_S of an ASSAY payload. -/
def assayHead (bs : Bytes) (s : State) : State :=
  { s with assay := { s.assay with ckptMs := leAt bs 0 2, stuckS := leAt bs 2 2, intervalS := leAt bs 4 4 } }

/-- ASSAY (R538): the engine is off while the part forms (R535). -/
def formAssay (l : List Gather) (s : State) : State :=
  let bs := gatherAs l 0x80 id assayDefault
  let t := now s
  let rs := assayRecs bs
  let chs : Vector AsChan 16 := Vector.ofFn (fun (n : Fin 16) => formAsChan (nth rs n []) t (asChan s n))
  assayHead bs (engineStop { s with assay.chs := chs })

/-- STRATA (R543, R545). -/
def formStrata (l : List Gather) (s : State) : State :=
  match payOf l 0x90 with
  | some bs => strataForm (leAt bs 0 4) (byteAt bs 4) (byteAt bs 5) ((recs 8 (byteAt bs 5) (bs.drop 16)).map selOf) s
  | none => strataForm 16384 16 0 [] s

/-- GEODE_POLICY and WRAPPED_KEYS, after every slot is erased (R515, R517). -/
def formGeode (l : List Gather) (s : State) : State :=
  (unwrapAll (gatherAs l 0xA1 wrapRecs []) (freshVault l s)).2

/-- TWIN (R415, R434): the link leaves its state, and the claim stays as it is. -/
def formTwin (l : List Gather) (s : State) : State :=
  let s := if s.twin.link = .off then s else leaveLink .off s
  let x := gatherAs l 0xB0 (fun bs => (true, byteAt bs 0 == 1, byteAt bs 1, leAt bs 2 2)) (false, false, 0, 0)
  let t := s.twin
  { s with twin :=
    { present := x.1, unit := x.2.1, mirrorSet := BitVec.ofNat 6 x.2.2.1, staleMs := x.2.2.2
      claimO := t.claimO, claimI := t.claimI, claimIAt := t.claimIAt, claimOAt := t.claimOAt, gateOpen := t.gateOpen, everOpen := t.everOpen
      gap := t.gap, gapAt := t.gapAt, result := t.result, pair := if x.1 then .unpaired else .alone } }

/-- Counts that start at 0 at forming: quenches and reports (R367, R446). -/
def formCounts (s : State) : State :=
  { s with quench := { s.quench with count := 0, qseq := 0 }, fault.reportSeq := 0
           sys := { s.sys with annealDone := false, shed := false, ageTaken := false, thermalReq := false } }

/-- REGINIT: each pair is one write by the image loader (R43). -/
def applyPairs (l : List (Nat × Word)) (s : State) : State := l.foldl (fun s p => busWrite none p.1 p.2 s) s

/-- Blocks that gathers configure (R41): TIME to RADIO, SWITCH, TWIN, DISPATCH, GEODE and ASSAY. QUENCH and STRATA stand in the
AON island, which forming does not touch (R58). -/
def formedBlocks : List Nat := [0x02, 0x03, 0x04, 0x05, 0x06, 0x07, 0x08, 0x0A, 0x0B, 0x0D, 0x0F, 0x10]

/-- A register when its block is reset: its Reset value; the lock bit stays until the reset of the domain, and the RWL fields
that a set lock bars stay with it (R8; assumption log 24). -/
def resetWord (s : State) (off : Nat) (w : Word) : Word :=
  match regRow off with
  | some r =>
    let keep : Word := BitVec.ofNat 32 (r.w1s ||| (if locked s off then r.rwl else 0))
    (w &&& keep) ||| (BitVec.ofNat 32 r.rst &&& ~~~keep)
  | none => w

/-- The registers and counters of every block that a gather configures are reset (R55). -/
def resetBlocks (s : State) : State :=
  let mine (off : Nat) : Bool := formedBlocks.contains (off / 0x10000)
  { s with
    regs := ((s.regs.map (fun p => if mine p.1 then (p.1, resetWord s p.1 p.2) else p)).filter (fun p => p.2 != regReset p.1))
    counts := s.counts.filter (fun p => !mine (p.1 / 2 ^ 24)) }

/-- Every gather of a checked image applied, in ascending TYPE order with REGINIT last, after each block that a gather
configures is reset (R55). -/
def applyImage (l : List Gather) (boot : Bool) (s : State) : State :=
  let s := formDispatch l (formQueues (formLode l (formSwitch l (formCounts (resetBlocks s)))))
  let s := formGrid l (formRtk l (formGnss l (formTime l boot s)))
  let s := formStrata l (formAssay l (formRadio l (formSetpt l s)))
  realignTicks (applyPairs (gatherAs l 0xF0 pairsOf []) (formTwin l (formGeode l s)))

/-- Frames in the switch. -/
def framesHeld (s : State) : Nat := ((List.range 16).map (fun p => countFrames s p (fun _ _ => true))).sum

/-- Application starts: a forming that the host commands discards the in-flight work of every block as a suffix
(R29, R57), and the mode is FORMING (R78). -/
def startApplying (s : State) : State :=
  if s.sys.mode = .forming then s
  else
    let n := plannerWork s + framesHeld s
    toMode .forming .hostReq Master.host.rank (finishRequest .conflictLost (discard allTargets 4 7 0 0xFF n true s))

/-- Quantities that a forming enables are rebased (R532). -/
def rebaseNew (c : AsChan) : AsChan :=
  { c with qs := c.qs.map (fun (q : Quantity) => if q.source = .off ∨ q.based = true then q else rebased_ c q) }

/-- The first multiple of 1 s from the schedule epoch on that is not past: a slotframe boundary (R311). -/
def nextFrame (s : State) : Nat := s.radio.schedE + cdiv (now s - s.radio.schedE) (10 ^ 9) * 10 ^ 9

/-- The served time of the next measurement epoch; now, if the epoch of this instant has been latched (assumption log 24). -/
def epochPoint (s : State) : Nat :=
  let hz := epochHz s
  if 0 < s.time.nextEpoch ∧ now s = cdiv ((s.time.nextEpoch - 1) * 10 ^ 9) hz then now s else cdiv (s.time.nextEpoch * 10 ^ 9) hz

/-- The served time at which a re-formed gather takes effect (R41); 0 for at once. -/
def effectPoint (t : Nat) (s : State) : Nat :=
  match t with
  | 0x30 => s.time.nextDisp * 10 ^ 4
  | 0x40 | 0x61 => s.time.nextProf * 10 ^ 6
  | 0x50 | 0x51 => epochPoint s
  | 0x71 | 0x72 => nextFrame s
  | _ => 0

/-- Domains that a re-forming gives another source lose the one they had, in one event (R110, R135). -/
def resource_ (p a : Nat) (s : State) : State :=
  let s := loseSources ([false, true].filter (fun x => (dom s x).source != (if x then a else p))) s
  setDom true { dom s true with source := a } (setDom false { dom s false with source := p } s)

/-- TIME re-formed (R65, R66). -/
def reformTime (bs : Bytes) (s : State) : State :=
  let x := timeFields bs
  resource_ (x.2.2.2.1 % 4) (x.2.2.2.1 / 4) (timeLimits x s)

/-- Channels under a new ANT_MODE: A_ONLY leaves ANT_B's, and in DUAL each channel gets its partner (R139). -/
def reformChans (aOnly : Bool) (l : List (Nat × Channel)) : List (Nat × Channel) :=
  let a := l.filter (fun p => decide (p.1 < 256))
  if aOnly then a
  else a.foldl (fun l p =>
    if p.2.state = .retired ∨ (kget l (p.1 + 256)).isSome = true then l
    else kset l (p.1 + 256) { state := .acquire, sig := p.2.sig, svid := p.2.svid }) l

/-- A band path under new settings: one that is powered down reports nothing (R137; assumption log 17). -/
def reformPath (c : GnssCfg) (k : Nat) (p : BandPath) : BandPath := if pathPowered c k then p else { floor := p.floor }

/-- GNSS re-formed: the first epoch at a new rate carries RATE_CHANGED (R137, R139, R143, R158; 05_gnss_baseband.md, coincidences). -/
def reformGnss (bs : Bytes) (s : State) : State :=
  let c := Config.gnssOf bs
  let changed := c.rateHz != s.gnss.cfg.rateHz
  let s := spoofRegs [{ type := 0x50, payload := bs }] { s with gnss := { s.gnss with
    cfg := c, rateChanged := s.gnss.rateChanged || changed, spoof := spoofFor c s.gnss.spoof
    chans := reformChans c.aOnly s.gnss.chans
    notches := s.gnss.notches.filter (fun p => pathPowered c (p.1 / 8) && c.notchEn.toNat.testBit (p.1 / 8))
    paths := s.gnss.paths.mapIdx (reformPath c) } }
  let s := retireChans (if c.aOnly then antSample true 0 s else s)
  if changed then { s with time.nextEpoch := now s * epochHz s / 10 ^ 9 + 1 } else s

/-- A machine under a new admission list: one that leaves it keeps the epochs in process until they are solved (R200). -/
def reformMach (c : RtkCfg) (p : Nat × RtkMach) : Option (Nat × RtkMach) :=
  if c.admitted.any (fun m => m.mach == p.1) then some (p.1, { p.2 with leaving := false })
  else
    let l := p.2.epochs.filter (fun e => e.doneAt.isSome)
    if l = [] then none else some (p.1, { p.2 with epochs := l, leaving := true })

/-- RTK re-formed: a machine that leaves the list leaves its filter (R179, R200, R201). -/
def reformRtk (bs : Bytes) (s : State) : State :=
  let c := rtkOf bs
  rtkRegs [{ type := 0x51, payload := bs }] { s with rtk := { s.rtk with
    cfg := c, machs := s.rtk.machs.filterMap (reformMach c) } }

/-- A zone leaves the list and the ZONE table. -/
def dropZones (s : State) : State :=
  match zoneTable s with
  | none => { s with grid.zones := [] }
  | some d => s.grid.zones.foldl (fun s z => deleteWritten d (zoneEntry z).key s) { s with grid.zones := [] }

/-- GRID re-formed: the zones are replaced where they differ (R277). -/
def reformGrid (all : List Gather) (bs : Bytes) (s : State) : State :=
  let z := zonesOf bs
  let s := { s with grid := { s.grid with cfg := heldOcc all (gridOf bs), present := true } }
  if z = s.grid.zones then s else putZones z (dropZones s)

/-- A channel of a re-formed ASSAY. New gains, offsets and sources hold at once. A changed mode shuts a counting channel down,
and mode, polarity and debounce change as its shutdown completes, with the enable that waits for it (R67, R69). -/
def reformAsChan (rs : List Bytes) (s : State) (n : Nat) : State :=
  let r := nth rs n []
  let x : AsMode × Bool × Bool × Nat := (asModeOf (byteAt r 0), (byteAt r 1).testBit 0, (byteAt r 1).testBit 1, leAt r 2 2)
  let was := asChan s n
  let s := setAs n (fun c => rebaseNew { c with qs := newQuantities r c }) s
  if x.1 ≠ was.mode ∧ was.counts then
    let s := assayEnable n false (freeVal s % (was.debounce * 1000 + 1)) (drawn (setAs n (fun c => { c with nextSet := some x }) s))
    if x.1 = .off then s else assayEnable n true 0 s
  else
    let t := now s
    let s := setAs n (AsChan.putSet t x) s
    if x.1 ≠ was.mode ∧ x.1 ≠ .off then assayEnable n true 0 s else s

/-- ASSAY re-formed: every derived quantity is checkpointed first (R67). -/
def reformAssay (bs : Bytes) (s : State) : State :=
  let rs := assayRecs bs
  (List.range 16).foldl (reformAsChan rs) (assayHead bs (checkpointAll s))

/-- One re-formed gather takes effect (R65); all are the gathers that will be in force. -/
def reformGather (all : List Gather) (g : Gather) (s : State) : State :=
  match g.type with
  | 0x30 => { s with dispatch := { s.dispatch with groups := groupsOf g.payload, nextGroups := [] } }
  | 0x40 => reformTime g.payload s
  | 0x50 => reformGnss g.payload s
  | 0x51 => reformRtk g.payload s
  | 0x60 => reformGrid all g.payload s
  | 0x61 => { s with setpt.cfg := setptOf g.payload }
  | 0x71 => { s with radio := { s.radio with ofs := (List.range 3).map (byteAt g.payload), hops := hopsOf g.payload } }
  | 0x72 => { s with radio := { s.radio with windowS := leAt g.payload 0 2, limits := ledgerGo (byteAt g.payload 2) (g.payload.drop 16) } }
  | 0x80 => reformAssay g.payload s
  | 0xF0 => applyPairs (pairsOf g.payload) s
  | _ => s

/-- A re-formed gather takes effect now, as REGINIT does only once no other waits (R41, R65). The point of GNSS and RTK is an epoch once it
has been latched (R161). -/
def effectNow (t : Nat) (s : State) : State :=
  match s.parison.waiting.find? (fun g => g.type == t) with
  | none => s
  | some g =>
    if t = 0xF0 ∧ s.parison.waiting.length ≠ 1 then s
    else if (t = 0x50 ∨ t = 0x51) ∧ epochPoint s ≠ now s then s
    else
      let all := overlay s.parison.image s.parison.waiting
      gone t (reformGather all g (advanceTo (effectPoint t s) s))
where
  /-- It waits no longer. -/
  gone (t : Nat) (s : State) : State := { s with parison.waiting := s.parison.waiting.filter (fun g => g.type != t) }

/-- The next allotment has come: a re-formed GRID takes effect before it is swept, with a REGINIT that stood behind it (R41). -/
def gridEffect (s : State) : State :=
  if s.parison.waiting.any (fun g => g.type == 0x60) then effectNow 0xF0 (effectNow 0x60 s) else s

end Sys2Proof.Machine
end

