-- ==== Sys2Proof/Machine/Allot.lean ====
section
/-! DEFINITION. Allot.lean: the ALLOT command, which a re-formed GRID waits for (08_field_grid.md R253 to R262; 02_parison_image.md
R41, R65). -/

namespace Sys2Proof.Machine

open Sys2Proof

/-- ALLOT. An EXTEND that waits goes first (R260); a re-formed GRID takes effect before the sweep (R41). -/
def execAllot (src : CmdSrc) (s : State) : Out :=
  .next (gridBus s (gridCmd 0x03 src (fun c s => allot c (expireAllots (gridEffect s)))))

end Sys2Proof.Machine
end

