-- ==== Sys2Proof/Machine/Epoch.lean ====
section
/-! DEFINITION. Epoch.lean: the measurement epoch with all that acts at its instant (05_gnss_baseband.md R152, R156, R161). -/

namespace Sys2Proof.Machine

open Sys2Proof

/-- An allocator run that has waited for this epoch (R161). -/
def allocDue (s : State) : State := match s.gnss.allocDue with | some sky => wholeSecond sky s | none => s

/-- Re-formed gathers whose point is this epoch, which was latched under the old ones (R41, R161). -/
def epochEffects (s : State) : State :=
  if s.parison.waiting.any (fun g => g.type == 0x50 || g.type == 0x51) then effectNow 0xF0 (effectNow 0x51 (effectNow 0x50 s)) else s

/-- MEASUREMENT_EPOCH (R152): the next multiple of the epoch period. The epoch before it has stood in its bank since 1 ms after it
(R156), and a bundle that waits for port 15 leaves if the port is up (R175). -/
def execMeasurementEpoch (meas : EpochMeas) (s : State) : Out :=
  .next (gnssEvent (fun s =>
    let s := advanceTo (cdiv (s.time.nextEpoch * 10 ^ 9) (epochHz s)) (ethSettle (writeBank s))
    allocDue (epochEffects (measurementEpoch meas { s with time.nextEpoch := s.time.nextEpoch + 1 }))) s)

end Sys2Proof.Machine
end

