-- ==== Sys2Proof/Machine/Parison.lean ====
section
/-! DEFINITION. Parison.lean: the loader's commands: starting an action, reading and checking an image, applying and storing
it, the boot order, and the store directory (02_parison_image.md). -/

namespace Sys2Proof.Machine

open Sys2Proof

/-- Codes of PARISON_STATUS.ERR. -/
def LoadErr.code : LoadErr → Nat
  | .none => 0x00 | .sourceEmpty => 0x01 | .headerCrc => 0x02 | .version => 0x03 | .target => 0x04 | .length => 0x05
  | .keyUnknown => 0x06 | .signature => 0x07 | .rollback => 0x08 | .gatherCrc => 0x09 | .gatherOrder => 0x0A | .gatherFlag => 0x0B
  | .missing => 0x0C | .semantic => 0x0D | .mode => 0x0E | .fixedDiffers => 0x0F | .busy => 0x10 | .readFault => 0x11
  | .lifeCycle => 0x12 | .resource => 0x13

/-- A source as PARISON_STATUS.LAST_SRC names it. -/
def LoadSrc.code : LoadSrc → BitVec 2
  | .qspi _ => 0 | .host _ => 1 | .slot _ => 2

/-- SYS_MODE.CAUSE of a load's transitions. -/
def LoadKind.cause : LoadKind → ModeCause
  | .boot => .boot | .wake => .wake | .host => .hostReq

/-- Who is recorded as the source of a load's transitions. -/
def LoadKind.rank : LoadKind → Nat
  | .host => Master.host.rank | _ => srcSelf

/-- A slot of the image store. -/
def storeSlot (s : State) (n : Nat) : StoreSlot := vget s.parison.slots n {}

/-- A slot of the image store replaced. -/
def setSlot (n : Nat) (x : StoreSlot) (s : State) : State := { s with parison.slots := vmod s.parison.slots n (fun _ => x) }

/-- The load in progress changed. -/
def setLoad (f : Load → Load) (s : State) : State := { s with parison.load := s.parison.load.map f }

/-- An operation ends with its outcome in ERR, and DONE or FAILED (PARISON_STORE_CTRL, R591). STATE is no part of the outcome of
a store-directory operation or of a START that is refused before it reads: it stays as it was (DESIGN CHOICE, assumption
log 24). -/
def reportErr (e : LoadErr) (s : State) : State := raise bPARISON (if e = .none then 0 else 1) { s with parison.err := e }

/-- The loader stops with a failed check: ERR, STATE, FAILED and PARISON_FAIL_AT in one cycle (R591). -/
def failNow (e : LoadErr) (t w : Nat) (s : State) : State :=
  reportErr e { s with parison := { s.parison with loader := .failed, load := none, failType := t, failWord := w } }

/-- An action ends well. -/
def doneNow (s : State) : State :=
  reportErr .none { s with parison := { s.parison with loader := .done, load := none, failType := 0, failWord := 0 } }

/-- The order has reached the host (R53). -/
def waitHost (s : State) : State := { s with parison := { s.parison with loader := .waitHost, load := none, bootLeft := [] } }

/-- A failed attempt of the boot order: its count, its record, and on a wake the failure of the ACTIVE slot (R52, R95). -/
def attemptFailed (p : Nat) (e : LoadErr) (wake : Bool) (s : State) : State :=
  let s := note 0x0140 3 p e.code 0 { s with parison.attempts := min 7 (s.parison.attempts + 1) }
  if wake then { s with aon := { s.aon with wakeSrc := .failed, waking := false } } else s

/-- A load starts to read; in RESET a forming action reads FORMING from its first byte (R56, R57). -/
def beginLoad (l : Load) (s : State) : State :=
  let s := { s with parison := { s.parison with
    load := some l, loader := .reading, err := .none, failType := 0, failWord := 0, lastSrc := l.src.code } }
  if s.sys.mode = .reset ∧ (l.action = 0 ∨ l.action = 3) then toMode .forming l.kind.cause l.kind.rank s else s

/-- The image length limit of R34. -/
def maxImage : Nat := 8 * 2 ^ 20

/-- The store slot of a place of the boot order. -/
def bootSlot (s : State) (p : Nat) : Option (Fin 4) :=
  if p = 0 then some s.parison.active else if p = 1 then some s.parison.fallback else none

/-- The load of a place of the boot order (R50, R52). -/
def bootLoad (wake : Bool) (p : Nat) (s : State) : Load :=
  let kind : LoadKind := if wake then .wake else .boot
  match bootSlot s p with
  | some n => { kind := kind, src := .slot n, limit := (storeSlot s n).image.length, position := some p }
  | none => { kind := kind, src := .qspi (if p = 2 then 0 else 0x01000000), limit := maxImage, position := some p }

/-- A place of the boot order that cannot be read: a slot whose VALID bit is clear (R50). -/
def emptySlot (s : State) (p : Nat) : Bool := match bootSlot s p with | some n => !(storeSlot s n).valid | none => false

/-- The boot order goes on with the places left (R50, R52, R53, R95). -/
def bootGo (wake : Bool) : List Nat → State → State
  | [], s => waitHost s
  | p :: rest, s =>
    if p = 4 then waitHost s
    else if emptySlot s p then bootGo wake rest (attemptFailed p .sourceEmpty wake (failNow .sourceEmpty 0 0 { s with parison.lastSrc := 2 }))
    else beginLoad (bootLoad wake p s) { s with parison.bootLeft := rest }

/-- The order of PARISON_BOOT_SRC (R52). -/
def bootOrder (o : Nat) : List Nat := match o with | 0 => [0, 1, 2, 3, 4] | 1 => [2, 3, 4] | 2 => [0, 1, 4] | _ => [4]

/-- The order of a boot, or of a wake: the ACTIVE slot, the FALLBACK slot, then the other sources of the boot order (R95). -/
def orderFor (wake : Bool) (s : State) : List Nat :=
  let o := bootOrder (regFld s 0x010014 1 0)
  if wake then [0, 1] ++ o.filter (fun p => decide (2 ≤ p)) else o

/-- The loader starts the boot order (R52, R95). -/
def bootStart (wake : Bool) (s : State) : State := bootGo wake (orderFor wake s) { s with parison.attempts := 0 }

/-- The boot order goes on after a failed attempt, once SYS_MODE has returned to RESET (R48). The host's own load stands last
in the order: after its failure the loader stays FAILED until the next START (R53, R591). -/
def nextAttempt (l : Load) (e : LoadErr) (s : State) : State :=
  let wake := l.kind == .wake
  match l.position with
  | some p =>
    let s := attemptFailed p e wake s
    if p = 4 then s else bootGo wake s.parison.bootLeft s
  | none => s

/-- A check fails before application (R48, R591). -/
def loadFail (e : LoadErr) (t w : Nat) (s : State) : State :=
  match s.parison.load with
  | none => s
  | some l =>
    let s := failNow e t w s
    if s.sys.mode = .forming then nextAttempt l e (toMode .reset l.kind.cause l.kind.rank s) else s

/-- The bytes that PARISON_SRC_LEN lets the loader read (PARISON_SRC_LEN). -/
def hostLimit (s : State) : Nat := min maxImage (regFld s 0x010010 23 0)

/-- PARISON_SRC_ADDR. -/
def srcAddr (s : State) : Nat := (regWord s 0x01000C).toNat * 2 ^ 32 + (regWord s 0x010008).toNat

/-- The load that a START names (PARISON_CTRL). -/
def hostLoad (action src : Nat) (slot : Fin 4) (s : State) : Load :=
  let pos : Option Nat := if s.sys.mode = .reset ∧ (action = 0 ∨ action = 3) then some 4 else none
  let b : Load := { kind := .host, action := BitVec.ofNat 2 action, src := .slot slot, slot := slot, position := pos }
  if src = 0 then { b with src := .qspi (srcAddr s % 2 ^ 28), limit := maxImage }
  else if src = 1 then { b with src := .host (srcAddr s), limit := hostLimit s }
  else { b with limit := (storeSlot s slot).image.length }

/-- A source slot whose VALID bit is clear fails at once (R50). -/
def emptySource (l : Load) (s : State) : State :=
  let s := failNow .sourceEmpty 0 0 { s with parison.lastSrc := l.src.code }
  match l.position with
  | some p => attemptFailed p .sourceEmpty false s
  | none => s

/-- START is written (PARISON_CTRL, R50, R51, R71). -/
def startAction (action : Nat) (src slot : Fin 4) (s : State) : State :=
  if s.parison.load.isSome then reportErr .busy s
  else if src = 3 ∨ (src.val < 2 ∧ regFld s 0x010008 2 0 ≠ 0) then reportErr .semantic s
  else if 2 ≤ action ∧ (slot = s.parison.active ∨ src = 2) then reportErr .busy s
  else
    let l := hostLoad action src.val slot s
    if src = 2 ∧ ¬ (storeSlot s slot).valid then emptySource l s else beginLoad l s

/-- FORM (R57, R64). -/
def execForm (src slot : Fin 4) (s : State) : Out := .next (bus s (startAction 0 src slot))

/-- CHECK_ONLY (R47). -/
def execCheckOnly (src slot : Fin 4) (s : State) : Out := .next (bus s (startAction 1 src slot))

/-- CHECK_AND_STORE (R51). -/
def execCheckAndStore (src slot : Fin 4) (s : State) : Out := .next (bus s (startAction 2 src slot))

/-- FORM_AND_STORE (R51, R64). -/
def execFormAndStore (src slot : Fin 4) (s : State) : Out := .next (bus s (startAction 3 src slot))

/-- The bytes that a read brings: those of the stored image for a store slot, else what the source holds. -/
def readBytes (l : Load) (ofs n : Nat) (bytes : Bytes) (s : State) : Bytes :=
  match l.src with
  | .slot k => bytesAt (storeSlot s k).image ofs n
  | _ => padTo n bytes

/-- Checks 1 to 5 of R47 on a header, with the bytes that the source offers (R36, R37). -/
def headerErr (limit : Nat) (h : Bytes) : LoadErr :=
  let len := leAt h 8 4
  if leAt h 0 4 ≠ 0x36395A54 then .sourceEmpty
  else if BitVec.ofNat 32 (leAt h 0x3C 4) ≠ crc32c (bytesAt h 0 0x3C) then .headerCrc
  else if ¬ (byteAt h 5 = 3 ∧ byteAt h 4 ≤ 1 ∧ leAt h 6 2 = 64 ∧ leAt h 0xE 2 ≤ 1 ∧ leAt h 0x12 2 = 0 ∧ leAt h 0x24 24 = 0) then .version
  else if leAt h 0x14 4 ≠ sysId then .target
  else if maxImage < len ∨ limit < len ∨ len < 288 then .length
  else .none

/-- The fields of a header (R36). -/
def headerOf (h : Bytes) : ImageHeader :=
  { imgLen := leAt h 8 4, gatherCount := leAt h 0xC 2, reformOnly := (byteAt h 0xE).testBit 0, secVersion := leAt h 0x10 2
    buildId := BitVec.ofNat 64 (leAt h 0x18 8), serial := BitVec.ofNat 32 (leAt h 0x20 4) }

/-- The source is a slot whose VALID bit an INVALIDATE_SLOT has cleared since START: the loader reads it no further (R50). -/
def lostSource (l : Load) (s : State) : Bool := match l.src with | .slot k => !(storeSlot s k).valid | _ => false

/-- The header has been read (R591). -/
def headerRead (bytes : Bytes) (s : State) : State :=
  match s.parison.load with
  | none => s
  | some l =>
    if l.header.isSome then s
    else if lostSource l s then loadFail .sourceEmpty 0 0 s
    else
      let h := readBytes l 0 64 bytes s
      let e := headerErr l.limit h
      if e ≠ .none then loadFail e 0 0 s
      else if leAt h 0xC 2 = 0 then loadFail .length 0 0 s
      else setLoad (fun l => { l with header := some (headerOf h), rawHeader := h, offset := 64, fails := 0 }) s

/-- HEADER_READ (R47, R591). -/
def execHeaderRead (bytes : Bytes) (s : State) : Out := .next (bus s (headerRead bytes))

/-- Check 6 on a gather header: the code and, if it passes, nothing (R38 to R40, R47, R61). -/
def gatherErr (x : ImageHeader) (last ofs : Nat) (h : Bytes) : LoadErr :=
  let t := leAt h 0 2
  let n := leAt h 4 4
  if ¬ knownType t ∨ t ≤ last then .gatherOrder
  else if leAt h 2 2 ≠ b2n (reformable t) ∨ (x.reformOnly ∧ ¬ reformable t) ∨ leAt h 8 2 ≠ 1 ∨ leAt h 0xA 2 ≠ 0 then .gatherFlag
  else if n % 8 ≠ 0 ∨ n < 8 ∨ 4 * 2 ^ 20 < n ∨ x.imgLen - 200 < ofs + 16 + n then .length
  else .none

/-- The TYPE of the last gather read; 0 before the first. -/
def lastType (l : Load) : Nat := match l.gathers.getLast? with | some g => g.type | none => 0

/-- A gather header has been read. -/
def gatherHeader (l : Load) (x : ImageHeader) (bytes : Bytes) (s : State) : State :=
  let h := readBytes l l.offset 16 bytes s
  let e := gatherErr x (lastType l) l.offset h
  if e ≠ .none then loadFail e (leAt h 0 2) 0 s
  else
    let g : Gather := { type := leAt h 0 2, flags := leAt h 2 2, payCrc := BitVec.ofNat 32 (leAt h 0xC 4), header := h }
    setLoad (fun l => { l with head := some (g, leAt h 4 4), fails := 0 }) s

/-- A payload has been read: its PAY_CRC, and after the last gather the place of the signature block (R47). -/
def gatherPayload (l : Load) (x : ImageHeader) (g : Gather) (n : Nat) (bytes : Bytes) (s : State) : State :=
  let p := readBytes l (l.offset + 16) n bytes s
  let stop := l.offset + 16 + n
  let last := l.gathers.length + 1 = x.gatherCount
  if crc32c p ≠ g.payCrc then loadFail .gatherCrc g.type 0 s
  else if last ∧ stop ≠ x.imgLen - 200 then loadFail .length g.type 0 s
  else
    let s := setLoad (fun l => { l with gathers := l.gathers ++ [{ g with payload := p }], head := none, offset := stop, fails := 0 }) s
    if last then { s with parison.loader := .checking } else s

/-- A gather's header, or then its payload, has been read (R591). -/
def gatherRead (bytes : Bytes) (s : State) : State :=
  match s.parison.load with
  | none => s
  | some l =>
    match l.header with
    | none => s
    | some x =>
      if s.parison.loader ≠ .reading then s
      else if lostSource l s then loadFail .sourceEmpty 0 0 s
      else match l.head with
        | some (g, n) => gatherPayload l x g n bytes s
        | none => gatherHeader l x bytes s

/-- GATHER_READ (R47, R591). -/
def execGatherRead (bytes : Bytes) (s : State) : Out := .next (bus s (gatherRead bytes))

/-- A transfer from the source is under way: the header, a gather header or payload, or the signature block (R49). -/
def readsNow (l : Load) (s : State) : Bool := s.parison.loader == .reading || (s.parison.loader == .checking && !l.sigDone)

/-- PARISON_FAIL_AT.TYPE of a READ_FAULT: the gather whose payload is being read, as its header has named it; 0 before a
header is known, and for the signature block (DEDUCED, assumption log 24). -/
def readFaultType (l : Load) : Nat := match l.head with | some (g, _) => g.type | none => 0

/-- SOURCE_READ_ERROR (R49): the read is sent again twice. -/
def execSourceReadError (s : State) : Out :=
  .next (bus s fun s =>
    match s.parison.load with
    | some l =>
      if ¬ readsNow l s then s
      else if 2 ≤ l.fails then loadFail .readFault (readFaultType l) 0 s
      else setLoad (fun l => { l with fails := l.fails + 1 }) s
    | none => s)

/-- The bytes that the signature covers (R45). -/
def signedBytes (l : Load) : Bytes := l.rawHeader ++ l.gathers.flatMap (fun g => g.header ++ g.payload)

/-- Checks 7 to 9 of R47 (R44 to R46). -/
def signatureErr (f : Fuses) (x : ImageHeader) (msg sig : Bytes) : LoadErr :=
  let pub := bytesAt sig 0 97
  if f.life = .scrapped then .lifeCycle
  else if ¬ f.hashes.any (fun h => hashServes h f.life && h.hash == Config.sha384 pub) then .keyUnknown
  else if ¬ (Config.ecdsaVerify pub msg (bytesAt sig 97 96) = true ∧ leAt sig 193 7 = 0) then .signature
  else if x.secVersion < f.secMin then .rollback
  else .none

/-- The signature check ends (R56 step 3). -/
def signatureDone (sig : Bytes) (s : State) : State :=
  match s.parison.load with
  | none => s
  | some l =>
    match l.header with
    | none => s
    | some x =>
      if s.parison.loader ≠ .checking ∨ l.sigDone then s
      else if lostSource l s then loadFail .sourceEmpty 0 0 s
      else
        let b := readBytes l l.offset 200 sig s
        let e := signatureErr s.geode.fuses x (signedBytes l) b
        if e ≠ .none then loadFail e 0 0 s
        else setLoad (fun l => { l with sigBytes := b, sigDone := true, fails := 0 }) s

/-- SIGNATURE_CHECK_DONE (R45 to R47, R591). -/
def execSignatureCheckDone (sig : Bytes) (s : State) : Out := .next (bus s (signatureDone sig))

/-- Modes in which a full image forms (R57, R64): a load that began in RESET reads FORMING now. -/
def formMode (m : Mode) : Bool := m == .forming || m == .maintenance || m == .quenched

/-- Modes of R63. -/
def reformMode (s : State) : Bool :=
  match s.sys.mode with
  | .survey | .quenched | .maintenance | .servitor => true
  | .anneal => s.sys.annealDone
  | _ => false

/-- An action that applies what it has checked. -/
def applies (l : Load) : Bool := l.action == 0 || l.action == 3

/-- The image re-forms, or is checked as one that would (R61, R64). -/
def asReform (l : Load) (x : ImageHeader) (s : State) : Bool := x.reformOnly || (applies l && !formMode s.sys.mode)

/-- The gathers that would be in force with an image (R42, R61, R62). -/
def wouldHold (l : Load) (x : ImageHeader) (s : State) : List Gather :=
  if asReform l x s then overlay s.parison.image l.gathers else l.gathers

/-- Check 12 of R47: the code and the gather it names (R57, R62 to R64). -/
def modeErr (l : Load) (x : ImageHeader) (s : State) : LoadErr × Nat :=
  if ¬ applies l ∨ (¬ x.reformOnly ∧ formMode s.sys.mode) then (.none, 0)
  else if ¬ reformMode s then (.mode, 0)
  else if x.reformOnly then (.none, 0)
  else match fixedDiffers s.parison.image l.gathers with
    | some t => (.fixedDiffers, t)
    | none => (.none, 0)

/-- PARISON_FAIL_AT.WORD of a bad field; no rule gives it for a payload of an unsuitable length (assumption log 23). -/
def failWordOf (o : Option Nat) (s : State) : Nat := match o with | some k => min 0xFFFF (k / 8) | none => freeVal s % 0x10000

/-- Application of a forming starts, and its gathers are applied (R55, R56 step 5, R57). -/
def applyForm (l : Load) (s : State) : State :=
  let boot := s.sys.mode == .forming
  let gs := l.gathers
  let s := applyImage gs boot (startApplying s)
  { s with parison := { s.parison with image := gs, inStore := false, loader := .applying, waiting := [] } }

/-- Application of a re-forming starts: each gather waits for its point (R65); one that still waits from an earlier re-forming
gives way to the same type. -/
def applyReform (l : Load) (s : State) : State :=
  setLoad (fun l => { l with reform := true })
    { s with parison := { s.parison with
        loader := .applying, waiting := overlay s.parison.waiting (l.gathers.filter (fun g => reformable g.type)) } }

/-- The slot that an action stores in is written from now on; its old image is gone (R50, R51). A slot that has become the
ACTIVE one since START is not overwritten (R51). -/
def startStore (s : State) : State :=
  match s.parison.load with
  | some l =>
    if l.slot = s.parison.active then failNow .busy 0 0 s
    else setSlot l.slot {} (setLoad (fun l => { l with storing := true }) s)
  | none => s

/-- Checks 10 to 12 have passed (R56 step 4). -/
def checksPassed (l : Load) (x : ImageHeader) (s : State) : State :=
  let s := setLoad (fun l => { l with checked := true }) s
  if l.action = 1 then doneNow s
  else if l.action = 2 then startStore s
  else if ¬ x.reformOnly ∧ formMode s.sys.mode = true then applyForm l s
  else applyReform l s

/-- The range and consistency check ends (R56 step 4). -/
def semanticDone (s : State) : State :=
  match s.parison.load with
  | none => s
  | some l =>
    match l.header with
    | none => s
    | some x =>
      if ¬ l.sigDone ∨ l.checked then s
      else
        let missing := if x.reformOnly then none else missingType l.gathers
        match missing with
        | some t => loadFail .missing t 0 s
        | none =>
          match semanticFault s l.gathers (wouldHold l x s) (asReform l x s) with
          | some (t, o) => loadFail .semantic t (failWordOf o s) (drawn s)
          | none =>
            let e := modeErr l x s
            if e.1 ≠ .none then loadFail e.1 e.2 0 s else checksPassed l x s

/-- SEMANTIC_CHECK_DONE (R47, R55 to R57, R591). -/
def execSemanticCheckDone (s : State) : Out := .next (bus s semanticDone)

/-- Some logical bank that LODE_PART assigns has no working physical bank (R60). -/
def bankMissing (s : State) : Bool := s.lode.banks.any (fun (b : Bank) => b.owner != 0xFF && s.lode.retired.contains b.phys)

/-- The boot that follows a RESOURCE: an attempt of the boot order goes on with the order, and a forming that the host
commanded starts it anew (R52, R60; assumption log 24). -/
def bootAgain (l : Load) (s : State) : State :=
  match l.position with
  | some p => if p = 4 then bootStart false (attemptFailed p .resource false s) else nextAttempt l .resource s
  | none => bootStart false s

/-- Application ends with RESOURCE: the structure is gone, and the loader boots (R60, R78, R449). -/
def applyFails (l : Load) (s : State) : State :=
  let s := failNow .resource 0 0 s
  let s := toMode .reset l.kind.cause l.kind.rank { s with parison := { s.parison with image := [], imageId := [], inStore := false } }
  bootAgain l s

/-- Every byte of an image. -/
def imageBytes (l : Load) : Bytes := signedBytes l ++ l.sigBytes

/-- PARISON_FIXED_SUM: the CRC-32C over the headers of the fixed gathers, in TYPE order. -/
def fixedSumOf (gs : List Gather) : Word := crc32c ((gs.filter (fun g => !reformable g.type)).flatMap Gather.header)

/-- The CRC-32C over the re-formable gathers in force, by which the model compares them with the peer's (R68). No rule says how the
units learn of each other's: the model takes the peer's sum from its HELLO and its TIME frames (DESIGN CHOICE, assumption log 24). -/
def reformSum (s : State) : Word :=
  crc32c ((s.parison.image.filter (fun g => reformable g.type)).flatMap (fun g => g.header ++ g.payload))

/-- IMAGE_SKEW (R68): the re-formable gathers of the two units differ. -/
def imageSkew (s : State) : Bool := match s.twin.peerReform with | some w => w != reformSum s | none => false

/-- The image was read from the ACTIVE slot (R72). -/
def fromActive (l : Load) (s : State) : Bool := match l.src with | .slot n => n == s.parison.active | _ => false

/-- What the status registers report of a formed image (R65, R72). -/
def formReport (l : Load) (x : ImageHeader) (s : State) : State :=
  { s with parison := { s.parison with
      build := x.buildId, serial := x.serial, inForce := x.secVersion, fixedSum := fixedSumOf l.gathers, imageId := imageBytes l
      inStore := fromActive l s, reformed := false } }

/-- The stored position is confirmed at the end of forming if AUTO_CONFIRM is set (R163). -/
def autoConfirm (s : State) : State :=
  match s.rtk.stored with
  | some (p, src) => if s.rtk.cfg.autoConfirm then confirmStart p src s else s
  | none => s

/-- The blocks that run from the end of forming (R163, R270, R415, R531, R532). -/
def startBlocks (s : State) : State := linkStart (autoConfirm (gridStart (mapAs rebaseNew (engineStart s))))

/-- The mode that follows FORMING (R590), with its cause. R78 pairs no code of SYS_MODE.CAUSE with its rows: the model takes
PEER_CLAIM for FORMING to SERVITOR, FORMED for the other ends of FORMING, BOOT, WAKE or HOST_REQ for its start, MAIN_LOST for ANNEAL
to RESERVE, and BATT_LOW for DORMANT at the warden's request (DESIGN CHOICE, assumption log 25). -/
def modeAfter (s : State) : Mode × ModeCause :=
  if s.aon.onRes then (.reserve, .formed)
  else if s.twin.present ∧ s.twin.claimI then (.servitor, .peerClaim)
  else if latched s then (.quenched, .formed)
  else (.survey, .formed)

/-- The claim at the end of forming (R407, R409). -/
def claimAfter (s : State) : State :=
  if s.sys.mode = .servitor then dropClaim s
  else if ¬ s.twin.present ∨ claimFree s = true then raiseClaim s
  else s

/-- Application has ended: DONE, or the store write that follows it (R51). -/
def afterApply (l : Load) (s : State) : State := if l.action = 3 then startStore s else doneNow s

/-- A forming ends (R56 step 6, R590). -/
def formDone (l : Load) (x : ImageHeader) (s : State) : State :=
  let s := startBlocks (formReport l x { s with aon.formed := true })
  let s := note 0x0141 1 x.buildId.toNat x.serial.toNat x.secVersion s
  let m := modeAfter s
  afterApply l (claimAfter (toMode m.1 m.2 l.kind.rank s))

/-- The types that a re-forming has changed, one bit for each position of R41. -/
def typeBits (gs : List Gather) : Nat :=
  ((List.range gatherTypes.length).map (fun k =>
    match gatherTypes[k]? with
    | some x => if gs.any (fun g => g.type == x.1 && reformable x.1) then 2 ^ k else 0
    | none => 0)).sum

/-- The bytes of a re-forming image that by itself would form what is now in force, for R72: a full image whose gathers are all
that is in force; none else. -/
def wholeImage (l : Load) (x : ImageHeader) (image : List Gather) : Bytes := if ¬ x.reformOnly ∧ image = l.gathers then imageBytes l else []

/-- A re-forming ends (R65, R72). -/
def reformDone (l : Load) (x : ImageHeader) (s : State) : State :=
  let image := overlay s.parison.image (l.gathers.filter (fun g => reformable g.type))
  let s := { s with parison := { s.parison with
    image := image, imageId := wholeImage l x image, build := x.buildId, inForce := x.secVersion, reformed := true, inStore := false } }
  afterApply l (note 0x0142 1 (typeBits l.gathers) 0 0 s)

/-- A gather of the re-forming is still on its way to a point that time alone brings. GRID waits for the next allotment, and a
REGINIT behind it waits with it: neither keeps application from ending (R41, R65; assumption log 24). -/
def applyingNow (s : State) : Bool :=
  let rest := s.parison.waiting.filter (fun g => g.type != 0x60 && g.type != 0xF0)
  rest != [] || (s.parison.waiting.any (fun g => g.type == 0xF0) && !s.parison.waiting.any (fun g => g.type == 0x60))

/-- Application ends. -/
def applicationDone (s : State) : State :=
  match s.parison.load with
  | none => s
  | some l =>
    match l.header with
    | none => s
    | some x =>
      if s.parison.loader ≠ .applying ∨ l.storing then s
      else if l.reform then (if applyingNow s then s else reformDone l x s)
      else if l.resource ∨ bankMissing s = true then applyFails l s
      else formDone l x s

/-- APPLICATION_DONE (R56, R590). -/
def execApplicationDone (s : State) : Out := .next (bus s applicationDone)

/-- The store write ends: VALID when the written copy has passed checks 1 to 9 (R50, R51). -/
def storeDone (ok : Bool) (s : State) : State :=
  match s.parison.load with
  | none => s
  | some l =>
    if ¬ l.storing then s
    else if ok then doneNow (setSlot l.slot { valid := true, image := imageBytes l } s)
    else failNow .readFault 0 0 s

/-- STORE_WRITE_DONE (R50, R51). -/
def execStoreWriteDone (ok : Bool) (s : State) : Out := .next (bus s (storeDone ok))

/-- The ACTIVE slot holds the image in force (R72). -/
def nowInStore (n : Fin 4) (s : State) : Bool :=
  s.parison.imageId != [] && (storeSlot s n).image == s.parison.imageId

/-- MAKE_ACTIVE (PARISON_STORE_CTRL, R72). -/
def execMakeActive (slot : Fin 4) (s : State) : Out :=
  .next (bus s fun s =>
    if ¬ (storeSlot s slot).valid then reportErr .busy s
    else
      let held := nowInStore slot s
      reportErr .none { s with parison := { s.parison with active := slot, inStore := held } })

/-- MAKE_FALLBACK (PARISON_STORE_CTRL). -/
def execMakeFallback (slot : Fin 4) (s : State) : Out :=
  .next (bus s fun s =>
    if ¬ (storeSlot s slot).valid then reportErr .busy s else reportErr .none { s with parison.fallback := slot })

/-- INVALIDATE_SLOT (PARISON_STORE_CTRL). -/
def execInvalidateSlot (slot : Fin 4) (s : State) : Out :=
  .next (bus s fun s =>
    if slot = s.parison.active then reportErr .busy s
    else reportErr .none (setSlot slot { storeSlot s slot with valid := false } s))

/-- A re-formed gather takes effect at its point. The point of GRID is the next allotment: the event stands for it only while an
ALLOT is the command that the grid takes next (R41, R65). -/
def takeEffect (t : Nat) (s : State) : State :=
  if t = 0x60 ∧ ¬ allotNext s then s else effectNow t s

/-- GATHER_TAKES_EFFECT (R65 to R67). -/
def execGatherTakesEffect (type : BitVec 16) (s : State) : Out := .next (bus s (takeEffect type.toNat))

/-- Functions that hold an enable PENDING, bit by bit as PARISON_PENDING reports them (R69). -/
def pendingWord (s : State) : Nat :=
  ((List.range 16).map (fun p => if portPending s p then 2 ^ p else 0)).sum
  + ((List.range 3).map (fun c => if chainPending s c then 2 ^ (16 + c) else 0)).sum
  + (if (List.range 16).any (fun n => (asChan s n).pendingEn) then 2 ^ 19 else 0)
  + (if s.lode.banks.any (fun (b : Bank) => b.state == .pending) then 2 ^ 20 else 0)
  + (if s.lode.pend1 then 2 ^ 21 else 0)

/-- Every shutdown whose boundary has come completes, and an enable that waits takes effect (R69). -/
def settleAll (s : State) : State :=
  let s := (List.range 16).foldl (fun s p => settlePort p s) s
  let s := (List.range 3).foldl (fun s c => settleChain c s) s
  let s := (List.range 16).foldl (fun s n => settleAs n s) s
  let s := (List.range 8).foldl (fun s k => settleCore k s) s
  settleBanks (settleSection s)

/-- SHUTDOWN_COMPLETE (R69): each shutdown whose boundary has come ends; PENDING_DONE tells that a PENDING enable has taken
effect. -/
def execShutdownComplete (s : State) : Out := .next (bus s settleAll)

end Sys2Proof.Machine
end

