-- ==== Sys2Proof/Machine/Power.lean ====
section
/-! DEFINITION. Power.lean: supplies, the power-on sequence, main-die resets, battery and temperature, DORMANT and its wakes,
and the warden mailbox (03_modes_power_reset.md R76, R79 to R99, R102 to R104; assumption log 25). -/

namespace Sys2Proof.Machine

open Sys2Proof

/-- Something that the warden does: it runs only once it has started (R98 step 3). -/
def onWarden (s : State) (f : State → State) : State := if s.aon.powered ∧ s.aon.wardenUp then f s else s

/-- RC counters that the AON island holds: QUENCH's and STRATA's (R353, R588). -/
def countsAon (l : List (Nat × Nat)) : List (Nat × Nat) :=
  l.filter (fun p => p.1 / 2 ^ 24 / 0x10000 == 0x09 || p.1 / 2 ^ 24 / 0x10000 == 0x11)

/-- A quench channel's record is the one thing that the fault controller keeps across a main-die reset (R438). A self-test that
the reset cuts short is over, and its channel counts as HEALTHY again: no rule says what becomes of it (DESIGN CHOICE, assumption
log 25). -/
def keptRes (l : List ResRec) : List ResRec :=
  (l.filter (fun r => r.kind == .quench)).map (fun (r : ResRec) => if r.state = .testing then { r with state := .healthy, failTest := false } else r)

/-- A quench channel after a main-die reset: a self-test that the reset cuts short leaves it HEALTHY (DESIGN CHOICE, assumption
log 25). -/
def QChannel.afterReset (c : QChannel) : QChannel := { c with health := if c.health = .testing then .healthy else c.health }

/-- Assay after a main-die reset: the front end goes on, the engine in the main die does not (R16, R97, R526). -/
def assayAfterReset (x : Assay) : Assay :=
  { x with engine := false, snaps := [], irecData := [], irecValid := false, irecGone := false, irecCrcBad := false, result := .none }

/-- What outlasts a main-die reset: the AON island, the MRAM, the fuses and what stands outside (R16, R54, R97, R438, R588). The
main die's blocks are at their reset values, in reset. -/
def mainWiped (s : State) : State :=
  { clk := s.clk
    fresh := s.fresh
    pending := s.pending
    regs := regsAon s.regs
    counts := countsAon s.counts
    sys := { mode := s.sys.mode, prev := s.sys.prev, cause := s.sys.cause }
    aon := { s.aon with mainRun := false, dormantReq := false, wakePending := none, waking := false }
    quench := { s.quench with chs := s.quench.chs.map QChannel.afterReset, ethLeft := 0 }
    strata := s.strata
    geode := { fuses := s.geode.fuses }
    assay := assayAfterReset s.assay
    radio := { txMax := s.radio.txMax }
    rtk := { stored := s.rtk.stored }
    grid := { origin := s.grid.origin }
    gnss := { aiding := s.gnss.aiding }
    parison := { slots := s.parison.slots, active := s.parison.active, fallback := s.parison.fallback }
    twin := { claimI := s.twin.claimI, claimIAt := s.twin.claimIAt }
    fault := { res := keptRes s.fault.res }
    ioctl := { drivers := s.ioctl.drivers, gpioIn := s.ioctl.gpioIn, tap := s.ioctl.tap } }

/-- A bit of SYS_RESET_CAUSE: 0 POWER_ON, 1 MAIN_BROWNOUT, 2 HOST, 3 PERST, 4 WATCHDOG, 5 THERMAL, 6 WAKE, 7 BATT_CRIT. -/
def setCause (b : Nat) (s : State) : State := orReg 0x000018 (BitVec.ofNat 32 (2 ^ b)) s

/-- The RESET record of a cause (R96, R551). -/
def resetRecord (before : Mode) (s : State) : State := note 0x0040 2 (regWord s 0x000018).toNat before.code 0 s

/-- SYS_MODE turns to RESET at once (R73), with its record; from RESET itself there is no transition. CAUSE and PREV return to
their Reset values with the rest of the main die (R588); the record's cause is BOOT, or WAKE out of DORMANT (assumption log 25). -/
def modeReset (s : State) : State :=
  let old := s.sys.mode
  let cause : ModeCause := if old = .dormant then .wake else .boot
  let t := { s with sys := {} }
  if old = .reset then t else note 0x0041 1 Mode.reset.code old.code cause.code (raise bSYS 0 t)

/-- A main-die reset (R96, R97): its cause and its records; the stop outputs follow. -/
def mainReset (b : Nat) (s : State) : State :=
  driveOutputs (resetRecord s.sys.mode (modeReset (setCause b (mainWiped s))))

/-- The rails and with them the PLLs are off. -/
def railsOff (s : State) : State := { s with aon := { s.aon with mainRails := false, pllLocked := false } }

/-- VIN_MAIN neither below 10.5 V nor above 13.8 V (R81). -/
def mainInRange (mv : Nat) : Bool := decide (10500 ≤ mv ∧ mv ≤ 13800)

/-- VIN_RES at 9.0 V or above (R83). -/
def resInRange (mv : Nat) : Bool := decide (9000 ≤ mv)

/-- The AON island loses power: what is volatile is lost; the MRAM, the fuses and the levels outside stay (R83, R54, R527). -/
def losePower (vmain vres : Nat) (s : State) : State :=
  { clk := s.clk
    fresh := s.fresh
    pending := s.pending
    aon := { powered := false, mainGood := false, vmainMv := vmain, vresMv := vres, refPresent := s.aon.refPresent }
    quench := { chs := s.quench.chs.map (fun (c : QChannel) => { c1 := { level := c.c1.level }, c2 := { level := c.c2.level }, out := false }) }
    strata := { s.strata with queue := [], lostDue := 0, inCairn := false, cairnFirst := none, cairn := [], cairnNext := 0, cairnOver := 0, result := .none, window := [] }
    geode := { fuses := s.geode.fuses }
    assay := { assayAfterReset s.assay with supplyFail := false }
    radio := { txMax := s.radio.txMax }
    rtk := { stored := s.rtk.stored }
    grid := { origin := s.grid.origin }
    gnss := { aiding := s.gnss.aiding }
    parison := { slots := s.parison.slots, active := s.parison.active, fallback := s.parison.fallback }
    twin := { claimI := s.twin.claimI, claimIAt := s.twin.claimIAt }
    ioctl := { gpioIn := s.ioctl.gpioIn } }

/-- AON_POWER_LOSS (R83). -/
def execAonPowerLoss (vmain vres : Nat) (s : State) : Out :=
  .next (if s.aon.powered ∧ mainInRange vmain = false ∧ resInRange vres = false then losePower vmain vres s else s)

/-- A channel whose last counts the supply loss took (R528). -/
def lostCounts (s : State) (n : Nat) : State :=
  let c := loadChan (asChan s n)
  note 0x1041 3 n c.fwd.toNat c.rev.toNat s

/-- Every channel that lost counts is recorded, and every total is loaded from the MRAM (R525, R528). -/
def loadTotals (unstored : Bool) (s : State) : State :=
  let s := (List.range 16).foldl (fun s n => if unstored ∧ (asChan s n).dirty then lostCounts s n else s) s
  { mapAs loadChan s with assay.unstored := false }

/-- The latch sets with POWER_ON (R76). -/
def powerOnLatch (q : Quench) : Quench :=
  { q with chs := q.chs.map (fun (c : QChannel) => { c with latch := true }), cause := .powerOn }

/-- The AON island starts: the latch is set and the sequence of R98 begins (R76, R96). -/
def powerUp (vmain vres : Nat) (s : State) : State :=
  let good := mainInRange vmain
  let aon : Aon := { vmainMv := vmain, vresMv := vres, onRes := !good, mainGood := good, refPresent := s.aon.refPresent }
  let s := setCause 0 { s with aon := aon, quench := powerOnLatch s.quench }
  driveOutputs (resetRecord .reset (loadTotals s.assay.unstored s))

/-- AON_POWER_UP (R98 steps 1 and 2). -/
def execAonPowerUp (vmain vres : Nat) (s : State) : Out :=
  .next (if ¬ s.aon.powered ∧ (mainInRange vmain = true ∨ resInRange vres = true) then powerUp vmain vres s else s)

/-- WARDEN_START (R98 step 3). -/
def execWardenStart (s : State) : Out := .next (onAon s fun s => { s with aon := { s.aon with wardenUp := true } })

/-- MAIN_RAILS_UP (R98 step 4, R94 step 2); not while the warden holds the main die unpowered, nor in DORMANT. -/
def execMainRailsUp (s : State) : Out :=
  .next (onWarden s fun s =>
    if s.aon.hold = .battCrit ∨ s.sys.mode = .dormant then s else { s with aon := { s.aon with mainRails := true } })

/-- The PLLs at the end of their lock time (R99). -/
def pllResult (ref : Bool) (s : State) : State :=
  if ref then { s with aon := { s.aon with pllLocked := true, refMissing := false, refPresent := true } }
  else { s with aon := { s.aon with refMissing := true, refPresent := false } }

/-- PLL_LOCKED (R98 step 5, R94 step 3, R99): ref tells whether REF10_IN is present. -/
def execPllLocked (ref : Bool) (s : State) : Out :=
  .next (onWarden s fun s => if s.aon.mainRails ∧ ¬ s.aon.pllLocked then pllResult ref s else s)

/-- REF10_RETURN (R99): after 10 ms of REF10_IN the sequence goes on from step 5. -/
def execRef10Return (s : State) : Out :=
  .next (onWarden s fun s => { s with aon := { s.aon with refMissing := false, refPresent := true } })

/-- REF10_LOST (R27, R439, R566). -/
def execRef10Lost (s : State) : Out :=
  .next (bus s fun s => fatalError .ref10 0 { s with aon := { s.aon with refPresent := false } })

/-- AON_CLOCK_CHANGEOVER (R99). -/
def execAonClockChangeover (s : State) : Out := .next (onAon s fun s => { s with aon := { s.aon with crystal := true } })

/-- The main die leaves reset: the raw count is 0, the MRAM is tested, and the loader starts (R98 step 6, R94 step 4, R52, R95,
R106, R549). -/
def releaseMain (mramOk : Bool) (s : State) : State :=
  let s := { s with aon := { s.aon with mainRun := true }, sys := { s.sys with wakeHold := s.aon.waking } }
  let s := realignTicks { s with time := {} }
  let s := if mramOk then leaveCairn s else toCairn s
  bootStart s.aon.waking s

/-- MAIN_DIE_RESET_RELEASE (R98 step 6, R94 step 4). -/
def execMainDieResetRelease (mramOk : Bool) (s : State) : Out :=
  .next (onWarden s fun s =>
    if s.aon.mainRails ∧ s.aon.pllLocked ∧ ¬ s.aon.mainRun ∧ s.aon.hold = .none ∧ s.sys.mode = .reset then releaseMain mramOk s else s)

/-- A change of ON_RES: the SUPPLY interrupt and record (SYS_INT_STATUS, R551), by the warden. The battery counts run on samples
of one input (R84). -/
def supplyChange (onRes : Bool) (s : State) : State :=
  let s := raise bSYS 2 { s with aon := { s.aon with onRes := onRes, lowCount := 0, critCount := 0 } }
  record 0x0042 0 2 (b2n onRes) s.aon.vmainMv s.aon.battMv s

/-- VIN_MAIN is lost with VIN_RES in range (R81, R88). -/
def mainLost (s : State) : State :=
  let s := { s with aon := { s.aon with mainGood := false, mainArmed := true } }
  let s := if s.aon.onRes then s else supplyChange true s
  if s.sys.mode = .yielded ∧ ¬ s.sys.shed then shedLoad s else s

/-- The inputs as the power path sees them (SYS_PWR_STATUS). -/
def inputs (vmain vres : Nat) (s : State) : State := { s with aon := { s.aon with vmainMv := vmain, vresMv := vres } }

/-- VIN_MAIN_LOST (R81, R83, R85, R88): the mode moves at the next profile tick (R73, R78). -/
def execVinMainLost (vmain vres : Nat) (s : State) : Out :=
  .next (onAon s fun s =>
    if mainInRange vmain then s
    else if resInRange vres then mainLost (inputs vmain vres s)
    else losePower vmain vres s)

/-- What the return of VIN_MAIN ends: the battery anneal limit and the RES_CRIT condition (R84, R85, R527). -/
def endOnRes (s : State) : State :=
  { s with
    sys := { s.sys with annealOnRes := false }
    aon := { s.aon with
      mainGood := true, battAnneal := false, battCrit := false
      hold := if s.aon.hold = .battCrit then (if s.aon.thermal110 then .thermal else .none) else s.aon.hold }
    assay := { s.assay with supplyFail := false } }

/-- VIN_MAIN is back for 1 s (R81, R84, R85, R88): the path switches back; a yielded unit restores its load. -/
def mainReturned (s : State) : State :=
  let s := endOnRes s
  let s := if s.aon.onRes then supplyChange false s else s
  driveOutputs (if s.sys.mode = .yielded ∧ s.sys.shed then restoreLoad s else s)

/-- VIN_MAIN_RETURN (R81): 1 s between 10.8 V and 13.2 V. -/
def execVinMainReturn (vmain : Nat) (s : State) : Out :=
  .next (onAon s fun s =>
    if 10800 ≤ vmain ∧ vmain ≤ 13200 ∧ ¬ s.aon.mainGood then mainReturned (inputs vmain s.aon.vresMv s) else s)

/-- VIN_RES_FALL_SWITCH (R83): the path alone moves; what R78 and R85 tie to the return waits for R81. -/
def execVinResFallSwitch (vmain vres : Nat) (s : State) : Out :=
  .next (onAon s fun s =>
    if ¬ s.aon.onRes ∨ resInRange vres = true then s
    else if mainInRange vmain then supplyChange false (inputs vmain vres s)
    else losePower vmain vres s)

/-- Consecutive samples, to the ten of R84. -/
def countUp (b : Bool) (n : Nat) : Nat := if b then min 10 (n + 1) else 0

/-- A ball voltage in µV scaled by a ratio in Q8.8 to mV at the source. -/
def scaled (uv ratio : Nat) : Nat := (uv * ratio + 128000) / 256000

/-- A sample of BATT_SENSE and SOLAR_SENSE (R84, SYS_PWR_SENSE). -/
def senseSample (batt solar : Nat) (s : State) : State :=
  let mv := scaled batt (regFld s 0x000048 31 16)
  let low := regFld s 0x00004C 31 16
  let crit := regFld s 0x00004C 15 0
  let sun := scaled solar (regFld s 0x000048 15 0)
  let above := decide (regFld s 0x000054 31 16 < sun)
  { s with aon := { s.aon with
    battMv := mv
    solarMv := sun
    solarArmed := s.aon.solarArmed || !above
    solarRise := if above ∧ s.aon.solarArmed = true then s.aon.solarRise.orElse (fun _ => some s.clk) else none
    lowCount := countUp (decide (mv < low)) s.aon.lowCount
    critCount := countUp (s.aon.onRes && decide (mv < crit)) s.aon.critCount
    lowClear := countUp (decide (low + 200 < mv)) s.aon.lowClear
    critClear := countUp (decide (crit + 200 < mv)) s.aon.critClear } }

/-- POWER_SENSE_SAMPLE (R84): batt and solar are the ball voltages in µV. -/
def execPowerSenseSample (batt solar : Nat) (s : State) : Out := .next (onWarden s (senseSample batt solar))

/-- The battery has stayed below RES_LOW (R84): DORMANT is requested in RESERVE with IN_STORE, else BATT_LOW sets. -/
def battLowNow (s : State) : State :=
  if s.sys.mode = .reserve ∧ s.aon.onRes ∧ s.parison.inStore then modeRequest 9 .warden none s
  else if s.aon.battLow then s
  else raise bSYS 3 { s with aon := { s.aon with battLow := true } }

/-- BATT_RES_LOW (R84). -/
def execBattResLow (s : State) : Out := .next (onWarden s fun s => if s.aon.lowCount < 10 then s else battLowNow s)

/-- The warden holds the main die unpowered at RES_CRIT (R84, R96). -/
def critHold (s : State) : State :=
  if s.aon.hold = .battCrit then s else railsOff (mainReset 7 { s with aon := { s.aon with hold := .battCrit } })

/-- After the stop decision at RES_CRIT: DORMANT where the mode leads there and the image is in store, else the hold (R84,
R88). A forming or re-forming in progress keeps the part from DORMANT (R90). A part already in or entering DORMANT stays with it. -/
def critAction (s : State) : State :=
  if s.sys.mode = .dormant ∨ s.aon.dormantReq then s
  else if dormantMode s.sys.mode = false ∨ ¬ s.parison.inStore ∨ imageWork s = true then critHold s
  else acceptDormant .warden s

/-- The battery has stayed below RES_CRIT on VIN_RES (R84, R105): the warden source is on, and the action waits for the decision
that it may bring. -/
def battCritNow (s : State) : State :=
  let s := settleVote .warden 0 { s with aon := { s.aon with battCrit := true } }
  if s.quench.deciding.isSome then { s with aon := { s.aon with critDue := true } } else critAction s

/-- VOTED_DECISION (R354, R367): the vote that has come to STOP latches; the action at RES_CRIT follows its stop decision (R84). -/
def execVotedDecision (s : State) : Out :=
  .next (onAon s fun s =>
    match s.quench.deciding with
    | some (c, r) =>
      let t := latchQuench c r s
      if t.aon.critDue then critAction { t with aon := { t.aon with critDue := false } } else t
    | none => s)

/-- BATT_RES_CRIT (R84). -/
def execBattResCrit (s : State) : Out :=
  .next (onWarden s fun s => if s.aon.critCount < 10 ∨ ¬ s.aon.onRes ∨ s.aon.battCrit then s else battCritNow s)

/-- BATT_LOW_CLEAR (R84). -/
def execBattLowClear (s : State) : Out :=
  .next (onWarden s fun s => if s.aon.lowClear < 10 then s else { s with aon := { s.aon with battLow := false } })

/-- RES_CRIT_CLEAR (R84): the stop source goes; a main die that is held stays unpowered. -/
def execResCritClear (s : State) : Out :=
  .next (onWarden s fun s => if s.aon.critClear < 10 then s else driveOutputs { s with aon := { s.aon with battCrit := false } })

/-- BATTERY_ANNEAL_LIMIT (R85): ANNEAL_RES_MAX seconds after the start of an anneal by loss of VIN_MAIN. -/
def execBatteryAnnealLimit (s : State) : Out :=
  .next (onWarden s fun s =>
    let lim := regFld s 0x000050 7 0
    if s.sys.mode ≠ .anneal ∨ s.sys.annealDone ∨ ¬ s.sys.annealOnRes ∨ lim = 0 then s
    else limit (advanceClk (s.quench.annealAt + lim * 10 ^ 9) s))
where
  /-- The stop decision. -/
  limit (s : State) : State := settleVote .warden 0 { s with aon := { s.aon with battAnneal := true } }

/-- A threshold of R89 is crossed: the THERMAL interrupt and record. -/
def thermalNote (s : State) : State := record 0x0043 0 3 (unsignedOf 32 s.aon.tj) 0 0 (raise bSYS 4 s)

/-- 110 °C: the stop decision, and the main die held in reset (R89). -/
def thermalStop (s : State) : State :=
  let s := thermalNote { s with aon := { s.aon with thermal110 := true, thermArmed := false } }
  let s := settleVote .warden 0 s
  if s.sys.mode = .dormant ∨ s.aon.hold = .battCrit then s
  else
    let s := { s with aon := { s.aon with hold := .thermal } }
    if s.aon.mainRun then mainReset 5 s else s

/-- Below 100 °C: the stop condition and the hold end, and the 105 °C threshold is armed again (R89). -/
def thermalEnd (s : State) : State :=
  driveOutputs { s with aon := { s.aon with
    thermal110 := false, thermArmed := true, hold := if s.aon.hold = .thermal then .none else s.aon.hold } }

/-- 105 °C: ANNEAL is requested in FIELD and HOLDOVER (R89). -/
def thermalRequest (s : State) : State :=
  let s := thermalNote { s with aon := { s.aon with thermArmed := false } }
  if s.sys.mode = .field ∨ s.sys.mode = .holdover then { s with sys := { s.sys with thermalReq := true } } else s

/-- A sample of the thermal sensor, in 0.125 °C (R89). -/
def thermalSample (tj : Int) (s : State) : State :=
  let s := { s with aon := { s.aon with tj := tj } }
  if tj < 800 then thermalEnd s
  else if 880 ≤ tj ∧ ¬ s.aon.thermal110 then thermalStop s
  else if 840 ≤ tj ∧ s.aon.thermArmed then thermalRequest s
  else s

/-- THERMAL_SAMPLE (R89). -/
def execThermalSample (tj : BitVec 16) (s : State) : Out := .next (onWarden s (thermalSample tj.toInt))

/-- MAIN_BROWNOUT (R96, R558): the rails come up anew. -/
def execMainBrownout (s : State) : Out := .next (onAon s fun s => if s.aon.mainRails then railsOff (mainReset 1 s) else s)

/-- PERST (R96, R477): PERST_RESET selects the scope. -/
def execPerst (s : State) : Out :=
  .next (bus s fun s => if regBit s 0x000010 1 then mainReset 3 s else hostReset false s)

/-- WATCHDOG (R96). -/
def execWatchdog (s : State) : Out := .next (bus s (mainReset 4))

/-- RESET_CTRL_MAIN (R96, SYS_RESET_CTRL): w is the word written. -/
def execResetCtrlMain (w : Word) (s : State) : Out :=
  .next (bus s fun s => if fld w 31 16 = 0x9610 ∧ bit w 0 = true then mainReset 2 s else s)

/-- The AON counter aligned to served time (SYS_AON_TIME, R541). -/
def alignAon (s : State) : State :=
  let t := now s
  { s with aon := { s.aon with
    seconds := BitVec.ofNat 32 (t / 10 ^ 9)
    secondAt := s.aon.aonNs + 10 ^ 9 - t % 10 ^ 9
    aligned := some (t, s.aon.aonNs) } }

/-- A wake event in DORMANT (R92, R94, R96): the main die is in reset, and its rails come up. -/
def wakeUp (src : WakeSrc) (s : State) : State :=
  let s := record 0x0044 0 1 (wakeCode src) 0 0 { s with aon := { s.aon with wakeSrc := src } }
  let s := mainReset 6 s
  { s with aon := { s.aon with waking := true, mainArmed := false, solarArmed := false, solarRise := none, wakeAt := s.clk, hold := if s.aon.thermal110 then .thermal else s.aon.hold } }

/-- A wake event: it acts in DORMANT, and one during the entry is kept for its end (R105). -/
def wakeEvent (src : WakeSrc) (s : State) : State :=
  if s.sys.mode = .dormant then wakeUp src s
  else if s.aon.dormantReq then { s with aon := { s.aon with wakePending := s.aon.wakePending.orElse (fun _ => some src) } }
  else s

/-- The alarm is enabled and reached (R93). -/
def alarmDue (s : State) : Bool := regBit s 0x000054 0 && decide ((regWord s 0x000058).toNat ≤ s.aon.seconds.toNat)

/-- Commands and internal work that DORMANT entry discards: every host command queue's suffix (R91, R445). The report is recorded
in Strata only. -/
def dormantDiscard (s : State) : State :=
  discard allTargets 5 7 0 0xFF (plannerWork s + (List.range 16).foldl (fun n p => n + countFrames s p (fun _ _ => true)) 0) false s

/-- The entry to DORMANT is complete (R91): checkpoints, the discard, erased keys, the aligned AON counter; the main die is
unpowered, with SYS_MODE as it last stood. -/
def enterDormant (s : State) : State :=
  let w := s.aon.dormantWho
  let s := alignAon (eraseSlots (dormantDiscard (checkpointAll s)))
  let s := toMode .dormant (if w = .warden then .battLow else .hostReq) w.rank s
  railsOff (driveOutputs (mainWiped s))

/-- What wakes the part as soon as the entry is complete (R93, R105). -/
def wakeAtOnce (p : Option WakeSrc) (s : State) : State :=
  match p with
  | some w => wakeUp w s
  | none => if alarmDue s then wakeUp .alarm s else s

/-- DORMANT_ENTRY_DONE (R91, R93, R105). A move that R78 does not list does not occur. -/
def execDormantEntryDone (s : State) : Out :=
  .next (bus s fun s => if s.aon.dormantReq ∧ dormantMode s.sys.mode = true then wakeAtOnce s.aon.wakePending (enterDormant s) else s)

/-- The AON counter's next whole second (R93). -/
def aonSecond (s : State) : State :=
  let s := advance (s.aon.secondAt - s.aon.aonNs) s
  let s := { s with aon := { s.aon with seconds := s.aon.seconds + 1, secondAt := s.aon.secondAt + 10 ^ 9 } }
  if s.sys.mode = .dormant ∧ alarmDue s = true then wakeUp .alarm s else s

/-- AON_SECOND (R93). -/
def execAonSecond (s : State) : Out := .next (onAon s aonSecond)

/-- WAKE_MAIN (R92): VIN_MAIN, which was out of range after the request, is back for the 1 s of R81. -/
def execWakeMain (s : State) : Out :=
  .next (onWarden s fun s => if regBit s 0x000054 1 ∧ s.aon.mainArmed ∧ s.aon.mainGood then wakeEvent .main s else s)

/-- WAKE_SOLAR (R92): SOLAR_SENSE has stood above SOLAR_WAKE_MV for 1 s since a rise after the request. -/
def execWakeSolar (s : State) : Out :=
  .next (onWarden s fun s =>
    match s.aon.solarRise with
    | some t => if regBit s 0x000054 2 then wakeEvent .solar (advanceClk (t + 10 ^ 9) s) else s
    | none => s)

/-- WAKE_GPIO (R92). -/
def execWakeGpio (pin : Fin 4) (s : State) : Out :=
  .next (onWarden s fun s => if regBit s 0x000054 (3 + pin.val) then wakeEvent (.gpio pin) s else s)

/-- WAKE_HOLD ends (R94 step 6). -/
def endHold (s : State) : State :=
  driveOutputs { s with sys := { s.sys with wakeHold := false }, aon := { s.aon with waking := false } }

/-- WAKE_HOLD_CLEAR (R94): 40.0 ms after the wake event. After a failed wake R95 says only that the 40.0 ms no longer holds: the
model keeps the hold until a forming has succeeded, and ends it at this event (DESIGN CHOICE, assumption log 25). -/
def execWakeHoldClear (s : State) : Out :=
  .next (bus s fun s =>
    if ¬ s.sys.wakeHold ∨ s.sys.mode = .reset ∨ s.sys.mode = .forming then s
    else if s.aon.waking then endHold (advanceClk (s.aon.wakeAt + 40 * 10 ^ 6) s)
    else endHold s)

/-- OP, TAG and ARG of the oldest request in mailbox 8 (R102). -/
def wardenReq (s : State) : Option (Nat × Nat × Nat) :=
  match (mb s 8).h2c.words with
  | w :: _ => some (fld w 31 24, fld w 23 16, fld w 15 0)
  | [] => none

/-- C2H has room for this answer and for those still owed (R104). -/
def wardenRoom (s : State) : Bool := decide ((mb s 8).c2h.words.length + 2 + 2 * s.hostif.wardenTaken ≤ 8)

/-- The oldest word is popped. -/
def wardenPop (s : State) : State := setMb 8 (fun b => { b with h2c := b.h2c.pop }) s

/-- The warden takes the oldest request if it is one of these OPs and its answer has room (R103, R104). -/
def wardenTake (ok : Nat → Bool) (f : Nat → Nat → Nat → State → State) (s : State) : State :=
  match wardenReq s with
  | some (op, tag, arg) => if ok op ∧ wardenRoom s = true then f op tag arg (wardenPop s) else s
  | none => s

/-- IDENT (R103). -/
def execIdent (s : State) : Out :=
  .next (bus s (wardenTake (· == 1) fun op tag arg s =>
    if arg = 0 then wardenAnswer op tag 0 [0x00020001] s else wardenAnswer op tag 2 [] s))

/-- READ_SYS (R103). -/
def execReadSys (s : State) : Out :=
  .next (bus s (wardenTake (· == 2) fun op tag arg s =>
    if arg ≤ 0x19 then wardenAnswer op tag 0 [(sysWord s (4 * arg)).toNat] s else wardenAnswer op tag 2 [] s))

/-- MODE_REQ (R103, R104): made with the host's rank. -/
def execModeReq (s : State) : Out :=
  .next (bus s (wardenTake (· == 3) fun op tag arg s =>
    if arg < 16 then modeRequest arg .host (some (BitVec.ofNat 8 tag)) { s with hostif := { s.hostif with wardenTaken := s.hostif.wardenTaken + 1 } }
    else wardenAnswer op tag 2 [] s))

/-- STOP_STATE's data word (R103). -/
def stopStateWord (s : State) : Nat :=
  b2n s.aon.battCrit + 2 * b2n s.aon.battAnneal + 4 * b2n s.aon.thermal110 + 8 * b2n s.aon.lockstep + 16 * b2n s.aon.agePulse
  + 32 * b2n s.aon.annealPulse

/-- STOP_STATE (R103). -/
def execStopState (s : State) : Out :=
  .next (bus s (wardenTake (· == 4) fun op tag arg s =>
    if arg = 0 then wardenAnswer op tag 0 [stopStateWord s] s else wardenAnswer op tag 2 [] s))

/-- BAD_OP (R102, R103). -/
def execBadOp (s : State) : Out :=
  .next (bus s (wardenTake (fun op => !(1 ≤ op && op ≤ 4)) fun op tag _ s => wardenAnswer op tag 1 [] s))

end Sys2Proof.Machine
end

