-- ==== Sys2Proof/Machine/ViewA.lean ====
section
/-! DEFINITION. ViewA.lean: what a read of a PARISON, TIME, GNSS or RTK register returns where its fields report state held by the block
(00_scope.md R6, R7; 02_parison_image.md, 04_timebase.md, 05_gnss_baseband.md and 06_reference_central_rtk.md, registers). A field that
is only written reads 0, and so do the reserved bits. -/

namespace Sys2Proof.Machine

open Sys2Proof

/-- PARISON_STATUS.STATE. -/
def LoaderState.code : LoaderState → Nat
  | .idle => 0 | .reading => 1 | .checking => 2 | .applying => 3 | .waitHost => 4 | .done => 5 | .failed => 6

/-- The bits of a register that its row of the table holds; 0 where it has none. -/
def heldBits (s : State) (off : Nat) : Word := if (regRow off).isSome then regWord s off else 0

/-- The same as a number. -/
def heldNat (s : State) (off : Nat) : Nat := (heldBits s off).toNat

/-- PARISON (02_parison_image.md, registers). -/
def parisonView (s : State) (o : Nat) : Word :=
  let x := s.parison
  match o with
  | 0x04 => pack [(29, x.loader.code), (28, b2n x.inStore), (27, b2n (imageSkew s)), (26, b2n x.reformed), (24, x.lastSrc.toNat),
      (21, min 7 x.attempts), (0, x.err.code)]
  | 0x18 => pack [(8, ((List.range 4).map (fun n => b2n (storeSlot s n).valid * 2 ^ n)).sum), (4, x.fallback.val), (0, x.active.val)]
  | 0x28 => x.serial
  | 0x2C => x.fixedSum
  | 0x30 => pack [(16, s.geode.fuses.secMin), (0, x.inForce)]
  | 0x34 => pack [(16, x.failType), (0, min 0xFFFF x.failWord)]
  | 0x38 => BitVec.ofNat 32 (pendingWord s)
  | _ => heldBits s (0x010000 + o)

/-- A signed quantity in 2^−40 ns as whole ns, held to ±(2^31 − 1) (TIME_RESID, TIME_REJOIN_ERR; assumption log 7). -/
def nsShown (x40 : Int) : Nat := unsignedOf 32 (max (-(2 ^ 31 - 1)) (min (2 ^ 31 - 1) (x40 / q40)))

/-- A domain in holdover: invalid, and valid before (R131). -/
def holding (d : Domain) : Bool := d.everValid && !d.valid

/-- TIME_STATUS.STEP_RESULT. -/
def StepResult.code : StepResult → Nat
  | .none => 0 | .done => 1 | .mode => 2

/-- TIME_DOM_P_* and TIME_DOM_A_* by the offset within the set; OFFSET_LO and OFFSET_HI are a wide quantity. -/
def domainView (s : State) (a : Bool) (o : Nat) : Word :=
  let d := dom s a
  match o with
  | 0x00 => pack [(31, b2n d.valid), (30, b2n (holding d)), (29, b2n (softOk s a)), (0, sourceOf s a)]
  | 0x04 => d.rate
  | 0x0C => BitVec.ofNat 32 (nsShown d.pend40)
  | 0x10 => BitVec.ofNat 32 ((d.off40 % q40).toNat / 2 ^ 24)
  | _ => heldBits s (domCfg a + o)

/-- The three words of a capture entry held by the last read of TIME_CAP_LO (R129). -/
def capWord (x : Option CapEntry) (o : Nat) : Word :=
  match x with
  | some e =>
    if o = 0xCC then BitVec.ofNat 32 e.time.toNat
    else if o = 0xD0 then BitVec.ofNat 32 (e.time.toNat / 2 ^ 32)
    else pack [(31, 1), (30, b2n e.rising), (29, b2n e.stepped), (28, b2n e.ovf)]
  | none => 0

/-- The three words of a transmit timestamp held by the last read of TIME_TXTS_LO (R125). -/
def txtsWord (x : Option TxTs) (o : Nat) : Word :=
  match x with
  | some e =>
    if o = 0x140 then BitVec.ofNat 32 e.time.toNat
    else if o = 0x144 then BitVec.ofNat 32 (e.time.toNat / 2 ^ 32)
    else pack [(31, 1), (27, e.port.toNat), (23, e.msgType.toNat), (0, e.seqId.toNat)]
  | none => 0

/-- The oldest entry of the capture input that TIME_CAP_SEL names; values 5 to 7 read as empty. -/
def capOldest (s : State) : Option CapEntry := (vget s.time.caps (regFld s 0x0200C8 2 0) {}).fifo.head?

/-- TIME_STATUS. -/
def timeStatus (s : State) : Word :=
  let t := s.time
  pack [(28, quality s), (27, b2n (decide (t.resid40 ≠ 0))), (26, b2n (t.p.slow || t.a.slow)), (25, b2n t.p.valid), (24, b2n t.a.valid),
    (23, b2n (holding t.p)), (22, b2n (holding t.a)), (20, t.stepResult.code), (0, t.slewPpm)]

/-- TIME (04_timebase.md, registers). -/
def timeView (s : State) (o : Nat) : Word :=
  let t := s.time
  if 0x40 ≤ o ∧ o < 0x80 then domainView s (decide (0x60 ≤ o)) (o % 0x20)
  else match o with
    | 0x00 => heldBits s 0x020000 ||| BitVec.ofNat 32 (b2n t.selA)
    | 0x04 => timeStatus s
    | 0x20 => BitVec.ofNat 32 (nsShown t.resid40)
    | 0x24 => BitVec.ofNat 32 (unsignedOf 32 (max (-(2 ^ 31 - 1)) (min (2 ^ 31 - 1) t.rejoinErr)))
    | 0x28 => pack [(31, b2n t.utcValid), (0, t.utcOfs.toNat)]
    | 0xC4 => pack ((List.range 5).map (fun i => (5 * i, (vget t.caps i {}).fifo.length)))
    | 0xCC => capWord (capOldest s) o
    | 0xD0 | 0xD4 => capWord t.capHeld o
    | 0x140 => txtsWord t.txts.head? o
    | 0x144 | 0x148 => txtsWord t.txtsHeld o
    | 0x14C => pack [(16, countShown 16 (countOf s 0x02014C 0)), (0, t.txts.length)]
    | _ => heldBits s (0x020000 + o)

/-- A channel is in TRACK. -/
def tracking (s : State) : Nat := s.gnss.chans.countP (fun p => p.2.state == .track)

/-- GNSS_STATUS.STATE. -/
def gnssState (s : State) : Nat :=
  if ¬ gnssRuns s then 0 else if s.gnss.burst then 3 else if tracking s = 0 then 1 else 2

/-- A value of each of the three band paths of one antenna, U in the lowest byte. -/
def pathsWord (s : State) (b : Bool) (f : BandPath → Nat) : List (Nat × Nat) :=
  (List.range 3).map (fun k => (8 * k, f (vget s.gnss.paths (3 * b2n b + k) {})))

/-- GNSS_JAM_A and GNSS_JAM_B. -/
def jamView (s : State) (b : Bool) : Word :=
  pack ((List.range 3).map (fun k => (24 + k, b2n (vget s.gnss.paths (3 * b2n b + k) {}).jam)) ++ pathsWord s b (fun p => satNat 8 p.rise))

/-- GNSS_ANT_STATUS of one antenna. -/
def antFields (a : Antenna) (lo : Nat) : List (Nat × Nat) := [(lo + 8, a.state.code), (lo, satNat 8 a.ma)]

/-- GNSS_NOTCH_STATUS of the notch that GNSS_NOTCH_SEL names; 48 to 63 read as inactive. -/
def notchView (s : State) : Word :=
  match kget s.gnss.notches (regFld s 0x030040 5 0) with
  | some x => pack [(31, 1), (16, satNat 8 x.depth), (0, unsignedOf 16 x.freq)]
  | none => 0

/-- GNSS_CHAN_STATUS of the channel that GNSS_CHAN_SEL names. -/
def chanView (s : State) : Word :=
  let n := regFld s 0x030070 8 0
  let c := chanOf s n
  pack [(28, (chanState s n).code), (16, c.sig), (8, c.svid), (0, satNat 8 (c.cn0 / 100))]

/-- GNSS_EPOCH_CFG. -/
def epochCfg (s : State) : Word :=
  let c := s.gnss.cfg
  pack [(24, b2n c.aOnly), (23, b2n c.doubleDelta), (16, c.spacing % 128), (8, satNat 8 c.mpThr), (0, if s.gnss.burst then 1 else c.rateHz % 256)]

/-- GNSS_SPOOF_STATUS. -/
def spoofView (s : State) : Word :=
  let x := s.gnss.spoof
  pack [(29, x.state.code), (28, b2n x.ackHeld), (16, x.bias % 256), (8, satNat 8 x.rms), (0, satNat 8 x.nsv)]

/-- GNSS (05_gnss_baseband.md, registers). -/
def gnssView (s : State) (o : Nat) : Word :=
  let g := s.gnss
  match o with
  | 0x04 => pack [(30, gnssState s), (27, g.spoof.state.code), (26, b2n (g.paths.toList.any BandPath.jam)), (0, tracking s)]
  | 0x08 => epochCfg s
  | 0x0C => BitVec.ofNat 32 g.lastSeq
  | 0x24 => pack (antFields g.antB 16 ++ antFields g.antA 0)
  | 0x28 => pack (pathsWord s false (fun p => satNat 8 p.agc))
  | 0x2C => pack (pathsWord s true (fun p => satNat 8 p.agc))
  | 0x30 => jamView s false
  | 0x34 => jamView s true
  | 0x3C => BitVec.ofNat 32 g.cfg.notchEn.toNat
  | 0x44 => notchView s
  | 0x50 => heldBits s 0x030050 ||| pack [(31, b2n g.cfg.spoofEn)]
  | 0x60 => spoofView s
  | 0x74 => chanView s
  | 0x78 => pack [(16, satNat 9 g.unserved), (0, satNat 9 g.assigned)]
  | 0x84 => pack [(31, b2n g.exclFull), (0, g.excl.length)]
  | 0x88 => pack [(16, g.testing.toNat), (0, g.retired.toNat)]
  | _ => heldBits s (0x030000 + o)

/-- A word of the measurement window (R156 to R159). While an epoch is being written its SEQ stands already, its SEQ_END not yet, and what
lies between is free; so is a record past COUNT. -/
def gnssWindow (s : State) (o : Nat) : Word :=
  let b := o / 0x10000
  let i := o % 0x10000
  let old : Bytes := match vget s.gnss.banks b none with | some x => x.bytes | none => []
  match s.gnss.latched with
  | some e =>
    if e.seq % 4 ≠ b then settled old b i
    else if i = 0 then BitVec.ofNat 32 e.seq
    else if i = 0x3C then settled old b i
    else BitVec.ofNat 32 (Config.windowWord s.fresh o)
  | none => settled old b i
where
  /-- A word of a complete bank. -/
  settled (bs : Bytes) (b i : Nat) : Word :=
    if i < bs.length then BitVec.ofNat 32 (leAt bs i 4) else BitVec.ofNat 32 (Config.windowWord s.fresh (b * 0x10000 + i))

/-- ELAPSED_S: seconds since the survey or the confirmation started; 0 while neither runs (assumption log 19). -/
def refElapsed (s : State) : Nat :=
  if s.rtk.refState = .surveying ∨ s.rtk.refState = .confirming then satNat 17 ((s.clk - s.rtk.startAt) / 10 ^ 9) else 0

/-- LOAD of RTK_ENGINE_STATUS: solutions of the last whole served second. -/
def engineLoad (s : State) : Nat :=
  let sec := now s / 10 ^ 9
  if s.rtk.loadSec = sec then s.rtk.load else if s.rtk.loadSec + 1 = sec then s.rtk.loadNow else 0

/-- RTK_MACH_STATUS of the machine that RTK_MACH_SEL names. -/
def rtkMachView (s : State) : Word :=
  let m := regFld s 0x040080 6 0
  let r := rtkMach s m
  let age := match r.lastAt with | some t => satNat 16 ((s.clk - t) / 10 ^ 6) | none => 0xFFFF
  pack [(31, b2n (s.rtk.cfg.admitted.any (fun a => a.mach == m))), (30, b2n r.suspended), (24, r.lastFix % 16), (16, satNat 8 r.lastNfix), (0, age)]

/-- RTK_REF_STATUS.CMD_RESULT. -/
def RefResult.code : RefResult → Nat
  | .none => 0 | .done => 1 | .mode => 2 | .paired => 3 | .busy => 4 | .disagree => 5 | .noSignal => 6

/-- RTK_REF_STATUS. -/
def refStatus (s : State) : Word :=
  pack [(28, s.rtk.refState.code), (26, s.rtk.refSrc.code), (23, s.rtk.result.code), (0, refElapsed s)]

/-- RTK_ENGINE_STATUS. -/
def engineStatus (s : State) : Word :=
  pack [(28, s.rtk.lanesRetired % 16), (16, satNat 12 (engineLoad s)), (0, countShown 16 s.rtk.maxLat)]

/-- RTK (06_reference_central_rtk.md, registers). -/
def rtkView (s : State) (o : Nat) : Word :=
  match o with
  | 0x04 => refStatus s
  | 0x08 => BitVec.ofNat 32 (satNat 16 s.rtk.sdMm)
  | 0x30 => pack [(16, countShown 16 (countOf s 0x040030 0)), (12, s.rtk.cfg.msmRate % 16), (0, s.rtk.cfg.stationId % 4096)]
  | 0x78 => engineStatus s
  | 0x84 => rtkMachView s
  | _ => heldBits s (0x040000 + o)

end Sys2Proof.Machine
end

