-- ==== Sys2Proof/Machine/ViewB.lean ====
section
/-! DEFINITION. ViewB.lean: what a read of a LODE, GRID, SETPT or RADIO register returns where its fields report state held by the block
(00_scope.md R6, R7; 07_lode_tables.md to 10_field_radio.md, registers). -/

namespace Sys2Proof.Machine

open Sys2Proof

/-- LODE_BANK_STATUS.STATE. -/
def BankState.code : BankState → Nat
  | .off => 0 | .active => 1 | .testing => 2 | .restoring => 3 | .pending => 4

/-- LODE_ACC_STATUS.RESULT. -/
def AccResult.code : AccResult → Nat
  | .none => 0 | .done => 1 | .notFound => 2 | .tableFull => 3 | .denied => 4 | .busy => 5 | .badTable => 6

/-- LODE_STATUS; before a forming lays out the banks it reports no spares (R9). -/
def lodeStatus (s : State) : Word :=
  let x := s.lode
  pack [(31, b2n x.run1), (30, b2n x.run0), (29, b2n (!x.restoring.isEmpty)), (16, if s.lode.banks.isEmpty then 0 else satNat 8 (sparesNow s).length), (0, satNat 7 x.retired.length)]

/-- LODE_BANK_STATUS of the bank that LODE_BANK_SEL names. -/
def bankView (s : State) : Word :=
  let b := bank s (regFld s 0x050008 5 0)
  pack [(29, b.state.code), (16, b.phys % 128), (0, b.owner.toNat)]

/-- Entries of the instance that LODE_TBL_SEL names, written or learned; 0 for an absent instance. -/
def entryCount (s : State) (written : Bool) : Nat :=
  match inst s (regFld s 0x050010 5 0) (regBit s 0x050010 8) with
  | some i => i.entries.countP (fun x => x.2.written == written)
  | none => 0

/-- LODE_SRC_STATUS of the source that LODE_SRC_SEL names. -/
def sourceView (s : State) : Word :=
  let t := regFld s 0x050020 13 8
  let src := regFld s 0x050020 7 0
  match tableDesc s t, inst s t (regBit s 0x050020 16) with
  | some d, some i => pack [(31, b2n (learns d && decide (learnLimit s d ≤ learnedBy i src))), (0, satNat 24 (learnedBy i src))]
  | _, _ => 0

/-- LODE (07_lode_tables.md, registers). -/
def lodeView (s : State) (o : Nat) : Word :=
  match o with
  | 0x04 => lodeStatus s
  | 0x0C => bankView s
  | 0x14 => BitVec.ofNat 32 (entryCount s true)
  | 0x18 => BitVec.ofNat 32 (entryCount s false)
  | 0x24 => sourceView s
  | 0x38 => pack [(0, s.lode.accResult.code)]
  | _ => heldBits s (0x050000 + o)

/-- GRID_STATUS.STATE. -/
def gridState (s : State) : Nat :=
  if ¬ gridOn s then 0 else if ¬ gridRuns s then 3 else if s.grid.intake ≠ [] ∨ s.setpt.extends_ ≠ [] then 2 else 1

/-- GRID_MACH_STATUS of the machine that GRID_MACH_SEL names. -/
def gridMachView (s : State) : Word :=
  let m := regFld s 0x060040 6 0
  let x := gridMach s m
  pack [(31, b2n (!(machAllots s m).isEmpty)), (30, b2n (reporting s m)), (29, b2n x.lapsed), (28, b2n (x.annealMargin || x.annealOutside)),
    (27, b2n x.annealOutside), (26, b2n x.annealMargin), (25, b2n x.occLimit), (0, satNat 16 x.hpl)]

/-- GRID_MACH_MARGIN of the same machine. -/
def gridMarginView (s : State) : Word :=
  let m := regFld s 0x060040 6 0
  pack [(16, satNat 13 (machAllots s m).length), (0, satNat 16 (leastMargin s m))]

/-- GRID (08_field_grid.md, registers). -/
def gridView (s : State) (o : Nat) : Word :=
  let g := s.grid
  if 0x100 ≤ o ∧ o ≤ 0x12C ∧ o % 4 = 0 then nth g.cmdBuf ((o - 0x100) / 4) 0
  else match o with
    | 0x04 => pack [(30, gridState s), (29, b2n g.origin.isSome), (28, b2n g.occCold), (24, g.intake.length), (0, (liveAllots s).length)]
    | 0x08 => pack [(27, g.report.result.code), (16, g.report.blocker.toNat), (0, g.report.allotId.toNat)]
    | 0x0C => BitVec.ofNat 32 (satNat 13 g.report.cells)
    | 0x10 => pack [(16, satNat 16 g.report.waitUs), (0, satNat 16 g.report.runUs)]
    | 0x44 => gridMachView s
    | 0x48 => gridMarginView s
    | 0x74 => pack [(31, b2n g.cmdBusy), (16, g.cmdBlocker.toNat), (0, g.cmdResult.code)]
    | _ => heldBits s (0x060000 + o)

/-- SETPT_STATUS.STATE (R301). -/
def setptState (s : State) : Nat :=
  match s.sys.mode with
  | .survey | .quenched | .maintenance => 1
  | .field | .holdover | .anneal => 2
  | .servitor => 3
  | _ => 0

/-- SETPT_MACH_STATUS.STATE of a machine (assumption log 21). -/
def spState (s : State) (m : Nat) : Nat :=
  let x := spMach s m
  if (spClassOf s m).isNone then 0 else if ¬ planable s m then 1 else if x.causes.any then 4 else if x.still then 5
  else if x.v ≠ 0 ∨ x.chain ≠ [] then 3 else 2

/-- SETPT_MACH_STATUS.CAUSES, at their bits. -/
def causeBits (c : SpCauses) : List (Nat × Nat) :=
  [(8, b2n c.fleet), (9, b2n c.margin), (10, b2n c.outside), (11, b2n c.host), (12, b2n c.gearLost), (13, b2n c.overrun), (14, b2n c.noChain)]

/-- SETPT_MACH_STATUS of the machine that SETPT_MACH_SEL names. -/
def spMachView (s : State) : Word :=
  let m := regFld s 0x070010 6 0
  let x := spMach s m
  let slip := match x.gear with | some g => g.slip | none => false
  pack ([(28, spState s m), (24, match s.setpt.cfg.machs[m]? with | some c => c.1.getD 15 % 16 | none => 0), (23, b2n x.reverse), (22, b2n x.gear.isSome),
    (21, b2n x.stopLow), (20, b2n x.endNear), (19, b2n slip)] ++ causeBits x.causes)

/-- Served time of the last profile tick. -/
def lastTick (s : State) : Nat := (s.time.nextProf - 1) * 10 ^ 6

/-- How many of a pair's schedule entries the master has passed at the last tick. -/
def schedPassed (s : State) (g : Gear) : Nat :=
  match masterAt s g.master (lastTick s) with
  | some x => g.sched.countP (fun e => decide (0 < travelFrom e.pos 0 x))
  | none => 0

/-- r(x_m) of a pair at the last tick; its first ratio while it is not captured (R293, R295). -/
def ratioNow (s : State) (g : Gear) : Int :=
  match g.captured, masterAt s g.master (lastTick s) with
  | some (base, frac, _), some x => ratioAt g.ratio0.toNat (schedSteps base frac g.ratio0.toNat g.sched) (travelFrom base frac x)
  | _, _ => g.ratio0.toNat

/-- SETPT_GEAR_STATUS and SETPT_GEAR_RATIO of the selected machine. -/
def gearView (s : State) (ratio : Bool) : Word :=
  match (spMach s (regFld s 0x070010 6 0)).gear with
  | some g =>
    if ratio then BitVec.ofNat 32 (unsignedOf 32 (ratioNow s g))
    else pack [(24, g.master), (20, min 7 (schedPassed s g)), (16, g.sched.length % 16), (0, unsignedOf 16 (satSigned 16 (g.err / 10 ^ 9)))]
  | none => if ratio then 0 else pack [(24, 0xFF)]

/-- SETPT_STATUS. -/
def setptStatus (s : State) : Word :=
  let states := (List.range 128).map (spState s)
  let still := (List.range 128).countP (fun m => (spMach s m).still)
  pack [(30, setptState s), (29, b2n (s.sys.mode == .anneal)), (8, satNat 8 still), (0, satNat 8 (states.countP (fun k => decide (2 ≤ k))))]

/-- SETPT_TICK. -/
def setptTick (s : State) : Word := pack [(16, s.setpt.ethLast.toNat), (0, countShown 16 s.setpt.maxPlanUs)]

/-- SETPT (09_setpoint_engine.md, registers). -/
def setptView (s : State) (o : Nat) : Word :=
  let x := spMach s (regFld s 0x070010 6 0)
  if 0x80 ≤ o ∧ o ≤ 0x9C ∧ o % 4 = 0 then nth s.setpt.cmdBuf ((o - 0x80) / 4) 0
  else match o with
    | 0x04 => setptStatus s
    | 0x08 => setptTick s
    | 0x14 => spMachView s
    | 0x18 => pack [(16, x.allotId.toNat), (0, x.code.toNat)]
    | 0x1C => BitVec.ofNat 32 (unsignedOf 32 (x.s / 10 ^ 9))
    | 0x20 => BitVec.ofNat 32 (satNat 32 (x.remain / 10 ^ 9))
    | 0x24 => pack [(16, unsignedOf 16 (satSigned 16 (x.v / 10 ^ 6))), (0, unsignedOf 16 (satSigned 16 (x.a / 10 ^ 3)))]
    | 0x28 => gearView s false
    | 0x2C => gearView s true
    | 0x44 => pack [(31, b2n s.setpt.cmdBusy), (0, s.setpt.cmdResult.code)]
    | _ => heldBits s (0x070000 + o)

/-- RADIO_STATUS.STATE (R311, R345). -/
def radioState (s : State) : Nat :=
  match s.sys.mode with
  | .reset | .forming | .dormant => 0
  | m =>
    if ¬ s.radio.present then 0 else if ¬ s.radio.running then 1
    else if m = .servitor ∨ m = .yielded then 3 else 2

/-- RADIO_CHAIN_STATUS.STATE (assumption log 21). -/
def chainState (s : State) (c : Nat) : Nat :=
  let x := chain s c
  if x.health = .retired then 5 else if x.health = .testing then 4
  else if chainPending s c then 3
  else if radioState s = 0 ∨ ¬ chainOn s c ∨ txScope s c = .none then 0
  else if x.cfg.parentRx ∨ txScope s c = .quench then 2 else 1

/-- RADIO_CHAIN_CFG. -/
def chainCfgView (s : State) (c : Nat) : Word :=
  let x := (chain s c).cfg
  pack [(31, b2n x.en), (30, b2n (recoverable x)), (28, x.band % 4), (24, x.mode % 8), (16, x.beaconDiv % 128), (8, nth s.radio.ofs c 0 % 64),
    (4, b2n x.parentRx), (3, b2n x.nodes), (2, b2n x.corr), (1, b2n x.stop), (0, b2n x.gang)]

/-- RADIO_CHAIN_FEM. -/
def femWord (x : Chain) : Word :=
  pack [(31, b2n x.bypass), (30, b2n x.paPol), (29, b2n x.lnaPol), (8, x.paLead.toNat), (0, x.lnaLead.toNat)]

/-- The registers of the chain that RADIO_CHAIN_SEL names; there is no chain 3. -/
def chainView (s : State) (o : Nat) : Word :=
  let c := regFld s 0x080020 1 0
  let x := chain s c
  if c = 3 then 0
  else match o with
    | 0x24 => chainCfgView s c
    | 0x28 => pack [(29, chainState s c), (28, b2n (decide (chainState s c ≠ 0) && !s.twin.gateOpen)), (0, x.channel % 256)]
    | 0x2C => pack [(16, stopStart x.cfg), (0, gangStart x.cfg)]
    | 0x30 => pack [(16, sharedStart x.cfg), (0, if s.radio.present then airtime x.cfg.mode 40 else 0)]
    | 0x34 => pack [(31, b2n x.en), (0, x.txpwr.toNat)]
    | _ => femWord x

/-- The ledger account that RADIO_LEDGER_SEL names. -/
def ledgerSel (s : State) : Nat × Option Nat :=
  (regFld s 0x080040 5 4, if regFld s 0x080040 3 0 = 0xF then none else some (regFld s 0x080040 3 0))

/-- RADIO_NODE_STATUS and RADIO_NODE_WIDEN of the entry that RADIO_NODE_SEL names. -/
def nodeView (s : State) (widen : Bool) : Word :=
  match s.radio.nodes[regFld s 0x080060 10 0]? with
  | some n =>
    if widen then pack [(16, satNat 16 ((now s - n.answered) / 10 ^ 9)), (0, satNat 13 (widening s n))]
    else pack [(30, if n.synced then 1 else 2), (28, min 3 n.held.length), (0, n.addr.toNat)]
  | none => 0

/-- RADIO_NODE_RESULT. -/
def NodeResult.code : NodeResult → Nat
  | .none => 0 | .done => 1 | .busy => 2 | .exists_ => 3 | .full => 4 | .notFound => 5 | .clash => 6 | .mode => 7

/-- RADIO_STATUS. -/
def radioStatus (s : State) : Word :=
  let r := s.radio
  pack [(30, radioState s), (29, b2n r.orphan), (28, b2n r.silent), (27, b2n r.asnHold), (26, b2n r.asnWrap), (25, b2n r.keyFault),
    (8, satNat 8 r.repeatLeft), (0, slotIndex s)]

/-- RADIO (10_field_radio.md, registers). -/
def radioView (s : State) (o : Nat) : Word :=
  match o with
  | 0x04 => radioStatus s
  | 0x24 | 0x28 | 0x2C | 0x30 | 0x34 | 0x38 => chainView s o
  | 0x44 => BitVec.ofNat 32 (ledgerUse s (ledgerSel s).1 (ledgerSel s).2)
  | 0x48 => BitVec.ofNat 32 (accountLimit s (ledgerSel s).1 (ledgerSel s).2)
  | 0x64 => nodeView s false
  | 0x68 => nodeView s true
  | 0x7C => pack [(0, s.radio.nodeResult.code)]
  | _ => heldBits s (0x080000 + o)

end Sys2Proof.Machine
end

