-- ==== Sys2Proof/Machine/ViewC.lean ====
section
/-! DEFINITION. ViewC.lean: what a read of a QUENCH, SWITCH, TWIN, FAULT or DISPATCH register returns where its fields report state held by
the block (00_scope.md R6, R7; 11_quench_permit.md to 15_cores_dispatcher.md, registers). -/

namespace Sys2Proof.Machine

open Sys2Proof

/-- QUENCH_STATUS.CH_A to CH_C. -/
def ChHealth.code : ChHealth → Nat
  | .healthy => 0 | .testing => 1 | .retired => 2

/-- QUENCH_STATUS. -/
def quenchStatus (s : State) : Word :=
  pack [(31, b2n (latched s)), (30, b2n (votedStop s)), (29, b2n (decide (1 ≤ retiredChs s))), (28, b2n s.quench.permitOut),
    (26, (qch s 0).health.code), (24, (qch s 1).health.code), (22, (qch s 2).health.code), (8, s.quench.cause.code)]

/-- QUENCH (11_quench_permit.md, registers). -/
def quenchView (s : State) (o : Nat) : Word :=
  if 0x20 ≤ o ∧ o ≤ 0x2C ∧ o % 4 = 0 then BitVec.ofNat 32 (permits s / 2 ^ (8 * (o - 0x20)))
  else if 0x40 ≤ o ∧ o ≤ 0x4C ∧ o % 4 = 0 then BitVec.ofNat 32 (s.quench.machq.toNat / 2 ^ (8 * (o - 0x40)))
  else match o with
    | 0x04 => quenchStatus s
    | 0x08 => BitVec.ofNat 32 (quenchSrc s)
    | 0x10 => pack [(0, s.quench.result.code)]
    | 0x1C => pack [(0, s.quench.qseq.toNat)]
    | _ => heldBits s (0x090000 + o)

/-- SWITCH_STATUS.STATE: the switch is off, runs, or runs its pipeline 0 alone (R404). -/
def switchState (s : State) : Nat := if ¬ portRuns s 0 then 0 else if portRuns s 4 then 1 else 2

/-- SWITCH_PORT_STATUS.STATE. -/
def portState (s : State) (p : Nat) : Nat :=
  let x := swPort s p
  if portPending s p then 4
  else if (x.stopping ∨ x.shedWait) ∧ x.onWire.isSome then 3
  else if ¬ x.en ∨ ¬ portRuns s p then 0
  else if 12 ≤ p ∨ x.up then 1 else 2

/-- SWITCH_PORT_STATUS.SPEED; an internal port counts as 10 Gbit/s. -/
def speedCode (s : State) (p : Nat) : Nat :=
  if 12 ≤ p then 3
  else if (swPort s p).speed = 100 then 1 else if (swPort s p).speed = 1000 then 2 else if (swPort s p).speed = 10000 then 3 else 0

/-- The registers of the port that SWITCH_PORT_SEL names. -/
def portView (s : State) (o : Nat) : Word :=
  let p := regFld s 0x0A0010 3 0
  let c := portCfg s p
  match o with
  | 0x14 => pack [(31, b2n c.en), (30, b2n c.tsEn), (24, c.mode % 16), (0, satNat 14 c.maxLen)]
  | 0x18 => pack [(29, portState s p), (27, speedCode s p), (26, b2n (swPort s p).anDone)]
  | _ => pack [(31, b2n ((swPort s p).en && (!(swPort s p).stopping || (swPort s p).pendingEn)))]

/-- The queue that SWITCH_Q_SEL names, as k = 32 × port + queue. -/
def queueSel (s : State) : Nat := qk (regFld s 0x0A0030 3 0) (regFld s 0x0A0030 12 8)

/-- The least slack of a queue's frames in ns, saturating; all ones for none. -/
def leastSlack (s : State) (k : Nat) : Nat := ((swQ s k).frames.map (fun f => f.slack / 1000)).foldl min 0xFFFFFFFF

/-- The registers of the selected queue. -/
def queueView (s : State) (o : Nat) : Word :=
  let k := queueSel s
  let c := queueCfg s k
  match o with
  | 0x34 => if s.switch.qcfg.isEmpty then 0 else pack [(29, c.cls.getD 0 % 8), (28, b2n c.cls.isSome), (16, satNat 8 c.weight), (8, c.pause.getD 0xFF % 256)]
  | 0x38 => pack [(31, b2n (swQ s k).above), (27, (swQ s k).lastCause % 16), (0, satNat 20 (swDepth s k))]
  | 0x3C => pack [(16, satNat 16 c.high), (0, satNat 16 c.low)]
  | _ => BitVec.ofNat 32 (leastSlack s k)

/-- SWITCH (12_packet_switch.md, registers). -/
def switchView (s : State) (o : Nat) : Word :=
  if 0x60 ≤ o ∧ o ≤ 0x7C ∧ o % 4 = 0 then pack [(0, satNat 20 (nth s.switch.bounds ((o - 0x60) / 4) 0))]
  else match o with
    | 0x04 => pack [(30, switchState s), (29, b2n (portRuns s 0 && !s.twin.gateOpen)), (0, satNat 20 (s.switch.blocks - blocksUsed s))]
    | 0x14 | 0x18 | 0x1C => portView s o
    | 0x34 | 0x38 | 0x3C | 0x40 => queueView s o
    | 0x80 => BitVec.ofNat 32 (pausePins s)
    | _ => heldBits s (0x0A0000 + o)

/-- TWIN_STATUS.PAIR (R420). -/
def PairState.code : PairState → Nat
  | .alone => 0 | .unpaired => 1 | .mismatch => 2 | .syncing => 3 | .ready => 4

/-- TWIN_STATUS.LINK (R415). -/
def LinkState.code : LinkState → Nat
  | .off => 0 | .training => 1 | .hello => 2 | .up => 3 | .testing => 4 | .failed => 5

/-- TWIN_RESULT.RESULT. -/
def TwinResult.code : TwinResult → Nat
  | .none => 0 | .done => 1 | .busy => 2 | .denied => 3 | .notReady => 4 | .mode => 5 | .badParam => 6 | .conflictLost => 7

/-- TWIN_STATUS. -/
def twinStatus (s : State) : Word :=
  let t := s.twin
  pack [(28, t.pair.code), (27, b2n t.claimO), (26, b2n t.claimI), (25, b2n t.gateOpen), (24, b2n t.peerGated), (23, b2n t.stale),
    (20, t.link.code), (19, b2n t.unit), (18, b2n t.keyFault), (0, t.peerMode.code)]

/-- TWIN_MIRROR_AGE: µs since the last committed group, on a servitor. -/
def mirrorAge (s : State) : Nat :=
  match s.twin.lastCommit with
  | some t => if s.sys.mode = .servitor then satNat 32 ((s.clk - t) / 1000) else 0xFFFFFFFF
  | none => 0xFFFFFFFF

/-- TWIN (13_twin_redundancy.md, registers). -/
def twinView (s : State) (o : Nat) : Word :=
  match o with
  | 0x04 => twinStatus s
  | 0x0C => pack [(0, s.twin.result.code)]
  | 0x10 => s.twin.peerSum
  | 0x14 => pack [(0, s.twin.mirrorSet.toNat)]
  | 0x18 => BitVec.ofNat 32 (mirrorAge s)
  | 0x20 => BitVec.ofNat 32 s.twin.gap
  | _ => heldBits s (0x0B0000 + o)

/-- FAULT_RES_STATUS.STATE. -/
def ResState.code : ResState → Nat
  | .healthy => 0 | .testing => 1 | .retired => 2 | .spared => 3 | .absent => 4

/-- The resource of a block at an index (R438; the numbering of assumption log 26). -/
def resAt (b i : Nat) : Option (ResKind × Nat) :=
  (injectKinds.find? (fun k => faultCode k / 256 == b && decide (resBase k ≤ i ∧ i < resBase k + resCount k))).map (fun k => (k, i - resBase k))

/-- FAULT_RES_STATUS of the resource that FAULT_RES_SEL names; ABSENT of an index past the resources of a block that has some
(DEDUCED from the register's reset value, assumption log 26). -/
def resView (s : State) : Word :=
  match resAt (regFld s 0x0C0020 12 8) (regFld s 0x0C0020 7 0) with
  | some (k, i) =>
    let r := resOf s k i
    pack [(29, r.state.code), (24, min 15 (recentTransients s r).length), (0, r.code.toNat)]
  | none => if (resAt (regFld s 0x0C0020 12 8) 0).isSome then pack [(29, ResState.absent.code)] else 0

/-- FAULT_QHALT: the halted command queues. -/
def haltedQueues (s : State) : Nat := ((List.range 16).map (fun n => b2n ((cq s n).state == .halted) * 2 ^ n)).sum

/-- FAULT_STATUS. -/
def faultStatus (s : State) : Word :=
  let has (x : ResState) : Bool := s.fault.res.any (fun r => r.state == x)
  pack [(31, b2n (!s.fault.held.isEmpty)), (30, b2n (has .testing)), (29, b2n (has .retired || has .spared)), (0, s.fault.reportSeq.toNat)]

/-- FAULT (14_faults_recovery.md, registers). -/
def faultView (s : State) (o : Nat) : Word :=
  let f := s.fault
  match o with
  | 0x04 => faultStatus s
  | 0x08 => pack [(16, f.lastCode.toNat), (8, f.lastRes.toNat), (6, b2n f.lastEscalated), (5, b2n f.lastYieldFirst), (0, classCode f.lastClass)]
  | 0x14 => BitVec.ofNat 32 (haltedQueues s)
  | 0x24 => resView s
  | 0x34 => pack [(0, f.injectResult.toNat)]
  | _ => heldBits s (0x0C0000 + o)

/-- DISPATCH_CORE_STATUS of a core. -/
def coreState (s : State) (k : Nat) : Nat :=
  let c := core_ s k
  if c.health = .retired then 3 else if c.health = .testing then 2 else if c.gated then 4
  else if c.stopping ∧ c.run then 5 else if c.started then 1 else 0

/-- DISPATCH (15_cores_dispatcher.md, registers); the per-core registers report to their own core alone, and TAKE is a read with an
effect (R467, R585). -/
def dispatchView (s : State) (o : Nat) : Word :=
  if 0x40 ≤ o ∧ o ≤ 0x7C ∧ o % 4 = 0 then pack [(8, (groupWritten s ((o - 0x40) / 4)).2.toNat), (0, (groupWritten s ((o - 0x40) / 4)).1)]
  else match o with
    | 0x00 => heldBits s 0x0D0000 ||| pack ((List.range 8).map (fun k => (k, b2n (core_ s k).run)))
    | 0x04 => pack ((List.range 8).map (fun k => (4 * k, coreState s k)))
    | 0xA4 => pack [(0, s.dispatch.descResult.toNat)]
    | _ => heldBits s (0x0D0000 + o)

end Sys2Proof.Machine
end

