-- ==== Sys2Proof/Machine/ViewD.lean ====
section
/-! DEFINITION. ViewD.lean: what a read of a HOSTIF, GEODE, ASSAY, STRATA or IOCTL register returns where its fields report state held by
the block, and what a word of an indirect window does (00_scope.md R6, R7; 16_host_interface.md to 21_address_map.md, registers). -/

namespace Sys2Proof.Machine

open Sys2Proof

/-- A 32-bit word of a buffer at a byte offset. -/
def wordAt (bs : Bytes) (o : Nat) : Word := BitVec.ofNat 32 (leAt bs o 4)

/-- HOSTIF_MBm_STATUS. -/
def mbStatus (x : Mailbox) : Word :=
  let h := x.h2c
  let c := x.c2h
  pack [(24, c.words.length), (16, h.words.length), (9, b2n c.txReset), (8, b2n c.rxReset), (7, b2n h.txReset), (6, b2n h.rxReset),
    (5, b2n c.empty), (4, b2n h.empty), (1, b2n c.collision), (0, b2n h.collision)]

/-- The registers of mailbox m for a reader: one that is not on the side that a register names reads 0 (R478). A bell names both sides. -/
def mailboxView (s : State) (who : Master) (m o : Nat) : Word :=
  let x := mb s m
  let host := onHostSide m who
  let core := onCoreSide m who
  let when (b : Bool) (w : Word) : Word := if b then w else 0
  match o with
  | 0x10 => mbStatus x
  | 0x14 => when (host || core) x.h2c.bell
  | 0x18 => when core x.h2c.mask
  | 0x1C => when (host || core) x.c2h.bell
  | 0x20 => when host x.c2h.mask
  | 0x24 => when host (pack [(0, x.hostIe.toNat)])
  | 0x28 => when core (pack [(0, x.coreIe.toNat)])
  | _ => 0

/-- HOSTIF_CQn_STATUS.STATE and HOSTIF_EQn_STATUS.STATE. -/
def QState.code : QState → Nat
  | .off => 0 | .run => 1 | .halted => 2 | .pending => 3 | .retired => 4

/-- The registers of command queue n. -/
def cqView (s : State) (n o : Nat) : Word :=
  let c := cq s n
  match o with
  | 0x08 => pack [(31, b2n c.en), (24, c.owner % 16), (0, c.sizeLog2 % 16)]
  | 0x0C => c.tail
  | 0x10 => c.fetch
  | 0x14 => c.commit
  | 0x18 => pack [(29, c.state.code), (1, b2n c.overfill), (0, b2n c.flushed)]
  | _ => heldBits s (0x0E0800 + 0x40 * n + o)

/-- The registers of event queue q. -/
def eqView (s : State) (q o : Nat) : Word :=
  let e := eq_ s q
  match o with
  | 0x08 => pack [(31, b2n e.en), (30, b2n e.solution), (24, e.owner % 16), (16, e.coalN % 256), (4, e.coalUs % 4096), (0, e.sizeLog2 % 16)]
  | 0x0C => e.head
  | 0x10 => e.write
  | 0x24 => pack [(29, e.state.code), (28, b2n e.above), (1, b2n e.badHead), (0, b2n e.lost)]
  | _ => heldBits s (0x0E0C00 + 0x40 * q + o)

/-- Held locks from a number on, one bit each. -/
def locksHeld (s : State) (base : Nat) : Word :=
  pack ((List.range 32).map (fun j => (j, b2n (kget s.hostif.locks (base + j)).isSome)))

/-- HOSTIF_STATUS. -/
def hostifStatus (s : State) : Word :=
  let h := s.hostif
  pack [(31, b2n h.linkUp), (28, h.gen), (24, h.width), (0, h.hostResets)]

/-- HOSTIF (16_host_interface.md, registers). -/
def hostifView (s : State) (who : Master) (o : Nat) : Word :=
  if 0x100 ≤ o ∧ o < 0x340 then mailboxView s who ((o - 0x100) / 0x40) (o % 0x40)
  else if 0x800 ≤ o ∧ o < 0xC00 then cqView s ((o - 0x800) / 0x40) (o % 0x40)
  else if 0xC00 ≤ o ∧ o < 0x1000 then eqView s ((o - 0xC00) / 0x40) (o % 0x40)
  else match o with
    | 0x04 => hostifStatus s
    | 0x08 => 0x96101E96
    | 0x10 => pack [(0, s.hostif.sramRetired.toNat)]
    | 0x500 => locksHeld s 0
    | 0x504 => locksHeld s 32
    | _ => heldBits s (0x0E0000 + o)

/-- GEODE_RESULT.RESULT. -/
def GResult.code : GResult → Nat
  | .none => 0 | .done => 1 | .busy => 2 | .deniedMaster => 3 | .deniedWorld => 4 | .deniedLc => 5 | .usage => 6 | .type => 7
  | .empty => 8 | .occupied => 9 | .attrMismatch => 0xA | .notExportable => 0xB | .unwrapFail => 0xC | .mode => 0xD | .token => 0xE
  | .noKeyHash => 0xF | .lastKey => 0x10 | .fuseExhausted => 0x11 | .badParam => 0x12 | .lifeCycle => 0x13

/-- GEODE_STATUS. -/
def geodeStatus (s : State) : Word :=
  let g := s.geode
  pack [(29, g.fuses.life.code), (28, b2n g.hostOpen), (27, b2n (decide (8 ≤ g.fails))), (24, min 7 g.fails), (0, g.slots.length)]

/-- GEODE_SLOT_ATTR: the slot's attribute word, or the policy word of an empty slot with VALID 0. -/
def slotView (s : State) : Word :=
  let n := regFld s 0x0F0090 6 0
  match kget s.geode.slots n, kget s.geode.policy n with
  | some x, _ => x.attr
  | none, some p => p &&& 0xFFFFFF7F
  | none, none => 0

/-- GEODE_HASH_STATUS of the entry that GEODE_HASH_SEL names. -/
def hashView (s : State) : Word :=
  let left := 64 - s.geode.fuses.raises
  match s.geode.fuses.hashes[regFld s 0x0F0140 2 0]? with
  | some h => pack [(31, 1), (30, b2n h.revoked), (23, h.life.toNat), (0, left)]
  | none => pack [(0, left)]

/-- GEODE (17_geode_keys.md, registers). A read of GEODE_CHAL0 draws a value, and only host accesses see the challenge (R505). -/
def geodeView (s : State) (who : Master) (o : Nat) : Word :=
  if 0xA0 ≤ o ∧ o ≤ 0x104 then wordAt (gbufs s who).wrap (o - 0xA0)
  else if 0x114 ≤ o ∧ o ≤ 0x11C then (if who = .host then BitVec.ofNat 32 (s.geode.chal.toNat / 2 ^ (8 * (o - 0x110))) else 0)
  else match o with
    | 0x04 => geodeStatus s
    | 0x88 => pack [(0, s.geode.result.code)]
    | 0x94 => slotView s
    | 0x144 => hashView s
    | _ => heldBits s (0x0F0000 + o)

/-- ASSAY_CH_CFG.MODE. -/
def AsMode.code : AsMode → Nat
  | .off => 0 | .single => 1 | .quad => 2

/-- ASSAY_RESULT.RESULT. -/
def AsResult.code : AsResult → Nat
  | .none => 0 | .done => 1 | .busy => 2 | .denied => 3 | .mode => 4 | .badParam => 5 | .off => 6

/-- ASSAY_CH_CFG of a channel. -/
def assayCfg (c : AsChan) : Word :=
  pack [(30, c.mode.code), (28, b2n c.aLow + 2 * b2n c.dirInv),
    (16, ((List.range 4).map (fun q => b2n ((nth c.qs q {}).source != .off) * 2 ^ q)).sum), (0, satNat 15 c.debounce)]

/-- ASSAY_CH_STATUS.STATE: OFF, COUNTING, SHUTTING or PENDING. -/
def AsChan.stateCode (c : AsChan) : Nat := if c.shutting then (if c.pendingEn then 3 else 2) else if c.counts then 1 else 0

/-- ASSAY_CH_STATUS of a channel. -/
def assayStatus (c : AsChan) : Word :=
  pack [(29, c.stateCode), (3, b2n c.levelB), (2, b2n c.levelA), (1, b2n c.stuck), (0, b2n c.overrun)]

/-- A master's snapshot registers (R533): served time, totals and quantities, each in two words that the snapshot holds. -/
def snapView (s : State) (who : Master) (o : Nat) : Word :=
  match s.assay.snaps.find? (fun x => x.master == who) with
  | none => 0
  | some x =>
    let bs := leBytes 8 x.time.toNat ++ leBytes 8 x.fwd.toNat ++ leBytes 8 x.rev.toNat ++ leBytes 4 0
      ++ (List.range 4).flatMap (fun q => leBytes 8 (nth x.qs q 0).toNat)
    wordAt bs (o - 0x24)

/-- ASSAY (18_assay_metering.md, registers). -/
def assayView (s : State) (who : Master) (o : Nat) : Word :=
  let c := asChan s (regFld s 0x100008 3 0)
  if 0x24 ≤ o ∧ o ≤ 0x5C then snapView s who o
  else if 0x80 ≤ o ∧ o ≤ 0x9C then wordAt s.assay.irecData (o - 0x80)
  else match o with
    | 0x04 => pack [(31, b2n s.assay.unstored), (30, b2n s.assay.engine), (0, ((List.range 16).map (fun n => b2n ((asChan s n).mode != .off) * 2 ^ n)).sum)]
    | 0x0C => assayCfg c
    | 0x10 => assayStatus c
    | 0x14 => pack [(31, b2n (c.en && (!c.shutting || c.pendingEn)))]
    | 0x64 => pack [(0, s.assay.result.code)]
    | 0x70 => regWord s 0x100070
    | 0x74 => pack [(31, b2n s.assay.irecValid), (30, b2n s.assay.irecGone), (29, b2n s.assay.irecCrcBad)]
    | 0x78 => s.assay.irecNext
    | _ => heldBits s (0x100000 + o)

/-- STRATA_RESULT.RESULT. -/
def StResult.code : StResult → Nat
  | .none => 0 | .done => 1 | .busy => 2 | .denied => 3 | .badParam => 4

/-- Records held in cairn (R548). -/
def cairnCount (st : Strata) : Nat := st.cairnFirst.toList.length + st.cairn.length

/-- STRATA_STATUS. -/
def strataStatus (s : State) : Word :=
  let st := s.strata
  pack [(31, b2n st.inCairn), (30, b2n (match st.sizes with | some (n, _) => decide (n ≤ st.bedrock.length) | none => false)),
    (10, cairnCount st), (0, st.queue.length)]

/-- STRATA_SIZES. -/
def strataSizes (s : State) : Word :=
  match s.strata.sizes with
  | some (n, lg) => pack [(24, s.strata.sumCount), (20, lg - 8), (0, n / 1024)]
  | none => pack [(24, s.strata.sumCount)]

/-- STRATA (19_strata_recorder.md, registers). -/
def strataView (s : State) (o : Nat) : Word :=
  match o with
  | 0x04 => strataStatus s
  | 0x08 => s.strata.next
  | 0x0C => s.strata.driftFirst
  | 0x10 => s.strata.bedrockFirst
  | 0x14 => BitVec.ofNat 32 s.strata.bedrock.length
  | 0x18 => strataSizes s
  | 0x24 => pack [(0, s.strata.result.code)]
  | _ => heldBits s (0x110000 + o)

/-- A word of an area of n records (R539, R543): beyond it 0, and free where no record stands since the area was laid out or cleared
(DESIGN CHOICE, assumption log 26). -/
def areaWord (s : State) (at_ : Nat → Option StRecord) (n off o : Nat) : Word :=
  if n ≤ o / 32 then 0
  else match at_ (o / 32) with
    | some r => wordAt (stBytes r) (o % 32)
    | none => BitVec.ofNat 32 (Config.windowWord s.fresh off)

/-- A word of Strata's windows, by register-space offset (21_address_map.md, indirect windows). -/
def strataWindow (s : State) (off : Nat) : Word :=
  let st := s.strata
  let n := match st.sizes with | some x => x | none => (0, 0)
  if off < 0x15FC000 then wordAt st.window (off - 0x1500000)
  else if off < 0x1600000 then areaWord s (fun k => if k = 0 then st.cairnFirst else st.cairn[k - 1]?) 512 off (off - 0x15FC000)
  else if off < 0x1800000 then areaWord s (kget st.bedrock) n.1 off (off - 0x1600000)
  else areaWord s (kget st.drift) (if st.sizes.isSome then 2 ^ n.2 else 0) off (off - 0x1800000)

/-- Level at a GPIO ball (R121, IOCTL_GPIO_DIR, IOCTL_GPIO_FUNC): a compare's pulse, the output register, or what outside drives. -/
def gpioLevel (s : State) (i : Nat) : Bool :=
  let f := gpioFunc s i
  if 1 ≤ f ∧ f ≤ 4 then
    let p := vget s.time.pulses (f - 1) (0, 0)
    p.2.toNat.testBit i && decide (s.clk < p.1)
  else if regBit s 0x12001C i then regBit s 0x120020 i
  else s.ioctl.gpioIn.toNat.testBit i

/-- IOCTL_DRV_STATUS. -/
def driverStatus (s : State) : Word :=
  pack ((List.range 4).flatMap (fun d =>
    let x := vget s.ioctl.drivers d {}
    [(4 * d + 2, b2n x.trip), (4 * d + 1, b2n x.openLoad), (4 * d, b2n (energised s d))]))

/-- IOCTL_UARTn_STATUS. -/
def uartStatus (s : State) (n : Nat) : Word :=
  let u := uart s n
  pack [(31, b2n (rtkOwns s n)), (19, b2n u.rxOvf), (18, b2n u.frameErr), (17, b2n u.parityErr), (16, b2n u.txOvf), (8, u.rx.length),
    (0, min 64 (uartLeft s n).length)]

/-- IOCTL (20_pins_electrical.md, registers). -/
def ioctlView (s : State) (o : Nat) : Word :=
  match o with
  | 0x24 => pack ((List.range 24).map (fun i => (i, b2n (gpioLevel s i))))
  | 0x34 => pack ((List.range 16).map (fun n => (n, b2n (asChan s n).levelB)))
  | 0x40 => driverStatus s
  | 0x54 => uartStatus s 0
  | 0x64 => uartStatus s 1
  | _ => heldBits s (0x120000 + o)

/-- The MSI-X table and its pending bits, which PCIe alone reaches (R474, R581). A pending bit stands while its vector is masked and its
source is up or has been signalled (PRESUMED from PCIe, assumption log 12). -/
def msixView (s : State) (who : Master) (o : Nat) : Word :=
  if who ≠ .host then 0
  else if o < 0x800 then heldBits s (0xF00000 + o)
  else if o < 0x810 then
    pack ((List.range 32).map (fun j =>
      let v := 8 * (o - 0x800) + j
      (j, b2n (vectorMasked s v && (s.hostif.pba.contains v || msixLine s v)))))
  else 0

end Sys2Proof.Machine
end

