-- ==== Sys2Proof/Machine/Pins.lean ====
section
/-! DEFINITION. Pins.lean: the levels of the part's output pins, which follow from its state, and the JTAG port (10_field_radio.md R343;
20_pins_electrical.md R558 to R564, R573, R574). No row of the table moves the JTAG port, so its operations stand here alone (assumption
log 36). -/

namespace Sys2Proof.Machine

open Sys2Proof

/-- A level. -/
def levelOfBit (b : Bool) : PinLevel := if b then .high else .low

/-- FEM_PA_EN is asserted: from PA_LEAD before the first preamble symbol to the last symbol of the chain's frame (R343). -/
def paOn (s : State) (c : Nat) : Bool :=
  let x := chain s c
  x.onAir.isSome && decide (x.airStart ≤ now s + x.paLead.toNat * 1000 ∧ now s < x.airEnd)

/-- The chain receives at all in this mode (R345). -/
def chainListens (s : State) (c : Nat) : Bool := listens s c 8

/-- A chain's listen windows in the current slot, in µs from its boundary (R329, R330, R335 to R338, R343, R348; DEDUCED, assumption
log 21). -/
def listenWindows (s : State) (c : Nat) : List (Nat × Nat) :=
  let x := chain s c
  let use := (slotUse s c).1
  if ¬ chainListens s c then []
  else if s.sys.mode = .reserve then (if x.cfg.stop ∧ ¬ stopCovered s c then [(stopStart x.cfg, stopEnd x.cfg)] else [])
  else if x.cfg.parentRx ∨ (use = .rendezvous ∧ x.cfg.nodes) then [(0, 10000)]
  else
    (if s.sys.mode = .servitor then [(0, beaconEnd x.cfg)] else [])
    ++ (if x.cfg.stop ∧ ¬ stopCovered s c then [(stopStart x.cfg, stopEnd x.cfg)] else [])
    ++ (if use = .up ∨ use = .poll then [(sharedUs s c, 9600)] else [])
    ++ (if x.awaitAck.isSome then [((x.airEnd - slotStart s) / 1000, 9600)] else [])

/-- FEM_LNA_EN is asserted: from LNA_LEAD before a listen window to its end, and never with FEM_PA_EN (R343). -/
def lnaOn (s : State) (c : Nat) : Bool :=
  !paOn s c && (listenWindows s c).any (fun w =>
    decide (slotStart s + w.1 * 1000 ≤ now s + (chain s c).lnaLead.toNat * 1000 ∧ now s < slotStart s + w.2 * 1000))

/-- A front-end pin: driven at its polarity while the main die runs, and low through its pull-down while it does not, whatever its polarity
(R560, R561). -/
def femPin (s : State) (asserted activeLow : Bool) : PinLevel :=
  if s.aon.mainRun then levelOfBit (asserted != activeLow) else .floatLow

/-- REF10_OUT drives REF10_IN's 10 MHz while REF10_OUT_EN is 1, and is held low otherwise (R128). -/
def ref10Pin (s : State) : PinLevel :=
  if s.aon.mainRun ∧ regBit s 0x020000 4 = true ∧ s.aon.refPresent = true then .clock else .low

/-- A field driver is a switch to VSS: on it pulls its ball low, off it leaves it (R564). -/
def driverPin (on : Bool) : PinLevel := if on then .low else .floating

/-- A GPIO ball that the part drives, or its pull-down; the first four stand in the AON domain and keep their function in every mode
(R560). -/
def gpioPin (s : State) (i : Nat) : PinLevel :=
  let f := gpioFunc s i
  if (s.aon.mainRun = true ∨ i < 4) ∧ ((1 ≤ f ∧ f ≤ 4) ∨ regBit s 0x12001C i = true) then levelOfBit (gpioLevel s i)
  else if regBit s 0x120028 i then .floatLow else .floating

/-- What a pin shows by its own block. -/
def ownLevel (s : State) : OutPin → PinLevel
  | .femPa c => femPin s (paOn s c.val) (chain s c.val).paPol
  | .femLna c => femPin s (lnaOn s c.val) (chain s c.val).lnaPol
  | .femBypass c => femPin s (chain s c.val).bypass false
  | .ref10Out => ref10Pin s
  | .ppsOut => levelOfBit (s.aon.mainRun && s.time.ppsHigh)
  | .quenchOut k => driverPin (energised s k.val)
  | .permitOut => driverPin (energised s 3)
  | .claimO => levelOfBit s.twin.claimO
  | .pauseOut n => levelOfBit (pausePin s n.val != regBit s 0x120038 n.val)
  | .gpio i => gpioPin s i.val
  | .smbalert => if smbAlert s then .low else .floating
  | .tdo => .floating

/-- Pins in the boundary scan: every digital one but the field drivers, TWIN_CLAIM_O and the port's own (R573). -/
def scannable : OutPin → Bool
  | .quenchOut _ | .permitOut | .claimO | .tdo => false
  | _ => true

/-- The level of a pin: EXTEST and CLAMP drive it from the boundary cells, HIGHZ lets it go, and the pins outside the chain stay under
their own blocks (R573). -/
def pinLevel (s : State) (p : OutPin) : PinLevel :=
  if ¬ scannable p then ownLevel s p
  else match s.ioctl.tap.instr with
    | .extest | .clamp => ((s.ioctl.tap.cells.find? (fun x => x.1 == p)).map Prod.snd).getD .low
    | .highz => .floating
    | _ => ownLevel s p

/-- IDCODE: version 0x1, part 0x9610 and Karrum's manufacturer field (R573). -/
def idcode : Word := 0x196106B7

/-- The register that an instruction puts between TDI and TDO, as it is captured: IDCODE, the boundary scan, or the bypass bit. -/
inductive TapData where
  | bypass | idcode (w : Word) | boundary (pins : List (OutPin × PinLevel))
  deriving DecidableEq, Repr

/-- The data register of the instruction in force (R573). -/
def tapData (s : State) (pins : List OutPin) : TapData :=
  match s.ioctl.tap.instr with
  | .idcode => .idcode idcode
  | .sample | .extest => .boundary ((pins.filter scannable).map (fun p => (p, pinLevel s p)))
  | _ => .bypass

/-- An instruction comes into force. -/
def tapSelect (i : TapInstr) (s : State) : State := { s with ioctl.tap := { s.ioctl.tap with instr := i } }

/-- The boundary cells take what was shifted in: SAMPLE/PRELOAD and EXTEST reach them, and no pin outside the chain has one (R573). -/
def tapUpdate (l : List (OutPin × PinLevel)) (s : State) : State :=
  match s.ioctl.tap.instr with
  | .sample | .extest => { s with ioctl.tap := { s.ioctl.tap with cells := l.filter (fun x => scannable x.1) } }
  | _ => s

/-- Devices on the scan chain. -/
inductive ScanDevice where
  | part | debugModule
  deriving DecidableEq, Repr

/-- The debug module of the field cores is reachable in FACTORY and OWNED alone (R574). -/
def debugReachable (s : State) : Bool := s.geode.fuses.life == .factory || s.geode.fuses.life == .owned

/-- The scan chain: in every other state the debug module is absent from it (R574). -/
def scanChain (s : State) : List ScanDevice := if debugReachable s then [.part, .debugModule] else [.part]

end Sys2Proof.Machine
end

