-- ==== Sys2Proof/Machine/Register.lean ====
section
/-! DEFINITION. Register.lean: an access to the register space: what a write does to the registers that start something, what a read
returns and does, and the register commands that every block shares (00_scope.md R5 to R11; 21_address_map.md R579 to R585). -/

namespace Sys2Proof.Machine

open Sys2Proof

/-- The state that a meaning leaves. -/
def via (f : State → Out) (s : State) : State := match f s with | .next t => t | _ => s

/-- A field of two bits as an operand. -/
def fin4 (n : Nat) : Fin 4 := ⟨n % 4, Nat.mod_lt _ (by decide)⟩

/-- A field of seven bits as an operand. -/
def fin128 (n : Nat) : Fin 128 := ⟨n % 128, Nat.mod_lt _ (by decide)⟩

/-- The core that a master is. -/
def coreIndex : Master → Option Nat
  | .core k => some k.val
  | _ => none

/-- SYS_MODE_REQ and SYS_RESET_CTRL (03_modes_power_reset.md). -/
def sysCommand (who : Master) (o : Nat) (v : Word) (s : State) : State :=
  if o = 0x08 ∧ bit v 31 = true then modeRequest (fld v 3 0) who none s
  else if o = 0x14 then via (execResetCtrlMain v) s
  else regWrite o v s

/-- PARISON_CTRL and PARISON_STORE_CTRL (02_parison_image.md). -/
def parisonCommand (o : Nat) (v : Word) (s : State) : State :=
  if o = 0 then (if bit v 31 then startAction (fld v 1 0) (fin4 (fld v 3 2)) (fin4 (fld v 5 4)) s else s)
  else if o = 0x1C then
    if ¬ bit v 31 then s
    else if fld v 3 2 = 0 then via (execMakeActive (fin4 (fld v 1 0))) s
    else if fld v 3 2 = 1 then via (execMakeFallback (fin4 (fld v 1 0))) s
    else if fld v 3 2 = 2 then via (execInvalidateSlot (fin4 (fld v 1 0))) s
    else reportErr .semantic s
  else regWrite (0x010000 + o) v s

/-- GNSS_CTRL and GNSS_EXCL_CTRL (05_gnss_baseband.md). -/
def gnssCommand (o : Nat) (v : Word) (s : State) : State :=
  if o = 0 then
    let s := regWrite 0x030000 v s
    let s := if bit v 1 then spoofAck s else s
    if bit v 0 then coldStart s else s
  else if o = 0x80 then
    if ¬ bit v 31 then s
    else if fld v 17 16 = 0 then exclAdd (fld v 15 8) (fld v 7 0) s
    else if fld v 17 16 = 1 then exclRemove (fld v 15 8) (fld v 7 0) s
    else if fld v 17 16 = 2 then exclClear s
    else s
  else regWrite (0x030000 + o) v s

/-- RTK_CTRL and RTK_MACH_CTRL (06_reference_central_rtk.md). -/
def rtkCommand (o : Nat) (v : Word) (s : State) : State :=
  if o = 0 then
    if bit v 0 then via (execSurveyStart v) s
    else if bit v 1 then via (execConfirm v) s
    else if bit v 2 then via (execEnter v) s
    else if bit v 3 then via (execClear v) s
    else regWrite 0x040000 v s
  else if o = 0x88 then
    if ¬ bit v 31 then s
    else if fld v 9 8 = 0 then via (execResetFilter (fin128 (fld v 6 0))) s
    else if fld v 9 8 = 1 then via (execSuspend (fin128 (fld v 6 0))) s
    else if fld v 9 8 = 2 then via (execFilterResume (fin128 (fld v 6 0))) s
    else s
  else writeRtk o v s

/-- LODE_ACC_CTRL (07_lode_tables.md R239). -/
def lodeCommand (o : Nat) (v : Word) (s : State) : State :=
  if o = 0x30 then (if bit v 31 then lodeAcc (fld v 9 8) (fld v 5 0) (bit v 6) false s else s) else regWrite (0x050000 + o) v s

/-- RADIO_NODE_CTRL (10_field_radio.md R334). -/
def radioCommand (o : Nat) (v : Word) (s : State) : State :=
  let a := BitVec.ofNat 16 (fld v 15 0)
  if o = 0x78 then
    if ¬ bit v 31 then s
    else if fld v 29 28 = 0 then via (execNodeAdd a false) s
    else if fld v 29 28 = 1 then via (execNodeRemove a false) s
    else if fld v 29 28 = 2 then via (execForceResync a false) s
    else s
  else writeRadio o v s

/-- TWIN_CTRL and TWIN_CMD (13_twin_redundancy.md). -/
def twinCommand (who : Master) (o : Nat) (v : Word) (s : State) : State :=
  if o = 0 then linkEnWrite v s
  else if o = 0x08 then
    if fld v 31 16 ≠ 0x9610 then s
    else if fld v 15 12 = 1 then via (execYield who false false) s
    else if fld v 15 12 = 2 then via (execResync false) s
    else twinEnd .badParam s
  else regWrite (0x0B0000 + o) v s

/-- FAULT_RESUME and FAULT_INJECT (14_faults_recovery.md). -/
def faultCommand (who : Master) (o : Nat) (v : Word) (s : State) : State :=
  if o = 0x18 then resumeQueues who (fld v 15 0) 0 s
  else if o = 0x30 then (if bit v 31 then inject (fld v 28 16 % 256 * 256 + fld v 7 0) (fld v 15 8) (bit v 30) s else s)
  else regWrite (0x0C0000 + o) v s

/-- The DISPATCH registers that act, the per-core ones for their own core alone (15_cores_dispatcher.md R461 to R469). -/
def dispatchCommand (x : Access) (o : Nat) (v : Word) (s : State) : State :=
  let t := fld v 11 0
  let k := (o - 0x100) / 0x20
  let own (f : State → State) (s : State) : State := if coreIndex x.master = some k then f s else s
  if o = 0xA0 then (if bit v 31 then descWrite t s else s)
  else if o = 0xB0 then postTask t s
  else if o = 0xB4 then (if (desc s t).isNone then s else cancelTask t s)
  else if o = 0xBC then delayTask x.master t (fld v 31 16) s
  else if 0x100 ≤ o ∧ o < 0x200 ∧ o % 0x20 = 0x14 then own (doneTask k t) s
  else if 0x100 ≤ o ∧ o < 0x200 ∧ o % 0x20 = 0x18 then own (yieldTask k t) s
  else if 0x200 ≤ o ∧ o < 0x280 then writeBind ((o - 0x200) / 4) v s
  else writeDispatch (some x) o v s

/-- A lock freed (R483). -/
def lockWrite (n : Nat) (who : Master) (v : Word) (s : State) : State :=
  if h : n < 64 then via (execLockFree ⟨n, h⟩ who v) s else s

/-- Mailbox pushes, locks and flushes (16_host_interface.md R478, R483, R486). -/
def hostifCommand (x : Access) (o : Nat) (v : Word) (s : State) : State :=
  let m := (o - 0x100) / 0x40
  let n := (o - 0x800) / 0x40
  if 0x100 ≤ o ∧ o < 0x340 ∧ o % 0x40 = 0 then (if onHostSide m x.master then mbPush m true v false s else s)
  else if 0x100 ≤ o ∧ o < 0x340 ∧ o % 0x40 = 8 then (if onCoreSide m x.master then mbPush m false v false s else s)
  else if 0x400 ≤ o ∧ o < 0x500 then lockWrite ((o - 0x400) / 4) x.master v s
  else if 0x800 ≤ o ∧ o < 0xC00 ∧ o % 0x40 = 0x1C then
    (if h : n < 16 then (if bit v 31 then via (execFlush ⟨n, h⟩ false) s else s) else s)
  else writeHostif (some x) o v s

/-- GEODE_CMD and GEODE_AUTH_CTRL (17_geode_keys.md). -/
def geodeCommand (x : Access) (o : Nat) (v : Word) (s : State) : State :=
  if o = 0x84 then (if bit v 31 then geodeRun x (fld v 27 24) (bit v 23) (fld v 22 16) (fld v 14 8) false s else s)
  else if o = 0x130 then
    let s := if bit v 1 then closeHost x s else s
    if bit v 0 then openHost x s else s
  else writeGeode (some x) o v s

/-- ASSAY_SNAP_CTRL and ASSAY_CMD (18_assay_metering.md). The engine refuses every command with MODE while it is off. -/
def assayCommand (x : Access) (o : Nat) (v : Word) (s : State) : State :=
  let ch : Fin 16 := ⟨fld v 3 0 % 16, Nat.mod_lt _ (by decide)⟩
  if o = 0x20 then (if bit v 31 then via (execAssaySnapshot x.master ch) s else s)
  else if o = 0x60 then
    if ¬ bit v 31 then s
    else if fld v 27 24 = 1 then via (execCheckpoint false) s
    else if fld v 27 24 = 2 then via (execRebase x ch (fin4 (fld v 5 4)) false) s
    else if fld v 27 24 = 3 then via (execCloseInterval (bit v 8) ch false) s
    else assayEnd (if s.assay.engine then .badParam else .mode) s
  else writeAssay o v s

/-- STRATA_CMD and STRATA_SUM_SEL (19_strata_recorder.md). -/
def strataCommand (x : Access) (o : Nat) (v : Word) (s : State) : State :=
  if o = 0x20 then (if bit v 31 then strataClear x (fld v 2 0) false s else s)
  else if o = 0x2C then sumSelect (fld v 5 0) s
  else regWrite (0x110000 + o) v s

/-- A write of the MSI-X table, which PCIe alone reaches (R581); a vector that is unmasked sends what it kept pending (R474). -/
def msixWrite (who : Master) (o : Nat) (v : Word) (s : State) : State :=
  if who ≠ .host ∨ 0x800 ≤ o then s
  else
    let s := regWrite (0xF00000 + o) v s
    if o % 16 = 12 ∧ ¬ bit v 0 then { s with hostif.pba := s.hostif.pba.filter (· != o / 16) } else s

/-- An aligned 32-bit write by a master (R5, R7, R8, R581). -/
def commandWrite (x : Access) (off : Nat) (v : Word) (s : State) : State :=
  let o := off % 0x10000
  match off / 0x10000 with
  | 0x00 => sysCommand x.master o v s
  | 0x01 => parisonCommand o v s
  | 0x02 => if o = 0x1C then stepCmd v s else writeTime o v s
  | 0x03 => gnssCommand o v s
  | 0x04 => rtkCommand o v s
  | 0x05 => lodeCommand o v s
  | 0x08 => radioCommand o v s
  | 0x0B => twinCommand x.master o v s
  | 0x0C => faultCommand x.master o v s
  | 0x0D => dispatchCommand x o v s
  | 0x0E => hostifCommand x o v s
  | 0x0F => geodeCommand x o v s
  | 0x10 => assayCommand x o v s
  | 0x11 => strataCommand x o v s
  | 0xF0 => msixWrite x.master o v s
  | _ => busWrite (some x) off v s

/-- W1C bits of a register. -/
def w1cBits (off : Nat) : Word :=
  let o := off % 0x10000
  if off / 0x10000 = 0x0E ∧ 0x100 ≤ o ∧ o < 0x340 ∧ o % 0x40 = 0x10 then 0x3F3
  else if off / 0x10000 = 0x0E ∧ 0x800 ≤ o ∧ o < 0xC00 ∧ o % 0x40 = 0x18 then 3
  else if off / 0x10000 = 0x0E ∧ 0xC00 ≤ o ∧ o < 0x1000 ∧ o % 0x40 = 0x24 then 3
  else match off with
  | 0x090008 => 0x080808
  | 0x100010 => 1
  | 0x120040 => 0x6666
  | 0x120054 | 0x120064 => 0xF0000
  | _ => match regRow off with | some r => BitVec.ofNat 32 r.w1c | none => 0

/-- An access of a field core that breaks the rule of the register region raises an access fault, and does nothing else (R452). -/
def badCoreAccess (who : Master) (off : Nat) (w : Width) (kind : CoreAcc) : Option Nat :=
  if coreMay kind (0xF0000000 + off) w.bytes then none else coreIndex who

/-- That fault. -/
def accessFault (k off : Nat) (store : Bool) (s : State) : State :=
  setCore k (fun c => { c with arch := { c.arch with fault := some { addr := 0xF0000000 + off, store := store } } }) s

/-- REGISTER_WRITE (R5, R7, R8, R11): a write at an offset of the register space. The part ignores one that is narrower than a register or
not aligned. against names the W1C bits that hardware set in the same cycle: they stay set. -/
def execRegisterWrite (who : Access) (off : BitVec 26) (w : Width) (v against : Word) (s : State) : Out :=
  .next (bus s fun s =>
    match badCoreAccess who.master off.toNat w .store with
    | some k => accessFault k off.toNat true s
    | none =>
      if w ≠ .word ∨ off.toNat % 4 ≠ 0 then s
      else commandWrite who off.toNat (v &&& ~~~(against &&& w1cBits off.toNat)) s)

/-- The selected port of SWITCH_PORT_SEL and the event of SWITCH_PORT_CNT_SEL. -/
def portCntSel (s : State) : Nat := regFld s 0x0A0020 3 0 + 16 * regFld s 0x0A0010 3 0

/-- The selected queue of SWITCH_Q_SEL and the event of SWITCH_Q_CNT_SEL. -/
def queueCntSel (s : State) : Nat := regFld s 0x0A0044 2 0 + 8 * qk (regFld s 0x0A0030 3 0) (regFld s 0x0A0030 12 8)

/-- An RC counter of the whole register: its selector (R7 and each block's chapter). -/
def cntSel (off : Nat) (s : State) : Option Nat :=
  if 0x040040 ≤ off ∧ off ≤ 0x040060 ∧ off % 4 = 0 then some 0
  else match off with
  | 0x040074 => some 0
  | 0x050044 => some (regFld s 0x050040 3 0 + 0x100 * regFld s 0x050040 8 8)
  | 0x060054 => some (regFld s 0x060050 3 0)
  | 0x070054 => some (regFld s 0x070050 2 0)
  | 0x080094 => some (regFld s 0x080090 3 0 + 0x100 * regFld s 0x080090 9 8)
  | 0x08004C => some (regFld s 0x080040 3 0 + 16 * regFld s 0x080040 5 4)
  | 0x090074 => some (regFld s 0x090070 3 0)
  | 0x0A0024 => some (portCntSel s)
  | 0x0A0048 => some (queueCntSel s)
  | 0x0B0034 => some (regFld s 0x0B0030 3 0)
  | 0x0C0044 => some (regFld s 0x0C0040 2 0)
  | 0x0E0034 => some (regFld s 0x0E0030 2 0)
  | 0x0F0154 => some (regFld s 0x0F0150 1 0)
  | 0x100018 => some (regFld s 0x100008 3 0)
  | 0x110028 => some 0
  | _ => none

/-- The shadow of a master for an upper register (R10). -/
def putShadow (who : Master) (upper : Nat) (w : Word) (s : State) : State :=
  { s with shadows := s.shadows.filter (fun x => !(x.1 == who && x.2.1 == upper)) ++ [(who, upper, w)] }

/-- A coordinate of a position by the offset of its lower register from X_LO. -/
def coordinate (p : Ecef) (o : Nat) : Nat := (if o = 0 then p.x else if o = 8 then p.y else p.z).toNat

/-- The position that RTK_REF reports: the survey mean while SURVEYING, else the one in force. -/
def refReported (s : State) : Ecef := if s.rtk.refState = .surveying then s.rtk.mean else s.rtk.pos.getD {}

/-- A wide quantity of the plain registers, whose lower register lies at an offset (R10). -/
def plainPair (off : Nat) : Bool :=
  off == 0x010008 || (0x0200A0 ≤ off && off ≤ 0x0200B8 && off % 8 == 0) || off == 0x08006C || off == 0x090058 || off == 0x0D0008
  || (0x0D0300 ≤ off && off ≤ 0x0D0338 && off % 8 == 0)
  || (0x0E0800 ≤ off && off ≤ 0x0E0BC0 && off % 0x40 == 0)
  || (0x0E0C00 ≤ off && off ≤ 0x0E0FC0 && off % 0x40 == 0)
  || (0x0E0C00 ≤ off && off ≤ 0x0E0FD4 && off % 0x40 == 0x14)

/-- ENTRY and ARG of the last task that a core took, for that core alone (R467, R585). -/
def takenPair (s : State) (who : Master) (o : Nat) : Nat :=
  let c := core_ s (o / 0x20)
  if coreIndex who ≠ some (o / 0x20) then 0 else if o % 0x20 = 4 then c.takeEntry.toNat else c.takeArg.toNat

/-- The wide quantity whose lower register lies at an offset, as a master reads it (R10). -/
def wideValue (s : State) (who : Master) (off : Nat) : Option Nat :=
  if 0x0D0100 ≤ off ∧ off < 0x0D0200 ∧ (off % 0x20 = 4 ∨ off % 0x20 = 0xC) then some (takenPair s who (off - 0x0D0100))
  else match off with
  | 0x010020 => some s.parison.build.toNat
  | 0x020008 => some (now s)
  | 0x020010 => some (s.time.raw % 2 ^ 64)
  | 0x020054 => some (unsignedOf 64 (s.time.p.off40 / q40))
  | 0x020074 => some (unsignedOf 64 (s.time.a.off40 / q40))
  | 0x030010 => some s.gnss.lastTime
  | 0x040010 | 0x040018 | 0x040020 => some (coordinate (refReported s) (off - 0x040010))
  | 0x060014 => some s.grid.report.cell.toNat
  | 0x060020 | 0x060028 | 0x060030 => some (coordinate (s.grid.origin.getD {}) (off - 0x060020))
  | 0x080008 => some (s.radio.asn % 2 ^ 40)
  | 0x080010 => some (s.radio.txMax % 2 ^ 40)
  | 0x090014 => some s.quench.time.toNat
  | 0x0B0024 => some s.twin.gapAt.toNat
  | 0x0C000C => some s.fault.lastTime.toNat
  | 0x0F0008 => some s.geode.fuses.uid.toNat
  | _ => if plainPair off then some ((regWord s off).toNat + (regWord s (off + 4)).toNat * 2 ^ 32) else none

/-- What a register or a window shows a master, wide quantities and counters apart (R6, R7, R581). -/
def blockView (s : State) (who : Master) (off : Nat) : Word :=
  let o := off % 0x10000
  match off / 0x10000 with
  | 0x00 => sysWord s o
  | 0x01 => parisonView s o
  | 0x02 => timeView s o
  | 0x03 => gnssView s o
  | 0x04 => rtkView s o
  | 0x05 => lodeView s o
  | 0x06 => gridView s o
  | 0x07 => setptView s o
  | 0x08 => radioView s o
  | 0x09 => quenchView s o
  | 0x0A => switchView s o
  | 0x0B => twinView s o
  | 0x0C => faultView s o
  | 0x0D => dispatchView s o
  | 0x0E => hostifView s who o
  | 0x0F => geodeView s who o
  | 0x10 => assayView s who o
  | 0x11 => strataView s o
  | 0x12 => ioctlView s o
  | 0xF0 => msixView s who o
  | 0x100 => if o < 0x40 then wordAt s.lode.buffer o else 0
  | _ =>
    if 0x1400000 ≤ off ∧ off < 0x1440000 then gnssWindow s (off - 0x1400000)
    else if (0x1500000 ≤ off ∧ off < 0x15000A0) ∨ (0x15FC000 ≤ off ∧ off < 0x2000000) then strataWindow s off
    else 0

/-- What a read of an aligned offset returns to a master, its shadow apart (R6, R7, R10). -/
def regView (s : State) (who : Master) (off : Nat) : Word :=
  match cntSel off s with
  | some sel => BitVec.ofNat 32 (countShown (if off = 0x0A0024 then 64 else 32) (countOf s off sel))
  | none => match wideValue s who off with
    | some v => BitVec.ofNat 32 v
    | none => match (if 4 ≤ off then wideValue s who (off - 4) else none) with
      | some v => BitVec.ofNat 32 (v / 2 ^ 32)
      | none => if off = 0x0A0028 then BitVec.ofNat 32 (countShown 64 (countOf s 0x0A0024 (portCntSel s)) / 2 ^ 32) else blockView s who off

/-- A read of a counter that fills its register, or of the lower half of a 64-bit one, which clears it (R7, R10). against counts the events
of the same cycle: the read does not show them, and they stay counted (R11). -/
def readWhole (who : Master) (off sel against : Nat) (s : State) : State :=
  let n := countShown (if off = 0x0A0024 then 64 else 32) (countOf s off sel - against)
  let s := setCount off sel (min against (countOf s off sel)) { s with rdata := BitVec.ofNat 32 n }
  if off = 0x0A0024 then putShadow who 0x0A0028 (BitVec.ofNat 32 (n / 2 ^ 32)) s else s

/-- A read of a register whose upper half is a counter. -/
def readUpper (who : Master) (off against : Nat) (s : State) : State :=
  let n := countOf s off 0
  let t := setCount off 0 (n - against) s
  setCount off 0 (min against n) { s with rdata := regView t who off }

/-- A read of the lower register (R10): the upper bits go to the master's shadow. -/
def readLower (who : Master) (off v : Nat) (s : State) : State :=
  putShadow who (off + 4) (BitVec.ofNat 32 (v / 2 ^ 32)) { s with rdata := BitVec.ofNat 32 v }

/-- A mailbox direction popped by a master that is on the side its register names (R478). -/
def mailboxRead (who : Master) (m : Nat) (h2c : Bool) (s : State) : State :=
  if (if h2c then onCoreSide m who else onHostSide m who) then mbPop m h2c s else { s with rdata := 0 }

/-- DISPATCH_TAKEk read (R467). -/
def takeRead (who : Master) (k : Nat) (s : State) : State :=
  if coreIndex who = some k then takeTask k 0 s else { s with rdata := 0 }

/-- A read of an offset whose read has an effect of its own (R584); none of any other. -/
def sideRead (x : Access) (off against : Nat) : Option (State → State) :=
  let o := off % 0x10000
  if off / 0x10000 = 0x0E ∧ 0x100 ≤ o ∧ o < 0x340 ∧ o % 0x40 = 4 then some (mailboxRead x.master ((o - 0x100) / 0x40) true)
  else if off / 0x10000 = 0x0E ∧ 0x100 ≤ o ∧ o < 0x340 ∧ o % 0x40 = 0xC then some (mailboxRead x.master ((o - 0x100) / 0x40) false)
  else if off / 0x10000 = 0x0E ∧ 0x400 ≤ o ∧ o < 0x500 then some (lockRead ((o - 0x400) / 4) x.master none)
  else if off / 0x10000 = 0x0D ∧ 0x100 ≤ o ∧ o < 0x200 ∧ o % 0x20 = 0 then some (takeRead x.master ((o - 0x100) / 0x20))
  else match off with
  | 0x0200CC => some captureRead
  | 0x020140 => some txtsRead
  | 0x02014C | 0x040030 => some (readUpper x.master off against)
  | 0x040078 => some fun s => { s with rdata := engineStatus s, rtk := { s.rtk with maxLat := 0 } }
  | 0x070008 => some fun s => { s with rdata := setptTick s, setpt := { s.setpt with maxPlanUs := 0 } }
  | 0x0F0110 => some (drawChallenge x)
  | 0x12005C => some (uartRxRead 0)
  | 0x12006C => some (uartRxRead 1)
  | _ => none

/-- The shadow that a master's next read of an upper register returns (R10). -/
def shadowOf (s : State) (who : Master) (off : Nat) : Option Word :=
  (s.shadows.find? (fun x => x.1 == who && x.2.1 == off)).map (fun x => x.2.2)

/-- An offset of the indirect windows: a read may show values that are free there. -/
def inWindows (off : Nat) : Bool := decide (0x1400000 ≤ off)

/-- A full-word read of an aligned offset (R5, R7, R10, R584). -/
def wordRead (x : Access) (off against : Nat) (s : State) : State :=
  match shadowOf s x.master off with
  | some w => { s with rdata := w, shadows := s.shadows.filter (fun y => !(y.1 == x.master && y.2.1 == off)) }
  | none => match sideRead x off against with
    | some f => f s
    | none => match cntSel off s, wideValue s x.master off with
      | some sel, _ => readWhole x.master off sel against s
      | none, some v => readLower x.master off v s
      | none, none =>
        let w := regView s x.master off
        if inWindows off then { drawn s with rdata := w } else { s with rdata := w }

/-- The addressed bytes of a word (R5). -/
def addressed (off : Nat) (w : Width) (v : Word) : Word := BitVec.ofNat 32 (v.toNat / 2 ^ (8 * (off % 4)) % 2 ^ (8 * w.bytes))

/-- A read at an offset of the register space (R5, R452): a narrow one returns the addressed bytes, with the effects of a full one. -/
def busRead (x : Access) (off : Nat) (w : Width) (against : Nat) (s : State) : State :=
  match badCoreAccess x.master off w .load with
  | some k => accessFault k off false s
  | none =>
    let s := wordRead x (off / 4 * 4) against s
    { s with rdata := addressed off w s.rdata }

/-- RC_COUNTER_READ (R5, R7, R11): a read of a counter, which clears it. against counts the events of the same cycle. -/
def execRcCounterRead (who : Access) (off : BitVec 26) (w : Width) (against : Nat) (s : State) : Out :=
  .next (bus s (busRead who off.toNat w against))

/-- LOWER_WORD_READ (R5, R10): a read of the lower register of a wide quantity, whose upper bits go to the master's shadow. Of an upper
register, it is the read that returns the shadow. -/
def execLowerWordRead (who : Access) (off : BitVec 26) (w : Width) (s : State) : Out :=
  .next (bus s (busRead who off.toNat w 0))

end Sys2Proof.Machine
end

