-- ==== Sys2Proof/Machine/Dispatch.lean ====
section
/-! DEFINITION. Dispatch.lean: exec, one arm per command, each one direct call of its meaning. -/

namespace Sys2Proof.Machine

open Sys2Proof

/-- The effect of a command on everything but the queue. -/
def exec (i : Instr) (s : State) : Host.Outcome State Fault Refusal :=
  match i with
  | .registerWrite who off width v against => Sys2Proof.Machine.execRegisterWrite who off width v against s
  | .rcCounterRead who off width against => Sys2Proof.Machine.execRcCounterRead who off width against s
  | .lowerWordRead who off width => Sys2Proof.Machine.execLowerWordRead who off width s
  | .aonPowerUp vmain vres => Sys2Proof.Machine.execAonPowerUp vmain vres s
  | .aonPowerLoss vmain vres => Sys2Proof.Machine.execAonPowerLoss vmain vres s
  | .wardenStart => Sys2Proof.Machine.execWardenStart s
  | .mainRailsUp => Sys2Proof.Machine.execMainRailsUp s
  | .pllLocked ref => Sys2Proof.Machine.execPllLocked ref s
  | .mainDieResetRelease mramOk => Sys2Proof.Machine.execMainDieResetRelease mramOk s
  | .ref10Return => Sys2Proof.Machine.execRef10Return s
  | .ref10Lost => Sys2Proof.Machine.execRef10Lost s
  | .aonClockChangeover => Sys2Proof.Machine.execAonClockChangeover s
  | .vinMainLost vmain vres => Sys2Proof.Machine.execVinMainLost vmain vres s
  | .vinMainReturn vmain => Sys2Proof.Machine.execVinMainReturn vmain s
  | .vinResFallSwitch vmain vres => Sys2Proof.Machine.execVinResFallSwitch vmain vres s
  | .powerSenseSample batt solar => Sys2Proof.Machine.execPowerSenseSample batt solar s
  | .battResLow => Sys2Proof.Machine.execBattResLow s
  | .battResCrit => Sys2Proof.Machine.execBattResCrit s
  | .battLowClear => Sys2Proof.Machine.execBattLowClear s
  | .resCritClear => Sys2Proof.Machine.execResCritClear s
  | .batteryAnnealLimit => Sys2Proof.Machine.execBatteryAnnealLimit s
  | .thermalSample tj => Sys2Proof.Machine.execThermalSample tj s
  | .mainBrownout => Sys2Proof.Machine.execMainBrownout s
  | .perst => Sys2Proof.Machine.execPerst s
  | .watchdog => Sys2Proof.Machine.execWatchdog s
  | .resetCtrlMain w => Sys2Proof.Machine.execResetCtrlMain w s
  | .reqSurvey who => Sys2Proof.Machine.execReqSurvey who s
  | .reqField who => Sys2Proof.Machine.execReqField who s
  | .reqAnneal who => Sys2Proof.Machine.execReqAnneal who s
  | .reqDormant who => Sys2Proof.Machine.execReqDormant who s
  | .reqMaintenance who => Sys2Proof.Machine.execReqMaintenance who s
  | .dormantEntryDone => Sys2Proof.Machine.execDormantEntryDone s
  | .aonSecond => Sys2Proof.Machine.execAonSecond s
  | .wakeMain => Sys2Proof.Machine.execWakeMain s
  | .wakeSolar => Sys2Proof.Machine.execWakeSolar s
  | .wakeGpio pin => Sys2Proof.Machine.execWakeGpio pin s
  | .wakeHoldClear => Sys2Proof.Machine.execWakeHoldClear s
  | .correctionAgeLimit => Sys2Proof.Machine.execCorrectionAgeLimit s
  | .ident => Sys2Proof.Machine.execIdent s
  | .readSys => Sys2Proof.Machine.execReadSys s
  | .modeReq => Sys2Proof.Machine.execModeReq s
  | .stopState => Sys2Proof.Machine.execStopState s
  | .form src slot => Sys2Proof.Machine.execForm src slot s
  | .checkOnly src slot => Sys2Proof.Machine.execCheckOnly src slot s
  | .checkAndStore src slot => Sys2Proof.Machine.execCheckAndStore src slot s
  | .formAndStore src slot => Sys2Proof.Machine.execFormAndStore src slot s
  | .headerRead bytes => Sys2Proof.Machine.execHeaderRead bytes s
  | .gatherRead bytes => Sys2Proof.Machine.execGatherRead bytes s
  | .sourceReadError => Sys2Proof.Machine.execSourceReadError s
  | .signatureCheckDone sig => Sys2Proof.Machine.execSignatureCheckDone sig s
  | .semanticCheckDone => Sys2Proof.Machine.execSemanticCheckDone s
  | .applicationDone => Sys2Proof.Machine.execApplicationDone s
  | .storeWriteDone ok => Sys2Proof.Machine.execStoreWriteDone ok s
  | .makeActive slot => Sys2Proof.Machine.execMakeActive slot s
  | .makeFallback slot => Sys2Proof.Machine.execMakeFallback slot s
  | .invalidateSlot slot => Sys2Proof.Machine.execInvalidateSlot slot s
  | .gatherTakesEffect type => Sys2Proof.Machine.execGatherTakesEffect type s
  | .shutdownComplete => Sys2Proof.Machine.execShutdownComplete s
  | .profileTick => Sys2Proof.Machine.execProfileTick s
  | .dispatcherTick => Sys2Proof.Machine.execDispatcherTick s
  | .selWrite sel => Sys2Proof.Machine.execSelWrite sel s
  | .step hi => Sys2Proof.Machine.execStep hi s
  | .rateWrite alt rate => Sys2Proof.Machine.execRateWrite alt rate s
  | .corrWrite alt corr => Sys2Proof.Machine.execCorrWrite alt corr s
  | .sourceValid alt e => Sys2Proof.Machine.execSourceValid alt e s
  | .sourceLost alt both => Sys2Proof.Machine.execSourceLost alt both s
  | .softTimeout alt => Sys2Proof.Machine.execSoftTimeout alt s
  | .twinExchangeTimeout alt => Sys2Proof.Machine.execTwinExchangeTimeout alt s
  | .compareArm n hi => Sys2Proof.Machine.execCompareArm n hi s
  | .compareFire n => Sys2Proof.Machine.execCompareFire n s
  | .ppsOutEdge => Sys2Proof.Machine.execPpsOutEdge s
  | .ppsOutFall => Sys2Proof.Machine.execPpsOutFall s
  | .captureEdge inp rising => Sys2Proof.Machine.execCaptureEdge inp rising s
  | .captureRead => Sys2Proof.Machine.execCaptureRead s
  | .txtsRead => Sys2Proof.Machine.execTxtsRead s
  | .measurementEpoch meas => Sys2Proof.Machine.execMeasurementEpoch meas s
  | .epochWindowWritten => Sys2Proof.Machine.execEpochWindowWritten s
  | .gnssAllocate sky => Sys2Proof.Machine.execGnssAllocate sky s
  | .burstWindow => Sys2Proof.Machine.execBurstWindow s
  | .antBiasSample antB ma => Sys2Proof.Machine.execAntBiasSample antB ma s
  | .antBiasRetry antB => Sys2Proof.Machine.execAntBiasRetry antB s
  | .notchSpectrum path lines noise gain => Sys2Proof.Machine.execNotchSpectrum path lines noise gain s
  | .notchRelease notch => Sys2Proof.Machine.execNotchRelease notch s
  | .jamSet path => Sys2Proof.Machine.execJamSet path s
  | .jamClear path => Sys2Proof.Machine.execJamClear path s
  | .lockLost chan => Sys2Proof.Machine.execLockLost chan s
  | .codeLockRegained chan => Sys2Proof.Machine.execCodeLockRegained chan s
  | .coastTimeout chan => Sys2Proof.Machine.execCoastTimeout chan s
  | .spoofAck => Sys2Proof.Machine.execSpoofAck s
  | .coldStart => Sys2Proof.Machine.execColdStart s
  | .exclAdd sig svid => Sys2Proof.Machine.execExclAdd sig svid s
  | .exclRemove sig svid => Sys2Proof.Machine.execExclRemove sig svid s
  | .exclClear => Sys2Proof.Machine.execExclClear s
  | .surveyStart w => Sys2Proof.Machine.execSurveyStart w s
  | .confirm w => Sys2Proof.Machine.execConfirm w s
  | .enter w => Sys2Proof.Machine.execEnter w s
  | .clear w => Sys2Proof.Machine.execClear w s
  | .confirmationDone => Sys2Proof.Machine.execConfirmationDone s
  | .surveyDone => Sys2Proof.Machine.execSurveyDone s
  | .refMoved => Sys2Proof.Machine.execRefMoved s
  | .bundleComplete => Sys2Proof.Machine.execBundleComplete s
  | .msmMessage => Sys2Proof.Machine.execMsmMessage s
  | .machineEpochIncomplete mach => Sys2Proof.Machine.execMachineEpochIncomplete mach s
  | .solutionOut => Sys2Proof.Machine.execSolutionOut s
  | .staleMarker mach => Sys2Proof.Machine.execStaleMarker mach s
  | .resetFilter mach => Sys2Proof.Machine.execResetFilter mach s
  | .suspend mach => Sys2Proof.Machine.execSuspend mach s
  | .filterResume mach => Sys2Proof.Machine.execFilterResume mach s
  | .lodeRead table pipe same => Sys2Proof.Machine.execLodeRead table pipe same s
  | .lodeWrite table same => Sys2Proof.Machine.execLodeWrite table same s
  | .lodeDelete table pipe same => Sys2Proof.Machine.execLodeDelete table pipe same s
  | .readAt table pipe same => Sys2Proof.Machine.execReadAt table pipe same s
  | .learnApply table pipe => Sys2Proof.Machine.execLearnApply table pipe s
  | .sweepVisit pipe hits => Sys2Proof.Machine.execSweepVisit pipe hits s
  | .flapExpire table pipe => Sys2Proof.Machine.execFlapExpire table pipe s
  | .lodeBucketCrcError bank good => Sys2Proof.Machine.execLodeBucketCrcError bank good s
  | .restoreDone logical => Sys2Proof.Machine.execRestoreDone logical s
  | .trackLoad src rec => Sys2Proof.Machine.execTrackLoad src rec s
  | .trackDrop src => Sys2Proof.Machine.execTrackDrop src s
  | .allot src => Sys2Proof.Machine.execAllot src s
  | .extend => Sys2Proof.Machine.execExtend s
  | .release src => Sys2Proof.Machine.execRelease src s
  | .releaseMach src => Sys2Proof.Machine.execReleaseMach src s
  | .zoneAdd src => Sys2Proof.Machine.execZoneAdd src s
  | .zoneDel src => Sys2Proof.Machine.execZoneDel src s
  | .resume src => Sys2Proof.Machine.execResume src s
  | .originSet src => Sys2Proof.Machine.execOriginSet src s
  | .originClear src => Sys2Proof.Machine.execOriginClear src s
  | .lapse mach => Sys2Proof.Machine.execLapse mach s
  | .resvRefresh => Sys2Proof.Machine.execResvRefresh s
  | .allotmentEnd id => Sys2Proof.Machine.execAllotmentEnd id s
  | .occColdEnd => Sys2Proof.Machine.execOccColdEnd s
  | .engage src => Sys2Proof.Machine.execEngage src s
  | .disengage src => Sys2Proof.Machine.execDisengage src s
  | .sched src => Sys2Proof.Machine.execSched src s
  | .schedClear src => Sys2Proof.Machine.execSchedClear src s
  | .limits src => Sys2Proof.Machine.execLimits src s
  | .annealMach src => Sys2Proof.Machine.execAnnealMach src s
  | .resumeMach src => Sys2Proof.Machine.execResumeMach src s
  | .odometerReport rec eui => Sys2Proof.Machine.execOdometerReport rec eui s
  | .gearLost mach => Sys2Proof.Machine.execGearLost mach s
  | .spmeanRefresh => Sys2Proof.Machine.execSpmeanRefresh s
  | .radioSlot => Sys2Proof.Machine.execRadioSlot s
  | .beaconTx c => Sys2Proof.Machine.execBeaconTx c s
  | .gangTx c => Sys2Proof.Machine.execGangTx c s
  | .corrTx c => Sys2Proof.Machine.execCorrTx c s
  | .downTx c => Sys2Proof.Machine.execDownTx c s
  | .quenchRepeatTx c => Sys2Proof.Machine.execQuenchRepeatTx c s
  | .machineQuenchTx c => Sys2Proof.Machine.execMachineQuenchTx c s
  | .annealTx c => Sys2Proof.Machine.execAnnealTx c s
  | .stopReq f => Sys2Proof.Machine.execStopReq f s
  | .data f => Sys2Proof.Machine.execData f s
  | .ack f => Sys2Proof.Machine.execAck f s
  | .poll f => Sys2Proof.Machine.execPoll f s
  | .syncReq f => Sys2Proof.Machine.execSyncReq f s
  | .gafferBeaconRx f => Sys2Proof.Machine.execGafferBeaconRx f s
  | .parentBeaconRx f => Sys2Proof.Machine.execParentBeaconRx f s
  | .parentQuenchRx f => Sys2Proof.Machine.execParentQuenchRx f s
  | .peerQuenchRx f => Sys2Proof.Machine.execPeerQuenchRx f s
  | .pendantHoldExpire => Sys2Proof.Machine.execPendantHoldExpire s
  | .reasmTimeout => Sys2Proof.Machine.execReasmTimeout s
  | .silentGaffer => Sys2Proof.Machine.execSilentGaffer s
  | .orphan => Sys2Proof.Machine.execOrphan s
  | .ledgerBucket => Sys2Proof.Machine.execLedgerBucket s
  | .nodeAdd addr same => Sys2Proof.Machine.execNodeAdd addr same s
  | .nodeRemove addr same => Sys2Proof.Machine.execNodeRemove addr same s
  | .forceResync addr same => Sys2Proof.Machine.execForceResync addr same s
  | .chainEnable c w => Sys2Proof.Machine.execChainEnable c w s
  | .contactEdge inp active => Sys2Proof.Machine.execContactEdge inp active s
  | .contactAccept inp => Sys2Proof.Machine.execContactAccept inp s
  | .discrepant ch => Sys2Proof.Machine.execDiscrepant ch s
  | .discrepantClear ch => Sys2Proof.Machine.execDiscrepantClear ch s
  | .quench who => Sys2Proof.Machine.execQuench who s
  | .hostSourceEnd => Sys2Proof.Machine.execHostSourceEnd s
  | .wardenPulseEnd => Sys2Proof.Machine.execWardenPulseEnd s
  | .votedDecision => Sys2Proof.Machine.execVotedDecision s
  | .quenchFrameRepeat => Sys2Proof.Machine.execQuenchFrameRepeat s
  | .releaseLatch who against => Sys2Proof.Machine.execReleaseLatch who against s
  | .quenchMach m => Sys2Proof.Machine.execQuenchMach m s
  | .machRelease who m against => Sys2Proof.Machine.execMachRelease who m against s
  | .loneStop => Sys2Proof.Machine.execLoneStop s
  | .reminder => Sys2Proof.Machine.execReminder s
  | .annealLimit => Sys2Proof.Machine.execAnnealLimit s
  | .permitOutOffDelay => Sys2Proof.Machine.execPermitOutOffDelay s
  | .driverOvercurrent d => Sys2Proof.Machine.execDriverOvercurrent d s
  | .openLoad d => Sys2Proof.Machine.execOpenLoad d s
  | .frameIngress port bytes => Sys2Proof.Machine.execFrameIngress port bytes s
  | .frameEgress port => Sys2Proof.Machine.execFrameEgress port s
  | .launch port => Sys2Proof.Machine.execLaunch port s
  | .linkUp port speed => Sys2Proof.Machine.execLinkUp port speed s
  | .linkDown port => Sys2Proof.Machine.execLinkDown port s
  | .portEnable port en => Sys2Proof.Machine.execPortEnable port en s
  | .claimIFall => Sys2Proof.Machine.execClaimIFall s
  | .claimIRise => Sys2Proof.Machine.execClaimIRise s
  | .claimGuardExpire => Sys2Proof.Machine.execClaimGuardExpire s
  | .claimConflict => Sys2Proof.Machine.execClaimConflict s
  | .linkTrained => Sys2Proof.Machine.execLinkTrained s
  | .linkBlockLockLost => Sys2Proof.Machine.execLinkBlockLockLost s
  | .hello head id sum unit set reform => Sys2Proof.Machine.execHello head id sum unit set reform s
  | .mirror head rec => Sys2Proof.Machine.execMirror head rec s
  | .commit head cls => Sys2Proof.Machine.execCommit head cls s
  | .time head e reform => Sys2Proof.Machine.execTime head e reform s
  | .notice head => Sys2Proof.Machine.execNotice head s
  | .nak head => Sys2Proof.Machine.execNak head s
  | .snapshot head start rec last => Sys2Proof.Machine.execSnapshot head start rec last s
  | .frauriFrameBad tag => Sys2Proof.Machine.execFrauriFrameBad tag s
  | .mirrorStale => Sys2Proof.Machine.execMirrorStale s
  | .yield who same against => Sys2Proof.Machine.execYield who same against s
  | .resync same => Sys2Proof.Machine.execResync same s
  | .errorDetected res idx resent unready => Sys2Proof.Machine.execErrorDetected res idx resent unready s
  | .selfTestDone res idx pass => Sys2Proof.Machine.execSelfTestDone res idx pass s
  | .culletPost => Sys2Proof.Machine.execCulletPost s
  | .faultResume who mask against => Sys2Proof.Machine.execFaultResume who mask against s
  | .faultInject code idx fail => Sys2Proof.Machine.execFaultInject code idx fail s
  | .run mask inside => Sys2Proof.Machine.execRun mask inside s
  | .descWrite t => Sys2Proof.Machine.execDescWrite t s
  | .post t => Sys2Proof.Machine.execPost t s
  | .cancel t => Sys2Proof.Machine.execCancel t s
  | .delay who t hi => Sys2Proof.Machine.execDelay who t hi s
  | .delayWake t => Sys2Proof.Machine.execDelayWake t s
  | .take k who rivals => Sys2Proof.Machine.execTake k who rivals s
  | .done k who t => Sys2Proof.Machine.execDone k who t s
  | .dispatchYield k who t => Sys2Proof.Machine.execDispatchYield k who t s
  | .bind n w => Sys2Proof.Machine.execBind n w s
  | .boundInterrupt n => Sys2Proof.Machine.execBoundInterrupt n s
  | .timerCompare k => Sys2Proof.Machine.execTimerCompare k s
  | .h2cPush m who w same => Sys2Proof.Machine.execH2cPush m who w same s
  | .h2cPop m who => Sys2Proof.Machine.execH2cPop m who s
  | .c2hPush m who w same => Sys2Proof.Machine.execC2hPush m who w same s
  | .c2hPop m who => Sys2Proof.Machine.execC2hPop m who s
  | .mailboxSideReset m coreSide pushed => Sys2Proof.Machine.execMailboxSideReset m coreSide pushed s
  | .lockAcquire n who rival => Sys2Proof.Machine.execLockAcquire n who rival s
  | .lockFree n who w => Sys2Proof.Machine.execLockFree n who w s
  | .hostReset linkDown => Sys2Proof.Machine.execHostReset linkDown s
  | .cqEnable n cfg => Sys2Proof.Machine.execCqEnable n cfg s
  | .tailWrite n tail => Sys2Proof.Machine.execTailWrite n tail s
  | .entryFetch n raw => Sys2Proof.Machine.execEntryFetch n raw s
  | .commandCommit n => Sys2Proof.Machine.execCommandCommit n s
  | .nop n => Sys2Proof.Machine.execNop n s
  | .fence n => Sys2Proof.Machine.execFence n s
  | .txFrame n bytes => Sys2Proof.Machine.execTxFrame n bytes s
  | .rxBuf n => Sys2Proof.Machine.execRxBuf n s
  | .flush n resumed => Sys2Proof.Machine.execFlush n resumed s
  | .eqEnable q cfg => Sys2Proof.Machine.execEqEnable q cfg s
  | .headWrite q head => Sys2Proof.Machine.execHeadWrite q head s
  | .eventPost q => Sys2Proof.Machine.execEventPost q s
  | .coalesceTimeout q => Sys2Proof.Machine.execCoalesceTimeout q s
  | .writeKey who slot same => Sys2Proof.Machine.execWriteKey who slot same s
  | .erase who slot same => Sys2Proof.Machine.execErase who slot same s
  | .derive who root src slot same => Sys2Proof.Machine.execDerive who root src slot same s
  | .wrap who src slot same => Sys2Proof.Machine.execWrap who src slot same s
  | .unwrap who src slot same => Sys2Proof.Machine.execUnwrap who src slot same s
  | .pubkey who slot same => Sys2Proof.Machine.execPubkey who slot same s
  | .addKeyHash who same => Sys2Proof.Machine.execAddKeyHash who same s
  | .revokeHash who same => Sys2Proof.Machine.execRevokeHash who same s
  | .raiseSecver who same => Sys2Proof.Machine.execRaiseSecver who same s
  | .lcAdvance who same => Sys2Proof.Machine.execLcAdvance who same s
  | .challengeRead who => Sys2Proof.Machine.execChallengeRead who s
  | .openWorld who => Sys2Proof.Machine.execOpenWorld who s
  | .closeWorld who => Sys2Proof.Machine.execCloseWorld who s
  | .maskRenewal slot failed => Sys2Proof.Machine.execMaskRenewal slot failed s
  | .pinLevelAccept ch pinB high => Sys2Proof.Machine.execPinLevelAccept ch pinB high s
  | .stuck ch => Sys2Proof.Machine.execStuck ch s
  | .rawTotalStored ch ok => Sys2Proof.Machine.execRawTotalStored ch ok s
  | .supplyFail => Sys2Proof.Machine.execSupplyFail s
  | .checkpointTick => Sys2Proof.Machine.execCheckpointTick s
  | .checkpoint same => Sys2Proof.Machine.execCheckpoint same s
  | .rebase who ch q same => Sys2Proof.Machine.execRebase who ch q same s
  | .closeInterval all ch same => Sys2Proof.Machine.execCloseInterval all ch same s
  | .intervalClose => Sys2Proof.Machine.execIntervalClose s
  | .assaySnapshot who ch => Sys2Proof.Machine.execAssaySnapshot who ch s
  | .irecSelect seq => Sys2Proof.Machine.execIrecSelect seq s
  | .assayChannelEnable ch en left => Sys2Proof.Machine.execAssayChannelEnable ch en left s
  | .eventRecord code source sev p0 p1 p2 => Sys2Proof.Machine.execEventRecord code source sev p0 p1 p2 s
  | .recordStore ok => Sys2Proof.Machine.execRecordStore ok s
  | .strataClear who mask same => Sys2Proof.Machine.execStrataClear who mask same s
  | .sumSelect k => Sys2Proof.Machine.execSumSelect k s
  | .uartTx n byte => Sys2Proof.Machine.execUartTx n byte s
  | .uartRxByte n byte frameErr parityErr => Sys2Proof.Machine.execUartRxByte n byte frameErr parityErr s
  | .uartRxRead n => Sys2Proof.Machine.execUartRxRead n s
  | .smbusBlockRead c pec => Sys2Proof.Machine.execSmbusBlockRead c pec s
  | .assayBFuncWrite w => Sys2Proof.Machine.execAssayBFuncWrite w s
  | .acquisition chan => Sys2Proof.Machine.execAcquisition chan s
  | .pcieLinkUp gen width busMaster => Sys2Proof.Machine.execPcieLinkUp gen width busMaster s
  | .claimGlitch => Sys2Proof.Machine.execClaimGlitch s
  | .idle head => Sys2Proof.Machine.execIdle head s
  | .frauriAck head => Sys2Proof.Machine.execFrauriAck head s
  | .linkEnWrite w => Sys2Proof.Machine.execLinkEnWrite w s
  | .badOp => Sys2Proof.Machine.execBadOp s

end Sys2Proof.Machine
end

