-- ==== Sys2Proof/Safety.lean ====
section
/-! DEFINITION. Safety.lean: the terms in which claims are stated. -/

namespace Sys2Proof.Machine

open Sys2Proof

/-- A command answers a next state, and that state has a property. -/
def After (i : Instr) (s : State) (P : State → Prop) : Prop := ∃ t, exec i s = .next t ∧ P t

/-- The three copies of the quench latch agree (11_quench_permit.md R354, R369). -/
def LatchAgrees (s : State) : Prop := ∀ j k, j < 3 → k < 3 → (qch s j).latch = (qch s k).latch

/-- The main die is out of reset, in a powered part whose warden runs: what R98 leaves. -/
abbrev Running (s : State) : Prop := s.aon.powered = true ∧ s.aon.wardenUp = true ∧ s.aon.mainRun = true

/-- The AON island is powered and the warden runs. -/
abbrev Warden (s : State) : Prop := s.aon.powered = true ∧ s.aon.wardenUp = true

/-- Nothing holds the grid's next command: the grid is not under test, no table bank is, and no command and no EXTEND request
waits at it. -/
abbrev GridIdle (s : State) : Prop :=
  Running s ∧ underTest s .allocator = false ∧ lookupsHeld s = false ∧ s.grid.intake = [] ∧ s.grid.cmdBusy = false ∧ s.setpt.extends_ = []

/-- The grid takes solutions and commands, and nothing holds its next command. -/
abbrev GridFree (s : State) : Prop := GridIdle s ∧ gridRuns s = true

/-- The set-point engine takes commands, is not under test, no command waits at it, and none has completed since the last
tick. -/
abbrev SetptFree (s : State) : Prop :=
  Running s ∧ setptTakes s = true ∧ underTest s .setpt = false ∧ s.setpt.intake = [] ∧ s.setpt.cmdBusy = false ∧ s.setpt.orders = []

/-- A chain may send a frame of a type with n payload bytes: mode, claim and key let it go, it is not being disabled, and an empty ledger has room. -/
def Sends (s : State) (c n : Nat) (ty : FrameType) : Prop :=
  mayTx s c ty = true ∧ (chain s c).stopping = false ∧ (dnKey s).isSome = true ∧ s.radio.ledger = [] ∧
  ledgerRoom s (chain s c).cfg.band (slotChannel s c) ty (airtime (chain s c).cfg.mode (psduLen n)) = true

/-- Between two states a chain has put a frame on air, with the slot's channel and ASN, and SEQ and TX_ASN_MAX have moved on. -/
def OnAir (s t : State) (c : Nat) (ty : FrameType) (dst sub : Nat) (payload : Bytes) : Prop :=
  (∃ f, (chain t c).onAir = some f ∧ f.type = ty ∧ f.asn = s.radio.asn ∧ f.sub = sub ∧ f.channel = slotChannel s c ∧
    f.plain = frameHeader ty s.radio.asn (baseAddr s) dst s.radio.seq.toNat ++ payload) ∧
  t.radio.seq = s.radio.seq + 1 ∧ t.radio.txMax = max s.radio.asn s.radio.txMax

/-- A frame of a type has ended in a slot of a chain that listens for it, comes from a known sender, and passes R322 as far as its MIC. -/
def Arrives (s : State) (ty : FrameType) (f : RxFrame) (who : Sender) (eui : Nat) : Prop :=
  listens s f.chain ty.code = true ∧ rxEnd s f ≤ now s ∧ deafTo s f = false ∧
  fcsOk f = true ∧ 17 ≤ f.psdu.length ∧ byteAt f.psdu 0 / 16 % 4 = 1 ∧ typeOf f = ty.code ∧
  (leAt f.psdu 4 2 = 0xFFFF ∨ (chain s f.chain).cfg.parentRx = false ∧ leAt f.psdu 4 2 = baseAddr s) ∧
  (if (chain s f.chain).cfg.parentRx then parentSender s (leAt f.psdu 2 2) else senderOf s (leAt f.psdu 2 2)) = some (who, eui) ∧
  (ty = .data → (slotUse s f.chain).1 = .up ∧ (slotUse s f.chain).2.toNat = leAt f.psdu 2 2) ∧
  fresh s eui (nearAsn s.radio.asn (byteAt f.psdu 1)) (3 * f.seg.val + f.chain.val) = true ∧ (rxKey s who).isSome = true

/-- What a frame that has arrived holds once its MIC has passed: none when it does not. -/
def payloadOf (s : State) (ty : FrameType) (f : RxFrame) (who : Sender) (eui : Nat) : Option Bytes :=
  openFrame ((rxKey s who).getD []) eui (nearAsn s.radio.asn (byteAt f.psdu 1)).toNat (3 * f.seg.val + f.chain.val) (rxBody f) ty.clear

/-- A Frauri frame is accepted and its header changes no mode, claim or pair state: the link is UP, the frame is the next in order, no
failure awaits a re-send, and neither R412 nor the READY flag acts (R412, R416, R418). -/
abbrev Hears (s : State) (h : FrHead) : Prop :=
  Running s ∧ s.twin.link = .up ∧ h.seq = s.twin.rxSeq + 1 ∧ s.twin.fails = 0 ∧ ¬ (s.twin.unit = true ∧ s.twin.gateOpen = true ∧ h.gated = true) ∧
  (s.sys.mode = .servitor ∨ s.twin.pair ≠ .syncing ∧ s.twin.pair ≠ .ready)

/-- What the header of an accepted frame leaves: its flags and counts noted, and the frames it acknowledges let go (R416, R418, R422). -/
def heard (h : FrHead) (s : State) : State :=
  acked h.ack (bump 0x0B0034 1 { s with twin := { s.twin with
    peerGated := h.gated, peerLatched := h.latched, peerReady := h.ready, rxSeq := h.seq, ackSeq := h.ack.toNat } })

end Sys2Proof.Machine
end

