-- ==== Sys2Proof/WellFormed.lean ====
section
/-! DEFINITION. WellFormed.lean: what the operands of a command must satisfy beyond their types. The meanings do not rest on
it: each answers a next state on ill-formed operands too. -/

namespace Sys2Proof

/-- The latches of an epoch: channels ascending, nine tap magnitudes each (05_gnss_baseband.md R145). -/
def EpochMeas.wf (m : EpochMeas) : Bool :=
  decide ((m.chans.map ChanMeas.chan).Pairwise (· < ·)) && m.chans.all (fun c => c.mags.length == 9)

/-- A PSDU (10_field_radio.md R308: at most 255 bytes). -/
def RxFrame.wf (f : RxFrame) : Bool := decide (f.psdu.length ≤ 255)

/-- The operands lie in the ranges that the command's rule gives: an access to a register is aligned to its width (00_scope.md R5), the header and
the signature block of an image have 64 and 200 bytes (02_parison_image.md), and a command entry 64 (16_host_interface.md R489). -/
def Instr.wf : Instr → Bool
  | .registerWrite _ off w _ _ => off.toNat % w.bytes == 0
  | .rcCounterRead _ off w _ => off.toNat % w.bytes == 0
  | .lowerWordRead _ off w => off.toNat % w.bytes == 0
  | .headerRead b => b.length == 64
  | .signatureCheckDone b => b.length == 200
  | .entryFetch _ b => b.length == 64
  | .measurementEpoch m => m.wf
  | .stopReq f => f.wf
  | .data f => f.wf
  | .ack f => f.wf
  | .poll f => f.wf
  | .syncReq f => f.wf
  | .gafferBeaconRx f => f.wf
  | .parentBeaconRx f => f.wf
  | .parentQuenchRx f => f.wf
  | .peerQuenchRx f => f.wf
  | _ => true

end Sys2Proof
end

