-- ==== Sys2Proof/Certificates/Slice0/Obligations.lean ====
section
/-! DEFINITION. Slice0/Obligations.lean: the statements for the provers, chapter by chapter. -/

open Sys2Proof Sys2Proof.Machine

/-! ### The machine as a whole -/

/-- A step of a state with a command in front of its queue is exec of that command on the state with the queue's rest. With
nothing in the queue, by the model's own choice (assumption log 2), one period of the 1 GHz clock of R106 passes. -/
def Obligations.StepRunsTheFrontCommand : Prop :=
  (∀ (c : Instr) (l : List Instr) (s : State), step { s with pending := c :: l } = exec c { s with pending := l }) ∧
  (∀ s : State, s.pending = [] → step s = .next (advance 1 s))

/-- R76, R98, R361, R363: what the power-on reset of the AON island leaves: the latch set in agreeing copies with cause POWER_ON, the
warden and the main die not yet running, and no output on. -/
def Obligations.ResetLeavesTheLatchSet : Prop :=
  State.reset.aon.powered = true ∧ State.reset.aon.wardenUp = false ∧ State.reset.aon.mainRun = false ∧ State.reset.sys.mode = .reset ∧
  (∀ k, k < 3 → (qch State.reset k).latch = true ∧ (qch State.reset k).out = false) ∧ LatchAgrees State.reset ∧
  State.reset.quench.cause = .powerOn ∧ regBit State.reset 0x000018 0 = true ∧ State.reset.quench.permitOut = false ∧
  State.reset.twin.claimO = false ∧ State.reset.twin.gateOpen = false ∧ (∀ m, granted State.reset m = false) ∧ State.reset.pending = [] ∧
  Memory.wf State.reset.coreMem = true

/-- R354, R369, R76, R16, R451: every step keeps the three copies of the quench latch in agreement, whatever the command; it takes one
command from the queue and touches no other; and it keeps the canonical form of the field cores' memory. -/
def Obligations.LatchCopiesAgreeAfterEveryStep : Prop :=
  ∀ s t : State, LatchAgrees s → step s = .next t →
    LatchAgrees t ∧ t.pending = s.pending.tail ∧ (Memory.wf s.coreMem = true → Memory.wf t.coreMem = true)

/-- R368, R16: a set latch is cleared by the host's release and by nothing else. -/
def Obligations.OnlyTheHostReleases : Prop :=
  ∀ (c : Instr) (s t : State), exec c s = .next t → latched s = true → latched t = false →
    (∃ x, c = .releaseLatch .host x) ∨
    ∃ who off v x, c = .registerWrite who off .word v x ∧ who.master = .host ∧ off.toNat = 0x09000C ∧
      fld v 31 16 = 0x9610 ∧ fld v 15 12 = 2

/-! ### Registers (00_scope.md) -/

/-- R7, R8, R5, R10, R11, R581: a bit of a plain register follows its access code: RW takes the written bit, RWL takes it while
the lock is clear and keeps its value once it is set, W1C clears and W1S sets on a written 1, and any other bit keeps its
value. The three register commands. A plain write of an aligned word leaves the written word, but for the W1C bits that
hardware sets in the same cycle, and changes no other register; a narrower or misaligned one does nothing, and neither does
one at an unassigned offset, which reads 0. A read of a 32-bit RC counter returns its events and clears it, but for those of
the same cycle; a read of a lower register returns bits [31:0] and puts the rest in the master's shadow, which the next read
of the upper register returns. A narrow read returns the addressed bytes of the word read. -/
def Obligations.RegisterAccess : Prop :=
  (∀ (r : RegRow) (lock : Bool) (old new : Word) (i : Nat), i < 32 →
    r.rw &&& r.rwl = 0 → r.rw &&& r.w1c = 0 → r.rw &&& r.w1s = 0 → r.rwl &&& r.w1c = 0 → r.rwl &&& r.w1s = 0 → r.w1c &&& r.w1s = 0 →
    (r.rw.testBit i = true → (writtenWord r lock old new).getLsbD i = new.getLsbD i) ∧
    (r.rwl.testBit i = true → (writtenWord r lock old new).getLsbD i = if lock then old.getLsbD i else new.getLsbD i) ∧
    (r.w1c.testBit i = true → (writtenWord r lock old new).getLsbD i = (old.getLsbD i && !new.getLsbD i)) ∧
    (r.w1s.testBit i = true → (writtenWord r lock old new).getLsbD i = (old.getLsbD i || new.getLsbD i)) ∧
    ((r.rw ||| r.rwl ||| r.w1c ||| r.w1s).testBit i = false → (writtenWord r lock old new).getLsbD i = old.getLsbD i)) ∧
  (∀ (s : State) (who : Access) (off : BitVec 26) (v g : Word) (r : RegRow), Running s → off.toNat % 4 = 0 →
    (off.toNat / 0x10000 = 0x00 ∨ off.toNat / 0x10000 = 0x01 ∨ off.toNat / 0x10000 = 0x03 ∨ off.toNat / 0x10000 = 0x05 ∨ off.toNat / 0x10000 = 0x0C) →
    off.toNat ≠ 0x4C → off.toNat ≠ 0x030000 → off.toNat ≠ 0x030038 → regRow off.toNat = some r →
    After (.registerWrite who off .word v g) s fun t =>
      t = { s with regs := t.regs } ∧
      regWord t off.toNat = writtenWord r (locked s off.toNat) (regWord s off.toNat) (v &&& ~~~(g &&& w1cBits off.toNat)) ∧
      ∀ o, o ≠ off.toNat → regWord t o = regWord s o) ∧
  (∀ (s : State) (who : Access) (off : BitVec 26) (w : Width) (v g : Word), Running s → who.master = .host → w ≠ .word ∨ off.toNat % 4 ≠ 0 →
    exec (.registerWrite who off w v g) s = .next s) ∧
  (∀ (s : State) (who : Access) (off : BitVec 26) (v g : Word), Running s → who.master = .host → off.toNat % 4 = 0 →
    0x130000 ≤ off.toNat → off.toNat < 0xF00000 → shadowOf s .host off.toNat = none →
    exec (.registerWrite who off .word v g) s = .next s ∧ exec (.lowerWordRead who off .word) s = .next { s with rdata := 0 }) ∧
  (∀ (s : State) (who : Access) (off : BitVec 26) (sel g : Nat), Running s → off.toNat % 4 = 0 → off.toNat ≠ 0x0A0024 →
    cntSel off.toNat s = some sel → shadowOf s who.master off.toNat = none → countOf s off.toNat sel < 2 ^ 32 →
    After (.rcCounterRead who off .word g) s fun t =>
      t = { s with rdata := BitVec.ofNat 32 (countOf s off.toNat sel - g), counts := t.counts } ∧
      countOf t off.toNat sel = min g (countOf s off.toNat sel)) ∧
  (∀ (s : State) (who : Access), Running s → shadowOf s who.master 0x020008 = none →
    After (.lowerWordRead who 0x020008 .word) s fun t =>
      t = { s with rdata := BitVec.ofNat 32 (now s), shadows := t.shadows } ∧
      shadowOf t who.master 0x02000C = some (BitVec.ofNat 32 (now s / 2 ^ 32))) ∧
  (∀ (s : State) (who : Access) (off : BitVec 26) (v : Word), Running s → off.toNat % 4 = 0 → shadowOf s who.master off.toNat = some v →
    After (.lowerWordRead who off .word) s fun t => t = { s with rdata := v, shadows := t.shadows } ∧ shadowOf t who.master off.toNat = none) ∧
  (∀ (s : State) (who : Access) (off : BitVec 26) (w : Width), Running s → who.master = .host →
    ∃ u, exec (.lowerWordRead who (BitVec.ofNat 26 (off.toNat / 4 * 4)) .word) s = .next u ∧
      exec (.lowerWordRead who off w) s = .next { u with rdata := addressed off.toNat w u.rdata })

/-! ### The image loader (02_parison_image.md) -/

/-- R47, R50, R51, R57, R49, R591, R48, R45, R46, R55, R56: an action that is accepted starts to read its source. In RESET a
forming action reads FORMING from its first byte. What a good read brings is kept, in the order header, gathers, and a read
error is retried. A failed check ends the load with its code and place in PARISON_FAIL_AT; outside FORMING the mode stays. The
checks pass, application starts, and it ends. Where a clause rests on a choice of the model, it follows assumption log 23 or
24. -/
def Obligations.LoaderRun : Prop :=
  (∀ (s : State) (src slot : Fin 4) (c : Instr) (a : Nat), Running s →
    (c = .form src slot ∧ a = 0 ∨ c = .checkOnly src slot ∧ a = 1 ∨ c = .checkAndStore src slot ∧ a = 2 ∨ c = .formAndStore src slot ∧ a = 3) →
    s.parison.load = none → src ≠ 3 → (src.val < 2 → regFld s 0x010008 2 0 = 0) → (2 ≤ a → slot ≠ s.parison.active ∧ src ≠ 2) →
    (src = 2 → (storeSlot s slot).valid = true) →
    After c s fun t =>
      t.parison.loader = .reading ∧ t.parison.err = .none ∧ (t.parison.load.map Load.kind) = some .host ∧
      (t.parison.load.map Load.action) = some (BitVec.ofNat 2 a) ∧ (t.parison.load.bind Load.header) = none ∧
      t.sys.mode = (if s.sys.mode = .reset ∧ (a = 0 ∨ a = 3) then .forming else s.sys.mode)) ∧
  (∀ (s : State) (bytes : Bytes) (l : Load), Running s → s.parison.load = some l → l.header = none → lostSource l s = false →
    headerErr l.limit (readBytes l 0 64 bytes s) = .none → leAt (readBytes l 0 64 bytes s) 0xC 2 ≠ 0 →
    After (.headerRead bytes) s fun t =>
      t = { s with parison := t.parison } ∧ (t.parison.load.bind Load.header) = some (headerOf (readBytes l 0 64 bytes s)) ∧
      (t.parison.load.map Load.offset) = some 64) ∧
  (∀ (s : State) (bytes : Bytes) (l : Load) (x : ImageHeader), Running s → s.parison.load = some l → l.header = some x → l.head = none →
    s.parison.loader = .reading → lostSource l s = false → gatherErr x (lastType l) l.offset (readBytes l l.offset 16 bytes s) = .none →
    After (.gatherRead bytes) s fun t =>
      t = { s with parison := t.parison } ∧
      ((t.parison.load.bind Load.head).map fun g => (g.1.type, g.2)) =
        some (leAt (readBytes l l.offset 16 bytes s) 0 2, leAt (readBytes l l.offset 16 bytes s) 4 4)) ∧
  (∀ (s : State) (bytes : Bytes) (l : Load) (x : ImageHeader) (g : Gather) (n : Nat), Running s → s.parison.load = some l → l.header = some x →
    l.head = some (g, n) → s.parison.loader = .reading → lostSource l s = false → crc32c (readBytes l (l.offset + 16) n bytes s) = g.payCrc →
    (l.gathers.length + 1 = x.gatherCount → l.offset + 16 + n = x.imgLen - 200) →
    After (.gatherRead bytes) s fun t =>
      t = { s with parison := t.parison } ∧
      (t.parison.load.map Load.gathers) = some (l.gathers ++ [{ g with payload := readBytes l (l.offset + 16) n bytes s }]) ∧
      (t.parison.load.map Load.offset) = some (l.offset + 16 + n) ∧
      t.parison.loader = (if l.gathers.length + 1 = x.gatherCount then .checking else .reading)) ∧
  (∀ (s : State) (l : Load), Running s → s.parison.load = some l → readsNow l s = true → l.fails < 2 →
    After .sourceReadError s fun t => t = { s with parison := t.parison } ∧ t.parison.load = some { l with fails := l.fails + 1 }) ∧
  (∀ (s : State) (bytes : Bytes) (l : Load), Running s → s.parison.load = some l → l.header = none → s.sys.mode ≠ .forming → lostSource l s = false →
    headerErr l.limit (readBytes l 0 64 bytes s) ≠ .none →
    After (.headerRead bytes) s fun t =>
      t.parison.loader = .failed ∧ t.parison.err = headerErr l.limit (readBytes l 0 64 bytes s) ∧ t.parison.load = none ∧
      regBit t 0x01003C 1 = true ∧ t.sys = s.sys) ∧
  (∀ (s : State) (bytes : Bytes) (l : Load), Running s → s.parison.load = some l → l.header = none → s.sys.mode ≠ .forming → lostSource l s = true →
    After (.headerRead bytes) s fun t => t.parison.loader = .failed ∧ t.parison.err = .sourceEmpty ∧ t.parison.load = none ∧ t.sys = s.sys) ∧
  (∀ (s : State) (l : Load), Running s → s.parison.load = some l → readsNow l s = true → 2 ≤ l.fails → s.sys.mode ≠ .forming →
    After .sourceReadError s fun t =>
      t.parison.loader = .failed ∧ t.parison.err = .readFault ∧ t.parison.load = none ∧ t.parison.failType = readFaultType l ∧ t.sys = s.sys) ∧
  (∀ (s : State) (sig : Bytes) (l : Load) (x : ImageHeader), Running s → s.parison.load = some l → l.header = some x → l.sigDone = false →
    s.parison.loader = .checking → s.sys.mode ≠ .forming → lostSource l s = false →
    After (.signatureCheckDone sig) s fun t =>
      t.sys = s.sys ∧
      (signatureErr s.geode.fuses x (signedBytes l) (readBytes l l.offset 200 sig s) = .none →
        t = { s with parison := t.parison } ∧ (t.parison.load.map Load.sigDone) = some true) ∧
      (signatureErr s.geode.fuses x (signedBytes l) (readBytes l l.offset 200 sig s) ≠ .none →
        t.parison.loader = .failed ∧ t.parison.err = signatureErr s.geode.fuses x (signedBytes l) (readBytes l l.offset 200 sig s))) ∧
  (∀ (s : State) (l : Load) (x : ImageHeader), Running s → s.parison.load = some l → l.header = some x → l.sigDone = true → l.checked = false →
    x.reformOnly = false → missingType l.gathers = none → semanticFault s l.gathers (wouldHold l x s) (asReform l x s) = none →
    modeErr l x s = (.none, 0) → (l.action = 0 ∨ l.action = 1) → (l.action = 0 → formMode s.sys.mode = true) →
    After .semanticCheckDone s fun t =>
      if l.action = 1 then t.parison.loader = .done ∧ t.parison.err = .none ∧ t.parison.load = none ∧ regBit t 0x01003C 0 = true ∧ t.sys = s.sys
      else t.parison.loader = .applying ∧ t.parison.image = l.gathers ∧ t.parison.inStore = false) ∧
  (∀ (s : State) (l : Load) (x : ImageHeader), Running s → s.parison.load = some l → l.header = some x → l.sigDone = true → l.checked = false →
    x.reformOnly = true → semanticFault s l.gathers (wouldHold l x s) (asReform l x s) = none → l.action = 0 → reformMode s = true →
    After .semanticCheckDone s fun t =>
      t.parison.loader = .applying ∧ t.parison.waiting = overlay s.parison.waiting (l.gathers.filter (fun g => reformable g.type)) ∧ t.parison.image = s.parison.image ∧
      t.sys = s.sys)

/-- R590: a forming that ends enters the first mode of the list whose condition holds. -/
def Obligations.FormingEndsInTheModeOfTheList : Prop :=
  ∀ (s : State) (l : Load) (x : ImageHeader), Running s → s.parison.load = some l → l.header = some x → s.parison.loader = .applying →
    l.storing = false → l.reform = false → l.resource = false → bankMissing s = false →
    After .applicationDone s fun t =>
      (l.action ≠ 3 → t.parison.loader = .done ∧ t.parison.err = .none) ∧ t.parison.build = x.buildId ∧ t.parison.inForce = x.secVersion ∧
      (∀ k, (qch t k).latch = (qch s k).latch) ∧
      t.sys.mode = (if s.aon.onRes then .reserve else if s.twin.present ∧ s.twin.claimI then .servitor
        else if latched s then .quenched else .survey)

/-- R50, R51, R65, R69, R72: the image store, re-formed gathers and pending enables. Where a clause rests on a choice of the
model, it follows assumption log 24. -/
def Obligations.StoreAndReformCommands : Prop :=
  (∀ (s : State) (l : Load), Running s → s.parison.load = some l → l.storing = true →
    After (.storeWriteDone true) s fun t =>
      storeSlot t l.slot = { valid := true, image := imageBytes l } ∧ t.parison.loader = .done ∧ t.parison.err = .none ∧ t.parison.load = none ∧
      t.sys = s.sys) ∧
  (∀ (s : State) (slot : Fin 4), Running s → (storeSlot s slot).valid = true →
    (After (.makeActive slot) s fun t => t.parison.active = slot ∧ t.parison.fallback = s.parison.fallback ∧ t.parison.err = .none ∧
      t.parison.slots = s.parison.slots) ∧
    (After (.makeFallback slot) s fun t => t.parison.fallback = slot ∧ t.parison.active = s.parison.active ∧ t.parison.err = .none)) ∧
  (∀ (s : State) (slot : Fin 4), Running s → slot ≠ s.parison.active →
    After (.invalidateSlot slot) s fun t => (storeSlot t slot).valid = false ∧ (storeSlot t slot).image = (storeSlot s slot).image ∧
      t.parison.err = .none ∧ ∀ k, k ≠ slot.val → storeSlot t k = storeSlot s k) ∧
  (∀ (s : State) (type : BitVec 16) (g : Gather), Running s → g ∈ s.parison.waiting → g.type = type.toNat → type ≠ 0xF0 →
    (type = 0x60 → allotNext s = true) →
    After (.gatherTakesEffect type) s fun t => ∀ y ∈ t.parison.waiting, y.type ≠ type.toNat) ∧
  (∀ s : State, Running s → allotNext s = false → exec (.gatherTakesEffect 0x60) s = .next s) ∧
  (∀ s : State, Running s →
    After .shutdownComplete s fun t => t.sys = s.sys ∧ t.aon = s.aon ∧ ∀ b ∈ t.lode.banks, b.state ≠ .pending)

/-! ### Modes, power and reset (03_modes_power_reset.md) -/

/-- R76, R83, R98: AON power-up sets the latch in every copy with cause POWER_ON and the POWER_ON bit, with the warden and the
main die not yet running; AON power loss leaves no register behind, and keeps the fuses, the MRAM's totals, records, slots.
Where a clause rests on a choice of the model, it follows assumption log 4 or 25. -/
def Obligations.AonPowerUpAndLoss : Prop :=
  (∀ (s : State) (vm vr : Nat), s.aon.powered = false → (10500 ≤ vm ∧ vm ≤ 13800 ∨ 9000 ≤ vr) →
    After (.aonPowerUp vm vr) s fun t =>
      t.aon.powered = true ∧ t.aon.wardenUp = false ∧ t.aon.mainRun = false ∧ (∀ k, k < 3 → (qch t k).latch = true) ∧
      t.quench.cause = .powerOn ∧ regBit t 0x000018 0 = true ∧ (t.aon.onRes = true ↔ ¬ (10500 ≤ vm ∧ vm ≤ 13800)) ∧
      t.geode.fuses = s.geode.fuses) ∧
  (∀ (s : State) (vm vr : Nat), s.aon.powered = true → ¬ (10500 ≤ vm ∧ vm ≤ 13800) → vr < 9000 →
    After (.aonPowerLoss vm vr) s fun t =>
      t.aon.powered = false ∧ t.aon.mainRun = false ∧ t.regs = [] ∧ t.counts = [] ∧ (∀ k, k < 3 → (qch t k).out = false) ∧
      t.geode.fuses = s.geode.fuses ∧ t.geode.slots = [] ∧ t.assay.chs = s.assay.chs ∧ t.strata.drift = s.strata.drift ∧
      t.strata.bedrock = s.strata.bedrock ∧ t.strata.next = s.strata.next ∧ t.parison.slots = s.parison.slots ∧
      t.clk = s.clk ∧ t.pending = s.pending)

/-- R98, R99, R27, R439: each step of the power-on sequence. The loss of REF10_IN is FATAL and the unit yields at once; PERST
without PERST_RESET acts as a host reset (R477). Where a clause rests on a choice of the model, it follows assumption log 25. -/
def Obligations.PowerOnAndReference : Prop :=
  (∀ s : State, s.aon.powered = true →
    exec .wardenStart s = .next { s with aon := { s.aon with wardenUp := true } } ∧
    exec .aonClockChangeover s = .next { s with aon := { s.aon with crystal := true } }) ∧
  (∀ s : State, Warden s → s.aon.hold ≠ .battCrit → s.sys.mode ≠ .dormant →
    exec .mainRailsUp s = .next { s with aon := { s.aon with mainRails := true } }) ∧
  (∀ s : State, Warden s → s.aon.mainRails = true → s.aon.pllLocked = false →
    exec (.pllLocked true) s = .next { s with aon := { s.aon with pllLocked := true, refMissing := false, refPresent := true } } ∧
    exec (.pllLocked false) s = .next { s with aon := { s.aon with refMissing := true, refPresent := false } }) ∧
  (∀ s : State, Warden s →
    exec .ref10Return s = .next { s with aon := { s.aon with refMissing := false, refPresent := true } }) ∧
  (∀ (s : State) (ok : Bool), Warden s → s.aon.mainRails = true → s.aon.pllLocked = true → s.aon.mainRun = false →
    s.aon.hold = .none → s.sys.mode = .reset →
    After (.mainDieResetRelease ok) s fun t =>
      t.aon.mainRun = true ∧ t.time.raw = 0 ∧ t.sys.wakeHold = s.aon.waking ∧
      (t.parison.loader = .waitHost ∧ t.sys.mode = .reset ∨ t.parison.loader = .reading ∧ t.sys.mode = .forming)) ∧
  (∀ s : State, Running s →
    After .ref10Lost s fun t =>
      t.aon.refPresent = false ∧ t.fault.lastCode = 0x0001 ∧ t.fault.lastClass = .fatal ∧
      (s.sys.mode ≠ .reset → s.sys.mode ≠ .forming → s.sys.mode ≠ .dormant → s.sys.mode ≠ .yielded → t.sys.mode = .yielded ∧ t.twin.claimO = false) ∧
      ∀ k, (qch t k).latch = (qch s k).latch) ∧
  (∀ s : State, Running s → regBit s 0x000010 1 = false →
    After .perst s fun t => t.sys = s.sys ∧ t.aon = s.aon ∧ t.quench = s.quench ∧ t.hostif.busMaster = false ∧ t.geode.hostOpen = false)

/-- R81, R83, R84, R85: the power path. The loss of VIN_MAIN moves it to VIN_RES and leaves the mode to the next profile tick, or
takes the island's power if VIN_RES is low; the return moves it back and ends the battery conditions; a fall of VIN_RES moves
the path alone. Where a clause rests on a choice of the model, it follows assumption log 25. -/
def Obligations.PowerPathFollowsTheInputs : Prop :=
  (∀ (s : State) (vm vr : Nat), s.aon.powered = true → ¬ (10500 ≤ vm ∧ vm ≤ 13800) → 9000 ≤ vr →
    After (.vinMainLost vm vr) s fun t =>
      t.aon.onRes = true ∧ t.aon.mainGood = false ∧ t.aon.vmainMv = vm ∧ t.aon.vresMv = vr ∧ t.sys.mode = s.sys.mode ∧ t.quench = s.quench) ∧
  (∀ (s : State) (vm vr : Nat), s.aon.powered = true → ¬ (10500 ≤ vm ∧ vm ≤ 13800) → vr < 9000 →
    After (.vinMainLost vm vr) s fun t => t.aon.powered = false) ∧
  (∀ (s : State) (vm : Nat), s.aon.powered = true → 10800 ≤ vm → vm ≤ 13200 → s.aon.mainGood = false →
    After (.vinMainReturn vm) s fun t =>
      t.aon.onRes = false ∧ t.aon.mainGood = true ∧ t.aon.battCrit = false ∧ t.aon.battAnneal = false ∧ t.sys.annealOnRes = false ∧
      t.sys.mode = s.sys.mode) ∧
  (∀ (s : State) (vm vr : Nat), s.aon.powered = true → s.aon.onRes = true → vr < 9000 → 10500 ≤ vm → vm ≤ 13800 →
    After (.vinResFallSwitch vm vr) s fun t =>
      t.aon.onRes = false ∧ t.aon.mainGood = s.aon.mainGood ∧ t.sys = s.sys ∧ t.aon.powered = true)

/-- R84, R85, R89: the battery samples and what ten of them do. 105 °C asks for ANNEAL and disarms, 110 °C stops and holds the
main die, below 100 °C everything is released. The unit is 0.125 °C. Where a clause rests on a choice of the model, it follows
assumption log 25. -/
def Obligations.BatteryAndThermalThresholds : Prop :=
  (∀ (s : State) (batt solar : Nat), Warden s →
    After (.powerSenseSample batt solar) s fun t =>
      t = { s with aon := t.aon } ∧ t.aon.powered = s.aon.powered ∧
      t.aon.lowCount = (if t.aon.battMv < regFld s 0x4C 31 16 then min 10 (s.aon.lowCount + 1) else 0) ∧
      t.aon.critCount = (if s.aon.onRes = true ∧ t.aon.battMv < regFld s 0x4C 15 0 then min 10 (s.aon.critCount + 1) else 0) ∧
      t.aon.lowClear = (if regFld s 0x4C 31 16 + 200 < t.aon.battMv then min 10 (s.aon.lowClear + 1) else 0) ∧
      t.aon.critClear = (if regFld s 0x4C 15 0 + 200 < t.aon.battMv then min 10 (s.aon.critClear + 1) else 0)) ∧
  (∀ s : State, Warden s → s.aon.lowCount = 10 →
    After .battResLow s fun t =>
      t.sys.mode = s.sys.mode ∧
      (s.sys.mode = .reserve → s.aon.onRes = true → s.parison.inStore = true → t.aon.battLow = s.aon.battLow ∧
        (s.sys.req = none → s.aon.dormantReq = false → imageWork s = false → t.aon.dormantReq = true ∧ t.aon.dormantWho = .warden)) ∧
      (¬ (s.sys.mode = .reserve ∧ s.aon.onRes = true ∧ s.parison.inStore = true) →
        t.aon.battLow = true ∧ t.aon.dormantReq = s.aon.dormantReq ∧ (s.aon.battLow = false → regBit t 0x00001C 3 = true))) ∧
  (∀ s : State, Warden s → s.aon.critCount = 10 → s.aon.onRes = true → s.aon.battCrit = false →
    After .battResCrit s fun t =>
      t.aon.battCrit = true ∧ (∀ k, sourceOn t k = true) ∧
      (latched s = false → s.quench.deciding = none → t.aon.critDue = true ∧ t.quench.deciding = some (.warden, 0) ∧ t.sys = s.sys) ∧
      (latched s = true → s.quench.deciding = none → s.sys.mode ≠ .dormant → s.aon.dormantReq = false →
        (dormantMode s.sys.mode = true → s.parison.inStore = true → imageWork s = false → t.aon.dormantReq = true ∧ t.sys = s.sys) ∧
        (dormantMode s.sys.mode = false ∨ s.parison.inStore = false → s.aon.hold = .none →
          t.aon.hold = .battCrit ∧ t.aon.mainRun = false ∧ t.aon.mainRails = false ∧ t.sys.mode = .reset))) ∧
  (∀ s : State, Warden s → s.aon.lowClear = 10 →
    exec .battLowClear s = .next { s with aon := { s.aon with battLow := false } }) ∧
  (∀ s : State, Warden s → s.aon.critClear = 10 →
    After .resCritClear s fun t => t.aon = { s.aon with battCrit := false } ∧ t.sys = s.sys ∧ ∀ k, (qch t k).latch = (qch s k).latch) ∧
  (∀ s : State, Warden s → s.sys.mode = .anneal → s.sys.annealDone = false → s.sys.annealOnRes = true → regFld s 0x50 7 0 ≠ 0 →
    After .batteryAnnealLimit s fun t => t.aon.battAnneal = true ∧ (∀ k, sourceOn t k = true) ∧
      t.clk = max s.clk (s.quench.annealAt + regFld s 0x50 7 0 * 10 ^ 9)) ∧
  (∀ (s : State) (tj : BitVec 16), Warden s → tj.toInt < 800 →
    After (.thermalSample tj) s fun t =>
      t.aon.tj = tj.toInt ∧ t.aon.thermal110 = false ∧ t.aon.thermArmed = true ∧ t.aon.hold ≠ .thermal ∧ t.sys = s.sys) ∧
  (∀ (s : State) (tj : BitVec 16), Warden s → 840 ≤ tj.toInt → tj.toInt < 880 → s.aon.thermArmed = true →
    After (.thermalSample tj) s fun t =>
      t.aon.tj = tj.toInt ∧ t.aon.thermArmed = false ∧ t.aon.thermal110 = s.aon.thermal110 ∧ t.sys.mode = s.sys.mode ∧
      (s.sys.mode = .field ∨ s.sys.mode = .holdover → t.sys.thermalReq = true)) ∧
  (∀ (s : State) (tj : BitVec 16), Running s → 880 ≤ tj.toInt → s.aon.thermal110 = false → s.sys.mode ≠ .dormant → s.aon.hold ≠ .battCrit →
    After (.thermalSample tj) s fun t =>
      t.aon.thermal110 = true ∧ t.aon.hold = .thermal ∧ t.aon.mainRun = false ∧ t.sys.mode = .reset ∧ (∀ k, sourceOn t k = true) ∧
      regBit t 0x000018 5 = true)

/-- R96, R97, R16: every source of a main-die reset takes the mode to RESET at once and drops the claim; the copies of the latch,
Assay's raw totals, the stored Strata records and PARISON_BOOT_SRC stay as they are, and the cause is recorded. Where a clause
rests on a choice of the model, it follows assumption log 25. -/
def Obligations.MainDieResetKeepsTheAonIsland : Prop :=
  ∀ (s : State) (c : Instr) (b : Nat), Running s → s.aon.mainRails = true →
    (c = .mainBrownout ∧ b = 1 ∨ c = .resetCtrlMain 0x96100001 ∧ b = 2 ∨ c = .perst ∧ regBit s 0x000010 1 = true ∧ b = 3 ∨
      c = .watchdog ∧ b = 4) →
    After c s fun t =>
      t.sys.mode = .reset ∧ t.aon.mainRun = false ∧ t.twin.claimO = false ∧ t.twin.gateOpen = false ∧ regBit t 0x000018 b = true ∧
      (∀ k, (qch t k).latch = (qch s k).latch) ∧ t.quench.result = s.quench.result ∧ t.strata.result = s.strata.result ∧
      t.assay.chs = s.assay.chs ∧ t.strata.drift = s.strata.drift ∧ t.strata.bedrock = s.strata.bedrock ∧ regWord t 0x010014 = regWord s 0x010014 ∧
      t.geode.fuses = s.geode.fuses ∧ t.lode = {} ∧ t.aon.onRes = s.aon.onRes ∧ t.pending = s.pending

/-- R77, R78, R103, R105, R90: a mode request that the table allows is accepted and waits for the profile tick; one that it does
not list is refused with MODE, and one while another is in progress with BUSY. No mode changes in the request itself. A
DORMANT request is tested in list order, and accepted only when every condition holds. -/
def Obligations.ModeRequests : Prop :=
  (∀ (s : State) (who : Master), Running s → s.sys.req = none → s.aon.dormantReq = false →
    (s.sys.mode = .maintenance ∨ s.sys.mode = .anneal ∧ s.sys.annealDone = true →
      exec (.reqSurvey who) s = .next { s with sys := { s.sys with req := some { target := .survey, master := who, mboxTag := none }, reqResult := .none } }) ∧
    (s.sys.mode = .survey → fieldReady s = true →
      exec (.reqField who) s = .next { s with sys := { s.sys with req := some { target := .field, master := who, mboxTag := none }, reqResult := .none } }) ∧
    (s.sys.mode = .survey → fieldReady s = false → After (.reqField who) s fun t => t.sys = { s.sys with reqResult := .notReady }) ∧
    (s.sys.mode = .field ∨ s.sys.mode = .holdover →
      exec (.reqAnneal who) s = .next { s with sys := { s.sys with req := some { target := .anneal, master := who, mboxTag := none }, reqResult := .none } }) ∧
    (s.sys.mode = .survey ∨ s.sys.mode = .quenched ∨ s.sys.mode = .servitor →
      exec (.reqMaintenance who) s = .next { s with sys := { s.sys with req := some { target := .maintenance, master := who, mboxTag := none }, reqResult := .none } }) ∧
    (s.sys.mode ≠ .survey → After (.reqField who) s fun t => t.sys = { s.sys with reqResult := .mode } ∧ regBit t 0x00001C 1 = true) ∧
    (s.sys.mode ≠ .field → s.sys.mode ≠ .holdover →
      After (.reqAnneal who) s fun t => t.sys = { s.sys with reqResult := .mode } ∧ regBit t 0x00001C 1 = true)) ∧
  (∀ (s : State) (who : Master) (c : Instr), Running s → (c = .reqSurvey who ∨ c = .reqField who ∨ c = .reqAnneal who ∨ c = .reqDormant who ∨ c = .reqMaintenance who) →
    s.sys.req.isSome = true ∨ s.aon.dormantReq = true →
    After c s fun t => t.sys = { s.sys with reqResult := .busy } ∧ t.aon = s.aon) ∧
  (∀ (s : State) (who : Master), Running s → s.sys.req = none → s.aon.dormantReq = false → dormantMode s.sys.mode = true →
    After (.reqDormant who) s fun t =>
      t.sys.mode = s.sys.mode ∧ regBit t 0x00001C 1 = true ∧
      (s.sys.mode ≠ .quenched ∧ noPermit s = false → t.sys.reqResult = .notPermitted ∧ t.aon.dormantReq = false) ∧
      ((s.sys.mode = .quenched ∨ noPermit s = true) → s.parison.inStore = false → t.sys.reqResult = .notStored ∧ t.aon.dormantReq = false) ∧
      ((s.sys.mode = .quenched ∨ noPermit s = true) → s.parison.inStore = true → imageWork s = true →
        t.sys.reqResult = .busy ∧ t.aon.dormantReq = false) ∧
      ((s.sys.mode = .quenched ∨ noPermit s = true) → s.parison.inStore = true → imageWork s = false →
        t.sys.reqResult = .done ∧ t.aon.dormantReq = true))

/-- R91, R92, R93, R94, R105: DORMANT leaves only the AON island powered, with its counter aligned to served time; each enabled
source that has risen since the request wakes the part into RESET, one during the entry is kept, and the outputs return 40.0
ms after the wake event. Where a clause rests on a choice of the model, it follows assumption log 25. -/
def Obligations.DormantAndWake : Prop :=
  (∀ s : State, Running s → s.aon.dormantReq = true → dormantMode s.sys.mode = true → s.aon.wakePending = none → regBit s 0x000054 0 = false →
    After .dormantEntryDone s fun t =>
      t.sys.mode = .dormant ∧ t.aon.mainRun = false ∧ t.aon.mainRails = false ∧ t.aon.dormantReq = false ∧
      t.aon.seconds = BitVec.ofNat 32 (now s / 10 ^ 9) ∧ t.aon.aligned = some (now s, s.aon.aonNs) ∧ t.geode.slots = [] ∧
      (∀ k, (qch t k).latch = (qch s k).latch)) ∧
  (∀ s : State, s.aon.powered = true → s.sys.mode ≠ .dormant → s.aon.aonNs ≤ s.aon.secondAt →
    After .aonSecond s fun t => t.aon.seconds = s.aon.seconds + 1 ∧ t.aon.aonNs = s.aon.secondAt ∧ t.aon.secondAt = s.aon.secondAt + 10 ^ 9 ∧ t.sys = s.sys) ∧
  (∀ s : State, s.aon.powered = true → s.sys.mode = .dormant → regBit s 0x000054 0 = true → (regWord s 0x000058).toNat ≤ (s.aon.seconds + 1).toNat →
    After .aonSecond s fun t => t.sys.mode = .reset ∧ t.aon.waking = true ∧ t.aon.wakeSrc = .alarm ∧ regBit t 0x000018 6 = true) ∧
  (∀ (s : State) (c : Instr) (src : WakeSrc) (at_ : Nat), Warden s →
    (c = .wakeMain ∧ regBit s 0x000054 1 = true ∧ s.aon.mainArmed = true ∧ s.aon.mainGood = true ∧ src = .main ∧ at_ = 0 ∨
      c = .wakeSolar ∧ regBit s 0x000054 2 = true ∧ s.aon.solarRise = some at_ ∧ src = .solar ∨
      (∃ p : Fin 4, c = .wakeGpio p ∧ regBit s 0x000054 (3 + p.val) = true ∧ src = .gpio p) ∧ at_ = 0) →
    (s.sys.mode = .dormant → After c s fun t =>
      t.sys.mode = .reset ∧ t.aon.waking = true ∧ t.aon.wakeSrc = src ∧ t.aon.wakeAt = t.clk ∧ regBit t 0x000018 6 = true ∧
      t.clk = (if src = .solar then max s.clk (at_ + 10 ^ 9) else s.clk) ∧ (∀ k, (qch t k).latch = (qch s k).latch)) ∧
    (s.sys.mode ≠ .dormant → s.aon.dormantReq = true → s.aon.wakePending = none → After c s fun t =>
      t.aon.wakePending = some src ∧ t.sys = s.sys ∧ t.quench = s.quench)) ∧
  (∀ s : State, Warden s → s.aon.mainArmed = false ∨ s.aon.mainGood = false → exec .wakeMain s = .next s) ∧
  (∀ s : State, Running s → s.sys.wakeHold = true → s.sys.mode ≠ .reset → s.sys.mode ≠ .forming → s.aon.waking = true →
    After .wakeHoldClear s fun t => t.sys = { s.sys with wakeHold := false } ∧ t.aon.waking = false ∧ t.clk = max s.clk (s.aon.wakeAt + 40 * 10 ^ 6))

/-- R100, R373, R102, R103, R104: the warden acts at the correction-age limit and at the anneal limit. The warden answers the
oldest request of mailbox 8 when C2H has room, with its OP and TAG. MODE_REQ acts as a host's request; its answer waits until
the request ends. -/
def Obligations.WardenActsAndAnswers : Prop :=
  (∀ s : State, Running s → s.sys.mode = .holdover → timeValid s = false → s.sys.ageTaken = false →
    After .correctionAgeLimit s fun t =>
      (s.time.ageQuench = false → t.sys.mode = .anneal ∧ t.sys.cause = .ageLimit) ∧
      (s.time.ageQuench = true → t.sys.mode = .holdover ∧ t.aon.agePulse = true ∧ t.quench.wardenEnd = some (t.clk + 10000) ∧ t.sys.ageTaken = true)) ∧
  (∀ s : State, Running s → s.sys.mode = .anneal → s.sys.annealDone = false → regFld s 0x090050 7 0 ≠ 0 →
    After .annealLimit s fun t =>
      t.aon.annealPulse = true ∧ t.clk = max s.clk (s.quench.annealAt + regFld s 0x090050 7 0 * 10 ^ 9) ∧
      t.quench.wardenEnd = some (t.clk + 10000) ∧ t.sys = s.sys ∧ regBit t 0x090080 7 = true) ∧
  (∀ (s : State) (op tag arg : Nat) (c : Instr) (status : Nat) (data : List Word), Running s → wardenReq s = some (op, tag, arg) → wardenRoom s = true →
    (c = .ident ∧ op = 1 ∧ (arg = 0 ∧ status = 0 ∧ data = [0x00020001] ∨ arg ≠ 0 ∧ status = 2 ∧ data = []) ∨
     c = .readSys ∧ op = 2 ∧ (arg ≤ 0x19 ∧ status = 0 ∧ data = [sysWord s (4 * arg)] ∨ 0x19 < arg ∧ status = 2 ∧ data = []) ∨
     c = .modeReq ∧ op = 3 ∧ 16 ≤ arg ∧ status = 2 ∧ data = [] ∨
     c = .stopState ∧ op = 4 ∧ (arg = 0 ∧ status = 0 ∧ data = [BitVec.ofNat 32 (stopStateWord s)] ∨ arg ≠ 0 ∧ status = 2 ∧ data = []) ∨
     c = .badOp ∧ (op = 0 ∨ 5 ≤ op) ∧ status = 1 ∧ data = []) →
    After c s fun t =>
      (mb t 8).h2c.words = (mb s 8).h2c.words.drop 1 ∧
      (mb t 8).c2h.words = (mb s 8).c2h.words ++ [BitVec.ofNat 32 (op * 2 ^ 24 + tag * 2 ^ 16 + status * 2 ^ 8 + data.length)] ++ data ∧
      t.sys = s.sys ∧ t.aon = s.aon ∧ t.regs = s.regs ∧ t.quench = s.quench) ∧
  (∀ (s : State) (tag arg : Nat), Running s → wardenReq s = some (3, tag, arg) → wardenRoom s = true → arg < 16 → s.sys.req = none →
    s.aon.dormantReq = false → requestResult arg s = .none →
    After .modeReq s fun t =>
      t.sys.req = some { target := targetMode arg, master := .host, mboxTag := some (BitVec.ofNat 8 tag) } ∧ t.sys.reqResult = .none ∧
      t.sys.mode = s.sys.mode ∧ (mb t 8).c2h = (mb s 8).c2h ∧ (mb t 8).h2c.words = (mb s 8).h2c.words.drop 1 ∧
      t.hostif.wardenTaken = s.hostif.wardenTaken + 1)

/-! ### Timebase (04_timebase.md) -/

/-- R73, R78, R80, R81: the mode transitions that a profile tick makes of themselves; a tick at which none is due keeps the mode. -/
def Obligations.ModeAtTheProfileTick : Prop :=
  (∀ s : State, Running s → s.sys.req = none → mainAbsent s = true →
    ((s.sys.mode = .survey ∨ s.sys.mode = .quenched ∨ s.sys.mode = .maintenance ∨ s.sys.mode = .servitor) →
      After .profileTick s fun t => t.sys.mode = .reserve ∧ t.sys.prev = s.sys.mode ∧ t.sys.cause = .mainLost ∧ t.sys.shed = true) ∧
    ((s.sys.mode = .field ∨ s.sys.mode = .holdover) →
      After .profileTick s fun t => t.sys.mode = .anneal ∧ t.sys.prev = s.sys.mode ∧ t.sys.cause = .mainLost)) ∧
  (∀ s : State, Running s → s.sys.req = none → mainAbsent s = false → s.sys.thermalReq = false →
    (s.sys.mode = .field → s.time.p.valid = false → s.time.a.valid = false →
      After .profileTick s fun t => t.sys.mode = .holdover ∧ t.sys.prev = .field ∧ t.sys.cause = .timeLost) ∧
    (s.sys.mode = .field → (s.time.p.valid = true ∨ s.time.a.valid = true) → After .profileTick s fun t => t.sys.mode = .field) ∧
    (s.sys.mode = .holdover → timeValid s = true → After .profileTick s fun t => t.sys.mode = .field ∧ t.sys.cause = .timeRegained) ∧
    (s.sys.mode = .quenched → latched s = true → After .profileTick s fun t => t.sys = s.sys) ∧
    (s.sys.mode = .quenched → s.sys.released = false → After .profileTick s fun t => t.sys = s.sys) ∧
    (s.sys.mode = .quenched → s.sys.released = true → latched s = false → After .profileTick s fun t => t.sys.mode = .survey ∧ t.sys.cause = .release) ∧
    (s.sys.mode = .reserve →
      After .profileTick s fun t => t.sys.mode = (if latched s then .quenched else .survey) ∧ t.sys.cause = .mainReturned ∧ t.sys.shed = false) ∧
    (s.sys.mode = .yielded → After .profileTick s fun t => t.sys = s.sys ∧ t.time.nextProf = s.time.nextProf + 1))

/-- R112, R115, R135, R133, R117, R118, R114, R116, R131: TIME_CTRL.SEL takes a valid domain only, and served time does not jump;
a domain whose source is lost gives way to a valid one; where both are lost in one cycle, SEL stays. A source that becomes
valid with error e gives e to TIME_REJOIN_ERR and to the pending correction, with REJOIN_SLOW beyond 100 µs; in a mode that
permits a step, with AUTO_STEP and beyond 1 µs, the domain steps by e instead. A step command moves the selected domain, and
clears its pending correction and the residual, in the modes that accept one; in the others it is refused with MODE and served
time stays. A RATE write in a mode in which machines may move keeps within the slew limit; a CORR write adds to the pending
correction, which saturates at ±(2^31 − 1) ns, and in holdover is not taken; neither acts on a domain that GNSS or TWIN
disciplines. Where a clause rests on a choice of the model, it follows assumption log 2. -/
def Obligations.TimeDomains : Prop :=
  (∀ (s : State) (sel : Bool), Running s →
    ((dom s sel).valid = false → After (.selWrite sel) s fun t => t = { s with regs := t.regs } ∧ regBit t 0x02002C 13 = true) ∧
    ((dom s sel).valid = true → s.time.selA ≠ sel →
      After (.selWrite sel) s fun t =>
        t.time.selA = sel ∧ now t = now s ∧ t.time.p = s.time.p ∧ t.time.a = s.time.a ∧ t = { s with time := t.time, regs := t.regs }) ∧
    ((dom s sel).valid = true → s.time.selA = sel → exec (.selWrite sel) s = .next s)) ∧
  (∀ (s : State) (a : Bool) (c : Instr), Running s → (dom s a).valid = true →
    (c = .sourceLost a false ∨
      c = .softTimeout a ∧ sourceOf s a = 2 ∧ (dom s a).lastWrite + softTimeoutNs s a ≤ s.clk ∧
        ((dom s (!a)).valid = false ∨ sourceOf s (!a) ≠ 2 ∨ s.clk < (dom s (!a)).lastWrite + softTimeoutNs s (!a)) ∨
      c = .twinExchangeTimeout a ∧ sourceOf s a = 3 ∧ (dom s a).lastWrite + 10 ^ 7 ≤ s.clk ∧
        ((dom s (!a)).valid = false ∨ sourceOf s (!a) ≠ 3 ∨ s.clk < (dom s (!a)).lastWrite + 10 ^ 7)) →
    After c s fun t =>
      (dom t a).valid = false ∧ (dom t a).lostAt = s.clk ∧ (dom t (!a)) = dom s (!a) ∧ now t = now s ∧
      t.time.selA = (if s.time.selA = a ∧ (dom s (!a)).valid = true then !a else s.time.selA) ∧
      regBit t 0x02002C 1 = true ∧ t = { s with time := t.time, regs := t.regs }) ∧
  (∀ (s : State) (a : Bool), Running s → (dom s a).valid = true → (dom s (!a)).valid = true →
    After (.sourceLost a true) s fun t =>
      (dom t false).valid = false ∧ (dom t true).valid = false ∧ t.time.selA = s.time.selA ∧ now t = now s ∧ regBit t 0x02002C 1 = true ∧
      t = { s with time := t.time, regs := t.regs }) ∧
  (∀ (s : State) (a : Bool), Running s → (dom s a).valid = true → sourceOf s a = 2 →
    After (.softTimeout a) s fun t => (dom t a).valid = false ∧ t.clk = max s.clk ((dom s a).lastWrite + softTimeoutNs s a)) ∧
  (∀ (s : State) (a : Bool) (e : Int), Running s → sourceMay s a = true → (dom s a).valid = false → e.natAbs < 2 ^ 31 →
    After (.sourceValid a e) s fun t =>
      (dom t a).valid = true ∧ t.time.rejoinErr = e ∧ t.time.selA = s.time.selA ∧
      (dom t (!a)) = dom s (!a) ∧ regBit t 0x02002C 2 = true ∧ t.sys = s.sys ∧
      (if 1000 < e.natAbs ∧ (s.sys.mode = .servitor ∨ stepMode s.sys.mode = true ∧ regBit s 0x020000 5 = true)
        then (dom t a).off40 = (dom s a).off40 + e * 2 ^ 40 ∧ (dom t a).pend40 = 0 ∧ (dom t a).slow = false
        else (dom t a).off40 = (dom s a).off40 ∧ (dom t a).pend40 = e * 2 ^ 40 ∧ (dom t a).slow = decide (100000 < e.natAbs) ∧ t.grid = s.grid ∧ t.switch = s.switch)) ∧
  (∀ (s : State) (hi : Word) (e : Int), Running s → e = (hi ++ s.time.stepLo : BitVec 64).toInt →
    (stepMode s.sys.mode = true → After (.step hi) s fun t =>
      t.time.selA = s.time.selA ∧ t.time.sel.off40 = s.time.sel.off40 + e * 2 ^ 40 ∧ t.time.sel.pend40 = 0 ∧ t.time.resid40 = 0 ∧
      t.time.stepResult = .done ∧ t.time.ppsHigh = false ∧ t.time.raw = s.time.raw ∧ (dom t (!s.time.selA)) = dom s (!s.time.selA) ∧
      t.sys = s.sys ∧ t.aon = s.aon ∧ t.rtk.pos = s.rtk.pos ∧ t.rtk.refState = s.rtk.refState ∧
      (gridRuns s = true → t.grid.allots = []) ∧ (s.grid.allots = [] → t.lode = s.lode)) ∧
    (stepMode s.sys.mode = false → After (.step hi) s fun t =>
      t = { s with time := { s.time with stepResult := .mode }, regs := t.regs } ∧ regBit t 0x02002C 4 = true)) ∧
  (∀ (s : State) (a : Bool) (w : Word), Running s →
    ((sourceOf s a = 1 ∨ sourceOf s a = 3) → exec (.rateWrite a w) s = .next s ∧ exec (.corrWrite a w) s = .next s) ∧
    (sourceOf s a = 0 ∨ sourceOf s a = 2 ∧ (dom s a).valid = true →
      ((s.sys.mode = .field ∨ s.sys.mode = .holdover ∨ s.sys.mode = .anneal) → s.time.slewPpm * 2 ^ 40 / 10 ^ 6 < (w.toInt - (dom s a).rate.toInt).natAbs →
        After (.rateWrite a w) s fun t => t = { s with regs := t.regs } ∧ regBit t 0x02002C 14 = true) ∧
      ((s.sys.mode ≠ .field ∧ s.sys.mode ≠ .holdover ∧ s.sys.mode ≠ .anneal) ∨ (w.toInt - (dom s a).rate.toInt).natAbs ≤ s.time.slewPpm * 2 ^ 40 / 10 ^ 6 →
        After (.rateWrite a w) s fun t =>
          t = { s with time := t.time } ∧ (dom t a).rate = w ∧ (dom t a).off40 = (dom s a).off40 ∧ (dom t a).pend40 = (dom s a).pend40 ∧
          (dom t (!a)) = dom s (!a)) ∧
      (softHeld s a = true → exec (.corrWrite a w) s = .next s) ∧
      (softHeld s a = false → After (.corrWrite a w) s fun t =>
        t = { s with time := t.time, regs := t.regs } ∧
        (dom t a).pend40 = max (-((2 ^ 31 - 1) * 2 ^ 40)) (min ((2 ^ 31 - 1) * 2 ^ 40) ((dom s a).pend40 + w.toInt * 2 ^ 40)) ∧
        (dom t a).rate = (dom s a).rate ∧ (dom t (!a)) = dom s (!a))))

/-- R120, R121, R126, R127, R129, R130, R125: a compare that is armed fires when its target is past: ARM clears, FIRED and its
interrupt set. PPS_OUT edges; captures into a FIFO of 16; the reads that remove the oldest entry. Where a clause rests on a
choice of the model, it follows assumption log 2. -/
def Obligations.ComparesPpsAndCaptures : Prop :=
  (∀ (s : State) (n : Fin 4) (hi : Word), Running s → hi.getLsbD 31 = true →
    let d := (((hi.toNat % 2 ^ 16) * 2 ^ 32 + (regWord s (0x0200A0 + 8 * n)).toNat) + 2 ^ 48 - now s % 2 ^ 48) % 2 ^ 48
    After (.compareArm n hi) s fun t =>
      (0 < d ∧ d < 2 ^ 47 → regBit t (0x0200A4 + 8 * n) 31 = true ∧ t = { s with regs := t.regs }) ∧
      (¬ (0 < d ∧ d < 2 ^ 47) → regBit t (0x0200A4 + 8 * n) 31 = false ∧ regBit t (0x0200A4 + 8 * n) 30 = true ∧ regBit t 0x02002C (9 + n) = true ∧
        now t = now s)) ∧
  (∀ (s : State) (n : Fin 4), Running s →
    (cmpArmed s n = true → After (.compareFire n) s fun t =>
      regBit t (0x0200A4 + 8 * n) 31 = false ∧ regBit t (0x0200A4 + 8 * n) 30 = true ∧ regBit t 0x02002C (9 + n) = true ∧ s.clk ≤ t.clk) ∧
    (cmpArmed s n = false → exec (.compareFire n) s = .next s)) ∧
  (∀ s : State, Running s →
    (s.time.lastStep = none → After .ppsOutEdge s fun t =>
      t.time.ppsNext = s.time.ppsNext + 1 ∧ t.sys = s.sys ∧ t.regs = s.regs ∧
      (regBit s 0x020080 31 = true → s.sys.wakeHold = false → t.time.ppsHigh = true ∧ t.time.ppsFallAt = t.clk + regFld s 0x020080 23 0 * 1000) ∧
      (regBit s 0x020080 31 = false ∨ s.sys.wakeHold = true → t.time.ppsHigh = s.time.ppsHigh)) ∧
    (∀ t0, s.time.lastStep = some t0 → s.time.ppsNext * 10 ^ 9 - ppsAdv s ≤ now s → now s < t0 + 10 ^ 6 →
      exec .ppsOutEdge s = .next { s with time := { s.time with ppsNext := s.time.ppsNext + 1 } }) ∧
    (s.time.ppsHigh = true → After .ppsOutFall s fun t => t.time.ppsHigh = false ∧ t.clk = max s.clk s.time.ppsFallAt ∧ t.regs = s.regs)) ∧
  (∀ (s : State) (i : Fin 5) (rising : Bool), Running s →
    let e := regFld s 0x0200C0 (2 * i.val + 1) (2 * i.val)
    let c := s.time.caps[i]
    ((if rising then e = 0 ∨ e = 2 else e = 0 ∨ e = 1) → exec (.captureEdge i rising) s = .next s) ∧
    ((if rising then e = 1 ∨ e = 3 else e = 2 ∨ e = 3) → c.fifo.length < 16 → After (.captureEdge i rising) s fun t =>
      t.time.caps[i].fifo = c.fifo ++ [{ time := BitVec.ofNat 64 (now s), rising := rising, stepped := c.stepped, ovf := c.lost }] ∧
      t.time.caps[i].lost = false ∧ t.time.caps[i].stepped = false ∧ regBit t 0x02002C 5 = true ∧ t = { s with time := { s.time with caps := t.time.caps }, regs := t.regs }) ∧
    ((if rising then e = 1 ∨ e = 3 else e = 2 ∨ e = 3) → 16 ≤ c.fifo.length → After (.captureEdge i rising) s fun t =>
      t.time.caps[i] = { c with lost := true } ∧ regBit t 0x02002C 6 = true)) ∧
  (∀ (s : State) (i : Fin 5) (x : CapEntry) (l : List CapEntry), Running s → regFld s 0x0200C8 2 0 = i → s.time.caps[i].fifo = x :: l →
    After .captureRead s fun t => t.rdata = x.time.truncate 32 ∧ t.time.capHeld = some x ∧ t.time.caps[i].fifo = l ∧ t.regs = s.regs) ∧
  (∀ (s : State) (x : TxTs) (l : List TxTs), Running s → s.time.txts = x :: l →
    exec .txtsRead s = .next { s with time := { s.time with txtsHeld := some x, txts := l }, rdata := x.time.truncate 32 })

/-! ### GNSS baseband (05_gnss_baseband.md) -/

/-- R138, R141, R154, R137, R146, R148: a sample of an enabled bias supply moves its state; SHORT removes the bias and a retry
puts it back after 1 s. A channel's moves between TRACK, COAST and ACQUIRE; every other channel stays. A spectrum acts on a
powered path 1 ms after the last; its lines claim notches of their own path only, at most eight, each on its line. A notch is
released 100 ms after its line fell below NOTCH_THR − 3 dB, and no other notch changes. The noise power of a spectrum gives
the rise above the floor, and since when it has stood at JAM_ON or more, or below JAM_OFF. JAM sets after 1 s of the one and
clears after 10 s of the other; each change raises its interrupt, and no other path changes. Where a clause rests on a choice
of the model, it follows assumption log 17. -/
def Obligations.GnssChannelsNotchesAndBias : Prop :=
  (∀ (s : State) (b : Bool) (ma : Nat), Running s → gnssRuns s = true →
    (antEn s b = false → After (.antBiasSample b ma) s fun t => (antOf t b).state = .off ∧ (antOf t b).biasOn = false ∧ antOf t (!b) = antOf s (!b) ∧ (∀ i, regBit t 0x030090 i = regBit s 0x030090 i)) ∧
    (antEn s b = true → ((antOf s b).state ≠ .short ∨ (antOf s b).biasOn = true) → After (.antBiasSample b ma) s fun t =>
      (120 < ma → (antOf t b).state = .short ∧ (antOf t b).biasOn = false ∧ (antOf t b).tripAt = s.clk ∧ regBit t 0x030090 5 = true) ∧
      (3 ≤ ma → ma ≤ 120 → (antOf t b).state = .ok ∧ (antOf t b).low = 0) ∧
      (ma < 3 → (antOf t b).low = (antOf s b).low + 1 ∧ (antOf t b).biasOn = true ∧
        (9 ≤ (antOf s b).low → (antOf t b).state = .openCct) ∧ ((antOf s b).low < 9 → (antOf s b).state = .ok → (antOf t b).state = .ok)) ∧
      antOf t (!b) = antOf s (!b) ∧ t.time = s.time ∧ t.sys = s.sys) ∧
    (antEn s b = true → (antOf s b).state = .short → (antOf s b).biasOn = false →
      exec (.antBiasSample b ma) s = .next s ∧
      After (.antBiasRetry b) s fun t => (antOf t b).biasOn = true ∧ (antOf t b).state = .short ∧ t.clk = max s.clk ((antOf s b).tripAt + 10 ^ 9) ∧ antOf t (!b) = antOf s (!b))) ∧
  (∀ (s : State) (n : Fin 512) (c : Channel) (i : Instr) (d : Channel), Running s → gnssRuns s = true → kget s.gnss.chans n = some c →
    (i = .lockLost n ∧ c.state = .track ∧ d = { c with state := .coast, coastAt := s.clk } ∨
     i = .codeLockRegained n ∧ c.state = .coast ∧ c.tested = false ∧ s.clk < c.coastAt + 2 * 10 ^ 9 ∧
       d = { c with state := .track, slip := true, lockAt := none, gap := lateLock s } ∨
     i = .codeLockRegained n ∧ c.state = .track ∧ d = { c with gap := c.gap && lateLock s } ∨
     i = .coastTimeout n ∧ c.state = .coast ∧ d = { c with state := .acquire, slip := true, lockAt := none, tested := false } ∨
     i = .acquisition n ∧ c.state = .acquire ∧ d = { c with state := .track, lockAt := none, gap := lateLock s } ∨
     (i = .lockLost n ∧ c.state ≠ .track ∨ i = .acquisition n ∧ c.state ≠ .acquire ∨ i = .coastTimeout n ∧ c.state ≠ .coast ∨
      i = .codeLockRegained n ∧ c.state ≠ .track ∧ (c.state = .coast → c.tested = true ∨ c.coastAt + 2 * 10 ^ 9 ≤ s.clk)) ∧ d = c) →
    After i s fun t =>
      kget t.gnss.chans n = some d ∧ (∀ m, m ≠ n.val → kget t.gnss.chans m = kget s.gnss.chans m) ∧
      t = { s with gnss := { s.gnss with chans := t.gnss.chans }, clk := t.clk, aon := t.aon, time := t.time } ∧
      (i = .coastTimeout n → c.state = .coast → t.clk = max s.clk (c.coastAt + 2 * 10 ^ 9)) ∧ (i ≠ .coastTimeout n → t.clk = s.clk)) ∧
  (∀ (s : State) (p : Fin 6) (l : List SpecLine) (noise : Nat) (gain : Byte), Running s → gnssRuns s = true →
    (pathRuns s p = false → exec (.notchSpectrum p l noise gain) s = .next s) ∧
    (pathRuns s p = true → After (.notchSpectrum p l noise gain) s fun t =>
      t = { s with gnss := { s.gnss with notches := t.gnss.notches, paths := t.gnss.paths }, fresh := t.fresh, clk := t.clk, aon := t.aon, time := t.time } ∧
      t.clk = max s.clk (s.gnss.paths[p].specAt + 10 ^ 6) ∧ (∀ i, i / 8 ≠ p.val → kget t.gnss.notches i = kget s.gnss.notches i) ∧
      (s.gnss.cfg.notchEn.getLsbD p = false → t.gnss.notches = s.gnss.notches))) ∧
  (∀ (s : State) (p : Fin 6) (x : SpecLine) (noise : Nat) (gain : Byte), Running s → gnssRuns s = true → pathRuns s p = true →
    s.gnss.cfg.notchEn.getLsbD p = true → s.gnss.notches = [] →
    After (.notchSpectrum p [x] noise gain) s fun t =>
      (notchThr s ≤ x.height → ∃ k, t.gnss.notches = [(8 * p.val, { freq := x.freq, depth := k })] ∧ k ≤ 100) ∧
      (x.height < notchThr s → t.gnss.notches = [])) ∧
  (∀ (s : State) (i : Fin 48) (n : Notch), Running s → gnssRuns s = true → kget s.gnss.notches i = some n →
    (∀ t0, n.below = some t0 → pathRuns s (i / 8) = true → After (.notchRelease i) s fun t =>
      kget t.gnss.notches i = none ∧ (∀ j, j ≠ i.val → kget t.gnss.notches j = kget s.gnss.notches j) ∧ t.clk = max s.clk (t0 + 10 ^ 8) ∧
      t = { s with gnss := { s.gnss with notches := t.gnss.notches }, clk := t.clk, aon := t.aon, time := t.time }) ∧
    (n.below = none → exec (.notchRelease i) s = .next s)) ∧
  (∀ (s : State) (p : Fin 6), Running s → gnssRuns s = true → pathRuns s p = true →
    (∀ (l : List SpecLine) (noise : Nat) (gain : Byte), After (.notchSpectrum p l noise gain) s fun t =>
      t.gnss.paths[p].jam = s.gnss.paths[p].jam ∧ t.gnss.paths[p].agc = gain.toNat ∧ (∀ q : Fin 6, q ≠ p → t.gnss.paths[q] = s.gnss.paths[q]) ∧
      (s.gnss.paths[p].jam = true → t.gnss.paths[p].floor = s.gnss.paths[p].floor) ∧
      t.gnss.paths[p].above.isSome = decide (jamOn s ≤ t.gnss.paths[p].rise) ∧ t.gnss.paths[p].below.isSome = decide (t.gnss.paths[p].rise < jamOff s)) ∧
    (∀ t0, s.gnss.paths[p].jam = false → s.gnss.paths[p].above = some t0 → After (.jamSet p) s fun t =>
      t.gnss.paths[p].jam = true ∧ regBit t 0x030090 3 = true ∧ t.clk = max s.clk (t0 + 10 ^ 9) ∧ ∀ q : Fin 6, q ≠ p → t.gnss.paths[q] = s.gnss.paths[q]) ∧
    (s.gnss.paths[p].jam = true ∨ s.gnss.paths[p].above = none → exec (.jamSet p) s = .next s) ∧
    (∀ t0, s.gnss.paths[p].jam = true → s.gnss.paths[p].below = some t0 → After (.jamClear p) s fun t =>
      t.gnss.paths[p].jam = false ∧ regBit t 0x030090 4 = true ∧ t.clk = max s.clk (t0 + 10 ^ 10) ∧ ∀ q : Fin 6, q ≠ p → t.gnss.paths[q] = s.gnss.paths[q]) ∧
    (s.gnss.paths[p].jam = false ∨ s.gnss.paths[p].below = none → exec (.jamClear p) s = .next s))

/-- R142, R143, R150, R110, R140, R154, R156, R158, R161: the host's commands: exclusions of at most 32 pairs, the acknowledgement
of a spoof failure, and a cold start in the modes that take it. A measurement epoch is latched with the next sequence number
and then stands in its bank; time that follows GNSS is valid only with POS_FIXED and four satellites; the allocator leaves
channels of enabled signals only and serves no excluded pair anew, and waits for an epoch of its own second. Where a clause
rests on a choice of the model, it follows assumption log 17. -/
def Obligations.GnssCommandsAndEpochs : Prop :=
  (∀ (s : State) (sig sv : Byte), Running s →
    ((sig.toNat, sv.toNat) ∈ s.gnss.excl → exec (.exclAdd sig sv) s = .next s) ∧
    ((sig.toNat, sv.toNat) ∉ s.gnss.excl → s.gnss.excl.length < 32 →
      exec (.exclAdd sig sv) s =
        .next { s with gnss := { s.gnss with excl := s.gnss.excl ++ [(sig.toNat, sv.toNat)], exclFull := false, exclNew := s.gnss.exclNew ++ [((sig.toNat, sv.toNat), s.clk)] } }) ∧
    ((sig.toNat, sv.toNat) ∉ s.gnss.excl → 32 ≤ s.gnss.excl.length →
      After (.exclAdd sig sv) s fun t => t.gnss = { s.gnss with exclFull := true } ∧ regBit t 0x030090 7 = true) ∧
    After (.exclRemove sig sv) s fun t =>
      (∀ x, x ∈ t.gnss.excl ↔ x ∈ s.gnss.excl ∧ x ≠ (sig.toNat, sv.toNat)) ∧ t = { s with gnss := { s.gnss with excl := t.gnss.excl, exclFull := false } }) ∧
  (∀ s : State, Running s →
    exec .exclClear s = .next { s with gnss := { s.gnss with excl := [], exclFull := false } } ∧
    (s.gnss.spoof.state = .fail → After .spoofAck s fun t => t.gnss.spoof = { s.gnss.spoof with ackHeld := true, passN := 0 } ∧ t = { s with gnss := t.gnss }) ∧
    (s.gnss.spoof.state ≠ .fail → exec .spoofAck s = .next s) ∧
    (s.sys.mode = .survey ∨ s.sys.mode = .quenched ∨ s.sys.mode = .maintenance ∨ s.sys.mode = .servitor → After .coldStart s fun t =>
      t.gnss.aiding = none ∧ (∀ n c, kget t.gnss.chans n = some c → c.state = .acquire ∨ c.state = .retired) ∧
      t = { s with gnss := { s.gnss with aiding := none, chans := t.gnss.chans } }) ∧
    (s.sys.mode = .field ∨ s.sys.mode = .holdover ∨ s.sys.mode = .anneal → After .coldStart s fun t => t = { s with regs := t.regs } ∧ regBit t 0x030090 7 = true)) ∧
  (∀ (s : State) (e : EpochMeas), Running s → gnssRuns s = true → s.parison.waiting = [] →
    After (.measurementEpoch e) s fun t =>
      (∃ x, t.gnss.latched = some x ∧ x.seq = s.gnss.seq ∧ ∀ r ∈ x.records, (chanOf s r.chan).state = .track) ∧
      t.gnss.seq = (s.gnss.seq + 1) % 2 ^ 32 ∧ t.sys.mode = s.sys.mode ∧
      (s.gnss.latched = none → t.gnss.banks = s.gnss.banks) ∧
      (∀ y, s.gnss.latched = some y → t.gnss.banks[y.seq % 4]? = some (some y)) ∧
      (posFixed s = false ∨ e.sats < 4 → ∀ a, sourceOf s a = 1 → (dom t a).valid = false)) ∧
  (∀ (s : State) (x : GnssEpoch), Running s → gnssRuns s = true → s.gnss.latched = some x →
    After .epochWindowWritten s fun t =>
      t.gnss.banks[x.seq % 4]? = some (some x) ∧ (∀ k, k ≠ x.seq % 4 → t.gnss.banks[k]? = s.gnss.banks[k]?) ∧ t.gnss.latched = none ∧
      t.gnss.lastSeq = x.seq ∧ t.gnss.lastTime = x.time ∧ regBit t 0x030090 0 = true ∧ t = { s with gnss := t.gnss, regs := t.regs }) ∧
  (∀ (s : State) (sky : Option SkyView), Running s → gnssRuns s = true →
    (s.time.nextEpoch = s.time.nextSec * epochHz s → After (.gnssAllocate sky) s fun t =>
      t.gnss = { s.gnss with allocDue := some sky } ∧ t.regs = s.regs) ∧
    (s.time.nextEpoch ≠ s.time.nextSec * epochHz s → After (.gnssAllocate sky) s fun t =>
      t.gnss.burst = s.gnss.burstNext ∧ t.gnss.allocDue = none ∧
      ∀ p ∈ t.gnss.chans, (p.2.state = .retired ∨ p.2.sig ∈ s.gnss.cfg.signals) ∧ (p ∈ s.gnss.chans ∨ (p.2.sig, p.2.svid) ∉ s.gnss.excl))) ∧
  (∀ s : State, Running s → gnssRuns s = true →
    (s.gnss.burst = true → After .burstWindow s fun t => t.gnss.window = true ∧ t.gnss.windowAt = t.clk ∧
      (∀ p ∈ t.gnss.chans, p.2.gap = true) ∧ t.gnss.seq = s.gnss.seq ∧ t.regs = s.regs) ∧
    (s.gnss.burst = false → exec .burstWindow s = .next s))

/-! ### Reference and central RTK (06_reference_central_rtk.md) -/

/-- R164, R165, R166, R167, R168, R200, R169, R243: the reference commands: one bit at a time, in the modes that take them, a
survey by a unit alone only. CONFIRM with no stored position leaves a result that no rule gives (log 19), so only its frame is
stated. A confirmation ends FIXED at its position when at least 30 of its seconds hold usable epochs and their average lies
within CONFIRM_M, else in CONFIRM_FAIL; a survey ends FIXED at its mean when it has lasted and its precision holds; a position
fixed is stored, and is the origin where none was; an antenna that has moved for 60 s invalidates the domains that follow
GNSS. Where a clause rests on a choice of the model, it follows assumption log 19. -/
def Obligations.ReferencePosition : Prop :=
  (∀ (s : State) (w : Word) (c : Instr), Running s → (c = .surveyStart w ∨ c = .confirm w ∨ c = .enter w ∨ c = .clear w) →
    (manyBits w = true → After c s fun t => t = { s with rtk := { s.rtk with result := .busy }, regs := t.regs }) ∧
    (manyBits w = false → (s.sys.mode = .field ∨ s.sys.mode = .holdover ∨ s.sys.mode = .anneal ∨ s.sys.mode = .reserve ∨ s.sys.mode = .yielded) →
      After c s fun t => t = { s with rtk := { s.rtk with result := .mode }, regs := t.regs })) ∧
  (∀ (s : State) (w : Word), Running s → manyBits w = false →
    ((s.sys.mode = .survey ∨ s.sys.mode = .quenched ∨ s.sys.mode = .maintenance) →
      (s.twin.present = true → After (.surveyStart w) s fun t => t = { s with rtk := { s.rtk with result := .paired }, regs := t.regs }) ∧
      (s.twin.present = false → After (.surveyStart w) s fun t => t.rtk.refState = .surveying ∧ t.rtk.startAt = s.clk ∧ t.rtk.result = .none ∧
        t.rtk.pos = s.rtk.pos ∧ t = { s with rtk := t.rtk, regs := t.regs, strata := t.strata, counts := t.counts }) ∧
      After (.clear w) s fun t => t.rtk.refState = .none ∧ t.rtk.pos = none ∧ t.rtk.stored = none ∧ t.rtk.result = .done ∧ t.grid = s.grid ∧ t.time = s.time) ∧
    ((s.sys.mode = .survey ∨ s.sys.mode = .quenched ∨ s.sys.mode = .maintenance ∨ s.sys.mode = .servitor) →
      (After (.enter w) s fun t => t.rtk.refState = .confirming ∧ t.rtk.testing = some (s.rtk.staged, .entered) ∧ t.rtk.startAt = s.clk ∧
        t.rtk.stored = s.rtk.stored ∧ t = { s with rtk := t.rtk, regs := t.regs, strata := t.strata, counts := t.counts }) ∧
      (∀ p k, s.rtk.stored = some (p, k) → After (.confirm w) s fun t => t.rtk.refState = .confirming ∧ t.rtk.testing = some (p, .stored)) ∧
      (s.rtk.stored = none → After (.confirm w) s fun t =>
        t = { s with rtk := { s.rtk with result := t.rtk.result }, regs := t.regs, fresh := s.fresh + 1 }))) ∧
  (∀ (s : State) (p : Ecef) (src : RefSrc), Running s → refRuns s = true → s.rtk.refState = .confirming → s.rtk.testing = some (p, src) →
    After .confirmationDone s fun t =>
      t.clk = max s.clk (s.rtk.startAt + 60 * 10 ^ 9) ∧ t.sys = s.sys ∧ t.rtk.testing = none ∧
      (s.rtk.seconds.length < 30 → t.rtk.refState = .confirmFail ∧ t.rtk.result = .noSignal ∧ t.rtk.pos = s.rtk.pos ∧ t.grid = s.grid ∧ regBit t 0x040090 1 = true) ∧
      (30 ≤ s.rtk.seconds.length → s.rtk.sum.off2 p ≤ (s.rtk.sum.n * (s.rtk.cfg.confirmM * 1000)) ^ 2 → t.rtk.refState = .fixed ∧ t.rtk.pos = some p ∧
        t.rtk.result = .done ∧ t.rtk.stored.map Prod.fst = some p ∧ t.grid.origin = some (s.grid.origin.getD p) ∧ regBit t 0x040090 0 = true) ∧
      (30 ≤ s.rtk.seconds.length → (s.rtk.sum.n * (s.rtk.cfg.confirmM * 1000)) ^ 2 < s.rtk.sum.off2 p → t.rtk.refState = .confirmFail ∧
        t.rtk.result = .disagree ∧ t.rtk.pos = s.rtk.pos ∧ t.rtk.stored = s.rtk.stored ∧ regBit t 0x040090 1 = true)) ∧
  (∀ (s : State), Running s → refRuns s = true → s.rtk.refState = .surveying →
    (s.rtk.startAt + s.rtk.cfg.survMin * 10 ^ 9 ≤ s.clk → surveyFine (closeBlock s) = true → After .surveyDone s fun t =>
      t.rtk.refState = .fixed ∧ t.rtk.refSrc = .survey ∧ t.rtk.pos = some s.rtk.sum.mean ∧ t.rtk.stored = some (s.rtk.sum.mean, .survey) ∧
      t.grid.origin = some (s.grid.origin.getD s.rtk.sum.mean)) ∧
    (s.clk < s.rtk.startAt + s.rtk.cfg.survMin * 10 ^ 9 ∨ surveyFine (closeBlock s) = false → exec .surveyDone s = .next (closeBlock s)) ∧
    (s.rtk.blocks.length < 2 → surveyFine s = false)) ∧
  (∀ (s : State), Running s → refRuns s = true → s.rtk.refState = .fixed →
    (∀ t0, s.rtk.movedAt = some t0 → After .refMoved s fun t =>
      t.rtk.refState = .moved ∧ t.rtk.pos = s.rtk.pos ∧ t.clk = max s.clk (t0 + 60 * 10 ^ 9) ∧ regBit t 0x040090 3 = true ∧
      (∀ a, sourceOf s a = 1 → (dom t a).valid = false) ∧ t.sys = s.sys) ∧
    (s.rtk.movedAt = none → exec .refMoved s = .next s))

/-- R178, R179, R180, R200: a frame at the ingest is rejected under the first check it fails, with one count and nothing else; one
that passes joins its machine's epoch. A machine epoch left incomplete for COLLECT_MS is discarded; the filter commands wait
for an epoch in process. Where a clause rests on a choice of the model, it follows assumption log 19. -/
def Obligations.MachineObservations : Prop :=
  (∀ (s : State) (x : RtcmIn) (l : List RtcmIn), Running s → s.rtk.ingest = x :: l →
    After .msmMessage s fun t =>
      countOf t (0x040040 + 4 * ingestCode s x) 0 = countOf s (0x040040 + 4 * ingestCode s x) 0 + 1 ∧
      (ingestCode s x ≠ 0 → t = { s with counts := t.counts, rtk := { s.rtk with ingest := l } }) ∧
      (rtcmCrcOk x.frame = false → ingestCode s x = 1) ∧
      (rtcmCrcOk x.frame = true → byteAt x.frame 0 ≠ 0xD3 ∨ msmNumber (rtcmNum x.frame) = false → ingestCode s x = 2) ∧
      (∀ y, rtcmCrcOk x.frame = true → rtcmMsm x.frame = some y → admissionOf s x = none → ingestCode s x = 3) ∧
      (∀ y a, rtcmCrcOk x.frame = true → rtcmMsm x.frame = some y → admissionOf s x = some a →
        (engineRuns s = false ∨ posFixed s = false ∨ (rtkMach s a.mach).suspended = true → ingestCode s x = 4) ∧
        (ingestCode s x = 0 →
          (∃ e ∈ (rtkMach t a.mach).epochs, e.time = msmTime s (rtcmNum x.frame) y ∧ rtcmNum x.frame ∈ e.taken) ∧
          (∀ m, m ≠ a.mach → rtkMach t m = rtkMach s m) ∧
          t = { s with counts := t.counts, rtk := { s.rtk with ingest := l, doneCount := s.rtk.doneCount + 1, machs := t.rtk.machs } }))) ∧
  (∀ (s : State) (m : Fin 128) (e : MachEpoch), Running s → (rtkMach s m).epochs.find? (fun e => e.doneAt.isNone) = some e →
    After (.machineEpochIncomplete m) s fun t =>
      t.clk = max s.clk (e.firstAt + s.rtk.cfg.collectMs * 10 ^ 6) ∧ countOf t 0x040060 0 = countOf s 0x040060 0 + 1 ∧ e ∉ (rtkMach t m).epochs ∧
      (∀ k, k ≠ m.val → rtkMach t k = rtkMach s k)) ∧
  (∀ (s : State) (m : Fin 128), Running s →
    (inProcess (rtkMach s m) = true →
      (After (.resetFilter m) s fun t => rtkMach t m = { rtkMach s m with resetNext := true }) ∧
      After (.suspend m) s fun t => rtkMach t m = { rtkMach s m with suspendNext := true }) ∧
    (inProcess (rtkMach s m) = false →
      (After (.resetFilter m) s fun t => (rtkMach t m).filter = none ∧ (rtkMach t m).ints = [] ∧ (rtkMach t m).epochs = (rtkMach s m).epochs) ∧
      After (.suspend m) s fun t => rtkMach t m = { rtkMach s m with suspended := true }) ∧
    (∀ c, (c = .resetFilter m ∨ c = .suspend m ∨ c = .filterResume m) → After c s fun t =>
      t = { s with rtk := { s.rtk with machs := t.rtk.machs } } ∧ (∀ k, k ≠ m.val → rtkMach t k = rtkMach s k) ∧
      (c = .filterResume m → (rtkMach t m).suspended = false ∧ (rtkMach t m).suspendNext = false)))

/-- R186, R188, R189, R192, R194, R196, R197, R200, R174, R175, R176, R177: the machine epoch that completed first is solved
against the base epoch that serves it, and leaves as a solution with its epoch, its type and its machine's next sequence
number; with no clean base epoch young enough it goes without one. A machine without a solution for STALE_MS gives a marker,
and its filter stays. A completed bundle takes the next count and goes to the enabled routes only; unsigned, with no route, it
goes nowhere. Where a clause rests on a choice of the model, it follows assumption log 19. -/
def Obligations.SolutionsAndBundles : Prop :=
  (∀ (s : State) (m : Nat) (e : MachEpoch), Running s → currentEpoch s = some (m, e) → underTest s .search = false → (rtkMach s m).leaving = false →
    (∀ b age, baseFor s e.time = some (b, age) → solvable s age = true → s.sys.mode = .servitor → After .solutionOut s fun t =>
      (rtkMach t m).lastSolved = some e.time ∧ (rtkMach t m).lastFix = fixType s (fixOf s m e b age) ∧
      (rtkMach t m).seq = ((rtkMach s m).seq + 1) % 2 ^ 32 ∧ e ∉ (rtkMach t m).epochs ∧ t.setpt = s.setpt ∧ t.grid = s.grid ∧
      ((fixOf s m e b age).failed = true → regBit t 0x040090 2 = true) ∧ (∀ k, k ≠ m → rtkMach t k = rtkMach s k)) ∧
    ((baseFor s e.time = none ∨ engineMode s.sys.mode = false ∨ ∃ b age, baseFor s e.time = some (b, age) ∧ solvable s age = false) →
      After .solutionOut s fun t => e ∉ (rtkMach t m).epochs ∧ t = { s with rtk := { s.rtk with machs := t.rtk.machs } })) ∧
  (∀ (s : State) (m : Nat) (e : MachEpoch) (b : BaseEpoch) (age : Nat) (x : RtkFix),
    (solutionOf s m e b age x).epochTime = e.time ∧ (solutionOf s m e b age x).fix = fixType s x ∧ (solutionOf s m e b age x).seq = (rtkMach s m).seq ∧
    (x.nsv < 5 ∨ x.nDd < 4 → fixType s x = 0 ∧ (solutionOf s m e b age x).hpl = 0xFFFF ∧ (solutionOf s m e b age x).vpl = 0xFFFF) ∧
    (5 ≤ x.nsv → 4 ≤ x.nDd → x.nAmb < s.rtk.cfg.minAmb → fixType s x = 1) ∧
    (5 ≤ x.nsv → 4 ≤ x.nDd → s.rtk.cfg.minAmb ≤ x.nAmb → fixType s x = if x.fixed then 3 else 2)) ∧
  (∀ (c : RtkCfg) (axes : Mat) (qh qv : Nat) (b : BaseEpoch) (r : RtkMach) (e : MachEpoch) (a : Nat),
    let x := solveEpoch c axes qh qv b r e a
    (x.fixed = true → c.minAmb ≤ x.nfix ∧ x.count ≠ 0) ∧ (x.fixed = false → x.ints = [] ∧ x.nfix = 0 ∧ x.held = false ∧ x.partial_ = false) ∧
    (x.held = true → c.holdN ≠ 0 ∧ c.holdN ≤ x.count)) ∧
  (∀ (s : State) (m : Fin 128), Running s → s.rtk.cfg.admitted.any (fun a => a.mach == m.val) = true → engineRuns s = true →
    After (.staleMarker m) s fun t =>
      t.clk = max s.clk ((rtkMach s m).markAt + s.rtk.cfg.staleMs * 10 ^ 6) ∧ rtkMach t m = { rtkMach s m with markAt := t.clk } ∧
      (∀ k, k ≠ m.val → rtkMach t k = rtkMach s k) ∧ (s.sys.mode = .servitor → t.setpt = s.setpt ∧ t.grid = s.grid) ∧
      (s.sys.mode ≠ .servitor → (spMach t m).stale = true)) ∧
  (∀ (s : State) (m : Nat), (staleMarker s m).fix = 0 ∧ (staleMarker s m).sflags = 1 ∧ (staleMarker s m).hpl = 0xFFFF ∧ (staleMarker s m).vpl = 0xFFFF) ∧
  (∀ (s : State) (b : Bundle), Running s → s.rtk.bundleDue = some b → regBit s 0x040034 31 = false → regBit s 0x040034 1 = false → regBit s 0x040034 2 = false →
    After .bundleComplete s fun t =>
      t.rtk.bundleDue = none ∧ t.rtk.bundleSeq = (s.rtk.bundleSeq + 1) % 2 ^ 16 ∧ t.rtk.uartWait = s.rtk.uartWait ∧ t.switch = s.switch ∧
      (regBit s 0x040034 0 = false → t.radio = s.radio ∧ t.counts = s.counts) ∧
      (regBit s 0x040034 0 = true → ∀ c, c < 3 →
        ((chain s c).cfg.corr = true → (chain t c).corrSeq = b.seq ∧ (chain t c).corrChunk = 0 ∧ (chain t c).corrLeft = b.messages.flatMap RtcmMsg.frame) ∧
        ((chain s c).cfg.corr = false → chain t c = chain s c)))

/-! ### Lode (07_lode_tables.md) -/

/-- R214, R221, R222, R224, R239, R240, R241: the entry window. A write stands in the writer's copy and in every instance, or
changes no instance; where every instance holds the key or has a free slot for it, it is done. A read copies the entry with
the key; a delete leaves no entry with the key; tables of the grid are denied, and a second GO of one cycle is refused. Where
a clause rests on a choice of the model, it follows assumption log 14. -/
def Obligations.LodeWindow : Prop :=
  ∀ (s : State) (n : Fin 64), Running s →
    (tableDesc s n = none → ∀ c p b, (c = .lodeRead n p b ∨ c = .lodeWrite n b ∨ c = .lodeDelete n p b ∨ c = .readAt n p b) →
      After c s fun t => t = { s with lode := { s.lode with accResult := .badTable }, regs := t.regs } ∧ regBit t 0x050050 5 = true) ∧
    (∀ d, tableDesc s n = some d → let k := keyOfImage d s.lode.buffer
      (∀ c p, (c = .lodeRead n p true ∨ c = .lodeWrite n true ∨ c = .lodeDelete n p true ∨ c = .readAt n p true) →
        exec c s = .next { s with lode := { s.lode with accResult := .busy } }) ∧
      (gridTable d = true → After (.lodeWrite n false) s fun t => t = { s with lode := { s.lode with accResult := .denied }, regs := t.regs }) ∧
      (gridTable d = false → After (.lodeWrite n false) s fun t =>
        t.lode.buffer = s.lode.buffer ∧ t.lode.tables = s.lode.tables ∧ t.sys = s.sys ∧ t.grid = s.grid ∧
        (t.lode.accResult = .done ∧ (d.id, writtenOf d s.lode.buffer) ∈ t.lode.copy ∨
          t.lode.accResult = .tableFull ∧ t.lode.copy = s.lode.copy ∧ t.lode.insts = s.lode.insts ∧ regBit t 0x050050 2 = true)) ∧
      (gridTable d = false → (∀ i ∈ instsOf s d.id, stopped s i.pipe = false) →
        (∀ i ∈ instsOf s d.id, (findKey i k).isSome = true ∨ (freeSlot d i (candidates d i k)).isSome = true) →
        After (.lodeWrite n false) s fun t => t.lode.accResult = .done ∧ (d.id, writtenOf d s.lode.buffer) ∈ t.lode.copy ∧
          ∀ i ∈ t.lode.insts, i.table = d.id → ∃ x ∈ i.entries ++ i.lost, x.2.key = k ∧ x.2.written = true) ∧
      (∀ p i, inst s n p = some i →
        (∀ x, findKey i k = some x →
          (After (.lodeRead n p false) s fun t =>
            t = { s with lode := { s.lode with buffer := entryBytes d (flapSettled s x.2) ++ (padTo 64 s.lode.buffer).drop d.entryBytes,
                                               accResult := .done }, regs := t.regs }) ∧
          (gridTable d = false → x.2.written = true → After (.lodeDelete n p false) s fun t => t.lode.accResult = .done ∧ t.lode.buffer = s.lode.buffer ∧
            (∀ j ∈ t.lode.insts, j.table = d.id → stopped s j.pipe = false → findKey j k = none) ∧ ∀ y ∈ t.lode.copy, y.1 = d.id → y.2.key ≠ k) ∧
          (gridTable d = false → (∀ j ∈ instsOf s d.id, ∀ y, findKey j k = some y → y.2.written = false) →
            After (.lodeDelete n p false) s fun t => t.lode.accResult = .done ∧ t.lode.buffer = s.lode.buffer ∧ t.lode.copy = s.lode.copy ∧
              ∀ j ∈ t.lode.insts, j.table = d.id → j.pipe = i.pipe → findKey j k = none)) ∧
        (findKey i k = none →
          (After (.lodeRead n p false) s fun t => t = { s with lode := { s.lode with accResult := .notFound }, regs := t.regs }) ∧
          (gridTable d = false → (∀ j ∈ instsOf s d.id, ∀ y, findKey j k = some y → y.2.written = false) →
            After (.lodeDelete n p false) s fun t => t = { s with lode := { s.lode with accResult := .notFound }, regs := t.regs })) ∧
        (gridTable d = true → After (.lodeDelete n p false) s fun t => t = { s with lode := { s.lode with accResult := .denied }, regs := t.regs }) ∧
        (∀ (j : Nat) (e : LodeEntry), i.banks.findIdx? (· == regFld s 0x050034 21 16) = some j →
          i.entries.find? (fun x => x.1 == (regFld s 0x050034 15 3 * i.banks.length + j, regFld s 0x050034 2 0)) = some ((regFld s 0x050034 15 3 * i.banks.length + j, regFld s 0x050034 2 0), e) →
          After (.readAt n p false) s fun t =>
            t = { s with lode := { s.lode with buffer := entryBytes d (flapSettled s e) ++ (padTo 64 s.lode.buffer).drop d.entryBytes,
                                               accResult := .done }, regs := t.regs })))

/-- R208, R231, R232, R233, R225, R226, R229, R235, R238: an instance applies its oldest learn request: a written entry stays, the
same source is a hit, a flapping entry ignores a move, and a new key is learned or the table is full. A stopped pipeline
applies none. A visit of a pipeline's sweepers leaves other buckets alone, ages the entries of its own, and never removes a
written entry with AGE clear that is not expired, nor an unexpired one that a hit of the same cycle reaches. Flapping ends
when MOVE_MS is past; a restore that is not due changes nothing, one that is raises its interrupt; a bucket error that a
re-read corrects leaves every table alone and counts the re-reads. Where a clause rests on a choice of the model, it follows
assumption log 14. -/
def Obligations.LodeLearningAndUpkeep : Prop :=
  (∀ (s : State) (n : Fin 64) (p : Bool) (i : Inst) (d : TableDesc) (r : LearnReq) (l : List LearnReq), Running s →
    inst s n p = some i → tableDesc s n = some d → i.learnQ = r :: l → s.grid.occWait = [] →
    (pipeRuns s p = false → After (.learnApply n p) s fun t => t.lode = s.lode ∧ t.counts = s.counts) ∧
    (pipeRuns s p = true → After (.learnApply n p) s fun t => let u := { i.flaps s with learnQ := l }
      t.lode.copy = s.lode.copy ∧ t.lode.tables = s.lode.tables ∧ t.time = s.time ∧ t.sys = s.sys ∧
      (∀ q, (q ≠ p) → inst t n q = inst s n q) ∧
      (∀ pos e, findKey u r.key = some (pos, e) →
        (e.written = true → inst t n p = some u ∧ t.counts = s.counts) ∧
        (e.written = false → e.source = r.source → (∀ a b, r.result ≠ .occ a b) → inst t n p = some (u.put pos { e with hit := true })) ∧
        (e.written = false → e.source ≠ r.source → e.flapping = true →
          inst t n p = some u ∧ countOf t 0x050044 (5 + 0x100 * b2n i.pipe) = countOf s 0x050044 (5 + 0x100 * b2n i.pipe) + 1)) ∧
      (findKey u r.key = none → learnedBy u r.source < learnLimit s d →
        countOf t 0x050044 (2 + 0x100 * b2n i.pipe) = countOf s 0x050044 (2 + 0x100 * b2n i.pipe) + 1 ∨
        inst t n p = some u ∧ countOf t 0x050044 (12 + 0x100 * b2n i.pipe) = countOf s 0x050044 (12 + 0x100 * b2n i.pipe) + 1 ∧
          regBit t 0x050050 2 = true))) ∧
  (∀ (s : State) (p : Bool) (hits : List (Fin 8)), Running s →
    (nextSweeper s p = none ∨ pipeRuns s p = false → After (.sweepVisit p hits) s fun t => t.lode = s.lode ∧ t.time = s.time) ∧
    (∀ d i, nextSweeper s p = some (d, i) → pipeRuns s p = true → After (.sweepVisit p hits) s fun t =>
      let struck (x : (Nat × Nat) × LodeEntry) : Bool := hits.any (fun h => h.val == x.1.2)
      ∃ j, inst t d.id p = some j ∧ j.banks = i.banks ∧ j.learnQ = i.learnQ ∧
        (i.sweepAt + 1 ≠ bucketsOf i → j.sweepAt = i.sweepAt + 1 ∧ j.sweepStart = i.sweepStart) ∧
        (i.sweepAt + 1 = bucketsOf i → j.sweepAt = 0 ∧ j.sweepStart = i.sweepStart + d.sweep * 10 ^ 7) ∧
        (∀ x, x.1.1 ≠ i.sweepAt → (x ∈ j.entries ↔ x ∈ i.entries)) ∧
        (∀ x ∈ i.entries, x.1.1 = i.sweepAt → expired (now t) x.2 = false → struck x = true → (x.2.written = false ∨ x.2.age = true) →
          ∃ e, (x.1, e) ∈ j.entries ∧ e.hit = true ∧ e.key = x.2.key) ∧
        (∀ x ∈ i.entries, x.1.1 = i.sweepAt → expired (now t) x.2 = false → x.2.written = true → x.2.age = false → x ∈ j.entries) ∧
        (∀ x ∈ i.entries, x.1.1 = i.sweepAt → expired (now t) x.2 = false → struck x = false →
          ((x.2.written = false ∨ x.2.age = true) → x.2.hit = true → (x.1, { x.2 with hit := false, seenClear := false }) ∈ j.entries) ∧
          ((x.2.written = false ∨ x.2.age = true) → x.2.hit = false → x.2.seenClear = false → (x.1, { x.2 with seenClear := true }) ∈ j.entries) ∧
          ((x.2.written = false ∨ x.2.age = true) → x.2.hit = false → x.2.seenClear = true → (i.entries.map Prod.fst).Nodup → x ∉ j.entries)) ∧
        (∀ x ∈ i.entries, x.1.1 = i.sweepAt → expired (now t) x.2 = true → (i.entries.map Prod.fst).Nodup → x ∉ j.entries))) ∧
  (∀ (s : State) (n : Fin 64) (p : Bool) (i : Inst), Running s → inst s n p = some i →
    After (.flapExpire n p) s fun t => ∃ j, inst t n p = some j ∧ j.entries.map (fun x => (x.1, x.2.key, x.2.source)) = i.entries.map (fun x => (x.1, x.2.key, x.2.source)) ∧
      (∀ x ∈ j.entries, x.2.flapping = true → msPast t x.2.moveMs = false) ∧ t.regs = s.regs ∧ t.counts = s.counts ∧ s.clk ≤ t.clk) ∧
  (∀ (s : State) (n : Fin 64), Running s →
    (s.lode.restoring.contains n.val = false → exec (.restoreDone n) s = .next s) ∧
    (s.lode.restoring.contains n.val = true → After (.restoreDone n) s fun t =>
      t.lode.restoring = s.lode.restoring.filter (· != n.val) ∧ t.lode.copy = s.lode.copy ∧ regBit t 0x050050 4 = true ∧ t.sys = s.sys)) ∧
  (∀ (s : State) (b : Fin 66) (good : Fin 3), Running s → good ≠ 0 → let ev := 14 + 0x100 * b2n (pipeOfBank s b)
    After (.lodeBucketCrcError b good) s fun t => t.lode = s.lode ∧ t.sys.mode = s.sys.mode ∧ countOf t 0x050044 ev = countOf s 0x050044 ev + good)

/-! ### Field grid (08_field_grid.md) -/

/-- R260, R275, R276, R243, R244, R248, R249, R250, R251, R272: the register path of the grid: a command joins the intake, a
second one is BUSY, and the modes without supervision refuse every command with MODE. Tracks, zones, the origin and RESUME:
each command's refusals change nothing it governs, and its success does what it says. Where a clause rests on a choice of the
model, it follows assumption log 15. -/
def Obligations.GridCommands : Prop :=
  (∀ (s : State) (who : Master) (body rec : Bytes) (c : CmdSrc → Instr), Running s →
    (c = (fun q => .trackLoad q rec) ∨ c = .trackDrop ∨ c = .allot ∨ c = .release ∨ c = .releaseMach ∨ c = .zoneAdd ∨ c = .zoneDel ∨ c = .resume ∨
      c = .originSet ∨ c = .originClear) →
    (underTest s .allocator = true → s.grid.cmdBusy = true ∨ 8 ≤ s.grid.intake.length →
      After (c (.regs who body)) s fun t => t.grid = { s.grid with cmdResult := .busy, cmdBlocker := 0xFF } ∧ t.lode = s.lode ∧ regBit t 0x060060 1 = true) ∧
    (underTest s .allocator = true → s.grid.cmdBusy = false → s.grid.intake.length < 8 →
      After (c (.regs who body)) s fun t => t.grid.cmdBusy = true ∧ t.grid.allots = s.grid.allots ∧ t.grid.intake.length = s.grid.intake.length + 1 ∧
        (∃ x ∈ t.grid.intake, x.master = who ∧ x.queue = none ∧ x.at_ = s.clk) ∧ t = { s with grid := t.grid }) ∧
    ((s.sys.mode = .servitor ∨ s.sys.mode = .reserve ∨ s.sys.mode = .yielded) → GridIdle s → s.parison.waiting = [] →
      After (c (.regs who body)) s fun t =>
        t.grid.cmdResult = .mode ∧ t.grid.cmdBusy = false ∧ t.grid.intake = [] ∧ t.grid.tracks = s.grid.tracks ∧ t.grid.zones = s.grid.zones ∧
        t.grid.origin = s.grid.origin ∧ t.lode = s.lode ∧ regBit t 0x060060 1 = true)) ∧
  (∀ (s : State) (who : Master) (body rec : Bytes), GridFree s → body.length = 48 →
    (leAt body 2 2 ≤ 4095 → After (.trackLoad (.regs who body) rec) s fun t => t.lode = s.lode ∧ t.grid.allots = s.grid.allots ∧ t.grid.cmdBusy = false ∧
      (trackUsed s (leAt body 2 2) = true → t.grid.cmdResult = .inUse ∧ t.grid.tracks = s.grid.tracks) ∧
      (∀ r, trackUsed s (leAt body 2 2) = false → trackFault rec = some r → t.grid.cmdResult = r ∧ t.grid.tracks = s.grid.tracks) ∧
      (trackUsed s (leAt body 2 2) = false → trackFault rec = none → t.grid.cmdResult = .done ∧ regBit t 0x060060 0 = true ∧
        kget t.grid.tracks (leAt body 2 2) = some (vertexList rec (leAt rec 0 2)) ∧ ∀ k, k ≠ leAt body 2 2 → kget t.grid.tracks k = kget s.grid.tracks k)) ∧
    (After (.trackDrop (.regs who body)) s fun t => t.lode = s.lode ∧ t.grid.allots = s.grid.allots ∧
      (kget s.grid.tracks (leAt body 2 2) = none → t.grid.cmdResult = .notFound ∧ t.grid.tracks = s.grid.tracks) ∧
      ((kget s.grid.tracks (leAt body 2 2)).isSome = true → trackUsed s (leAt body 2 2) = true → t.grid.cmdResult = .inUse ∧ t.grid.tracks = s.grid.tracks) ∧
      ((kget s.grid.tracks (leAt body 2 2)).isSome = true → trackUsed s (leAt body 2 2) = false → t.grid.cmdResult = .done ∧ kget t.grid.tracks (leAt body 2 2) = none)) ∧
    (∀ z : Zone, z = { level := byteAt body 4, cls := byteAt body 5, id := leAt body 2 2, prefix_ := BitVec.ofNat 32 (leAt body 0x0C 4), attr := BitVec.ofNat 32 (leAt body 0x20 4) } →
      After (.zoneAdd (.regs who body)) s fun t =>
        (∀ r, zoneFault s z = some r → t.grid.cmdResult = r ∧ t.grid.zones = s.grid.zones ∧ t.lode = s.lode) ∧
        (zoneFault s z = none → zoneInUse s z.level z.prefix_.toNat = true → t.grid.cmdResult = .zoneInUse ∧ t.grid.zones = s.grid.zones ∧ t.lode = s.lode) ∧
        (zoneFault s z = none → zoneInUse s z.level z.prefix_.toNat = false →
          t.grid.cmdResult = .done ∧ t.grid.zones = s.grid.zones ++ [z] ∨ t.grid.cmdResult = .tableFull ∧ t.grid.zones = s.grid.zones)) ∧
    (∀ (z : Zone) (d : TableDesc), zoneTable s = some d → s.grid.zones.find? (fun z => z.id == leAt body 2 2) = some z → After (.zoneDel (.regs who body)) s fun t =>
      (zoneInUse s z.level z.prefix_.toNat = true → t.grid.cmdResult = .zoneInUse ∧ t.grid.zones = s.grid.zones ∧ t.lode = s.lode) ∧
      (zoneInUse s z.level z.prefix_.toNat = false → t.grid.cmdResult = .done ∧ ∀ x, x ∈ t.grid.zones ↔ x ∈ s.grid.zones ∧ x.id ≠ leAt body 2 2)) ∧
    (∀ (c : CmdSrc → Instr) (o : Option Ecef), (c = .originSet ∧ o = some s.grid.staged ∨ c = .originClear ∧ o = none) → After (c (.regs who body)) s fun t =>
      (originMode s = false → t.grid.cmdResult = .mode ∧ t.grid.origin = s.grid.origin) ∧
      (originMode s = true → liveAllots s ≠ [] → t.grid.cmdResult = .inUse ∧ t.grid.origin = s.grid.origin ∧ t.lode = s.lode) ∧
      (originMode s = true → liveAllots s = [] → t.grid.cmdResult = .done ∧ t.grid.origin = o ∧ t.grid.allots = s.grid.allots ∧
        ∀ i ∈ t.lode.insts, (tableDesc s i.table).map TableDesc.content = some .occ → i.entries = [])) ∧
    (byteAt body 1 ≤ 127 → After (.resume (.regs who body)) s fun t => t.lode = s.lode ∧ t.grid.allots = s.grid.allots ∧
      (machAllots s (byteAt body 1) ≠ [] → (marginFails s (byteAt body 1) = true ∨ positionFails s (byteAt body 1) = true) →
        t.grid.cmdResult = .notClear ∧ t.grid.machs = s.grid.machs) ∧
      (machAllots s (byteAt body 1) = [] → t.grid.cmdResult = .done ∧ (gridMach t (byteAt body 1)).annealMargin = false ∧ (gridMach t (byteAt body 1)).annealOutside = false)))

/-- R252, R253, R254, R255, R256, R257, R262: ALLOT is refused before the sweep by the first thing that stands against it; when it
is done, the new record holds what was asked with a margin no less than the machine's HPL, and none of its cells failed a
check of R256 in either pipeline. Where a clause rests on a choice of the model, it follows assumption log 15 or 16. -/
def Obligations.AllotGrantsCheckedCellsOnly : Prop :=
  ∀ (s : State) (who : Master) (body : Bytes) (c : GridCmd), GridFree s → s.parison.waiting = [] → body.length = 48 → byteAt body 0 = 3 →
    c = { master := who, body := body, queue := none, at_ := s.clk } → (∀ a ∈ s.grid.allots, liveAllot s a = true) →
    (∀ x ∈ s.grid.tasks, ∃ a ∈ s.grid.allots, a.task = x.1) →
    After (.allot (.regs who body)) s fun t => t.grid.intake = [] ∧ t.grid.cmdBusy = false ∧ t.grid.report.result = t.grid.cmdResult ∧
      (s.sys.mode ≠ .field → s.sys.mode ≠ .holdover → t.grid.cmdResult = .mode ∧ t.grid.allots = s.grid.allots ∧ t.lode = s.lode) ∧
      (∀ r, allotMode s = true → allotFault s c = some r → t.grid.cmdResult = r ∧ t.grid.allots = s.grid.allots ∧ t.lode = s.lode) ∧
      (t.grid.cmdResult = .done → ∃ a, t.grid.allots = s.grid.allots ++ [a] ∧ a.mach = byteAt body 1 ∧ a.op = byteAt body 5 ∧
        a.start.toNat = leAt body 0x10 8 ∧ a.end_.toNat = leAt body 0x18 8 ∧ (gridMach s a.mach).hpl ≤ a.margin ∧ leAt body 0x0A 2 ≤ a.margin ∧
        a.cells.length ≤ 6144 ∧ t.grid.report.allotId = a.id ∧
        ∀ x ∈ a.cells, cellFails s { mach := a.mach, op := a.op, partner := byteAt body 6, start := a.start.toNat, stop := a.end_.toNat } x = none) ∧
      (t.grid.cmdResult ≠ .done → t.grid.allots = s.grid.allots)

/-- R262, R263, R264, R265, R266, R270, R256, R273, R274, R299: allotments end by command, by their END and with a machine that
stops reporting, which is quenched if it does not stand; intervals of reporting machines are refreshed, and those of lapsed
machines cleared in the entries that are; the interval after a start of the grid ends. An EXTEND request continues the track
of its machine's last allotment and moves its END once its cells pass the checks; one that is refused makes the engine quench
its machine. Where a clause rests on a choice of the model, it follows assumption log 15. -/
def Obligations.AllotmentsEnd : Prop :=
  (∀ (s : State) (who : Master) (body : Bytes), GridFree s → body.length = 48 →
    (After (.release (.regs who body)) s fun t =>
      ((∀ a ∈ liveAllots s, a.id.toNat ≠ leAt body 2 2) → t.grid.cmdResult = .notFound ∧ t.grid.allots = s.grid.allots ∧ t.lode = s.lode) ∧
      ((∃ a ∈ liveAllots s, a.id.toNat = leAt body 2 2) → t.grid.cmdResult = .done ∧ ∀ a, a ∈ t.grid.allots ↔ a ∈ s.grid.allots ∧ a.id.toNat ≠ leAt body 2 2)) ∧
    (byteAt body 1 ≤ 127 → After (.releaseMach (.regs who body)) s fun t =>
      t.grid.cmdResult = .done ∧ ∀ a, a ∈ t.grid.allots ↔ a ∈ s.grid.allots ∧ a.mach ≠ byteAt body 1)) ∧
  (∀ (s : State) (m : Fin 128), Running s → gridRuns s = true → machAllots s m ≠ [] →
    After (.lapse m) s fun t =>
      (∀ a, a ∈ t.grid.allots ↔ a ∈ s.grid.allots ∧ a.mach ≠ m.val) ∧ (gridMach t m).lapsed = true ∧ regBit t 0x060060 3 = true ∧ t.lode = s.lode ∧
      (∀ g, (gridMach s m).goodAt = some g → t.clk = max s.clk (g + s.grid.cfg.lapseMs * 10 ^ 6)) ∧
      ((spMach s m).still = true → t.quench = s.quench) ∧
      ((spMach s m).still = false → t.quench.machq = s.quench.machq ||| BitVec.ofNat 128 (2 ^ m.val) ∧ regBit t 0x060060 6 = true)) ∧
  (∀ (s : State) (d : TableDesc), Running s → gridRuns s = true → resvTable s = some d →
    After .resvRefresh s fun t => t.grid = s.grid ∧
      (∀ i ∈ t.lode.insts, i.table = d.id → ∀ x ∈ i.entries, (resvOf x.2).any (ivWith s (reporting s)) = true →
        (x.2.age = true → x.2.hit = true) ∧ ∀ v, some v ∈ resvOf x.2 → (gridMach s v.mach).lapsed = false) ∧
      t = { s with lode := { s.lode with insts := t.lode.insts, copy := t.lode.copy }, counts := t.counts, fr := t.fr }) ∧
  (∀ (s : State) (a : Allot), Running s → s.grid.allots.find? (fun x => x.id == a.id) = some a → a.end_.toNat ≤ now s →
    After (.allotmentEnd a.id) s fun t => a ∉ t.grid.allots ∧ (∀ x ∈ s.grid.allots, x.id ≠ a.id → x ∈ t.grid.allots) ∧ (∀ x ∈ t.grid.allots, x ∈ s.grid.allots) ∧
      t.lode = s.lode ∧ t.regs = s.regs) ∧
  (∀ s : State, Running s →
    (s.grid.occCold = true → After .occColdEnd s fun t => t.grid = { s.grid with occCold := false } ∧ t.clk = max s.clk (s.grid.occStart + 10 ^ 9)) ∧
    (s.grid.occCold = false → exec .occColdEnd s = .next s)) ∧
  (∀ (s : State) (x : ExtReq) (l : List ExtReq) (u : State), Running s → gridRuns s = true → underTest s .allocator = false → s.grid.intake = [] →
    s.setpt.extends_ = x :: l → x.lost = false → u = { s with setpt := { s.setpt with extends_ := l } } →
    (∀ a ∈ s.grid.allots, liveAllot s a = true) → (∀ y ∈ s.grid.tasks, ∃ a ∈ s.grid.allots, a.task = y.1) →
    (After .extend s fun t => t.setpt.extends_ = l ∧ t.sys = s.sys ∧
      (t.grid.report.result ≠ .done → regBit t 0x060060 5 = true ∧ regBit t 0x070060 4 = true ∧ t.grid.allots = s.grid.allots ∧
        t.quench.machq = s.quench.machq ||| BitVec.ofNat 128 (2 ^ x.mach))) ∧
    (∀ (a : Allot) (stop : Nat) (cells : List (Int × Int)) (v : ResvInterval), (reservedChain s x.mach).getLast? = some a →
      stop = max a.end_.toNat (now s + 30 * 10 ^ 9) → pastAge s stop = false →
      cells = sweptCells s.grid.cfg.resvLevel (sweepExt (footprint s a.mach) a.margin a.track a.ext (x.dist * 1000)) →
      sweepFault s false { mach := a.mach, op := a.op, partner := 0xFF, start := now s, stop := stop } s.grid.cfg.resvLevel cells = none →
      v = intervalFor a.mach a.id.toNat (now s) stop → (commitCells v (cells.map (toCell s.grid.cfg.resvLevel)) u).isSome = true →
      After .extend s fun t => t.grid.report.result = .done ∧ t.quench = s.quench ∧
        ∃ y ∈ t.grid.allots, y.id = a.id ∧ y.ext = a.ext + x.dist * 1000 ∧ y.end_ = BitVec.ofNat 64 stop))

/-! ### Set-point engine (09_setpoint_engine.md) -/

/-- R293, R294, R295, R300, R301, R24, R297, R288, R292, R296: pairs, ratio schedules and limits: a command is refused for the
first thing that stands against it and then changes no machine; when it is done, the machine named holds exactly what it
asked. ANNEAL_MACH sets the host's cause and breaks the machine's pair; RESUME_MACH clears the causes it may clear; a stop of
the same tick beats a move; the modes without commands refuse with MODE. A later report of a pair's master is kept and
restarts its followers' time, any other is counted as discarded; a pair without reports for ODO_STALE_MS breaks; a refresh
reads every machine's candidates from the table. Where a clause rests on a choice of the model, it follows assumption log 20. -/
def Obligations.SetpointCommands : Prop :=
  (∀ (s : State) (who : Master) (body : Bytes) (f m : Nat) (x : SpMach), SetptFree s → body.length = 32 → f = byteAt body 1 → f < 128 →
    m = byteAt body 2 → x = spMach s f →
    (After (.engage (.regs who body)) s fun t => t.grid = s.grid ∧ t.lode = s.lode ∧ t.setpt.cmdBusy = false ∧
      (s.sys.mode = .anneal → t.setpt.cmdResult = .mode ∧ t.setpt.machs = s.setpt.machs) ∧
      (s.sys.mode ≠ .anneal → (128 ≤ m ∨ leAt body 4 4 = 0 ∨ 0x40000 < leAt body 4 4) → t.setpt.cmdResult = .badParam ∧ t.setpt.machs = s.setpt.machs) ∧
      (s.sys.mode ≠ .anneal → m < 128 → 1 ≤ leAt body 4 4 → leAt body 4 4 ≤ 0x40000 → (reservedChain s f = [] ∨ reservedChain s m = []) →
        t.setpt.cmdResult = .noChain ∧ t.setpt.machs = s.setpt.machs) ∧
      (s.sys.mode ≠ .anneal → m < 128 → 1 ≤ leAt body 4 4 → leAt body 4 4 ≤ 0x40000 → reservedChain s f ≠ [] → reservedChain s m ≠ [] →
        (m = f → t.setpt.cmdResult = .loop ∧ t.setpt.machs = s.setpt.machs) ∧
        (m ≠ f → aboveOf s f 8 m = false → depthOf s 8 m + 1 + heightOf s 8 f ≤ 4 → t.setpt.cmdResult = .done ∧
          (spMach t f).gear = some { master := m, ratio0 := BitVec.ofNat 32 (leAt body 4 4), since := s.clk } ∧ ∀ k, k ≠ f → spMach t k = spMach s k))) ∧
    (After (.disengage (.regs who body)) s fun t => t.grid = s.grid ∧
      (x.gear = none → t.setpt.cmdResult = .notGeared ∧ t.setpt.machs = s.setpt.machs) ∧
      (x.gear.isSome = true → t.setpt.cmdResult = .done ∧ spMach t f = { x with gear := none } ∧ ∀ k, k ≠ f → spMach t k = spMach s k)) ∧
    (x.gear = none → ∀ c : CmdSrc → Instr, (c = .sched ∨ c = .schedClear) → After (c (.regs who body)) s fun t =>
      t.setpt.cmdResult = .notGeared ∧ t.setpt.machs = s.setpt.machs) ∧
    (∀ g e, x.gear = some g → e = { pos := BitVec.ofNat 32 (leAt body 8 4), ratio := BitVec.ofNat 32 (leAt body 4 4), blend := leAt body 12 4 } →
      (After (.sched (.regs who body)) s fun t =>
        (schedOk g (byteAt body 3) e = false → t.setpt.cmdResult = .badParam ∧ t.setpt.machs = s.setpt.machs) ∧
        (schedOk g (byteAt body 3) e = true → passed s g e.pos = true → t.setpt.cmdResult = .passed ∧ t.setpt.machs = s.setpt.machs) ∧
        (schedOk g (byteAt body 3) e = true → passed s g e.pos = false → t.setpt.cmdResult = .done ∧
          ∃ g', (spMach t f).gear = some g' ∧ g'.sched[byteAt body 3]? = some e ∧ g'.master = g.master ∧ g'.ratio0 = g.ratio0 ∧ g'.sched.length ≤ max 8 g.sched.length)) ∧
      (After (.schedClear (.regs who body)) s fun t => t.setpt.cmdResult = .done ∧ spMach t f = { x with gear := some { g with sched := [] } })) ∧
    (∀ k, spClassOf s f = some k → After (.limits (.regs who body)) s fun t => t.grid = s.grid ∧
      ((k.vFwd < leAt body 0x10 2 ∨ k.dNorm < leAt body 0x12 2 ∨ k.dAnneal < leAt body 0x14 2) → t.setpt.cmdResult = .badParam ∧ t.setpt.machs = s.setpt.machs) ∧
      (leAt body 0x10 2 ≤ k.vFwd → leAt body 0x12 2 ≤ k.dNorm → leAt body 0x14 2 ≤ k.dAnneal → 0 < leAt body 0x12 2 → leAt body 0x12 2 ≤ leAt body 0x14 2 →
        t.setpt.cmdResult = .done ∧ spMach t f = { x with vMax := leAt body 0x10 2, dNorm := leAt body 0x12 2, dAnneal := leAt body 0x14 2 } ∧
        ∀ k, k ≠ f → spMach t k = spMach s k))) ∧
  (∀ (s : State) (who : Master) (body : Bytes) (f : Nat), SetptFree s → body.length = 32 → f = byteAt body 1 → f < 128 →
    (After (.annealMach (.regs who body)) s fun t => t.setpt.cmdResult = .done ∧ (spMach t f).causes = { (spMach s f).causes with host := true } ∧
      (spMach t f).gear = none ∧ t.sys = s.sys ∧ t.quench = s.quench ∧ ∀ k, k ≠ f → spMach t k = spMach s k) ∧
    (After (.resumeMach (.regs who body)) s fun t => t.setpt.cmdResult = .done ∧
      (spMach t f).causes = { (spMach s f).causes with host := false, gearLost := false, overrun := false } ∧ t.sys = s.sys ∧ ∀ k, k ≠ f → spMach t k = spMach s k)) ∧
  (∀ (s : State) (who : Master) (body : Bytes) (o : SpCmd) (c : CmdSrc → Instr), Running s → setptTakes s = true → underTest s .setpt = false →
    s.setpt.intake = [] → s.setpt.cmdBusy = false → o ∈ s.setpt.orders → body.length = 32 → byteAt o.body 0 = 6 → byteAt o.body 1 = byteAt body 1 →
    (c = .engage ∨ c = .disengage ∨ c = .sched ∨ c = .schedClear ∨ c = .limits ∨ c = .resumeMach) →
    After (c (.regs who body)) s fun t => t.setpt.cmdResult = .conflictLost ∧ t.setpt.machs = s.setpt.machs ∧ t.setpt.orders = s.setpt.orders) ∧
  (∀ (s : State) (who : Master) (body : Bytes) (c : CmdSrc → Instr), Running s → (s.sys.mode = .servitor ∨ s.sys.mode = .reserve ∨ s.sys.mode = .yielded) →
    underTest s .setpt = false → s.setpt.intake = [] → s.setpt.cmdBusy = false →
    (c = .engage ∨ c = .disengage ∨ c = .sched ∨ c = .schedClear ∨ c = .limits ∨ c = .annealMach ∨ c = .resumeMach) →
    After (c (.regs who body)) s fun t => t.setpt.cmdResult = .mode ∧ t.setpt.machs = s.setpt.machs ∧ t.sys = s.sys) ∧
  (∀ (s : State) (rec : Bytes) (eui : Option (BitVec 64)), Running s → setptTakes s = true → rec.length = 20 →
    (isMaster s (byteAt rec 0) = false → After (.odometerReport rec eui) s fun t => t = { s with counts := t.counts } ∧ countOf t 0x070054 6 = countOf s 0x070054 6 + 1) ∧
    (∀ o, isMaster s (byteAt rec 0) = true → kget s.setpt.odos (byteAt rec 0) = some o →
      ((leAt rec 2 2 + 2 ^ 16 - o.seq.toNat) % 2 ^ 16 = 0 ∨ 32767 < (leAt rec 2 2 + 2 ^ 16 - o.seq.toNat) % 2 ^ 16 →
        After (.odometerReport rec eui) s fun t => t = { s with counts := t.counts } ∧ countOf t 0x070054 6 = countOf s 0x070054 6 + 1) ∧
      (eui = none → 1 ≤ (leAt rec 2 2 + 2 ^ 16 - o.seq.toNat) % 2 ^ 16 → (leAt rec 2 2 + 2 ^ 16 - o.seq.toNat) % 2 ^ 16 ≤ 32767 →
        After (.odometerReport rec eui) s fun t =>
          kget t.setpt.odos (byteAt rec 0) = some ⟨BitVec.ofNat 16 (leAt rec 2 2), BitVec.ofNat 32 (leAt rec 4 4), signedOf 16 (leAt rec 8 2), BitVec.ofNat 64 (leAt rec 12 8), s.clk⟩ ∧
          (∀ k g, (spMach s k).gear = some g → g.master = byteAt rec 0 → (spMach t k).gear = some { g with since := s.clk }) ∧
          t = { s with setpt := { s.setpt with odos := t.setpt.odos, machs := t.setpt.machs } }))) ∧
  (∀ (s : State) (m : Fin 128) (g : Gear), Running s → setptTakes s = true → (spMach s m).gear = some g →
    After (.gearLost m) s fun t => (spMach t m).gear = none ∧ (spMach t m).causes = { (spMach s m).causes with gearLost := true } ∧ regBit t 0x070060 3 = true ∧
      countOf t 0x070054 5 = countOf s 0x070054 5 + 1 ∧ t.clk = max s.clk (g.since + s.setpt.cfg.odoStaleMs * 10 ^ 6) ∧ ∀ k, k ≠ m.val → spMach t k = spMach s k) ∧
  (∀ s : State, Running s → gridOn s = true → After .spmeanRefresh s fun t => t.lode = s.lode ∧ t.grid = s.grid ∧ t.sys = s.sys ∧
    ∀ m, m < 128 → (spMach t m).means = meansOf s m)

/-! ### Field radio (10_field_radio.md) -/

/-- R69, R309, R311, R312, R323, R327, R329, R332, R333: a slot boundary clears what the last slot left on every chain, and the
ASN follows served time; a chain's power is clamped, and a chain with a frame on air stops only at its end. The frames of the
shared segment: QUENCH repeats before machine QUENCHes before ANNEALs before what the slot plan names; each goes on air at
most once a slot and takes what it carries from its queue. Where a clause rests on a choice of the model, it follows
assumption log 21. -/
def Obligations.SlotsAndSharedSegment : Prop :=
  (∀ s : State, Running s → After .radioSlot s fun t =>
    t.time.nextSlot = s.time.nextSlot + 1 ∧ t.sys = s.sys ∧ t.quench = s.quench ∧ t.twin = s.twin ∧
    (s.radio.breakDue = false → t.radio.seq = s.radio.seq ∧ t.radio.txMax = s.radio.txMax) ∧
    (s.radio.present = false ∨ now t < s.radio.schedE → t.radio = { s.radio with running := false }) ∧
    (s.radio.present = true → s.radio.schedE ≤ now t → t.radio.running = true ∧ t.radio.asn = (now t - s.radio.schedE) / 10 ^ 7 % 2 ^ 40 ∧ t.radio.breakDue = false ∧
      (s.radio.breakDue = false → ∀ c, c < 3 → (chain t c).onAir = none ∧ (chain t c).broken = false ∧ (chain t c).sentBeacon = false ∧ (chain t c).sentGang = false ∧ (chain t c).sentShared = false) ∧
      t.radio.asnHold = decide (t.radio.asn ≤ s.radio.txMax) ∧ t.radio.asnWrap = decide (2 ^ 36 ≤ t.radio.asn))) ∧
  (∀ (s : State) (c : Fin 3) (w : Word), Running s → (chain s c).stopping = false → (chain s c).shedWait = false → After (.chainEnable c w) s fun t =>
    t = { s with radio := { s.radio with chains := t.radio.chains } } ∧ (∀ k, k ≠ c.val → chain t k = chain s k) ∧
    (chain t c).txpwr.toInt = max (-20) (min 28 (w.truncate 8 : BitVec 8).toInt) ∧
    (w.getLsbD 31 = true → (chain t c).en = true) ∧
    (w.getLsbD 31 = false → ((chain s c).onAir = none ∨ (chain s c).airEnd ≤ now s) → (chain t c).en = false) ∧
    (w.getLsbD 31 = false → (chain s c).onAir.isSome = true → now s < (chain s c).airEnd → (chain s c).en = true → (chain t c).en = true ∧ (chain t c).stopping = true)) ∧
  (∀ (s : State) (c : Fin 3), Running s → sharedOpen s c = true →
    (repeatDue s c = true → sharedFits s c 4 0 = true → Sends s c 4 .quench → After (.quenchRepeatTx c) s fun t => (chain t c).sentShared = true ∧
      OnAir s t c .quench 0xFFFF (9 + c) (quenchPayload 0xFF s.quench.qseq.toNat) ∧ t.quench = s.quench ∧ t.sys = s.sys) ∧
    (∀ m q l, repeatDue s c = false → (chain s c).machQuench = (m, q) :: l → sharedFits s c 4 0 = true → Sends s c 4 .quench → After (.machineQuenchTx c) s fun t =>
      OnAir s t c .quench 0xFFFF (9 + c) (quenchPayload m q) ∧ (chain t c).machQuench = l ∧ t.quench = s.quench ∧ t.sys = s.sys) ∧
    (∀ m, repeatDue s c = false → (chain s c).machQuench = [] → annealTarget s c = some m → sharedFits s c 4 0 = true → Sends s c 4 .anneal → After (.annealTx c) s fun t =>
      OnAir s t c .anneal 0xFFFF (9 + c) (leBytes 1 m ++ leBytes 3 0) ∧ (m = 0xFF → (chain t c).annealFirst = (chain s c).annealFirst ∧ (chain t c).machAnneal = (chain s c).machAnneal) ∧
      (m ≠ 0xFF → (chain t c).machAnneal = (chain s c).machAnneal.drop 1) ∧ t.sys = s.sys) ∧
    (∀ n, sharedTaken s c = false → (slotUse s c).1 = .corr → (chain s c).cfg.corr = true → (chain s c).corrLeft ≠ [] → largest s c 0 4 (3 + (chain s c).corrLeft.length) = some n →
      Sends s c (3 + ((chain s c).corrLeft.take (n - 3)).length) .corr → After (.corrTx c) s fun t => (chain t c).sentShared = true ∧
      (chain t c).corrLeft = (chain s c).corrLeft.drop (n - 3) ∧ (chain t c).corrChunk = (chain s c).corrChunk + 1 ∧
      OnAir s t c .corr Config.corrDst (9 + c) (leBytes 2 (chain s c).corrSeq ++ leBytes 1 ((chain s c).corrChunk % 128 + 128 * b2n (decide ((chain s c).corrLeft.length ≤ n - 3)))
        ++ (chain s c).corrLeft.take (n - 3))) ∧
    (∀ f l n, sharedTaken s c = false → (slotUse s c).1 = .down → (chain s c).downQ = f :: l → f.tries < 3 → downFit s c f = some n →
      Sends s c (downPayload f n (l != []) f.ackReq none).length .data → After (.downTx c) s fun t =>
      OnAir s t c .data f.dst.toNat (9 + c) (downPayload f n (l != []) f.ackReq none) ∧
      (f.ackReq = true → (chain t c).downQ = { f with tries := f.tries + 1 } :: l ∧ (chain t c).awaitAck = some s.radio.seq) ∧
      (f.ackReq = false → (chain t c).downQ = putHead (downNext f n) (f :: l))))

/-- R313, R315, R316, R317, R318, R323, R324, R325, R326, R345: a due BEACON or GANG goes on air with the slot's ASN, the permits
and the codes of its group, once a slot; a chain that may not send sends nothing. Where a clause rests on a choice of the
model, it follows assumption log 21. -/
def Obligations.BeaconsAndGangs : Prop :=
  ∀ (s : State) (c : Fin 3), Running s →
    (beaconDue s c = true → Sends s c 23 .beacon → After (.beaconTx c) s fun t => (chain t c).sentBeacon = true ∧
      (∃ q, OnAir s t c .beacon 0xFFFF c (leBytes 5 s.radio.asn ++ leBytes 1 (bFlags s) ++ leBytes 1 q ++ leBytes 16 (permits s))) ∧
      t = { s with radio := t.radio, counts := t.counts, clk := t.clk, time := t.time, aon := t.aon }) ∧
    (beaconDue s c = true → mayTx s c .beacon = false → After (.beaconTx c) s fun t => (chain t c).onAir = (chain s c).onAir ∧ t.radio.seq = s.radio.seq) ∧
    (beaconDue s c = false → exec (.beaconTx c) s = .next s) ∧
    ((chain s c).cfg.gang = true → (chain s c).sentGang = false → inTime s (gangUs s c) = true → gangTaken s c = false → gangFits s c = true →
      Sends s c (gangPayload s (s.radio.asn % 4)).length .gang → After (.gangTx c) s fun t => (chain t c).sentGang = true ∧
      OnAir s t c .gang 0xFEFF (6 + c) (gangPayload s (s.radio.asn % 4)) ∧
      t = { s with radio := t.radio, counts := t.counts, clk := t.clk, time := t.time, aon := t.aon }) ∧
    ((chain s c).sentGang = true → exec (.gangTx c) s = .next s)

/-- R322, R328, R329, R330, R335, R336, R337, R338, R358: a received frame is dropped and counted under the check it fails; one
that passes raises its sender's high-water mark and does what its type says. The MIC's outcome is open (log 8): both are
stated. Where a clause rests on a choice of the model, it follows assumption log 8 or 21. -/
def Obligations.ReceivedFrames : Prop :=
  (∀ (s : State) (f : RxFrame) (ty : FrameType) (c : Instr), Running s →
    (ty = .stopReq ∧ c = .stopReq f ∨ ty = .data ∧ c = .data f ∨ ty = .ack ∧ c = .ack f ∨ ty = .poll ∧ c = .poll f ∨ ty = .syncReq ∧ c = .syncReq f ∨
      ty = .beacon ∧ (c = .gafferBeaconRx f ∨ c = .parentBeaconRx f) ∨ ty = .quench ∧ (c = .parentQuenchRx f ∨ c = .peerQuenchRx f)) →
    (listens s f.chain ty.code = false → exec c s = .next s) ∧
    (listens s f.chain ty.code = true → rxEnd s f ≤ now s → deafTo s f = false → fcsOk f = false →
      After c s fun t => t = { s with counts := t.counts } ∧ countOf t 0x080094 (7 + 0x100 * f.chain) = countOf s 0x080094 (7 + 0x100 * f.chain) + 1) ∧
    (∀ who eui, Arrives s ty f who eui → After c s fun t =>
      (payloadOf s ty f who eui = none → t = { s with counts := t.counts } ∧ countOf t 0x080094 (10 + 0x100 * f.chain) = countOf s 0x080094 (10 + 0x100 * f.chain) + 1) ∧
      ((payloadOf s ty f who eui).isSome = true →
        markOf t eui = some ((nearAsn s.radio.asn (byteAt f.psdu 1)).toNat * 16 + 3 * f.seg + f.chain) ∧
        countOf t 0x080094 (6 + 0x100 * f.chain) = countOf s 0x080094 (6 + 0x100 * f.chain) + 1))) ∧
  (∀ (s : State) (f : RxFrame) (n eui : Nat), Running s → Arrives s .stopReq f (.pendant n) eui → (chain s f.chain).cfg.stop = true →
    stopStart (chain s f.chain).cfg ≤ f.startUs → f.startUs ≤ stopEnd (chain s f.chain).cfg → stopCovered s f.chain = false →
    After (.stopReq f) s fun t => (payloadOf s .stopReq f (.pendant n) eui).isSome = true →
      t.quench.pendantEnd = some (s.clk + s.radio.pendantHoldMs * 10 ^ 6) ∧ regBit t 0x0800A0 1 = true) ∧
  (∀ (s : State) (f : RxFrame) (who : Sender) (eui : Nat) (p : Bytes), Running s → Arrives s .data f who eui →
    byteAt p 3 = 0 → (byteAt p 1).testBit 0 = false → (byteAt p 1).testBit 2 = false → After (.data f) s fun t => payloadOf s .data f who eui = some p →
      ∃ r ∈ t.radio.reasm, r.src.toNat = leAt f.psdu 2 2 ∧ r.msg.toNat = byteAt p 2 ∧ r.next = 1 ∧ r.body = p.drop 4 ∧ r.since = s.clk) ∧
  (∀ (s : State) (f : RxFrame) (who : Sender) (eui : Nat) (p : Bytes) (q : BitVec 8) (d : DownFrame) (l : List DownFrame), Running s → Arrives s .ack f who eui →
    q = BitVec.ofNat 8 (byteAt p 0) → (∀ n ∈ s.radio.nodes, n.replied = none) → (chain s f.chain).awaitAck = some q → (chain s f.chain).downQ = d :: l →
    d.dst.toNat = leAt f.psdu 2 2 → After (.ack f) s fun t => payloadOf s .ack f who eui = some p →
      (chain t f.chain).awaitAck = none ∧ (chain t f.chain).downQ = ackHead (d :: l) ((downFit s f.chain d).getD 0)) ∧
  (∀ (s : State) (f : RxFrame) (eui : Nat) (n : Node), Running s → Arrives s .poll f .node eui → s.radio.nodes = [n] → n.addr.toNat = leAt f.psdu 2 2 →
    pollSlot s f.chain n = true → n.synced = false → After (.poll f) s fun t => (payloadOf s .poll f .node eui).isSome = true →
      countOf t 0x080094 (14 + 0x100 * f.chain) = countOf s 0x080094 (14 + 0x100 * f.chain) + 1 ∧ t.radio.nodes = s.radio.nodes ∧ t.radio.seq = s.radio.seq) ∧
  (∀ (s : State) (f : RxFrame) (eui : Nat), Running s → Arrives s .syncReq f .node eui → slotIndex s = 0 → (chain s f.chain).cfg.nodes = true → s.radio.syncDone = [] →
    After (.syncReq f) s fun t => (payloadOf s .syncReq f .node eui).isSome = true → t.radio.syncDone = [f.chain.val]) ∧
  (∀ (s : State) (f : RxFrame) (eui : Nat), Running s →
    (Arrives s .beacon f .peer eui → s.sys.mode = .servitor → (chain s f.chain).cfg.beaconDiv = 1 → After (.gafferBeaconRx f) s fun t =>
      (payloadOf s .beacon f .peer eui).isSome = true → t.radio.heardGaffer = true ∧ t.radio.missGaffer = 0 ∧ t.radio.silent = false) ∧
    (Arrives s .beacon f .parent eui → After (.parentBeaconRx f) s fun t =>
      (payloadOf s .beacon f .parent eui).isSome = true → t.radio.heardParent = true ∧ t.radio.missParent = 0 ∧ t.radio.orphan = false) ∧
    (∀ p, Arrives s .quench f .parent eui → byteAt p 0 = 0xFF → After (.parentQuenchRx f) s fun t =>
      payloadOf s .quench f .parent eui = some p → t.quench.pendantEnd = some (s.clk + s.radio.pendantHoldMs * 10 ^ 6)) ∧
    (∀ p, Arrives s .quench f .peer eui → byteAt p 0 = 0xFF → f.seg = 4 → After (.peerQuenchRx f) s fun t =>
      payloadOf s .quench f .peer eui = some p → t.quench.peerEnd = some (s.clk + s.radio.pendantHoldMs * 10 ^ 6)))

/-- R328, R330, R334, R336, R337, R338, R339, R349, R358: timeouts, the missing gaffer and parent, the ledger's window, and the
commands on sleepy nodes. Where a clause rests on a choice of the model, it follows assumption log 21. -/
def Obligations.RadioUpkeep : Prop :=
  (∀ s : State, s.aon.powered = true → s.quench.pendantEnd.isSome = true → After .pendantHoldExpire s fun t =>
    t.quench.pendantEnd = none ∧ t.quench.peerEnd = none ∧ t.clk = max s.clk (max (s.quench.pendantEnd.getD 0) (s.quench.peerEnd.getD 0)) ∧ ∀ k, (qch t k).latch = (qch s k).latch) ∧
  (∀ (s : State) (r : Reasm) (l : List Reasm), Running s → s.radio.reasm = r :: l → After .reasmTimeout s fun t =>
    t.radio.reasm = l ∧ t.clk = max s.clk (r.since + 200 * 10 ^ 6) ∧ countOf t 0x080094 (12 + 0x100 * r.chain) = countOf s 0x080094 (12 + 0x100 * r.chain) + 1) ∧
  (∀ s : State, Running s →
    (s.sys.mode = .servitor → 3 ≤ s.radio.missGaffer → s.radio.silent = false → After .silentGaffer s fun t => t.radio = { s.radio with silent := true } ∧ regBit t 0x0800A0 2 = true) ∧
    (s.radio.missGaffer < 3 → exec .silentGaffer s = .next s) ∧
    (s.radio.parent.isSome = true → 3 ≤ s.radio.missParent → s.radio.orphan = false → After .orphan s fun t => t.radio = { s.radio with orphan := true } ∧ regBit t 0x0800A0 3 = true) ∧
    (s.radio.missParent < 3 → exec .orphan s = .next s) ∧
    (After .ledgerBucket s fun t => (∀ e, e ∈ t.radio.ledger ↔ e ∈ s.radio.ledger ∧ now t / 10 ^ 9 < e.sec + s.radio.windowS) ∧ t.regs = s.regs ∧ t.sys = s.sys)) ∧
  (∀ (s : State) (a : BitVec 16), Running s →
    (∀ c : BitVec 16 → Bool → Instr, (c = .nodeAdd ∨ c = .nodeRemove ∨ c = .forceResync) →
      exec (c a true) s = .next { s with radio := { s.radio with nodeResult := .busy } } ∧
      (s.sys.mode = .servitor → exec (c a false) s = .next { s with radio := { s.radio with nodeResult := .mode } })) ∧
    (s.sys.mode ≠ .servitor →
      (s.radio.nodes.any (fun x => x.addr == a) = true →
        (exec (.nodeAdd a false) s = .next { s with radio := { s.radio with nodeResult := .exists_ } }) ∧
        (After (.nodeRemove a false) s fun t => t.radio.nodeResult = .done ∧ (∀ n, n ∈ t.radio.nodes ↔ n ∈ s.radio.nodes ∧ n.addr ≠ a) ∧ t = { s with radio := t.radio }) ∧
        (After (.forceResync a false) s fun t => t.radio.nodeResult = .done ∧ t.radio.nodes.length = s.radio.nodes.length ∧ ∀ n ∈ t.radio.nodes, n.addr = a → n.synced = false)) ∧
      (s.radio.nodes.any (fun x => x.addr == a) = false →
        (∀ c, (c = .nodeRemove a false ∨ c = .forceResync a false) → exec c s = .next { s with radio := { s.radio with nodeResult := .notFound } }) ∧
        (s.radio.nodes.length < 2048 → nodeSuits s (stagedNode s a) = true → s.radio.nodes.any (nodesClash (stagedNode s a)) = false →
          exec (.nodeAdd a false) s = .next { s with radio := { s.radio with nodes := s.radio.nodes ++ [stagedNode s a], nodeResult := .done } }) ∧
        (2048 ≤ s.radio.nodes.length → exec (.nodeAdd a false) s = .next { s with radio := { s.radio with nodeResult := .full } }))))

/-! ### Quench and permit (11_quench_permit.md) -/

/-- R354, R359: the vote: a channel presents STOP when it is under test or retired, a source of it is active, or its latch copy is
set; two of three stop the fleet, and no single one does; a result that stands alone for 10 ms is reported as LONE_STOP and
stops nothing. -/
def Obligations.VoteOfTwoChannels : Prop :=
  (∀ (s : State) (k : Nat), presentsStop s k = true ↔
    (qch s k).health ≠ .healthy ∨ (qch s k).latch = true ∨ (qch s k).pair = true ∨ (qch s k).discrepant = true ∨ hostSource s = true ∨ pendantSource s = true ∨
      wardenSource s = true) ∧
  (∀ s : State, votedStop s = true ↔
    presentsStop s 0 = true ∧ presentsStop s 1 = true ∨ presentsStop s 0 = true ∧ presentsStop s 2 = true ∨ presentsStop s 1 = true ∧ presentsStop s 2 = true) ∧
  (∀ (s : State) (a k : Nat), s.aon.powered = true → s.quench.loneSince = some a → loneChannel s = some k → s.quench.loneDone = false → After .loneStop s fun t =>
    t.quench = { s.quench with loneDone := true } ∧ regBit t 0x090080 6 = true ∧ t.clk = max s.clk (a + 10 ^ 7) ∧ t.sys = s.sys)

/-- R74: a voted decision latches in every copy, and changes the mode to QUENCHED from SURVEY, FIELD, HOLDOVER and ANNEAL only; in
every other mode, RESET and FORMING among them, the mode is unchanged. Where the decision is that of the battery at RES_CRIT,
R84's action follows it. -/
def Obligations.VotedQuenchChangesFourModesOnly : Prop :=
  ∀ (s : State) (c : QCause) (r : Nat), s.aon.powered = true → s.quench.deciding = some (c, r) → After .votedDecision s fun t =>
    (∀ k, k < 3 → (qch t k).latch = true) ∧
    (s.aon.critDue = false → t.sys.mode = (if s.sys.mode = .survey ∨ s.sys.mode = .field ∨ s.sys.mode = .holdover ∨ s.sys.mode = .anneal then .quenched else s.sys.mode))

/-- R33, R363, R371: while the latch is set, in a mode without permits, or without the claim, no machine holds a permit and
PERMIT_OUT's driver is off; a machine quenched alone holds none; each bit of QUENCH_PERMIT is its machine's grant. -/
def Obligations.PermitConditions : Prop :=
  (∀ (s : State) (m : Nat), granted s m = true ↔
    (s.sys.mode = .field ∨ s.sys.mode = .holdover ∨ s.sys.mode = .anneal) ∧ s.twin.claimO = true ∧ (∀ k, k < 3 → (qch s k).latch = false) ∧
    regBit s (0x090030 + 4 * (m / 32)) (m % 32) = true ∧ planable s m = true ∧ s.quench.machq.toNat.testBit m = false ∧
    ¬ (s.sys.mode = .anneal ∧ s.quench.stood.toNat.testBit m = true)) ∧
  (∀ (s : State) (m : Nat), m < 128 → (permits s).testBit m = granted s m) ∧
  (∀ s : State, permitDriver s = true ↔
    (s.sys.mode = .field ∨ s.sys.mode = .holdover ∨ s.sys.mode = .anneal ∧ s.sys.annealDone = false) ∧ (∀ k, k < 3 → (qch s k).latch = false) ∧
    s.twin.gateOpen = true ∧ regBit s 0x090000 1 = true) ∧
  (∀ s : State, (driveOutputs s).quench.permitOut = (permitDriver s && !(driver (driveOutputs s) 3).held) ∧ permits (driveOutputs s) = permits s)

/-- R355, R356, R365, R370, R429: a contact input's level counts once it has stood for 2.0 µs; both contacts make the pair active;
one alone for 5 ms makes it DISCREPANT, which the host clears once both are healthy. Repeats and reminders go on only while
the latch is set; PERMIT_OUT's pin falls 100 µs after its driver. -/
def Obligations.ContactsAndReminders : Prop :=
  (∀ (s : State) (i : Fin 6) (l : Bool), s.aon.powered = true →
    ((contact s i).level = l → exec (.contactEdge i l) s = .next s) ∧
    ((contact s i).level ≠ l → After (.contactEdge i l) s fun t => contact t i = { contact s i with level := l, edgeAt := s.clk } ∧
      (∀ j : Fin 6, j ≠ i → contact t j = contact s j) ∧ (∀ k, k < 3 → (qch t k).out = (qch s k).out ∧ (qch t k).latch = (qch s k).latch) ∧
      countOf t 0x090074 3 = countOf s 0x090074 3 + (if l = false ∧ (contact s i).active = false ∧ s.clk - (contact s i).edgeAt < 2000 then 1 else 0))) ∧
  (∀ (s : State) (i : Fin 6), s.aon.powered = true →
    ((contact s i).level = (contact s i).active → exec (.contactAccept i) s = .next s) ∧
    ((contact s i).level ≠ (contact s i).active → After (.contactAccept i) s fun t => (contact t i).active = (contact s i).level ∧
      t.clk = max s.clk ((contact s i).edgeAt + 2000) ∧ (∀ k, k < 3 → (qch t k).latch = (qch s k).latch) ∧
      (qch t (i / 2)).pair = ((qch t (i / 2)).c1.active && (qch t (i / 2)).c2.active))) ∧
  (∀ (s : State) (k : Fin 3) (w : Nat), s.aon.powered = true → (qch s k).window = some w → After (.discrepant k) s fun t =>
    (qch t k).window = none ∧ t.clk = max s.clk (w + 5000000) ∧
    ((qch s k).c1.active ≠ (qch s k).c2.active → (qch t k).discrepant = true ∧ regBit t 0x090080 4 = true) ∧
    ((qch s k).c1.active = (qch s k).c2.active → (qch t k).discrepant = (qch s k).discrepant)) ∧
  (∀ (s : State) (k : Fin 3), Running s →
    ((qch s k).c1.active = true ∨ (qch s k).c2.active = true → exec (.discrepantClear k) s = .next s) ∧
    ((qch s k).c1.active = false → (qch s k).c2.active = false → After (.discrepantClear k) s fun t => (qch t k).discrepant = false ∧ ∀ j, (qch t j).latch = (qch s j).latch)) ∧
  (∀ s : State, Running s → (s.quench.ethLeft = 0 ∨ latched s = false → exec .quenchFrameRepeat s = .next s) ∧
    (0 < s.quench.ethLeft → latched s = true → After .quenchFrameRepeat s fun t =>
      t.quench = { s.quench with ethLeft := s.quench.ethLeft - 1, ethNext := s.quench.ethNext + 1 } ∧ t.sys = s.sys)) ∧
  (∀ s : State, s.aon.powered = true → (latched s = false → exec .reminder s = .next s) ∧
    (latched s = true → After .reminder s fun t => t.quench = { s.quench with reminders := s.quench.reminders + 1 } ∧
      t.clk = max s.clk (s.quench.latchAt + (s.quench.reminders + 1) * 60 * 10 ^ 9) ∧ t.sys = s.sys)) ∧
  (∀ (s : State) (a : Nat), s.aon.powered = true → s.quench.permitFall = some a → After .permitOutOffDelay s fun t =>
    t.quench = { s.quench with permitPin := false, permitFall := none } ∧ t.clk = max s.clk (a + 100000) ∧ t.regs = s.regs)

/-- R20, R74, R354, R358, R367: the host source stands for 10 µs and with three healthy channels brings a vote to STOP, whose
decision sets the latch in every copy with its cause, moves QSEQ on, takes every permit and every output, and changes only the
modes that it may. -/
def Obligations.QuenchDecision : Prop :=
  (∀ (s : State) (who : Master), Running s → After (.quench who) s fun t =>
    t.quench.hostEnd = some (s.clk + 10000) ∧ t.quench.result = .done ∧ hostSource t = true ∧ votedStop t = true ∧ t.sys = s.sys ∧
    (∀ k, (qch t k).latch = (qch s k).latch) ∧ (latched s = false → s.quench.deciding = none → t.quench.deciding = some (.host, who.rank))) ∧
  (∀ (s : State) (c : QCause) (r : Nat), s.aon.powered = true → s.quench.deciding = some (c, r) → s.aon.critDue = false → After .votedDecision s fun t =>
    (∀ k, k < 3 → (qch t k).latch = true ∧ (qch t k).out = false) ∧ t.quench.cause = c ∧ t.quench.count = s.quench.count + 1 ∧ t.quench.qseq = s.quench.count + 1 ∧
    t.quench.deciding = none ∧ t.quench.latchAt = s.clk ∧ t.quench.permitOut = false ∧ (∀ m, granted t m = false) ∧ regBit t 0x090080 0 = true ∧
    (s.sys.mode = .survey ∨ s.sys.mode = .field ∨ s.sys.mode = .holdover ∨ s.sys.mode = .anneal → t.sys.mode = .quenched ∧ t.sys.prev = s.sys.mode) ∧
    (s.sys.mode = .servitor ∨ s.sys.mode = .yielded ∨ s.sys.mode = .reserve ∨ s.sys.mode = .maintenance ∨ s.sys.mode = .dormant → t.sys.mode = s.sys.mode)) ∧
  (∀ s : State, s.aon.powered = true → s.quench.deciding = none → exec .votedDecision s = .next s) ∧
  (∀ (s : State) (e : Nat), s.aon.powered = true →
    (s.quench.hostEnd = some e → After .hostSourceEnd s fun t => t.quench.hostEnd = none ∧ t.clk = max s.clk e ∧ (∀ k, (qch t k).latch = (qch s k).latch) ∧ t.sys = s.sys) ∧
    (s.quench.wardenEnd = some e → After .wardenPulseEnd s fun t => t.quench.wardenEnd = none ∧ t.clk = max s.clk e ∧ (∀ k, (qch t k).latch = (qch s k).latch) ∧ t.sys = s.sys))

/-- R368, R369, R372, R376: only the host releases the latch, and only when the conditions hold in their order; an accepted
release clears all three copies and leaves the mode; a refused one changes no latch. A machine quench takes the one machine's
permit until the host gives it back. A source or a QUENCH_MACH of the same cycle wins over the release. -/
def Obligations.ReleaseAndMachineQuench : Prop :=
  (∀ (s : State) (who : Master) (x : Bool), Running s → After (.releaseLatch who x) s fun t => t.sys.mode = s.sys.mode ∧ t.twin = s.twin ∧
    (who ≠ .host → t.quench.result = .denied) ∧
    (who = .host → latched s = false → t.quench.result = .notLatched) ∧
    (who = .host → latched s = true → reformingNow s = true ∨ testingCh s = true → t.quench.result = .busy) ∧
    (who = .host → latched s = true → reformingNow s = false → testingCh s = false → 1 < retiredChs s → t.quench.result = .degraded) ∧
    (who = .host → latched s = true → reformingNow s = false → testingCh s = false → retiredChs s ≤ 1 → x = true → t.quench.result = .conflictLost) ∧
    (who = .host → latched s = true → reformingNow s = false → testingCh s = false → retiredChs s ≤ 1 → x = false → releaseBlocked s = true →
      t.quench.result = .sourceActive) ∧
    (t.quench.result ≠ .done → (∀ k, (qch t k).latch = (qch s k).latch) ∧ regBit t 0x090080 2 = true ∧ t.sys = s.sys) ∧
    (who = .host → latched s = true → reformingNow s = false → testingCh s = false → retiredChs s ≤ 1 → x = false → releaseBlocked s = false →
      t.quench.result = .done ∧ t.sys = { s.sys with released := s.sys.mode == .quenched } ∧ latched t = false ∧ regBit t 0x090080 1 = true ∧ t.quench.ethLeft = 0 ∧ t.radio.repeatLeft = 0)) ∧
  (∀ (s : State) (m : Fin 128), Running s →
    (After (.quenchMach m) s fun t => granted t m = false ∧ t.quench.machq.toNat.testBit m = true ∧ t.quench.count = s.quench.count + 1 ∧ t.quench.result = .done ∧
      t.sys = s.sys ∧ (∀ k, (qch t k).latch = (qch s k).latch) ∧ (∀ n, n ≠ m.val → t.quench.machq.toNat.testBit n = s.quench.machq.toNat.testBit n)) ∧
    (After (.machRelease .host m false) s fun t => t.quench.machq.toNat.testBit m = false ∧ (∀ n, n ≠ m.val → t.quench.machq.toNat.testBit n = s.quench.machq.toNat.testBit n) ∧
      t = { s with quench := { s.quench with machq := t.quench.machq, result := .done } }) ∧
    (After (.machRelease .host m true) s fun t => t = { s with quench := { s.quench with result := .conflictLost }, regs := t.regs }) ∧
    (∀ who x, who ≠ .host → After (.machRelease who m x) s fun t => t = { s with quench := { s.quench with result := .denied }, regs := t.regs }))

/-! ### Packet switch (12_packet_switch.md) -/

/-- R69, R70, R379, R402, R391, R398, R399, R403: a link that comes up carries the speed of its mode, or the resolved one in mode
6; one that goes down loses every frame of its port into LINK_DISCARD; a port told to stop does so at the end of the frame on
its wire, and an enable before then waits. A frame leaves when its wire time ends, counted at its queue and port; the next
frame that may start takes the wire; a launch frame takes it at its launch time. Where a clause rests on a choice of the
model, it follows assumption log 18. -/
def Obligations.PortsAndEgress : Prop :=
  (∀ (s : State) (p : Fin 12) (v : Nat), Running s → p.val < s.switch.live.length → After (.linkUp p v) s fun t =>
    swPort t p = { swPort s p with up := true, anDone := (portCfg s p).mode == 6, speed :=
      if (portCfg s p).mode = 1 then 10000 else if (portCfg s p).mode = 2 ∨ (portCfg s p).mode = 3 then 1000 else if (portCfg s p).mode = 4 then 100
      else if (portCfg s p).mode = 5 then 10 else v } ∧
    regBit t 0x0A0090 1 = true ∧ (∀ q, q ≠ p.val → swPort t q = swPort s q) ∧ t.switch.queues = s.switch.queues ∧ t.sys = s.sys ∧ t.counts = s.counts) ∧
  (∀ (s : State) (p : Fin 12), Running s → p.val < s.switch.live.length → After (.linkDown p) s fun t =>
    (swPort t p).up = false ∧ openFrames t p = [] ∧ regBit t 0x0A0090 1 = true ∧ t.sys = s.sys ∧ t.clk = s.clk ∧
    countOf t 0x0A0024 (11 + 16 * p) = countOf s 0x0A0024 (11 + 16 * p) + (openFrames s p).length ∧
    (∀ q, q ≠ p.val → swPort t q = swPort s q ∧ portFrames t q = portFrames s q)) ∧
  (∀ (s : State) (p : Fin 16), Running s → p.val < s.switch.live.length →
    ((swPort s p).stopping = false → (p.val = 15 → s.rtk.ethWait = none) → After (.portEnable p true) s fun t => swPort t p = { swPort s p with en := true } ∧
      t = { s with switch := t.switch } ∧ t.switch.queues = s.switch.queues) ∧
    ((swPort s p).stopping = true → (p.val = 15 → s.rtk.ethWait = none) → After (.portEnable p true) s fun t => swPort t p = { swPort s p with pendingEn := true } ∧
      t = { s with switch := t.switch } ∧ t.switch.queues = s.switch.queues) ∧
    ((swPort s p).stopping = true → After (.portEnable p false) s fun t => swPort t p = { swPort s p with pendingEn := false }) ∧
    ((swPort s p).stopping = false → (swPort s p).en = false → exec (.portEnable p false) s = .next s) ∧
    ((swPort s p).stopping = false → (swPort s p).en = true → (swPort s p).onWire = none → After (.portEnable p false) s fun t =>
      (swPort t p).en = false ∧ (swPort t p).stopping = false ∧ portFrames t p = [] ∧
      countOf t 0x0A0024 (11 + 16 * p) = countOf s 0x0A0024 (11 + 16 * p) + (portFrames s p).length) ∧
    ((swPort s p).stopping = false → (swPort s p).en = true → (swPort s p).onWire.isSome = true → s.clk < (swPort s p).wireEnd → After (.portEnable p false) s fun t =>
      swPort t p = { swPort s p with stopping := true, pendingEn := false } ∧ openFrames t p = openFrames s p ∧ t.counts = s.counts)) ∧
  (∀ (s : State) (p : Fin 16) (k : Nat) (f : QFrame), Running s → p.val < 12 → p.val < s.switch.live.length → portUp s p = true →
    (swPort s p).onWire = some (k, f) → portFrames s p = [] → f.tsReq = false → After (.frameEgress p) s fun t =>
      (swPort t p).onWire = none ∧ portFrames t p = [] ∧ t.clk = max s.clk (swPort s p).wireEnd ∧ t.sys = s.sys ∧
      countOf t 0x0A0024 (2 + 16 * p) = countOf s 0x0A0024 (2 + 16 * p) + 1 ∧ countOf t 0x0A0024 (3 + 16 * p) = countOf s 0x0A0024 (3 + 16 * p) + f.bytes.length ∧
      countOf t 0x0A0048 (2 + 8 * k) = countOf s 0x0A0048 (2 + 8 * k) + 1) ∧
  (∀ (s : State) (p : Fin 16) (k c : Nat) (f : QFrame), Running s → p.val < s.switch.live.length → portUp s p = true → (swPort s p).onWire = none →
    portFrames s p = [(k, f)] → classOf s k = some c → c < 8 → f.launch = none → f.ptp = false → ¬ (s.sys.wakeHold = true ∧ p.val < 12) → mayStart s p k f = true →
    After (.frameEgress p) s fun t => (swPort t p).onWire = some (k, f) ∧ portFrames t p = [] ∧ t.counts = s.counts ∧
      (swPort t p).wireEnd = t.clk + cdiv (wirePs s p (f.bytes.length + 20)) 1000 ∧ t.clk = max s.clk (swPort s p).wireEnd) ∧
  (∀ (s : State) (p : Fin 16), Running s → (swPort s p).onWire = none → portUp s p = true → portFrames s p = [] →
    exec (.frameEgress p) s = .next s) ∧
  (∀ (s : State) (p : Fin 16), Running s → firstLaunch s p = none → exec (.launch p) s = .next s) ∧
  (∀ (s : State) (p : Fin 16) (k : Nat) (f : QFrame), Running s → p.val < s.switch.live.length → firstLaunch s p = some (k, f) → portUp s p = true →
    gateFor s p k f = true → heldByTest s k f = false → ¬ (s.sys.wakeHold = true ∧ p.val < 12) → (swPort s p).onWire = none → f.ptp = false → After (.launch p) s fun t =>
      (swPort t p).onWire = some (k, f) ∧ countOf t 0x0A0048 (4 + 8 * k) = countOf s 0x0A0048 (4 + 8 * k) + 1 ∧
      countOf t 0x0A0048 (5 + 8 * k) = countOf s 0x0A0048 (5 + 8 * k) ∧ t.sys = s.sys ∧ t.regs = s.regs)

/-- R235, R380, R382, R383, R384, R396: a frame at a port that is up is dropped and counted for a bad FCS, a bad length, a pause,
a walk without an END node, and DROP; one that is not is counted as received; its lookups are held while a bank of a table is
under test; a frame with one known destination is offered to that port alone, as it came. Whatever the frame, its port takes
it. Where a clause rests on a choice of the model, it follows assumption log 18. -/
def Obligations.FramesIn : Prop :=
  (∀ (s : State) (p : Fin 12) (bs : Bytes), Running s → After (.frameIngress p bs) s fun t => t.sys = s.sys ∧ t.clk = s.clk ∧ t.twin = s.twin) ∧
  (∀ (s : State) (p : Fin 12) (bs : Bytes), Running s → portUp s p = false → exec (.frameIngress p bs) s = .next s) ∧
  (∀ (s : State) (p : Fin 12) (bs : Bytes), Running s → portUp s p = true → fcsGood bs = false → After (.frameIngress p bs) s fun t =>
    t = { s with counts := t.counts } ∧ countOf t 0x0A0024 (4 + 16 * p) = countOf s 0x0A0024 (4 + 16 * p) + 1) ∧
  (∀ (s : State) (p : Fin 12) (bs : Bytes), Running s → portUp s p = true → fcsGood bs = true → bs.length < 64 ∨ (portCfg s p).maxLen < bs.length →
    After (.frameIngress p bs) s fun t => t = { s with counts := t.counts } ∧ countOf t 0x0A0024 (5 + 16 * p) = countOf s 0x0A0024 (5 + 16 * p) + 1) ∧
  (∀ (s : State) (p : Fin 12) (bs : Bytes), Running s → portUp s p = true → fcsGood bs = true → 64 ≤ bs.length → bs.length ≤ (portCfg s p).maxLen →
    let n (t : State) (e : Nat) : Nat := countOf t 0x0A0024 (e + 16 * p)
    (pauseFrame bs = true → After (.frameIngress p bs) s fun t => t = { s with counts := t.counts } ∧ n t 0 = n s 0 + 1 ∧ n t 1 = n s 1 + bs.length ∧ n t 6 = n s 6 + 1) ∧
    (pauseFrame bs = false → lookupsHeld s = true → After (.frameIngress p bs) s fun t => n t 0 = n s 0 + 1 ∧
      t = { s with counts := t.counts, switch := { s.switch with heldIn := s.switch.heldIn ++ [(p.val, bs, rxStamp s p bs)] } }) ∧
    (pauseFrame bs = false → lookupsHeld s = false → parseFrame (graphOf s p) bs = none → After (.frameIngress p bs) s fun t =>
      t = { s with counts := t.counts } ∧ n t 0 = n s 0 + 1 ∧ n t 1 = n s 1 + bs.length ∧ n t 7 = n s 7 + 1) ∧
    (∀ x, pauseFrame bs = false → lookupsHeld s = false → parseFrame (graphOf s p) bs = some x → x.acts.testBit 9 = true → After (.frameIngress p bs) s fun t =>
      t = { s with counts := t.counts } ∧ n t 0 = n s 0 + 1 ∧ n t 9 = n s 9 + 1) ∧
    (∀ x d e m q, pauseFrame bs = false → lookupsHeld s = false → parseFrame (graphOf s p) bs = some x → (∀ b, b ∈ [5, 6, 7, 9, 10] → x.acts.testBit b = false) →
      x.acts.testBit 8 = true → x.ip = none → tableFor s .mac (decide (4 ≤ p.val)) = some d →
      exactLookup s d.id (decide (4 ≤ p.val)) (macKey (bytesAt bs (x.l2.getD 0) 6) (withTag s { port := p, bytes := bs } x).vid) = some e →
      e.flapping = false → e.result = .mac (BitVec.ofNat 16 (2 ^ m)) (BitVec.ofNat 8 q) 0 → m < 16 → m ≠ p.val → q < 32 → After (.frameIngress p bs) s fun t =>
      n t 0 = n s 0 + 1 ∧ t.sys = s.sys ∧ t.clk = s.clk ∧ ∃ f, f.bytes = bs ∧ f.inPort = p.val ∧ f.routed = false ∧
        (refusal s m q f = 0 → ((swQ t (qk m q)).frames.map (·.bytes) = (swQ s (qk m q)).frames.map (·.bytes) ++ [bs]) ∧
          countOf t 0x0A0048 (8 * qk m q) = countOf s 0x0A0048 (8 * qk m q) + 1) ∧
        (refusal s m q f ≠ 0 → portFrames t m = portFrames s m ∧ (swQ t (qk m q)).lastCause = refusal s m q f ∧
          countOf t 0x0A0048 (1 + 8 * qk m q) = countOf s 0x0A0048 (1 + 8 * qk m q) + 1)))

/-- R22, R393, R394, R395, R396, R397, R400: a copy is refused by cause and enters no queue, or admitted with the deadline of its
class; a quench frame is never refused; without the claim the queues of DL0 to DL3 on ports 0 to 11 take no other frame, and
what they held is discarded. Where a clause rests on a choice of the model, it follows assumption log 12. -/
def Obligations.Admission : Prop :=
  (∀ (s : State) (p q : Nat) (f : QFrame), refusal s p q f ≠ 0 → (swQ (enqueueFrame p q f s) (qk p q)).frames = (swQ s (qk p q)).frames ∧
    (swQ (enqueueFrame p q f s) (qk p q)).lastCause = refusal s p q f ∧ regBit (enqueueFrame p q f s) 0x0A0090 0 = true ∧
    (∀ k, k ≠ qk p q → swQ (enqueueFrame p q f s) k = swQ s k) ∧ (enqueueFrame p q f s).switch.live = s.switch.live) ∧
  (∀ (s : State) (p q c : Nat) (f : QFrame), classOf s (qk p q) = some c → refusal s p q f = 0 → ∃ g,
    (swQ (enqueueFrame p q f s) (qk p q)).frames = (swQ s (qk p q)).frames ++ [g] ∧ g.bytes = f.bytes ∧ g.deadline = now s + boundNs s c ∧
    (f.quench = false → drainPs s p c false ≤ boundNs s c * 1000 ∧ g.slack + drainPs s p c false = boundNs s c * 1000)) ∧
  (∀ (s : State) (p q : Nat) (f : QFrame), (classOf s (qk p q)).isSome = true → portUp s p = true → f.quench = true → refusal s p q f = 0) ∧
  (∀ (s : State) (p q : Nat) (f : QFrame), classOf s (qk p q) = none → refusal s p q f = 0xB) ∧
  (∀ (s : State) (p q c : Nat) (f : QFrame), classOf s (qk p q) = some c → c ≤ 3 → p < 12 → portUp s p = true → s.twin.claimO = false → f.quench = false →
    refusal s p q f = 5) ∧
  (∀ (s : State) (p k : Nat) (f : QFrame), p < 12 → (k, f) ∈ portFrames (dropClaimFrames s).2 p → f.quench = true ∨ ¬ ∃ c, classOf s k = some c ∧ c ≤ 3) ∧
  (∀ (s : State) (p k : Nat) (f : QFrame), (k, f) ∈ portFrames s p → f.quench = true ∨ (∃ c, classOf s k = some c ∧ 3 < c) →
    (k, f) ∈ portFrames (dropClaimFrames s).2 p)

/-! ### Twin redundancy (13_twin_redundancy.md) -/

/-- R406, R407, R410, R411, R427: the claim line: a servitor that sees it fall takes over, in the mirrored mode only while PAIR is
READY; a rise closes open gated outputs, and yields the unit 4 µs later if it stands; a tie is UNIT 0's; the gates open at the
end of the guard. Where a clause rests on a choice of the model, it follows assumption log 22. -/
def Obligations.ClaimLine : Prop :=
  (∀ s : State, s.aon.powered = true →
    (s.twin.claimI = false → exec .claimIFall s = .next s) ∧
    (s.twin.claimI = true → ¬ (s.twin.present = true ∧ s.sys.mode = .servitor) →
      exec .claimIFall s = .next { s with twin := { s.twin with claimI := false, claimIAt := s.clk, conflictAt := none } }) ∧
    (s.twin.claimI = true → s.twin.present = true → s.sys.mode = .servitor → s.twin.claimO = false → s.twin.gateOpen = false → After .claimIFall s fun t =>
      t.twin.claimO = true ∧ t.twin.claimI = false ∧ t.twin.gateOpen = false ∧ t.twin.takeover = some (s.clk, now s) ∧ t.sys.prev = .servitor ∧
      (s.twin.pair ≠ .ready → t.sys.mode = .quenched) ∧ (latched s = true → t.sys.mode = .quenched) ∧
      (∀ p, s.twin.pair = .ready → s.twin.mirror.pair = some p → latched s = false →
        t.sys.mode = if p.mode = .survey ∨ p.mode = .field ∨ p.mode = .holdover ∨ p.mode = .anneal then p.mode else .quenched))) ∧
  (∀ s : State, s.aon.powered = true →
    (s.twin.claimI = true → exec .claimIRise s = .next s) ∧
    (s.twin.claimI = false → ¬ (s.twin.present = true ∧ s.twin.claimO = true) →
      exec .claimIRise s = .next { s with twin := { s.twin with claimI := true, claimIAt := s.clk } }) ∧
    (s.twin.claimI = false → s.twin.present = true → s.twin.claimO = true → s.twin.gateOpen = true → After .claimIRise s fun t =>
      t.twin.claimI = true ∧ t.twin.claimO = true ∧ t.twin.gateOpen = false ∧ t.twin.conflictAt = some s.clk ∧ t.sys = s.sys ∧ (∀ k, (qch t k).latch = (qch s k).latch)) ∧
    (s.twin.claimI = false → s.twin.present = true → s.twin.claimO = true → s.twin.gateOpen = false → s.twin.everOpen = false → s.clk < s.twin.claimOAt + 4000 →
      After .claimIRise s fun t => t.twin.claimI = true ∧ t.twin.gateOpen = false ∧ t.twin.claimO = !s.twin.unit ∧
        (s.twin.unit = true → quenchableMode s.sys.mode = true → t.sys.mode = .servitor) ∧ (s.twin.unit = false → t.sys = s.sys))) ∧
  (∀ s : State, s.aon.powered = true →
    (s.twin.conflictAt = none ∨ s.twin.claimI = false ∨ s.twin.claimO = false → exec .claimConflict s = .next s) ∧
    (∀ a, s.twin.conflictAt = some a → s.twin.claimI = true → s.twin.claimO = true →
      s.sys.mode ≠ .reset → s.sys.mode ≠ .forming → s.sys.mode ≠ .dormant → s.sys.mode ≠ .yielded → After .claimConflict s fun t =>
      t.sys.mode = .yielded ∧ t.twin.claimO = false ∧ t.twin.gateOpen = false ∧ t.clk = max s.clk (a + 4000) ∧ t.fault.lastCode = 0x0B02 ∧ t.fault.lastClass = .lasting ∧
      regBit t 0x0B0040 6 = true ∧ countOf t 0x0B0034 8 = countOf s 0x0B0034 8 + 1)) ∧
  (∀ s : State, s.aon.powered = true → After .claimGlitch s fun t => t = { s with counts := t.counts } ∧ countOf t 0x0B0034 9 = countOf s 0x0B0034 9 + 1) ∧
  (∀ s : State, s.aon.powered = true →
    (s.twin.present = false ∨ s.twin.claimO = false ∨ s.twin.claimI = true ∨ s.twin.gateOpen = true → exec .claimGuardExpire s = .next s) ∧
    (s.twin.present = true → s.twin.claimO = true → s.twin.claimI = false → s.twin.gateOpen = false →
      (s.twin.takeover = none → After .claimGuardExpire s fun t => t.twin = { s.twin with gateOpen := true, everOpen := true } ∧ t.sys = s.sys ∧
        t.clk = max s.clk (max s.twin.claimOAt s.twin.claimIAt + 4000)) ∧
      (∀ a n, s.twin.takeover = some (a, n) → After .claimGuardExpire s fun t => t.twin.gateOpen = true ∧ t.twin.takeover = none ∧ t.sys = s.sys ∧
        t.twin.gap = t.clk - a + 500 ∧ regBit t 0x0B0040 0 = true ∧ countOf t 0x0B0034 7 = countOf s 0x0B0034 7 + 1 ∧
        max s.clk (max s.twin.claimOAt s.twin.claimIAt + 4000) ≤ t.clk ∧ t.clk ≤ max s.clk (max s.twin.claimOAt s.twin.claimIAt + 4000) + 27000)))

/-- R415, R417, R418, R420, R413, R425, R426, R432: the link: trained to HELLO, UP once HELLO compares equal, TESTING on
block-lock loss or a third failure; a missing key or a mismatch leaves it in HELLO; LINK_EN stops it and starts it again.
YIELD is the host's, needs open gated outputs and a READY pair, loses to a voted decision, and ends in YIELDED without the
claim; RESYNC is the gaffer's, needs the link, and sends the snapshot; a write that loses its cycle to another master's is
refused with BUSY. Where a clause rests on a choice of the model, it follows assumption log 22. -/
def Obligations.FrauriLinkAndCommands : Prop :=
  (∀ s : State, Running s →
    (s.twin.link ≠ .training → exec .linkTrained s = .next s) ∧
    (s.twin.link = .training → After .linkTrained s fun t => t.sys = s.sys ∧
      t.twin = { s.twin with link := .hello, rxSeq := 0, ackSeq := 0, fails := 0, txFails := 0, keyFault := !twinKeys s } ∧
      (twinKeys s = false → t.fr = {} ∧ regBit t 0x0F0160 2 = true) ∧ (twinKeys s = true → t.fr.seq = t.fr.sent.length)) ∧
    (s.twin.link ≠ .up → exec .linkBlockLockLost s = .next s) ∧
    (s.twin.link = .up → (resOf s .frauri 0).state = .healthy → (recentTransients s (resOf s .frauri 0)).length < 3 → After .linkBlockLockLost s fun t =>
      t.twin.link = .testing ∧ t.twin.open_ = [] ∧ t.twin.snapshot = [] ∧ regBit t 0x0B0040 1 = true ∧ t.sys = s.sys ∧ t.twin.claimO = s.twin.claimO)) ∧
  (∀ (s : State) (w : Word), Running s → After (.linkEnWrite w) s fun t => t.sys = s.sys ∧ t.twin.claimO = s.twin.claimO ∧
    (regBit s 0x0B0000 31 = false → regBit t 0x0B0000 0 = w.getLsbD 0) ∧ (regBit s 0x0B0000 31 = true → regBit t 0x0B0000 0 = regBit s 0x0B0000 0) ∧
    (regBit t 0x0B0000 0 = false → t.twin.link = .off) ∧
    (regBit t 0x0B0000 0 = true → t.twin.link = if s.twin.link = .off ∧ s.twin.present = true then .training else s.twin.link)) ∧
  (∀ (s : State) (h : FrHead) (id sum : Word) (unit : Bool) (set : BitVec 6) (w : Word), Running s →
    (s.twin.link ≠ .hello → exec (.hello h id sum unit set w) s = .next s) ∧
    (s.twin.link = .hello → twinKeys s = true → h.seq ≠ s.twin.rxSeq + 1 → s.twin.fails < 2 → After (.hello h id sum unit set w) s fun t =>
      t = { s with twin := { s.twin with fails := s.twin.fails + 1 }, fr := t.fr, counts := t.counts }) ∧
    (s.twin.link = .hello → twinKeys s = false → After (.hello h id sum unit set w) s fun t =>
      t.twin = { s.twin with keyFault := true } ∧ regBit t 0x0F0160 2 = true ∧ t.sys = s.sys) ∧
    (s.twin.link = .hello → twinKeys s = true → h.seq = s.twin.rxSeq + 1 → s.twin.fails = 0 → s.twin.gateOpen = false → After (.hello h id sum unit set w) s fun t =>
      t.sys = s.sys ∧ t.twin.peerSum = sum ∧ t.twin.peerReform = some w ∧ t.twin.rxSeq = h.seq ∧ t.twin.keyFault = false ∧
      (id.toNat = 0x96100010 ∧ sum = s.parison.fixedSum ∧ set = s.twin.mirrorSet ∧ unit ≠ s.twin.unit →
        t.twin.link = .up ∧ t.twin.pair = .syncing ∧ t.twin.snapDone = false ∧ regBit t 0x0B0040 2 = true) ∧
      (¬ (id.toNat = 0x96100010 ∧ sum = s.parison.fixedSum ∧ set = s.twin.mirrorSet ∧ unit ≠ s.twin.unit) →
        t.twin.link = .hello ∧ t.twin.pair = .mismatch ∧ regBit t 0x0B0040 4 = true))) ∧
  (∀ (s : State) (tag : Bool), Running s →
    (s.twin.link ≠ .up → s.twin.link ≠ .hello → exec (.frauriFrameBad tag) s = .next s) ∧
    (s.twin.link = .up ∨ s.twin.link = .hello → s.twin.fails < 2 → After (.frauriFrameBad tag) s fun t =>
      t = { s with twin := { s.twin with fails := s.twin.fails + 1 }, fr := t.fr, counts := t.counts } ∧ t.fr.seq = s.fr.seq + 1 ∧ countOf t 0x0B0034 0 = countOf s 0x0B0034 0 + 1 ∧
      countOf t 0x0B0034 3 = countOf s 0x0B0034 3 + (if tag then 1 else 0)) ∧
    (s.twin.link = .up ∨ s.twin.link = .hello → 2 ≤ s.twin.fails → (resOf s .frauri 0).state = .healthy → (recentTransients s (resOf s .frauri 0)).length < 3 →
      After (.frauriFrameBad tag) s fun t => t.twin.link = .testing ∧ t.twin.fails = 0 ∧ t.sys = s.sys)) ∧
  (∀ (s : State) (who : Master) (x : Bool), Running s → After (.yield who true x) s fun t => t.twin = { s.twin with result := .busy } ∧ t.sys = s.sys) ∧
  (∀ (s : State) (who : Master) (x : Bool), Running s → After (.yield who false x) s fun t => regBit t 0x0B0040 7 = true ∧
    (who ≠ .host → t.twin = { s.twin with result := .denied } ∧ t.sys = s.sys) ∧
    (who = .host → s.twin.present = false ∨ s.twin.gateOpen = false → t.twin = { s.twin with result := .mode } ∧ t.sys = s.sys) ∧
    (who = .host → s.twin.present = true → s.twin.gateOpen = true → s.twin.pair ≠ .ready → t.twin = { s.twin with result := .notReady } ∧ t.sys = s.sys) ∧
    (who = .host → s.twin.present = true → s.twin.gateOpen = true → s.twin.pair = .ready → x = true ∨ s.quench.deciding.isSome = true →
      t.twin = { s.twin with result := .conflictLost } ∧ t.sys = s.sys) ∧
    (who = .host → s.twin.present = true → s.twin.gateOpen = true → s.twin.pair = .ready → x = false → s.quench.deciding = none →
      s.sys.mode ≠ .reset → s.sys.mode ≠ .forming → s.sys.mode ≠ .dormant → s.sys.mode ≠ .yielded →
      t.twin.result = .done ∧ t.sys.mode = .yielded ∧ t.sys.prev = s.sys.mode ∧ t.twin.claimO = false ∧ t.twin.gateOpen = false ∧ (∀ k, (qch t k).latch = (qch s k).latch))) ∧
  (∀ s : State, Running s → After (.resync true) s fun t => t.twin = { s.twin with result := .busy } ∧ t.sys = s.sys) ∧
  (∀ s : State, Running s → After (.resync false) s fun t => regBit t 0x0B0040 7 = true ∧ t.sys = s.sys ∧
    (s.twin.present = false ∨ s.twin.claimO = false → t.twin = { s.twin with result := .mode }) ∧
    (s.twin.present = true → s.twin.claimO = true → s.twin.link ≠ .up → t.twin = { s.twin with result := .notReady }) ∧
    (s.twin.present = true → s.twin.claimO = true → s.twin.link = .up → t.twin = { s.twin with result := .done, pair := .syncing, peerReady := false } ∧ t.fr.snapSent = true))

/-- R412, R416, R418, R419, R420, R424, R421, R425: what a frame from the peer does: its header is noted, READY sets the gaffer's
PAIR, a GATED peer takes UNIT 1's claim, a NAK is re-sent twice and then ends the link, a NOTICE asserts the pendant source; a
frame out of order is answered with a NAK and does nothing else; with the link not UP no frame acts. Records join an open
group, a COMMIT applies its class's group, or keeps it while the snapshot is not complete; the snapshot makes PAIR READY; the
mirror goes stale STALE_MS after the last commit; a unit that is no servitor takes no record. Where a clause rests on a choice
of the model, it follows assumption log 22. -/
def Obligations.FrauriFramesAndMirror : Prop :=
  (∀ (s : State) (h : FrHead) (c : Fin 7) (r : Machine.MirRecord) (e : Int) (a b : Bool) (w : Word), Running s → s.twin.link ≠ .up →
    ∀ i ∈ [Instr.idle h, .frauriAck h, .nak h, .notice h, .time h e w, .mirror h r, .commit h c, .snapshot h a r b], exec i s = .next s) ∧
  (∀ (s : State) (h : FrHead) (w : Word), Hears s h → exec (.idle h) s = .next (heard h s) ∧
    exec (.frauriAck h) s = .next { heard h s with twin := { (heard h s).twin with txFails := 0 } } ∧
    (s.twin.txFails < 2 → After (.nak h) s fun t => t = { heard h s with twin := { (heard h s).twin with txFails := s.twin.txFails + 1 }, counts := t.counts } ∧
      countOf t 0x0B0034 0 = countOf (heard h s) 0x0B0034 0 + 1 ∧ countOf t 0x0B0034 2 = countOf s 0x0B0034 2 + 1) ∧
    (2 ≤ s.twin.txFails → (resOf s .frauri 0).state = .healthy → (recentTransients s (resOf s .frauri 0)).length < 3 → After (.nak h) s fun t =>
      t.twin.link = .testing ∧ t.twin.txFails = 0 ∧ t.sys = s.sys) ∧
    (After (.notice h) s fun t => t.quench.peerEnd = some (s.clk + s.radio.pendantHoldMs * 10 ^ 6) ∧ t.sys = s.sys ∧ (∀ k, (qch t k).latch = (qch s k).latch) ∧
      t.twin = (heard h s).twin) ∧
    (s.sys.mode = .servitor → After (.time h 0 w) s fun t => (dom t false).valid = true ∧ (dom t true).valid = true ∧ t.sys = s.sys ∧
      t.twin = { (heard h s).twin with peerReform := some w })) ∧
  (∀ (s : State) (h : FrHead) (i : Instr), Running s → s.twin.link = .up → h.seq ≠ s.twin.rxSeq + 1 → s.twin.fails < 2 →
    (i = .idle h ∨ i = .frauriAck h ∨ i = .nak h ∨ i = .notice h) → After i s fun t =>
      t = { s with twin := { s.twin with fails := s.twin.fails + 1 }, fr := t.fr, counts := t.counts } ∧ t.fr.seq = s.fr.seq + 1) ∧
  (∀ (s : State) (h : FrHead), Running s → s.twin.link = .up → h.seq = s.twin.rxSeq + 1 → s.twin.fails = 0 → ¬ (s.twin.unit = true ∧ s.twin.gateOpen = true ∧ h.gated = true) →
    s.sys.mode ≠ .servitor → s.twin.pair = .syncing ∨ s.twin.pair = .ready → After (.idle h) s fun t => t.sys = s.sys ∧ t.twin.link = .up ∧
      t.twin.pair = (if h.ready = true then .ready else .syncing)) ∧
  (∀ (s : State) (h : FrHead), Running s → s.twin.link = .up → h.seq = s.twin.rxSeq + 1 → s.twin.fails = 0 → s.twin.unit = true → s.twin.gateOpen = true → h.gated = true →
    s.sys.mode ≠ .reset → s.sys.mode ≠ .forming → s.sys.mode ≠ .dormant → s.sys.mode ≠ .yielded → s.twin.claimO = true → After (.idle h) s fun t =>
      t.sys.mode = .yielded ∧ t.twin.claimO = false ∧ t.twin.gateOpen = false ∧ t.fault.lastCode = 0x0B02) ∧
  (∀ (s : State) (h : FrHead) (r : Machine.MirRecord), Hears s h →
    (s.sys.mode = .servitor → selected s r.cls = true → After (.mirror h r) s fun t => t = { heard h s with twin := { (heard h s).twin with open_ := s.twin.open_ ++ [r] } }) ∧
    (s.sys.mode ≠ .servitor ∨ selected s r.cls = false → exec (.mirror h r) s = .next (heard h s))) ∧
  (∀ (s : State) (h : FrHead) (c : Fin 7), Hears s h →
    (s.sys.mode ≠ .servitor ∨ selected s c = false → exec (.commit h c) s = .next (heard h s)) ∧
    (s.sys.mode = .servitor → selected s c = true → After (.commit h c) s fun t =>
      t.twin.open_ = s.twin.open_.filter (fun r => r.cls != c.val) ∧ t.twin.lastCommit = some s.clk ∧ t.twin.stale = false ∧ t.sys = s.sys ∧
      countOf t 0x0B0034 5 = countOf s 0x0B0034 5 + 1 ∧
      (s.twin.snapDone = true → t.twin.pair = .ready ∧ t.twin.groups = s.twin.groups ∧
        (∀ p, c.val = 6 → openGroup s 6 = [.pair p] → t.twin.peerMode = p.mode ∧ t.twin.mirror.pair = some p) ∧
        (∀ m, c.val = 4 → openGroup s 4 = [.time m] → t.twin.mirror.time = some m) ∧
        (∀ r : MirRadio, c.val = 2 → openGroup s 2 = [.radio r] → t.radio.txMax = r.txMax ∧ t.radio.nodes = r.nodes ∧ t.radio.ledger = r.ledger)) ∧
      (s.twin.snapDone = false → t.twin.groups = s.twin.groups ++ openGroup s c ∧ t.twin.pair = s.twin.pair ∧ t.twin.mirror = s.twin.mirror))) ∧
  (∀ (s : State) (h : FrHead) (r : Machine.MirRecord), Hears s h → s.sys.mode = .servitor → selected s r.cls = true →
    (After (.snapshot h true r false) s fun t => t.twin.snapshot = [r] ∧ t.twin.groups = [] ∧ t.twin.snapDone = false ∧ t.twin.pair = .syncing ∧ t.twin.mirror = s.twin.mirror) ∧
    (After (.snapshot h false r true) s fun t => t.twin.snapshot = [] ∧ t.twin.groups = [] ∧ t.twin.snapDone = true ∧ t.twin.pair = .ready ∧ t.twin.lastCommit = some s.clk)) ∧
  (∀ (s : State) (h : FrHead) (r : Machine.MirRecord) (a b : Bool), Hears s h → s.sys.mode ≠ .servitor → exec (.snapshot h a r b) s = .next (heard h s)) ∧
  (∀ s : State, Running s → (s.twin.lastCommit = none ∨ s.sys.mode ≠ .servitor ∨ s.twin.stale = true → exec .mirrorStale s = .next s) ∧
    (∀ a, s.twin.lastCommit = some a → s.sys.mode = .servitor → s.twin.stale = false → After .mirrorStale s fun t =>
      t.twin = { s.twin with stale := true, pair := if s.twin.pair = .ready then .syncing else s.twin.pair } ∧ regBit t 0x0B0040 5 = true ∧
      t.clk = max s.clk (a + s.twin.staleMs * 10 ^ 6) ∧ t.sys = s.sys))

/-! ### Faults and recovery (14_faults_recovery.md) -/

/-- R435, R436, R437, R438, R439, R440, R449, R444, R446, R447: every error has one class: CORRECTED after a good re-send, with
nothing discarded; FATAL at once, with a yield; LASTING at the fourth within 60 s; TRANSIENT where no test exists; otherwise
its self-test runs first, in YIELDED where a READY peer can take over. A self-test that passes classes its error TRANSIENT and
returns the resource; one that fails, or in which the resource erred again, classes it LASTING and retires it, and the unit
yields when the resource is critical. A held report is posted once its queue has room; the host alone resumes halted queues,
but for those that a new discard halts in the same cycle; an injection runs only in MAINTENANCE and then acts as an error of
its resource. Where a clause rests on a choice of the model, it follows assumption log 8. -/
def Obligations.ErrorClassesAndRecovery : Prop :=
  (∀ (s : State) (k : ResKind) (i : Fin 256) (u : Bool), s.aon.powered = true → k = .lodeBank ∨ k = .internalLink ∨ k = .frauri → After (.errorDetected k i true u) s fun t =>
    countOf t 0x0C0044 0 = countOf s 0x0C0044 0 + 1 ∧ regBit t 0x0C0050 0 = true ∧ t.hostif = s.hostif ∧ t.sys = s.sys ∧ t.twin = s.twin ∧
    t.fault.lastCode = s.fault.lastCode ∧ (resOf t k i).state = (resOf s k i).state) ∧
  (∀ (s : State) (k : ResKind) (i : Fin 256) (r u : Bool), s.aon.powered = true → s.sys.mode ≠ .reset → s.sys.mode ≠ .forming → s.sys.mode ≠ .dormant → s.sys.mode ≠ .yielded →
    k = .ref10 ∨ k = .lockstep ∨ k = .rawCounter ∨ k = .faultCtl → After (.errorDetected k i r u) s fun t =>
      t.sys.mode = .yielded ∧ t.sys.prev = s.sys.mode ∧ t.twin.claimO = false ∧ t.fault.lastClass = .fatal ∧
      t.fault.lastCode = (match k with | .ref10 => 0x0001 | .lockstep => 0x0002 | .rawCounter => 0x0201 | _ => 0x0C01) ∧
      countOf t 0x0C0044 3 = countOf s 0x0C0044 3 + 1 ∧ countOf t 0x0C0044 6 = countOf s 0x0C0044 6 + 1 ∧ (∀ j, (qch t j).latch = (qch s j).latch)) ∧
  (∀ (s : State) (k : ResKind) (i : Fin 256) (u : Bool), s.aon.powered = true → fatalKind k = false → noTest k = false → (resOf s k i).state = .healthy →
    (recentTransients s (resOf s k i)).length < 3 →
    (peerReady s = false ∨ u = true ∨ critical s k i = false → After (.errorDetected k i false u) s fun t =>
      (resOf t k i).state = .testing ∧ t.sys = s.sys ∧ t.twin.claimO = s.twin.claimO ∧ (∀ c, c < 5 → countOf t 0x0C0044 c = countOf s 0x0C0044 c)) ∧
    (peerReady s = true → u = false → critical s k i = true → s.sys.mode ≠ .reset → s.sys.mode ≠ .forming → s.sys.mode ≠ .dormant → s.sys.mode ≠ .yielded →
      After (.errorDetected k i false u) s fun t =>
        (resOf t k i).state = .testing ∧ t.sys.mode = .yielded ∧ t.twin.claimO = false ∧ (∀ c, c < 5 → countOf t 0x0C0044 c = countOf s 0x0C0044 c))) ∧
  (∀ (s : State) (k : ResKind) (i : Fin 256) (u : Bool), s.aon.powered = true → fatalKind k = false → (resOf s k i).state = .healthy → k ≠ .lodeBank →
    ¬ (k = .queuePtr ∧ 32 ≤ i.val) → ¬ (k = .quench ∧ critical s k i = true) → 3 ≤ (recentTransients s (resOf s k i)).length → After (.errorDetected k i false u) s fun t =>
      (resOf t k i).state = .retired ∧ t.fault.lastClass = .lasting ∧ t.fault.lastEscalated = true ∧ countOf t 0x0C0044 2 = countOf s 0x0C0044 2 + 1 ∧
      countOf t 0x0C0044 4 = countOf s 0x0C0044 4 + 1) ∧
  (∀ (s : State) (i : Fin 256) (u : Bool), s.aon.powered = true → (resOf s .filterRead i).state = .healthy → (recentTransients s (resOf s .filterRead i)).length < 3 →
    After (.errorDetected .filterRead i false u) s fun t => (resOf t .filterRead i).state = .healthy ∧ t.fault.lastClass = .transient ∧ t.fault.lastCode = 0x0403 ∧
      countOf t 0x0C0044 1 = countOf s 0x0C0044 1 + 1 ∧ t.sys = s.sys) ∧
  (∀ (s : State) (k : ResKind) (i : Fin 256) (r u : Bool), s.aon.powered = true → fatalKind k = false → resendKind k = false ∨ r = false → (resOf s k i).state = .testing →
    After (.errorDetected k i r u) s fun t => (resOf t k i) = { resOf s k i with failTest := true } ∧ t.sys = s.sys ∧ t.counts = s.counts) ∧
  (∀ (s : State) (k : ResKind) (i : Fin 256) (p : Bool), s.aon.powered = true → (resOf s k i).state ≠ .testing → exec (.selfTestDone k i p) s = .next s) ∧
  (∀ (s : State) (k : ResKind) (i : Fin 256), s.aon.powered = true → (resOf s k i).state = .testing → (resOf s k i).failTest = false →
    After (.selfTestDone k i true) s fun t => (resOf t k i).state = .healthy ∧ (resOf t k i).transients.head? = some (now s) ∧ t.fault.lastClass = .transient ∧
      t.fault.lastYieldFirst = (resOf s k i).yieldFirst ∧ t.fault.lastTime = (resOf s k i).detected ∧ t.sys = s.sys ∧ countOf t 0x0C0044 1 = countOf s 0x0C0044 1 + 1) ∧
  (∀ (s : State) (k : ResKind) (i : Fin 256) (p : Bool), s.aon.powered = true → (resOf s k i).state = .testing → p = false ∨ (resOf s k i).failTest = true →
    After (.selfTestDone k i p) s fun t => t.fault.lastClass = .lasting ∧
      countOf t 0x0C0044 2 = countOf s 0x0C0044 2 + (if (k = .lodeBank ∨ k = .quench) ∧ critical s k i = true then 2 else 1) ∧
      (k ≠ .lodeBank → ¬ (k = .queuePtr ∧ 32 ≤ i.val) → (resOf t k i).state = .retired) ∧ (k = .lodeBank → sparesNow s ≠ [] → (resOf t k i).state = .spared) ∧
      (critical s k i = false → t.sys = s.sys) ∧
      (critical s k i = true → s.sys.mode ≠ .reset → s.sys.mode ≠ .forming → s.sys.mode ≠ .dormant → t.sys.mode = .yielded) ∧
      (k = .chain → i.val < 3 → (chain t i).health = .retired) ∧ (k = .quench → i.val < 3 → (qch t i).health = .retired ∧ presentsStop t i = true)) ∧
  (∀ s : State, Running s → (s.fault.held = [] → exec .culletPost s = .next s) ∧
    (∀ x l, s.fault.held = x :: l → eqRoom s (culletQueue s) = false → exec .culletPost s = .next s) ∧
    (∀ x, s.fault.held = [x] → lastOfReport x = true → eqRoom s (culletQueue s) = true → After .culletPost s fun t => t.fault.held = [] ∧
      (eq_ t (culletQueue s)).ring = (eq_ s (culletQueue s)).ring ++ [padTo 64 x] ∧ (eq_ t (culletQueue s)).write = (eq_ s (culletQueue s)).write + 1 ∧
      countOf t 0x0C0044 5 = countOf s 0x0C0044 5 + 1 ∧ regBit t 0x0C0050 3 = true ∧ t.sys = s.sys)) ∧
  (∀ (s : State) (who : Master) (m a : BitVec 16), Running s → (who ≠ .host → exec (.faultResume who m a) s = .next s) ∧
    (who = .host → After (.faultResume who m a) s fun t => t.sys = s.sys ∧ t.counts = s.counts ∧ ∀ n, n < 16 →
      ((cq s n).state = .halted → m.getLsbD n = true → a.getLsbD n = false → (cq t n).state = .run) ∧ ((cq s n).state ≠ .halted ∨ m.getLsbD n = false ∨ a.getLsbD n = true → (cq t n).state = (cq s n).state) ∧
      (cq t n).commit = (cq s n).commit ∧ (cq t n).fetch = (cq s n).fetch)) ∧
  (∀ (s : State) (c : BitVec 16) (i : BitVec 8) (f : Bool), Running s →
    (s.sys.mode ≠ .maintenance → exec (.faultInject c i f) s = .next { s with fault := { s.fault with injectResult := 2 } }) ∧
    (s.sys.mode = .maintenance → (∀ k ∈ injectKinds, faultCode k ≠ c.toNat) → exec (.faultInject c i f) s = .next { s with fault := { s.fault with injectResult := 3 } }) ∧
    (∀ k ∈ injectKinds, s.sys.mode = .maintenance → c.toNat = faultCode k → i.toNat < resBase k ∨ resCount k ≤ i.toNat - resBase k →
      exec (.faultInject c i f) s = .next { s with fault := { s.fault with injectResult := 3 } }) ∧
    (∀ k ∈ injectKinds, ∀ j, s.sys.mode = .maintenance → c.toNat = faultCode k → i.toNat = resBase k + j → j < resCount k → noTest k = false → (resOf s k j).state = .healthy →
      (recentTransients s (resOf s k j)).length < 3 → peerReady s = false → After (.faultInject c i f) s fun t =>
        t.fault.injectResult = 1 ∧ countOf t 0x0C0044 7 = countOf s 0x0C0044 7 + 1 ∧ (resOf t k j).state = .testing ∧ (resOf t k j).failTest = f ∧ t.sys = s.sys))

/-! ### Field cores (15_cores_dispatcher.md) -/

/-- R461, R462, R463, R468, R469, R454, R455, R456, R464, R465, R466, R467, R472: a descriptor write is refused for a field out of
range and else takes the task anew; POST adds an activation up to 65,535; CANCEL takes activations and the delay entry; a due
delay entry gives one activation at a tick and returns one PERIOD on; a rising line posts its bound task. RUN starts cores in
machine mode at DISPATCH_RESET_VEC and holds them, at once or at an instruction boundary; a TAKE by the core itself gives it a
ready task of the lowest level it may run, first of its group's queue, after the cores of lower number that read TAKE in the
same cycle; DONE ends that run; YIELD puts it back at the head with its activation; the timer compare brings MTIP. Where a
clause rests on a choice of the model, it follows assumption log 13. -/
def Obligations.TasksAndCores : Prop :=
  (∀ (s : State) (i : Fin 4096), Running s →
    let bs := descBytes s
    let bad : Prop := 63 < (descOf bs).level ∨ 15 < (descOf bs).group ∨ (descOf bs).cost = 0 ∨ (byteAt bs 0x13).testBit 0 = true ∧ (descOf bs).cores = 0
    (bad → exec (.descWrite i) s = .next { s with dispatch := { s.dispatch with descResult := 2 } }) ∧
    (¬ bad → After (.descWrite i) s fun t => t = { s with dispatch := t.dispatch } ∧ t.dispatch.descResult = 1 ∧
      desc t i = (if (byteAt bs 0x13).testBit 0 then some (descOf bs) else none) ∧ (∀ j, j ≠ i.val → desc t j = desc s j) ∧ actsOf t i = 0 ∧
      (∀ e ∈ t.dispatch.delays, e.task ≠ i.val) ∧ (∀ k, (core_ t k).task = (core_ s k).task ∧ (core_ t k).takeEntry = (core_ s k).takeEntry))) ∧
  (∀ (s : State) (i : Fin 4096) (who : Master) (h : BitVec 16), Running s → desc s i = none →
    exec (.post i) s = .next s ∧ exec (.cancel i) s = .next s ∧ exec (.delay who i h) s = .next s) ∧
  (∀ (s : State) (i : Fin 4096) (who : Master) (h : BitVec 16), Running s → (desc s i).isSome = true →
    (After (.post i) s fun t => t = { s with dispatch := t.dispatch } ∧ actsOf t i = min 65535 (actsOf s i + 1) ∧ (∀ j, j ≠ i.val → actsOf t j = actsOf s j) ∧
      (running s i = false → i.val ∈ t.dispatch.ready) ∧ (i.val ∉ s.dispatch.ready → running s i = false → t.dispatch.ready = s.dispatch.ready ++ [i.val])) ∧
    (After (.cancel i) s fun t => t = { s with dispatch := t.dispatch } ∧ actsOf t i = 0 ∧ i.val ∉ t.dispatch.ready ∧ (∀ e ∈ t.dispatch.delays, e.task ≠ i.val) ∧
      (∀ j, j ≠ i.val → actsOf t j = actsOf s j) ∧ (∀ k, (core_ t k).task = (core_ s k).task)) ∧
    (After (.delay who i h) s fun t => t = { s with dispatch := { s.dispatch with delays := t.dispatch.delays } } ∧
      t.dispatch.delays = s.dispatch.delays.filter (fun e => e.task != i.val) ++ [{ task := i, wake := BitVec.ofNat 48 (delayLo s who + h.toNat * 2 ^ 32) }])) ∧
  (∀ (s : State) (e : DelayEntry) (d : TaskDesc) (i : Fin 4096), Running s → s.time.nextDisp * 10000 ≤ now s → dueDelays s = [e] → e.task = i → desc s i = some d →
    s.dispatch.delays.filter (fun x => x.task == i.val) = [e] →
    ∀ c ∈ [Instr.dispatcherTick, .delayWake i], After c s fun t => actsOf t i = min 65535 (actsOf s i + 1) ∧ (running s i = false → i.val ∈ t.dispatch.ready) ∧
      (∀ j, j ≠ i.val → actsOf t j = actsOf s j) ∧ t.time.nextDisp = now s / 10000 + 1 ∧ t.sys = s.sys ∧ t.clk = s.clk ∧
      (d.period = 0 → ∀ x ∈ t.dispatch.delays, x.task ≠ i.val) ∧
      (d.period ≠ 0 → t.dispatch.delays.filter (fun x => x.task == i.val) = [{ task := i, wake := BitVec.ofNat 48 (nextWake s e (d.period.toNat * 10000)) }])) ∧
  (∀ (s : State), Running s → s.time.nextDisp * 10000 ≤ now s → dueDelays s = [] → After .dispatcherTick s fun t =>
    t.dispatch.nextGroups = [] ∧ t.dispatch.acts = s.dispatch.acts ∧ t.dispatch.ready = s.dispatch.ready ∧ (∀ g w, g < 16 → s.dispatch.groups.length = 16 →
      s.dispatch.nextGroups = [(g, w)] → group t g = w ∧ ∀ j, j ≠ g → group t j = group s j)) ∧
  (∀ (s : State) (i : Fin 4096), Running s → (∀ e ∈ s.dispatch.delays, e.task ≠ i.val) → exec (.delayWake i) s = .next s) ∧
  (∀ (s : State) (n : Fin 32) (w : Word), Running s → After (.bind n w) s fun t => t = { s with dispatch := { s.dispatch with binds := t.dispatch.binds } } ∧
    (∀ b ∈ t.dispatch.binds, b.n = n.val → w.getLsbD 31 = true ∧ b.block = w.toNat / 2 ^ 24 % 32 ∧ b.task = w.toNat % 4096) ∧
    (w.getLsbD 31 = true → ∃ b ∈ t.dispatch.binds, b.n = n.val) ∧ (∀ b, b.n ≠ n.val → (b ∈ t.dispatch.binds ↔ b ∈ s.dispatch.binds))) ∧
  (∀ (s : State) (n : Fin 32), Running s →
    (s.dispatch.binds.find? (fun b => b.n == n.val) = none → exec (.boundInterrupt n) s = .next s) ∧
    (∀ b, s.dispatch.binds.find? (fun b => b.n == n.val) = some b → intLine s b.block = false ∨ b.line = true → exec (.boundInterrupt n) s = .next s) ∧
    (∀ b, s.dispatch.binds.find? (fun b => b.n == n.val) = some b → intLine s b.block = true → b.line = false → (desc s b.task).isSome = true →
      After (.boundInterrupt n) s fun t => actsOf t b.task = min 65535 (actsOf s b.task + 1) ∧ (running s b.task = false → b.task ∈ t.dispatch.ready) ∧ t.regs = s.regs)) ∧
  (∀ (s : State) (m x : BitVec 8), Running s → After (.run m x) s fun t => t.sys = s.sys ∧ t.regs = s.regs ∧ ∀ k, k < 8 → (core_ t k).run = m.getLsbD k ∧
    (m.getLsbD k = (core_ s k).run → core_ t k = core_ s k) ∧
    (m.getLsbD k ≠ (core_ s k).run → (core_ s k).stopping = true → core_ t k = { core_ s k with run := m.getLsbD k }) ∧
    (m.getLsbD k = false → (core_ s k).run = true → (core_ s k).stopping = false → (core_ s k).started = true → x.getLsbD k = true →
      core_ t k = { core_ s k with run := false, stopping := true }) ∧
    (m.getLsbD k = false → (core_ s k).run = true → (core_ s k).stopping = false → (core_ s k).started = true → x.getLsbD k = false → (core_ t k).started = false ∧ (core_ t k).task = none) ∧
    (m.getLsbD k = true → (core_ s k).run = false → (core_ s k).stopping = false → coreMode s = true → (core_ s k).gated = false → (core_ s k).health = .ok →
      (core_ t k).started = true ∧ (core_ t k).startCause = 0 ∧ (core_ t k).arch.priv = .machine ∧
      (core_ t k).arch.pc = BitVec.ofNat 64 ((regWord s 0x0D0008).toNat / 4 * 4 + (regWord s 0x0D000C).toNat * 2 ^ 32) ∧
      nth (core_ t k).arch.xs 10 0 = BitVec.ofNat 64 k ∧ nth (core_ t k).arch.xs 11 0 = 0)) ∧
  (∀ (s : State) (k : Fin 8) (who : Master) (i : Fin 4096) (r : BitVec 8), Running s → who ≠ .core k →
    exec (.take k who r) s = .next { s with rdata := 0 } ∧ exec (.done k who i) s = .next s ∧ exec (.dispatchYield k who i) s = .next s) ∧
  (∀ (s : State) (k : Fin 8) (w : Word) (r : BitVec 8), Running s → kget s.dispatch.early k = some w →
    exec (.take k (.core k) r) s = .next { s with rdata := w, dispatch.early := kdel s.dispatch.early k }) ∧
  (∀ (s : State) (k j : Fin 8), Running s → kget s.dispatch.early k = none → kget s.dispatch.early j = none → j.val < k.val → (core_ s j).task = none →
    exec (.take k (.core k) (BitVec.ofNat 8 (2 ^ j.val))) s = exec (.take k (.core k) 0) (takeEarly j s)) ∧
  (∀ (s : State) (k : Fin 8), Running s → kget s.dispatch.early k = none → (∀ i ∈ s.dispatch.ready, eligible s k i = false) → exec (.take k (.core k) 0) s = .next { s with rdata := 0 }) ∧
  (∀ (s : State) (k : Fin 8), Running s → kget s.dispatch.early k = none → (∃ i ∈ s.dispatch.ready, eligible s k i = true) → (∀ g, 1 ≤ (group s g).1) →
    (∀ i ∈ s.dispatch.ready, costOf s i ≤ 255 ∧ groupOf s i < 16 ∧ i < 4096) → (core_ s k).task = none → After (.take k (.core k) 0) s fun t =>
    ∃ i ∈ s.dispatch.ready, eligible s k i = true ∧ t.rdata = BitVec.ofNat 32 (0x80000000 + i) ∧ (core_ t k).task = some i ∧
      (∀ j ∈ s.dispatch.ready, eligible s k j = true → levelOf s i ≤ levelOf s j) ∧ firstReady s k (levelOf s i) (groupOf s i) = some i ∧
      actsOf t i = actsOf s i - 1 ∧ (core_ t k).takeEntry = ((desc s i).getD {}).entry ∧ (core_ t k).takeArg = ((desc s i).getD {}).arg ∧
      i ∉ t.dispatch.ready ∧ (∀ j, j ≠ k.val → core_ t j = core_ s j) ∧ t.sys = s.sys ∧ t.regs = s.regs) ∧
  (∀ (s : State) (k : Fin 8) (i : Fin 4096), Running s → (core_ s k).task ≠ some i.val →
    exec (.done k (.core k) i) s = .next s ∧ exec (.dispatchYield k (.core k) i) s = .next s) ∧
  (∀ (s : State) (k : Fin 8) (i : Fin 4096), Running s → (core_ s k).task = some i.val →
    (After (.done k (.core k) i) s fun t => (core_ t k).task = none ∧ (∀ j, actsOf t j = actsOf s j) ∧ (∀ j, j ≠ k.val → core_ t j = core_ s j) ∧
      (0 < actsOf s i → (desc s i).isSome = true → (∀ j, j < 8 → j ≠ k.val → (core_ s j).task ≠ some i.val) → i.val ∉ s.dispatch.ready → t.dispatch.ready = s.dispatch.ready ++ [i.val])) ∧
    ((core_ s k).dropped = false → (desc s i).isSome = true → After (.dispatchYield k (.core k) i) s fun t => (core_ t k).task = none ∧
      t.dispatch.ready = i.val :: s.dispatch.ready.filter (· != i.val) ∧ actsOf t i = min 65535 (actsOf s i + 1)) ∧
    ((core_ s k).dropped = true → actsOf s i = 0 → After (.dispatchYield k (.core k) i) s fun t => (core_ t k).task = none ∧ i.val ∉ t.dispatch.ready ∧ actsOf t i = 0)) ∧
  (∀ (s : State) (k : Fin 8), Running s → (timeCmp s k ≤ now s → exec (.timerCompare k) s = .next s) ∧
    (now s < timeCmp s k → s.time.sel.rate = 0 → s.time.sel.pend40 = 0 → s.time.resid40 = 0 → After (.timerCompare k) s fun t =>
      now t = timeCmp s k ∧ mtip t k = true ∧ t.dispatch = s.dispatch ∧ t.regs = s.regs ∧ t.sys = s.sys))

/-! ### Host interface (16_host_interface.md) -/

/-- R478, R479, R480, R482, R483, R500, R11, R474, R475, R477, R488: a push to a full direction overwrites its newest word; a pop
takes the oldest; a master of the other side does neither; a reset of a side discards what it was to receive. A push in the
cycle of a pop or of the receiver's reset keeps its word. A read takes a free lock, of two reads in one cycle the lower rank
number's; its holder, or the host with the key, frees it. The link trains; a host reset frees the host's locks, closes its
world and its pending vectors, disables its queues and resets its mailbox sides, and leaves the rest of the part running. -/
def Obligations.MailboxesLocksAndHostReset : Prop :=
  (∀ (s : State) (m : Fin 9) (who : Master) (w : Word), Running s →
    (onHostSide m who = false → exec (.h2cPush m who w false) s = .next s) ∧
    (onHostSide m who = true → (mb s m).h2c.words.length < 8 → After (.h2cPush m who w false) s fun t => t = { s with hostif := t.hostif } ∧
      mb t m = { mb s m with h2c := { (mb s m).h2c with words := (mb s m).h2c.words ++ [w] } } ∧ (∀ n, n ≠ m.val → mb t n = mb s n)) ∧
    (onHostSide m who = true → 8 ≤ (mb s m).h2c.words.length → After (.h2cPush m who w false) s fun t => (mb t m).h2c.words = (mb s m).h2c.words.take 7 ++ [w] ∧
      (mb t m).h2c.collision = true ∧ countOf t 0x0E0034 6 = countOf s 0x0E0034 6 + 1 ∧ (mb t m).c2h = (mb s m).c2h) ∧
    (onCoreSide m who = false → exec (.c2hPush m who w false) s = .next s) ∧
    (onCoreSide m who = true → (mb s m).c2h.words.length < 8 → After (.c2hPush m who w false) s fun t => t = { s with hostif := t.hostif } ∧
      mb t m = { mb s m with c2h := { (mb s m).c2h with words := (mb s m).c2h.words ++ [w] } } ∧ (∀ n, n ≠ m.val → mb t n = mb s n)) ∧
    (onCoreSide m who = true → 8 ≤ (mb s m).c2h.words.length → After (.c2hPush m who w false) s fun t => (mb t m).c2h.words = (mb s m).c2h.words.take 7 ++ [w] ∧
      (mb t m).c2h.collision = true ∧ countOf t 0x0E0034 6 = countOf s 0x0E0034 6 + 1 ∧ (mb t m).h2c = (mb s m).h2c) ∧
    (onHostSide m who = true → After (.h2cPush m who w true) s fun t => t = { s with hostif := t.hostif } ∧
      mb t m = { mb s m with h2c := { (mb s m).h2c with words := (mb s m).h2c.words ++ [w] } } ∧ (∀ n, n ≠ m.val → mb t n = mb s n)) ∧
    (onCoreSide m who = true → After (.c2hPush m who w true) s fun t => t = { s with hostif := t.hostif } ∧
      mb t m = { mb s m with c2h := { (mb s m).c2h with words := (mb s m).c2h.words ++ [w] } } ∧ (∀ n, n ≠ m.val → mb t n = mb s n))) ∧
  (∀ (s : State) (m : Fin 9) (who : Master), Running s →
    (onCoreSide m who = false ∨ (mb s m).h2c.words = [] → exec (.h2cPop m who) s = .next { s with rdata := 0 }) ∧
    (∀ x l, onCoreSide m who = true → (mb s m).h2c.words = x :: l → After (.h2cPop m who) s fun t => t.rdata = x ∧ (mb t m).h2c.words = l ∧
      (mb t m).h2c.empty = ((mb s m).h2c.empty || l.isEmpty) ∧ (mb t m).c2h = (mb s m).c2h ∧ t.counts = s.counts) ∧
    (onHostSide m who = false ∨ (mb s m).c2h.words = [] → exec (.c2hPop m who) s = .next { s with rdata := 0 }) ∧
    (∀ x l, onHostSide m who = true → (mb s m).c2h.words = x :: l → After (.c2hPop m who) s fun t => t.rdata = x ∧ (mb t m).c2h.words = l ∧
      (mb t m).c2h.empty = ((mb s m).c2h.empty || l.isEmpty) ∧ (mb t m).h2c = (mb s m).h2c ∧ t.counts = s.counts)) ∧
  (∀ (s : State) (m : Fin 9), Running s →
    (After (.mailboxSideReset m true false) s fun t => (mb t m).h2c.words = [] ∧ (mb t m).h2c.empty = true ∧ (mb t m).h2c.rxReset = true ∧
      (mb t m).c2h = { (mb s m).c2h with txReset := true } ∧ (m.val < 8 → ∀ n r, (n, r) ∈ t.hostif.locks ↔ (n, r) ∈ s.hostif.locks ∧ r ≠ 2 + m.val) ∧
      (m.val = 8 → t.hostif.locks = s.hostif.locks)) ∧
    (After (.mailboxSideReset m false false) s fun t => (mb t m).c2h.words = [] ∧ (mb t m).c2h.empty = true ∧ (mb t m).c2h.rxReset = true ∧
      (mb t m).h2c = { (mb s m).h2c with txReset := true } ∧ t.hostif.locks = s.hostif.locks) ∧
    (∀ w l, (mb s m).h2c.words = l ++ [w] → After (.mailboxSideReset m true true) s fun t => (mb t m).h2c.words = [w] ∧ (mb t m).h2c.rxReset = true) ∧
    (∀ w l, (mb s m).c2h.words = l ++ [w] → After (.mailboxSideReset m false true) s fun t => (mb t m).c2h.words = [w] ∧ (mb t m).c2h.rxReset = true)) ∧
  (∀ (s : State) (n : Fin 64) (who : Master) (w : Word), Running s →
    (∀ r rival, kget s.hostif.locks n = some r → ¬ (r = who.rank ∧ s.hostif.lockWon.contains n.val = true) →
      exec (.lockAcquire n who rival) s = .next { s with rdata := BitVec.ofNat 32 r }) ∧
    (∀ rival, kget s.hostif.locks n = some who.rank → s.hostif.lockWon.contains n.val = true → After (.lockAcquire n who rival) s fun t =>
      t.rdata = BitVec.ofNat 32 (0x80000000 + who.rank) ∧ t.hostif.locks = s.hostif.locks ∧ t.hostif.lockWon.contains n.val = false) ∧
    (∀ m, kget s.hostif.locks n = none → m.rank < who.rank → After (.lockAcquire n who (some m)) s fun t => t.rdata = BitVec.ofNat 32 m.rank ∧
      kget t.hostif.locks n = some m.rank ∧ t.hostif.lockWon.contains n.val = true ∧ (∀ j, j ≠ n.val → kget t.hostif.locks j = kget s.hostif.locks j)) ∧
    (∀ rival, kget s.hostif.locks n = none → (∀ m, rival = some m → who.rank ≤ m.rank) → After (.lockAcquire n who rival) s fun t => t.rdata = BitVec.ofNat 32 (0x80000000 + who.rank) ∧ kget t.hostif.locks n = some who.rank ∧
      (∀ j, j ≠ n.val → kget t.hostif.locks j = kget s.hostif.locks j)) ∧
    (kget s.hostif.locks n = some who.rank ∨ who = .host ∧ w.toNat / 2 ^ 16 = 0x9610 → After (.lockFree n who w) s fun t => kget t.hostif.locks n = none ∧
      (∀ j, j ≠ n.val → kget t.hostif.locks j = kget s.hostif.locks j) ∧ t.counts = s.counts) ∧
    (kget s.hostif.locks n ≠ some who.rank → ¬ (who = .host ∧ w.toNat / 2 ^ 16 = 0x9610) → exec (.lockFree n who w) s = .next s)) ∧
  (∀ (s : State) (g : Fin 4) (w : Fin 3) (b : Bool), Running s → exec (.pcieLinkUp g w b) s =
    .next { s with hostif := { s.hostif with linkUp := true, gen := g + 1, width := 2 ^ w.val, busMaster := b } }) ∧
  (∀ (s : State) (d : Bool), Running s → After (.hostReset d) s fun t =>
    (∀ n r, (n, r) ∈ t.hostif.locks ↔ (n, r) ∈ s.hostif.locks ∧ r ≠ 1) ∧ t.hostif.busMaster = false ∧ (d = true → t.hostif.linkUp = false) ∧
    (d = false → t.hostif.linkUp = s.hostif.linkUp) ∧ t.hostif.pba = [] ∧ t.geode.hostOpen = false ∧ regBit t 0x0E0020 1 = true ∧
    (∀ n, n < 16 → (cq s n).owner = 1 → (cq t n).en = false) ∧ (∀ n, n < 16 → (eq_ s n).owner = 1 → (eq_ t n).en = false ∧ (eq_ t n).ring = []) ∧
    (∀ n, n < 16 → (cq s n).owner ≠ 1 → cq t n = cq s n) ∧ (∀ m, m < 9 → (mb t m).c2h.words = [] ∧ (mb t m).h2c.words = (mb s m).h2c.words) ∧
    t.sys = s.sys ∧ t.grid = s.grid ∧ t.setpt = s.setpt ∧ t.quench = s.quench ∧ t.radio = s.radio ∧ t.twin = s.twin)

/-- R444, R486, R488, R489, R493, R494, R495, R500: enabling a command queue sets TAIL and FETCH to 0 and COMMIT to 0xFFFF_FFFF; a
TAIL too far ahead is ignored; a running queue fetches the next entry; a flush consumes what a halted queue, or one resumed in
the same cycle, has not run; a disabled queue stops, and an enable waits for that. Enabling an event queue sets WRITE and HEAD
to 0; a HEAD frees the entries before it, and one beyond WRITE is ignored; completions that waited are posted as room appears;
the vector is signalled COAL_US after the first pending entry. -/
def Obligations.HostQueues : Prop :=
  (∀ (s : State) (n : Fin 16) (w : Word), Running s → (cq s n).en = false → (cq s n).stopping = false → (cq s n).state ≠ .retired → w.getLsbD 31 = true →
    After (.cqEnable n w) s fun t => cq t n = { cq s n with
      en := true, state := .run, tail := 0, fetch := 0, commit := 0xFFFFFFFF, owner := w.toNat / 2 ^ 24 % 16, sizeLog2 := w.toNat % 16 } ∧
      (∀ j, j ≠ n.val → cq t j = cq s j) ∧ t = { s with hostif := t.hostif }) ∧
  (∀ (s : State) (n : Fin 16) (w : Word), Running s → (cq s n).en = false → (cq s n).stopping = true → (cq s n).state ≠ .retired → w.getLsbD 31 = true →
    After (.cqEnable n w) s fun t => (cq t n).state = .pending ∧ (cq t n).en = false ∧ (cq t n).entries = (cq s n).entries) ∧
  (∀ (s : State) (n : Fin 16) (w : Word), Running s → (cq s n).state = .retired → (cq s n).en = false → After (.cqEnable n w) s fun t => (cq t n).en = false ∧ (cq t n).state = .retired) ∧
  (∀ (s : State) (n : Fin 16) (w : Word), Running s → (cq s n).en = true → (cq s n).state ≠ .retired → w.getLsbD 31 = false →
    After (.cqEnable n w) s fun t => (cq t n).en = false ∧ ((cq s n).entries = [] → (cq s n).state ≠ .pending → (cq t n).state = .off ∧ (cq t n).stopping = false) ∧
      ((cq s n).entries ≠ [] → (cq t n).stopping = true ∧ (cq t n).entries = (cq s n).entries)) ∧
  (∀ (s : State) (n : Fin 16) (w : Word), Running s → (cq s n).en = true → w.getLsbD 31 = true → exec (.cqEnable n w) s = .next s) ∧
  (∀ (s : State) (n : Fin 16) (x : Word), Running s →
    (2 ^ (cq s n).sizeLog2 < (x - ((cq s n).commit + 1)).toNat → After (.tailWrite n x) s fun t => cq t n = { cq s n with overfill := true } ∧ t = { s with hostif := t.hostif }) ∧
    ((x - ((cq s n).commit + 1)).toNat ≤ 2 ^ (cq s n).sizeLog2 → After (.tailWrite n x) s fun t => cq t n = { cq s n with tail := x } ∧ t = { s with hostif := t.hostif })) ∧
  (∀ (s : State) (n : Fin 16) (raw : Bytes), Running s →
    ((cq s n).state ≠ .run ∨ (cq s n).stopping = true ∨ (cq s n).fetch = (cq s n).tail ∨ 2 ^ (cq s n).sizeLog2 ≤ ((cq s n).fetch - ((cq s n).commit + 1)).toNat ∨
      dmaOk s (cq s n).owner = false ∨ sramTesting s n = true → exec (.entryFetch n raw) s = .next s) ∧
    ((cq s n).state = .run → (cq s n).stopping = false → (cq s n).fetch ≠ (cq s n).tail → ((cq s n).fetch - ((cq s n).commit + 1)).toNat < 2 ^ (cq s n).sizeLog2 →
      dmaOk s (cq s n).owner = true → sramTesting s n = false → After (.entryFetch n raw) s fun t => (cq t n).fetch = (cq s n).fetch + 1 ∧ (cq t n).commit = (cq s n).commit ∧
        (cq t n).entries.map CmdEntry.raw = (cq s n).entries.map CmdEntry.raw ++ [padTo 64 raw] ∧ countOf t 0x0E0034 0 = countOf s 0x0E0034 0 + 1 ∧
        t.grid.allots = s.grid.allots ∧ t.sys = s.sys)) ∧
  (∀ (s : State) (n : Fin 16), Running s →
    (∀ resumed, (cq s n).state = .halted ∨ resumed = true ∧ (cq s n).state = .run ∧ (cq s n).entries = [] ∧ (cq s n).fetch = (cq s n).commit + 1 →
      After (.flush n resumed) s fun t => cq t n = { cq s n with fetch := (cq s n).tail, commit := (cq s n).tail - 1, entries := [], flushed := true } ∧
        t = { s with hostif := t.hostif }) ∧
    ((cq s n).state ≠ .halted → exec (.flush n false) s = .next s)) ∧
  (∀ (s : State) (q : Fin 16) (w : Word), Running s → (eq_ s q).en = false → (eq_ s q).state ≠ .retired → w.getLsbD 31 = true → s.fault.held = [] →
    After (.eqEnable q w) s fun t => eq_ t q = { eq_ s q with
      en := true, state := .run, head := 0, write := 0, ring := [], pend := 0, solution := w.getLsbD 30 && q.val != 0, owner := w.toNat / 2 ^ 24 % 16
      coalN := w.toNat / 2 ^ 16 % 256, coalUs := w.toNat / 2 ^ 4 % 2 ^ 12, sizeLog2 := w.toNat % 16 } ∧ (∀ j, j ≠ q.val → eq_ t j = eq_ s j) ∧ t = { s with hostif := t.hostif }) ∧
  (∀ (s : State) (q : Fin 16) (w : Word), Running s → (eq_ s q).en = true → w.getLsbD 31 = false → After (.eqEnable q w) s fun t =>
    (eq_ t q).en = false ∧ (eq_ t q).ring = [] ∧ (eq_ t q).state = (if (eq_ s q).state = .retired then .retired else .off) ∧ t = { s with hostif := t.hostif }) ∧
  (∀ (s : State) (q : Fin 16) (h : Word), Running s →
    (((eq_ s q).write - (eq_ s q).head).toNat < (h - (eq_ s q).head).toNat → After (.headWrite q h) s fun t =>
      eq_ t q = { eq_ s q with badHead := true } ∧ t = { s with hostif := t.hostif }) ∧
    ((h - (eq_ s q).head).toNat ≤ ((eq_ s q).write - (eq_ s q).head).toNat → s.fault.held = [] → After (.headWrite q h) s fun t =>
      (eq_ t q).head = h ∧ (eq_ t q).write = (eq_ s q).write ∧ (eq_ t q).ring = (eq_ s q).ring.drop (h - (eq_ s q).head).toNat ∧ t.counts = s.counts ∧ t.sys = s.sys)) ∧
  (∀ (s : State) (q n : Fin 16) (bs : Bytes), Running s → (cq s n).heldComp = [(q.val, bs)] → (∀ j, j ≠ n.val → (cq s j).heldComp = []) →
    (postable s q = false → After (.eventPost q) s fun t => (cq t n).heldComp = [(q.val, bs)] ∧ t.counts = s.counts) ∧
    ((eq_ s q).en = true → (eq_ s q).solution = false → eqRoom s q = true → After (.eventPost q) s fun t => (cq t n).heldComp = [] ∧
      (eq_ t q).ring = (eq_ s q).ring ++ [padTo 64 bs] ∧ (eq_ t q).write = (eq_ s q).write + 1 ∧ countOf t 0x0E0034 2 = countOf s 0x0E0034 2 + 1 ∧ t.sys = s.sys)) ∧
  (∀ (s : State) (q : Fin 16), Running s → ((eq_ s q).pend = 0 → exec (.coalesceTimeout q) s = .next s) ∧
    ((eq_ s q).pend ≠ 0 → After (.coalesceTimeout q) s fun t => eq_ t q = { eq_ s q with pend := 0 } ∧ kget t.hostif.msix q = some ((kget s.hostif.msix q).getD 0 + 1) ∧
      t.clk = max s.clk ((eq_ s q).pendSince + (eq_ s q).coalUs * 1000) ∧ t.sys = s.sys)) ∧
  (∀ (s : State) (q : Nat) (bs : Bytes), (eq_ s 0).solution = false → (eq_ s q).en = false ∨ (eq_ s q).solution = true → q ≠ 0 →
    (eq_ s 0).en = true → q < 16 → (eq_ (postEvent q bs s) 0).ring = (eq_ s 0).ring ++ [padTo 64 bs] ∧ eq_ (postEvent q bs s) q = eq_ s q ∧
      countOf (postEvent q bs s) 0x0E0034 4 = countOf s 0x0E0034 4 + 1)

/-- R441, R443, R491, R492, R496, R497: the oldest entry of a queue commits: with its failure and no effect, at once for NOP, for
a FENCE once what it waits on has committed, for RX_BUF as its buffer joins the owner's pool, for TX_FRAME as the switch
admits or refuses the frame, and not while lookups are held. -/
def Obligations.EntriesCommit : Prop :=
  (∀ (s : State) (n : Fin 16) (e : CmdEntry) (l : List CmdEntry), Running s → (cq s n).heldComp = [] → (cq s n).state ≠ .halted → (cq s n).entries = e :: l →
    let done (i : Instr) (r : Nat) : Prop := After i s fun t => (cq t n).commit = e.seq ∧ (cq t n).entries.map CmdEntry.raw = l.map CmdEntry.raw ∧
      countOf t 0x0E0034 1 = countOf s 0x0E0034 1 + 1 ∧ t.sys = s.sys ∧
      ((byteAt e.raw 5 % 2 = 0 ∨ r ≠ 0) → postable s (byteAt e.raw 6 % 16) = false → (cq t n).heldComp = [(byteAt e.raw 6 % 16, completion n e { hresult := r, result := if r = 0 then 1 else 0 })])
    let stays (t : State) : Prop := (cq t n).entries.map CmdEntry.raw = l.map CmdEntry.raw
    (cq s n).stopping = false →
    (entryCheck e ≠ 0 → done (.commandCommit n) (entryCheck e)) ∧
    (entryCheck e = 0 → e.target = 0x0E → e.op = 0 → done (.nop n) 0) ∧
    (isFence e = true → fenceReady s e = true → done (.fence n) 0) ∧
    (isFence e = true → fenceReady s e = false → exec (.fence n) s = .next s) ∧
    (entryCheck e = 0 → e.target = 0x0A → e.op = 2 → done (.rxBuf n) 0 ∧ After (.rxBuf n) s fun t => stays t ∧
      let b : RxBuf := { len := leAt e.raw 0x16 2, addr := BitVec.ofNat 64 (leAt e.raw 0x18 8), tag := BitVec.ofNat 64 (leAt e.raw 8 8) }
      if (cq s n).owner = 1 then t.hostif.hostPool = s.hostif.hostPool ++ [b] ∧ t.hostif.corePool = s.hostif.corePool
      else t.hostif.corePool = s.hostif.corePool ++ [b] ∧ t.hostif.hostPool = s.hostif.hostPool) ∧
    (∀ bs, entryCheck e = 0 → e.target = 0x0A → e.op = 1 → lookupsHeld s = true → exec (.txFrame n bs) s = .next s) ∧
    (∀ bs, entryCheck e = 0 → e.target = 0x0A → e.op = 1 → lookupsHeld s = false → After (.txFrame n bs) s fun t => (cq t n).commit = e.seq ∧ stays t ∧ t.sys = s.sys ∧
      countOf t 0x0E0034 1 = countOf s 0x0E0034 1 + 1)) ∧
  (∀ (s : State) (n : Fin 16) (bs : Bytes), Running s → (cq s n).heldComp = [] → (cq s n).entries = [] ∨ (cq s n).state = .halted →
    exec (.commandCommit n) s = .next { s with hostif := { s.hostif with cqs := vmod s.hostif.cqs n (fun c => { c with heldComp := [] }) } } ∧
    exec (.nop n) s = .next s ∧ exec (.fence n) s = .next s ∧ exec (.rxBuf n) s = .next s ∧ exec (.txFrame n bs) s = .next s)

/-! ### Geode (17_geode_keys.md) -/

/-- R503: a use of a slot is refused by the first check that fails: EMPTY, DENIED_MASTER, DENIED_WORLD, DENIED_LC, USAGE, TYPE. -/
def Obligations.SlotUse : Prop :=
  ∀ (s : State) (n mbit usage : Nat) (types : List Nat) (tr : Bool), ∀ x : Option Slot, kget s.geode.slots n = x →
    let w := (x.map (fun y => y.attr)).getD 0
    let life : Bool := match s.geode.fuses.life with | .factory => w.getLsbD 23 | .owned => w.getLsbD 24 | .field => w.getLsbD 25 | .returned => w.getLsbD 26 | _ => false
    (slotCheck s n mbit tr usage types = .empty ↔ x = none) ∧
    (slotCheck s n mbit tr usage types = .deniedMaster ↔ x ≠ none ∧ w.getLsbD mbit = false) ∧
    (slotCheck s n mbit tr usage types = .deniedWorld ↔ x ≠ none ∧ w.getLsbD mbit = true ∧ w.getLsbD (if tr then 21 else 22) = false) ∧
    (slotCheck s n mbit tr usage types = .deniedLc ↔ x ≠ none ∧ w.getLsbD mbit = true ∧ w.getLsbD (if tr then 21 else 22) = true ∧ life = false) ∧
    (slotCheck s n mbit tr usage types = .usage ↔ x ≠ none ∧ w.getLsbD mbit = true ∧ w.getLsbD (if tr then 21 else 22) = true ∧ life = true ∧ w.toNat % 4 ≠ usage) ∧
    (slotCheck s n mbit tr usage types = .type ↔ x ≠ none ∧ w.getLsbD mbit = true ∧ w.getLsbD (if tr then 21 else 22) = true ∧ life = true ∧ w.toNat % 4 = usage ∧ w.toNat / 4 % 16 ∉ types) ∧
    (slotCheck s n mbit tr usage types = .done ↔ x ≠ none ∧ w.getLsbD mbit = true ∧ w.getLsbD (if tr then 21 else 22) = true ∧ life = true ∧ w.toNat % 4 = usage ∧ w.toNat / 4 % 16 ∈ types)

/-- R508, R514, R505, R506, R516: the key commands: what each needs, where it writes, and that it leaves every other slot, the
fuses and the mode; each clears the master's KEY_BUF, and a refused one counts and changes no slot. Of two masters' commands
in one cycle the second is refused with BUSY. Only the host draws a challenge and opens its world, with the right response and
fewer than eight wrong ones; it closes on CLOSE; a slot whose copies both fail is erased. Where a clause rests on a choice of
the model, it follows assumption log 8 or 9. -/
def Obligations.KeyCommandsAndHostWorld : Prop :=
  (∀ (s : State) (a : Access) (r same : Bool) (src n : Fin 128), Running s → ∀ i ∈ [Instr.writeKey a n same, .erase a n same, .derive a r src n same, .wrap a src n same, .unwrap a src n same, .pubkey a n same],
    After i s fun t => t.sys = s.sys ∧ t.geode.fuses = s.geode.fuses ∧ t.geode.policy = s.geode.policy ∧ (gbufs t a.master).keyBuf = [] ∧ regBit t 0x0F0160 0 = true ∧
      (∀ j, j ≠ n.val → kget t.geode.slots j = kget s.geode.slots j) ∧
      (t.geode.result ≠ .done → kget t.geode.slots n = kget s.geode.slots n ∧ countOf t 0x0F0154 1 = countOf s 0x0F0154 1 + 1) ∧
      (t.geode.result = .done → t.counts = s.counts) ∧ (same = true → t.geode.result = .busy)) ∧
  (∀ (s : State) (a : Access) (n : Fin 128), Running s →
    let w := (gbufs s a.master).attr
    let k := (gbufs s a.master).keyBuf
    let ty := w.toNat / 4 % 16
    let scalar : Prop := ty = 3 → 0 < beNat (padTo 48 k) ∧ beNat (padTo 48 k) < p384N
    (trusted s a = false → After (.writeKey a n false) s fun t => t.geode.result = .deniedWorld) ∧
    (trusted s a = true → ¬ (1 ≤ ty ∧ ty ≤ 4 ∧ scalar) → After (.writeKey a n false) s fun t => t.geode.result = .badParam) ∧
    (trusted s a = true → 1 ≤ ty → ty ≤ 4 → scalar → (kget s.geode.slots n).isSome = true → After (.writeKey a n false) s fun t => t.geode.result = .occupied) ∧
    (∀ p, trusted s a = true → 1 ≤ ty → ty ≤ 4 → scalar → kget s.geode.slots n = none → kget s.geode.policy n = some p → attrCore p.toNat ≠ attrCore w.toNat →
      After (.writeKey a n false) s fun t => t.geode.result = .attrMismatch) ∧
    (trusted s a = true → 1 ≤ ty → ty ≤ 4 → scalar → kget s.geode.slots n = none → (∀ p, kget s.geode.policy n = some p → attrCore p.toNat = attrCore w.toNat) →
      After (.writeKey a n false) s fun t => t.geode.result = .done ∧
        ∃ x, kget t.geode.slots n = some x ∧ x.key = padTo (if ty = 1 then 16 else if ty = 3 then 48 else 32) k ∧ x.attr.getLsbD 7 = true ∧ attrCore x.attr.toNat = attrCore w.toNat)) ∧
  (∀ (s : State) (a : Access) (n : Fin 128), Running s →
    (trusted s a = true ∨ slotOwner s n (masterBit a.master) false = .done → After (.erase a n false) s fun t => t.geode.result = .done ∧ kget t.geode.slots n = none) ∧
    (trusted s a = false → slotOwner s n (masterBit a.master) false ≠ .done → After (.erase a n false) s fun t => t.geode.result = slotOwner s n (masterBit a.master) false)) ∧
  (∀ (s : State) (a : Access) (src n : Fin 128) (k : Bytes), Running s → trusted s a = true → currentRoot s.geode.fuses = some k →
    let b := gbufs s a.master
    1 ≤ b.labelLen → b.labelLen ≤ 32 → b.ctxLen ≤ 32 → b.attr.toNat / 4 % 16 = 2 → kget s.geode.slots n = none → kget s.geode.policy n = none →
    After (.derive a true src n false) s fun t => t.geode.result = .done ∧
      ((kget t.geode.slots n).map (fun x => x.key)) = some (padTo 32 (kdf k (bytesAt b.keyBuf 0 b.labelLen) (bytesAt b.keyBuf 32 b.ctxLen) 256))) ∧
  (∀ (s : State) (a : Access) (src n : Fin 128), Running s → slotCheck s src (masterBit a.master) (trusted s a) useWrap kekTypes = .done →
    (∀ x, slotOwner s n (masterBit a.master) (trusted s a) = .done → kget s.geode.slots n = some x → After (.wrap a src n false) s fun t =>
      (x.attr.getLsbD 6 = false → t.geode.result = .notExportable) ∧
      (x.attr.getLsbD 6 = true → t.geode.result = .done ∧ (gbufs t a.master).wrap = padTo 104 (Config.kwpWrap (slotKey s src) (leBytes 4 x.attr.toNat ++ x.key)))) ∧
    (argValue s a.master ≤ 104 → (kget s.geode.slots n).isSome = true → After (.unwrap a src n false) s fun t => t.geode.result = .occupied) ∧
    (argValue s a.master ≤ 104 → kget s.geode.slots n = none → kget s.geode.policy n = none → After (.unwrap a src n false) s fun t =>
      (Config.kwpOpen (slotKey s src) (bytesAt (gbufs s a.master).wrap 0 (argValue s a.master)) = none → t.geode.result = .unwrapFail) ∧
      (∀ p, Config.kwpOpen (slotKey s src) (bytesAt (gbufs s a.master).wrap 0 (argValue s a.master)) = some p → leAt p 0 4 / 4 % 16 = 2 → p.length = 36 →
        t.geode.result = .done ∧ (kget t.geode.slots n).map (fun x => x.key) = some (p.drop 4)))) ∧
  (∀ (s : State) (a : Access) (n : Fin 128), Running s → slotOwner s n (masterBit a.master) (trusted s a) = .done → After (.pubkey a n false) s fun t =>
    (slotAttr s n / 4 % 16 ≠ 3 → t.geode.result = .type) ∧
    (slotAttr s n / 4 % 16 = 3 → t.geode.result = .done ∧ (gbufs t a.master).wrap = padTo 104 (padTo 97 (Config.p384Public (slotKey s n))))) ∧
  (∀ (s : State) (a : Access), Running s → a.master ≠ .host →
    exec (.challengeRead a) s = .next { s with rdata := 0 } ∧ exec (.openWorld a) s = .next s ∧ exec (.closeWorld a) s = .next s) ∧
  (∀ (s : State) (a : Access), Running s → a.master = .host →
    (After (.challengeRead a) s fun t => t.geode.chal = BitVec.ofNat 128 (Config.freeNat s.fresh) ∧ t.rdata = t.geode.chal.truncate 32 ∧ t.geode.hostOpen = s.geode.hostOpen ∧
      t.fresh = s.fresh + 1) ∧
    exec (.closeWorld a) s = .next { s with geode := { s.geode with hostOpen := false } } ∧
    (8 ≤ s.geode.fails → exec (.openWorld a) s = .next { s with geode := { s.geode with result := .deniedWorld } }) ∧
    (s.geode.fails < 8 → After (.openWorld a) s fun t =>
      (∀ k, currentRoot s.geode.fuses = some k → leBytes 16 s.geode.resp.toNat =
        padTo 16 (Config.cmac (kdf k labelHostAuth (uidBytes s) 256) (leBytes 16 s.geode.chal.toNat ++ uidBytes s)) → t = { s with geode := { s.geode with hostOpen := true } }) ∧
      (∀ k, currentRoot s.geode.fuses = some k → leBytes 16 s.geode.resp.toNat ≠
        padTo 16 (Config.cmac (kdf k labelHostAuth (uidBytes s) 256) (leBytes 16 s.geode.chal.toNat ++ uidBytes s)) →
        t.geode = { s.geode with fails := s.geode.fails + 1 } ∧ regBit t 0x0F0160 1 = true ∧ t.sys = s.sys) ∧
      (currentRoot s.geode.fuses = none → t.geode = { s.geode with fails := s.geode.fails + 1 }))) ∧
  (∀ (s : State) (n : Fin 128) (c : Fin 3), Running s →
    (kget s.geode.slots n = none ∨ c = 0 → exec (.maskRenewal n c) s = .next s) ∧
    ((kget s.geode.slots n).isSome = true → c = 1 → After (.maskRenewal n c) s fun t => t = { s with counts := t.counts } ∧ countOf t 0x0F0154 2 = countOf s 0x0F0154 2 + 1) ∧
    ((kget s.geode.slots n).isSome = true → c = 2 → After (.maskRenewal n c) s fun t => kget t.geode.slots n = none ∧ countOf t 0x0F0154 3 = countOf s 0x0F0154 3 + 1 ∧
      regBit t 0x0F0160 3 = true ∧ t.geode.fuses = s.geode.fuses ∧ t.sys = s.sys))

/-- R509, R510, R511, R512, R513: the fuse commands need a TRUSTED caller in RESET or MAINTENANCE; a hash entry is added and
revoked, never changed; the minimum security version only rises, at most 64 times; the life cycle takes only the moves of the
table, and erases the slots that the new state leaves out. Where a clause rests on a choice of the model, it follows
assumption log 9. -/
def Obligations.FuseCommands : Prop :=
  (∀ (s : State) (a : Access), Running s → ∀ i ∈ [Instr.addKeyHash a false, .revokeHash a false, .raiseSecver a false, .lcAdvance a false],
    (trusted s a = false → After i s fun t => t.geode.result = .deniedWorld ∧ t.geode.fuses = s.geode.fuses ∧ t.geode.slots = s.geode.slots) ∧
    (trusted s a = true → s.sys.mode ≠ .reset → s.sys.mode ≠ .maintenance → After i s fun t => t.geode.result = .mode ∧ t.geode.fuses = s.geode.fuses ∧ t.geode.slots = s.geode.slots)) ∧
  (∀ (s : State) (a : Access), Running s → ∀ i ∈ [Instr.addKeyHash a true, .revokeHash a true, .raiseSecver a true, .lcAdvance a true],
    After i s fun t => t.geode.result = .busy ∧ t.geode.fuses = s.geode.fuses ∧ t.geode.slots = s.geode.slots ∧ (gbufs t a.master).keyBuf = []) ∧
  (∀ (s : State) (a : Access), Running s → trusted s a = true → s.sys.mode = .reset ∨ s.sys.mode = .maintenance →
    let b := gbufs s a.master
    let v := b.value.toNat
    let f := s.geode.fuses
    (8 ≤ f.hashes.length → After (.addKeyHash a false) s fun t => t.geode.result = .fuseExhausted ∧ t.geode.fuses = f) ∧
    (f.hashes.length < 8 → After (.addKeyHash a false) s fun t => t.geode.result = .done ∧
      t.geode.fuses = { f with hashes := f.hashes ++ [{ hash := padTo 48 b.keyBuf, life := BitVec.ofNat 4 (b.attr.toNat / 2 ^ 23 % 16), revoked := false }] }) ∧
    (∀ h, f.hashes[v % 8]? = some h → hashServes h f.life = true → (f.hashes.filter (fun x => hashServes x f.life)).length ≤ 1 →
      After (.revokeHash a false) s fun t => t.geode.result = .lastKey ∧ t.geode.fuses = f) ∧
    (∀ h, f.hashes[v % 8]? = some h → ¬ (hashServes h f.life = true ∧ (f.hashes.filter (fun x => hashServes x f.life)).length ≤ 1) →
      After (.revokeHash a false) s fun t => t.geode.result = .done ∧ t.geode.fuses = { f with hashes := t.geode.fuses.hashes } ∧
        t.geode.fuses.hashes[v % 8]? = some { h with revoked := true } ∧ (∀ j, j ≠ v % 8 → t.geode.fuses.hashes[j]? = f.hashes[j]?)) ∧
    (v ≤ f.secMin ∨ s.parison.inForce < v → After (.raiseSecver a false) s fun t => t.geode.result = .badParam ∧ t.geode.fuses = f) ∧
    (f.secMin < v → v ≤ s.parison.inForce → 64 ≤ f.raises → After (.raiseSecver a false) s fun t => t.geode.result = .fuseExhausted ∧ t.geode.fuses = f) ∧
    (f.secMin < v → v ≤ s.parison.inForce → f.raises < 64 → After (.raiseSecver a false) s fun t =>
      t.geode.result = .done ∧ t.geode.fuses = { f with secMin := v, raises := f.raises + 1 }) ∧
    (v % 8 = 5 → f.life = .factory ∨ f.life = .owned ∨ f.life = .field ∨ f.life = .returned → After (.lcAdvance a false) s fun t =>
      t.geode.result = .done ∧ t.geode.fuses = { f with life := .scrapped } ∧ t.geode.slots = [] ∧ t.geode.hostOpen = false) ∧
    (v % 8 = 2 → f.life = .factory → hasHash s .owned = false → After (.lcAdvance a false) s fun t => t.geode.result = .noKeyHash ∧ t.geode.fuses = f) ∧
    (v % 8 = 2 → f.life = .factory → hasHash s .owned = true → After (.lcAdvance a false) s fun t => t.geode.result = .done ∧
      t.geode.fuses = { f with life := .owned, rootOwner := (padTo 64 b.keyBuf).take 32 } ∧ t.geode.hostOpen = false ∧
      (∀ x, x ∈ t.geode.slots ↔ x ∈ s.geode.slots ∧ x.2.attr.getLsbD 24 = true)) ∧
    (v % 8 = 3 → f.life = .owned → hasHash s .field = true → After (.lcAdvance a false) s fun t => t.geode.result = .done ∧
      t.geode.fuses = { f with life := .field, rootField := (padTo 64 b.keyBuf).take 32 } ∧ (∀ x, x ∈ t.geode.slots ↔ x ∈ s.geode.slots ∧ x.2.attr.getLsbD 25 = true)) ∧
    (v % 8 = 4 → f.life = .field → After (.lcAdvance a false) s fun t =>
      let token := padTo 16 (Config.cmac (kdf f.rootReturn labelLcReturn (uidBytes s) 256) (uidBytes s))
      ((padTo 64 b.keyBuf).take 16 = token → t.geode.result = .done ∧ t.geode.fuses.life = .returned ∧ t.geode.slots = []) ∧
      ((padTo 64 b.keyBuf).take 16 ≠ token → t.geode.result = .token ∧ t.geode.fuses = f)) ∧
    (v % 8 = 0 ∨ v % 8 = 1 ∨ 5 < v % 8 ∨ v % 8 = 2 ∧ f.life ≠ .factory ∨ v % 8 = 3 ∧ f.life ≠ .owned ∨ v % 8 = 4 ∧ f.life ≠ .field → After (.lcAdvance a false) s fun t =>
      t.geode.result = .lifeCycle ∧ t.geode.fuses = f))

/-! ### Assay (18_assay_metering.md) -/

/-- R521, R522, R523, R524, R525, R527, R528: an active-going edge of A counts one pulse, forward or reverse, unless it comes too
soon, which counts an overrun; a stuck input is flagged; each total goes to the older MRAM copy; after SUPPLY_FAIL no pulse is
accepted and the totals stand in the MRAM. -/
def Obligations.PulsesAndTotals : Prop :=
  (∀ (s : State) (n : Fin 16) (b h : Bool), s.aon.powered = true → (asChan s n).shutting = false →
    (s.assay.supplyFail = true ∨ b = false ∧ ((asChan s n).mode = .off ∨ (asChan s n).en = false) → exec (.pinLevelAccept n b h) s = .next s) ∧
    (s.assay.supplyFail = false → b = true → After (.pinLevelAccept n b h) s fun t => asChan t n = { asChan s n with levelB := h } ∧ (∀ j, j ≠ n.val → asChan t j = asChan s j) ∧
      t = { s with assay := t.assay }) ∧
    (s.assay.supplyFail = false → b = false → (asChan s n).mode ≠ .off → (asChan s n).en = true → h = (asChan s n).aLow → After (.pinLevelAccept n b h) s fun t =>
      asChan t n = { asChan s n with levelA := h, stuck := false } ∧ t = { s with assay := t.assay }) ∧
    (s.assay.supplyFail = false → b = false → (asChan s n).mode ≠ .off → (asChan s n).en = true → h ≠ (asChan s n).aLow → (asChan s n).levelA = h →
      After (.pinLevelAccept n b h) s fun t => asChan t n = asChan s n ∧ t = { s with assay := t.assay }) ∧
    (s.assay.supplyFail = false → b = false → (asChan s n).mode ≠ .off → (asChan s n).en = true → h ≠ (asChan s n).aLow → (asChan s n).levelA ≠ h →
      (∀ c, (asChan s n).countAt = some c → c + 500000 ≤ s.clk) → After (.pinLevelAccept n b h) s fun t =>
      let forward : Bool := (asChan s n).mode == .single || (asChan s n).levelB == (asChan s n).dirInv
      (asChan t n).fwd = (asChan s n).fwd + (if forward then 1 else 0) ∧ (asChan t n).rev = (asChan s n).rev + (if forward then 0 else 1) ∧ (asChan t n).dirty = true ∧
      (asChan t n).countAt = some s.clk ∧ (asChan t n).levelA = h ∧ (∀ j, j ≠ n.val → asChan t j = asChan s j) ∧ t.counts = s.counts ∧ t.sys = s.sys ∧
      (s.assay.engine = true → (asChan t n).qs = (asChan s n).qs.map (stepQuantity forward)) ∧ (s.assay.engine = false → (asChan t n).qs = (asChan s n).qs) ∧
      (forward = false → (asChan s n).sawRev = false → regBit t 0x1000A0 2 = true)) ∧
    (∀ c, s.assay.supplyFail = false → b = false → (asChan s n).mode ≠ .off → (asChan s n).en = true → h ≠ (asChan s n).aLow → (asChan s n).levelA ≠ h →
      (asChan s n).countAt = some c → s.clk < c + 500000 → After (.pinLevelAccept n b h) s fun t =>
      asChan t n = { asChan s n with levelA := h, activeAt := s.clk, overrun := true, sawOvr := true } ∧ countOf t 0x100018 n = countOf s 0x100018 n + 1 ∧ regBit t 0x1000A0 0 = true)) ∧
  (∀ (s : State) (n : Fin 16), s.aon.powered = true →
    (s.assay.stuckS = 0 ∨ (asChan s n).counts = false ∨ (asChan s n).stuck = true ∨ (asChan s n).levelA = (asChan s n).aLow → exec (.stuck n) s = .next s) ∧
    (s.assay.stuckS ≠ 0 → (asChan s n).counts = true → (asChan s n).stuck = false → (asChan s n).levelA ≠ (asChan s n).aLow → After (.stuck n) s fun t =>
      asChan t n = { asChan s n with stuck := true, sawStuck := true } ∧ t.clk = max s.clk ((asChan s n).activeAt + s.assay.stuckS * 10 ^ 9) ∧ regBit t 0x1000A0 1 = true ∧ t.sys = s.sys)) ∧
  (∀ (s : State) (n : Fin 16) (ok : Bool), s.aon.powered = true → (asChan s n).dirty = false → exec (.rawTotalStored n ok) s = .next s) ∧
  (∀ (s : State) (n : Fin 16), s.aon.powered = true → (asChan s n).dirty = true →
    (s.assay.unstored = false → After (.rawTotalStored n true) s fun t =>
      let c := asChan s n
      let x : TotalCopy := { seq := max c.copy0.seq c.copy1.seq + 1, fwd := c.fwd, rev := c.rev, good := true }
      (asChan t n = { c with copy0 := x, dirty := false } ∨ asChan t n = { c with copy1 := x, dirty := false }) ∧ (loadChan (asChan t n)).fwd = c.fwd ∧ (loadChan (asChan t n)).rev = c.rev ∧
      (c.copy0.good = true → c.copy1.good = false ∨ c.copy1.seq < c.copy0.seq → (asChan t n).copy0 = c.copy0) ∧ t = { s with assay := t.assay }) ∧
    (s.assay.unstored = true → After (.rawTotalStored n true) s fun t => t.assay.unstored = false ∧ (∀ j, j < 16 → (asChan t j).dirty = false ∧ (asChan t j).fwd = (asChan s j).fwd ∧
      (asChan t j).rev = (asChan s j).rev)) ∧
    (s.assay.unstored = false → After (.rawTotalStored n false) s fun t => t.assay.unstored = true ∧ regBit t 0x1000A0 4 = true ∧ (asChan t n).dirty = true ∧ (asChan t n).fwd = (asChan s n).fwd ∧
      (asChan t n).rev = (asChan s n).rev)) ∧
  (∀ s : State, s.aon.powered = true → After .supplyFail s fun t => t.assay.supplyFail = true ∧ t.sys = s.sys ∧
    ∀ j, j < 16 → (asChan t j).fwd = (asChan s j).fwd ∧ (asChan t j).rev = (asChan s j).rev ∧ (s.assay.unstored = false → (asChan t j).dirty = false))

/-- R529, R530, R531: while the source count stays within 2^64 pulses of the base, and within 2^63 for NET, the value that each
pulse updates is the value recomputed from the base; a checkpoint keeps the value and makes it the base. Where a clause rests
on a choice of the model, it follows assumption log 6. -/
def Obligations.AccumulatorEqualsRecomputation : Prop :=
  (∀ (c : AsChan) (q : Quantity) (clk : Nat), q.source ≠ .off → q.val = valueFrom q (c.sourceCount q.source) →
    (q.source ≠ .net → (c.sourceCount q.source - q.baseP).toNat + 1 < 2 ^ 64) →
    (q.source = .net → -(2 ^ 63) < (c.sourceCount q.source - q.baseP).toInt ∧ (c.sourceCount q.source - q.baseP).toInt + 1 < 2 ^ 63) →
    (stepQuantity (countsForward c) q).val = valueFrom q ((countPulse true clk c).sourceCount q.source)) ∧
  (∀ (c : AsChan) (q : Quantity), (c.checkpoint q).val = q.val ∧ (q.source ≠ .off → c.recompute (c.checkpoint q) = c.checkpoint q))

/-- R530, R532, R533, R534, R536, R537, R69: checkpoints, the rebase that only a TRUSTED caller may make, intervals and their
records, snapshots, record reads, and a channel's enable. Of two masters' commands in one cycle the second is refused with
BUSY. Where a clause rests on a choice of the model, it follows assumption log 25. -/
def Obligations.AssayCommands : Prop :=
  (∀ s : State, Running s → (s.assay.engine = false → After (.checkpoint false) s fun t => t.assay = { s.assay with result := .mode } ∧ regBit t 0x1000A0 5 = true) ∧
    (s.assay.engine = true → After (.checkpoint false) s fun t => t.assay.result = .done ∧ (∀ j, j < 16 → asChan t j = checkpointChan (asChan s j)) ∧ t.sys = s.sys) ∧
    (s.assay.engine = false ∨ s.assay.ckptMs = 0 → exec .checkpointTick s = .next s) ∧
    (s.assay.engine = true → s.assay.ckptMs ≠ 0 → After .checkpointTick s fun t => (∀ j, j < 16 → asChan t j = checkpointChan (asChan s j)) ∧
      t.assay.nextCkpt = s.assay.nextCkpt + 1 ∧ t.sys = s.sys ∧ t.regs = s.regs)) ∧
  (∀ (s : State) (a : Access) (all : Bool) (n : Fin 16) (q : Fin 4), Running s → ∀ i ∈ [Instr.checkpoint true, .rebase a n q true, .closeInterval all n true],
    After i s fun t => t.assay = { s.assay with result := .busy } ∧ regBit t 0x1000A0 5 = true ∧ t.sys = s.sys) ∧
  (∀ (s : State) (a : Access) (n : Fin 16) (q : Fin 4), Running s → After (.rebase a n q false) s fun t => regBit t 0x1000A0 5 = true ∧
    (s.assay.engine = false ∨ s.sys.mode = .servitor → t.assay = { s.assay with result := .mode }) ∧
    (s.assay.engine = true → s.sys.mode ≠ .servitor → trusted s a = false ∨ a.master = .warden ∨ a.master = .pendant ∨ a.master = .frauri → t.assay = { s.assay with result := .denied }) ∧
    (s.assay.engine = true → s.sys.mode ≠ .servitor → mayRebase s a = true → (asChan s n).counts = false ∨ (quantity s n q).source = .off → t.assay = { s.assay with result := .off }) ∧
    (s.assay.engine = true → s.sys.mode ≠ .servitor → mayRebase s a = true → (asChan s n).counts = true → (quantity s n q).source ≠ .off →
      t.assay.result = .done ∧ (quantity t n q).val.extractLsb' 16 64 = (quantity s n q).offset ∧ (quantity t n q).val.extractLsb' 0 16 = 0 ∧
      (quantity t n q).base = (quantity t n q).val ∧ (quantity t n q).baseP = (asChan s n).sourceCount (quantity s n q).source ∧
      (∀ p, p ≠ q.val → quantity t n p = quantity s n p) ∧ (asChan t n).fwd = (asChan s n).fwd ∧ (asChan t n).rev = (asChan s n).rev)) ∧
  (∀ (s : State) (n : Fin 16) (all : Bool), Running s →
    (s.assay.engine = false ∨ s.sys.mode = .servitor → After (.closeInterval all n false) s fun t => t.assay = { s.assay with result := .mode }) ∧
    (s.assay.engine = true → s.sys.mode ≠ .servitor → (asChan s n).counts = false → After (.closeInterval false n false) s fun t => t.assay = { s.assay with result := .off }) ∧
    (s.assay.engine = true → s.sys.mode ≠ .servitor → (asChan s n).counts = true → After (.closeInterval false n false) s fun t => t.assay.result = .done ∧
      t.assay.irecNext = s.assay.irecNext + 1 ∧ t.assay.irecs.head? = some { seq := s.assay.irecNext, bytes := iRecord s n true, good := true } ∧
      (asChan t n).openFwd = (asChan s n).totalFwd ∧ (asChan t n).openRev = (asChan s n).totalRev ∧ (asChan t n).fwd = (asChan s n).fwd ∧ regBit t 0x1000A0 3 = true ∧
      (∀ j, j ≠ n.val → asChan t j = asChan s j)) ∧
    (s.assay.engine = true → s.sys.mode ≠ .servitor → After (.closeInterval true n false) s fun t => t.assay.result = .done ∧
      t.assay.irecNext = s.assay.irecNext + BitVec.ofNat 32 ((List.range 16).filter (fun j => (asChan s j).counts)).length)) ∧
  (∀ s : State, Running s → (s.assay.engine = false ∨ s.assay.intervalS = 0 → exec .intervalClose s = .next s) ∧
    (s.assay.engine = true → s.assay.intervalS ≠ 0 → After .intervalClose s fun t => t.assay.nextInt = s.assay.nextInt + 1 ∧ t.sys = s.sys ∧
      (s.sys.mode = .servitor → t.assay.irecs = s.assay.irecs) ∧
      (s.sys.mode ≠ .servitor → t.assay.irecNext = s.assay.irecNext + BitVec.ofNat 32 ((List.range 16).filter (fun j => (asChan s j).counts)).length))) ∧
  (∀ (s : State) (who : Master) (n : Fin 16), Running s → After (.assaySnapshot who n) s fun t => t = { s with assay := { s.assay with snaps := t.assay.snaps } } ∧
    t.assay.snaps.find? (fun x => x.master == who) = 
      some ⟨who, BitVec.ofNat 64 (now s), (asChan s n).totalFwd, (asChan s n).totalRev, (asChan s n).qs.map (fun q => q.val.extractLsb' 16 64)⟩ ∧
    (∀ x, x.master ≠ who → (x ∈ t.assay.snaps ↔ x ∈ s.assay.snaps))) ∧
  (∀ (s : State) (q : Word), Running s → After (.irecSelect q) s fun t => t.sys = s.sys ∧ t.assay.irecs = s.assay.irecs ∧
    (∀ r, s.assay.irecs.find? (fun x => x.seq == q) = some r → t.assay.irecData = r.bytes ∧ t.assay.irecValid = r.good ∧ t.assay.irecGone = false) ∧
    (s.assay.irecs.find? (fun x => x.seq == q) = none → t.assay.irecData = [] ∧ t.assay.irecValid = false ∧ t.assay.irecGone = true)) ∧
  (∀ (s : State) (n : Fin 16) (left : Nat), Running s →
    ((asChan s n).shutting = false → After (.assayChannelEnable n true left) s fun t => asChan t n = { asChan s n with en := true }) ∧
    ((asChan s n).shutting = true → s.clk < (asChan s n).shutAt → After (.assayChannelEnable n true left) s fun t => asChan t n = { asChan s n with pendingEn := true }) ∧
    ((asChan s n).shutting = false → (asChan s n).en = true → 0 < left → After (.assayChannelEnable n false left) s fun t =>
      asChan t n = { asChan s n with shutting := true, shutAt := s.clk + left }) ∧
    ((asChan s n).shutting = false → (asChan s n).en = true → (asChan s n).pendingEn = false → left = 0 → After (.assayChannelEnable n false left) s fun t =>
      (asChan t n).en = false ∧ (asChan t n).shutting = false) ∧
    ((asChan s n).shutting = false → (asChan s n).en = false → exec (.assayChannelEnable n false left) s = .next s))

/-! ### Strata (19_strata_recorder.md) -/

/-- R540, R542, R544, R547, R548, R550, R552: an event joins a queue of 256 or is counted as lost; the writer gives the oldest the
next SEQ and stores it in drift at SEQ mod DRIFT_N, in bedrock while there is room, and in its summaries, or in cairn alone,
index 0 of which is the MRAM's failure. An MRAM write that fails turns the writer to cairn, and the record keeps its SEQ
there. Events of one instant stand in ascending block index. CLEAR is for the host in its TRUSTED world and for cores in
machine mode, needs an area, is refused while the writer uses cairn or behind another master's in the same cycle, and writes
CLEARED first in what it clears; a write of STRATA_SUM_SEL copies one summary into the window. -/
def Obligations.StrataRecords : Prop :=
  (∀ (s : State) (code : BitVec 16) (src : BitVec 8) (sev : Fin 5) (a b c : Word), s.aon.powered = true →
    (s.strata.queue.length < 256 → After (.eventRecord code src sev a b c) s fun t => ∃ e l m, s.strata.queue = l ++ m ∧ t = { s with strata := { s.strata with queue := l ++ e :: m } } ∧
      (let before : StEvent → Bool := fun x => x.time == e.time && decide (e.code.toNat / 256 < x.code.toNat / 256)
       l.any before = false ∧ (m = [] ∨ (m.take 1).any before = true)) ∧
      e.code = code ∧ e.source = src ∧ e.sev.toNat % 16 = sev ∧ e.p0 = a ∧ e.p1 = b ∧ e.p2 = c ∧
      (s.aon.mainRun = true → s.aon.formed = true → e.time = BitVec.ofNat 64 (now s) ∧ e.sev.getLsbD 7 = false) ∧
      (s.aon.mainRun = false ∨ s.aon.formed = false → e.sev.getLsbD 7 = true)) ∧
    (256 ≤ s.strata.queue.length → After (.eventRecord code src sev a b c) s fun t => t.strata = { s.strata with lostDue := s.strata.lostDue + 1 } ∧
      countOf t 0x110028 0 = countOf s 0x110028 0 + 1 ∧ regBit t 0x110030 3 = true ∧ t.sys = s.sys)) ∧
  (∀ s : State, s.aon.powered = true → s.strata.queue = [] ∨ s.strata.sizes = none ∧ s.strata.inCairn = false → ∀ ok, exec (.recordStore ok) s = .next s) ∧
  (∀ (s : State) (e : StEvent) (l : List StEvent) (n lg : Nat), s.aon.powered = true → s.strata.queue = e :: l → s.strata.sizes = some (n, lg) → s.strata.inCairn = false →
    After (.recordStore true) s fun t =>
      let r : StRecord := { ev := e, seq := s.strata.next }
      t.strata.next = s.strata.next + 1 ∧ kget t.strata.drift (s.strata.next.toNat % 2 ^ lg) = some r ∧
      (∀ j, j ≠ s.strata.next.toNat % 2 ^ lg → kget t.strata.drift j = kget s.strata.drift j) ∧
      ((s.strata.next - s.strata.bedrockFirst).toNat < n → kget t.strata.bedrock (s.strata.next - s.strata.bedrockFirst).toNat = some r ∧
        ∀ j, j ≠ (s.strata.next - s.strata.bedrockFirst).toNat → kget t.strata.bedrock j = kget s.strata.bedrock j) ∧
      (n ≤ (s.strata.next - s.strata.bedrockFirst).toNat → t.strata.bedrock = s.strata.bedrock) ∧ t.strata.sums = sumAll s.strata e ∧ t.strata.cairn = s.strata.cairn ∧ t.sys = s.sys ∧
      (s.strata.lostDue = 0 → t.strata.queue = l) ∧
      (s.strata.lostDue ≠ 0 → l.length < 256 → t.strata.lostDue = 0 ∧ ∃ x : StEvent, t.strata.queue = insertEvent x l ∧ x.code = 0x1141 ∧ x.p0 = BitVec.ofNat 32 s.strata.lostDue)) ∧
  (∀ (s : State) (e : StEvent) (l : List StEvent), s.aon.powered = true → s.strata.queue = e :: l → s.strata.inCairn = true → s.strata.lostDue = 0 → ∀ ok, After (.recordStore ok) s fun t =>
    t.strata.next = s.strata.next + 1 ∧ t.strata.drift = s.strata.drift ∧ t.strata.bedrock = s.strata.bedrock ∧ t.strata.sums = s.strata.sums ∧
    t.strata.queue = l ∧ t.sys = s.sys ∧
    (let r : StRecord := { ev := e, seq := s.strata.next }
     if e.code = 0x1101 ∧ s.strata.cairnFirst = none then t.strata.cairnFirst = some r ∧ t.strata.cairn = s.strata.cairn
     else t.strata.cairnFirst = s.strata.cairnFirst ∧ r ∈ t.strata.cairn ∧ (s.strata.cairn.length < 511 → t.strata.cairn = s.strata.cairn ++ [r]) ∧
       (511 ≤ s.strata.cairn.length → t.strata.cairn.length = s.strata.cairn.length ∧ t.strata.cairnOver = s.strata.cairnOver + 1 ∧
         ∀ j, j ≠ s.strata.cairnNext % 511 → t.strata.cairn[j]? = s.strata.cairn[j]?))) ∧
  (∀ (s : State) (e : StEvent) (l : List StEvent) (z : Nat × Nat), s.aon.powered = true → s.strata.queue = e :: l → s.strata.inCairn = false → s.strata.sizes = some z →
    s.strata.lostDue = 0 → (resOf s .mram 0).state = .healthy → (recentTransients s (resOf s .mram 0)).length < 3 → After (.recordStore false) s fun t =>
    t.strata.inCairn = true ∧ t.strata.next = s.strata.next + 1 ∧ t.strata.queue = l ∧ t.strata.drift = s.strata.drift ∧ t.strata.bedrock = s.strata.bedrock ∧
    t.strata.sums = s.strata.sums ∧ (resOf t .mram 0).state = .testing ∧ t.strata.cairnFirst.toList ++ t.strata.cairn = [{ ev := e, seq := s.strata.next }] ∧ t.sys = s.sys) ∧
  (∀ (sel : StSel) (e : StEvent) (x : StSum), (sel.code ≠ e.code → sumAdd sel e x = x) ∧
    (sel.code = e.code → (sumAdd sel e x).count = (if x.count = 0xFFFFFFFF then x.count else x.count + 1) ∧
      sumLimit sel (sumAdd sel e x).min = min (sumLimit sel x.min) (sumValue sel e) ∧ sumLimit sel (sumAdd sel e x).max = max (sumLimit sel x.max) (sumValue sel e))) ∧
  (∀ (s : State) (a : Access) (m : BitVec 3), Running s →
    (∀ same, mayClear s a = false → exec (.strataClear a m same) s = .next { s with strata := { s.strata with result := .denied } }) ∧
    (∀ same, mayClear s a = true → m = 0 → exec (.strataClear a m same) s = .next { s with strata := { s.strata with result := .badParam } }) ∧
    (∀ same, mayClear s a = true → m ≠ 0 → s.strata.inCairn = true ∨ same = true → exec (.strataClear a m same) s = .next { s with strata := { s.strata with result := .busy } }) ∧
    (∀ n lg, mayClear s a = true → m ≠ 0 → s.strata.inCairn = false → s.strata.sizes = some (n, lg) → 0 < n → After (.strataClear a m false) s fun t =>
      t.strata.result = .done ∧ t.strata.next = s.strata.next + 1 ∧ t.strata.queue = s.strata.queue ∧ regBit t 0x110030 4 = true ∧ t.sys = s.sys ∧
      (∃ r : StRecord, r.seq = s.strata.next ∧ r.ev.code = 0x1140 ∧ r.ev.p0 = BitVec.ofNat 32 m.toNat ∧ r.ev.p1 = s.strata.next ∧
        kget t.strata.drift (s.strata.next.toNat % 2 ^ lg) = some r ∧ (m.getLsbD 0 = true → t.strata.bedrock = [(0, r)] ∧ t.strata.bedrockFirst = r.seq) ∧
        (m.getLsbD 1 = true → t.strata.drift = [(s.strata.next.toNat % 2 ^ lg, r)] ∧ t.strata.driftFirst = r.seq)) ∧
      (m.getLsbD 0 = false → t.strata.bedrockFirst = s.strata.bedrockFirst) ∧ (m.getLsbD 1 = false → t.strata.driftFirst = s.strata.driftFirst))) ∧
  (∀ (s : State) (a : Access), mayClear s a = true ↔ (a.master = .host ∧ (s.geode.hostOpen = true ∨ s.geode.fuses.life = .factory)) ∨ ((∃ k, a.master = .core k) ∧ a.mmode = true)) ∧
  (∀ (s : State) (k : Fin 64), Running s → After (.sumSelect k) s fun t => t = { s with regs := t.regs, strata := { s.strata with window := t.strata.window } } ∧
    regWord t 0x11002C = BitVec.ofNat 32 k ∧ (∀ off, off ≠ 0x11002C → regWord t off = regWord s off) ∧
    (s.strata.sumCount ≤ k → t.strata.window = List.replicate 160 0) ∧
    (k.val < s.strata.sumCount → t.strata.window = padTo 160 (sumBytes (nth s.strata.sels k {}) (nth s.strata.sums k {}))))

/-! ### Pins (20_pins_electrical.md) -/

/-- R564, R578, R584: an overcurrent holds a driver off without touching the vote or the latch, an open load is only reported; a
UART sends, receives and reads bytes through FIFOs of 64; the SMBus target answers Block Reads of 0x00 to 0x19 and no more; a
QUAD channel's B pin takes no status function. -/
def Obligations.DriversAndUarts : Prop :=
  (∀ (s : State) (d : Fin 4), s.aon.powered = true → (After (.driverOvercurrent d) s fun t => (driver t d).trip = true ∧ (driver t d).held = true ∧
      (d.val < 3 → (qch t d).out = false) ∧ (d.val = 3 → t.quench.permitOut = false) ∧ (∀ k, (qch t k).latch = (qch s k).latch) ∧ votedStop t = votedStop s ∧
      regBit t 0x120080 0 = true ∧ t.sys = s.sys) ∧
    (energised s d = false → exec (.openLoad d) s = .next s) ∧
    (energised s d = true → After (.openLoad d) s fun t => driver t d = { driver s d with openLoad := true } ∧ regBit t 0x120080 1 = true ∧ t.quench = s.quench ∧ t.sys = s.sys)) ∧
  (∀ (s : State) (n : Fin 2) (b : BitVec 8), Running s →
    (regBit s (0x120050 + 0x10 * n) 31 = false ∨ rtkOwns s n = true → exec (.uartTx n b) s = .next s) ∧
    (regBit s (0x120050 + 0x10 * n) 31 = true → rtkOwns s n = false → (uartLeft s n).length < 64 → After (.uartTx n b) s fun t =>
      (uart t n).tx.map Prod.fst = (uartLeft s n).map Prod.fst ++ [b] ∧ t = { s with ioctl := t.ioctl } ∧ (∀ j, j ≠ n.val → uart t j = uart s j)) ∧
    (regBit s (0x120050 + 0x10 * n) 31 = true → rtkOwns s n = false → 64 ≤ (uartLeft s n).length → After (.uartTx n b) s fun t =>
      uart t n = { uart s n with txOvf := true } ∧ regBit t 0x120080 2 = true)) ∧
  (∀ (s : State) (n : Fin 2) (b : BitVec 8) (f p : Bool), Running s →
    (regBit s (0x120050 + 0x10 * n) 31 = false → exec (.uartRxByte n b f p) s = .next s) ∧
    (regBit s (0x120050 + 0x10 * n) 31 = true → After (.uartRxByte n b f p) s fun t => regBit t 0x120080 2 = true ∧ (uart t n).tx = (uart s n).tx ∧
      (uart t n).rx = (if (uart s n).rx.length < 64 then (uart s n).rx ++ [b] else (uart s n).rx) ∧ (uart t n).rxOvf = ((uart s n).rxOvf || decide (64 ≤ (uart s n).rx.length)) ∧
      (uart t n).frameErr = ((uart s n).frameErr || f))) ∧
  (∀ (s : State) (n : Fin 2), Running s → ((uart s n).rx = [] → exec (.uartRxRead n) s = .next { s with rdata := 0 }) ∧
    (∀ b l, (uart s n).rx = b :: l → After (.uartRxRead n) s fun t => t.rdata = BitVec.ofNat 32 (256 + b.toNat) ∧ uart t n = { uart s n with rx := l } ∧ t.regs = s.regs)) ∧
  (∀ (s : State) (c : BitVec 8) (pec : Bool), s.aon.powered = true →
    (regBit s 0x120070 31 = false ∨ 0x19 < c.toNat → exec (.smbusBlockRead c pec) s = .next { s with ioctl := { s.ioctl with smb := .nack } }) ∧
    (regBit s 0x120070 31 = true → c.toNat ≤ 0x19 → After (.smbusBlockRead c pec) s fun t => t = { s with ioctl := { s.ioctl with smb := t.ioctl.smb } } ∧
      ∃ x : Option (BitVec 8), t.ioctl.smb = .block (leBytes 4 (sysWord s (4 * c.toNat)).toNat) x ∧ x.isSome = pec)) ∧
  (∀ (s : State) (w : Word), Running s → After (.assayBFuncWrite w) s fun t => t = { s with regs := t.regs } ∧
    ∀ n, n < 16 → (asChan s n).mode = .quad → regBit s 0x120000 31 = false → regBit t 0x120030 n = false)

/-- R128, R561, R573, R574: a front-end pin floats low while the main die does not run, whatever its polarity; the JTAG port moves
neither the field drivers nor TWIN_CLAIM_O, nor anything but the pins of its boundary cells; IDCODE reads its word, and the
debug module is on the scan chain in FACTORY and OWNED alone. Where a clause rests on a choice of the model, it follows
assumption log 36. -/
def Obligations.PinsAndScanChain : Prop :=
  (∀ (s : State) (c : Fin 3), s.aon.mainRun = false → ownLevel s (.femPa c) = .floatLow ∧ ownLevel s (.femLna c) = .floatLow ∧ ownLevel s (.femBypass c) = .floatLow) ∧
  (∀ (s : State) (c : Fin 3), s.aon.mainRun = true → (ownLevel s (.femPa c) = .high ↔ paOn s c ≠ (chain s c).paPol) ∧ (ownLevel s (.femLna c) = .high ↔ lnaOn s c ≠ (chain s c).lnaPol) ∧
    (paOn s c = true → lnaOn s c = false)) ∧
  (∀ s : State, ownLevel s .ref10Out = .clock ↔ s.aon.mainRun = true ∧ regBit s 0x020000 4 = true ∧ s.aon.refPresent = true) ∧
  (∀ (s : State) (i : TapInstr) (l : List (OutPin × PinLevel)), ∀ t ∈ [tapSelect i s, tapUpdate l s, tapUpdate l (tapSelect i s)],
    t = { s with ioctl := { s.ioctl with tap := t.ioctl.tap } } ∧
    ∀ p ∈ [OutPin.quenchOut 0, .quenchOut 1, .quenchOut 2, .permitOut, .claimO], pinLevel t p = ownLevel s p ∧ ∀ x, (p, x) ∉ (tapUpdate l (tapSelect .extest s)).ioctl.tap.cells) ∧
  (∀ (s : State) (p : OutPin) (l : List (OutPin × PinLevel)), scannable p = true →
    pinLevel (tapSelect .highz s) p = .floating ∧ (∀ i, i = .bypass ∨ i = .sample ∨ i = .idcode → pinLevel (tapSelect i s) p = ownLevel (tapSelect i s) p) ∧
    (∀ x, pinLevel (tapUpdate ((p, x) :: l) (tapSelect .extest s)) p = x ∧ pinLevel (tapSelect .clamp (tapUpdate ((p, x) :: l) (tapSelect .sample s))) p = x)) ∧
  (∀ (s : State) (l : List OutPin), tapData (tapSelect .idcode s) l = .idcode 0x196106B7 ∧ tapData (tapSelect .bypass s) l = .bypass ∧
    (ScanDevice.debugModule ∈ scanChain s ↔ s.geode.fuses.life = .factory ∨ s.geode.fuses.life = .owned))
end

