-- ==== Sys2Proof/Laws/State.lean ====
section
/-! SUPPORT. State.lean: what each named update leaves alone, one lemma for each field of State, for simp. -/

namespace Sys2Proof.Machine

open Sys2Proof

variable (s : State)

@[simp] theorem setReg_clk (o : Nat) (w : Word) : (setReg o w s).clk = s.clk := rfl
@[simp] theorem setReg_counts (o : Nat) (w : Word) : (setReg o w s).counts = s.counts := rfl
@[simp] theorem setReg_shadows (o : Nat) (w : Word) : (setReg o w s).shadows = s.shadows := rfl
@[simp] theorem setReg_rdata (o : Nat) (w : Word) : (setReg o w s).rdata = s.rdata := rfl
@[simp] theorem setReg_fresh (o : Nat) (w : Word) : (setReg o w s).fresh = s.fresh := rfl
@[simp] theorem setReg_sys (o : Nat) (w : Word) : (setReg o w s).sys = s.sys := rfl
@[simp] theorem setReg_aon (o : Nat) (w : Word) : (setReg o w s).aon = s.aon := rfl
@[simp] theorem setReg_parison (o : Nat) (w : Word) : (setReg o w s).parison = s.parison := rfl
@[simp] theorem setReg_time (o : Nat) (w : Word) : (setReg o w s).time = s.time := rfl
@[simp] theorem setReg_gnss (o : Nat) (w : Word) : (setReg o w s).gnss = s.gnss := rfl
@[simp] theorem setReg_rtk (o : Nat) (w : Word) : (setReg o w s).rtk = s.rtk := rfl
@[simp] theorem setReg_lode (o : Nat) (w : Word) : (setReg o w s).lode = s.lode := rfl
@[simp] theorem setReg_grid (o : Nat) (w : Word) : (setReg o w s).grid = s.grid := rfl
@[simp] theorem setReg_setpt (o : Nat) (w : Word) : (setReg o w s).setpt = s.setpt := rfl
@[simp] theorem setReg_radio (o : Nat) (w : Word) : (setReg o w s).radio = s.radio := rfl
@[simp] theorem setReg_quench (o : Nat) (w : Word) : (setReg o w s).quench = s.quench := rfl
@[simp] theorem setReg_switch (o : Nat) (w : Word) : (setReg o w s).switch = s.switch := rfl
@[simp] theorem setReg_twin (o : Nat) (w : Word) : (setReg o w s).twin = s.twin := rfl
@[simp] theorem setReg_fr (o : Nat) (w : Word) : (setReg o w s).fr = s.fr := rfl
@[simp] theorem setReg_fault (o : Nat) (w : Word) : (setReg o w s).fault = s.fault := rfl
@[simp] theorem setReg_dispatch (o : Nat) (w : Word) : (setReg o w s).dispatch = s.dispatch := rfl
@[simp] theorem setReg_coreMem (o : Nat) (w : Word) : (setReg o w s).coreMem = s.coreMem := rfl
@[simp] theorem setReg_hostif (o : Nat) (w : Word) : (setReg o w s).hostif = s.hostif := rfl
@[simp] theorem setReg_geode (o : Nat) (w : Word) : (setReg o w s).geode = s.geode := rfl
@[simp] theorem setReg_assay (o : Nat) (w : Word) : (setReg o w s).assay = s.assay := rfl
@[simp] theorem setReg_strata (o : Nat) (w : Word) : (setReg o w s).strata = s.strata := rfl
@[simp] theorem setReg_ioctl (o : Nat) (w : Word) : (setReg o w s).ioctl = s.ioctl := rfl
@[simp] theorem setReg_pending (o : Nat) (w : Word) : (setReg o w s).pending = s.pending := rfl
@[simp] theorem setRegFld_clk (o h l v : Nat) : (setRegFld o h l v s).clk = s.clk := rfl
@[simp] theorem setRegFld_counts (o h l v : Nat) : (setRegFld o h l v s).counts = s.counts := rfl
@[simp] theorem setRegFld_shadows (o h l v : Nat) : (setRegFld o h l v s).shadows = s.shadows := rfl
@[simp] theorem setRegFld_rdata (o h l v : Nat) : (setRegFld o h l v s).rdata = s.rdata := rfl
@[simp] theorem setRegFld_fresh (o h l v : Nat) : (setRegFld o h l v s).fresh = s.fresh := rfl
@[simp] theorem setRegFld_sys (o h l v : Nat) : (setRegFld o h l v s).sys = s.sys := rfl
@[simp] theorem setRegFld_aon (o h l v : Nat) : (setRegFld o h l v s).aon = s.aon := rfl
@[simp] theorem setRegFld_parison (o h l v : Nat) : (setRegFld o h l v s).parison = s.parison := rfl
@[simp] theorem setRegFld_time (o h l v : Nat) : (setRegFld o h l v s).time = s.time := rfl
@[simp] theorem setRegFld_gnss (o h l v : Nat) : (setRegFld o h l v s).gnss = s.gnss := rfl
@[simp] theorem setRegFld_rtk (o h l v : Nat) : (setRegFld o h l v s).rtk = s.rtk := rfl
@[simp] theorem setRegFld_lode (o h l v : Nat) : (setRegFld o h l v s).lode = s.lode := rfl
@[simp] theorem setRegFld_grid (o h l v : Nat) : (setRegFld o h l v s).grid = s.grid := rfl
@[simp] theorem setRegFld_setpt (o h l v : Nat) : (setRegFld o h l v s).setpt = s.setpt := rfl
@[simp] theorem setRegFld_radio (o h l v : Nat) : (setRegFld o h l v s).radio = s.radio := rfl
@[simp] theorem setRegFld_quench (o h l v : Nat) : (setRegFld o h l v s).quench = s.quench := rfl
@[simp] theorem setRegFld_switch (o h l v : Nat) : (setRegFld o h l v s).switch = s.switch := rfl
@[simp] theorem setRegFld_twin (o h l v : Nat) : (setRegFld o h l v s).twin = s.twin := rfl
@[simp] theorem setRegFld_fr (o h l v : Nat) : (setRegFld o h l v s).fr = s.fr := rfl
@[simp] theorem setRegFld_fault (o h l v : Nat) : (setRegFld o h l v s).fault = s.fault := rfl
@[simp] theorem setRegFld_dispatch (o h l v : Nat) : (setRegFld o h l v s).dispatch = s.dispatch := rfl
@[simp] theorem setRegFld_coreMem (o h l v : Nat) : (setRegFld o h l v s).coreMem = s.coreMem := rfl
@[simp] theorem setRegFld_hostif (o h l v : Nat) : (setRegFld o h l v s).hostif = s.hostif := rfl
@[simp] theorem setRegFld_geode (o h l v : Nat) : (setRegFld o h l v s).geode = s.geode := rfl
@[simp] theorem setRegFld_assay (o h l v : Nat) : (setRegFld o h l v s).assay = s.assay := rfl
@[simp] theorem setRegFld_strata (o h l v : Nat) : (setRegFld o h l v s).strata = s.strata := rfl
@[simp] theorem setRegFld_ioctl (o h l v : Nat) : (setRegFld o h l v s).ioctl = s.ioctl := rfl
@[simp] theorem setRegFld_pending (o h l v : Nat) : (setRegFld o h l v s).pending = s.pending := rfl
@[simp] theorem orReg_clk (o : Nat) (w : Word) : (orReg o w s).clk = s.clk := rfl
@[simp] theorem orReg_counts (o : Nat) (w : Word) : (orReg o w s).counts = s.counts := rfl
@[simp] theorem orReg_shadows (o : Nat) (w : Word) : (orReg o w s).shadows = s.shadows := rfl
@[simp] theorem orReg_rdata (o : Nat) (w : Word) : (orReg o w s).rdata = s.rdata := rfl
@[simp] theorem orReg_fresh (o : Nat) (w : Word) : (orReg o w s).fresh = s.fresh := rfl
@[simp] theorem orReg_sys (o : Nat) (w : Word) : (orReg o w s).sys = s.sys := rfl
@[simp] theorem orReg_aon (o : Nat) (w : Word) : (orReg o w s).aon = s.aon := rfl
@[simp] theorem orReg_parison (o : Nat) (w : Word) : (orReg o w s).parison = s.parison := rfl
@[simp] theorem orReg_time (o : Nat) (w : Word) : (orReg o w s).time = s.time := rfl
@[simp] theorem orReg_gnss (o : Nat) (w : Word) : (orReg o w s).gnss = s.gnss := rfl
@[simp] theorem orReg_rtk (o : Nat) (w : Word) : (orReg o w s).rtk = s.rtk := rfl
@[simp] theorem orReg_lode (o : Nat) (w : Word) : (orReg o w s).lode = s.lode := rfl
@[simp] theorem orReg_grid (o : Nat) (w : Word) : (orReg o w s).grid = s.grid := rfl
@[simp] theorem orReg_setpt (o : Nat) (w : Word) : (orReg o w s).setpt = s.setpt := rfl
@[simp] theorem orReg_radio (o : Nat) (w : Word) : (orReg o w s).radio = s.radio := rfl
@[simp] theorem orReg_quench (o : Nat) (w : Word) : (orReg o w s).quench = s.quench := rfl
@[simp] theorem orReg_switch (o : Nat) (w : Word) : (orReg o w s).switch = s.switch := rfl
@[simp] theorem orReg_twin (o : Nat) (w : Word) : (orReg o w s).twin = s.twin := rfl
@[simp] theorem orReg_fr (o : Nat) (w : Word) : (orReg o w s).fr = s.fr := rfl
@[simp] theorem orReg_fault (o : Nat) (w : Word) : (orReg o w s).fault = s.fault := rfl
@[simp] theorem orReg_dispatch (o : Nat) (w : Word) : (orReg o w s).dispatch = s.dispatch := rfl
@[simp] theorem orReg_coreMem (o : Nat) (w : Word) : (orReg o w s).coreMem = s.coreMem := rfl
@[simp] theorem orReg_hostif (o : Nat) (w : Word) : (orReg o w s).hostif = s.hostif := rfl
@[simp] theorem orReg_geode (o : Nat) (w : Word) : (orReg o w s).geode = s.geode := rfl
@[simp] theorem orReg_assay (o : Nat) (w : Word) : (orReg o w s).assay = s.assay := rfl
@[simp] theorem orReg_strata (o : Nat) (w : Word) : (orReg o w s).strata = s.strata := rfl
@[simp] theorem orReg_ioctl (o : Nat) (w : Word) : (orReg o w s).ioctl = s.ioctl := rfl
@[simp] theorem orReg_pending (o : Nat) (w : Word) : (orReg o w s).pending = s.pending := rfl
@[simp] theorem setCount_clk (o k n : Nat) : (setCount o k n s).clk = s.clk := rfl
@[simp] theorem setCount_regs (o k n : Nat) : (setCount o k n s).regs = s.regs := rfl
@[simp] theorem setCount_shadows (o k n : Nat) : (setCount o k n s).shadows = s.shadows := rfl
@[simp] theorem setCount_rdata (o k n : Nat) : (setCount o k n s).rdata = s.rdata := rfl
@[simp] theorem setCount_fresh (o k n : Nat) : (setCount o k n s).fresh = s.fresh := rfl
@[simp] theorem setCount_sys (o k n : Nat) : (setCount o k n s).sys = s.sys := rfl
@[simp] theorem setCount_aon (o k n : Nat) : (setCount o k n s).aon = s.aon := rfl
@[simp] theorem setCount_parison (o k n : Nat) : (setCount o k n s).parison = s.parison := rfl
@[simp] theorem setCount_time (o k n : Nat) : (setCount o k n s).time = s.time := rfl
@[simp] theorem setCount_gnss (o k n : Nat) : (setCount o k n s).gnss = s.gnss := rfl
@[simp] theorem setCount_rtk (o k n : Nat) : (setCount o k n s).rtk = s.rtk := rfl
@[simp] theorem setCount_lode (o k n : Nat) : (setCount o k n s).lode = s.lode := rfl
@[simp] theorem setCount_grid (o k n : Nat) : (setCount o k n s).grid = s.grid := rfl
@[simp] theorem setCount_setpt (o k n : Nat) : (setCount o k n s).setpt = s.setpt := rfl
@[simp] theorem setCount_radio (o k n : Nat) : (setCount o k n s).radio = s.radio := rfl
@[simp] theorem setCount_quench (o k n : Nat) : (setCount o k n s).quench = s.quench := rfl
@[simp] theorem setCount_switch (o k n : Nat) : (setCount o k n s).switch = s.switch := rfl
@[simp] theorem setCount_twin (o k n : Nat) : (setCount o k n s).twin = s.twin := rfl
@[simp] theorem setCount_fr (o k n : Nat) : (setCount o k n s).fr = s.fr := rfl
@[simp] theorem setCount_fault (o k n : Nat) : (setCount o k n s).fault = s.fault := rfl
@[simp] theorem setCount_dispatch (o k n : Nat) : (setCount o k n s).dispatch = s.dispatch := rfl
@[simp] theorem setCount_coreMem (o k n : Nat) : (setCount o k n s).coreMem = s.coreMem := rfl
@[simp] theorem setCount_hostif (o k n : Nat) : (setCount o k n s).hostif = s.hostif := rfl
@[simp] theorem setCount_geode (o k n : Nat) : (setCount o k n s).geode = s.geode := rfl
@[simp] theorem setCount_assay (o k n : Nat) : (setCount o k n s).assay = s.assay := rfl
@[simp] theorem setCount_strata (o k n : Nat) : (setCount o k n s).strata = s.strata := rfl
@[simp] theorem setCount_ioctl (o k n : Nat) : (setCount o k n s).ioctl = s.ioctl := rfl
@[simp] theorem setCount_pending (o k n : Nat) : (setCount o k n s).pending = s.pending := rfl
@[simp] theorem bumpBy_clk (o k n : Nat) : (bumpBy o k n s).clk = s.clk := rfl
@[simp] theorem bumpBy_regs (o k n : Nat) : (bumpBy o k n s).regs = s.regs := rfl
@[simp] theorem bumpBy_shadows (o k n : Nat) : (bumpBy o k n s).shadows = s.shadows := rfl
@[simp] theorem bumpBy_rdata (o k n : Nat) : (bumpBy o k n s).rdata = s.rdata := rfl
@[simp] theorem bumpBy_fresh (o k n : Nat) : (bumpBy o k n s).fresh = s.fresh := rfl
@[simp] theorem bumpBy_sys (o k n : Nat) : (bumpBy o k n s).sys = s.sys := rfl
@[simp] theorem bumpBy_aon (o k n : Nat) : (bumpBy o k n s).aon = s.aon := rfl
@[simp] theorem bumpBy_parison (o k n : Nat) : (bumpBy o k n s).parison = s.parison := rfl
@[simp] theorem bumpBy_time (o k n : Nat) : (bumpBy o k n s).time = s.time := rfl
@[simp] theorem bumpBy_gnss (o k n : Nat) : (bumpBy o k n s).gnss = s.gnss := rfl
@[simp] theorem bumpBy_rtk (o k n : Nat) : (bumpBy o k n s).rtk = s.rtk := rfl
@[simp] theorem bumpBy_lode (o k n : Nat) : (bumpBy o k n s).lode = s.lode := rfl
@[simp] theorem bumpBy_grid (o k n : Nat) : (bumpBy o k n s).grid = s.grid := rfl
@[simp] theorem bumpBy_setpt (o k n : Nat) : (bumpBy o k n s).setpt = s.setpt := rfl
@[simp] theorem bumpBy_radio (o k n : Nat) : (bumpBy o k n s).radio = s.radio := rfl
@[simp] theorem bumpBy_quench (o k n : Nat) : (bumpBy o k n s).quench = s.quench := rfl
@[simp] theorem bumpBy_switch (o k n : Nat) : (bumpBy o k n s).switch = s.switch := rfl
@[simp] theorem bumpBy_twin (o k n : Nat) : (bumpBy o k n s).twin = s.twin := rfl
@[simp] theorem bumpBy_fr (o k n : Nat) : (bumpBy o k n s).fr = s.fr := rfl
@[simp] theorem bumpBy_fault (o k n : Nat) : (bumpBy o k n s).fault = s.fault := rfl
@[simp] theorem bumpBy_dispatch (o k n : Nat) : (bumpBy o k n s).dispatch = s.dispatch := rfl
@[simp] theorem bumpBy_coreMem (o k n : Nat) : (bumpBy o k n s).coreMem = s.coreMem := rfl
@[simp] theorem bumpBy_hostif (o k n : Nat) : (bumpBy o k n s).hostif = s.hostif := rfl
@[simp] theorem bumpBy_geode (o k n : Nat) : (bumpBy o k n s).geode = s.geode := rfl
@[simp] theorem bumpBy_assay (o k n : Nat) : (bumpBy o k n s).assay = s.assay := rfl
@[simp] theorem bumpBy_strata (o k n : Nat) : (bumpBy o k n s).strata = s.strata := rfl
@[simp] theorem bumpBy_ioctl (o k n : Nat) : (bumpBy o k n s).ioctl = s.ioctl := rfl
@[simp] theorem bumpBy_pending (o k n : Nat) : (bumpBy o k n s).pending = s.pending := rfl
@[simp] theorem bump_clk (o k : Nat) : (bump o k s).clk = s.clk := rfl
@[simp] theorem bump_regs (o k : Nat) : (bump o k s).regs = s.regs := rfl
@[simp] theorem bump_shadows (o k : Nat) : (bump o k s).shadows = s.shadows := rfl
@[simp] theorem bump_rdata (o k : Nat) : (bump o k s).rdata = s.rdata := rfl
@[simp] theorem bump_fresh (o k : Nat) : (bump o k s).fresh = s.fresh := rfl
@[simp] theorem bump_sys (o k : Nat) : (bump o k s).sys = s.sys := rfl
@[simp] theorem bump_aon (o k : Nat) : (bump o k s).aon = s.aon := rfl
@[simp] theorem bump_parison (o k : Nat) : (bump o k s).parison = s.parison := rfl
@[simp] theorem bump_time (o k : Nat) : (bump o k s).time = s.time := rfl
@[simp] theorem bump_gnss (o k : Nat) : (bump o k s).gnss = s.gnss := rfl
@[simp] theorem bump_rtk (o k : Nat) : (bump o k s).rtk = s.rtk := rfl
@[simp] theorem bump_lode (o k : Nat) : (bump o k s).lode = s.lode := rfl
@[simp] theorem bump_grid (o k : Nat) : (bump o k s).grid = s.grid := rfl
@[simp] theorem bump_setpt (o k : Nat) : (bump o k s).setpt = s.setpt := rfl
@[simp] theorem bump_radio (o k : Nat) : (bump o k s).radio = s.radio := rfl
@[simp] theorem bump_quench (o k : Nat) : (bump o k s).quench = s.quench := rfl
@[simp] theorem bump_switch (o k : Nat) : (bump o k s).switch = s.switch := rfl
@[simp] theorem bump_twin (o k : Nat) : (bump o k s).twin = s.twin := rfl
@[simp] theorem bump_fr (o k : Nat) : (bump o k s).fr = s.fr := rfl
@[simp] theorem bump_fault (o k : Nat) : (bump o k s).fault = s.fault := rfl
@[simp] theorem bump_dispatch (o k : Nat) : (bump o k s).dispatch = s.dispatch := rfl
@[simp] theorem bump_coreMem (o k : Nat) : (bump o k s).coreMem = s.coreMem := rfl
@[simp] theorem bump_hostif (o k : Nat) : (bump o k s).hostif = s.hostif := rfl
@[simp] theorem bump_geode (o k : Nat) : (bump o k s).geode = s.geode := rfl
@[simp] theorem bump_assay (o k : Nat) : (bump o k s).assay = s.assay := rfl
@[simp] theorem bump_strata (o k : Nat) : (bump o k s).strata = s.strata := rfl
@[simp] theorem bump_ioctl (o k : Nat) : (bump o k s).ioctl = s.ioctl := rfl
@[simp] theorem bump_pending (o k : Nat) : (bump o k s).pending = s.pending := rfl
@[simp] theorem drawn_clk : (drawn s).clk = s.clk := rfl
@[simp] theorem drawn_regs : (drawn s).regs = s.regs := rfl
@[simp] theorem drawn_counts : (drawn s).counts = s.counts := rfl
@[simp] theorem drawn_shadows : (drawn s).shadows = s.shadows := rfl
@[simp] theorem drawn_rdata : (drawn s).rdata = s.rdata := rfl
@[simp] theorem drawn_sys : (drawn s).sys = s.sys := rfl
@[simp] theorem drawn_aon : (drawn s).aon = s.aon := rfl
@[simp] theorem drawn_parison : (drawn s).parison = s.parison := rfl
@[simp] theorem drawn_time : (drawn s).time = s.time := rfl
@[simp] theorem drawn_gnss : (drawn s).gnss = s.gnss := rfl
@[simp] theorem drawn_rtk : (drawn s).rtk = s.rtk := rfl
@[simp] theorem drawn_lode : (drawn s).lode = s.lode := rfl
@[simp] theorem drawn_grid : (drawn s).grid = s.grid := rfl
@[simp] theorem drawn_setpt : (drawn s).setpt = s.setpt := rfl
@[simp] theorem drawn_radio : (drawn s).radio = s.radio := rfl
@[simp] theorem drawn_quench : (drawn s).quench = s.quench := rfl
@[simp] theorem drawn_switch : (drawn s).switch = s.switch := rfl
@[simp] theorem drawn_twin : (drawn s).twin = s.twin := rfl
@[simp] theorem drawn_fr : (drawn s).fr = s.fr := rfl
@[simp] theorem drawn_fault : (drawn s).fault = s.fault := rfl
@[simp] theorem drawn_dispatch : (drawn s).dispatch = s.dispatch := rfl
@[simp] theorem drawn_coreMem : (drawn s).coreMem = s.coreMem := rfl
@[simp] theorem drawn_hostif : (drawn s).hostif = s.hostif := rfl
@[simp] theorem drawn_geode : (drawn s).geode = s.geode := rfl
@[simp] theorem drawn_assay : (drawn s).assay = s.assay := rfl
@[simp] theorem drawn_strata : (drawn s).strata = s.strata := rfl
@[simp] theorem drawn_ioctl : (drawn s).ioctl = s.ioctl := rfl
@[simp] theorem drawn_pending : (drawn s).pending = s.pending := rfl
@[simp] theorem raise_clk (b i : Nat) : (raise b i s).clk = s.clk := by unfold raise; split <;> rfl
@[simp] theorem raise_counts (b i : Nat) : (raise b i s).counts = s.counts := by unfold raise; split <;> rfl
@[simp] theorem raise_shadows (b i : Nat) : (raise b i s).shadows = s.shadows := by unfold raise; split <;> rfl
@[simp] theorem raise_rdata (b i : Nat) : (raise b i s).rdata = s.rdata := by unfold raise; split <;> rfl
@[simp] theorem raise_fresh (b i : Nat) : (raise b i s).fresh = s.fresh := by unfold raise; split <;> rfl
@[simp] theorem raise_sys (b i : Nat) : (raise b i s).sys = s.sys := by unfold raise; split <;> rfl
@[simp] theorem raise_aon (b i : Nat) : (raise b i s).aon = s.aon := by unfold raise; split <;> rfl
@[simp] theorem raise_parison (b i : Nat) : (raise b i s).parison = s.parison := by unfold raise; split <;> rfl
@[simp] theorem raise_time (b i : Nat) : (raise b i s).time = s.time := by unfold raise; split <;> rfl
@[simp] theorem raise_gnss (b i : Nat) : (raise b i s).gnss = s.gnss := by unfold raise; split <;> rfl
@[simp] theorem raise_rtk (b i : Nat) : (raise b i s).rtk = s.rtk := by unfold raise; split <;> rfl
@[simp] theorem raise_lode (b i : Nat) : (raise b i s).lode = s.lode := by unfold raise; split <;> rfl
@[simp] theorem raise_grid (b i : Nat) : (raise b i s).grid = s.grid := by unfold raise; split <;> rfl
@[simp] theorem raise_setpt (b i : Nat) : (raise b i s).setpt = s.setpt := by unfold raise; split <;> rfl
@[simp] theorem raise_radio (b i : Nat) : (raise b i s).radio = s.radio := by unfold raise; split <;> rfl
@[simp] theorem raise_quench (b i : Nat) : (raise b i s).quench = s.quench := by unfold raise; split <;> rfl
@[simp] theorem raise_switch (b i : Nat) : (raise b i s).switch = s.switch := by unfold raise; split <;> rfl
@[simp] theorem raise_twin (b i : Nat) : (raise b i s).twin = s.twin := by unfold raise; split <;> rfl
@[simp] theorem raise_fr (b i : Nat) : (raise b i s).fr = s.fr := by unfold raise; split <;> rfl
@[simp] theorem raise_fault (b i : Nat) : (raise b i s).fault = s.fault := by unfold raise; split <;> rfl
@[simp] theorem raise_dispatch (b i : Nat) : (raise b i s).dispatch = s.dispatch := by unfold raise; split <;> rfl
@[simp] theorem raise_coreMem (b i : Nat) : (raise b i s).coreMem = s.coreMem := by unfold raise; split <;> rfl
@[simp] theorem raise_hostif (b i : Nat) : (raise b i s).hostif = s.hostif := by unfold raise; split <;> rfl
@[simp] theorem raise_geode (b i : Nat) : (raise b i s).geode = s.geode := by unfold raise; split <;> rfl
@[simp] theorem raise_assay (b i : Nat) : (raise b i s).assay = s.assay := by unfold raise; split <;> rfl
@[simp] theorem raise_strata (b i : Nat) : (raise b i s).strata = s.strata := by unfold raise; split <;> rfl
@[simp] theorem raise_ioctl (b i : Nat) : (raise b i s).ioctl = s.ioctl := by unfold raise; split <;> rfl
@[simp] theorem raise_pending (b i : Nat) : (raise b i s).pending = s.pending := by unfold raise; split <;> rfl
@[simp] theorem record_clk (c so v a b d : Nat) : (record c so v a b d s).clk = s.clk := by unfold record; repeat (first | rfl | split)
@[simp] theorem record_shadows (c so v a b d : Nat) : (record c so v a b d s).shadows = s.shadows := by unfold record; repeat (first | rfl | split)
@[simp] theorem record_rdata (c so v a b d : Nat) : (record c so v a b d s).rdata = s.rdata := by unfold record; repeat (first | rfl | split)
@[simp] theorem record_fresh (c so v a b d : Nat) : (record c so v a b d s).fresh = s.fresh := by unfold record; repeat (first | rfl | split)
@[simp] theorem record_sys (c so v a b d : Nat) : (record c so v a b d s).sys = s.sys := by unfold record; repeat (first | rfl | split)
@[simp] theorem record_aon (c so v a b d : Nat) : (record c so v a b d s).aon = s.aon := by unfold record; repeat (first | rfl | split)
@[simp] theorem record_parison (c so v a b d : Nat) : (record c so v a b d s).parison = s.parison := by unfold record; repeat (first | rfl | split)
@[simp] theorem record_time (c so v a b d : Nat) : (record c so v a b d s).time = s.time := by unfold record; repeat (first | rfl | split)
@[simp] theorem record_gnss (c so v a b d : Nat) : (record c so v a b d s).gnss = s.gnss := by unfold record; repeat (first | rfl | split)
@[simp] theorem record_rtk (c so v a b d : Nat) : (record c so v a b d s).rtk = s.rtk := by unfold record; repeat (first | rfl | split)
@[simp] theorem record_lode (c so v a b d : Nat) : (record c so v a b d s).lode = s.lode := by unfold record; repeat (first | rfl | split)
@[simp] theorem record_grid (c so v a b d : Nat) : (record c so v a b d s).grid = s.grid := by unfold record; repeat (first | rfl | split)
@[simp] theorem record_setpt (c so v a b d : Nat) : (record c so v a b d s).setpt = s.setpt := by unfold record; repeat (first | rfl | split)
@[simp] theorem record_radio (c so v a b d : Nat) : (record c so v a b d s).radio = s.radio := by unfold record; repeat (first | rfl | split)
@[simp] theorem record_quench (c so v a b d : Nat) : (record c so v a b d s).quench = s.quench := by unfold record; repeat (first | rfl | split)
@[simp] theorem record_switch (c so v a b d : Nat) : (record c so v a b d s).switch = s.switch := by unfold record; repeat (first | rfl | split)
@[simp] theorem record_twin (c so v a b d : Nat) : (record c so v a b d s).twin = s.twin := by unfold record; repeat (first | rfl | split)
@[simp] theorem record_fr (c so v a b d : Nat) : (record c so v a b d s).fr = s.fr := by unfold record; repeat (first | rfl | split)
@[simp] theorem record_fault (c so v a b d : Nat) : (record c so v a b d s).fault = s.fault := by unfold record; repeat (first | rfl | split)
@[simp] theorem record_dispatch (c so v a b d : Nat) : (record c so v a b d s).dispatch = s.dispatch := by unfold record; repeat (first | rfl | split)
@[simp] theorem record_coreMem (c so v a b d : Nat) : (record c so v a b d s).coreMem = s.coreMem := by unfold record; repeat (first | rfl | split)
@[simp] theorem record_hostif (c so v a b d : Nat) : (record c so v a b d s).hostif = s.hostif := by unfold record; repeat (first | rfl | split)
@[simp] theorem record_geode (c so v a b d : Nat) : (record c so v a b d s).geode = s.geode := by unfold record; repeat (first | rfl | split)
@[simp] theorem record_assay (c so v a b d : Nat) : (record c so v a b d s).assay = s.assay := by unfold record; repeat (first | rfl | split)
@[simp] theorem record_ioctl (c so v a b d : Nat) : (record c so v a b d s).ioctl = s.ioctl := by unfold record; repeat (first | rfl | split)
@[simp] theorem record_pending (c so v a b d : Nat) : (record c so v a b d s).pending = s.pending := by unfold record; repeat (first | rfl | split)
@[simp] theorem note_clk (c v a b d : Nat) : (note c v a b d s).clk = s.clk := by simp [note]
@[simp] theorem note_shadows (c v a b d : Nat) : (note c v a b d s).shadows = s.shadows := by simp [note]
@[simp] theorem note_rdata (c v a b d : Nat) : (note c v a b d s).rdata = s.rdata := by simp [note]
@[simp] theorem note_fresh (c v a b d : Nat) : (note c v a b d s).fresh = s.fresh := by simp [note]
@[simp] theorem note_sys (c v a b d : Nat) : (note c v a b d s).sys = s.sys := by simp [note]
@[simp] theorem note_aon (c v a b d : Nat) : (note c v a b d s).aon = s.aon := by simp [note]
@[simp] theorem note_parison (c v a b d : Nat) : (note c v a b d s).parison = s.parison := by simp [note]
@[simp] theorem note_time (c v a b d : Nat) : (note c v a b d s).time = s.time := by simp [note]
@[simp] theorem note_gnss (c v a b d : Nat) : (note c v a b d s).gnss = s.gnss := by simp [note]
@[simp] theorem note_rtk (c v a b d : Nat) : (note c v a b d s).rtk = s.rtk := by simp [note]
@[simp] theorem note_lode (c v a b d : Nat) : (note c v a b d s).lode = s.lode := by simp [note]
@[simp] theorem note_grid (c v a b d : Nat) : (note c v a b d s).grid = s.grid := by simp [note]
@[simp] theorem note_setpt (c v a b d : Nat) : (note c v a b d s).setpt = s.setpt := by simp [note]
@[simp] theorem note_radio (c v a b d : Nat) : (note c v a b d s).radio = s.radio := by simp [note]
@[simp] theorem note_quench (c v a b d : Nat) : (note c v a b d s).quench = s.quench := by simp [note]
@[simp] theorem note_switch (c v a b d : Nat) : (note c v a b d s).switch = s.switch := by simp [note]
@[simp] theorem note_twin (c v a b d : Nat) : (note c v a b d s).twin = s.twin := by simp [note]
@[simp] theorem note_fr (c v a b d : Nat) : (note c v a b d s).fr = s.fr := by simp [note]
@[simp] theorem note_fault (c v a b d : Nat) : (note c v a b d s).fault = s.fault := by simp [note]
@[simp] theorem note_dispatch (c v a b d : Nat) : (note c v a b d s).dispatch = s.dispatch := by simp [note]
@[simp] theorem note_coreMem (c v a b d : Nat) : (note c v a b d s).coreMem = s.coreMem := by simp [note]
@[simp] theorem note_hostif (c v a b d : Nat) : (note c v a b d s).hostif = s.hostif := by simp [note]
@[simp] theorem note_geode (c v a b d : Nat) : (note c v a b d s).geode = s.geode := by simp [note]
@[simp] theorem note_assay (c v a b d : Nat) : (note c v a b d s).assay = s.assay := by simp [note]
@[simp] theorem note_ioctl (c v a b d : Nat) : (note c v a b d s).ioctl = s.ioctl := by simp [note]
@[simp] theorem note_pending (c v a b d : Nat) : (note c v a b d s).pending = s.pending := by simp [note]
@[simp] theorem advance_regs (d : Nat) : (advance d s).regs = s.regs := rfl
@[simp] theorem advance_counts (d : Nat) : (advance d s).counts = s.counts := rfl
@[simp] theorem advance_shadows (d : Nat) : (advance d s).shadows = s.shadows := rfl
@[simp] theorem advance_rdata (d : Nat) : (advance d s).rdata = s.rdata := rfl
@[simp] theorem advance_fresh (d : Nat) : (advance d s).fresh = s.fresh := rfl
@[simp] theorem advance_sys (d : Nat) : (advance d s).sys = s.sys := rfl
@[simp] theorem advance_parison (d : Nat) : (advance d s).parison = s.parison := rfl
@[simp] theorem advance_gnss (d : Nat) : (advance d s).gnss = s.gnss := rfl
@[simp] theorem advance_rtk (d : Nat) : (advance d s).rtk = s.rtk := rfl
@[simp] theorem advance_lode (d : Nat) : (advance d s).lode = s.lode := rfl
@[simp] theorem advance_grid (d : Nat) : (advance d s).grid = s.grid := rfl
@[simp] theorem advance_setpt (d : Nat) : (advance d s).setpt = s.setpt := rfl
@[simp] theorem advance_radio (d : Nat) : (advance d s).radio = s.radio := rfl
@[simp] theorem advance_quench (d : Nat) : (advance d s).quench = s.quench := rfl
@[simp] theorem advance_switch (d : Nat) : (advance d s).switch = s.switch := rfl
@[simp] theorem advance_twin (d : Nat) : (advance d s).twin = s.twin := rfl
@[simp] theorem advance_fr (d : Nat) : (advance d s).fr = s.fr := rfl
@[simp] theorem advance_fault (d : Nat) : (advance d s).fault = s.fault := rfl
@[simp] theorem advance_dispatch (d : Nat) : (advance d s).dispatch = s.dispatch := rfl
@[simp] theorem advance_coreMem (d : Nat) : (advance d s).coreMem = s.coreMem := rfl
@[simp] theorem advance_hostif (d : Nat) : (advance d s).hostif = s.hostif := rfl
@[simp] theorem advance_geode (d : Nat) : (advance d s).geode = s.geode := rfl
@[simp] theorem advance_assay (d : Nat) : (advance d s).assay = s.assay := rfl
@[simp] theorem advance_strata (d : Nat) : (advance d s).strata = s.strata := rfl
@[simp] theorem advance_ioctl (d : Nat) : (advance d s).ioctl = s.ioctl := rfl
@[simp] theorem advance_pending (d : Nat) : (advance d s).pending = s.pending := rfl
@[simp] theorem setDom_clk (a : Bool) (d : Domain) : (setDom a d s).clk = s.clk := by cases a <;> rfl
@[simp] theorem setDom_regs (a : Bool) (d : Domain) : (setDom a d s).regs = s.regs := by cases a <;> rfl
@[simp] theorem setDom_counts (a : Bool) (d : Domain) : (setDom a d s).counts = s.counts := by cases a <;> rfl
@[simp] theorem setDom_shadows (a : Bool) (d : Domain) : (setDom a d s).shadows = s.shadows := by cases a <;> rfl
@[simp] theorem setDom_rdata (a : Bool) (d : Domain) : (setDom a d s).rdata = s.rdata := by cases a <;> rfl
@[simp] theorem setDom_fresh (a : Bool) (d : Domain) : (setDom a d s).fresh = s.fresh := by cases a <;> rfl
@[simp] theorem setDom_sys (a : Bool) (d : Domain) : (setDom a d s).sys = s.sys := by cases a <;> rfl
@[simp] theorem setDom_aon (a : Bool) (d : Domain) : (setDom a d s).aon = s.aon := by cases a <;> rfl
@[simp] theorem setDom_parison (a : Bool) (d : Domain) : (setDom a d s).parison = s.parison := by cases a <;> rfl
@[simp] theorem setDom_gnss (a : Bool) (d : Domain) : (setDom a d s).gnss = s.gnss := by cases a <;> rfl
@[simp] theorem setDom_rtk (a : Bool) (d : Domain) : (setDom a d s).rtk = s.rtk := by cases a <;> rfl
@[simp] theorem setDom_lode (a : Bool) (d : Domain) : (setDom a d s).lode = s.lode := by cases a <;> rfl
@[simp] theorem setDom_grid (a : Bool) (d : Domain) : (setDom a d s).grid = s.grid := by cases a <;> rfl
@[simp] theorem setDom_setpt (a : Bool) (d : Domain) : (setDom a d s).setpt = s.setpt := by cases a <;> rfl
@[simp] theorem setDom_radio (a : Bool) (d : Domain) : (setDom a d s).radio = s.radio := by cases a <;> rfl
@[simp] theorem setDom_quench (a : Bool) (d : Domain) : (setDom a d s).quench = s.quench := by cases a <;> rfl
@[simp] theorem setDom_switch (a : Bool) (d : Domain) : (setDom a d s).switch = s.switch := by cases a <;> rfl
@[simp] theorem setDom_twin (a : Bool) (d : Domain) : (setDom a d s).twin = s.twin := by cases a <;> rfl
@[simp] theorem setDom_fr (a : Bool) (d : Domain) : (setDom a d s).fr = s.fr := by cases a <;> rfl
@[simp] theorem setDom_fault (a : Bool) (d : Domain) : (setDom a d s).fault = s.fault := by cases a <;> rfl
@[simp] theorem setDom_dispatch (a : Bool) (d : Domain) : (setDom a d s).dispatch = s.dispatch := by cases a <;> rfl
@[simp] theorem setDom_coreMem (a : Bool) (d : Domain) : (setDom a d s).coreMem = s.coreMem := by cases a <;> rfl
@[simp] theorem setDom_hostif (a : Bool) (d : Domain) : (setDom a d s).hostif = s.hostif := by cases a <;> rfl
@[simp] theorem setDom_geode (a : Bool) (d : Domain) : (setDom a d s).geode = s.geode := by cases a <;> rfl
@[simp] theorem setDom_assay (a : Bool) (d : Domain) : (setDom a d s).assay = s.assay := by cases a <;> rfl
@[simp] theorem setDom_strata (a : Bool) (d : Domain) : (setDom a d s).strata = s.strata := by cases a <;> rfl
@[simp] theorem setDom_ioctl (a : Bool) (d : Domain) : (setDom a d s).ioctl = s.ioctl := by cases a <;> rfl
@[simp] theorem setDom_pending (a : Bool) (d : Domain) : (setDom a d s).pending = s.pending := by cases a <;> rfl
@[simp] theorem setQch_clk (k : Nat) (f : QChannel → QChannel) : (setQch k f s).clk = s.clk := rfl
@[simp] theorem setQch_regs (k : Nat) (f : QChannel → QChannel) : (setQch k f s).regs = s.regs := rfl
@[simp] theorem setQch_counts (k : Nat) (f : QChannel → QChannel) : (setQch k f s).counts = s.counts := rfl
@[simp] theorem setQch_shadows (k : Nat) (f : QChannel → QChannel) : (setQch k f s).shadows = s.shadows := rfl
@[simp] theorem setQch_rdata (k : Nat) (f : QChannel → QChannel) : (setQch k f s).rdata = s.rdata := rfl
@[simp] theorem setQch_fresh (k : Nat) (f : QChannel → QChannel) : (setQch k f s).fresh = s.fresh := rfl
@[simp] theorem setQch_sys (k : Nat) (f : QChannel → QChannel) : (setQch k f s).sys = s.sys := rfl
@[simp] theorem setQch_aon (k : Nat) (f : QChannel → QChannel) : (setQch k f s).aon = s.aon := rfl
@[simp] theorem setQch_parison (k : Nat) (f : QChannel → QChannel) : (setQch k f s).parison = s.parison := rfl
@[simp] theorem setQch_time (k : Nat) (f : QChannel → QChannel) : (setQch k f s).time = s.time := rfl
@[simp] theorem setQch_gnss (k : Nat) (f : QChannel → QChannel) : (setQch k f s).gnss = s.gnss := rfl
@[simp] theorem setQch_rtk (k : Nat) (f : QChannel → QChannel) : (setQch k f s).rtk = s.rtk := rfl
@[simp] theorem setQch_lode (k : Nat) (f : QChannel → QChannel) : (setQch k f s).lode = s.lode := rfl
@[simp] theorem setQch_grid (k : Nat) (f : QChannel → QChannel) : (setQch k f s).grid = s.grid := rfl
@[simp] theorem setQch_setpt (k : Nat) (f : QChannel → QChannel) : (setQch k f s).setpt = s.setpt := rfl
@[simp] theorem setQch_radio (k : Nat) (f : QChannel → QChannel) : (setQch k f s).radio = s.radio := rfl
@[simp] theorem setQch_switch (k : Nat) (f : QChannel → QChannel) : (setQch k f s).switch = s.switch := rfl
@[simp] theorem setQch_twin (k : Nat) (f : QChannel → QChannel) : (setQch k f s).twin = s.twin := rfl
@[simp] theorem setQch_fr (k : Nat) (f : QChannel → QChannel) : (setQch k f s).fr = s.fr := rfl
@[simp] theorem setQch_fault (k : Nat) (f : QChannel → QChannel) : (setQch k f s).fault = s.fault := rfl
@[simp] theorem setQch_dispatch (k : Nat) (f : QChannel → QChannel) : (setQch k f s).dispatch = s.dispatch := rfl
@[simp] theorem setQch_coreMem (k : Nat) (f : QChannel → QChannel) : (setQch k f s).coreMem = s.coreMem := rfl
@[simp] theorem setQch_hostif (k : Nat) (f : QChannel → QChannel) : (setQch k f s).hostif = s.hostif := rfl
@[simp] theorem setQch_geode (k : Nat) (f : QChannel → QChannel) : (setQch k f s).geode = s.geode := rfl
@[simp] theorem setQch_assay (k : Nat) (f : QChannel → QChannel) : (setQch k f s).assay = s.assay := rfl
@[simp] theorem setQch_strata (k : Nat) (f : QChannel → QChannel) : (setQch k f s).strata = s.strata := rfl
@[simp] theorem setQch_ioctl (k : Nat) (f : QChannel → QChannel) : (setQch k f s).ioctl = s.ioctl := rfl
@[simp] theorem setQch_pending (k : Nat) (f : QChannel → QChannel) : (setQch k f s).pending = s.pending := rfl
@[simp] theorem setDriver_clk (k : Nat) (f : Driver → Driver) : (setDriver k f s).clk = s.clk := rfl
@[simp] theorem setDriver_regs (k : Nat) (f : Driver → Driver) : (setDriver k f s).regs = s.regs := rfl
@[simp] theorem setDriver_counts (k : Nat) (f : Driver → Driver) : (setDriver k f s).counts = s.counts := rfl
@[simp] theorem setDriver_shadows (k : Nat) (f : Driver → Driver) : (setDriver k f s).shadows = s.shadows := rfl
@[simp] theorem setDriver_rdata (k : Nat) (f : Driver → Driver) : (setDriver k f s).rdata = s.rdata := rfl
@[simp] theorem setDriver_fresh (k : Nat) (f : Driver → Driver) : (setDriver k f s).fresh = s.fresh := rfl
@[simp] theorem setDriver_sys (k : Nat) (f : Driver → Driver) : (setDriver k f s).sys = s.sys := rfl
@[simp] theorem setDriver_aon (k : Nat) (f : Driver → Driver) : (setDriver k f s).aon = s.aon := rfl
@[simp] theorem setDriver_parison (k : Nat) (f : Driver → Driver) : (setDriver k f s).parison = s.parison := rfl
@[simp] theorem setDriver_time (k : Nat) (f : Driver → Driver) : (setDriver k f s).time = s.time := rfl
@[simp] theorem setDriver_gnss (k : Nat) (f : Driver → Driver) : (setDriver k f s).gnss = s.gnss := rfl
@[simp] theorem setDriver_rtk (k : Nat) (f : Driver → Driver) : (setDriver k f s).rtk = s.rtk := rfl
@[simp] theorem setDriver_lode (k : Nat) (f : Driver → Driver) : (setDriver k f s).lode = s.lode := rfl
@[simp] theorem setDriver_grid (k : Nat) (f : Driver → Driver) : (setDriver k f s).grid = s.grid := rfl
@[simp] theorem setDriver_setpt (k : Nat) (f : Driver → Driver) : (setDriver k f s).setpt = s.setpt := rfl
@[simp] theorem setDriver_radio (k : Nat) (f : Driver → Driver) : (setDriver k f s).radio = s.radio := rfl
@[simp] theorem setDriver_quench (k : Nat) (f : Driver → Driver) : (setDriver k f s).quench = s.quench := rfl
@[simp] theorem setDriver_switch (k : Nat) (f : Driver → Driver) : (setDriver k f s).switch = s.switch := rfl
@[simp] theorem setDriver_twin (k : Nat) (f : Driver → Driver) : (setDriver k f s).twin = s.twin := rfl
@[simp] theorem setDriver_fr (k : Nat) (f : Driver → Driver) : (setDriver k f s).fr = s.fr := rfl
@[simp] theorem setDriver_fault (k : Nat) (f : Driver → Driver) : (setDriver k f s).fault = s.fault := rfl
@[simp] theorem setDriver_dispatch (k : Nat) (f : Driver → Driver) : (setDriver k f s).dispatch = s.dispatch := rfl
@[simp] theorem setDriver_coreMem (k : Nat) (f : Driver → Driver) : (setDriver k f s).coreMem = s.coreMem := rfl
@[simp] theorem setDriver_hostif (k : Nat) (f : Driver → Driver) : (setDriver k f s).hostif = s.hostif := rfl
@[simp] theorem setDriver_geode (k : Nat) (f : Driver → Driver) : (setDriver k f s).geode = s.geode := rfl
@[simp] theorem setDriver_assay (k : Nat) (f : Driver → Driver) : (setDriver k f s).assay = s.assay := rfl
@[simp] theorem setDriver_strata (k : Nat) (f : Driver → Driver) : (setDriver k f s).strata = s.strata := rfl
@[simp] theorem setDriver_pending (k : Nat) (f : Driver → Driver) : (setDriver k f s).pending = s.pending := rfl
@[simp] theorem setContact_clk (k : Nat) (f : Contact → Contact) : (setContact k f s).clk = s.clk := rfl
@[simp] theorem setContact_regs (k : Nat) (f : Contact → Contact) : (setContact k f s).regs = s.regs := rfl
@[simp] theorem setContact_counts (k : Nat) (f : Contact → Contact) : (setContact k f s).counts = s.counts := rfl
@[simp] theorem setContact_shadows (k : Nat) (f : Contact → Contact) : (setContact k f s).shadows = s.shadows := rfl
@[simp] theorem setContact_rdata (k : Nat) (f : Contact → Contact) : (setContact k f s).rdata = s.rdata := rfl
@[simp] theorem setContact_fresh (k : Nat) (f : Contact → Contact) : (setContact k f s).fresh = s.fresh := rfl
@[simp] theorem setContact_sys (k : Nat) (f : Contact → Contact) : (setContact k f s).sys = s.sys := rfl
@[simp] theorem setContact_aon (k : Nat) (f : Contact → Contact) : (setContact k f s).aon = s.aon := rfl
@[simp] theorem setContact_parison (k : Nat) (f : Contact → Contact) : (setContact k f s).parison = s.parison := rfl
@[simp] theorem setContact_time (k : Nat) (f : Contact → Contact) : (setContact k f s).time = s.time := rfl
@[simp] theorem setContact_gnss (k : Nat) (f : Contact → Contact) : (setContact k f s).gnss = s.gnss := rfl
@[simp] theorem setContact_rtk (k : Nat) (f : Contact → Contact) : (setContact k f s).rtk = s.rtk := rfl
@[simp] theorem setContact_lode (k : Nat) (f : Contact → Contact) : (setContact k f s).lode = s.lode := rfl
@[simp] theorem setContact_grid (k : Nat) (f : Contact → Contact) : (setContact k f s).grid = s.grid := rfl
@[simp] theorem setContact_setpt (k : Nat) (f : Contact → Contact) : (setContact k f s).setpt = s.setpt := rfl
@[simp] theorem setContact_radio (k : Nat) (f : Contact → Contact) : (setContact k f s).radio = s.radio := rfl
@[simp] theorem setContact_switch (k : Nat) (f : Contact → Contact) : (setContact k f s).switch = s.switch := rfl
@[simp] theorem setContact_twin (k : Nat) (f : Contact → Contact) : (setContact k f s).twin = s.twin := rfl
@[simp] theorem setContact_fr (k : Nat) (f : Contact → Contact) : (setContact k f s).fr = s.fr := rfl
@[simp] theorem setContact_fault (k : Nat) (f : Contact → Contact) : (setContact k f s).fault = s.fault := rfl
@[simp] theorem setContact_dispatch (k : Nat) (f : Contact → Contact) : (setContact k f s).dispatch = s.dispatch := rfl
@[simp] theorem setContact_coreMem (k : Nat) (f : Contact → Contact) : (setContact k f s).coreMem = s.coreMem := rfl
@[simp] theorem setContact_hostif (k : Nat) (f : Contact → Contact) : (setContact k f s).hostif = s.hostif := rfl
@[simp] theorem setContact_geode (k : Nat) (f : Contact → Contact) : (setContact k f s).geode = s.geode := rfl
@[simp] theorem setContact_assay (k : Nat) (f : Contact → Contact) : (setContact k f s).assay = s.assay := rfl
@[simp] theorem setContact_strata (k : Nat) (f : Contact → Contact) : (setContact k f s).strata = s.strata := rfl
@[simp] theorem setContact_ioctl (k : Nat) (f : Contact → Contact) : (setContact k f s).ioctl = s.ioctl := rfl
@[simp] theorem setContact_pending (k : Nat) (f : Contact → Contact) : (setContact k f s).pending = s.pending := rfl
@[simp] theorem setChain_clk (k : Nat) (f : Chain → Chain) : (setChain k f s).clk = s.clk := rfl
@[simp] theorem setChain_regs (k : Nat) (f : Chain → Chain) : (setChain k f s).regs = s.regs := rfl
@[simp] theorem setChain_counts (k : Nat) (f : Chain → Chain) : (setChain k f s).counts = s.counts := rfl
@[simp] theorem setChain_shadows (k : Nat) (f : Chain → Chain) : (setChain k f s).shadows = s.shadows := rfl
@[simp] theorem setChain_rdata (k : Nat) (f : Chain → Chain) : (setChain k f s).rdata = s.rdata := rfl
@[simp] theorem setChain_fresh (k : Nat) (f : Chain → Chain) : (setChain k f s).fresh = s.fresh := rfl
@[simp] theorem setChain_sys (k : Nat) (f : Chain → Chain) : (setChain k f s).sys = s.sys := rfl
@[simp] theorem setChain_aon (k : Nat) (f : Chain → Chain) : (setChain k f s).aon = s.aon := rfl
@[simp] theorem setChain_parison (k : Nat) (f : Chain → Chain) : (setChain k f s).parison = s.parison := rfl
@[simp] theorem setChain_time (k : Nat) (f : Chain → Chain) : (setChain k f s).time = s.time := rfl
@[simp] theorem setChain_gnss (k : Nat) (f : Chain → Chain) : (setChain k f s).gnss = s.gnss := rfl
@[simp] theorem setChain_rtk (k : Nat) (f : Chain → Chain) : (setChain k f s).rtk = s.rtk := rfl
@[simp] theorem setChain_lode (k : Nat) (f : Chain → Chain) : (setChain k f s).lode = s.lode := rfl
@[simp] theorem setChain_grid (k : Nat) (f : Chain → Chain) : (setChain k f s).grid = s.grid := rfl
@[simp] theorem setChain_setpt (k : Nat) (f : Chain → Chain) : (setChain k f s).setpt = s.setpt := rfl
@[simp] theorem setChain_quench (k : Nat) (f : Chain → Chain) : (setChain k f s).quench = s.quench := rfl
@[simp] theorem setChain_switch (k : Nat) (f : Chain → Chain) : (setChain k f s).switch = s.switch := rfl
@[simp] theorem setChain_twin (k : Nat) (f : Chain → Chain) : (setChain k f s).twin = s.twin := rfl
@[simp] theorem setChain_fr (k : Nat) (f : Chain → Chain) : (setChain k f s).fr = s.fr := rfl
@[simp] theorem setChain_fault (k : Nat) (f : Chain → Chain) : (setChain k f s).fault = s.fault := rfl
@[simp] theorem setChain_dispatch (k : Nat) (f : Chain → Chain) : (setChain k f s).dispatch = s.dispatch := rfl
@[simp] theorem setChain_coreMem (k : Nat) (f : Chain → Chain) : (setChain k f s).coreMem = s.coreMem := rfl
@[simp] theorem setChain_hostif (k : Nat) (f : Chain → Chain) : (setChain k f s).hostif = s.hostif := rfl
@[simp] theorem setChain_geode (k : Nat) (f : Chain → Chain) : (setChain k f s).geode = s.geode := rfl
@[simp] theorem setChain_assay (k : Nat) (f : Chain → Chain) : (setChain k f s).assay = s.assay := rfl
@[simp] theorem setChain_strata (k : Nat) (f : Chain → Chain) : (setChain k f s).strata = s.strata := rfl
@[simp] theorem setChain_ioctl (k : Nat) (f : Chain → Chain) : (setChain k f s).ioctl = s.ioctl := rfl
@[simp] theorem setChain_pending (k : Nat) (f : Chain → Chain) : (setChain k f s).pending = s.pending := rfl
@[simp] theorem setCore_clk (k : Nat) (f : FieldCore → FieldCore) : (setCore k f s).clk = s.clk := rfl
@[simp] theorem setCore_regs (k : Nat) (f : FieldCore → FieldCore) : (setCore k f s).regs = s.regs := rfl
@[simp] theorem setCore_counts (k : Nat) (f : FieldCore → FieldCore) : (setCore k f s).counts = s.counts := rfl
@[simp] theorem setCore_shadows (k : Nat) (f : FieldCore → FieldCore) : (setCore k f s).shadows = s.shadows := rfl
@[simp] theorem setCore_rdata (k : Nat) (f : FieldCore → FieldCore) : (setCore k f s).rdata = s.rdata := rfl
@[simp] theorem setCore_fresh (k : Nat) (f : FieldCore → FieldCore) : (setCore k f s).fresh = s.fresh := rfl
@[simp] theorem setCore_sys (k : Nat) (f : FieldCore → FieldCore) : (setCore k f s).sys = s.sys := rfl
@[simp] theorem setCore_aon (k : Nat) (f : FieldCore → FieldCore) : (setCore k f s).aon = s.aon := rfl
@[simp] theorem setCore_parison (k : Nat) (f : FieldCore → FieldCore) : (setCore k f s).parison = s.parison := rfl
@[simp] theorem setCore_time (k : Nat) (f : FieldCore → FieldCore) : (setCore k f s).time = s.time := rfl
@[simp] theorem setCore_gnss (k : Nat) (f : FieldCore → FieldCore) : (setCore k f s).gnss = s.gnss := rfl
@[simp] theorem setCore_rtk (k : Nat) (f : FieldCore → FieldCore) : (setCore k f s).rtk = s.rtk := rfl
@[simp] theorem setCore_lode (k : Nat) (f : FieldCore → FieldCore) : (setCore k f s).lode = s.lode := rfl
@[simp] theorem setCore_grid (k : Nat) (f : FieldCore → FieldCore) : (setCore k f s).grid = s.grid := rfl
@[simp] theorem setCore_setpt (k : Nat) (f : FieldCore → FieldCore) : (setCore k f s).setpt = s.setpt := rfl
@[simp] theorem setCore_radio (k : Nat) (f : FieldCore → FieldCore) : (setCore k f s).radio = s.radio := rfl
@[simp] theorem setCore_quench (k : Nat) (f : FieldCore → FieldCore) : (setCore k f s).quench = s.quench := rfl
@[simp] theorem setCore_switch (k : Nat) (f : FieldCore → FieldCore) : (setCore k f s).switch = s.switch := rfl
@[simp] theorem setCore_twin (k : Nat) (f : FieldCore → FieldCore) : (setCore k f s).twin = s.twin := rfl
@[simp] theorem setCore_fr (k : Nat) (f : FieldCore → FieldCore) : (setCore k f s).fr = s.fr := rfl
@[simp] theorem setCore_fault (k : Nat) (f : FieldCore → FieldCore) : (setCore k f s).fault = s.fault := rfl
@[simp] theorem setCore_coreMem (k : Nat) (f : FieldCore → FieldCore) : (setCore k f s).coreMem = s.coreMem := rfl
@[simp] theorem setCore_hostif (k : Nat) (f : FieldCore → FieldCore) : (setCore k f s).hostif = s.hostif := rfl
@[simp] theorem setCore_geode (k : Nat) (f : FieldCore → FieldCore) : (setCore k f s).geode = s.geode := rfl
@[simp] theorem setCore_assay (k : Nat) (f : FieldCore → FieldCore) : (setCore k f s).assay = s.assay := rfl
@[simp] theorem setCore_strata (k : Nat) (f : FieldCore → FieldCore) : (setCore k f s).strata = s.strata := rfl
@[simp] theorem setCore_ioctl (k : Nat) (f : FieldCore → FieldCore) : (setCore k f s).ioctl = s.ioctl := rfl
@[simp] theorem setCore_pending (k : Nat) (f : FieldCore → FieldCore) : (setCore k f s).pending = s.pending := rfl
@[simp] theorem setMb_clk (k : Nat) (f : Mailbox → Mailbox) : (setMb k f s).clk = s.clk := rfl
@[simp] theorem setMb_regs (k : Nat) (f : Mailbox → Mailbox) : (setMb k f s).regs = s.regs := rfl
@[simp] theorem setMb_counts (k : Nat) (f : Mailbox → Mailbox) : (setMb k f s).counts = s.counts := rfl
@[simp] theorem setMb_shadows (k : Nat) (f : Mailbox → Mailbox) : (setMb k f s).shadows = s.shadows := rfl
@[simp] theorem setMb_rdata (k : Nat) (f : Mailbox → Mailbox) : (setMb k f s).rdata = s.rdata := rfl
@[simp] theorem setMb_fresh (k : Nat) (f : Mailbox → Mailbox) : (setMb k f s).fresh = s.fresh := rfl
@[simp] theorem setMb_sys (k : Nat) (f : Mailbox → Mailbox) : (setMb k f s).sys = s.sys := rfl
@[simp] theorem setMb_aon (k : Nat) (f : Mailbox → Mailbox) : (setMb k f s).aon = s.aon := rfl
@[simp] theorem setMb_parison (k : Nat) (f : Mailbox → Mailbox) : (setMb k f s).parison = s.parison := rfl
@[simp] theorem setMb_time (k : Nat) (f : Mailbox → Mailbox) : (setMb k f s).time = s.time := rfl
@[simp] theorem setMb_gnss (k : Nat) (f : Mailbox → Mailbox) : (setMb k f s).gnss = s.gnss := rfl
@[simp] theorem setMb_rtk (k : Nat) (f : Mailbox → Mailbox) : (setMb k f s).rtk = s.rtk := rfl
@[simp] theorem setMb_lode (k : Nat) (f : Mailbox → Mailbox) : (setMb k f s).lode = s.lode := rfl
@[simp] theorem setMb_grid (k : Nat) (f : Mailbox → Mailbox) : (setMb k f s).grid = s.grid := rfl
@[simp] theorem setMb_setpt (k : Nat) (f : Mailbox → Mailbox) : (setMb k f s).setpt = s.setpt := rfl
@[simp] theorem setMb_radio (k : Nat) (f : Mailbox → Mailbox) : (setMb k f s).radio = s.radio := rfl
@[simp] theorem setMb_quench (k : Nat) (f : Mailbox → Mailbox) : (setMb k f s).quench = s.quench := rfl
@[simp] theorem setMb_switch (k : Nat) (f : Mailbox → Mailbox) : (setMb k f s).switch = s.switch := rfl
@[simp] theorem setMb_twin (k : Nat) (f : Mailbox → Mailbox) : (setMb k f s).twin = s.twin := rfl
@[simp] theorem setMb_fr (k : Nat) (f : Mailbox → Mailbox) : (setMb k f s).fr = s.fr := rfl
@[simp] theorem setMb_fault (k : Nat) (f : Mailbox → Mailbox) : (setMb k f s).fault = s.fault := rfl
@[simp] theorem setMb_dispatch (k : Nat) (f : Mailbox → Mailbox) : (setMb k f s).dispatch = s.dispatch := rfl
@[simp] theorem setMb_coreMem (k : Nat) (f : Mailbox → Mailbox) : (setMb k f s).coreMem = s.coreMem := rfl
@[simp] theorem setMb_geode (k : Nat) (f : Mailbox → Mailbox) : (setMb k f s).geode = s.geode := rfl
@[simp] theorem setMb_assay (k : Nat) (f : Mailbox → Mailbox) : (setMb k f s).assay = s.assay := rfl
@[simp] theorem setMb_strata (k : Nat) (f : Mailbox → Mailbox) : (setMb k f s).strata = s.strata := rfl
@[simp] theorem setMb_ioctl (k : Nat) (f : Mailbox → Mailbox) : (setMb k f s).ioctl = s.ioctl := rfl
@[simp] theorem setMb_pending (k : Nat) (f : Mailbox → Mailbox) : (setMb k f s).pending = s.pending := rfl
@[simp] theorem setCq_clk (k : Nat) (f : CmdQueue → CmdQueue) : (setCq k f s).clk = s.clk := rfl
@[simp] theorem setCq_regs (k : Nat) (f : CmdQueue → CmdQueue) : (setCq k f s).regs = s.regs := rfl
@[simp] theorem setCq_counts (k : Nat) (f : CmdQueue → CmdQueue) : (setCq k f s).counts = s.counts := rfl
@[simp] theorem setCq_shadows (k : Nat) (f : CmdQueue → CmdQueue) : (setCq k f s).shadows = s.shadows := rfl
@[simp] theorem setCq_rdata (k : Nat) (f : CmdQueue → CmdQueue) : (setCq k f s).rdata = s.rdata := rfl
@[simp] theorem setCq_fresh (k : Nat) (f : CmdQueue → CmdQueue) : (setCq k f s).fresh = s.fresh := rfl
@[simp] theorem setCq_sys (k : Nat) (f : CmdQueue → CmdQueue) : (setCq k f s).sys = s.sys := rfl
@[simp] theorem setCq_aon (k : Nat) (f : CmdQueue → CmdQueue) : (setCq k f s).aon = s.aon := rfl
@[simp] theorem setCq_parison (k : Nat) (f : CmdQueue → CmdQueue) : (setCq k f s).parison = s.parison := rfl
@[simp] theorem setCq_time (k : Nat) (f : CmdQueue → CmdQueue) : (setCq k f s).time = s.time := rfl
@[simp] theorem setCq_gnss (k : Nat) (f : CmdQueue → CmdQueue) : (setCq k f s).gnss = s.gnss := rfl
@[simp] theorem setCq_rtk (k : Nat) (f : CmdQueue → CmdQueue) : (setCq k f s).rtk = s.rtk := rfl
@[simp] theorem setCq_lode (k : Nat) (f : CmdQueue → CmdQueue) : (setCq k f s).lode = s.lode := rfl
@[simp] theorem setCq_grid (k : Nat) (f : CmdQueue → CmdQueue) : (setCq k f s).grid = s.grid := rfl
@[simp] theorem setCq_setpt (k : Nat) (f : CmdQueue → CmdQueue) : (setCq k f s).setpt = s.setpt := rfl
@[simp] theorem setCq_radio (k : Nat) (f : CmdQueue → CmdQueue) : (setCq k f s).radio = s.radio := rfl
@[simp] theorem setCq_quench (k : Nat) (f : CmdQueue → CmdQueue) : (setCq k f s).quench = s.quench := rfl
@[simp] theorem setCq_switch (k : Nat) (f : CmdQueue → CmdQueue) : (setCq k f s).switch = s.switch := rfl
@[simp] theorem setCq_twin (k : Nat) (f : CmdQueue → CmdQueue) : (setCq k f s).twin = s.twin := rfl
@[simp] theorem setCq_fr (k : Nat) (f : CmdQueue → CmdQueue) : (setCq k f s).fr = s.fr := rfl
@[simp] theorem setCq_fault (k : Nat) (f : CmdQueue → CmdQueue) : (setCq k f s).fault = s.fault := rfl
@[simp] theorem setCq_dispatch (k : Nat) (f : CmdQueue → CmdQueue) : (setCq k f s).dispatch = s.dispatch := rfl
@[simp] theorem setCq_coreMem (k : Nat) (f : CmdQueue → CmdQueue) : (setCq k f s).coreMem = s.coreMem := rfl
@[simp] theorem setCq_geode (k : Nat) (f : CmdQueue → CmdQueue) : (setCq k f s).geode = s.geode := rfl
@[simp] theorem setCq_assay (k : Nat) (f : CmdQueue → CmdQueue) : (setCq k f s).assay = s.assay := rfl
@[simp] theorem setCq_strata (k : Nat) (f : CmdQueue → CmdQueue) : (setCq k f s).strata = s.strata := rfl
@[simp] theorem setCq_ioctl (k : Nat) (f : CmdQueue → CmdQueue) : (setCq k f s).ioctl = s.ioctl := rfl
@[simp] theorem setCq_pending (k : Nat) (f : CmdQueue → CmdQueue) : (setCq k f s).pending = s.pending := rfl
@[simp] theorem setEq_clk (k : Nat) (f : EvtQueue → EvtQueue) : (setEq k f s).clk = s.clk := rfl
@[simp] theorem setEq_regs (k : Nat) (f : EvtQueue → EvtQueue) : (setEq k f s).regs = s.regs := rfl
@[simp] theorem setEq_counts (k : Nat) (f : EvtQueue → EvtQueue) : (setEq k f s).counts = s.counts := rfl
@[simp] theorem setEq_shadows (k : Nat) (f : EvtQueue → EvtQueue) : (setEq k f s).shadows = s.shadows := rfl
@[simp] theorem setEq_rdata (k : Nat) (f : EvtQueue → EvtQueue) : (setEq k f s).rdata = s.rdata := rfl
@[simp] theorem setEq_fresh (k : Nat) (f : EvtQueue → EvtQueue) : (setEq k f s).fresh = s.fresh := rfl
@[simp] theorem setEq_sys (k : Nat) (f : EvtQueue → EvtQueue) : (setEq k f s).sys = s.sys := rfl
@[simp] theorem setEq_aon (k : Nat) (f : EvtQueue → EvtQueue) : (setEq k f s).aon = s.aon := rfl
@[simp] theorem setEq_parison (k : Nat) (f : EvtQueue → EvtQueue) : (setEq k f s).parison = s.parison := rfl
@[simp] theorem setEq_time (k : Nat) (f : EvtQueue → EvtQueue) : (setEq k f s).time = s.time := rfl
@[simp] theorem setEq_gnss (k : Nat) (f : EvtQueue → EvtQueue) : (setEq k f s).gnss = s.gnss := rfl
@[simp] theorem setEq_rtk (k : Nat) (f : EvtQueue → EvtQueue) : (setEq k f s).rtk = s.rtk := rfl
@[simp] theorem setEq_lode (k : Nat) (f : EvtQueue → EvtQueue) : (setEq k f s).lode = s.lode := rfl
@[simp] theorem setEq_grid (k : Nat) (f : EvtQueue → EvtQueue) : (setEq k f s).grid = s.grid := rfl
@[simp] theorem setEq_setpt (k : Nat) (f : EvtQueue → EvtQueue) : (setEq k f s).setpt = s.setpt := rfl
@[simp] theorem setEq_radio (k : Nat) (f : EvtQueue → EvtQueue) : (setEq k f s).radio = s.radio := rfl
@[simp] theorem setEq_quench (k : Nat) (f : EvtQueue → EvtQueue) : (setEq k f s).quench = s.quench := rfl
@[simp] theorem setEq_switch (k : Nat) (f : EvtQueue → EvtQueue) : (setEq k f s).switch = s.switch := rfl
@[simp] theorem setEq_twin (k : Nat) (f : EvtQueue → EvtQueue) : (setEq k f s).twin = s.twin := rfl
@[simp] theorem setEq_fr (k : Nat) (f : EvtQueue → EvtQueue) : (setEq k f s).fr = s.fr := rfl
@[simp] theorem setEq_fault (k : Nat) (f : EvtQueue → EvtQueue) : (setEq k f s).fault = s.fault := rfl
@[simp] theorem setEq_dispatch (k : Nat) (f : EvtQueue → EvtQueue) : (setEq k f s).dispatch = s.dispatch := rfl
@[simp] theorem setEq_coreMem (k : Nat) (f : EvtQueue → EvtQueue) : (setEq k f s).coreMem = s.coreMem := rfl
@[simp] theorem setEq_geode (k : Nat) (f : EvtQueue → EvtQueue) : (setEq k f s).geode = s.geode := rfl
@[simp] theorem setEq_assay (k : Nat) (f : EvtQueue → EvtQueue) : (setEq k f s).assay = s.assay := rfl
@[simp] theorem setEq_strata (k : Nat) (f : EvtQueue → EvtQueue) : (setEq k f s).strata = s.strata := rfl
@[simp] theorem setEq_ioctl (k : Nat) (f : EvtQueue → EvtQueue) : (setEq k f s).ioctl = s.ioctl := rfl
@[simp] theorem setEq_pending (k : Nat) (f : EvtQueue → EvtQueue) : (setEq k f s).pending = s.pending := rfl
@[simp] theorem setAs_clk (k : Nat) (f : AsChan → AsChan) : (setAs k f s).clk = s.clk := rfl
@[simp] theorem setAs_regs (k : Nat) (f : AsChan → AsChan) : (setAs k f s).regs = s.regs := rfl
@[simp] theorem setAs_counts (k : Nat) (f : AsChan → AsChan) : (setAs k f s).counts = s.counts := rfl
@[simp] theorem setAs_shadows (k : Nat) (f : AsChan → AsChan) : (setAs k f s).shadows = s.shadows := rfl
@[simp] theorem setAs_rdata (k : Nat) (f : AsChan → AsChan) : (setAs k f s).rdata = s.rdata := rfl
@[simp] theorem setAs_fresh (k : Nat) (f : AsChan → AsChan) : (setAs k f s).fresh = s.fresh := rfl
@[simp] theorem setAs_sys (k : Nat) (f : AsChan → AsChan) : (setAs k f s).sys = s.sys := rfl
@[simp] theorem setAs_aon (k : Nat) (f : AsChan → AsChan) : (setAs k f s).aon = s.aon := rfl
@[simp] theorem setAs_parison (k : Nat) (f : AsChan → AsChan) : (setAs k f s).parison = s.parison := rfl
@[simp] theorem setAs_time (k : Nat) (f : AsChan → AsChan) : (setAs k f s).time = s.time := rfl
@[simp] theorem setAs_gnss (k : Nat) (f : AsChan → AsChan) : (setAs k f s).gnss = s.gnss := rfl
@[simp] theorem setAs_rtk (k : Nat) (f : AsChan → AsChan) : (setAs k f s).rtk = s.rtk := rfl
@[simp] theorem setAs_lode (k : Nat) (f : AsChan → AsChan) : (setAs k f s).lode = s.lode := rfl
@[simp] theorem setAs_grid (k : Nat) (f : AsChan → AsChan) : (setAs k f s).grid = s.grid := rfl
@[simp] theorem setAs_setpt (k : Nat) (f : AsChan → AsChan) : (setAs k f s).setpt = s.setpt := rfl
@[simp] theorem setAs_radio (k : Nat) (f : AsChan → AsChan) : (setAs k f s).radio = s.radio := rfl
@[simp] theorem setAs_quench (k : Nat) (f : AsChan → AsChan) : (setAs k f s).quench = s.quench := rfl
@[simp] theorem setAs_switch (k : Nat) (f : AsChan → AsChan) : (setAs k f s).switch = s.switch := rfl
@[simp] theorem setAs_twin (k : Nat) (f : AsChan → AsChan) : (setAs k f s).twin = s.twin := rfl
@[simp] theorem setAs_fr (k : Nat) (f : AsChan → AsChan) : (setAs k f s).fr = s.fr := rfl
@[simp] theorem setAs_fault (k : Nat) (f : AsChan → AsChan) : (setAs k f s).fault = s.fault := rfl
@[simp] theorem setAs_dispatch (k : Nat) (f : AsChan → AsChan) : (setAs k f s).dispatch = s.dispatch := rfl
@[simp] theorem setAs_coreMem (k : Nat) (f : AsChan → AsChan) : (setAs k f s).coreMem = s.coreMem := rfl
@[simp] theorem setAs_hostif (k : Nat) (f : AsChan → AsChan) : (setAs k f s).hostif = s.hostif := rfl
@[simp] theorem setAs_geode (k : Nat) (f : AsChan → AsChan) : (setAs k f s).geode = s.geode := rfl
@[simp] theorem setAs_strata (k : Nat) (f : AsChan → AsChan) : (setAs k f s).strata = s.strata := rfl
@[simp] theorem setAs_ioctl (k : Nat) (f : AsChan → AsChan) : (setAs k f s).ioctl = s.ioctl := rfl
@[simp] theorem setAs_pending (k : Nat) (f : AsChan → AsChan) : (setAs k f s).pending = s.pending := rfl
@[simp] theorem mapAs_clk (f : AsChan → AsChan) : (mapAs f s).clk = s.clk := rfl
@[simp] theorem mapAs_regs (f : AsChan → AsChan) : (mapAs f s).regs = s.regs := rfl
@[simp] theorem mapAs_counts (f : AsChan → AsChan) : (mapAs f s).counts = s.counts := rfl
@[simp] theorem mapAs_shadows (f : AsChan → AsChan) : (mapAs f s).shadows = s.shadows := rfl
@[simp] theorem mapAs_rdata (f : AsChan → AsChan) : (mapAs f s).rdata = s.rdata := rfl
@[simp] theorem mapAs_fresh (f : AsChan → AsChan) : (mapAs f s).fresh = s.fresh := rfl
@[simp] theorem mapAs_sys (f : AsChan → AsChan) : (mapAs f s).sys = s.sys := rfl
@[simp] theorem mapAs_aon (f : AsChan → AsChan) : (mapAs f s).aon = s.aon := rfl
@[simp] theorem mapAs_parison (f : AsChan → AsChan) : (mapAs f s).parison = s.parison := rfl
@[simp] theorem mapAs_time (f : AsChan → AsChan) : (mapAs f s).time = s.time := rfl
@[simp] theorem mapAs_gnss (f : AsChan → AsChan) : (mapAs f s).gnss = s.gnss := rfl
@[simp] theorem mapAs_rtk (f : AsChan → AsChan) : (mapAs f s).rtk = s.rtk := rfl
@[simp] theorem mapAs_lode (f : AsChan → AsChan) : (mapAs f s).lode = s.lode := rfl
@[simp] theorem mapAs_grid (f : AsChan → AsChan) : (mapAs f s).grid = s.grid := rfl
@[simp] theorem mapAs_setpt (f : AsChan → AsChan) : (mapAs f s).setpt = s.setpt := rfl
@[simp] theorem mapAs_radio (f : AsChan → AsChan) : (mapAs f s).radio = s.radio := rfl
@[simp] theorem mapAs_quench (f : AsChan → AsChan) : (mapAs f s).quench = s.quench := rfl
@[simp] theorem mapAs_switch (f : AsChan → AsChan) : (mapAs f s).switch = s.switch := rfl
@[simp] theorem mapAs_twin (f : AsChan → AsChan) : (mapAs f s).twin = s.twin := rfl
@[simp] theorem mapAs_fr (f : AsChan → AsChan) : (mapAs f s).fr = s.fr := rfl
@[simp] theorem mapAs_fault (f : AsChan → AsChan) : (mapAs f s).fault = s.fault := rfl
@[simp] theorem mapAs_dispatch (f : AsChan → AsChan) : (mapAs f s).dispatch = s.dispatch := rfl
@[simp] theorem mapAs_coreMem (f : AsChan → AsChan) : (mapAs f s).coreMem = s.coreMem := rfl
@[simp] theorem mapAs_hostif (f : AsChan → AsChan) : (mapAs f s).hostif = s.hostif := rfl
@[simp] theorem mapAs_geode (f : AsChan → AsChan) : (mapAs f s).geode = s.geode := rfl
@[simp] theorem mapAs_strata (f : AsChan → AsChan) : (mapAs f s).strata = s.strata := rfl
@[simp] theorem mapAs_ioctl (f : AsChan → AsChan) : (mapAs f s).ioctl = s.ioctl := rfl
@[simp] theorem mapAs_pending (f : AsChan → AsChan) : (mapAs f s).pending = s.pending := rfl
@[simp] theorem setPort_clk (k : Nat) (f : SwPort → SwPort) : (setPort k f s).clk = s.clk := rfl
@[simp] theorem setPort_regs (k : Nat) (f : SwPort → SwPort) : (setPort k f s).regs = s.regs := rfl
@[simp] theorem setPort_counts (k : Nat) (f : SwPort → SwPort) : (setPort k f s).counts = s.counts := rfl
@[simp] theorem setPort_shadows (k : Nat) (f : SwPort → SwPort) : (setPort k f s).shadows = s.shadows := rfl
@[simp] theorem setPort_rdata (k : Nat) (f : SwPort → SwPort) : (setPort k f s).rdata = s.rdata := rfl
@[simp] theorem setPort_fresh (k : Nat) (f : SwPort → SwPort) : (setPort k f s).fresh = s.fresh := rfl
@[simp] theorem setPort_sys (k : Nat) (f : SwPort → SwPort) : (setPort k f s).sys = s.sys := rfl
@[simp] theorem setPort_aon (k : Nat) (f : SwPort → SwPort) : (setPort k f s).aon = s.aon := rfl
@[simp] theorem setPort_parison (k : Nat) (f : SwPort → SwPort) : (setPort k f s).parison = s.parison := rfl
@[simp] theorem setPort_time (k : Nat) (f : SwPort → SwPort) : (setPort k f s).time = s.time := rfl
@[simp] theorem setPort_gnss (k : Nat) (f : SwPort → SwPort) : (setPort k f s).gnss = s.gnss := rfl
@[simp] theorem setPort_rtk (k : Nat) (f : SwPort → SwPort) : (setPort k f s).rtk = s.rtk := rfl
@[simp] theorem setPort_lode (k : Nat) (f : SwPort → SwPort) : (setPort k f s).lode = s.lode := rfl
@[simp] theorem setPort_grid (k : Nat) (f : SwPort → SwPort) : (setPort k f s).grid = s.grid := rfl
@[simp] theorem setPort_setpt (k : Nat) (f : SwPort → SwPort) : (setPort k f s).setpt = s.setpt := rfl
@[simp] theorem setPort_radio (k : Nat) (f : SwPort → SwPort) : (setPort k f s).radio = s.radio := rfl
@[simp] theorem setPort_quench (k : Nat) (f : SwPort → SwPort) : (setPort k f s).quench = s.quench := rfl
@[simp] theorem setPort_twin (k : Nat) (f : SwPort → SwPort) : (setPort k f s).twin = s.twin := rfl
@[simp] theorem setPort_fr (k : Nat) (f : SwPort → SwPort) : (setPort k f s).fr = s.fr := rfl
@[simp] theorem setPort_fault (k : Nat) (f : SwPort → SwPort) : (setPort k f s).fault = s.fault := rfl
@[simp] theorem setPort_dispatch (k : Nat) (f : SwPort → SwPort) : (setPort k f s).dispatch = s.dispatch := rfl
@[simp] theorem setPort_coreMem (k : Nat) (f : SwPort → SwPort) : (setPort k f s).coreMem = s.coreMem := rfl
@[simp] theorem setPort_hostif (k : Nat) (f : SwPort → SwPort) : (setPort k f s).hostif = s.hostif := rfl
@[simp] theorem setPort_geode (k : Nat) (f : SwPort → SwPort) : (setPort k f s).geode = s.geode := rfl
@[simp] theorem setPort_assay (k : Nat) (f : SwPort → SwPort) : (setPort k f s).assay = s.assay := rfl
@[simp] theorem setPort_strata (k : Nat) (f : SwPort → SwPort) : (setPort k f s).strata = s.strata := rfl
@[simp] theorem setPort_ioctl (k : Nat) (f : SwPort → SwPort) : (setPort k f s).ioctl = s.ioctl := rfl
@[simp] theorem setPort_pending (k : Nat) (f : SwPort → SwPort) : (setPort k f s).pending = s.pending := rfl
@[simp] theorem setQ_clk (k : Nat) (f : SwQueue → SwQueue) : (setQ k f s).clk = s.clk := rfl
@[simp] theorem setQ_regs (k : Nat) (f : SwQueue → SwQueue) : (setQ k f s).regs = s.regs := rfl
@[simp] theorem setQ_counts (k : Nat) (f : SwQueue → SwQueue) : (setQ k f s).counts = s.counts := rfl
@[simp] theorem setQ_shadows (k : Nat) (f : SwQueue → SwQueue) : (setQ k f s).shadows = s.shadows := rfl
@[simp] theorem setQ_rdata (k : Nat) (f : SwQueue → SwQueue) : (setQ k f s).rdata = s.rdata := rfl
@[simp] theorem setQ_fresh (k : Nat) (f : SwQueue → SwQueue) : (setQ k f s).fresh = s.fresh := rfl
@[simp] theorem setQ_sys (k : Nat) (f : SwQueue → SwQueue) : (setQ k f s).sys = s.sys := rfl
@[simp] theorem setQ_aon (k : Nat) (f : SwQueue → SwQueue) : (setQ k f s).aon = s.aon := rfl
@[simp] theorem setQ_parison (k : Nat) (f : SwQueue → SwQueue) : (setQ k f s).parison = s.parison := rfl
@[simp] theorem setQ_time (k : Nat) (f : SwQueue → SwQueue) : (setQ k f s).time = s.time := rfl
@[simp] theorem setQ_gnss (k : Nat) (f : SwQueue → SwQueue) : (setQ k f s).gnss = s.gnss := rfl
@[simp] theorem setQ_rtk (k : Nat) (f : SwQueue → SwQueue) : (setQ k f s).rtk = s.rtk := rfl
@[simp] theorem setQ_lode (k : Nat) (f : SwQueue → SwQueue) : (setQ k f s).lode = s.lode := rfl
@[simp] theorem setQ_grid (k : Nat) (f : SwQueue → SwQueue) : (setQ k f s).grid = s.grid := rfl
@[simp] theorem setQ_setpt (k : Nat) (f : SwQueue → SwQueue) : (setQ k f s).setpt = s.setpt := rfl
@[simp] theorem setQ_radio (k : Nat) (f : SwQueue → SwQueue) : (setQ k f s).radio = s.radio := rfl
@[simp] theorem setQ_quench (k : Nat) (f : SwQueue → SwQueue) : (setQ k f s).quench = s.quench := rfl
@[simp] theorem setQ_twin (k : Nat) (f : SwQueue → SwQueue) : (setQ k f s).twin = s.twin := rfl
@[simp] theorem setQ_fr (k : Nat) (f : SwQueue → SwQueue) : (setQ k f s).fr = s.fr := rfl
@[simp] theorem setQ_fault (k : Nat) (f : SwQueue → SwQueue) : (setQ k f s).fault = s.fault := rfl
@[simp] theorem setQ_dispatch (k : Nat) (f : SwQueue → SwQueue) : (setQ k f s).dispatch = s.dispatch := rfl
@[simp] theorem setQ_coreMem (k : Nat) (f : SwQueue → SwQueue) : (setQ k f s).coreMem = s.coreMem := rfl
@[simp] theorem setQ_hostif (k : Nat) (f : SwQueue → SwQueue) : (setQ k f s).hostif = s.hostif := rfl
@[simp] theorem setQ_geode (k : Nat) (f : SwQueue → SwQueue) : (setQ k f s).geode = s.geode := rfl
@[simp] theorem setQ_assay (k : Nat) (f : SwQueue → SwQueue) : (setQ k f s).assay = s.assay := rfl
@[simp] theorem setQ_strata (k : Nat) (f : SwQueue → SwQueue) : (setQ k f s).strata = s.strata := rfl
@[simp] theorem setQ_ioctl (k : Nat) (f : SwQueue → SwQueue) : (setQ k f s).ioctl = s.ioctl := rfl
@[simp] theorem setQ_pending (k : Nat) (f : SwQueue → SwQueue) : (setQ k f s).pending = s.pending := rfl
@[simp] theorem setUart_clk (k : Nat) (f : Uart → Uart) : (setUart k f s).clk = s.clk := rfl
@[simp] theorem setUart_regs (k : Nat) (f : Uart → Uart) : (setUart k f s).regs = s.regs := rfl
@[simp] theorem setUart_counts (k : Nat) (f : Uart → Uart) : (setUart k f s).counts = s.counts := rfl
@[simp] theorem setUart_shadows (k : Nat) (f : Uart → Uart) : (setUart k f s).shadows = s.shadows := rfl
@[simp] theorem setUart_rdata (k : Nat) (f : Uart → Uart) : (setUart k f s).rdata = s.rdata := rfl
@[simp] theorem setUart_fresh (k : Nat) (f : Uart → Uart) : (setUart k f s).fresh = s.fresh := rfl
@[simp] theorem setUart_sys (k : Nat) (f : Uart → Uart) : (setUart k f s).sys = s.sys := rfl
@[simp] theorem setUart_aon (k : Nat) (f : Uart → Uart) : (setUart k f s).aon = s.aon := rfl
@[simp] theorem setUart_parison (k : Nat) (f : Uart → Uart) : (setUart k f s).parison = s.parison := rfl
@[simp] theorem setUart_time (k : Nat) (f : Uart → Uart) : (setUart k f s).time = s.time := rfl
@[simp] theorem setUart_gnss (k : Nat) (f : Uart → Uart) : (setUart k f s).gnss = s.gnss := rfl
@[simp] theorem setUart_rtk (k : Nat) (f : Uart → Uart) : (setUart k f s).rtk = s.rtk := rfl
@[simp] theorem setUart_lode (k : Nat) (f : Uart → Uart) : (setUart k f s).lode = s.lode := rfl
@[simp] theorem setUart_grid (k : Nat) (f : Uart → Uart) : (setUart k f s).grid = s.grid := rfl
@[simp] theorem setUart_setpt (k : Nat) (f : Uart → Uart) : (setUart k f s).setpt = s.setpt := rfl
@[simp] theorem setUart_radio (k : Nat) (f : Uart → Uart) : (setUart k f s).radio = s.radio := rfl
@[simp] theorem setUart_quench (k : Nat) (f : Uart → Uart) : (setUart k f s).quench = s.quench := rfl
@[simp] theorem setUart_switch (k : Nat) (f : Uart → Uart) : (setUart k f s).switch = s.switch := rfl
@[simp] theorem setUart_twin (k : Nat) (f : Uart → Uart) : (setUart k f s).twin = s.twin := rfl
@[simp] theorem setUart_fr (k : Nat) (f : Uart → Uart) : (setUart k f s).fr = s.fr := rfl
@[simp] theorem setUart_fault (k : Nat) (f : Uart → Uart) : (setUart k f s).fault = s.fault := rfl
@[simp] theorem setUart_dispatch (k : Nat) (f : Uart → Uart) : (setUart k f s).dispatch = s.dispatch := rfl
@[simp] theorem setUart_coreMem (k : Nat) (f : Uart → Uart) : (setUart k f s).coreMem = s.coreMem := rfl
@[simp] theorem setUart_hostif (k : Nat) (f : Uart → Uart) : (setUart k f s).hostif = s.hostif := rfl
@[simp] theorem setUart_geode (k : Nat) (f : Uart → Uart) : (setUart k f s).geode = s.geode := rfl
@[simp] theorem setUart_assay (k : Nat) (f : Uart → Uart) : (setUart k f s).assay = s.assay := rfl
@[simp] theorem setUart_strata (k : Nat) (f : Uart → Uart) : (setUart k f s).strata = s.strata := rfl
@[simp] theorem setUart_pending (k : Nat) (f : Uart → Uart) : (setUart k f s).pending = s.pending := rfl
@[simp] theorem setRes_clk (r : ResRec) : (setRes r s).clk = s.clk := rfl
@[simp] theorem setRes_regs (r : ResRec) : (setRes r s).regs = s.regs := rfl
@[simp] theorem setRes_counts (r : ResRec) : (setRes r s).counts = s.counts := rfl
@[simp] theorem setRes_shadows (r : ResRec) : (setRes r s).shadows = s.shadows := rfl
@[simp] theorem setRes_rdata (r : ResRec) : (setRes r s).rdata = s.rdata := rfl
@[simp] theorem setRes_fresh (r : ResRec) : (setRes r s).fresh = s.fresh := rfl
@[simp] theorem setRes_sys (r : ResRec) : (setRes r s).sys = s.sys := rfl
@[simp] theorem setRes_aon (r : ResRec) : (setRes r s).aon = s.aon := rfl
@[simp] theorem setRes_parison (r : ResRec) : (setRes r s).parison = s.parison := rfl
@[simp] theorem setRes_time (r : ResRec) : (setRes r s).time = s.time := rfl
@[simp] theorem setRes_gnss (r : ResRec) : (setRes r s).gnss = s.gnss := rfl
@[simp] theorem setRes_rtk (r : ResRec) : (setRes r s).rtk = s.rtk := rfl
@[simp] theorem setRes_lode (r : ResRec) : (setRes r s).lode = s.lode := rfl
@[simp] theorem setRes_grid (r : ResRec) : (setRes r s).grid = s.grid := rfl
@[simp] theorem setRes_setpt (r : ResRec) : (setRes r s).setpt = s.setpt := rfl
@[simp] theorem setRes_radio (r : ResRec) : (setRes r s).radio = s.radio := rfl
@[simp] theorem setRes_quench (r : ResRec) : (setRes r s).quench = s.quench := rfl
@[simp] theorem setRes_switch (r : ResRec) : (setRes r s).switch = s.switch := rfl
@[simp] theorem setRes_twin (r : ResRec) : (setRes r s).twin = s.twin := rfl
@[simp] theorem setRes_fr (r : ResRec) : (setRes r s).fr = s.fr := rfl
@[simp] theorem setRes_dispatch (r : ResRec) : (setRes r s).dispatch = s.dispatch := rfl
@[simp] theorem setRes_coreMem (r : ResRec) : (setRes r s).coreMem = s.coreMem := rfl
@[simp] theorem setRes_hostif (r : ResRec) : (setRes r s).hostif = s.hostif := rfl
@[simp] theorem setRes_geode (r : ResRec) : (setRes r s).geode = s.geode := rfl
@[simp] theorem setRes_assay (r : ResRec) : (setRes r s).assay = s.assay := rfl
@[simp] theorem setRes_strata (r : ResRec) : (setRes r s).strata = s.strata := rfl
@[simp] theorem setRes_ioctl (r : ResRec) : (setRes r s).ioctl = s.ioctl := rfl
@[simp] theorem setRes_pending (r : ResRec) : (setRes r s).pending = s.pending := rfl
@[simp] theorem setLoad_clk (f : Load → Load) : (setLoad f s).clk = s.clk := rfl
@[simp] theorem setLoad_regs (f : Load → Load) : (setLoad f s).regs = s.regs := rfl
@[simp] theorem setLoad_counts (f : Load → Load) : (setLoad f s).counts = s.counts := rfl
@[simp] theorem setLoad_shadows (f : Load → Load) : (setLoad f s).shadows = s.shadows := rfl
@[simp] theorem setLoad_rdata (f : Load → Load) : (setLoad f s).rdata = s.rdata := rfl
@[simp] theorem setLoad_fresh (f : Load → Load) : (setLoad f s).fresh = s.fresh := rfl
@[simp] theorem setLoad_sys (f : Load → Load) : (setLoad f s).sys = s.sys := rfl
@[simp] theorem setLoad_aon (f : Load → Load) : (setLoad f s).aon = s.aon := rfl
@[simp] theorem setLoad_time (f : Load → Load) : (setLoad f s).time = s.time := rfl
@[simp] theorem setLoad_gnss (f : Load → Load) : (setLoad f s).gnss = s.gnss := rfl
@[simp] theorem setLoad_rtk (f : Load → Load) : (setLoad f s).rtk = s.rtk := rfl
@[simp] theorem setLoad_lode (f : Load → Load) : (setLoad f s).lode = s.lode := rfl
@[simp] theorem setLoad_grid (f : Load → Load) : (setLoad f s).grid = s.grid := rfl
@[simp] theorem setLoad_setpt (f : Load → Load) : (setLoad f s).setpt = s.setpt := rfl
@[simp] theorem setLoad_radio (f : Load → Load) : (setLoad f s).radio = s.radio := rfl
@[simp] theorem setLoad_quench (f : Load → Load) : (setLoad f s).quench = s.quench := rfl
@[simp] theorem setLoad_switch (f : Load → Load) : (setLoad f s).switch = s.switch := rfl
@[simp] theorem setLoad_twin (f : Load → Load) : (setLoad f s).twin = s.twin := rfl
@[simp] theorem setLoad_fr (f : Load → Load) : (setLoad f s).fr = s.fr := rfl
@[simp] theorem setLoad_fault (f : Load → Load) : (setLoad f s).fault = s.fault := rfl
@[simp] theorem setLoad_dispatch (f : Load → Load) : (setLoad f s).dispatch = s.dispatch := rfl
@[simp] theorem setLoad_coreMem (f : Load → Load) : (setLoad f s).coreMem = s.coreMem := rfl
@[simp] theorem setLoad_hostif (f : Load → Load) : (setLoad f s).hostif = s.hostif := rfl
@[simp] theorem setLoad_geode (f : Load → Load) : (setLoad f s).geode = s.geode := rfl
@[simp] theorem setLoad_assay (f : Load → Load) : (setLoad f s).assay = s.assay := rfl
@[simp] theorem setLoad_strata (f : Load → Load) : (setLoad f s).strata = s.strata := rfl
@[simp] theorem setLoad_ioctl (f : Load → Load) : (setLoad f s).ioctl = s.ioctl := rfl
@[simp] theorem setLoad_pending (f : Load → Load) : (setLoad f s).pending = s.pending := rfl
@[simp] theorem setSlot_clk (n : Nat) (x : StoreSlot) : (setSlot n x s).clk = s.clk := rfl
@[simp] theorem setSlot_regs (n : Nat) (x : StoreSlot) : (setSlot n x s).regs = s.regs := rfl
@[simp] theorem setSlot_counts (n : Nat) (x : StoreSlot) : (setSlot n x s).counts = s.counts := rfl
@[simp] theorem setSlot_shadows (n : Nat) (x : StoreSlot) : (setSlot n x s).shadows = s.shadows := rfl
@[simp] theorem setSlot_rdata (n : Nat) (x : StoreSlot) : (setSlot n x s).rdata = s.rdata := rfl
@[simp] theorem setSlot_fresh (n : Nat) (x : StoreSlot) : (setSlot n x s).fresh = s.fresh := rfl
@[simp] theorem setSlot_sys (n : Nat) (x : StoreSlot) : (setSlot n x s).sys = s.sys := rfl
@[simp] theorem setSlot_aon (n : Nat) (x : StoreSlot) : (setSlot n x s).aon = s.aon := rfl
@[simp] theorem setSlot_time (n : Nat) (x : StoreSlot) : (setSlot n x s).time = s.time := rfl
@[simp] theorem setSlot_gnss (n : Nat) (x : StoreSlot) : (setSlot n x s).gnss = s.gnss := rfl
@[simp] theorem setSlot_rtk (n : Nat) (x : StoreSlot) : (setSlot n x s).rtk = s.rtk := rfl
@[simp] theorem setSlot_lode (n : Nat) (x : StoreSlot) : (setSlot n x s).lode = s.lode := rfl
@[simp] theorem setSlot_grid (n : Nat) (x : StoreSlot) : (setSlot n x s).grid = s.grid := rfl
@[simp] theorem setSlot_setpt (n : Nat) (x : StoreSlot) : (setSlot n x s).setpt = s.setpt := rfl
@[simp] theorem setSlot_radio (n : Nat) (x : StoreSlot) : (setSlot n x s).radio = s.radio := rfl
@[simp] theorem setSlot_quench (n : Nat) (x : StoreSlot) : (setSlot n x s).quench = s.quench := rfl
@[simp] theorem setSlot_switch (n : Nat) (x : StoreSlot) : (setSlot n x s).switch = s.switch := rfl
@[simp] theorem setSlot_twin (n : Nat) (x : StoreSlot) : (setSlot n x s).twin = s.twin := rfl
@[simp] theorem setSlot_fr (n : Nat) (x : StoreSlot) : (setSlot n x s).fr = s.fr := rfl
@[simp] theorem setSlot_fault (n : Nat) (x : StoreSlot) : (setSlot n x s).fault = s.fault := rfl
@[simp] theorem setSlot_dispatch (n : Nat) (x : StoreSlot) : (setSlot n x s).dispatch = s.dispatch := rfl
@[simp] theorem setSlot_coreMem (n : Nat) (x : StoreSlot) : (setSlot n x s).coreMem = s.coreMem := rfl
@[simp] theorem setSlot_hostif (n : Nat) (x : StoreSlot) : (setSlot n x s).hostif = s.hostif := rfl
@[simp] theorem setSlot_geode (n : Nat) (x : StoreSlot) : (setSlot n x s).geode = s.geode := rfl
@[simp] theorem setSlot_assay (n : Nat) (x : StoreSlot) : (setSlot n x s).assay = s.assay := rfl
@[simp] theorem setSlot_strata (n : Nat) (x : StoreSlot) : (setSlot n x s).strata = s.strata := rfl
@[simp] theorem setSlot_ioctl (n : Nat) (x : StoreSlot) : (setSlot n x s).ioctl = s.ioctl := rfl
@[simp] theorem setSlot_pending (n : Nat) (x : StoreSlot) : (setSlot n x s).pending = s.pending := rfl
@[simp] theorem setSp_clk (k : Nat) (f : SpMach → SpMach) : (setSp k f s).clk = s.clk := rfl
@[simp] theorem setSp_regs (k : Nat) (f : SpMach → SpMach) : (setSp k f s).regs = s.regs := rfl
@[simp] theorem setSp_counts (k : Nat) (f : SpMach → SpMach) : (setSp k f s).counts = s.counts := rfl
@[simp] theorem setSp_shadows (k : Nat) (f : SpMach → SpMach) : (setSp k f s).shadows = s.shadows := rfl
@[simp] theorem setSp_rdata (k : Nat) (f : SpMach → SpMach) : (setSp k f s).rdata = s.rdata := rfl
@[simp] theorem setSp_fresh (k : Nat) (f : SpMach → SpMach) : (setSp k f s).fresh = s.fresh := rfl
@[simp] theorem setSp_sys (k : Nat) (f : SpMach → SpMach) : (setSp k f s).sys = s.sys := rfl
@[simp] theorem setSp_aon (k : Nat) (f : SpMach → SpMach) : (setSp k f s).aon = s.aon := rfl
@[simp] theorem setSp_parison (k : Nat) (f : SpMach → SpMach) : (setSp k f s).parison = s.parison := rfl
@[simp] theorem setSp_time (k : Nat) (f : SpMach → SpMach) : (setSp k f s).time = s.time := rfl
@[simp] theorem setSp_gnss (k : Nat) (f : SpMach → SpMach) : (setSp k f s).gnss = s.gnss := rfl
@[simp] theorem setSp_rtk (k : Nat) (f : SpMach → SpMach) : (setSp k f s).rtk = s.rtk := rfl
@[simp] theorem setSp_lode (k : Nat) (f : SpMach → SpMach) : (setSp k f s).lode = s.lode := rfl
@[simp] theorem setSp_grid (k : Nat) (f : SpMach → SpMach) : (setSp k f s).grid = s.grid := rfl
@[simp] theorem setSp_radio (k : Nat) (f : SpMach → SpMach) : (setSp k f s).radio = s.radio := rfl
@[simp] theorem setSp_quench (k : Nat) (f : SpMach → SpMach) : (setSp k f s).quench = s.quench := rfl
@[simp] theorem setSp_switch (k : Nat) (f : SpMach → SpMach) : (setSp k f s).switch = s.switch := rfl
@[simp] theorem setSp_twin (k : Nat) (f : SpMach → SpMach) : (setSp k f s).twin = s.twin := rfl
@[simp] theorem setSp_fr (k : Nat) (f : SpMach → SpMach) : (setSp k f s).fr = s.fr := rfl
@[simp] theorem setSp_fault (k : Nat) (f : SpMach → SpMach) : (setSp k f s).fault = s.fault := rfl
@[simp] theorem setSp_dispatch (k : Nat) (f : SpMach → SpMach) : (setSp k f s).dispatch = s.dispatch := rfl
@[simp] theorem setSp_coreMem (k : Nat) (f : SpMach → SpMach) : (setSp k f s).coreMem = s.coreMem := rfl
@[simp] theorem setSp_hostif (k : Nat) (f : SpMach → SpMach) : (setSp k f s).hostif = s.hostif := rfl
@[simp] theorem setSp_geode (k : Nat) (f : SpMach → SpMach) : (setSp k f s).geode = s.geode := rfl
@[simp] theorem setSp_assay (k : Nat) (f : SpMach → SpMach) : (setSp k f s).assay = s.assay := rfl
@[simp] theorem setSp_strata (k : Nat) (f : SpMach → SpMach) : (setSp k f s).strata = s.strata := rfl
@[simp] theorem setSp_ioctl (k : Nat) (f : SpMach → SpMach) : (setSp k f s).ioctl = s.ioctl := rfl
@[simp] theorem setSp_pending (k : Nat) (f : SpMach → SpMach) : (setSp k f s).pending = s.pending := rfl
@[simp] theorem setGridMach_clk (k : Nat) (f : GridMach → GridMach) : (setGridMach k f s).clk = s.clk := rfl
@[simp] theorem setGridMach_regs (k : Nat) (f : GridMach → GridMach) : (setGridMach k f s).regs = s.regs := rfl
@[simp] theorem setGridMach_counts (k : Nat) (f : GridMach → GridMach) : (setGridMach k f s).counts = s.counts := rfl
@[simp] theorem setGridMach_shadows (k : Nat) (f : GridMach → GridMach) : (setGridMach k f s).shadows = s.shadows := rfl
@[simp] theorem setGridMach_rdata (k : Nat) (f : GridMach → GridMach) : (setGridMach k f s).rdata = s.rdata := rfl
@[simp] theorem setGridMach_fresh (k : Nat) (f : GridMach → GridMach) : (setGridMach k f s).fresh = s.fresh := rfl
@[simp] theorem setGridMach_sys (k : Nat) (f : GridMach → GridMach) : (setGridMach k f s).sys = s.sys := rfl
@[simp] theorem setGridMach_aon (k : Nat) (f : GridMach → GridMach) : (setGridMach k f s).aon = s.aon := rfl
@[simp] theorem setGridMach_parison (k : Nat) (f : GridMach → GridMach) : (setGridMach k f s).parison = s.parison := rfl
@[simp] theorem setGridMach_time (k : Nat) (f : GridMach → GridMach) : (setGridMach k f s).time = s.time := rfl
@[simp] theorem setGridMach_gnss (k : Nat) (f : GridMach → GridMach) : (setGridMach k f s).gnss = s.gnss := rfl
@[simp] theorem setGridMach_rtk (k : Nat) (f : GridMach → GridMach) : (setGridMach k f s).rtk = s.rtk := rfl
@[simp] theorem setGridMach_lode (k : Nat) (f : GridMach → GridMach) : (setGridMach k f s).lode = s.lode := rfl
@[simp] theorem setGridMach_setpt (k : Nat) (f : GridMach → GridMach) : (setGridMach k f s).setpt = s.setpt := rfl
@[simp] theorem setGridMach_radio (k : Nat) (f : GridMach → GridMach) : (setGridMach k f s).radio = s.radio := rfl
@[simp] theorem setGridMach_quench (k : Nat) (f : GridMach → GridMach) : (setGridMach k f s).quench = s.quench := rfl
@[simp] theorem setGridMach_switch (k : Nat) (f : GridMach → GridMach) : (setGridMach k f s).switch = s.switch := rfl
@[simp] theorem setGridMach_twin (k : Nat) (f : GridMach → GridMach) : (setGridMach k f s).twin = s.twin := rfl
@[simp] theorem setGridMach_fr (k : Nat) (f : GridMach → GridMach) : (setGridMach k f s).fr = s.fr := rfl
@[simp] theorem setGridMach_fault (k : Nat) (f : GridMach → GridMach) : (setGridMach k f s).fault = s.fault := rfl
@[simp] theorem setGridMach_dispatch (k : Nat) (f : GridMach → GridMach) : (setGridMach k f s).dispatch = s.dispatch := rfl
@[simp] theorem setGridMach_coreMem (k : Nat) (f : GridMach → GridMach) : (setGridMach k f s).coreMem = s.coreMem := rfl
@[simp] theorem setGridMach_hostif (k : Nat) (f : GridMach → GridMach) : (setGridMach k f s).hostif = s.hostif := rfl
@[simp] theorem setGridMach_geode (k : Nat) (f : GridMach → GridMach) : (setGridMach k f s).geode = s.geode := rfl
@[simp] theorem setGridMach_assay (k : Nat) (f : GridMach → GridMach) : (setGridMach k f s).assay = s.assay := rfl
@[simp] theorem setGridMach_strata (k : Nat) (f : GridMach → GridMach) : (setGridMach k f s).strata = s.strata := rfl
@[simp] theorem setGridMach_ioctl (k : Nat) (f : GridMach → GridMach) : (setGridMach k f s).ioctl = s.ioctl := rfl
@[simp] theorem setGridMach_pending (k : Nat) (f : GridMach → GridMach) : (setGridMach k f s).pending = s.pending := rfl
@[simp] theorem setRtkMach_clk (k : Nat) (f : RtkMach → RtkMach) : (setRtkMach k f s).clk = s.clk := rfl
@[simp] theorem setRtkMach_regs (k : Nat) (f : RtkMach → RtkMach) : (setRtkMach k f s).regs = s.regs := rfl
@[simp] theorem setRtkMach_counts (k : Nat) (f : RtkMach → RtkMach) : (setRtkMach k f s).counts = s.counts := rfl
@[simp] theorem setRtkMach_shadows (k : Nat) (f : RtkMach → RtkMach) : (setRtkMach k f s).shadows = s.shadows := rfl
@[simp] theorem setRtkMach_rdata (k : Nat) (f : RtkMach → RtkMach) : (setRtkMach k f s).rdata = s.rdata := rfl
@[simp] theorem setRtkMach_fresh (k : Nat) (f : RtkMach → RtkMach) : (setRtkMach k f s).fresh = s.fresh := rfl
@[simp] theorem setRtkMach_sys (k : Nat) (f : RtkMach → RtkMach) : (setRtkMach k f s).sys = s.sys := rfl
@[simp] theorem setRtkMach_aon (k : Nat) (f : RtkMach → RtkMach) : (setRtkMach k f s).aon = s.aon := rfl
@[simp] theorem setRtkMach_parison (k : Nat) (f : RtkMach → RtkMach) : (setRtkMach k f s).parison = s.parison := rfl
@[simp] theorem setRtkMach_time (k : Nat) (f : RtkMach → RtkMach) : (setRtkMach k f s).time = s.time := rfl
@[simp] theorem setRtkMach_gnss (k : Nat) (f : RtkMach → RtkMach) : (setRtkMach k f s).gnss = s.gnss := rfl
@[simp] theorem setRtkMach_lode (k : Nat) (f : RtkMach → RtkMach) : (setRtkMach k f s).lode = s.lode := rfl
@[simp] theorem setRtkMach_grid (k : Nat) (f : RtkMach → RtkMach) : (setRtkMach k f s).grid = s.grid := rfl
@[simp] theorem setRtkMach_setpt (k : Nat) (f : RtkMach → RtkMach) : (setRtkMach k f s).setpt = s.setpt := rfl
@[simp] theorem setRtkMach_radio (k : Nat) (f : RtkMach → RtkMach) : (setRtkMach k f s).radio = s.radio := rfl
@[simp] theorem setRtkMach_quench (k : Nat) (f : RtkMach → RtkMach) : (setRtkMach k f s).quench = s.quench := rfl
@[simp] theorem setRtkMach_switch (k : Nat) (f : RtkMach → RtkMach) : (setRtkMach k f s).switch = s.switch := rfl
@[simp] theorem setRtkMach_twin (k : Nat) (f : RtkMach → RtkMach) : (setRtkMach k f s).twin = s.twin := rfl
@[simp] theorem setRtkMach_fr (k : Nat) (f : RtkMach → RtkMach) : (setRtkMach k f s).fr = s.fr := rfl
@[simp] theorem setRtkMach_fault (k : Nat) (f : RtkMach → RtkMach) : (setRtkMach k f s).fault = s.fault := rfl
@[simp] theorem setRtkMach_dispatch (k : Nat) (f : RtkMach → RtkMach) : (setRtkMach k f s).dispatch = s.dispatch := rfl
@[simp] theorem setRtkMach_coreMem (k : Nat) (f : RtkMach → RtkMach) : (setRtkMach k f s).coreMem = s.coreMem := rfl
@[simp] theorem setRtkMach_hostif (k : Nat) (f : RtkMach → RtkMach) : (setRtkMach k f s).hostif = s.hostif := rfl
@[simp] theorem setRtkMach_geode (k : Nat) (f : RtkMach → RtkMach) : (setRtkMach k f s).geode = s.geode := rfl
@[simp] theorem setRtkMach_assay (k : Nat) (f : RtkMach → RtkMach) : (setRtkMach k f s).assay = s.assay := rfl
@[simp] theorem setRtkMach_strata (k : Nat) (f : RtkMach → RtkMach) : (setRtkMach k f s).strata = s.strata := rfl
@[simp] theorem setRtkMach_ioctl (k : Nat) (f : RtkMach → RtkMach) : (setRtkMach k f s).ioctl = s.ioctl := rfl
@[simp] theorem setRtkMach_pending (k : Nat) (f : RtkMach → RtkMach) : (setRtkMach k f s).pending = s.pending := rfl
@[simp] theorem setBank_clk (k : Nat) (f : Bank → Bank) : (setBank k f s).clk = s.clk := rfl
@[simp] theorem setBank_regs (k : Nat) (f : Bank → Bank) : (setBank k f s).regs = s.regs := rfl
@[simp] theorem setBank_counts (k : Nat) (f : Bank → Bank) : (setBank k f s).counts = s.counts := rfl
@[simp] theorem setBank_shadows (k : Nat) (f : Bank → Bank) : (setBank k f s).shadows = s.shadows := rfl
@[simp] theorem setBank_rdata (k : Nat) (f : Bank → Bank) : (setBank k f s).rdata = s.rdata := rfl
@[simp] theorem setBank_fresh (k : Nat) (f : Bank → Bank) : (setBank k f s).fresh = s.fresh := rfl
@[simp] theorem setBank_sys (k : Nat) (f : Bank → Bank) : (setBank k f s).sys = s.sys := rfl
@[simp] theorem setBank_aon (k : Nat) (f : Bank → Bank) : (setBank k f s).aon = s.aon := rfl
@[simp] theorem setBank_parison (k : Nat) (f : Bank → Bank) : (setBank k f s).parison = s.parison := rfl
@[simp] theorem setBank_time (k : Nat) (f : Bank → Bank) : (setBank k f s).time = s.time := rfl
@[simp] theorem setBank_gnss (k : Nat) (f : Bank → Bank) : (setBank k f s).gnss = s.gnss := rfl
@[simp] theorem setBank_rtk (k : Nat) (f : Bank → Bank) : (setBank k f s).rtk = s.rtk := rfl
@[simp] theorem setBank_grid (k : Nat) (f : Bank → Bank) : (setBank k f s).grid = s.grid := rfl
@[simp] theorem setBank_setpt (k : Nat) (f : Bank → Bank) : (setBank k f s).setpt = s.setpt := rfl
@[simp] theorem setBank_radio (k : Nat) (f : Bank → Bank) : (setBank k f s).radio = s.radio := rfl
@[simp] theorem setBank_quench (k : Nat) (f : Bank → Bank) : (setBank k f s).quench = s.quench := rfl
@[simp] theorem setBank_switch (k : Nat) (f : Bank → Bank) : (setBank k f s).switch = s.switch := rfl
@[simp] theorem setBank_twin (k : Nat) (f : Bank → Bank) : (setBank k f s).twin = s.twin := rfl
@[simp] theorem setBank_fr (k : Nat) (f : Bank → Bank) : (setBank k f s).fr = s.fr := rfl
@[simp] theorem setBank_fault (k : Nat) (f : Bank → Bank) : (setBank k f s).fault = s.fault := rfl
@[simp] theorem setBank_dispatch (k : Nat) (f : Bank → Bank) : (setBank k f s).dispatch = s.dispatch := rfl
@[simp] theorem setBank_coreMem (k : Nat) (f : Bank → Bank) : (setBank k f s).coreMem = s.coreMem := rfl
@[simp] theorem setBank_hostif (k : Nat) (f : Bank → Bank) : (setBank k f s).hostif = s.hostif := rfl
@[simp] theorem setBank_geode (k : Nat) (f : Bank → Bank) : (setBank k f s).geode = s.geode := rfl
@[simp] theorem setBank_assay (k : Nat) (f : Bank → Bank) : (setBank k f s).assay = s.assay := rfl
@[simp] theorem setBank_strata (k : Nat) (f : Bank → Bank) : (setBank k f s).strata = s.strata := rfl
@[simp] theorem setBank_ioctl (k : Nat) (f : Bank → Bank) : (setBank k f s).ioctl = s.ioctl := rfl
@[simp] theorem setBank_pending (k : Nat) (f : Bank → Bank) : (setBank k f s).pending = s.pending := rfl
@[simp] theorem setBufs_clk (m : Master) (f : GBufs → GBufs) : (setBufs m f s).clk = s.clk := rfl
@[simp] theorem setBufs_regs (m : Master) (f : GBufs → GBufs) : (setBufs m f s).regs = s.regs := rfl
@[simp] theorem setBufs_counts (m : Master) (f : GBufs → GBufs) : (setBufs m f s).counts = s.counts := rfl
@[simp] theorem setBufs_shadows (m : Master) (f : GBufs → GBufs) : (setBufs m f s).shadows = s.shadows := rfl
@[simp] theorem setBufs_rdata (m : Master) (f : GBufs → GBufs) : (setBufs m f s).rdata = s.rdata := rfl
@[simp] theorem setBufs_fresh (m : Master) (f : GBufs → GBufs) : (setBufs m f s).fresh = s.fresh := rfl
@[simp] theorem setBufs_sys (m : Master) (f : GBufs → GBufs) : (setBufs m f s).sys = s.sys := rfl
@[simp] theorem setBufs_aon (m : Master) (f : GBufs → GBufs) : (setBufs m f s).aon = s.aon := rfl
@[simp] theorem setBufs_parison (m : Master) (f : GBufs → GBufs) : (setBufs m f s).parison = s.parison := rfl
@[simp] theorem setBufs_time (m : Master) (f : GBufs → GBufs) : (setBufs m f s).time = s.time := rfl
@[simp] theorem setBufs_gnss (m : Master) (f : GBufs → GBufs) : (setBufs m f s).gnss = s.gnss := rfl
@[simp] theorem setBufs_rtk (m : Master) (f : GBufs → GBufs) : (setBufs m f s).rtk = s.rtk := rfl
@[simp] theorem setBufs_lode (m : Master) (f : GBufs → GBufs) : (setBufs m f s).lode = s.lode := rfl
@[simp] theorem setBufs_grid (m : Master) (f : GBufs → GBufs) : (setBufs m f s).grid = s.grid := rfl
@[simp] theorem setBufs_setpt (m : Master) (f : GBufs → GBufs) : (setBufs m f s).setpt = s.setpt := rfl
@[simp] theorem setBufs_radio (m : Master) (f : GBufs → GBufs) : (setBufs m f s).radio = s.radio := rfl
@[simp] theorem setBufs_quench (m : Master) (f : GBufs → GBufs) : (setBufs m f s).quench = s.quench := rfl
@[simp] theorem setBufs_switch (m : Master) (f : GBufs → GBufs) : (setBufs m f s).switch = s.switch := rfl
@[simp] theorem setBufs_twin (m : Master) (f : GBufs → GBufs) : (setBufs m f s).twin = s.twin := rfl
@[simp] theorem setBufs_fr (m : Master) (f : GBufs → GBufs) : (setBufs m f s).fr = s.fr := rfl
@[simp] theorem setBufs_fault (m : Master) (f : GBufs → GBufs) : (setBufs m f s).fault = s.fault := rfl
@[simp] theorem setBufs_dispatch (m : Master) (f : GBufs → GBufs) : (setBufs m f s).dispatch = s.dispatch := rfl
@[simp] theorem setBufs_coreMem (m : Master) (f : GBufs → GBufs) : (setBufs m f s).coreMem = s.coreMem := rfl
@[simp] theorem setBufs_hostif (m : Master) (f : GBufs → GBufs) : (setBufs m f s).hostif = s.hostif := rfl
@[simp] theorem setBufs_assay (m : Master) (f : GBufs → GBufs) : (setBufs m f s).assay = s.assay := rfl
@[simp] theorem setBufs_strata (m : Master) (f : GBufs → GBufs) : (setBufs m f s).strata = s.strata := rfl
@[simp] theorem setBufs_ioctl (m : Master) (f : GBufs → GBufs) : (setBufs m f s).ioctl = s.ioctl := rfl
@[simp] theorem setBufs_pending (m : Master) (f : GBufs → GBufs) : (setBufs m f s).pending = s.pending := rfl
@[simp] theorem modChan_clk (k : Nat) (f : Channel → Channel) : (modChan k f s).clk = s.clk := rfl
@[simp] theorem modChan_regs (k : Nat) (f : Channel → Channel) : (modChan k f s).regs = s.regs := rfl
@[simp] theorem modChan_counts (k : Nat) (f : Channel → Channel) : (modChan k f s).counts = s.counts := rfl
@[simp] theorem modChan_shadows (k : Nat) (f : Channel → Channel) : (modChan k f s).shadows = s.shadows := rfl
@[simp] theorem modChan_rdata (k : Nat) (f : Channel → Channel) : (modChan k f s).rdata = s.rdata := rfl
@[simp] theorem modChan_fresh (k : Nat) (f : Channel → Channel) : (modChan k f s).fresh = s.fresh := rfl
@[simp] theorem modChan_sys (k : Nat) (f : Channel → Channel) : (modChan k f s).sys = s.sys := rfl
@[simp] theorem modChan_aon (k : Nat) (f : Channel → Channel) : (modChan k f s).aon = s.aon := rfl
@[simp] theorem modChan_parison (k : Nat) (f : Channel → Channel) : (modChan k f s).parison = s.parison := rfl
@[simp] theorem modChan_time (k : Nat) (f : Channel → Channel) : (modChan k f s).time = s.time := rfl
@[simp] theorem modChan_rtk (k : Nat) (f : Channel → Channel) : (modChan k f s).rtk = s.rtk := rfl
@[simp] theorem modChan_lode (k : Nat) (f : Channel → Channel) : (modChan k f s).lode = s.lode := rfl
@[simp] theorem modChan_grid (k : Nat) (f : Channel → Channel) : (modChan k f s).grid = s.grid := rfl
@[simp] theorem modChan_setpt (k : Nat) (f : Channel → Channel) : (modChan k f s).setpt = s.setpt := rfl
@[simp] theorem modChan_radio (k : Nat) (f : Channel → Channel) : (modChan k f s).radio = s.radio := rfl
@[simp] theorem modChan_quench (k : Nat) (f : Channel → Channel) : (modChan k f s).quench = s.quench := rfl
@[simp] theorem modChan_switch (k : Nat) (f : Channel → Channel) : (modChan k f s).switch = s.switch := rfl
@[simp] theorem modChan_twin (k : Nat) (f : Channel → Channel) : (modChan k f s).twin = s.twin := rfl
@[simp] theorem modChan_fr (k : Nat) (f : Channel → Channel) : (modChan k f s).fr = s.fr := rfl
@[simp] theorem modChan_fault (k : Nat) (f : Channel → Channel) : (modChan k f s).fault = s.fault := rfl
@[simp] theorem modChan_dispatch (k : Nat) (f : Channel → Channel) : (modChan k f s).dispatch = s.dispatch := rfl
@[simp] theorem modChan_coreMem (k : Nat) (f : Channel → Channel) : (modChan k f s).coreMem = s.coreMem := rfl
@[simp] theorem modChan_hostif (k : Nat) (f : Channel → Channel) : (modChan k f s).hostif = s.hostif := rfl
@[simp] theorem modChan_geode (k : Nat) (f : Channel → Channel) : (modChan k f s).geode = s.geode := rfl
@[simp] theorem modChan_assay (k : Nat) (f : Channel → Channel) : (modChan k f s).assay = s.assay := rfl
@[simp] theorem modChan_strata (k : Nat) (f : Channel → Channel) : (modChan k f s).strata = s.strata := rfl
@[simp] theorem modChan_ioctl (k : Nat) (f : Channel → Channel) : (modChan k f s).ioctl = s.ioctl := rfl
@[simp] theorem modChan_pending (k : Nat) (f : Channel → Channel) : (modChan k f s).pending = s.pending := rfl
@[simp] theorem setAnt_clk (b : Bool) (a : Antenna) : (setAnt b a s).clk = s.clk := by cases b <;> rfl
@[simp] theorem setAnt_regs (b : Bool) (a : Antenna) : (setAnt b a s).regs = s.regs := by cases b <;> rfl
@[simp] theorem setAnt_counts (b : Bool) (a : Antenna) : (setAnt b a s).counts = s.counts := by cases b <;> rfl
@[simp] theorem setAnt_shadows (b : Bool) (a : Antenna) : (setAnt b a s).shadows = s.shadows := by cases b <;> rfl
@[simp] theorem setAnt_rdata (b : Bool) (a : Antenna) : (setAnt b a s).rdata = s.rdata := by cases b <;> rfl
@[simp] theorem setAnt_fresh (b : Bool) (a : Antenna) : (setAnt b a s).fresh = s.fresh := by cases b <;> rfl
@[simp] theorem setAnt_sys (b : Bool) (a : Antenna) : (setAnt b a s).sys = s.sys := by cases b <;> rfl
@[simp] theorem setAnt_aon (b : Bool) (a : Antenna) : (setAnt b a s).aon = s.aon := by cases b <;> rfl
@[simp] theorem setAnt_parison (b : Bool) (a : Antenna) : (setAnt b a s).parison = s.parison := by cases b <;> rfl
@[simp] theorem setAnt_time (b : Bool) (a : Antenna) : (setAnt b a s).time = s.time := by cases b <;> rfl
@[simp] theorem setAnt_rtk (b : Bool) (a : Antenna) : (setAnt b a s).rtk = s.rtk := by cases b <;> rfl
@[simp] theorem setAnt_lode (b : Bool) (a : Antenna) : (setAnt b a s).lode = s.lode := by cases b <;> rfl
@[simp] theorem setAnt_grid (b : Bool) (a : Antenna) : (setAnt b a s).grid = s.grid := by cases b <;> rfl
@[simp] theorem setAnt_setpt (b : Bool) (a : Antenna) : (setAnt b a s).setpt = s.setpt := by cases b <;> rfl
@[simp] theorem setAnt_radio (b : Bool) (a : Antenna) : (setAnt b a s).radio = s.radio := by cases b <;> rfl
@[simp] theorem setAnt_quench (b : Bool) (a : Antenna) : (setAnt b a s).quench = s.quench := by cases b <;> rfl
@[simp] theorem setAnt_switch (b : Bool) (a : Antenna) : (setAnt b a s).switch = s.switch := by cases b <;> rfl
@[simp] theorem setAnt_twin (b : Bool) (a : Antenna) : (setAnt b a s).twin = s.twin := by cases b <;> rfl
@[simp] theorem setAnt_fr (b : Bool) (a : Antenna) : (setAnt b a s).fr = s.fr := by cases b <;> rfl
@[simp] theorem setAnt_fault (b : Bool) (a : Antenna) : (setAnt b a s).fault = s.fault := by cases b <;> rfl
@[simp] theorem setAnt_dispatch (b : Bool) (a : Antenna) : (setAnt b a s).dispatch = s.dispatch := by cases b <;> rfl
@[simp] theorem setAnt_coreMem (b : Bool) (a : Antenna) : (setAnt b a s).coreMem = s.coreMem := by cases b <;> rfl
@[simp] theorem setAnt_hostif (b : Bool) (a : Antenna) : (setAnt b a s).hostif = s.hostif := by cases b <;> rfl
@[simp] theorem setAnt_geode (b : Bool) (a : Antenna) : (setAnt b a s).geode = s.geode := by cases b <;> rfl
@[simp] theorem setAnt_assay (b : Bool) (a : Antenna) : (setAnt b a s).assay = s.assay := by cases b <;> rfl
@[simp] theorem setAnt_strata (b : Bool) (a : Antenna) : (setAnt b a s).strata = s.strata := by cases b <;> rfl
@[simp] theorem setAnt_ioctl (b : Bool) (a : Antenna) : (setAnt b a s).ioctl = s.ioctl := by cases b <;> rfl
@[simp] theorem setAnt_pending (b : Bool) (a : Antenna) : (setAnt b a s).pending = s.pending := by cases b <;> rfl
@[simp] theorem setNode_clk (k : Nat) (f : Node → Node) : (setNode k f s).clk = s.clk := rfl
@[simp] theorem setNode_regs (k : Nat) (f : Node → Node) : (setNode k f s).regs = s.regs := rfl
@[simp] theorem setNode_counts (k : Nat) (f : Node → Node) : (setNode k f s).counts = s.counts := rfl
@[simp] theorem setNode_shadows (k : Nat) (f : Node → Node) : (setNode k f s).shadows = s.shadows := rfl
@[simp] theorem setNode_rdata (k : Nat) (f : Node → Node) : (setNode k f s).rdata = s.rdata := rfl
@[simp] theorem setNode_fresh (k : Nat) (f : Node → Node) : (setNode k f s).fresh = s.fresh := rfl
@[simp] theorem setNode_sys (k : Nat) (f : Node → Node) : (setNode k f s).sys = s.sys := rfl
@[simp] theorem setNode_aon (k : Nat) (f : Node → Node) : (setNode k f s).aon = s.aon := rfl
@[simp] theorem setNode_parison (k : Nat) (f : Node → Node) : (setNode k f s).parison = s.parison := rfl
@[simp] theorem setNode_time (k : Nat) (f : Node → Node) : (setNode k f s).time = s.time := rfl
@[simp] theorem setNode_gnss (k : Nat) (f : Node → Node) : (setNode k f s).gnss = s.gnss := rfl
@[simp] theorem setNode_rtk (k : Nat) (f : Node → Node) : (setNode k f s).rtk = s.rtk := rfl
@[simp] theorem setNode_lode (k : Nat) (f : Node → Node) : (setNode k f s).lode = s.lode := rfl
@[simp] theorem setNode_grid (k : Nat) (f : Node → Node) : (setNode k f s).grid = s.grid := rfl
@[simp] theorem setNode_setpt (k : Nat) (f : Node → Node) : (setNode k f s).setpt = s.setpt := rfl
@[simp] theorem setNode_quench (k : Nat) (f : Node → Node) : (setNode k f s).quench = s.quench := rfl
@[simp] theorem setNode_switch (k : Nat) (f : Node → Node) : (setNode k f s).switch = s.switch := rfl
@[simp] theorem setNode_twin (k : Nat) (f : Node → Node) : (setNode k f s).twin = s.twin := rfl
@[simp] theorem setNode_fr (k : Nat) (f : Node → Node) : (setNode k f s).fr = s.fr := rfl
@[simp] theorem setNode_fault (k : Nat) (f : Node → Node) : (setNode k f s).fault = s.fault := rfl
@[simp] theorem setNode_dispatch (k : Nat) (f : Node → Node) : (setNode k f s).dispatch = s.dispatch := rfl
@[simp] theorem setNode_coreMem (k : Nat) (f : Node → Node) : (setNode k f s).coreMem = s.coreMem := rfl
@[simp] theorem setNode_hostif (k : Nat) (f : Node → Node) : (setNode k f s).hostif = s.hostif := rfl
@[simp] theorem setNode_geode (k : Nat) (f : Node → Node) : (setNode k f s).geode = s.geode := rfl
@[simp] theorem setNode_assay (k : Nat) (f : Node → Node) : (setNode k f s).assay = s.assay := rfl
@[simp] theorem setNode_strata (k : Nat) (f : Node → Node) : (setNode k f s).strata = s.strata := rfl
@[simp] theorem setNode_ioctl (k : Nat) (f : Node → Node) : (setNode k f s).ioctl = s.ioctl := rfl
@[simp] theorem setNode_pending (k : Nat) (f : Node → Node) : (setNode k f s).pending = s.pending := rfl
@[simp] theorem wardenPop_clk : (wardenPop s).clk = s.clk := rfl
@[simp] theorem wardenPop_regs : (wardenPop s).regs = s.regs := rfl
@[simp] theorem wardenPop_counts : (wardenPop s).counts = s.counts := rfl
@[simp] theorem wardenPop_shadows : (wardenPop s).shadows = s.shadows := rfl
@[simp] theorem wardenPop_rdata : (wardenPop s).rdata = s.rdata := rfl
@[simp] theorem wardenPop_fresh : (wardenPop s).fresh = s.fresh := rfl
@[simp] theorem wardenPop_sys : (wardenPop s).sys = s.sys := rfl
@[simp] theorem wardenPop_aon : (wardenPop s).aon = s.aon := rfl
@[simp] theorem wardenPop_parison : (wardenPop s).parison = s.parison := rfl
@[simp] theorem wardenPop_time : (wardenPop s).time = s.time := rfl
@[simp] theorem wardenPop_gnss : (wardenPop s).gnss = s.gnss := rfl
@[simp] theorem wardenPop_rtk : (wardenPop s).rtk = s.rtk := rfl
@[simp] theorem wardenPop_lode : (wardenPop s).lode = s.lode := rfl
@[simp] theorem wardenPop_grid : (wardenPop s).grid = s.grid := rfl
@[simp] theorem wardenPop_setpt : (wardenPop s).setpt = s.setpt := rfl
@[simp] theorem wardenPop_radio : (wardenPop s).radio = s.radio := rfl
@[simp] theorem wardenPop_quench : (wardenPop s).quench = s.quench := rfl
@[simp] theorem wardenPop_switch : (wardenPop s).switch = s.switch := rfl
@[simp] theorem wardenPop_twin : (wardenPop s).twin = s.twin := rfl
@[simp] theorem wardenPop_fr : (wardenPop s).fr = s.fr := rfl
@[simp] theorem wardenPop_fault : (wardenPop s).fault = s.fault := rfl
@[simp] theorem wardenPop_dispatch : (wardenPop s).dispatch = s.dispatch := rfl
@[simp] theorem wardenPop_coreMem : (wardenPop s).coreMem = s.coreMem := rfl
@[simp] theorem wardenPop_geode : (wardenPop s).geode = s.geode := rfl
@[simp] theorem wardenPop_assay : (wardenPop s).assay = s.assay := rfl
@[simp] theorem wardenPop_strata : (wardenPop s).strata = s.strata := rfl
@[simp] theorem wardenPop_ioctl : (wardenPop s).ioctl = s.ioctl := rfl
@[simp] theorem wardenPop_pending : (wardenPop s).pending = s.pending := rfl

end Sys2Proof.Machine
end

