-- ==== Sys2Proof/Laws/Basic.lean ====
section
/-! SUPPORT. Basic.lean: how a command that goes over the register interface, through the AON island or by the warden
answers. -/

namespace Sys2Proof.Machine

open Sys2Proof

/-- A register access reaches a main die that is out of reset. -/
theorem bus_run {s : State} (f : State → State) (h : s.aon.mainRun = true) : bus s f = f s := by simp [bus, h]

/-- A register access leaves a main die in reset alone. -/
theorem bus_held {s : State} (f : State → State) (h : s.aon.mainRun = false) : bus s f = s := by simp [bus, h]

/-- An event reaches a powered island. -/
theorem onAon_run {s : State} (f : State → State) (h : s.aon.powered = true) : onAon s f = f s := by simp [onAon, h]

/-- The warden acts once it runs. -/
theorem onWarden_run {s : State} (f : State → State) (h : Warden s) : onWarden s f = f s := by
  simp [onWarden, h.1, h.2]

/-- A register command's answer in a running part. -/
theorem after_bus {i : Instr} {s : State} {f : State → State} {P : State → Prop} (hi : exec i s = .next (bus s f))
    (h : Running s) (hP : P (f s)) : After i s P := ⟨_, hi, by rw [bus_run f h.2.2]; exact hP⟩

/-- An island event's answer in a powered part. -/
theorem after_aon {i : Instr} {s : State} {f : State → State} {P : State → Prop} (hi : exec i s = .next (onAon s f))
    (h : s.aon.powered = true) (hP : P (f s)) : After i s P := ⟨_, hi, by rw [onAon_run f h]; exact hP⟩

/-- A warden command's answer. -/
theorem after_warden {i : Instr} {s : State} {f : State → State} {P : State → Prop} (hi : exec i s = .next (onWarden s f))
    (h : Warden s) (hP : P (f s)) : After i s P := ⟨_, hi, by rw [onWarden_run f h]; exact hP⟩

end Sys2Proof.Machine
end

