-- ==== Sys2Proof/Laws/Memory.lean ====
section
/-! SUPPORT. Memory.lean: every operation on the field cores' memory keeps its canonical form, and a read gives what was last written. -/

namespace Sys2Proof.Machine

open Sys2Proof

/-- The head's part of the canonical form. -/
theorem wf_cons {c : Host.Cell} {l : List Host.Cell} :
    Memory.wf (c :: l) = true ↔ c.2 ≠ memDefault ∧ (∀ d ∈ l.head?, c.1 < d.1) ∧ Memory.wf l = true := by
  cases l <;> simp [Memory.wf, and_assoc]

/-- A write leaves the first address no lower than the lower of the old first one and its own. -/
theorem cellSet_head {a : Nat} {v : BitVec 8} {l : List Host.Cell} {b : Nat} (hb : b < a) (hl : ∀ d ∈ l.head?, b < d.1)
    (hw : Memory.wf l = true) : ∀ d ∈ (cellSet a v l).head?, b < d.1 := by
  cases l with
  | nil => unfold cellSet; split <;> simp [hb]
  | cons c l =>
    obtain ⟨x, w⟩ := c
    have hx : b < x := by simpa using hl
    obtain ⟨-, h2, -⟩ := wf_cons.mp hw
    unfold cellSet
    split_ifs with ha hv hv hv
    · simpa using hx
    · simpa using hb
    · exact fun d hd => hx.trans (h2 d hd)
    · simpa using hb
    · simpa using hx

/-- One byte written keeps the canonical form. -/
theorem cellSet_wf (a : Nat) (v : BitVec 8) {l : List Host.Cell} (h : Memory.wf l = true) : Memory.wf (cellSet a v l) = true := by
  induction l with
  | nil => unfold cellSet; split <;> simp_all [Memory.wf]
  | cons c l ih =>
    obtain ⟨x, w⟩ := c
    obtain ⟨h1, h2, h3⟩ := wf_cons.mp h
    unfold cellSet
    split_ifs with ha hv hv hv
    · exact h
    · exact wf_cons.mpr ⟨hv, by simpa using ha, h⟩
    · exact h3
    · exact wf_cons.mpr ⟨hv, by rename_i hx; subst hx; exact h2, h3⟩
    · exact wf_cons.mpr ⟨h1, cellSet_head (by omega) h2 h3, ih h3⟩

/-- Bytes written keep it. -/
theorem cellsPut_wf (a : Nat) (bs : Bytes) {l : List Host.Cell} (h : Memory.wf l = true) : Memory.wf (cellsPut a bs l) = true := by
  induction bs generalizing a l with
  | nil => exact h
  | cons v r ih => exact ih _ (cellSet_wf a v h)

/-- A block's write keeps it. -/
theorem coreStore_wf (a : Nat) (bs : Bytes) {s : State} (h : Memory.wf s.coreMem = true) : Memory.wf (coreStore a bs s).coreMem = true := by
  unfold coreStore
  split
  · exact cellsPut_wf a bs h
  · exact h

/-- Memory after reset has it. -/
theorem reset_wf : Memory.wf State.reset.coreMem = true := rfl

/-- No byte stands below the first of a memory in canonical form. -/
theorem cellGet_below {a : Nat} {l : List Host.Cell} (h : Memory.wf l = true) (ha : ∀ d ∈ l.head?, a < d.1) :
    cellGet l a = memDefault := by
  induction l with
  | nil => rfl
  | cons c l ih =>
    obtain ⟨-, h2, h3⟩ := wf_cons.mp h
    have hc : a < c.1 := ha c rfl
    have := ih h3 (fun d hd => hc.trans (h2 d hd))
    simp only [cellGet, List.find?_cons, show (c.1 == a) = false by simpa using hc.ne'] at this ⊢
    exact this

/-- A read of a memory by its first entry. -/
theorem cellGet_cons (p : Nat) (u : BitVec 8) (m : List Host.Cell) (q : Nat) :
    cellGet ((p, u) :: m) q = if q = p then u else cellGet m q := by
  by_cases hq : q = p
  · subst hq; simp [cellGet]
  · simp [cellGet, hq, show (p == q) = false by simpa using Ne.symm hq]

/-- A read after a write: its own byte there, and every other byte as before. -/
theorem cellGet_cellSet (a b : Nat) (v : BitVec 8) {l : List Host.Cell} (h : Memory.wf l = true) :
    cellGet (cellSet a v l) b = if b = a then v else cellGet l b := by
  induction l with
  | nil =>
    unfold cellSet
    split_ifs with hv hb hb
    · exact hv.symm
    · rfl
    · rw [cellGet_cons, if_pos hb]
    · rw [cellGet_cons, if_neg hb]
  | cons c l ih =>
    obtain ⟨x, w⟩ := c
    obtain ⟨h1, h2, h3⟩ := wf_cons.mp h
    have low : ∀ y, y ≤ x → cellGet l y = memDefault := fun y hy => cellGet_below h3 fun d hd => lt_of_le_of_lt hy (h2 d hd)
    unfold cellSet
    split_ifs with ha hv hb hb he hv hb hb hb
    · rw [cellGet_cons, if_neg (by omega), low b (by omega), hv]
    · rfl
    · rw [cellGet_cons, if_pos hb]
    · rw [cellGet_cons, if_neg hb]
    · rw [low b (by omega), hv]
    · rw [cellGet_cons, if_neg (by omega)]
    · rw [cellGet_cons, if_pos hb]
    · rw [cellGet_cons, cellGet_cons, if_neg hb, if_neg (by omega)]
    · rw [cellGet_cons, if_neg (by omega), ih h3, if_pos hb]
    · rw [cellGet_cons, cellGet_cons, ih h3, if_neg hb]

end Sys2Proof.Machine
end

