-- ==== Sys2Proof/Laws/Shared.lean ====
section
/-! SUPPORT. Shared.lean: what the operations that many meanings share leave alone. -/

namespace Sys2Proof.Machine

open Sys2Proof

/-- A fold of steps that each keep a measure keeps it. -/
theorem foldl_keep {α β γ : Type} (g : β → γ) {f : β → α → β} (h : ∀ b a, g (f b a) = g b) (l : List α) (b : β) :
    g (l.foldl f b) = g b := by
  induction l generalizing b with
  | nil => rfl
  | cons a l ih => rw [List.foldl_cons, ih, h]

variable (s : State)

@[simp] theorem trackLone_clk : (trackLone s).clk = s.clk := by unfold trackLone; split <;> rfl
@[simp] theorem trackLone_regs : (trackLone s).regs = s.regs := by unfold trackLone; split <;> rfl
@[simp] theorem trackLone_counts : (trackLone s).counts = s.counts := by unfold trackLone; split <;> rfl
@[simp] theorem trackLone_shadows : (trackLone s).shadows = s.shadows := by unfold trackLone; split <;> rfl
@[simp] theorem trackLone_rdata : (trackLone s).rdata = s.rdata := by unfold trackLone; split <;> rfl
@[simp] theorem trackLone_fresh : (trackLone s).fresh = s.fresh := by unfold trackLone; split <;> rfl
@[simp] theorem trackLone_sys : (trackLone s).sys = s.sys := by unfold trackLone; split <;> rfl
@[simp] theorem trackLone_aon : (trackLone s).aon = s.aon := by unfold trackLone; split <;> rfl
@[simp] theorem trackLone_parison : (trackLone s).parison = s.parison := by unfold trackLone; split <;> rfl
@[simp] theorem trackLone_time : (trackLone s).time = s.time := by unfold trackLone; split <;> rfl
@[simp] theorem trackLone_gnss : (trackLone s).gnss = s.gnss := by unfold trackLone; split <;> rfl
@[simp] theorem trackLone_rtk : (trackLone s).rtk = s.rtk := by unfold trackLone; split <;> rfl
@[simp] theorem trackLone_lode : (trackLone s).lode = s.lode := by unfold trackLone; split <;> rfl
@[simp] theorem trackLone_grid : (trackLone s).grid = s.grid := by unfold trackLone; split <;> rfl
@[simp] theorem trackLone_setpt : (trackLone s).setpt = s.setpt := by unfold trackLone; split <;> rfl
@[simp] theorem trackLone_radio : (trackLone s).radio = s.radio := by unfold trackLone; split <;> rfl
@[simp] theorem trackLone_switch : (trackLone s).switch = s.switch := by unfold trackLone; split <;> rfl
@[simp] theorem trackLone_twin : (trackLone s).twin = s.twin := by unfold trackLone; split <;> rfl
@[simp] theorem trackLone_fr : (trackLone s).fr = s.fr := by unfold trackLone; split <;> rfl
@[simp] theorem trackLone_coreMem : (trackLone s).coreMem = s.coreMem := by unfold trackLone; split <;> rfl
@[simp] theorem trackLone_fault : (trackLone s).fault = s.fault := by unfold trackLone; split <;> rfl
@[simp] theorem trackLone_dispatch : (trackLone s).dispatch = s.dispatch := by unfold trackLone; split <;> rfl
@[simp] theorem trackLone_hostif : (trackLone s).hostif = s.hostif := by unfold trackLone; split <;> rfl
@[simp] theorem trackLone_geode : (trackLone s).geode = s.geode := by unfold trackLone; split <;> rfl
@[simp] theorem trackLone_assay : (trackLone s).assay = s.assay := by unfold trackLone; split <;> rfl
@[simp] theorem trackLone_strata : (trackLone s).strata = s.strata := by unfold trackLone; split <;> rfl
@[simp] theorem trackLone_ioctl : (trackLone s).ioctl = s.ioctl := by unfold trackLone; split <;> rfl
@[simp] theorem trackLone_pending : (trackLone s).pending = s.pending := by unfold trackLone; split <;> rfl
@[simp] theorem driveRelays_clk : (driveRelays s).clk = s.clk := by unfold driveRelays; rw [foldl_keep (fun t : State => t.clk)]; intro t k; simp
@[simp] theorem driveRelays_regs : (driveRelays s).regs = s.regs := by unfold driveRelays; rw [foldl_keep (fun t : State => t.regs)]; intro t k; simp
@[simp] theorem driveRelays_counts : (driveRelays s).counts = s.counts := by unfold driveRelays; rw [foldl_keep (fun t : State => t.counts)]; intro t k; simp
@[simp] theorem driveRelays_shadows : (driveRelays s).shadows = s.shadows := by unfold driveRelays; rw [foldl_keep (fun t : State => t.shadows)]; intro t k; simp
@[simp] theorem driveRelays_rdata : (driveRelays s).rdata = s.rdata := by unfold driveRelays; rw [foldl_keep (fun t : State => t.rdata)]; intro t k; simp
@[simp] theorem driveRelays_fresh : (driveRelays s).fresh = s.fresh := by unfold driveRelays; rw [foldl_keep (fun t : State => t.fresh)]; intro t k; simp
@[simp] theorem driveRelays_sys : (driveRelays s).sys = s.sys := by unfold driveRelays; rw [foldl_keep (fun t : State => t.sys)]; intro t k; simp
@[simp] theorem driveRelays_aon : (driveRelays s).aon = s.aon := by unfold driveRelays; rw [foldl_keep (fun t : State => t.aon)]; intro t k; simp
@[simp] theorem driveRelays_parison : (driveRelays s).parison = s.parison := by unfold driveRelays; rw [foldl_keep (fun t : State => t.parison)]; intro t k; simp
@[simp] theorem driveRelays_time : (driveRelays s).time = s.time := by unfold driveRelays; rw [foldl_keep (fun t : State => t.time)]; intro t k; simp
@[simp] theorem driveRelays_gnss : (driveRelays s).gnss = s.gnss := by unfold driveRelays; rw [foldl_keep (fun t : State => t.gnss)]; intro t k; simp
@[simp] theorem driveRelays_rtk : (driveRelays s).rtk = s.rtk := by unfold driveRelays; rw [foldl_keep (fun t : State => t.rtk)]; intro t k; simp
@[simp] theorem driveRelays_lode : (driveRelays s).lode = s.lode := by unfold driveRelays; rw [foldl_keep (fun t : State => t.lode)]; intro t k; simp
@[simp] theorem driveRelays_grid : (driveRelays s).grid = s.grid := by unfold driveRelays; rw [foldl_keep (fun t : State => t.grid)]; intro t k; simp
@[simp] theorem driveRelays_setpt : (driveRelays s).setpt = s.setpt := by unfold driveRelays; rw [foldl_keep (fun t : State => t.setpt)]; intro t k; simp
@[simp] theorem driveRelays_radio : (driveRelays s).radio = s.radio := by unfold driveRelays; rw [foldl_keep (fun t : State => t.radio)]; intro t k; simp
@[simp] theorem driveRelays_switch : (driveRelays s).switch = s.switch := by unfold driveRelays; rw [foldl_keep (fun t : State => t.switch)]; intro t k; simp
@[simp] theorem driveRelays_twin : (driveRelays s).twin = s.twin := by unfold driveRelays; rw [foldl_keep (fun t : State => t.twin)]; intro t k; simp
@[simp] theorem driveRelays_fr : (driveRelays s).fr = s.fr := by unfold driveRelays; rw [foldl_keep (fun t : State => t.fr)]; intro t k; simp
@[simp] theorem driveRelays_coreMem : (driveRelays s).coreMem = s.coreMem := by unfold driveRelays; rw [foldl_keep (fun t : State => t.coreMem)]; intro t k; simp
@[simp] theorem driveRelays_fault : (driveRelays s).fault = s.fault := by unfold driveRelays; rw [foldl_keep (fun t : State => t.fault)]; intro t k; simp
@[simp] theorem driveRelays_dispatch : (driveRelays s).dispatch = s.dispatch := by unfold driveRelays; rw [foldl_keep (fun t : State => t.dispatch)]; intro t k; simp
@[simp] theorem driveRelays_hostif : (driveRelays s).hostif = s.hostif := by unfold driveRelays; rw [foldl_keep (fun t : State => t.hostif)]; intro t k; simp
@[simp] theorem driveRelays_geode : (driveRelays s).geode = s.geode := by unfold driveRelays; rw [foldl_keep (fun t : State => t.geode)]; intro t k; simp
@[simp] theorem driveRelays_assay : (driveRelays s).assay = s.assay := by unfold driveRelays; rw [foldl_keep (fun t : State => t.assay)]; intro t k; simp
@[simp] theorem driveRelays_strata : (driveRelays s).strata = s.strata := by unfold driveRelays; rw [foldl_keep (fun t : State => t.strata)]; intro t k; simp
@[simp] theorem driveRelays_pending : (driveRelays s).pending = s.pending := by unfold driveRelays; rw [foldl_keep (fun t : State => t.pending)]; intro t k; simp
@[simp] theorem drivePermit_clk : (drivePermit s).clk = s.clk := by unfold drivePermit; simp only []; split <;> [skip; split] <;> simp
@[simp] theorem drivePermit_regs : (drivePermit s).regs = s.regs := by unfold drivePermit; simp only []; split <;> [skip; split] <;> simp
@[simp] theorem drivePermit_counts : (drivePermit s).counts = s.counts := by unfold drivePermit; simp only []; split <;> [skip; split] <;> simp
@[simp] theorem drivePermit_shadows : (drivePermit s).shadows = s.shadows := by unfold drivePermit; simp only []; split <;> [skip; split] <;> simp
@[simp] theorem drivePermit_rdata : (drivePermit s).rdata = s.rdata := by unfold drivePermit; simp only []; split <;> [skip; split] <;> simp
@[simp] theorem drivePermit_fresh : (drivePermit s).fresh = s.fresh := by unfold drivePermit; simp only []; split <;> [skip; split] <;> simp
@[simp] theorem drivePermit_sys : (drivePermit s).sys = s.sys := by unfold drivePermit; simp only []; split <;> [skip; split] <;> simp
@[simp] theorem drivePermit_aon : (drivePermit s).aon = s.aon := by unfold drivePermit; simp only []; split <;> [skip; split] <;> simp
@[simp] theorem drivePermit_parison : (drivePermit s).parison = s.parison := by unfold drivePermit; simp only []; split <;> [skip; split] <;> simp
@[simp] theorem drivePermit_time : (drivePermit s).time = s.time := by unfold drivePermit; simp only []; split <;> [skip; split] <;> simp
@[simp] theorem drivePermit_gnss : (drivePermit s).gnss = s.gnss := by unfold drivePermit; simp only []; split <;> [skip; split] <;> simp
@[simp] theorem drivePermit_rtk : (drivePermit s).rtk = s.rtk := by unfold drivePermit; simp only []; split <;> [skip; split] <;> simp
@[simp] theorem drivePermit_lode : (drivePermit s).lode = s.lode := by unfold drivePermit; simp only []; split <;> [skip; split] <;> simp
@[simp] theorem drivePermit_grid : (drivePermit s).grid = s.grid := by unfold drivePermit; simp only []; split <;> [skip; split] <;> simp
@[simp] theorem drivePermit_setpt : (drivePermit s).setpt = s.setpt := by unfold drivePermit; simp only []; split <;> [skip; split] <;> simp
@[simp] theorem drivePermit_radio : (drivePermit s).radio = s.radio := by unfold drivePermit; simp only []; split <;> [skip; split] <;> simp
@[simp] theorem drivePermit_switch : (drivePermit s).switch = s.switch := by unfold drivePermit; simp only []; split <;> [skip; split] <;> simp
@[simp] theorem drivePermit_twin : (drivePermit s).twin = s.twin := by unfold drivePermit; simp only []; split <;> [skip; split] <;> simp
@[simp] theorem drivePermit_fr : (drivePermit s).fr = s.fr := by unfold drivePermit; simp only []; split <;> [skip; split] <;> simp
@[simp] theorem drivePermit_coreMem : (drivePermit s).coreMem = s.coreMem := by unfold drivePermit; simp only []; split <;> [skip; split] <;> simp
@[simp] theorem drivePermit_fault : (drivePermit s).fault = s.fault := by unfold drivePermit; simp only []; split <;> [skip; split] <;> simp
@[simp] theorem drivePermit_dispatch : (drivePermit s).dispatch = s.dispatch := by unfold drivePermit; simp only []; split <;> [skip; split] <;> simp
@[simp] theorem drivePermit_hostif : (drivePermit s).hostif = s.hostif := by unfold drivePermit; simp only []; split <;> [skip; split] <;> simp
@[simp] theorem drivePermit_geode : (drivePermit s).geode = s.geode := by unfold drivePermit; simp only []; split <;> [skip; split] <;> simp
@[simp] theorem drivePermit_assay : (drivePermit s).assay = s.assay := by unfold drivePermit; simp only []; split <;> [skip; split] <;> simp
@[simp] theorem drivePermit_strata : (drivePermit s).strata = s.strata := by unfold drivePermit; simp only []; split <;> [skip; split] <;> simp
@[simp] theorem drivePermit_pending : (drivePermit s).pending = s.pending := by unfold drivePermit; simp only []; split <;> [skip; split] <;> simp
@[simp] theorem driveOutputs_clk : (driveOutputs s).clk = s.clk := by simp [driveOutputs]
@[simp] theorem driveOutputs_regs : (driveOutputs s).regs = s.regs := by simp [driveOutputs]
@[simp] theorem driveOutputs_counts : (driveOutputs s).counts = s.counts := by simp [driveOutputs]
@[simp] theorem driveOutputs_shadows : (driveOutputs s).shadows = s.shadows := by simp [driveOutputs]
@[simp] theorem driveOutputs_rdata : (driveOutputs s).rdata = s.rdata := by simp [driveOutputs]
@[simp] theorem driveOutputs_fresh : (driveOutputs s).fresh = s.fresh := by simp [driveOutputs]
@[simp] theorem driveOutputs_sys : (driveOutputs s).sys = s.sys := by simp [driveOutputs]
@[simp] theorem driveOutputs_aon : (driveOutputs s).aon = s.aon := by simp [driveOutputs]
@[simp] theorem driveOutputs_parison : (driveOutputs s).parison = s.parison := by simp [driveOutputs]
@[simp] theorem driveOutputs_time : (driveOutputs s).time = s.time := by simp [driveOutputs]
@[simp] theorem driveOutputs_gnss : (driveOutputs s).gnss = s.gnss := by simp [driveOutputs]
@[simp] theorem driveOutputs_rtk : (driveOutputs s).rtk = s.rtk := by simp [driveOutputs]
@[simp] theorem driveOutputs_lode : (driveOutputs s).lode = s.lode := by simp [driveOutputs]
@[simp] theorem driveOutputs_grid : (driveOutputs s).grid = s.grid := by simp [driveOutputs]
@[simp] theorem driveOutputs_setpt : (driveOutputs s).setpt = s.setpt := by simp [driveOutputs]
@[simp] theorem driveOutputs_radio : (driveOutputs s).radio = s.radio := by simp [driveOutputs]
@[simp] theorem driveOutputs_switch : (driveOutputs s).switch = s.switch := by simp [driveOutputs]
@[simp] theorem driveOutputs_twin : (driveOutputs s).twin = s.twin := by simp [driveOutputs]
@[simp] theorem driveOutputs_fr : (driveOutputs s).fr = s.fr := by simp [driveOutputs]
@[simp] theorem driveOutputs_coreMem : (driveOutputs s).coreMem = s.coreMem := by simp [driveOutputs]
@[simp] theorem driveOutputs_fault : (driveOutputs s).fault = s.fault := by simp [driveOutputs]
@[simp] theorem driveOutputs_dispatch : (driveOutputs s).dispatch = s.dispatch := by simp [driveOutputs]
@[simp] theorem driveOutputs_hostif : (driveOutputs s).hostif = s.hostif := by simp [driveOutputs]
@[simp] theorem driveOutputs_geode : (driveOutputs s).geode = s.geode := by simp [driveOutputs]
@[simp] theorem driveOutputs_assay : (driveOutputs s).assay = s.assay := by simp [driveOutputs]
@[simp] theorem driveOutputs_strata : (driveOutputs s).strata = s.strata := by simp [driveOutputs]
@[simp] theorem driveOutputs_pending : (driveOutputs s).pending = s.pending := by simp [driveOutputs]
@[simp] theorem settleVote_clk (c : QCause) (r : Nat) : (settleVote c r s).clk = s.clk := by unfold settleVote; simp only []; split <;> simp
@[simp] theorem settleVote_regs (c : QCause) (r : Nat) : (settleVote c r s).regs = s.regs := by unfold settleVote; simp only []; split <;> simp
@[simp] theorem settleVote_counts (c : QCause) (r : Nat) : (settleVote c r s).counts = s.counts := by unfold settleVote; simp only []; split <;> simp
@[simp] theorem settleVote_shadows (c : QCause) (r : Nat) : (settleVote c r s).shadows = s.shadows := by unfold settleVote; simp only []; split <;> simp
@[simp] theorem settleVote_rdata (c : QCause) (r : Nat) : (settleVote c r s).rdata = s.rdata := by unfold settleVote; simp only []; split <;> simp
@[simp] theorem settleVote_fresh (c : QCause) (r : Nat) : (settleVote c r s).fresh = s.fresh := by unfold settleVote; simp only []; split <;> simp
@[simp] theorem settleVote_sys (c : QCause) (r : Nat) : (settleVote c r s).sys = s.sys := by unfold settleVote; simp only []; split <;> simp
@[simp] theorem settleVote_aon (c : QCause) (r : Nat) : (settleVote c r s).aon = s.aon := by unfold settleVote; simp only []; split <;> simp
@[simp] theorem settleVote_parison (c : QCause) (r : Nat) : (settleVote c r s).parison = s.parison := by unfold settleVote; simp only []; split <;> simp
@[simp] theorem settleVote_time (c : QCause) (r : Nat) : (settleVote c r s).time = s.time := by unfold settleVote; simp only []; split <;> simp
@[simp] theorem settleVote_gnss (c : QCause) (r : Nat) : (settleVote c r s).gnss = s.gnss := by unfold settleVote; simp only []; split <;> simp
@[simp] theorem settleVote_rtk (c : QCause) (r : Nat) : (settleVote c r s).rtk = s.rtk := by unfold settleVote; simp only []; split <;> simp
@[simp] theorem settleVote_lode (c : QCause) (r : Nat) : (settleVote c r s).lode = s.lode := by unfold settleVote; simp only []; split <;> simp
@[simp] theorem settleVote_grid (c : QCause) (r : Nat) : (settleVote c r s).grid = s.grid := by unfold settleVote; simp only []; split <;> simp
@[simp] theorem settleVote_setpt (c : QCause) (r : Nat) : (settleVote c r s).setpt = s.setpt := by unfold settleVote; simp only []; split <;> simp
@[simp] theorem settleVote_radio (c : QCause) (r : Nat) : (settleVote c r s).radio = s.radio := by unfold settleVote; simp only []; split <;> simp
@[simp] theorem settleVote_switch (c : QCause) (r : Nat) : (settleVote c r s).switch = s.switch := by unfold settleVote; simp only []; split <;> simp
@[simp] theorem settleVote_twin (c : QCause) (r : Nat) : (settleVote c r s).twin = s.twin := by unfold settleVote; simp only []; split <;> simp
@[simp] theorem settleVote_fr (c : QCause) (r : Nat) : (settleVote c r s).fr = s.fr := by unfold settleVote; simp only []; split <;> simp
@[simp] theorem settleVote_coreMem (c : QCause) (r : Nat) : (settleVote c r s).coreMem = s.coreMem := by unfold settleVote; simp only []; split <;> simp
@[simp] theorem settleVote_fault (c : QCause) (r : Nat) : (settleVote c r s).fault = s.fault := by unfold settleVote; simp only []; split <;> simp
@[simp] theorem settleVote_dispatch (c : QCause) (r : Nat) : (settleVote c r s).dispatch = s.dispatch := by unfold settleVote; simp only []; split <;> simp
@[simp] theorem settleVote_hostif (c : QCause) (r : Nat) : (settleVote c r s).hostif = s.hostif := by unfold settleVote; simp only []; split <;> simp
@[simp] theorem settleVote_geode (c : QCause) (r : Nat) : (settleVote c r s).geode = s.geode := by unfold settleVote; simp only []; split <;> simp
@[simp] theorem settleVote_assay (c : QCause) (r : Nat) : (settleVote c r s).assay = s.assay := by unfold settleVote; simp only []; split <;> simp
@[simp] theorem settleVote_strata (c : QCause) (r : Nat) : (settleVote c r s).strata = s.strata := by unfold settleVote; simp only []; split <;> simp
@[simp] theorem settleVote_ioctl (c : QCause) (r : Nat) : (settleVote c r s).ioctl = s.ioctl := by unfold settleVote; simp only []; split <;> simp
@[simp] theorem settleVote_pending (c : QCause) (r : Nat) : (settleVote c r s).pending = s.pending := by unfold settleVote; simp only []; split <;> simp
@[simp] theorem wardenPulse_clk : (wardenPulse s).clk = s.clk := by simp [wardenPulse]
@[simp] theorem wardenPulse_regs : (wardenPulse s).regs = s.regs := by simp [wardenPulse]
@[simp] theorem wardenPulse_counts : (wardenPulse s).counts = s.counts := by simp [wardenPulse]
@[simp] theorem wardenPulse_shadows : (wardenPulse s).shadows = s.shadows := by simp [wardenPulse]
@[simp] theorem wardenPulse_rdata : (wardenPulse s).rdata = s.rdata := by simp [wardenPulse]
@[simp] theorem wardenPulse_fresh : (wardenPulse s).fresh = s.fresh := by simp [wardenPulse]
@[simp] theorem wardenPulse_sys : (wardenPulse s).sys = s.sys := by simp [wardenPulse]
@[simp] theorem wardenPulse_aon : (wardenPulse s).aon = s.aon := by simp [wardenPulse]
@[simp] theorem wardenPulse_parison : (wardenPulse s).parison = s.parison := by simp [wardenPulse]
@[simp] theorem wardenPulse_time : (wardenPulse s).time = s.time := by simp [wardenPulse]
@[simp] theorem wardenPulse_gnss : (wardenPulse s).gnss = s.gnss := by simp [wardenPulse]
@[simp] theorem wardenPulse_rtk : (wardenPulse s).rtk = s.rtk := by simp [wardenPulse]
@[simp] theorem wardenPulse_lode : (wardenPulse s).lode = s.lode := by simp [wardenPulse]
@[simp] theorem wardenPulse_grid : (wardenPulse s).grid = s.grid := by simp [wardenPulse]
@[simp] theorem wardenPulse_setpt : (wardenPulse s).setpt = s.setpt := by simp [wardenPulse]
@[simp] theorem wardenPulse_radio : (wardenPulse s).radio = s.radio := by simp [wardenPulse]
@[simp] theorem wardenPulse_switch : (wardenPulse s).switch = s.switch := by simp [wardenPulse]
@[simp] theorem wardenPulse_twin : (wardenPulse s).twin = s.twin := by simp [wardenPulse]
@[simp] theorem wardenPulse_fr : (wardenPulse s).fr = s.fr := by simp [wardenPulse]
@[simp] theorem wardenPulse_coreMem : (wardenPulse s).coreMem = s.coreMem := by simp [wardenPulse]
@[simp] theorem wardenPulse_fault : (wardenPulse s).fault = s.fault := by simp [wardenPulse]
@[simp] theorem wardenPulse_dispatch : (wardenPulse s).dispatch = s.dispatch := by simp [wardenPulse]
@[simp] theorem wardenPulse_hostif : (wardenPulse s).hostif = s.hostif := by simp [wardenPulse]
@[simp] theorem wardenPulse_geode : (wardenPulse s).geode = s.geode := by simp [wardenPulse]
@[simp] theorem wardenPulse_assay : (wardenPulse s).assay = s.assay := by simp [wardenPulse]
@[simp] theorem wardenPulse_strata : (wardenPulse s).strata = s.strata := by simp [wardenPulse]
@[simp] theorem wardenPulse_ioctl : (wardenPulse s).ioctl = s.ioctl := by simp [wardenPulse]
@[simp] theorem wardenPulse_pending : (wardenPulse s).pending = s.pending := by simp [wardenPulse]
@[simp] theorem setCause_clk (b : Nat) : (setCause b s).clk = s.clk := rfl
@[simp] theorem setCause_counts (b : Nat) : (setCause b s).counts = s.counts := rfl
@[simp] theorem setCause_shadows (b : Nat) : (setCause b s).shadows = s.shadows := rfl
@[simp] theorem setCause_rdata (b : Nat) : (setCause b s).rdata = s.rdata := rfl
@[simp] theorem setCause_fresh (b : Nat) : (setCause b s).fresh = s.fresh := rfl
@[simp] theorem setCause_sys (b : Nat) : (setCause b s).sys = s.sys := rfl
@[simp] theorem setCause_aon (b : Nat) : (setCause b s).aon = s.aon := rfl
@[simp] theorem setCause_parison (b : Nat) : (setCause b s).parison = s.parison := rfl
@[simp] theorem setCause_time (b : Nat) : (setCause b s).time = s.time := rfl
@[simp] theorem setCause_gnss (b : Nat) : (setCause b s).gnss = s.gnss := rfl
@[simp] theorem setCause_rtk (b : Nat) : (setCause b s).rtk = s.rtk := rfl
@[simp] theorem setCause_lode (b : Nat) : (setCause b s).lode = s.lode := rfl
@[simp] theorem setCause_grid (b : Nat) : (setCause b s).grid = s.grid := rfl
@[simp] theorem setCause_setpt (b : Nat) : (setCause b s).setpt = s.setpt := rfl
@[simp] theorem setCause_radio (b : Nat) : (setCause b s).radio = s.radio := rfl
@[simp] theorem setCause_quench (b : Nat) : (setCause b s).quench = s.quench := rfl
@[simp] theorem setCause_switch (b : Nat) : (setCause b s).switch = s.switch := rfl
@[simp] theorem setCause_twin (b : Nat) : (setCause b s).twin = s.twin := rfl
@[simp] theorem setCause_fr (b : Nat) : (setCause b s).fr = s.fr := rfl
@[simp] theorem setCause_coreMem (b : Nat) : (setCause b s).coreMem = s.coreMem := rfl
@[simp] theorem setCause_fault (b : Nat) : (setCause b s).fault = s.fault := rfl
@[simp] theorem setCause_dispatch (b : Nat) : (setCause b s).dispatch = s.dispatch := rfl
@[simp] theorem setCause_hostif (b : Nat) : (setCause b s).hostif = s.hostif := rfl
@[simp] theorem setCause_geode (b : Nat) : (setCause b s).geode = s.geode := rfl
@[simp] theorem setCause_assay (b : Nat) : (setCause b s).assay = s.assay := rfl
@[simp] theorem setCause_strata (b : Nat) : (setCause b s).strata = s.strata := rfl
@[simp] theorem setCause_ioctl (b : Nat) : (setCause b s).ioctl = s.ioctl := rfl
@[simp] theorem setCause_pending (b : Nat) : (setCause b s).pending = s.pending := rfl
@[simp] theorem resetRecord_clk (m : Mode) : (resetRecord m s).clk = s.clk := by simp [resetRecord]
@[simp] theorem resetRecord_shadows (m : Mode) : (resetRecord m s).shadows = s.shadows := by simp [resetRecord]
@[simp] theorem resetRecord_rdata (m : Mode) : (resetRecord m s).rdata = s.rdata := by simp [resetRecord]
@[simp] theorem resetRecord_fresh (m : Mode) : (resetRecord m s).fresh = s.fresh := by simp [resetRecord]
@[simp] theorem resetRecord_sys (m : Mode) : (resetRecord m s).sys = s.sys := by simp [resetRecord]
@[simp] theorem resetRecord_aon (m : Mode) : (resetRecord m s).aon = s.aon := by simp [resetRecord]
@[simp] theorem resetRecord_parison (m : Mode) : (resetRecord m s).parison = s.parison := by simp [resetRecord]
@[simp] theorem resetRecord_time (m : Mode) : (resetRecord m s).time = s.time := by simp [resetRecord]
@[simp] theorem resetRecord_gnss (m : Mode) : (resetRecord m s).gnss = s.gnss := by simp [resetRecord]
@[simp] theorem resetRecord_rtk (m : Mode) : (resetRecord m s).rtk = s.rtk := by simp [resetRecord]
@[simp] theorem resetRecord_lode (m : Mode) : (resetRecord m s).lode = s.lode := by simp [resetRecord]
@[simp] theorem resetRecord_grid (m : Mode) : (resetRecord m s).grid = s.grid := by simp [resetRecord]
@[simp] theorem resetRecord_setpt (m : Mode) : (resetRecord m s).setpt = s.setpt := by simp [resetRecord]
@[simp] theorem resetRecord_radio (m : Mode) : (resetRecord m s).radio = s.radio := by simp [resetRecord]
@[simp] theorem resetRecord_quench (m : Mode) : (resetRecord m s).quench = s.quench := by simp [resetRecord]
@[simp] theorem resetRecord_switch (m : Mode) : (resetRecord m s).switch = s.switch := by simp [resetRecord]
@[simp] theorem resetRecord_twin (m : Mode) : (resetRecord m s).twin = s.twin := by simp [resetRecord]
@[simp] theorem resetRecord_fr (m : Mode) : (resetRecord m s).fr = s.fr := by simp [resetRecord]
@[simp] theorem resetRecord_coreMem (m : Mode) : (resetRecord m s).coreMem = s.coreMem := by simp [resetRecord]
@[simp] theorem resetRecord_fault (m : Mode) : (resetRecord m s).fault = s.fault := by simp [resetRecord]
@[simp] theorem resetRecord_dispatch (m : Mode) : (resetRecord m s).dispatch = s.dispatch := by simp [resetRecord]
@[simp] theorem resetRecord_hostif (m : Mode) : (resetRecord m s).hostif = s.hostif := by simp [resetRecord]
@[simp] theorem resetRecord_geode (m : Mode) : (resetRecord m s).geode = s.geode := by simp [resetRecord]
@[simp] theorem resetRecord_assay (m : Mode) : (resetRecord m s).assay = s.assay := by simp [resetRecord]
@[simp] theorem resetRecord_ioctl (m : Mode) : (resetRecord m s).ioctl = s.ioctl := by simp [resetRecord]
@[simp] theorem resetRecord_pending (m : Mode) : (resetRecord m s).pending = s.pending := by simp [resetRecord]

end Sys2Proof.Machine
end

