-- ==== Sys2Proof/Laws/Latch.lean ====
section
/-! SUPPORT. Latch.lean: the copies of the quench latch and the queue of waiting commands through the shared operations: each keeps them, or sets every copy. -/

namespace Sys2Proof.Machine

open Sys2Proof

/-- The copies of the quench latch. -/
def latchCopies (s : State) : Vector Bool 3 := s.quench.chs.map QChannel.latch

/-- What is claimed of a state: a property of the copies of the latch that holds of three set ones, the waiting commands, and whether the
field cores' memory is in canonical form. -/
structure LatchClaim where
  /-- The property. -/
  ok : Vector Bool 3 → Prop
  /-- It holds when all are set. -/
  set : ok (Vector.replicate 3 true)
  /-- The commands that wait. -/
  queue : List Instr
  /-- The canonical form is claimed. -/
  mem : Prop

variable {c : LatchClaim}

/-- The claim holds of a state. -/
def Kept (c : LatchClaim) (s : State) : Prop :=
  c.ok (latchCopies s) ∧ s.pending = c.queue ∧ (c.mem → Memory.wf s.coreMem = true)

/-- The claim holds of the latch's block, a memory and a queue. -/
def KeptQ (c : LatchClaim) (q : Quench) (m : List Host.Cell) (l : List Instr) : Prop :=
  c.ok (q.chs.map QChannel.latch) ∧ l = c.queue ∧ (c.mem → Memory.wf m = true)

/-- The claim holds of the channels, a memory and a queue. -/
def KeptV (c : LatchClaim) (v : Vector QChannel 3) (m : List Host.Cell) (l : List Instr) : Prop :=
  c.ok (v.map QChannel.latch) ∧ l = c.queue ∧ (c.mem → Memory.wf m = true)

theorem kept_mk {clk regs counts shadows rdata fresh sys aon parison time gnss rtk lode grid setpt radio quench switch twin fr fault dispatch coreMem hostif geode assay strata ioctl pending} :
    Kept c (State.mk clk regs counts shadows rdata fresh sys aon parison time gnss rtk lode grid setpt radio quench switch twin fr fault dispatch coreMem hostif geode assay strata ioctl pending) ↔ KeptQ c quench coreMem pending := Iff.rfl

theorem keptQ_mk {chs hostEnd pendantEnd peerEnd wardenEnd deciding decidingAt cause time count qseq latchAt loneSince loneDone reminders permitOut permitPin permitFall machq stood annealAt result ethLeft ethNext} {m : List Host.Cell} {l : List Instr} :
    KeptQ c (Quench.mk chs hostEnd pendantEnd peerEnd wardenEnd deciding decidingAt cause time count qseq latchAt loneSince loneDone reminders permitOut permitPin permitFall machq stood annealAt result ethLeft ethNext) m l ↔ KeptV c chs m l := Iff.rfl

theorem kept_q {s : State} (h : Kept c s) : KeptQ c s.quench s.coreMem s.pending := h

theorem kept_v {s : State} (h : Kept c s) : KeptV c s.quench.chs s.coreMem s.pending := h

theorem keptV_map {f : QChannel → QChannel} {v : Vector QChannel 3} {m : List Host.Cell} {l : List Instr} (hf : ∀ x, (f x).latch = x.latch)
    (h : KeptV c v m l) : KeptV c (v.map f) m l := by
  unfold KeptV at *
  rwa [Vector.map_map, show QChannel.latch ∘ f = QChannel.latch from funext hf]

theorem keptV_set {f : QChannel → QChannel} {v w : Vector QChannel 3} {m : List Host.Cell} {l : List Instr} (hf : ∀ x, (f x).latch = true)
    (h : KeptV c w m l) : KeptV c (v.map f) m l :=
  ⟨by rw [Vector.map_map, show v.map (QChannel.latch ∘ f) = Vector.replicate 3 true by ext i hi; simp [hf]]; exact c.set, h.2⟩

theorem keptV_mod {f : QChannel → QChannel} {v : Vector QChannel 3} {k : Nat} {m : List Host.Cell} {l : List Instr} (hf : ∀ x, (f x).latch = x.latch)
    (h : KeptV c v m l) : KeptV c (vmod v k f) m l := by
  unfold KeptV vmod at *
  split
  · rwa [Vector.map_set, hf, ← Vector.getElem_map QChannel.latch, Vector.set_getElem_self]
  · exact h

theorem kept_foldl {α : Type} {f : State → α → State} {l : List α} {s : State}
    (hs : Kept c s) (h : ∀ t a, Kept c t → Kept c (f t a)) : Kept c (l.foldl f s) := by
  induction l generalizing s with
  | nil => exact hs
  | cons a l ih => exact ih (h s a hs)

theorem kept_foldl2 {α β : Type} {f : β × State → α → β × State} {l : List α} {s : β × State}
    (hs : Kept c s.2) (h : ∀ t a, Kept c t.2 → Kept c (f t a).2) : Kept c (l.foldl f s).2 := by
  induction l generalizing s with
  | nil => exact hs
  | cons a l ih => exact ih (h s a hs)

theorem kept_foldl1 {α β : Type} {f : State × β → α → State × β} {l : List α} {s : State × β}
    (hs : Kept c s.1) (h : ∀ t a, Kept c t.1 → Kept c (f t a).1) : Kept c (l.foldl f s).1 := by
  induction l generalizing s with
  | nil => exact hs
  | cons a l ih => exact ih (h s a hs)

theorem kept_snd {β : Type} {p : β × State} {b : β} {s : State} (h : p = (b, s)) (k : Kept c p.2) : Kept c s := by
  subst h; exact k

theorem kept_in (c : LatchClaim) (s : State) {P : Prop} (h : Kept c s) (k : Kept c s → P) : P := k h


theorem latch_setReg (a0 : ℕ) (a1 : Word) (a2 : State) (h0 : Kept c a2) : Kept c (setReg a0 a1 a2) := by
  delta setReg
  repeat' first | lift_lets | with_reducible assumption | simp only [kept_mk] | with_reducible refine kept_q ?_

theorem latch_orReg (a0 : ℕ) (a1 : Word) (a2 : State) (h0 : Kept c a2) : Kept c (orReg a0 a1 a2) := by
  delta orReg
  repeat' first | lift_lets | with_reducible assumption | with_reducible (apply latch_setReg)

theorem latch_raise (a0 : ℕ) (a1 : ℕ) (a2 : State) (h0 : Kept c a2) : Kept c (raise a0 a1 a2) := by
  delta raise
  repeat' first | lift_lets | with_reducible assumption | with_reducible (apply latch_orReg) | split

theorem latch_abandonReform (a0 : State) (h0 : Kept c a0) : Kept c (abandonReform a0) := by
  delta abandonReform
  repeat' first | (intro v; subst v) | lift_lets | with_reducible assumption | with_reducible (apply latch_raise) | simp only [kept_mk] | with_reducible refine kept_q ?_ | split

theorem latch_accEnd (a0 : AccResult) (a1 : State) (h0 : Kept c a1) : Kept c (accEnd a0 a1) := by
  delta accEnd
  repeat' first | (intro v; subst v) | lift_lets | with_reducible assumption | with_reducible (apply latch_raise) | simp only [kept_mk] | with_reducible refine kept_q ?_

theorem latch_removeKey (a0 : TableDesc) (a1 : LodeKey) (a2 : Inst → Bool) (a3 : State) (h0 : Kept c a3) : Kept c (removeKey a0 a1 a2 a3) := by
  delta removeKey
  repeat' first | (intro v; subst v) | lift_lets | with_reducible assumption | simp only [kept_mk] | with_reducible refine kept_q ?_

theorem latch_deleteWritten (a0 : TableDesc) (a1 : LodeKey) (a2 : State) (h0 : Kept c a2) : Kept c (deleteWritten a0 a1 a2) := by
  delta deleteWritten
  repeat' first | (intro v; refine kept_in c v ?_ ?_ <;> [subst v; (clear_value v; intro _)]) | (intro v; subst v) | lift_lets | with_reducible assumption | with_reducible (apply latch_removeKey) | simp only [kept_mk] | with_reducible refine kept_q ?_

theorem latch_accDelete (a0 : TableDesc) (a1 : Inst) (a2 : State) (h0 : Kept c a2) : Kept c (accDelete a0 a1 a2) := by
  delta accDelete
  repeat' first | (intro v; subst v) | lift_lets | with_reducible assumption | with_reducible (apply latch_accEnd) | with_reducible (apply latch_deleteWritten) | with_reducible (apply latch_removeKey) | split

theorem latch_accRead (a0 : TableDesc) (a1 : Inst) (a2 : State) (h0 : Kept c a2) : Kept c (accRead a0 a1 a2) := by
  delta accRead
  repeat' first | (intro v; subst v) | lift_lets | with_reducible assumption | with_reducible (apply latch_accEnd) | simp only [kept_mk] | with_reducible refine kept_q ?_ | split

theorem latch_accReadAt (a0 : TableDesc) (a1 : Inst) (a2 : ℕ) (a3 : ℕ) (a4 : ℕ) (a5 : State) (h0 : Kept c a5) : Kept c (accReadAt a0 a1 a2 a3 a4 a5) := by
  delta accReadAt
  repeat' first | (intro v; subst v) | lift_lets | with_reducible assumption | with_reducible (apply latch_accEnd) | simp only [kept_mk] | with_reducible refine kept_q ?_ | split

theorem latch_setInst (a0 : Inst) (a1 : State) (h0 : Kept c a1) : Kept c (setInst a0 a1) := by
  delta setInst
  repeat' first | (intro v; subst v) | lift_lets | with_reducible assumption | simp only [kept_mk] | with_reducible refine kept_q ?_

theorem latch_setCount (a0 : ℕ) (a1 : ℕ) (a2 : ℕ) (a3 : State) (h0 : Kept c a3) : Kept c (setCount a0 a1 a2 a3) := by
  delta setCount
  repeat' first | lift_lets | with_reducible assumption | simp only [kept_mk] | with_reducible refine kept_q ?_

theorem latch_bumpBy (a0 : ℕ) (a1 : ℕ) (a2 : ℕ) (a3 : State) (h0 : Kept c a3) : Kept c (bumpBy a0 a1 a2 a3) := by
  delta bumpBy
  repeat' first | lift_lets | with_reducible assumption | with_reducible (apply latch_setCount)

theorem latch_bump (a0 : ℕ) (a1 : ℕ) (a2 : State) (h0 : Kept c a2) : Kept c (bump a0 a1 a2) := by
  delta bump
  repeat' first | lift_lets | with_reducible assumption | with_reducible (apply latch_bumpBy)

theorem latch_bumpLode (a0 : Bool) (a1 : ℕ) (a2 : State) (h0 : Kept c a2) : Kept c (bumpLode a0 a1 a2) := by
  delta bumpLode
  repeat' first | lift_lets | with_reducible assumption | with_reducible (apply latch_bump)

theorem latch_commitInst (a0 : Inst × Bool) (a1 : State) (h0 : Kept c a1) : Kept c (commitInst a0 a1) := by
  delta commitInst
  repeat' first | (intro v; refine kept_in c v ?_ ?_ <;> [subst v; (clear_value v; intro _)]) | lift_lets | with_reducible assumption | with_reducible (apply latch_setInst) | with_reducible (apply latch_bumpLode) | split

theorem latch_commitWrite (a0 : HeldWrite) (a1 : Inst × Bool) (a2 : State) (h0 : Kept c a2) : Kept c (commitWrite a0 a1 a2) := by
  delta commitWrite
  repeat' first | (intro v; subst v) | lift_lets | with_reducible assumption | with_reducible (apply latch_commitInst) | simp only [kept_mk] | with_reducible refine kept_q ?_ | split

theorem latch_drawn64 (a0 : State) (h0 : Kept c a0) : Kept c (drawn64 a0) := by
  delta drawn64
  repeat' first | lift_lets | with_reducible assumption | simp only [kept_mk] | with_reducible refine kept_q ?_

theorem latch_writeEntry (a0 : TableDesc) (a1 : LodeEntry) (a2 : State) (h0 : Kept c a2) :
    ∀ t, writeEntry a0 a1 a2 = some t → Kept c t := by
  intro t h
  unfold writeEntry at h
  split at h
  · cases h
  · cases h
    rw [kept_mk]
    exact kept_q (kept_foldl (latch_drawn64 _ h0) fun s x hs => latch_commitWrite _ _ _ hs)

theorem latch_tableFull (a0 : TableDesc) (a1 : State) (h0 : Kept c a1) : Kept c (tableFull a0 a1) := by
  delta tableFull
  repeat' first | lift_lets | with_reducible assumption | with_reducible (apply latch_raise) | with_reducible (apply latch_bumpLode) | with_reducible (apply kept_foldl) | intro _

theorem latch_accWrite (a0 : TableDesc) (a1 : State) (h0 : Kept c a1) : Kept c (accWrite a0 a1) := by
  unfold accWrite
  split
  · exact latch_accEnd _ _ h0
  · split
    · exact latch_accEnd _ _ (latch_writeEntry _ _ _ h0 _ ‹_›)
    · exact latch_accEnd _ _ (latch_tableFull _ _ (latch_drawn64 _ h0))

theorem latch_setAs (a0 : ℕ) (a1 : AsChan → AsChan) (a2 : State) (h0 : Kept c a2) : Kept c (setAs a0 a1 a2) := by
  delta setAs
  repeat' first | (intro v; subst v) | lift_lets | with_reducible assumption | simp only [kept_mk] | with_reducible refine kept_q ?_

theorem latch_pulse (a0 : ℕ) (a1 : State) (h0 : Kept c a1) : Kept c (pulse a0 a1) := by
  delta pulse
  repeat' first | (intro v; refine kept_in c v ?_ ?_ <;> [subst v; (clear_value v; intro _)]) | (intro v; subst v) | lift_lets | with_reducible assumption | with_reducible (apply latch_raise) | with_reducible (apply latch_bump) | with_reducible (apply latch_setAs) | split

theorem latch_acceptA (a0 : ℕ) (a1 : Bool) (a2 : State) (h0 : Kept c a2) : Kept c (acceptA a0 a1 a2) := by
  delta acceptA
  repeat' first | (intro v; refine kept_in c v ?_ ?_ <;> [subst v; (clear_value v; intro _)]) | (intro v; subst v) | lift_lets | with_reducible assumption | with_reducible (apply latch_setAs) | with_reducible (apply latch_pulse) | split

theorem latch_acceptDormant (a0 : Master) (a1 : State) (h0 : Kept c a1) : Kept c (acceptDormant a0 a1) := by
  delta acceptDormant
  repeat' first | (intro v; subst v) | lift_lets | with_reducible assumption | simp only [kept_mk] | with_reducible refine kept_q ?_

theorem latch_setRtkMach (a0 : ℕ) (a1 : RtkMach → RtkMach) (a2 : State) (h0 : Kept c a2) : Kept c (setRtkMach a0 a1 a2) := by
  delta setRtkMach
  repeat' first | (intro v; subst v) | lift_lets | with_reducible assumption | simp only [kept_mk] | with_reducible refine kept_q ?_

theorem latch_acceptMsm (a0 : RtcmIn) (a1 : State) (h0 : Kept c a1) : Kept c (acceptMsm a0 a1) := by
  delta acceptMsm
  repeat' first | (intro v; refine kept_in c v ?_ ?_ <;> [subst v; (clear_value v; intro _)]) | (intro v; subst v) | lift_lets | with_reducible assumption | with_reducible (apply latch_setRtkMach) | simp only [kept_mk] | with_reducible refine kept_q ?_ | split

theorem latch_acceptPin (a0 : ℕ) (a1 : Bool) (a2 : Bool) (a3 : State) (h0 : Kept c a3) : Kept c (acceptPin a0 a1 a2 a3) := by
  delta acceptPin
  repeat' first | lift_lets | with_reducible assumption | with_reducible (apply latch_setAs) | with_reducible (apply latch_acceptA) | split

theorem latch_setCore (a0 : ℕ) (a1 : FieldCore → FieldCore) (a2 : State) (h0 : Kept c a2) : Kept c (setCore a0 a1 a2) := by
  delta setCore
  repeat' first | (intro v; subst v) | lift_lets | with_reducible assumption | simp only [kept_mk] | with_reducible refine kept_q ?_

theorem latch_accessFault (a0 : ℕ) (a1 : ℕ) (a2 : Bool) (a3 : State) (h0 : Kept c a3) : Kept c (accessFault a0 a1 a2 a3) := by
  delta accessFault
  repeat' first | lift_lets | with_reducible assumption | with_reducible (apply latch_setCore)

theorem latch_bumpTwin (a0 : ℕ) (a1 : State) (h0 : Kept c a1) : Kept c (bumpTwin a0 a1) := by
  delta bumpTwin
  repeat' first | lift_lets | with_reducible assumption | with_reducible (apply latch_bump)

theorem latch_sendFrame (a0 : FrKind) (a1 : Bytes) (a2 : State) (h0 : Kept c a2) : Kept c (sendFrame a0 a1 a2) := by
  delta sendFrame
  repeat' first | (intro v; subst v) | lift_lets | with_reducible assumption | with_reducible (apply latch_bumpTwin) | simp only [kept_mk] | with_reducible refine kept_q ?_

theorem latch_sendBody (a0 : FrKind) (a1 : FrBody) (a2 : State) (h0 : Kept c a2) : Kept c (sendBody a0 a1 a2) := by
  delta sendBody
  repeat' first | lift_lets | with_reducible assumption | with_reducible (apply latch_sendFrame) | with_reducible (apply kept_foldl) | intro _ | split

theorem latch_sendGroup (a0 : MirRecord) (a1 : State) (h0 : Kept c a1) : Kept c (sendGroup a0 a1) := by
  delta sendGroup
  repeat' first | lift_lets | with_reducible assumption | with_reducible (apply latch_sendBody) | split

theorem latch_acked (a0 : BitVec 32) (a1 : State) (h0 : Kept c a1) : Kept c (acked a0 a1) := by
  delta acked
  repeat' first | (intro v; refine kept_in c v ?_ ?_ <;> [subst v; (clear_value v; intro _)]) | (intro v; subst v) | lift_lets | with_reducible assumption | with_reducible (apply latch_sendGroup) | simp only [kept_mk] | with_reducible refine kept_q ?_ | split

theorem latch_addKeyHash (a0 : Access) (a1 : State) (h0 : Kept c a1) : Kept c (addKeyHash a0 a1).2 := by
  delta addKeyHash
  repeat' first | (intro v; subst v) | lift_lets | with_reducible assumption | simp only [kept_mk] | with_reducible refine kept_q ?_ | split

theorem latch_addZone (a0 : Zone) (a1 : State) (h0 : Kept c a1) : ∀ t, addZone a0 a1 = some t → Kept c t := by
  intro t h
  unfold addZone at h
  split at h
  · cases h
  · obtain ⟨u, hu, rfl⟩ := Option.map_eq_some_iff.mp h
    rw [kept_mk]
    exact kept_q (latch_writeEntry _ _ _ h0 _ hu)

theorem latch_bumpChain (a0 : ℕ) (a1 : ℕ) (a2 : State) (h0 : Kept c a2) : Kept c (bumpChain a0 a1 a2) := by
  delta bumpChain
  repeat' first | lift_lets | with_reducible assumption | with_reducible (apply latch_bump)

theorem latch_useRefused (a0 : State) (h0 : Kept c a0) : Kept c (useRefused a0) := by
  delta useRefused
  repeat' first | lift_lets | with_reducible assumption | with_reducible (apply latch_raise) | with_reducible (apply latch_bump)

theorem latch_keyFault (a0 : State) (h0 : Kept c a0) : Kept c (keyFault a0) := by
  delta keyFault
  repeat' first | (intro v; subst v) | lift_lets | with_reducible assumption | with_reducible (apply latch_useRefused) | with_reducible (apply latch_raise) | simp only [kept_mk] | with_reducible refine kept_q ?_

theorem latch_setMark (a0 : ℕ) (a1 : ℕ) (a2 : State) (h0 : Kept c a2) : Kept c (setMark a0 a1 a2) := by
  delta setMark
  repeat' first | (intro v; subst v) | lift_lets | with_reducible assumption | simp only [kept_mk] | with_reducible refine kept_q ?_

theorem latch_admitFrame (a0 : RxFrame) (a1 : ℕ) (a2 : Sender) (a3 : ℕ) (a4 : Bool) (a5 : State) (h0 : Kept c a5) : Kept c (admitFrame a0 a1 a2 a3 a4 a5).2 := by
  delta admitFrame
  repeat' first | (intro v; subst v) | lift_lets | with_reducible assumption | with_reducible (apply latch_bumpChain) | with_reducible (apply latch_keyFault) | with_reducible (apply latch_setMark) | split

theorem latch_adoptPair (a0 : MirPair) (a1 : State) (h0 : Kept c a1) : Kept c (adoptPair a0 a1) := by
  delta adoptPair
  repeat' first | (intro v; refine kept_in c v ?_ ?_ <;> [subst v; (clear_value v; intro _)]) | (intro v; subst v) | lift_lets | with_reducible assumption | with_reducible (apply latch_setReg) | with_reducible (apply kept_foldl) | simp only [kept_mk, keptQ_mk] | with_reducible refine kept_v ?_ | intro _

theorem latch_adoptSetpt (a0 : List (ℕ × SpMach) × List (ℕ × Odo)) (a1 : State) (h0 : Kept c a1) : Kept c (adoptSetpt a0 a1) := by
  delta adoptSetpt
  repeat' first | (intro v; subst v) | lift_lets | with_reducible assumption | simp only [kept_mk] | with_reducible refine kept_q ?_

theorem latch_setCq (a0 : ℕ) (a1 : CmdQueue → CmdQueue) (a2 : State) (h0 : Kept c a2) : Kept c (setCq a0 a1 a2) := by
  delta setCq
  repeat' first | (intro v; subst v) | lift_lets | with_reducible assumption | simp only [kept_mk] | with_reducible refine kept_q ?_

theorem latch_adoptQueues (a0 : List (ℕ × BitVec 32)) (a1 : State) (h0 : Kept c a1) : Kept c (adoptQueues a0 a1) := by
  delta adoptQueues
  repeat' first | lift_lets | with_reducible assumption | with_reducible (apply latch_setCq) | with_reducible (apply kept_foldl) | intro _

theorem latch_adopt (a0 : State) (h0 : Kept c a0) : Kept c (adopt a0) := by
  delta adopt
  repeat' first | (intro v; refine kept_in c v ?_ ?_ <;> [subst v; (clear_value v; intro _)]) | (intro v; subst v) | lift_lets | with_reducible assumption | with_reducible (apply latch_bumpBy) | with_reducible (apply latch_adoptPair) | with_reducible (apply latch_adoptSetpt) | with_reducible (apply latch_adoptQueues) | simp only [kept_mk] | with_reducible refine kept_q ?_ | split

theorem latch_advance (a0 : ℕ) (a1 : State) (h0 : Kept c a1) : Kept c (advance a0 a1) := by
  delta advance
  repeat' first | (intro v; subst v) | lift_lets | with_reducible assumption | simp only [kept_mk] | with_reducible refine kept_q ?_

theorem latch_advanceClk (a0 : ℕ) (a1 : State) (h0 : Kept c a1) : Kept c (advanceClk a0 a1) := by
  delta advanceClk
  repeat' first | lift_lets | with_reducible assumption | with_reducible (apply latch_advance)

theorem latch_advanceGo (a0 : ℕ) (a1 : ℕ) (a2 : State) (h0 : Kept c a2) : Kept c (advanceGo a0 a1 a2) := by
  induction a1 generalizing a2 <;> unfold advanceGo
  repeat' first | lift_lets | with_reducible assumption | with_reducible apply_assumption | split

theorem latch_advanceTo (a0 : ℕ) (a1 : State) (h0 : Kept c a1) : Kept c (advanceTo a0 a1) := by
  delta advanceTo
  repeat' first | lift_lets | with_reducible assumption | with_reducible (apply latch_advanceGo)

theorem latch_reportErr (a0 : LoadErr) (a1 : State) (h0 : Kept c a1) : Kept c (reportErr a0 a1) := by
  delta reportErr
  repeat' first | (intro v; subst v) | lift_lets | with_reducible assumption | with_reducible (apply latch_raise) | simp only [kept_mk] | with_reducible refine kept_q ?_

theorem latch_failNow (a0 : LoadErr) (a1 : ℕ) (a2 : ℕ) (a3 : State) (h0 : Kept c a3) : Kept c (failNow a0 a1 a2 a3) := by
  delta failNow
  repeat' first | (intro v; subst v) | lift_lets | with_reducible assumption | with_reducible (apply latch_reportErr) | simp only [kept_mk] | with_reducible refine kept_q ?_

theorem latch_setSlot (a0 : ℕ) (a1 : StoreSlot) (a2 : State) (h0 : Kept c a2) : Kept c (setSlot a0 a1 a2) := by
  delta setSlot
  repeat' first | (intro v; subst v) | lift_lets | with_reducible assumption | simp only [kept_mk] | with_reducible refine kept_q ?_

theorem latch_setLoad (a0 : Load → Load) (a1 : State) (h0 : Kept c a1) : Kept c (setLoad a0 a1) := by
  delta setLoad
  repeat' first | (intro v; subst v) | lift_lets | with_reducible assumption | simp only [kept_mk] | with_reducible refine kept_q ?_

theorem latch_startStore (a0 : State) (h0 : Kept c a0) : Kept c (startStore a0) := by
  delta startStore
  repeat' first | lift_lets | with_reducible assumption | with_reducible (apply latch_failNow) | with_reducible (apply latch_setSlot) | with_reducible (apply latch_setLoad) | split

theorem latch_doneNow (a0 : State) (h0 : Kept c a0) : Kept c (doneNow a0) := by
  delta doneNow
  repeat' first | (intro v; subst v) | lift_lets | with_reducible assumption | with_reducible (apply latch_reportErr) | simp only [kept_mk] | with_reducible refine kept_q ?_

theorem latch_afterApply (a0 : Load) (a1 : State) (h0 : Kept c a1) : Kept c (afterApply a0 a1) := by
  delta afterApply
  repeat' first | lift_lets | with_reducible assumption | with_reducible (apply latch_startStore) | with_reducible (apply latch_doneNow) | split

theorem latch_settleOccLimit (a0 : ℕ) (a1 : State) (h0 : Kept c a1) : Kept c (settleOccLimit a0 a1) := by
  delta settleOccLimit
  repeat' first | (intro v; refine kept_in c v ?_ ?_ <;> [subst v; (clear_value v; intro _)]) | (intro v; subst v) | lift_lets | with_reducible assumption | with_reducible (apply latch_raise) | simp only [kept_mk] | with_reducible refine kept_q ?_ | split

theorem latch_afterLearn (a0 : State) (a1 : ℕ) (a2 : Bool) (a3 : State) (h0 : Kept c a0) (h1 : Kept c a3) : Kept c (afterLearn a0 a1 a2 a3) := by
  delta afterLearn
  repeat' first | lift_lets | with_reducible assumption | with_reducible (apply latch_settleOccLimit) | split

theorem latch_trackLone (a0 : State) (h0 : Kept c a0) : Kept c (trackLone a0) := by
  delta trackLone
  repeat' first | (intro v; subst v) | lift_lets | with_reducible assumption | simp only [kept_mk, keptQ_mk] | with_reducible refine kept_v ?_ | split

theorem latch_settleVote (a0 : QCause) (a1 : ℕ) (a2 : State) (h0 : Kept c a2) : Kept c (settleVote a0 a1 a2) := by
  delta settleVote
  repeat' first | (intro v; refine kept_in c v ?_ ?_ <;> [subst v; (clear_value v; intro _)]) | (intro v; subst v) | lift_lets | with_reducible assumption | with_reducible (apply latch_trackLone) | simp only [kept_mk, keptQ_mk] | with_reducible refine kept_v ?_ | split

theorem latch_wardenPulse (a0 : State) (h0 : Kept c a0) : Kept c (wardenPulse a0) := by
  delta wardenPulse
  repeat' first | (intro v; subst v) | lift_lets | with_reducible assumption | with_reducible (apply latch_settleVote) | simp only [kept_mk, keptQ_mk] | with_reducible refine kept_v ?_

theorem latch_setMb (a0 : ℕ) (a1 : Mailbox → Mailbox) (a2 : State) (h0 : Kept c a2) : Kept c (setMb a0 a1 a2) := by
  delta setMb
  repeat' first | (intro v; subst v) | lift_lets | with_reducible assumption | simp only [kept_mk] | with_reducible refine kept_q ?_

theorem latch_freeLocksOf (a0 : ℕ) (a1 : State) (h0 : Kept c a1) : Kept c (freeLocksOf a0 a1) := by
  delta freeLocksOf
  repeat' first | (intro v; subst v) | lift_lets | with_reducible assumption | simp only [kept_mk] | with_reducible refine kept_q ?_

theorem latch_coreSideReset (a0 : ℕ) (a1 : State) (a2 : optParam Bool false) (h0 : Kept c a1) : Kept c (coreSideReset a0 a1 a2) := by
  delta coreSideReset
  repeat' first | (intro v; refine kept_in c v ?_ ?_ <;> [subst v; (clear_value v; intro _)]) | (intro v; subst v) | lift_lets | with_reducible assumption | with_reducible (apply latch_setMb) | with_reducible (apply latch_freeLocksOf) | simp only [kept_mk] | with_reducible refine kept_q ?_ | split

theorem latch_drawn (a0 : State) (h0 : Kept c a0) : Kept c (drawn a0) := by
  delta drawn
  repeat' first | lift_lets | with_reducible assumption | simp only [kept_mk] | with_reducible refine kept_q ?_

theorem latch_startCore (a0 : ℕ) (a1 : ℕ) (a2 : State) (h0 : Kept c a2) : Kept c (startCore a0 a1 a2) := by
  delta startCore
  repeat' first | (intro v; subst v) | lift_lets | with_reducible assumption | with_reducible (apply latch_coreSideReset) | with_reducible (apply latch_setCore) | with_reducible (apply latch_drawn) | split

theorem latch_ungateCores (a0 : State) (h0 : Kept c a0) : Kept c (ungateCores a0) := by
  delta ungateCores
  repeat' first | lift_lets | with_reducible assumption | with_reducible (apply latch_startCore) | with_reducible (apply latch_setCore) | with_reducible (apply kept_foldl) | intro _ | split

theorem latch_applyHeldOne (a0 : State) (a1 : HeldWrite) (h0 : Kept c a0) : Kept c (applyHeldOne a0 a1) := by
  delta applyHeldOne
  repeat' first | lift_lets | with_reducible assumption | with_reducible (apply latch_commitInst) | with_reducible (apply latch_tableFull) | split

theorem latch_resume1 (a0 : State) (h0 : Kept c a0) : Kept c (resume1 a0) := by
  delta resume1
  repeat' first | (intro v; refine kept_in c v ?_ ?_ <;> [subst v; (clear_value v; intro _)]) | (intro v; subst v) | lift_lets | with_reducible assumption | with_reducible (apply latch_applyHeldOne) | with_reducible (apply kept_foldl) | simp only [kept_mk] | with_reducible refine kept_q ?_

theorem latch_restoreLoad (a0 : State) (h0 : Kept c a0) : Kept c (restoreLoad a0) := by
  delta restoreLoad
  repeat' first | (intro v; refine kept_in c v ?_ ?_ <;> [subst v; (clear_value v; intro _)]) | (intro v; subst v) | lift_lets | with_reducible assumption | with_reducible (apply latch_ungateCores) | with_reducible (apply latch_resume1) | simp only [kept_mk] | with_reducible refine kept_q ?_ | split

theorem latch_mapAs (a0 : AsChan → AsChan) (a1 : State) (h0 : Kept c a1) : Kept c (mapAs a0 a1) := by
  delta mapAs
  repeat' first | (intro v; subst v) | lift_lets | with_reducible assumption | simp only [kept_mk] | with_reducible refine kept_q ?_

theorem latch_recomputeAll (a0 : State) (h0 : Kept c a0) : Kept c (recomputeAll a0) := by
  delta recomputeAll
  repeat' first | lift_lets | with_reducible assumption | with_reducible (apply latch_mapAs)

theorem latch_leaveMode (a0 : Mode) (a1 : State) (h0 : Kept c a1) : Kept c (leaveMode a0 a1) := by
  delta leaveMode
  repeat' first | (intro v; subst v) | lift_lets | with_reducible assumption | with_reducible (apply latch_restoreLoad) | with_reducible (apply latch_recomputeAll) | simp only [kept_mk] | with_reducible refine kept_q ?_ | split

theorem latch_record (a0 : ℕ) (a1 : ℕ) (a2 : ℕ) (a3 : ℕ) (a4 : ℕ) (a5 : ℕ) (a6 : State) (h0 : Kept c a6) : Kept c (record a0 a1 a2 a3 a4 a5 a6) := by
  delta record
  repeat' first | (intro v; subst v) | lift_lets | with_reducible assumption | with_reducible (apply latch_orReg) | with_reducible (apply latch_bump) | simp only [kept_mk] | with_reducible refine kept_q ?_ | split

theorem latch_setDriver (a0 : ℕ) (a1 : Driver → Driver) (a2 : State) (h0 : Kept c a2) : Kept c (setDriver a0 a1 a2) := by
  delta setDriver
  repeat' first | (intro v; subst v) | lift_lets | with_reducible assumption | simp only [kept_mk] | with_reducible refine kept_q ?_

theorem latch_drivePermit (a0 : State) (h0 : Kept c a0) : Kept c (drivePermit a0) := by
  delta drivePermit
  repeat' first | (intro v; refine kept_in c v ?_ ?_ <;> [subst v; (clear_value v; intro _)]) | (intro v; subst v) | lift_lets | with_reducible assumption | with_reducible (apply latch_setDriver) | simp only [kept_mk, keptQ_mk] | with_reducible refine kept_v ?_ | split

theorem latch_setQch (a0 : ℕ) (a1 : QChannel → QChannel) (a2 : State) (h : ∀ x, (a1 x).latch = x.latch)
    (h0 : Kept c a2) : Kept c (setQch a0 a1 a2) := keptV_mod h h0

theorem latch_driveRelays (a0 : State) (h0 : Kept c a0) : Kept c (driveRelays a0) := by
  delta driveRelays
  repeat' first | lift_lets | with_reducible assumption | with_reducible (apply latch_setDriver) | with_reducible (apply latch_setQch) | with_reducible (apply kept_foldl) | dsimp only | intro _

theorem latch_driveOutputs (a0 : State) (h0 : Kept c a0) : Kept c (driveOutputs a0) := by
  delta driveOutputs
  repeat' first | lift_lets | with_reducible assumption | with_reducible (apply latch_drivePermit) | with_reducible (apply latch_driveRelays) | with_reducible (apply latch_trackLone)

theorem latch_setChain (a0 : ℕ) (a1 : Chain → Chain) (a2 : State) (h0 : Kept c a2) : Kept c (setChain a0 a1 a2) := by
  delta setChain
  repeat' first | (intro v; subst v) | lift_lets | with_reducible assumption | simp only [kept_mk] | with_reducible refine kept_q ?_

theorem latch_armAnneal_armChain (a0 : ℕ) (a1 : State) (h0 : Kept c a1) : Kept c (armAnneal.armChain a0 a1) := by
  delta armAnneal.armChain
  repeat' first | (intro v; subst v) | lift_lets | with_reducible assumption | with_reducible (apply latch_setChain)

theorem latch_armAnneal (a0 : State) (h0 : Kept c a0) : Kept c (armAnneal a0) := by
  delta armAnneal
  repeat' first | lift_lets | with_reducible assumption | with_reducible (apply latch_armAnneal_armChain) | with_reducible (apply kept_foldl) | intro _

theorem latch_setPort (a0 : ℕ) (a1 : SwPort → SwPort) (a2 : State) (h0 : Kept c a2) : Kept c (setPort a0 a1 a2) := by
  delta setPort
  repeat' first | (intro v; subst v) | lift_lets | with_reducible assumption | simp only [kept_mk] | with_reducible refine kept_q ?_

theorem latch_setQ (a0 : ℕ) (a1 : SwQueue → SwQueue) (a2 : State) (h0 : Kept c a2) : Kept c (setQ a0 a1 a2) := by
  delta setQ
  repeat' first | (intro v; subst v) | lift_lets | with_reducible assumption | simp only [kept_mk] | with_reducible refine kept_q ?_

theorem latch_withPause (a0 : State → State) (a1 : State) (h0 : ∀ (b0 : State), Kept c b0 → Kept c (a0 b0)) (h1 : Kept c a1) : Kept c (withPause a0 a1) := by
  delta withPause
  repeat' first | (intro v; refine kept_in c v ?_ ?_ <;> [subst v; (clear_value v; intro _)]) | lift_lets | with_reducible assumption | with_reducible (apply latch_raise) | with_reducible (apply h0) | split

theorem latch_swAbove (a0 : ℕ) (a1 : State) (h0 : Kept c a1) : Kept c (swAbove a0 a1) := by
  delta swAbove
  repeat' first | (intro v; subst v) | lift_lets | with_reducible assumption | with_reducible (apply latch_setQ)

theorem latch_discardFrames (a0 : ℕ) (a1 : ℕ) (a2 : ℕ → QFrame → Bool) (a3 : State) (h0 : Kept c a3) : Kept c (discardFrames a0 a1 a2 a3) := by
  delta discardFrames
  repeat' first | lift_lets | with_reducible assumption | with_reducible (apply latch_setQ) | with_reducible (apply latch_withPause) | with_reducible (apply latch_swAbove) | with_reducible (apply latch_bumpBy) | with_reducible (apply kept_foldl) | dsimp only | intro _

theorem latch_shedPort (a0 : ℕ) (a1 : State) (h0 : Kept c a1) : Kept c (shedPort a0 a1) := by
  delta shedPort
  repeat' first | lift_lets | with_reducible assumption | with_reducible (apply latch_setPort) | with_reducible (apply latch_discardFrames)

theorem latch_shedChain (a0 : State) (a1 : ℕ) (h0 : Kept c a0) : Kept c (shedChain a0 a1) := by
  delta shedChain
  repeat' first | lift_lets | with_reducible assumption | with_reducible (apply latch_setChain) | split

theorem latch_settleTask (a0 : ℕ) (a1 : State) (h0 : Kept c a1) : Kept c (settleTask a0 a1) := by
  delta settleTask
  repeat' first | (intro v; subst v) | lift_lets | with_reducible assumption | simp only [kept_mk] | with_reducible refine kept_q ?_ | split

theorem latch_stopCore (a0 : ℕ) (a1 : State) (h0 : Kept c a1) : Kept c (stopCore a0 a1) := by
  delta stopCore
  repeat' first | (intro v; refine kept_in c v ?_ ?_ <;> [subst v; (clear_value v; intro _)]) | (intro v; subst v) | lift_lets | with_reducible assumption | with_reducible (apply latch_setCore) | with_reducible (apply latch_settleTask) | with_reducible (apply latch_coreSideReset) | split

theorem latch_gateCores (a0 : State) (h0 : Kept c a0) : Kept c (gateCores a0) := by
  delta gateCores
  repeat' first | lift_lets | with_reducible assumption | with_reducible (apply latch_setCore) | with_reducible (apply latch_stopCore) | with_reducible (apply kept_foldl) | intro _

theorem latch_shedLoad (a0 : State) (h0 : Kept c a0) : Kept c (shedLoad a0) := by
  delta shedLoad
  repeat' first | (intro v; refine kept_in c v ?_ ?_ <;> [subst v; (clear_value v; intro _)]) | (intro v; subst v) | lift_lets | with_reducible assumption | with_reducible (apply latch_shedPort) | with_reducible (apply latch_shedChain) | with_reducible (apply latch_gateCores) | with_reducible (apply kept_foldl) | simp only [kept_mk] | with_reducible refine kept_q ?_ | intro _

theorem latch_note (a0 : ℕ) (a1 : ℕ) (a2 : ℕ) (a3 : ℕ) (a4 : ℕ) (a5 : State) (h0 : Kept c a5) : Kept c (note a0 a1 a2 a3 a4 a5) := by
  delta note
  repeat' first | lift_lets | with_reducible assumption | with_reducible (apply latch_record)

theorem latch_culletRecords (a0 : List Hit) (a1 : State) (h0 : Kept c a1) : Kept c (culletRecords a0 a1) := by
  delta culletRecords
  repeat' first | lift_lets | with_reducible assumption | with_reducible (apply latch_note) | with_reducible (apply kept_foldl) | intro _ | split

theorem latch_cqSettle (a0 : ℕ) (a1 : State) (h0 : Kept c a1) : Kept c (cqSettle a0 a1) := by
  delta cqSettle
  repeat' first | lift_lets | with_reducible assumption | with_reducible (apply latch_setCq)

theorem latch_haltQueue (a0 : ℕ) (a1 : State) (h0 : Kept c a1) : Kept c (haltQueue a0 a1) := by
  delta haltQueue
  repeat' first | (intro v; refine kept_in c v ?_ ?_ <;> [subst v; (clear_value v; intro _)]) | (intro v; subst v) | lift_lets | with_reducible assumption | with_reducible (apply latch_setCq) | with_reducible (apply latch_cqSettle) | simp only [kept_mk] | with_reducible refine kept_q ?_

theorem latch_passOne (a0 : ℕ) (a1 : CmdEntry) (a2 : State) (h0 : Kept c a2) : Kept c (passOne a0 a1 a2) := by
  delta passOne
  repeat' first | (intro v; refine kept_in c v ?_ ?_ <;> [subst v; (clear_value v; intro _)]) | (intro v; subst v) | lift_lets | with_reducible assumption | with_reducible (apply latch_setCq) | simp only [kept_mk] | with_reducible refine kept_q ?_ | split

theorem latch_passGo (a0 : ℕ) (a1 : State) (h0 : Kept c a1) : Kept c (passGo a0 a1) := by
  induction a0 generalizing a1 with
  | zero => exact h0
  | succ n ih =>
    unfold passGo
    split
    · exact ih _ (latch_passOne _ _ _ h0)
    · exact h0

theorem latch_passEntries (a0 : State) (h0 : Kept c a0) : Kept c (passEntries a0) := by
  delta passEntries
  repeat' first | lift_lets | with_reducible assumption | with_reducible (apply latch_passGo)

theorem latch_coreStore (a0 : Nat) (a1 : Bytes) (a2 : State) (h0 : Kept c a2) : Kept c (coreStore a0 a1 a2) := by
  unfold coreStore
  split
  · exact ⟨h0.1, h0.2.1, fun h => cellsPut_wf _ _ (h0.2.2 h)⟩
  · exact h0

theorem latch_eqStore (a0 : ℕ) (a1 : Bytes) (a2 : State) (h0 : Kept c a2) : Kept c (eqStore a0 a1 a2) := by
  delta eqStore
  repeat' first | (intro v; subst v) | lift_lets | with_reducible assumption | with_reducible (apply latch_coreStore) | dsimp only | split

theorem latch_setEq (a0 : ℕ) (a1 : EvtQueue → EvtQueue) (a2 : State) (h0 : Kept c a2) : Kept c (setEq a0 a1 a2) := by
  delta setEq
  repeat' first | (intro v; subst v) | lift_lets | with_reducible assumption | simp only [kept_mk] | with_reducible refine kept_q ?_

theorem latch_eqAbove (a0 : ℕ) (a1 : State) (h0 : Kept c a1) : Kept c (eqAbove a0 a1) := by
  delta eqAbove
  repeat' first | (intro v; subst v) | lift_lets | with_reducible assumption | with_reducible (apply latch_setEq)

theorem latch_eqSignal (a0 : ℕ) (a1 : State) (h0 : Kept c a1) : Kept c (eqSignal a0 a1) := by
  delta eqSignal
  repeat' first | (intro v; refine kept_in c v ?_ ?_ <;> [subst v; (clear_value v; intro _)]) | (intro v; subst v) | lift_lets | with_reducible assumption | with_reducible (apply latch_setEq) | simp only [kept_mk] | with_reducible refine kept_q ?_

theorem latch_eqPush (a0 : ℕ) (a1 : Bytes) (a2 : State) (h0 : Kept c a2) : Kept c (eqPush a0 a1 a2) := by
  delta eqPush
  repeat' first | (intro v; refine kept_in c v ?_ ?_ <;> [subst v; (clear_value v; intro _)]) | (intro v; subst v) | lift_lets | with_reducible assumption | with_reducible (apply latch_eqStore) | with_reducible (apply latch_setEq) | with_reducible (apply latch_withPause) | with_reducible (apply latch_eqAbove) | with_reducible (apply latch_bump) | with_reducible (apply latch_eqSignal) | split

theorem latch_culletPush (a0 : Bytes) (a1 : State) (h0 : Kept c a1) : Kept c (culletPush a0 a1) := by
  delta culletPush
  repeat' first | (intro v; refine kept_in c v ?_ ?_ <;> [subst v; (clear_value v; intro _)]) | lift_lets | with_reducible assumption | with_reducible (apply latch_eqPush) | with_reducible (apply latch_raise) | with_reducible (apply latch_bump) | split

theorem latch_culletGo (a0 : List Bytes) (a1 : State) (h0 : Kept c a1) : Kept c (culletGo a0 a1) := by
  induction a0 generalizing a1 with
  | nil => unfold culletGo; rw [kept_mk]; exact kept_q h0
  | cons e l ih =>
    unfold culletGo
    split
    · exact ih _ (latch_culletPush _ _ h0)
    · rw [kept_mk]; exact kept_q h0

theorem latch_postCullets (a0 : State) (h0 : Kept c a0) : Kept c (postCullets a0) := by
  delta postCullets
  repeat' first | lift_lets | with_reducible assumption | with_reducible (apply latch_culletGo)

theorem latch_discardHits (a0 : List Hit) (a1 : ℕ) (a2 : ℕ) (a3 : ℕ) (a4 : ℕ) (a5 : ℕ) (a6 : Bool) (a7 : State) (h0 : Kept c a7) : Kept c (discardHits a0 a1 a2 a3 a4 a5 a6 a7) := by
  delta discardHits
  repeat' first | (intro v; refine kept_in c v ?_ ?_ <;> [subst v; (clear_value v; intro _)]) | (intro v; subst v) | lift_lets | with_reducible assumption | with_reducible (apply latch_culletRecords) | with_reducible (apply latch_haltQueue) | with_reducible (apply latch_passEntries) | with_reducible (apply latch_postCullets) | with_reducible (apply kept_foldl) | simp only [kept_mk] | with_reducible refine kept_q ?_ | intro _ | split

theorem latch_discard (a0 : List ℕ) (a1 : ℕ) (a2 : ℕ) (a3 : ℕ) (a4 : ℕ) (a5 : ℕ) (a6 : Bool) (a7 : State) (h0 : Kept c a7) : Kept c (discard a0 a1 a2 a3 a4 a5 a6 a7) := by
  delta discard
  repeat' first | lift_lets | with_reducible assumption | with_reducible (apply latch_discardHits)

theorem latch_stopPlanners (a0 : State) (h0 : Kept c a0) : Kept c (stopPlanners a0) := by
  delta stopPlanners
  repeat' first | (intro v; subst v) | lift_lets | with_reducible assumption | simp only [kept_mk] | with_reducible refine kept_q ?_

theorem latch_checkpointAll (a0 : State) (h0 : Kept c a0) : Kept c (checkpointAll a0) := by
  delta checkpointAll
  repeat' first | lift_lets | with_reducible assumption | with_reducible (apply latch_mapAs)

theorem latch_enterMode (a0 : Mode) (a1 : ModeCause) (a2 : State) (h0 : Kept c a2) : Kept c (enterMode a0 a1 a2) := by
  delta enterMode
  repeat' first | (intro v; refine kept_in c v ?_ ?_ <;> [subst v; (clear_value v; intro _)]) | (intro v; subst v) | lift_lets | with_reducible assumption | with_reducible (apply latch_armAnneal) | with_reducible (apply latch_shedLoad) | with_reducible (apply latch_discard) | with_reducible (apply latch_stopPlanners) | with_reducible (apply latch_checkpointAll) | simp only [kept_mk, keptQ_mk] | with_reducible refine kept_q ?_ | with_reducible refine kept_v ?_ | split

theorem latch_mbPush (a0 : ℕ) (a1 : Bool) (a2 : Word) (a3 : Bool) (a4 : State) (h0 : Kept c a4) : Kept c (mbPush a0 a1 a2 a3 a4) := by
  delta mbPush
  repeat' first | (intro v; refine kept_in c v ?_ ?_ <;> [subst v; (clear_value v; intro _)]) | (intro v; subst v) | lift_lets | with_reducible assumption | with_reducible (apply latch_setMb) | with_reducible (apply latch_bump) | split

theorem latch_wardenAnswer (a0 : ℕ) (a1 : ℕ) (a2 : ℕ) (a3 : List ℕ) (a4 : State) (h0 : Kept c a4) : Kept c (wardenAnswer a0 a1 a2 a3 a4) := by
  delta wardenAnswer
  repeat' first | (intro v; refine kept_in c v ?_ ?_ <;> [subst v; (clear_value v; intro _)]) | lift_lets | with_reducible assumption | with_reducible (apply latch_mbPush) | with_reducible (apply kept_foldl) | intro _

theorem latch_endRequest (a0 : Option (BitVec 8)) (a1 : ReqResult) (a2 : State) (h0 : Kept c a2) : Kept c (endRequest a0 a1 a2) := by
  delta endRequest
  repeat' first | (intro v; refine kept_in c v ?_ ?_ <;> [subst v; (clear_value v; intro _)]) | (intro v; subst v) | lift_lets | with_reducible assumption | with_reducible (apply latch_raise) | with_reducible (apply latch_wardenAnswer) | simp only [kept_mk] | with_reducible refine kept_q ?_ | split

theorem latch_finishRequest (a0 : ReqResult) (a1 : State) (h0 : Kept c a1) : Kept c (finishRequest a0 a1) := by
  delta finishRequest
  repeat' first | lift_lets | with_reducible assumption | with_reducible (apply latch_endRequest) | split

theorem latch_endStale (a0 : Mode) (a1 : State) (h0 : Kept c a1) : Kept c (endStale a0 a1) := by
  delta endStale
  repeat' first | (intro v; refine kept_in c v ?_ ?_ <;> [subst v; (clear_value v; intro _)]) | (intro v; subst v) | lift_lets | with_reducible assumption | with_reducible (apply latch_finishRequest) | simp only [kept_mk] | with_reducible refine kept_q ?_ | split

theorem latch_setDom (a0 : Bool) (a1 : Domain) (a2 : State) (h0 : Kept c a2) : Kept c (setDom a0 a1 a2) := by
  delta setDom
  repeat' first | (intro v; subst v) | lift_lets | with_reducible assumption | simp only [kept_mk] | with_reducible refine kept_q ?_ | split

theorem latch_dropSource (a0 : Bool) (a1 : State) (h0 : Kept c a1) : Kept c (dropSource a0 a1) := by
  delta dropSource
  repeat' first | (intro v; subst v) | lift_lets | with_reducible assumption | with_reducible (apply latch_raise) | with_reducible (apply latch_setDom)

theorem latch_selectDom (a0 : Bool) (a1 : State) (h0 : Kept c a1) : Kept c (selectDom a0 a1) := by
  delta selectDom
  repeat' first | (intro v; subst v) | lift_lets | with_reducible assumption | with_reducible (apply latch_raise) | simp only [kept_mk] | with_reducible refine kept_q ?_

theorem latch_loseSources (a0 : List Bool) (a1 : State) (h0 : Kept c a1) : Kept c (loseSources a0 a1) := by
  delta loseSources
  repeat' first | (intro v; refine kept_in c v ?_ ?_ <;> [subst v; (clear_value v; intro _)]) | (intro v; subst v) | lift_lets | with_reducible assumption | with_reducible (apply latch_dropSource) | with_reducible (apply latch_selectDom) | with_reducible (apply kept_foldl) | intro _ | split

theorem latch_changeSources (a0 : Mode) (a1 : Mode) (a2 : State) (h0 : Kept c a2) : Kept c (changeSources a0 a1 a2) := by
  delta changeSources
  repeat' first | lift_lets | with_reducible assumption | with_reducible (apply latch_loseSources) | split

theorem latch_toMode (a0 : Mode) (a1 : ModeCause) (a2 : ℕ) (a3 : State) (h0 : Kept c a3) : Kept c (toMode a0 a1 a2 a3) := by
  delta toMode
  repeat' first | (intro v; refine kept_in c v ?_ ?_ <;> [subst v; (clear_value v; intro _)]) | (intro v; subst v) | lift_lets | with_reducible assumption | with_reducible (apply latch_leaveMode) | with_reducible (apply latch_record) | with_reducible (apply latch_raise) | with_reducible (apply latch_driveOutputs) | with_reducible (apply latch_enterMode) | with_reducible (apply latch_endStale) | with_reducible (apply latch_changeSources) | simp only [kept_mk] | with_reducible refine kept_q ?_

theorem latch_ageAction (a0 : State) (h0 : Kept c a0) : Kept c (ageAction a0) := by
  delta ageAction
  repeat' first | (intro v; refine kept_in c v ?_ ?_ <;> [subst v; (clear_value v; intro _)]) | (intro v; subst v) | lift_lets | with_reducible assumption | with_reducible (apply latch_wardenPulse) | with_reducible (apply latch_toMode) | simp only [kept_mk] | with_reducible refine kept_q ?_ | split

theorem latch_alignAon (a0 : State) (h0 : Kept c a0) : Kept c (alignAon a0) := by
  delta alignAon
  repeat' first | (intro v; subst v) | lift_lets | with_reducible assumption | simp only [kept_mk] | with_reducible refine kept_q ?_

theorem latch_burstSwitch (a0 : State) (h0 : Kept c a0) : Kept c (burstSwitch a0) := by
  delta burstSwitch
  repeat' first | (intro v; refine kept_in c v ?_ ?_ <;> [subst v; (clear_value v; intro _)]) | (intro v; subst v) | lift_lets | with_reducible assumption | simp only [kept_mk] | with_reducible refine kept_q ?_ | split

theorem latch_assignOne (a0 : ℕ × ℕ) (a1 : State) (h0 : Kept c a1) : Kept c (assignOne a0 a1) := by
  delta assignOne
  repeat' first | (intro v; subst v) | lift_lets | with_reducible assumption | simp only [kept_mk] | with_reducible refine kept_q ?_ | split

theorem latch_allocate (a0 : Option (List SkySat)) (a1 : State) (h0 : Kept c a1) : Kept c (allocate a0 a1) := by
  delta allocate
  repeat' first | (intro v; refine kept_in c v ?_ ?_ <;> [subst v; (clear_value v; intro _)]) | (intro v; subst v) | lift_lets | with_reducible assumption | with_reducible (apply latch_assignOne) | with_reducible (apply kept_foldl) | simp only [kept_mk] | with_reducible refine kept_q ?_ | intro _

theorem latch_wholeSecond (a0 : Option SkyView) (a1 : State) (h0 : Kept c a1) : Kept c (wholeSecond a0 a1) := by
  delta wholeSecond
  repeat' first | (intro v; subst v) | lift_lets | with_reducible assumption | with_reducible (apply latch_burstSwitch) | with_reducible (apply latch_allocate) | simp only [kept_mk] | with_reducible refine kept_q ?_

theorem latch_allocDue (a0 : State) (h0 : Kept c a0) : Kept c (allocDue a0) := by
  delta allocDue
  repeat' first | lift_lets | with_reducible assumption | with_reducible (apply latch_wholeSecond) | split

theorem latch_allocateAt (a0 : Option SkyView) (a1 : ℕ) (a2 : State) (h0 : Kept c a2) : Kept c (allocateAt a0 a1 a2) := by
  delta allocateAt
  repeat' first | (intro v; refine kept_in c v ?_ ?_ <;> [subst v; (clear_value v; intro _)]) | (intro v; refine kept_in c (Prod.snd v) ?_ ?_ <;> [subst v; (clear_value v; intro _)]) | (intro v; subst v) | lift_lets | with_reducible assumption | with_reducible (apply latch_wholeSecond) | with_reducible (apply kept_foldl) | with_reducible (apply kept_foldl2) | with_reducible (apply kept_foldl1) | simp only [kept_mk] | with_reducible refine kept_q ?_ | with_reducible refine kept_v ?_ | refine kept_snd ‹_ = (_, _)› ?_ | intro _ | split

theorem latch_gridIn (a0 : State) (a1 : Bool) (a2 : State → GridEnd × State) (h0 : Kept c a0) (h1 : ∀ (b0 : State), Kept c b0 → Kept c (a2 b0).2) : Kept c (gridIn a0 a1 a2).2 := by
  delta gridIn
  repeat' first | lift_lets | with_reducible assumption | with_reducible (apply h1) | split

theorem latch_refuse (a0 : State) (a1 : GridResult) (h0 : Kept c a0) : Kept c (refuse a0 a1).2 := by
  delta refuse
  repeat' first | with_reducible assumption

theorem latch_runItems (a0 : List BatchItem) (a1 : State) (h0 : Kept c a1) : ∀ t, runItems a0 a1 = some t → Kept c t := by
  induction a0 generalizing a1 with
  | nil => intro t h; cases h; exact h0
  | cons b l ih =>
    intro t h
    cases b with
    | write n e =>
      simp only [runItems] at h
      split at h
      · split at h
        · exact ih _ (latch_writeEntry _ _ _ h0 _ ‹_›) t h
        · cases h
      · cases h
    | delete n k =>
      simp only [runItems] at h
      split at h
      · exact ih _ (latch_deleteWritten _ _ _ h0) t h
      · exact ih _ h0 t h

theorem latch_runBatch (a0 : List BatchItem) (a1 : State) (h0 : Kept c a1) : ∀ t, runBatch a0 a1 = some t → Kept c t := by
  intro t h
  unfold runBatch at h
  split at h
  · cases h
  · exact latch_runItems _ _ h0 t h

theorem latch_commitCells (a0 : ResvInterval) (a1 : List Cell) (a2 : State) (h0 : Kept c a2) :
    ∀ t, commitCells a0 a1 a2 = some t → Kept c t := by
  intro t h
  unfold commitCells at h
  split at h
  · cases h
  · exact latch_runBatch _ _ h0 t h

theorem latch_resvTableFull (a0 : State) (h0 : Kept c a0) : Kept c (resvTableFull a0) := by
  delta resvTableFull
  repeat' first | lift_lets | with_reducible assumption | with_reducible (apply latch_tableFull) | split

theorem latch_allotSweep (a0 : GridCmd) (a1 : List Vertex) (a2 : State) (h0 : Kept c a2) : Kept c (allotSweep a0 a1 a2).2 := by
  delta allotSweep
  repeat' first | (intro v; subst v) | lift_lets | with_reducible assumption | with_reducible (refine latch_commitCells _ _ _ ?_ _ ‹_›) | with_reducible (apply latch_resvTableFull) | with_reducible (apply latch_bumpBy) | simp only [kept_mk] | with_reducible refine kept_q ?_ | split

theorem latch_reportAllot (a0 : GridEnd) (a1 : ℕ) (a2 : State) (h0 : Kept c a2) : Kept c (reportAllot a0 a1 a2) := by
  delta reportAllot
  repeat' first | (intro v; subst v) | lift_lets | with_reducible assumption | with_reducible (apply latch_drawn) | simp only [kept_mk] | with_reducible refine kept_q ?_

theorem latch_bumpGrid (a0 : ℕ) (a1 : State) (h0 : Kept c a1) : Kept c (bumpGrid a0 a1) := by
  delta bumpGrid
  repeat' first | lift_lets | with_reducible assumption | with_reducible (apply latch_bump)

theorem latch_allot (a0 : GridCmd) (a1 : State) (h0 : Kept c a1) : Kept c (allot a0 a1).2 := by
  delta allot
  repeat' first | (intro v; refine kept_in c (Prod.snd v) ?_ ?_ <;> [subst v; (clear_value v; intro _)]) | lift_lets | with_reducible assumption | with_reducible (apply latch_gridIn) | with_reducible (apply latch_refuse) | with_reducible (apply latch_allotSweep) | with_reducible (apply latch_reportAllot) | with_reducible (apply latch_bumpGrid) | intro _ | split

theorem latch_annealDoneTick (a0 : State) (h0 : Kept c a0) : Kept c (annealDoneTick a0) := by
  delta annealDoneTick
  repeat' first | (intro v; subst v) | lift_lets | with_reducible assumption | with_reducible (apply latch_driveOutputs) | simp only [kept_mk] | with_reducible refine kept_q ?_ | split

theorem latch_chargeOne (a0 : ℕ) (a1 : Option ℕ) (a2 : ℕ) (a3 : State) (h0 : Kept c a3) : Kept c (chargeOne a0 a1 a2 a3) := by
  delta chargeOne
  repeat' first | (intro v; subst v) | lift_lets | with_reducible assumption | simp only [kept_mk] | with_reducible refine kept_q ?_

theorem latch_charge (a0 : ℕ) (a1 : ℕ) (a2 : ℕ) (a3 : State) (h0 : Kept c a3) : Kept c (charge a0 a1 a2 a3) := by
  delta charge
  repeat' first | (intro v; refine kept_in c v ?_ ?_ <;> [subst v; (clear_value v; intro _)]) | lift_lets | with_reducible assumption | with_reducible (apply latch_chargeOne) | split

theorem latch_emit (a0 : ℕ) (a1 : FrameType) (a2 : ℕ) (a3 : ℕ) (a4 : Bytes) (a5 : Bytes) (a6 : State) (h0 : Kept c a6) : Kept c (emit a0 a1 a2 a3 a4 a5 a6) := by
  delta emit
  repeat' first | (intro v; refine kept_in c v ?_ ?_ <;> [subst v; (clear_value v; intro _)]) | (intro v; subst v) | lift_lets | with_reducible assumption | with_reducible (apply latch_charge) | with_reducible (apply latch_setChain) | with_reducible (apply latch_bumpChain) | simp only [kept_mk] | with_reducible refine kept_q ?_ | split

theorem latch_ledgerRefuse (a0 : ℕ) (a1 : State) (h0 : Kept c a1) : Kept c (ledgerRefuse a0 a1) := by
  delta ledgerRefuse
  repeat' first | (intro v; refine kept_in c v ?_ ?_ <;> [subst v; (clear_value v; intro _)]) | (intro v; subst v) | lift_lets | with_reducible assumption | with_reducible (apply latch_bump) | with_reducible (apply latch_raise) | with_reducible (apply latch_bumpChain) | split

theorem latch_transmit (a0 : ℕ) (a1 : FrameType) (a2 : ℕ) (a3 : ℕ) (a4 : Bytes) (a5 : State) (h0 : Kept c a5) : Kept c (transmit a0 a1 a2 a3 a4 a5).2 := by
  delta transmit
  repeat' first | lift_lets | with_reducible assumption | with_reducible (apply latch_keyFault) | with_reducible (apply latch_emit) | with_reducible (apply latch_ledgerRefuse) | split

theorem latch_answer (a0 : Heard) (a1 : FrameType) (a2 : Bytes) (a3 : State) (h0 : Kept c a3) : Kept c (answer a0 a1 a2 a3).2 := by
  delta answer
  repeat' first | (intro v; subst v) | lift_lets | with_reducible assumption | with_reducible (apply latch_transmit) | with_reducible (apply latch_setChain) | with_reducible (apply latch_advanceTo) | split

theorem latch_setNode (a0 : ℕ) (a1 : Node → Node) (a2 : State) (h0 : Kept c a2) : Kept c (setNode a0 a1 a2) := by
  delta setNode
  repeat' first | (intro v; subst v) | lift_lets | with_reducible assumption | simp only [kept_mk] | with_reducible refine kept_q ?_

theorem latch_sendAck (a0 : Heard) (a1 : ℕ) (a2 : ℕ) (a3 : State) (h0 : Kept c a3) : Kept c (sendAck a0 a1 a2 a3).2 := by
  delta sendAck
  repeat' first | (intro v; subst v) | lift_lets | with_reducible assumption | with_reducible (apply latch_answer)

theorem latch_answerPoll (a0 : Heard) (a1 : ℕ) (a2 : Node) (a3 : State) (h0 : Kept c a3) : Kept c (answerPoll a0 a1 a2 a3) := by
  delta answerPoll
  repeat' first | (intro v; refine kept_in c (Prod.snd v) ?_ ?_ <;> [subst v; (clear_value v; intro _)]) | (intro v; subst v) | lift_lets | with_reducible assumption | with_reducible (apply latch_answer) | with_reducible (apply latch_setNode) | with_reducible (apply latch_sendAck) | dsimp only | split

theorem latch_antCoast (a0 : Bool) (a1 : State) (h0 : Kept c a1) : Kept c (antCoast a0 a1) := by
  delta antCoast
  repeat' first | (intro v; subst v) | lift_lets | with_reducible assumption | simp only [kept_mk] | with_reducible refine kept_q ?_

theorem latch_setAnt (a0 : Bool) (a1 : Antenna) (a2 : State) (h0 : Kept c a2) : Kept c (setAnt a0 a1 a2) := by
  delta setAnt
  repeat' first | (intro v; subst v) | lift_lets | with_reducible assumption | simp only [kept_mk] | with_reducible refine kept_q ?_ | split

theorem latch_antTo (a0 : Bool) (a1 : AntState) (a2 : State) (h0 : Kept c a2) : Kept c (antTo a0 a1 a2) := by
  delta antTo
  repeat' first | (intro v; refine kept_in c v ?_ ?_ <;> [subst v; (clear_value v; intro _)]) | (intro v; subst v) | lift_lets | with_reducible assumption | with_reducible (apply latch_note) | with_reducible (apply latch_setAnt) | with_reducible (apply latch_antCoast) | with_reducible (apply latch_raise) | split

theorem latch_antSample (a0 : Bool) (a1 : ℕ) (a2 : State) (h0 : Kept c a2) : Kept c (antSample a0 a1 a2) := by
  delta antSample
  repeat' first | (intro v; refine kept_in c v ?_ ?_ <;> [subst v; (clear_value v; intro _)]) | (intro v; subst v) | lift_lets | with_reducible assumption | with_reducible (apply latch_antTo) | with_reducible (apply latch_setAnt) | with_reducible (apply latch_raise) | dsimp only | split

theorem latch_resetRecord (a0 : Mode) (a1 : State) (h0 : Kept c a1) : Kept c (resetRecord a0 a1) := by
  delta resetRecord
  repeat' first | lift_lets | with_reducible assumption | with_reducible (apply latch_note)

theorem latch_modeReset (a0 : State) (h0 : Kept c a0) : Kept c (modeReset a0) := by
  delta modeReset
  repeat' first | (intro v; refine kept_in c v ?_ ?_ <;> [subst v; (clear_value v; intro _)]) | (intro v; subst v) | lift_lets | with_reducible assumption | with_reducible (apply latch_note) | with_reducible (apply latch_raise) | simp only [kept_mk] | with_reducible refine kept_q ?_ | split

theorem latch_setCause (a0 : ℕ) (a1 : State) (h0 : Kept c a1) : Kept c (setCause a0 a1) := by
  delta setCause
  repeat' first | lift_lets | with_reducible assumption | with_reducible (apply latch_orReg)

theorem latch_mainWiped (a0 : State) (h0 : Kept c a0) : Kept c (mainWiped a0) := by
  delta mainWiped
  rw [kept_mk, keptQ_mk]
  have k := keptV_map (f := QChannel.afterReset) (fun _ => rfl) h0
  exact ⟨k.1, k.2.1, fun _ => rfl⟩

theorem latch_mainReset (a0 : ℕ) (a1 : State) (h0 : Kept c a1) : Kept c (mainReset a0 a1) := by
  delta mainReset
  repeat' first | lift_lets | with_reducible assumption | with_reducible (apply latch_driveOutputs) | with_reducible (apply latch_resetRecord) | with_reducible (apply latch_modeReset) | with_reducible (apply latch_setCause) | with_reducible (apply latch_mainWiped)

theorem latch_wakeUp (a0 : WakeSrc) (a1 : State) (h0 : Kept c a1) : Kept c (wakeUp a0 a1) := by
  delta wakeUp
  repeat' first | (intro v; refine kept_in c v ?_ ?_ <;> [subst v; (clear_value v; intro _)]) | (intro v; subst v) | lift_lets | with_reducible assumption | with_reducible (apply latch_record) | with_reducible (apply latch_mainReset) | simp only [kept_mk] | with_reducible refine kept_q ?_

theorem latch_aonSecond (a0 : State) (h0 : Kept c a0) : Kept c (aonSecond a0) := by
  delta aonSecond
  repeat' first | (intro v; subst v) | lift_lets | with_reducible assumption | with_reducible (apply latch_advance) | with_reducible (apply latch_wakeUp) | simp only [kept_mk] | with_reducible refine kept_q ?_ | split

theorem latch_reformDone (a0 : Load) (a1 : ImageHeader) (a2 : State) (h0 : Kept c a2) : Kept c (reformDone a0 a1 a2) := by
  delta reformDone
  repeat' first | (intro v; refine kept_in c v ?_ ?_ <;> [subst v; (clear_value v; intro _)]) | (intro v; subst v) | lift_lets | with_reducible assumption | with_reducible (apply latch_afterApply) | with_reducible (apply latch_note) | simp only [kept_mk] | with_reducible refine kept_q ?_

theorem latch_waitHost (a0 : State) (h0 : Kept c a0) : Kept c (waitHost a0) := by
  delta waitHost
  repeat' first | (intro v; subst v) | lift_lets | with_reducible assumption | simp only [kept_mk] | with_reducible refine kept_q ?_

theorem latch_attemptFailed (a0 : ℕ) (a1 : LoadErr) (a2 : Bool) (a3 : State) (h0 : Kept c a3) : Kept c (attemptFailed a0 a1 a2 a3) := by
  delta attemptFailed
  repeat' first | (intro v; refine kept_in c v ?_ ?_ <;> [subst v; (clear_value v; intro _)]) | (intro v; subst v) | lift_lets | with_reducible assumption | with_reducible (apply latch_note) | simp only [kept_mk] | with_reducible refine kept_q ?_ | split

theorem latch_beginLoad (a0 : Load) (a1 : State) (h0 : Kept c a1) : Kept c (beginLoad a0 a1) := by
  delta beginLoad
  repeat' first | (intro v; subst v) | lift_lets | with_reducible assumption | with_reducible (apply latch_toMode) | simp only [kept_mk] | with_reducible refine kept_q ?_ | split

theorem latch_bootGo (a0 : Bool) (a1 : List ℕ) (a2 : State) (h0 : Kept c a2) : Kept c (bootGo a0 a1 a2) := by
  induction a1 generalizing a2 with
  | nil => exact latch_waitHost _ h0
  | cons p l ih =>
    unfold bootGo
    split
    · exact latch_waitHost _ h0
    · split
      · refine ih _ (latch_attemptFailed _ _ _ _ (latch_failNow _ _ _ _ ?_))
        rw [kept_mk]; exact kept_q h0
      · rw [kept_mk]; exact kept_q (latch_beginLoad _ _ h0)

theorem latch_bootStart (a0 : Bool) (a1 : State) (h0 : Kept c a1) : Kept c (bootStart a0 a1) := by
  delta bootStart
  repeat' first | (intro v; subst v) | lift_lets | with_reducible assumption | with_reducible (apply latch_bootGo) | simp only [kept_mk] | with_reducible refine kept_q ?_

theorem latch_nextAttempt (a0 : Load) (a1 : LoadErr) (a2 : State) (h0 : Kept c a2) : Kept c (nextAttempt a0 a1 a2) := by
  delta nextAttempt
  repeat' first | (intro v; subst v) | lift_lets | with_reducible assumption | with_reducible (apply latch_attemptFailed) | with_reducible (apply latch_bootGo) | dsimp only | split

theorem latch_bootAgain (a0 : Load) (a1 : State) (h0 : Kept c a1) : Kept c (bootAgain a0 a1) := by
  delta bootAgain
  repeat' first | lift_lets | with_reducible assumption | with_reducible (apply latch_bootStart) | with_reducible (apply latch_attemptFailed) | with_reducible (apply latch_nextAttempt) | split

theorem latch_applyFails (a0 : Load) (a1 : State) (h0 : Kept c a1) : Kept c (applyFails a0 a1) := by
  delta applyFails
  repeat' first | (intro v; refine kept_in c v ?_ ?_ <;> [subst v; (clear_value v; intro _)]) | (intro v; subst v) | lift_lets | with_reducible assumption | with_reducible (apply latch_failNow) | with_reducible (apply latch_toMode) | with_reducible (apply latch_bootAgain) | simp only [kept_mk] | with_reducible refine kept_q ?_

theorem latch_linkStart (a0 : State) (h0 : Kept c a0) : Kept c (linkStart a0) := by
  delta linkStart
  repeat' first | (intro v; subst v) | lift_lets | with_reducible assumption | simp only [kept_mk] | with_reducible refine kept_q ?_ | split

theorem latch_refTo (a0 : RefState) (a1 : RefSrc) (a2 : State) (h0 : Kept c a2) : Kept c (refTo a0 a1 a2) := by
  delta refTo
  repeat' first | (intro v; subst v) | lift_lets | with_reducible assumption | with_reducible (apply latch_note) | simp only [kept_mk] | with_reducible refine kept_q ?_

theorem latch_confirmStart (a0 : Ecef) (a1 : RefSrc) (a2 : State) (h0 : Kept c a2) : Kept c (confirmStart a0 a1 a2) := by
  delta confirmStart
  repeat' first | (intro v; subst v) | lift_lets | with_reducible assumption | with_reducible (apply latch_refTo) | simp only [kept_mk] | with_reducible refine kept_q ?_

theorem latch_autoConfirm (a0 : State) (h0 : Kept c a0) : Kept c (autoConfirm a0) := by
  delta autoConfirm
  repeat' first | lift_lets | with_reducible assumption | with_reducible (apply latch_confirmStart) | split

theorem latch_gridStart (a0 : State) (h0 : Kept c a0) : Kept c (gridStart a0) := by
  delta gridStart
  repeat' first | (intro v; subst v) | lift_lets | with_reducible assumption | simp only [kept_mk] | with_reducible refine kept_q ?_

theorem latch_engineStart (a0 : State) (h0 : Kept c a0) : Kept c (engineStart a0) := by
  delta engineStart
  repeat' first | (intro v; refine kept_in c v ?_ ?_ <;> [subst v; (clear_value v; intro _)]) | (intro v; subst v) | lift_lets | with_reducible assumption | with_reducible (apply latch_mapAs) | simp only [kept_mk] | with_reducible refine kept_q ?_

theorem latch_startBlocks (a0 : State) (h0 : Kept c a0) : Kept c (startBlocks a0) := by
  delta startBlocks
  repeat' first | lift_lets | with_reducible assumption | with_reducible (apply latch_linkStart) | with_reducible (apply latch_autoConfirm) | with_reducible (apply latch_gridStart) | with_reducible (apply latch_mapAs) | with_reducible (apply latch_engineStart)

theorem latch_formReport (a0 : Load) (a1 : ImageHeader) (a2 : State) (h0 : Kept c a2) : Kept c (formReport a0 a1 a2) := by
  delta formReport
  repeat' first | (intro v; subst v) | lift_lets | with_reducible assumption | simp only [kept_mk] | with_reducible refine kept_q ?_

theorem latch_closeGates (a0 : State) (h0 : Kept c a0) : Kept c (closeGates a0) := by
  delta closeGates
  repeat' first | (intro v; refine kept_in c v ?_ ?_ <;> [subst v; (clear_value v; intro _)]) | (intro v; subst v) | lift_lets | with_reducible assumption | with_reducible (apply latch_setChain) | with_reducible (apply kept_foldl) | simp only [kept_mk] | with_reducible refine kept_q ?_ | intro _

theorem latch_dropClaimFrames (a0 : State) (h0 : Kept c a0) : Kept c (dropClaimFrames a0).2 := by
  delta dropClaimFrames
  repeat' first | (intro v; refine kept_in c v ?_ ?_ <;> [subst v; (clear_value v; intro _)]) | (intro v; subst v) | lift_lets | with_reducible assumption | with_reducible (apply latch_discardFrames) | with_reducible (apply latch_raise) | with_reducible (apply kept_foldl) | dsimp only | intro _ | split

theorem latch_dropClaim (a0 : State) (h0 : Kept c a0) : Kept c (dropClaim a0) := by
  delta dropClaim
  repeat' first | (intro v; refine kept_in c v ?_ ?_ <;> [subst v; (clear_value v; intro _)]) | (intro v; refine kept_in c (Prod.snd v) ?_ ?_ <;> [subst v; (clear_value v; intro _)]) | (intro v; subst v) | lift_lets | with_reducible assumption | with_reducible (apply latch_closeGates) | with_reducible (apply latch_dropClaimFrames) | with_reducible (apply latch_driveOutputs) | with_reducible (apply latch_discard) | simp only [kept_mk] | with_reducible refine kept_q ?_ | split

theorem latch_raiseClaim (a0 : State) (h0 : Kept c a0) : Kept c (raiseClaim a0) := by
  delta raiseClaim
  repeat' first | (intro v; subst v) | lift_lets | with_reducible assumption | with_reducible (apply latch_driveOutputs) | simp only [kept_mk] | with_reducible refine kept_q ?_ | split

theorem latch_claimAfter (a0 : State) (h0 : Kept c a0) : Kept c (claimAfter a0) := by
  delta claimAfter
  repeat' first | lift_lets | with_reducible assumption | with_reducible (apply latch_dropClaim) | with_reducible (apply latch_raiseClaim) | split

theorem latch_formDone (a0 : Load) (a1 : ImageHeader) (a2 : State) (h0 : Kept c a2) : Kept c (formDone a0 a1 a2) := by
  delta formDone
  repeat' first | (intro v; refine kept_in c v ?_ ?_ <;> [subst v; (clear_value v; intro _)]) | (intro v; subst v) | lift_lets | with_reducible assumption | with_reducible (apply latch_startBlocks) | with_reducible (apply latch_formReport) | with_reducible (apply latch_note) | with_reducible (apply latch_afterApply) | with_reducible (apply latch_claimAfter) | with_reducible (apply latch_toMode) | simp only [kept_mk] | with_reducible refine kept_q ?_

theorem latch_applicationDone (a0 : State) (h0 : Kept c a0) : Kept c (applicationDone a0) := by
  delta applicationDone
  repeat' first | lift_lets | with_reducible assumption | with_reducible (apply latch_reformDone) | with_reducible (apply latch_applyFails) | with_reducible (apply latch_formDone) | split

theorem latch_applyAssay (a0 : List (ℕ × MirAssay)) (a1 : State) (h0 : Kept c a1) : Kept c (applyAssay a0 a1) := by
  delta applyAssay
  repeat' first | lift_lets | with_reducible assumption | with_reducible (apply kept_foldl) | simp only [kept_mk] | with_reducible refine kept_q ?_ | intro _

theorem latch_applyCorr (a0 : List (ℕ × ℕ)) (a1 : State) (h0 : Kept c a1) : Kept c (applyCorr a0 a1) := by
  delta applyCorr
  repeat' first | lift_lets | with_reducible assumption | with_reducible (apply latch_setChain) | with_reducible (apply kept_foldl) | intro _ | split

theorem latch_clearDispatch (a0 : State) (h0 : Kept c a0) : Kept c (clearDispatch a0) := by
  delta clearDispatch
  repeat' first | (intro v; refine kept_in c v ?_ ?_ <;> [subst v; (clear_value v; intro _)]) | (intro v; subst v) | lift_lets | with_reducible assumption | with_reducible (apply latch_setCore) | with_reducible (apply latch_stopCore) | with_reducible (apply kept_foldl) | simp only [kept_mk] | with_reducible refine kept_q ?_ | intro _

theorem latch_formDispatch (a0 : List Gather) (a1 : State) (h0 : Kept c a1) : Kept c (formDispatch a0 a1) := by
  delta formDispatch
  repeat' first | (intro v; refine kept_in c v ?_ ?_ <;> [subst v; (clear_value v; intro _)]) | (intro v; subst v) | lift_lets | with_reducible assumption | with_reducible (apply latch_clearDispatch) | simp only [kept_mk] | with_reducible refine kept_q ?_

theorem latch_formQueues (a0 : State) (h0 : Kept c a0) : Kept c (formQueues a0) := by
  delta formQueues
  repeat' first | (intro v; subst v) | lift_lets | with_reducible assumption | simp only [kept_mk] | with_reducible refine kept_q ?_

theorem latch_formLode (a0 : List Gather) (a1 : State) (h0 : Kept c a1) : Kept c (formLode a0 a1) := by
  delta formLode
  repeat' first | (intro v; subst v) | lift_lets | with_reducible assumption | simp only [kept_mk] | with_reducible refine kept_q ?_

theorem latch_formSwitch (a0 : List Gather) (a1 : State) (h0 : Kept c a1) : Kept c (formSwitch a0 a1) := by
  delta formSwitch
  repeat' first | lift_lets | with_reducible assumption | simp only [kept_mk] | with_reducible refine kept_q ?_

theorem latch_formCounts (a0 : State) (h0 : Kept c a0) : Kept c (formCounts a0) := by
  delta formCounts
  repeat' first | (intro v; subst v) | lift_lets | with_reducible assumption | simp only [kept_mk, keptQ_mk] | with_reducible refine kept_v ?_

theorem latch_resetBlocks (a0 : State) (h0 : Kept c a0) : Kept c (resetBlocks a0) := by
  delta resetBlocks
  repeat' first | (intro v; subst v) | lift_lets | with_reducible assumption | simp only [kept_mk] | with_reducible refine kept_q ?_

theorem latch_zoneTableFull (a0 : State) (h0 : Kept c a0) : Kept c (zoneTableFull a0) := by
  delta zoneTableFull
  repeat' first | lift_lets | with_reducible assumption | with_reducible (apply latch_tableFull) | split

theorem latch_putZones (a0 : List Zone) (a1 : State) (h0 : Kept c a1) : Kept c (putZones a0 a1) := by
  refine kept_foldl h0 fun s z hs => ?_
  split
  · exact latch_addZone _ _ hs _ ‹_›
  · exact latch_zoneTableFull _ hs

theorem latch_formGrid (a0 : List Gather) (a1 : State) (h0 : Kept c a1) : Kept c (formGrid a0 a1) := by
  delta formGrid
  repeat' first | lift_lets | with_reducible assumption | with_reducible (apply latch_putZones) | simp only [kept_mk] | with_reducible refine kept_q ?_

theorem latch_setRegFld (a0 : ℕ) (a1 : ℕ) (a2 : ℕ) (a3 : ℕ) (a4 : State) (h0 : Kept c a4) : Kept c (setRegFld a0 a1 a2 a3 a4) := by
  delta setRegFld
  repeat' first | (intro v; subst v) | lift_lets | with_reducible assumption | with_reducible (apply latch_setReg)

theorem latch_rtkRegs (a0 : List Gather) (a1 : State) (h0 : Kept c a1) : Kept c (rtkRegs a0 a1) := by
  delta rtkRegs
  repeat' first | (intro v; subst v) | lift_lets | with_reducible assumption | with_reducible (apply latch_setRegFld)

theorem latch_formRtk (a0 : List Gather) (a1 : State) (h0 : Kept c a1) : Kept c (formRtk a0 a1) := by
  delta formRtk
  repeat' first | lift_lets | with_reducible assumption | with_reducible (apply latch_rtkRegs) | simp only [kept_mk] | with_reducible refine kept_q ?_

theorem latch_spoofRegs (a0 : List Gather) (a1 : State) (h0 : Kept c a1) : Kept c (spoofRegs a0 a1) := by
  delta spoofRegs
  repeat' first | (intro v; subst v) | lift_lets | with_reducible assumption | with_reducible (apply latch_setReg) | with_reducible (apply latch_setRegFld)

theorem latch_formGnss (a0 : List Gather) (a1 : State) (h0 : Kept c a1) : Kept c (formGnss a0 a1) := by
  delta formGnss
  repeat' first | (intro v; subst v) | lift_lets | with_reducible assumption | with_reducible (apply latch_spoofRegs) | simp only [kept_mk] | with_reducible refine kept_q ?_

theorem latch_timeLimits (a0 : ℕ × ℕ × ℕ × ℕ × ℕ) (a1 : State) (h0 : Kept c a1) : Kept c (timeLimits a0 a1) := by
  delta timeLimits
  repeat' first | (intro v; subst v) | lift_lets | with_reducible assumption | with_reducible (apply latch_setRegFld) | simp only [kept_mk] | with_reducible refine kept_q ?_

theorem latch_formTime (a0 : List Gather) (a1 : Bool) (a2 : State) (h0 : Kept c a2) : Kept c (formTime a0 a1 a2) := by
  delta formTime
  repeat' first | (intro v; subst v) | lift_lets | with_reducible assumption | with_reducible (apply latch_timeLimits) | simp only [kept_mk] | with_reducible refine kept_q ?_

theorem latch_recordInt (a0 : StEvent) (a1 : State) (h0 : Kept c a1) : Kept c (recordInt a0 a1) := by
  delta recordInt
  repeat' first | lift_lets | with_reducible assumption | with_reducible (apply latch_raise) | split

theorem latch_writeRecord (a0 : StEvent) (a1 : State) (h0 : Kept c a1) : Kept c (writeRecord a0 a1) := by
  delta writeRecord
  repeat' first | (intro v; subst v) | lift_lets | with_reducible assumption | with_reducible (apply latch_recordInt) | simp only [kept_mk] | with_reducible refine kept_q ?_

theorem latch_strataForm (a0 : ℕ) (a1 : ℕ) (a2 : ℕ) (a3 : List StSel) (a4 : State) (h0 : Kept c a4) : Kept c (strataForm a0 a1 a2 a3 a4) := by
  delta strataForm
  repeat' first | (intro v; refine kept_in c v ?_ ?_ <;> [subst v; (clear_value v; intro _)]) | (intro v; subst v) | lift_lets | with_reducible assumption | with_reducible (apply latch_writeRecord) | simp only [kept_mk] | with_reducible refine kept_q ?_ | split

theorem latch_formStrata (a0 : List Gather) (a1 : State) (h0 : Kept c a1) : Kept c (formStrata a0 a1) := by
  delta formStrata
  repeat' first | lift_lets | with_reducible assumption | with_reducible (apply latch_strataForm) | split

theorem latch_assayHead (a0 : Bytes) (a1 : State) (h0 : Kept c a1) : Kept c (assayHead a0 a1) := by
  delta assayHead
  repeat' first | (intro v; subst v) | lift_lets | with_reducible assumption | simp only [kept_mk] | with_reducible refine kept_q ?_

theorem latch_engineStop (a0 : State) (h0 : Kept c a0) : Kept c (engineStop a0) := by
  delta engineStop
  repeat' first | (intro v; subst v) | lift_lets | with_reducible assumption | simp only [kept_mk] | with_reducible refine kept_q ?_

theorem latch_formAssay (a0 : List Gather) (a1 : State) (h0 : Kept c a1) : Kept c (formAssay a0 a1) := by
  delta formAssay
  repeat' first | (intro v; subst v) | lift_lets | with_reducible assumption | with_reducible (apply latch_assayHead) | with_reducible (apply latch_engineStop) | simp only [kept_mk] | with_reducible refine kept_q ?_

theorem latch_radioTables (a0 : List Gather) (a1 : State) (h0 : Kept c a1) : Kept c (radioTables a0 a1) := by
  delta radioTables
  repeat' first | (intro v; subst v) | lift_lets | with_reducible assumption | simp only [kept_mk] | with_reducible refine kept_q ?_

theorem latch_formRadio (a0 : List Gather) (a1 : State) (h0 : Kept c a1) : Kept c (formRadio a0 a1) := by
  delta formRadio
  repeat' first | lift_lets | with_reducible assumption | with_reducible (apply latch_radioTables) | with_reducible (apply latch_setRegFld) | simp only [kept_mk] | with_reducible refine kept_q ?_ | split

theorem latch_formSetpt (a0 : List Gather) (a1 : State) (h0 : Kept c a1) : Kept c (formSetpt a0 a1) := by
  delta formSetpt
  repeat' first | lift_lets | with_reducible assumption | simp only [kept_mk] | with_reducible refine kept_q ?_

theorem latch_realignTicks (a0 : State) (h0 : Kept c a0) : Kept c (realignTicks a0) := by
  delta realignTicks
  repeat' first | (intro v; subst v) | lift_lets | with_reducible assumption | simp only [kept_mk] | with_reducible refine kept_q ?_

theorem latch_regWrite (a0 : ℕ) (a1 : Word) (a2 : State) (h0 : Kept c a2) : Kept c (regWrite a0 a1 a2) := by
  delta regWrite
  repeat' first | lift_lets | with_reducible assumption | with_reducible (apply latch_setReg) | split

theorem latch_selWrite (a0 : Bool) (a1 : State) (h0 : Kept c a1) : Kept c (selWrite a0 a1) := by
  delta selWrite
  repeat' first | lift_lets | with_reducible assumption | with_reducible (apply latch_raise) | with_reducible (apply latch_selectDom) | split

theorem latch_rejoinSlow (a0 : Bool) (a1 : ℤ) (a2 : State) (h0 : Kept c a2) : Kept c (rejoinSlow a0 a1 a2) := by
  delta rejoinSlow
  repeat' first | (intro v; subst v) | lift_lets | with_reducible assumption | with_reducible (apply latch_setDom) | with_reducible (apply latch_note) | with_reducible (apply latch_raise) | split

theorem latch_setPend (a0 : Bool) (a1 : ℤ) (a2 : State) (h0 : Kept c a2) : Kept c (setPend a0 a1 a2) := by
  delta setPend
  repeat' first | (intro v; subst v) | lift_lets | with_reducible assumption | with_reducible (apply latch_raise) | with_reducible (apply latch_setDom) | split

theorem latch_fireCompare (a0 : ℕ) (a1 : State) (h0 : Kept c a1) : Kept c (fireCompare a0 a1) := by
  delta fireCompare
  repeat' first | (intro v; refine kept_in c v ?_ ?_ <;> [subst v; (clear_value v; intro _)]) | (intro v; subst v) | lift_lets | with_reducible assumption | with_reducible (apply latch_setRegFld) | with_reducible (apply latch_raise) | simp only [kept_mk] | with_reducible refine kept_q ?_ | split

theorem latch_fireDue (a0 : State) (h0 : Kept c a0) : Kept c (fireDue a0) := by
  delta fireDue
  repeat' first | lift_lets | with_reducible assumption | with_reducible (apply latch_fireCompare) | with_reducible (apply kept_foldl) | intro _ | split

theorem latch_stepDom (a0 : Bool) (a1 : ℤ) (a2 : State) (h0 : Kept c a2) : Kept c (stepDom a0 a1 a2) := by
  delta stepDom
  repeat' first | (intro v; refine kept_in c v ?_ ?_ <;> [subst v; (clear_value v; intro _)]) | (intro v; subst v) | lift_lets | with_reducible assumption | with_reducible (apply latch_setDom) | with_reducible (apply latch_note) | with_reducible (apply latch_raise) | with_reducible (apply latch_fireDue) | with_reducible (apply latch_realignTicks) | simp only [kept_mk] | with_reducible refine kept_q ?_ | split

theorem latch_bumpQ (a0 : ℕ) (a1 : ℕ) (a2 : State) (h0 : Kept c a2) : Kept c (bumpQ a0 a1 a2) := by
  delta bumpQ
  repeat' first | lift_lets | with_reducible assumption | with_reducible (apply latch_bump)

theorem latch_refuseCopy (a0 : ℕ) (a1 : ℕ) (a2 : State) (h0 : Kept c a2) : Kept c (refuseCopy a0 a1 a2) := by
  delta refuseCopy
  repeat' first | lift_lets | with_reducible assumption | with_reducible (apply latch_raise) | with_reducible (apply latch_bumpQ) | with_reducible (apply latch_setQ)

theorem latch_dropLaunches (a0 : ℕ) (a1 : State) (h0 : Kept c a1) : Kept c (dropLaunches a0 a1) := by
  delta dropLaunches
  repeat' first | (intro v; refine kept_in c v ?_ ?_ <;> [subst v; (clear_value v; intro _)]) | (intro v; subst v) | lift_lets | with_reducible assumption | with_reducible (apply latch_setQ) | with_reducible (apply latch_refuseCopy) | with_reducible (apply latch_withPause) | with_reducible (apply latch_swAbove) | with_reducible (apply kept_foldl) | intro _ | split

theorem latch_settleTasks (a0 : State) (h0 : Kept c a0) : Kept c (settleTasks a0) := by
  delta settleTasks
  repeat' first | (intro v; subst v) | lift_lets | with_reducible assumption | simp only [kept_mk] | with_reducible refine kept_q ?_

theorem latch_dropRecords (a0 : Allot → Bool) (a1 : State) (h0 : Kept c a1) : Kept c (dropRecords a0 a1) := by
  delta dropRecords
  repeat' first | (intro v; subst v) | lift_lets | with_reducible assumption | with_reducible (apply latch_settleTasks) | simp only [kept_mk] | with_reducible refine kept_q ?_

theorem latch_clearCells (a0 : TableDesc) (a1 : BitVec 16) (a2 : List Cell) (a3 : State) (h0 : Kept c a3) :
    Kept c (clearCells a0 a1 a2 a3) := by
  unfold clearCells
  dsimp only
  cases hw : runBatch _ a3 with
  | none => exact h0
  | some t => exact latch_runBatch _ _ h0 t hw

theorem latch_clearChunks (a0 : TableDesc) (a1 : BitVec 16) (a2 : Nat) (a3 : List Cell) (a4 : State) (h0 : Kept c a4) :
    Kept c (clearChunks a0 a1 a2 a3 a4) := by
  induction a2 generalizing a3 a4 with
  | zero => exact h0
  | succ n ih =>
    unfold clearChunks
    split
    · exact h0
    · exact ih _ _ (latch_clearCells _ _ _ _ h0)

theorem latch_clearAllot (a0 : Allot) (a1 : State) (h0 : Kept c a1) : Kept c (clearAllot a0 a1) := by
  delta clearAllot
  repeat' first | lift_lets | with_reducible assumption | with_reducible (apply latch_clearChunks) | split

theorem latch_endAllots (a0 : Allot → Bool) (a1 : State) (h0 : Kept c a1) : Kept c (endAllots a0 a1) := by
  delta endAllots
  repeat' first | lift_lets | with_reducible assumption | with_reducible (apply latch_dropRecords) | with_reducible (apply latch_clearAllot) | with_reducible (apply kept_foldl) | intro _

theorem latch_stepHooks (a0 : State) (h0 : Kept c a0) : Kept c (stepHooks a0) := by
  delta stepHooks
  repeat' first | (intro v; refine kept_in c v ?_ ?_ <;> [subst v; (clear_value v; intro _)]) | (intro v; subst v) | lift_lets | with_reducible assumption | with_reducible (apply latch_dropLaunches) | with_reducible (apply latch_endAllots) | with_reducible (apply kept_foldl) | simp only [kept_mk, keptQ_mk] | with_reducible refine kept_v ?_ | intro _ | split

theorem latch_stepAll (a0 : Bool) (a1 : ℤ) (a2 : State) (h0 : Kept c a2) : Kept c (stepAll a0 a1 a2) := by
  delta stepAll
  repeat' first | (intro v; refine kept_in c v ?_ ?_ <;> [subst v; (clear_value v; intro _)]) | lift_lets | with_reducible assumption | with_reducible (apply latch_stepDom) | with_reducible (apply latch_stepHooks) | simp only [kept_mk] | with_reducible refine kept_q ?_ | split

theorem latch_sourceValid (a0 : Bool) (a1 : ℤ) (a2 : State) (h0 : Kept c a2) : Kept c (sourceValid a0 a1 a2) := by
  delta sourceValid
  repeat' first | (intro v; refine kept_in c v ?_ ?_ <;> [subst v; (clear_value v; intro _)]) | (intro v; subst v) | lift_lets | with_reducible assumption | with_reducible (apply latch_setDom) | with_reducible (apply latch_raise) | with_reducible (apply latch_rejoinSlow) | with_reducible (apply latch_setPend) | with_reducible (apply latch_stepAll) | simp only [kept_mk] | with_reducible refine kept_q ?_ | split

theorem latch_rateWrite (a0 : Bool) (a1 : Word) (a2 : State) (h0 : Kept c a2) : Kept c (rateWrite a0 a1 a2) := by
  delta rateWrite
  repeat' first | (intro v; refine kept_in c v ?_ ?_ <;> [subst v; (clear_value v; intro _)]) | (intro v; subst v) | lift_lets | with_reducible assumption | with_reducible (apply latch_raise) | with_reducible (apply latch_setDom) | with_reducible (apply latch_sourceValid) | split

theorem latch_corrWrite (a0 : Bool) (a1 : Word) (a2 : State) (h0 : Kept c a2) : Kept c (corrWrite a0 a1 a2) := by
  delta corrWrite
  repeat' first | (intro v; refine kept_in c v ?_ ?_ <;> [subst v; (clear_value v; intro _)]) | (intro v; subst v) | lift_lets | with_reducible assumption | with_reducible (apply latch_setDom) | with_reducible (apply latch_sourceValid) | with_reducible (apply latch_setPend) | split

theorem latch_loseSource (a0 : Bool) (a1 : State) (h0 : Kept c a1) : Kept c (loseSource a0 a1) := by
  delta loseSource
  repeat' first | lift_lets | with_reducible assumption | with_reducible (apply latch_loseSources)

theorem latch_writeTime_softDone (a0 : Bool) (a1 : State) (h0 : Kept c a1) : Kept c (writeTime.softDone a0 a1) := by
  delta writeTime.softDone
  repeat' first | lift_lets | with_reducible assumption | with_reducible (apply latch_loseSource) | split

theorem latch_writeTime_armed (a0 : ℕ) (a1 : State) (h0 : Kept c a1) : Kept c (writeTime.armed a0 a1) := by
  delta writeTime.armed
  repeat' first | lift_lets | with_reducible assumption | with_reducible (apply latch_fireCompare) | split

theorem latch_writeTime (a0 : ℕ) (a1 : Word) (a2 : State) (h0 : Kept c a2) : Kept c (writeTime a0 a1 a2) := by
  delta writeTime
  repeat' first | (intro v; refine kept_in c v ?_ ?_ <;> [subst v; (clear_value v; intro _)]) | (intro v; subst v) | lift_lets | with_reducible assumption | with_reducible (apply latch_regWrite) | with_reducible (apply latch_selWrite) | with_reducible (apply latch_rateWrite) | with_reducible (apply latch_corrWrite) | with_reducible (apply latch_writeTime_softDone) | with_reducible (apply latch_writeTime_armed) | simp only [kept_mk] | with_reducible refine kept_q ?_ | split

theorem latch_writeRtk (a0 : ℕ) (a1 : Word) (a2 : State) (h0 : Kept c a2) : Kept c (writeRtk a0 a1 a2) := by
  delta writeRtk
  repeat' first | (intro v; subst v) | lift_lets | with_reducible assumption | with_reducible (apply latch_regWrite) | simp only [kept_mk] | with_reducible refine kept_q ?_ | split

theorem latch_gridGo (a0 : Master) (a1 : Bytes) (a2 : State) (h0 : Kept c a2) : Kept c (gridGo a0 a1 a2) := by
  delta gridGo
  repeat' first | (intro v; subst v) | lift_lets | with_reducible assumption | with_reducible (apply latch_raise) | simp only [kept_mk] | with_reducible refine kept_q ?_ | split

theorem latch_writeGrid (a0 : Writer) (a1 : ℕ) (a2 : Word) (a3 : State) (h0 : Kept c a3) : Kept c (writeGrid a0 a1 a2 a3) := by
  delta writeGrid
  repeat' first | (intro v; subst v) | lift_lets | with_reducible assumption | with_reducible (apply latch_gridGo) | with_reducible (apply latch_regWrite) | simp only [kept_mk] | with_reducible refine kept_q ?_ | split

theorem latch_setptGo (a0 : Master) (a1 : Bytes) (a2 : State) (h0 : Kept c a2) : Kept c (setptGo a0 a1 a2) := by
  delta setptGo
  repeat' first | (intro v; subst v) | lift_lets | with_reducible assumption | simp only [kept_mk] | with_reducible refine kept_q ?_ | split

theorem latch_writeSetpt (a0 : Writer) (a1 : ℕ) (a2 : Word) (a3 : State) (h0 : Kept c a3) : Kept c (writeSetpt a0 a1 a2 a3) := by
  delta writeSetpt
  repeat' first | (intro v; subst v) | lift_lets | with_reducible assumption | with_reducible (apply latch_setptGo) | with_reducible (apply latch_regWrite) | simp only [kept_mk] | with_reducible refine kept_q ?_ | split

theorem latch_settleChain (a0 : ℕ) (a1 : State) (h0 : Kept c a1) : Kept c (settleChain a0 a1) := by
  delta settleChain
  repeat' first | (intro v; refine kept_in c v ?_ ?_ <;> [subst v; (clear_value v; intro _)]) | (intro v; subst v) | lift_lets | with_reducible assumption | with_reducible (apply latch_setChain) | with_reducible (apply latch_raise) | split

theorem latch_chainCtrl (a0 : ℕ) (a1 : Word) (a2 : State) (h0 : Kept c a2) : Kept c (chainCtrl a0 a1 a2) := by
  delta chainCtrl
  repeat' first | (intro v; refine kept_in c v ?_ ?_ <;> [subst v; (clear_value v; intro _)]) | (intro v; subst v) | lift_lets | with_reducible assumption | with_reducible (apply latch_settleChain) | with_reducible (apply latch_setChain) | split

theorem latch_writeRadio_slotChange (a0 : ℕ) (a1 : State) (h0 : Kept c a1) : Kept c (writeRadio.slotChange a0 a1) := by
  delta writeRadio.slotChange
  repeat' first | (intro v; subst v) | lift_lets | with_reducible assumption | simp only [kept_mk] | with_reducible refine kept_q ?_ | split

theorem latch_writeRadio (a0 : ℕ) (a1 : Word) (a2 : State) (h0 : Kept c a2) : Kept c (writeRadio a0 a1 a2) := by
  delta writeRadio
  repeat' first | lift_lets | with_reducible assumption | with_reducible (apply latch_chainCtrl) | with_reducible (apply latch_setChain) | with_reducible (apply latch_writeRadio_slotChange) | with_reducible (apply latch_regWrite) | split

theorem latch_clearDiscrepant (a0 : ℕ) (a1 : State) (h0 : Kept c a1) : Kept c (clearDiscrepant a0 a1) := by
  delta clearDiscrepant
  repeat' first | lift_lets | with_reducible assumption | with_reducible (apply latch_driveOutputs) | with_reducible (apply latch_setQch) | dsimp only | intro _ | split

theorem latch_hostQuench (a0 : ℕ) (a1 : State) (h0 : Kept c a1) : Kept c (hostQuench a0 a1) := by
  delta hostQuench
  repeat' first | (intro v; subst v) | lift_lets | with_reducible assumption | with_reducible (apply latch_settleVote) | simp only [kept_mk, keptQ_mk] | with_reducible refine kept_v ?_

theorem latch_bumpQuench (a0 : ℕ) (a1 : State) (h0 : Kept c a1) : Kept c (bumpQuench a0 a1) := by
  delta bumpQuench
  repeat' first | lift_lets | with_reducible assumption | with_reducible (apply latch_bump)

theorem latch_quenchRefuse (a0 : QResult) (a1 : State) (h0 : Kept c a1) : Kept c (quenchRefuse a0 a1) := by
  delta quenchRefuse
  repeat' first | (intro v; subst v) | lift_lets | with_reducible assumption | with_reducible (apply latch_raise) | simp only [kept_mk, keptQ_mk] | with_reducible refine kept_v ?_

/-- A release clears the copies (R369). -/
theorem latch_releaseLatch (a0 : Master) (b0 : Bool) (a1 : State) (hr : a0 = .host → c.ok (Vector.replicate 3 false)) (h0 : Kept c a1) :
    Kept c (releaseLatch a0 b0 a1) := by
  delta releaseLatch
  dsimp only
  split
  · exact latch_record _ _ _ _ _ _ _ (latch_bumpQuench _ _ (latch_quenchRefuse _ _ h0))
  · rename_i hd
    have hh : a0 = .host := by
      by_contra hw
      simp [releaseResult, hw] at hd
    refine latch_driveOutputs _ (latch_record _ _ _ _ _ _ _ (latch_raise _ _ _ (latch_bumpQuench _ _ ?_)))
    rw [kept_mk, keptQ_mk]
    exact ⟨by rw [Vector.map_map, show a1.quench.chs.map (QChannel.latch ∘ fun (x : QChannel) => { x with latch := false }) = Vector.replicate 3 false by
      ext i hi; simp]; exact hr hh, h0.2⟩

theorem latch_bumpPort (a0 : ℕ) (a1 : ℕ) (a2 : State) (h0 : Kept c a2) : Kept c (bumpPort a0 a1 a2) := by
  delta bumpPort
  repeat' first | lift_lets | with_reducible assumption | with_reducible (apply latch_bump)

theorem latch_cutWire (a0 : ℕ) (a1 : State) (h0 : Kept c a1) : Kept c (cutWire a0 a1) := by
  delta cutWire
  repeat' first | (intro v; refine kept_in c v ?_ ?_ <;> [subst v; (clear_value v; intro _)]) | (intro v; subst v) | lift_lets | with_reducible assumption | with_reducible (apply latch_setPort) | with_reducible (apply latch_bumpPort) | with_reducible (apply latch_setQ) | split

theorem latch_enqueue (a0 : ℕ) (a1 : ℕ) (a2 : ℕ) (a3 : QFrame) (a4 : State) (h0 : Kept c a4) : Kept c (enqueue a0 a1 a2 a3 a4) := by
  delta enqueue
  repeat' first | (intro v; refine kept_in c v ?_ ?_ <;> [subst v; (clear_value v; intro _)]) | (intro v; subst v) | lift_lets | with_reducible assumption | with_reducible (apply latch_setQ) | with_reducible (apply latch_setPort) | with_reducible (apply latch_bumpQ) | with_reducible (apply latch_withPause) | with_reducible (apply latch_swAbove) | with_reducible (apply latch_cutWire) | with_reducible (apply kept_foldl) | intro _ | split

theorem latch_countNoBuffer (a0 : ℕ) (a1 : ℕ) (a2 : QFrame) (a3 : State) (h0 : Kept c a3) : Kept c (countNoBuffer a0 a1 a2 a3) := by
  delta countNoBuffer
  repeat' first | lift_lets | with_reducible assumption | with_reducible (apply latch_bump) | split

theorem latch_enqueueFrame (a0 : ℕ) (a1 : ℕ) (a2 : QFrame) (a3 : State) (h0 : Kept c a3) : Kept c (enqueueFrame a0 a1 a2 a3) := by
  delta enqueueFrame
  repeat' first | (intro v; subst v) | lift_lets | with_reducible assumption | with_reducible (apply latch_enqueue) | with_reducible (apply latch_refuseCopy) | with_reducible (apply latch_countNoBuffer) | split

theorem latch_sendQuenchFrames (a0 : ℕ) (a1 : ℕ) (a2 : ℕ) (a3 : ℕ) (a4 : State) (h0 : Kept c a4) : Kept c (sendQuenchFrames a0 a1 a2 a3 a4) := by
  delta sendQuenchFrames
  repeat' first | (intro v; refine kept_in c v ?_ ?_ <;> [subst v; (clear_value v; intro _)]) | lift_lets | with_reducible assumption | with_reducible (apply latch_useRefused) | with_reducible (apply latch_enqueueFrame) | with_reducible (apply kept_foldl) | intro _ | split

theorem latch_queueMachQuench (a0 : ℕ) (a1 : ℕ) (a2 : State) (h0 : Kept c a2) : Kept c (queueMachQuench a0 a1 a2) := by
  delta queueMachQuench
  repeat' first | lift_lets | with_reducible assumption | with_reducible (apply latch_setChain) | with_reducible (apply kept_foldl) | intro _ | split

theorem latch_machineQuench (a0 : ℕ) (a1 : State) (h0 : Kept c a1) : Kept c (machineQuench a0 a1) := by
  delta machineQuench
  repeat' first | (intro v; refine kept_in c v ?_ ?_ <;> [subst v; (clear_value v; intro _)]) | (intro v; subst v) | lift_lets | with_reducible assumption | with_reducible (apply latch_raise) | with_reducible (apply latch_bumpQuench) | with_reducible (apply latch_sendQuenchFrames) | with_reducible (apply latch_queueMachQuench) | simp only [kept_mk, keptQ_mk] | with_reducible refine kept_v ?_

theorem latch_machRelease (a0 : Master) (a1 : ℕ) (a2 : Bool) (a3 : State) (h0 : Kept c a3) : Kept c (machRelease a0 a1 a2 a3) := by
  delta machRelease
  repeat' first | (intro v; subst v) | lift_lets | with_reducible assumption | with_reducible (apply latch_quenchRefuse) | simp only [kept_mk, keptQ_mk] | with_reducible refine kept_v ?_ | split

theorem latch_quenchCmd (a0 : Master) (a1 : Word) (a2 : State)
    (hr : a0 = .host → fld a1 31 16 = 0x9610 → fld a1 15 12 = 2 → c.ok (Vector.replicate 3 false)) (h0 : Kept c a2) :
    Kept c (quenchCmd a0 a1 a2) := by
  delta quenchCmd
  dsimp only
  split
  · exact h0
  split
  · exact latch_hostQuench _ _ h0
  split
  · exact latch_releaseLatch _ _ _ (fun hw => hr hw (by omega) (by omega)) h0
  split
  · rw [kept_mk, keptQ_mk]
    exact kept_v (latch_machineQuench _ _ h0)
  split
  · exact latch_machRelease _ _ _ _ h0
  · exact latch_quenchRefuse _ _ h0

theorem latch_writeQuench (a : Writer) (o : Nat) (v : Word) (s : State)
    (hr : ∀ x, a = some x → x.master = .host → o = 0x0C → fld v 31 16 = 0x9610 → fld v 15 12 = 2 → c.ok (Vector.replicate 3 false))
    (h : Kept c s) : Kept c (writeQuench a o v s) := by
  delta writeQuench
  split
  · exact latch_driveOutputs _ (latch_settleVote _ _ _ (latch_regWrite _ _ _ h))
  split
  · exact latch_driveOutputs _ (latch_regWrite _ _ _ h)
  split
  · refine kept_foldl h fun t k ht => ?_
    split
    · exact latch_clearDiscrepant _ _ ht
    · exact ht
  split
  · split
    · exact latch_quenchCmd _ _ _ (fun hw => hr _ rfl hw ‹_›) h
    · exact h
  · exact latch_regWrite _ _ _ h

theorem latch_flushPort (a0 : ℕ) (a1 : State) (h0 : Kept c a1) : Kept c (flushPort a0 a1) := by
  delta flushPort
  repeat' first | (intro v; refine kept_in c v ?_ ?_ <;> [subst v; (clear_value v; intro _)]) | lift_lets | with_reducible assumption | with_reducible (apply latch_setPort) | with_reducible (apply latch_discardFrames) | with_reducible (apply latch_withPause) | with_reducible (apply latch_swAbove) | with_reducible (apply latch_bumpQ) | with_reducible (apply latch_bumpPort) | split

theorem latch_shutPort (a0 : ℕ) (a1 : State) (h0 : Kept c a1) : Kept c (shutPort a0 a1) := by
  delta shutPort
  repeat' first | (intro v; refine kept_in c v ?_ ?_ <;> [subst v; (clear_value v; intro _)]) | (intro v; subst v) | lift_lets | with_reducible assumption | with_reducible (apply latch_flushPort) | with_reducible (apply latch_setPort) | with_reducible (apply latch_discard) | split

theorem latch_settlePort (a0 : ℕ) (a1 : State) (h0 : Kept c a1) : Kept c (settlePort a0 a1) := by
  delta settlePort
  repeat' first | (intro v; refine kept_in c v ?_ ?_ <;> [subst v; (clear_value v; intro _)]) | (intro v; subst v) | lift_lets | with_reducible assumption | with_reducible (apply latch_setPort) | with_reducible (apply latch_shutPort) | with_reducible (apply latch_raise) | split

theorem latch_pushTxTs (a0 : TxTs) (a1 : State) (h0 : Kept c a1) : Kept c (pushTxTs a0 a1) := by
  delta pushTxTs
  repeat' first | (intro v; subst v) | lift_lets | with_reducible assumption | with_reducible (apply latch_raise) | with_reducible (apply latch_bump) | simp only [kept_mk] | with_reducible refine kept_q ?_ | split

theorem latch_queueStamp (a0 : ℕ) (a1 : QFrame) (a2 : State) (h0 : Kept c a2) : Kept c (queueStamp a0 a1 a2) := by
  delta queueStamp
  repeat' first | lift_lets | with_reducible assumption | with_reducible (apply latch_pushTxTs) | split

theorem latch_eqRedirect (a0 : ℕ) (a1 : State) (h0 : Kept c a1) : Kept c (eqRedirect a0 a1) := by
  delta eqRedirect
  repeat' first | lift_lets | with_reducible assumption | with_reducible (apply latch_raise) | with_reducible (apply latch_bump) | split

theorem latch_eqLose (a0 : ℕ) (a1 : State) (h0 : Kept c a1) : Kept c (eqLose a0 a1) := by
  delta eqLose
  repeat' first | lift_lets | with_reducible assumption | with_reducible (apply latch_raise) | with_reducible (apply latch_bump) | with_reducible (apply latch_setEq)

theorem latch_postEvent (a0 : ℕ) (a1 : Bytes) (a2 : State) (h0 : Kept c a2) : Kept c (postEvent a0 a1 a2) := by
  delta postEvent
  repeat' first | (intro v; subst v) | lift_lets | with_reducible assumption | with_reducible (apply latch_eqPush) | with_reducible (apply latch_eqRedirect) | with_reducible (apply latch_eqLose) | split

theorem latch_takeBuffer (a0 : ℕ) (a1 : RxBuf) (a2 : State) (h0 : Kept c a2) : Kept c (takeBuffer a0 a1 a2) := by
  delta takeBuffer
  repeat' first | (intro v; subst v) | lift_lets | with_reducible assumption | simp only [kept_mk] | with_reducible refine kept_q ?_ | split

theorem latch_deliverRx (a0 : ℕ) (a1 : QFrame) (a2 : State) (h0 : Kept c a2) : Kept c (deliverRx a0 a1 a2) := by
  delta deliverRx
  repeat' first | lift_lets | with_reducible assumption | with_reducible (apply latch_postEvent) | with_reducible (apply latch_takeBuffer) | with_reducible (apply latch_coreStore) | split

theorem latch_takeDown (a0 : Bytes) (a1 : State) (h0 : Kept c a1) : Kept c (takeDown a0 a1) := by
  delta takeDown
  repeat' first | (intro v; refine kept_in c v ?_ ?_ <;> [subst v; (clear_value v; intro _)]) | (intro v; subst v) | lift_lets | with_reducible assumption | with_reducible (apply latch_setNode) | with_reducible (apply latch_setChain) | simp only [kept_mk] | with_reducible refine kept_q ?_ | split

theorem latch_deliverDown (a0 : Bytes) (a1 : State) (h0 : Kept c a1) : Kept c (deliverDown a0 a1) := by
  delta deliverDown
  repeat' first | lift_lets | with_reducible assumption | with_reducible (apply latch_takeDown) | split

theorem latch_bumpSetpt (a0 : ℕ) (a1 : State) (h0 : Kept c a1) : Kept c (bumpSetpt a0 a1) := by
  delta bumpSetpt
  repeat' first | lift_lets | with_reducible assumption | with_reducible (apply latch_bump)

theorem latch_odometer (a0 : Bytes) (a1 : Option (BitVec 64)) (a2 : State) (h0 : Kept c a2) : Kept c (odometer a0 a1 a2) := by
  delta odometer
  repeat' first | (intro v; subst v) | lift_lets | with_reducible assumption | with_reducible (apply latch_bumpSetpt) | simp only [kept_mk] | with_reducible refine kept_q ?_ | split

theorem latch_deliverSetpt (a0 : QFrame) (a1 : State) (h0 : Kept c a1) : Kept c (deliverSetpt a0 a1) := by
  delta deliverSetpt
  repeat' first | lift_lets | with_reducible assumption | with_reducible (apply latch_odometer) | with_reducible (apply latch_bumpSetpt) | split

theorem latch_toIngest (a0 : List RtcmIn) (a1 : State) (h0 : Kept c a1) : Kept c (toIngest a0 a1) := by
  delta toIngest
  repeat' first | (intro v; subst v) | lift_lets | with_reducible assumption | simp only [kept_mk] | with_reducible refine kept_q ?_

theorem latch_deliverFrame (a0 : ℕ) (a1 : QFrame) (a2 : State) (h0 : Kept c a2) : Kept c (deliverFrame a0 a1 a2) := by
  delta deliverFrame
  repeat' first | lift_lets | with_reducible assumption | with_reducible (apply latch_deliverRx) | with_reducible (apply latch_deliverDown) | with_reducible (apply latch_deliverSetpt) | with_reducible (apply latch_toIngest) | split

theorem latch_countSent (a0 : ℕ) (a1 : ℕ) (a2 : QFrame) (a3 : State) (h0 : Kept c a3) : Kept c (countSent a0 a1 a2 a3) := by
  delta countSent
  repeat' first | (intro v; refine kept_in c v ?_ ?_ <;> [subst v; (clear_value v; intro _)]) | lift_lets | with_reducible assumption | with_reducible (apply latch_withPause) | with_reducible (apply latch_swAbove) | with_reducible (apply latch_setPort) | with_reducible (apply latch_bumpQ) | with_reducible (apply latch_bumpBy) | with_reducible (apply latch_bumpPort) | intro _

theorem latch_finishWire (a0 : ℕ) (a1 : State) (h0 : Kept c a1) : Kept c (finishWire a0 a1) := by
  delta finishWire
  repeat' first | (intro v; refine kept_in c v ?_ ?_ <;> [subst v; (clear_value v; intro _)]) | lift_lets | with_reducible assumption | with_reducible (apply latch_settlePort) | with_reducible (apply latch_advanceClk) | with_reducible (apply latch_queueStamp) | with_reducible (apply latch_deliverFrame) | with_reducible (apply latch_countSent) | split

theorem latch_stopPort (a0 : ℕ) (a1 : State) (h0 : Kept c a1) : Kept c (stopPort a0 a1) := by
  delta stopPort
  repeat' first | (intro v; refine kept_in c v ?_ ?_ <;> [subst v; (clear_value v; intro _)]) | (intro v; subst v) | lift_lets | with_reducible assumption | with_reducible (apply latch_setPort) | with_reducible (apply latch_finishWire) | with_reducible (apply latch_settlePort) | split

theorem latch_countLookup (a0 : Bool) (a1 : Bool) (a2 : State) (h0 : Kept c a2) : Kept c (countLookup a0 a1 a2) := by
  delta countLookup
  repeat' first | (intro v; refine kept_in c v ?_ ?_ <;> [subst v; (clear_value v; intro _)]) | lift_lets | with_reducible assumption | with_reducible (apply latch_bumpLode) | split

theorem latch_learnOne (a0 : LearnReq) (a1 : State) (a2 : Inst) (h0 : Kept c a1) : Kept c (learnOne a0 a1 a2) := by
  delta learnOne
  repeat' first | lift_lets | with_reducible assumption | with_reducible (apply latch_bumpLode) | with_reducible (apply latch_raise) | with_reducible (apply latch_setInst) | split

theorem latch_learn (a0 : LearnReq) (a1 : State) (h0 : Kept c a1) : Kept c (learn a0 a1) := by
  delta learn
  repeat' first | lift_lets | with_reducible assumption | with_reducible (apply latch_learnOne) | with_reducible (apply kept_foldl) | split

theorem latch_excess (a0 : TableDesc) (a1 : Bool) (a2 : ℕ) (a3 : State) (h0 : Kept c a3) : Kept c (excess a0 a1 a2 a3) := by
  delta excess
  repeat' first | lift_lets | with_reducible assumption | with_reducible (apply latch_bumpLode) | with_reducible (apply latch_settleOccLimit) | split

theorem latch_sourceOne (a0 : InFrame) (a1 : LodeKey) (a2 : TableDesc) (a3 : State) (h0 : Kept c a3) : Kept c (sourceOne a0 a1 a2 a3).2 := by
  delta sourceOne
  repeat' first | (intro v; refine kept_in c v ?_ ?_ <;> [subst v; (clear_value v; intro _)]) | (intro v; subst v) | lift_lets | with_reducible assumption | with_reducible (apply latch_countLookup) | with_reducible (apply latch_learn) | with_reducible (apply latch_excess) | split

theorem latch_sourceLookup (a0 : InFrame) (a1 : State) (h0 : Kept c a1) : Kept c (sourceLookup a0 a1).2 := by
  delta sourceLookup
  repeat' first | lift_lets | with_reducible assumption | with_reducible (apply latch_sourceOne) | split

theorem latch_routeHit (a0 : InFrame) (a1 : ℕ) (a2 : Bool) (a3 : LodeResult) (a4 : State) (h0 : Kept c a4) : Kept c (routeHit a0 a1 a2 a3 a4).2 := by
  delta routeHit
  repeat' first | lift_lets | with_reducible assumption | with_reducible (apply latch_bumpPort) | dsimp only | split

theorem latch_route (a0 : InFrame) (a1 : ℕ) (a2 : Bool) (a3 : State) (h0 : Kept c a3) : Kept c (route a0 a1 a2 a3).2 := by
  delta route
  repeat' first | (intro v; refine kept_in c v ?_ ?_ <;> [subst v; (clear_value v; intro _)]) | (intro v; subst v) | lift_lets | with_reducible assumption | with_reducible (apply latch_countLookup) | with_reducible (apply latch_bumpPort) | with_reducible (apply latch_routeHit) | split

theorem latch_bridge (a0 : InFrame) (a1 : State) (h0 : Kept c a1) : Kept c (bridge a0 a1).2 := by
  delta bridge
  repeat' first | (intro v; refine kept_in c v ?_ ?_ <;> [subst v; (clear_value v; intro _)]) | (intro v; subst v) | lift_lets | with_reducible assumption | with_reducible (apply latch_countLookup) | with_reducible (apply latch_bumpPort) | split

theorem latch_forward (a0 : InFrame) (a1 : State) (h0 : Kept c a1) : Kept c (forward a0 a1).2 := by
  delta forward
  repeat' first | (intro v; refine kept_in c (Prod.snd v) ?_ ?_ <;> [subst v; (clear_value v; intro _)]) | lift_lets | with_reducible assumption | with_reducible (apply latch_sourceLookup) | with_reducible (apply latch_route) | with_reducible (apply latch_bridge) | split

theorem latch_offerGo (a0 : InFrame) (a1 : List Copy) (a2 : State) (h0 : Kept c a2) : Kept c (offerGo a0 a1 a2).2 := by
  induction a1 generalizing a2 with
  | nil => exact h0
  | cons x l ih => exact ih _ (latch_enqueueFrame _ _ _ _ h0)

theorem latch_ingress (a0 : InFrame) (a1 : State) (h0 : Kept c a1) : Kept c (ingress a0 a1).2 := by
  delta ingress
  repeat' first | lift_lets | with_reducible assumption | with_reducible (apply latch_bumpPort) | with_reducible (apply latch_forward) | with_reducible (apply latch_offerGo) | dsimp only | split

theorem latch_arrive (a0 : ℕ) (a1 : Bytes) (a2 : Option ℕ) (a3 : State) (h0 : Kept c a3) : Kept c (arrive a0 a1 a2 a3) := by
  delta arrive
  repeat' first | (intro v; subst v) | lift_lets | with_reducible assumption | with_reducible (apply latch_ingress) | simp only [kept_mk] | with_reducible refine kept_q ?_ | split

theorem latch_countRx (a0 : ℕ) (a1 : ℕ) (a2 : State) (h0 : Kept c a2) : Kept c (countRx a0 a1 a2) := by
  delta countRx
  repeat' first | lift_lets | with_reducible assumption | with_reducible (apply latch_bumpBy) | with_reducible (apply latch_bumpPort)

theorem latch_injectFrame (a0 : ℕ) (a1 : Bytes) (a2 : State) (h0 : Kept c a2) : Kept c (injectFrame a0 a1 a2) := by
  delta injectFrame
  repeat' first | lift_lets | with_reducible assumption | with_reducible (apply latch_arrive) | with_reducible (apply latch_countRx) | split

theorem latch_ethSettle (a0 : State) (h0 : Kept c a0) : Kept c (ethSettle a0) := by
  delta ethSettle
  repeat' first | (intro v; subst v) | lift_lets | with_reducible assumption | with_reducible (apply latch_injectFrame) | simp only [kept_mk] | with_reducible refine kept_q ?_ | split

theorem latch_portEnable (a0 : ℕ) (a1 : Bool) (a2 : State) (h0 : Kept c a2) : Kept c (portEnable a0 a1 a2) := by
  delta portEnable
  repeat' first | (intro v; refine kept_in c v ?_ ?_ <;> [subst v; (clear_value v; intro _)]) | lift_lets | with_reducible assumption | with_reducible (apply latch_stopPort) | with_reducible (apply latch_setPort) | with_reducible (apply latch_ethSettle) | split

theorem latch_frReset (a0 : State) (h0 : Kept c a0) : Kept c (frReset a0) := by
  delta frReset
  repeat' first | lift_lets | with_reducible assumption | simp only [kept_mk] | with_reducible refine kept_q ?_

theorem latch_leaveLink (a0 : LinkState) (a1 : State) (h0 : Kept c a1) : Kept c (leaveLink a0 a1) := by
  delta leaveLink
  repeat' first | (intro v; refine kept_in c v ?_ ?_ <;> [subst v; (clear_value v; intro _)]) | (intro v; subst v) | lift_lets | with_reducible assumption | with_reducible (apply latch_bumpBy) | with_reducible (apply latch_frReset) | with_reducible (apply latch_raise) | with_reducible (apply latch_bump) | simp only [kept_mk] | with_reducible refine kept_q ?_ | split

theorem latch_linkEnWrite (a0 : Word) (a1 : State) (h0 : Kept c a1) : Kept c (linkEnWrite a0 a1) := by
  delta linkEnWrite
  repeat' first | (intro v; refine kept_in c v ?_ ?_ <;> [subst v; (clear_value v; intro _)]) | lift_lets | with_reducible assumption | with_reducible (apply latch_regWrite) | with_reducible (apply latch_linkStart) | with_reducible (apply latch_leaveLink) | split

theorem latch_writeRun (a0 : ℕ) (a1 : ℕ) (a2 : State) (h0 : Kept c a2) : Kept c (writeRun a0 a1 a2) := by
  delta writeRun
  repeat' first | lift_lets | with_reducible assumption | with_reducible (apply latch_setCore) | with_reducible (apply latch_startCore) | with_reducible (apply latch_stopCore) | with_reducible (apply kept_foldl) | dsimp only | intro _ | split

theorem latch_writeGroup (a0 : ℕ) (a1 : Word) (a2 : State) (h0 : Kept c a2) : Kept c (writeGroup a0 a1 a2) := by
  delta writeGroup
  repeat' first | (intro v; subst v) | lift_lets | with_reducible assumption | simp only [kept_mk] | with_reducible refine kept_q ?_ | split

theorem latch_writeDispatch (a0 : Writer) (a1 : ℕ) (a2 : Word) (a3 : State) (h0 : Kept c a3) : Kept c (writeDispatch a0 a1 a2 a3) := by
  delta writeDispatch
  repeat' first | (intro v; subst v) | lift_lets | with_reducible assumption | with_reducible (apply latch_writeRun) | with_reducible (apply latch_regWrite) | with_reducible (apply latch_writeGroup) | simp only [kept_mk] | with_reducible refine kept_q ?_ | split

theorem latch_writeMailbox (a0 : Writer) (a1 : ℕ) (a2 : ℕ) (a3 : Word) (a4 : State) (h0 : Kept c a4) : Kept c (writeMailbox a0 a1 a2 a3 a4) := by
  delta writeMailbox
  repeat' first | (intro v; subst v) | lift_lets | with_reducible assumption | with_reducible (apply latch_setMb) | dsimp only | split

theorem latch_disableCq (a0 : ℕ) (a1 : State) (h0 : Kept c a1) : Kept c (disableCq a0 a1) := by
  delta disableCq
  repeat' first | lift_lets | with_reducible assumption | with_reducible (apply latch_cqSettle) | with_reducible (apply latch_setCq)

theorem latch_cqConfig (a0 : ℕ) (a1 : Word) (a2 : State) (h0 : Kept c a2) : Kept c (cqConfig a0 a1 a2) := by
  delta cqConfig
  repeat' first | (intro v; refine kept_in c v ?_ ?_ <;> [subst v; (clear_value v; intro _)]) | (intro v; subst v) | lift_lets | with_reducible assumption | with_reducible (apply latch_disableCq) | with_reducible (apply latch_setCq) | split

theorem latch_tailWrite (a0 : ℕ) (a1 : Word) (a2 : State) (h0 : Kept c a2) : Kept c (tailWrite a0 a1 a2) := by
  delta tailWrite
  repeat' first | lift_lets | with_reducible assumption | with_reducible (apply latch_setCq)

theorem latch_writeCq (a0 : ℕ) (a1 : ℕ) (a2 : Word) (a3 : State) (h0 : Kept c a3) : Kept c (writeCq a0 a1 a2 a3) := by
  delta writeCq
  repeat' first | lift_lets | with_reducible assumption | with_reducible (apply latch_cqConfig) | with_reducible (apply latch_tailWrite) | with_reducible (apply latch_setCq) | with_reducible (apply latch_regWrite) | split

theorem latch_disableEq (a0 : ℕ) (a1 : State) (h0 : Kept c a1) : Kept c (disableEq a0 a1) := by
  delta disableEq
  repeat' first | lift_lets | with_reducible assumption | with_reducible (apply latch_setEq)

theorem latch_eqConfig (a0 : ℕ) (a1 : Word) (a2 : State) (h0 : Kept c a2) : Kept c (eqConfig a0 a1 a2) := by
  delta eqConfig
  repeat' first | (intro v; refine kept_in c v ?_ ?_ <;> [subst v; (clear_value v; intro _)]) | (intro v; subst v) | lift_lets | with_reducible assumption | with_reducible (apply latch_disableEq) | with_reducible (apply latch_setEq) | with_reducible (apply latch_postCullets) | split

theorem latch_headWrite (a0 : ℕ) (a1 : Word) (a2 : State) (h0 : Kept c a2) : Kept c (headWrite a0 a1 a2) := by
  delta headWrite
  repeat' first | (intro v; refine kept_in c v ?_ ?_ <;> [subst v; (clear_value v; intro _)]) | (intro v; subst v) | lift_lets | with_reducible assumption | with_reducible (apply latch_setEq) | with_reducible (apply latch_postCullets) | with_reducible (apply latch_withPause) | with_reducible (apply latch_eqAbove) | split

theorem latch_writeEq (a0 : ℕ) (a1 : ℕ) (a2 : Word) (a3 : State) (h0 : Kept c a3) : Kept c (writeEq a0 a1 a2 a3) := by
  delta writeEq
  repeat' first | lift_lets | with_reducible assumption | with_reducible (apply latch_eqConfig) | with_reducible (apply latch_headWrite) | with_reducible (apply latch_setEq) | with_reducible (apply latch_regWrite) | split

theorem latch_writeHostif (a0 : Writer) (a1 : ℕ) (a2 : Word) (a3 : State) (h0 : Kept c a3) : Kept c (writeHostif a0 a1 a2 a3) := by
  delta writeHostif
  repeat' first | lift_lets | with_reducible assumption | with_reducible (apply latch_writeMailbox) | with_reducible (apply latch_writeCq) | with_reducible (apply latch_writeEq) | with_reducible (apply latch_regWrite) | split

theorem latch_setBufs (a0 : Master) (a1 : GBufs → GBufs) (a2 : State) (h0 : Kept c a2) : Kept c (setBufs a0 a1 a2) := by
  delta setBufs
  repeat' first | (intro v; subst v) | lift_lets | with_reducible assumption | simp only [kept_mk] | with_reducible refine kept_q ?_

theorem latch_writeGeode (a0 : Writer) (a1 : ℕ) (a2 : Word) (a3 : State) (h0 : Kept c a3) : Kept c (writeGeode a0 a1 a2 a3) := by
  delta writeGeode
  repeat' first | (intro v; subst v) | lift_lets | with_reducible assumption | with_reducible (apply latch_setBufs) | with_reducible (apply latch_regWrite) | simp only [kept_mk] | with_reducible refine kept_q ?_ | split

theorem latch_settleAs (a0 : ℕ) (a1 : State) (h0 : Kept c a1) : Kept c (settleAs a0 a1) := by
  delta settleAs
  repeat' first | (intro v; refine kept_in c v ?_ ?_ <;> [subst v; (clear_value v; intro _)]) | (intro v; subst v) | lift_lets | with_reducible assumption | with_reducible (apply latch_setAs) | with_reducible (apply latch_raise) | split

theorem latch_assayEnable (a0 : ℕ) (a1 : Bool) (a2 : ℕ) (a3 : State) (h0 : Kept c a3) : Kept c (assayEnable a0 a1 a2 a3) := by
  delta assayEnable
  repeat' first | (intro v; subst v) | lift_lets | with_reducible assumption | with_reducible (apply latch_setAs) | with_reducible (apply latch_settleAs) | split

theorem latch_irecSelect (a0 : Word) (a1 : State) (h0 : Kept c a1) : Kept c (irecSelect a0 a1) := by
  delta irecSelect
  repeat' first | (intro v; refine kept_in c v ?_ ?_ <;> [subst v; (clear_value v; intro _)]) | (intro v; subst v) | lift_lets | with_reducible assumption | with_reducible (apply latch_setReg) | simp only [kept_mk] | with_reducible refine kept_q ?_ | split

theorem latch_writeAssay (a0 : ℕ) (a1 : Word) (a2 : State) (h0 : Kept c a2) : Kept c (writeAssay a0 a1 a2) := by
  delta writeAssay
  repeat' first | (intro v; subst v) | lift_lets | with_reducible assumption | with_reducible (apply latch_setAs) | with_reducible (apply latch_assayEnable) | with_reducible (apply latch_settleAs) | with_reducible (apply latch_drawn) | with_reducible (apply latch_irecSelect) | with_reducible (apply latch_regWrite) | split

theorem latch_sumSelect (a0 : ℕ) (a1 : State) (h0 : Kept c a1) : Kept c (sumSelect a0 a1) := by
  delta sumSelect
  repeat' first | (intro v; refine kept_in c v ?_ ?_ <;> [subst v; (clear_value v; intro _)]) | (intro v; subst v) | lift_lets | with_reducible assumption | with_reducible (apply latch_setReg) | simp only [kept_mk] | with_reducible refine kept_q ?_

end Sys2Proof.Machine
end

