-- ==== Sys2Proof/Laws/LatchBlocks.lean ====
section
/-! SUPPORT. LatchBlocks.lean: the same through further operations and commands of the blocks. -/

namespace Sys2Proof.Machine

open Sys2Proof

variable {c : LatchClaim}

theorem latch_bFuncWrite (a0 : Word) (a1 : State) (h0 : Kept c a1) : Kept c (bFuncWrite a0 a1) := by
  delta bFuncWrite
  repeat' first | lift_lets | with_reducible assumption | with_reducible (apply latch_regWrite)

theorem latch_setUart (a0 : ℕ) (a1 : Uart → Uart) (a2 : State) (h0 : Kept c a2) : Kept c (setUart a0 a1 a2) := by
  delta setUart
  repeat' first | (intro v; subst v) | lift_lets | with_reducible assumption | simp only [kept_mk] | with_reducible refine kept_q ?_

theorem latch_uartTx (a0 : ℕ) (a1 : BitVec 8) (a2 : State) (h0 : Kept c a2) : Kept c (uartTx a0 a1 a2) := by
  delta uartTx
  repeat' first | (intro v; subst v) | lift_lets | with_reducible assumption | with_reducible (apply latch_raise) | with_reducible (apply latch_setUart) | split

theorem latch_writeIoctl (a0 : ℕ) (a1 : Word) (a2 : State) (h0 : Kept c a2) : Kept c (writeIoctl a0 a1 a2) := by
  delta writeIoctl
  repeat' first | lift_lets | with_reducible assumption | with_reducible (apply latch_bFuncWrite) | with_reducible (apply latch_setDriver) | with_reducible (apply latch_setUart) | with_reducible (apply latch_uartTx) | with_reducible (apply latch_regWrite) | with_reducible (apply kept_foldl) | intro _ | split

theorem latch_busWrite (a : Writer) (off : Nat) (v : Word) (s : State)
    (hr : ∀ x, a = some x → x.master = .host → off = 0x09000C → fld v 31 16 = 0x9610 → fld v 15 12 = 2 → c.ok (Vector.replicate 3 false))
    (h : Kept c s) : Kept c (busWrite a off v s) := by
  delta busWrite
  dsimp only
  split
  case h_6 hq => exact latch_writeQuench _ _ _ _ (fun x hx hw ho => hr x hx hw (by omega)) h
  all_goals first
    | with_reducible (apply latch_writeTime)
    | with_reducible (apply latch_writeRtk)
    | with_reducible (apply latch_writeGrid)
    | with_reducible (apply latch_writeSetpt)
    | with_reducible (apply latch_writeRadio)
    | with_reducible (apply latch_writeDispatch)
    | with_reducible (apply latch_writeHostif)
    | with_reducible (apply latch_writeGeode)
    | with_reducible (apply latch_writeAssay)
    | with_reducible (apply latch_writeIoctl)
    | with_reducible (apply latch_regWrite)
    | split
  all_goals first
    | with_reducible assumption
    | with_reducible (apply latch_portEnable)
    | with_reducible (apply latch_regWrite)
    | with_reducible (apply latch_linkEnWrite)
    | with_reducible (apply latch_sumSelect)
    | (rw [kept_mk]; exact kept_q h)
  all_goals with_reducible assumption

theorem latch_applyPairs (a0 : List (ℕ × Word)) (a1 : State) (h : Kept c a1) : Kept c (applyPairs a0 a1) :=
  kept_foldl h fun _ _ h => latch_busWrite _ _ _ _ (fun _ hx => nomatch hx) h

theorem latch_formTwin (a0 : List Gather) (a1 : State) (h0 : Kept c a1) : Kept c (formTwin a0 a1) := by
  delta formTwin
  repeat' first | (intro v; refine kept_in c v ?_ ?_ <;> [subst v; (clear_value v; intro _)]) | (intro v; subst v) | lift_lets | with_reducible assumption | with_reducible (apply latch_leaveLink) | simp only [kept_mk] | with_reducible refine kept_q ?_ | split

theorem latch_putSlot (a0 : ℕ) (a1 : ℕ) (a2 : Bytes) (a3 : State) (h0 : Kept c a3) : Kept c (putSlot a0 a1 a2 a3) := by
  delta putSlot
  repeat' first | (intro v; subst v) | lift_lets | with_reducible assumption | simp only [kept_mk] | with_reducible refine kept_q ?_

theorem latch_enterKey (a0 : ℕ) (a1 : ℕ) (a2 : Bytes) (a3 : State) (h0 : Kept c a3) : Kept c (enterKey a0 a1 a2 a3).2 := by
  delta enterKey
  repeat' first | (intro v; subst v) | lift_lets | with_reducible assumption | with_reducible (apply latch_putSlot) | dsimp only | split

theorem latch_unwrapInto (a0 : ℕ) (a1 : Bytes) (a2 : Bytes) (a3 : State) (h0 : Kept c a3) : Kept c (unwrapInto a0 a1 a2 a3).2 := by
  delta unwrapInto
  repeat' first | lift_lets | with_reducible assumption | with_reducible (apply latch_enterKey) | dsimp only | split

theorem latch_wrapStep (a0 : Bool × State) (a1 : ℕ × ℕ × Bytes) (h0 : Kept c a0.2) : Kept c (wrapStep a0 a1).2 := by
  delta wrapStep
  repeat' first | lift_lets | with_reducible assumption | with_reducible (apply latch_unwrapInto) | dsimp only | split

theorem latch_unwrapAll (a0 : List (ℕ × ℕ × Bytes)) (a1 : State) (h0 : Kept c a1) : Kept c (unwrapAll a0 a1).2 := by
  delta unwrapAll
  repeat' first | lift_lets | with_reducible assumption | with_reducible (apply latch_wrapStep) | with_reducible (apply kept_foldl2)

theorem latch_eraseSlots (a0 : State) (h0 : Kept c a0) : Kept c (eraseSlots a0) := by
  delta eraseSlots
  repeat' first | (intro v; subst v) | lift_lets | with_reducible assumption | simp only [kept_mk] | with_reducible refine kept_q ?_

theorem latch_freshVault (a0 : List Gather) (a1 : State) (h0 : Kept c a1) : Kept c (freshVault a0 a1) := by
  delta freshVault
  repeat' first | (intro v; subst v) | lift_lets | with_reducible assumption | with_reducible (apply latch_eraseSlots) | simp only [kept_mk] | with_reducible refine kept_q ?_

theorem latch_formGeode (a0 : List Gather) (a1 : State) (h0 : Kept c a1) : Kept c (formGeode a0 a1) := by
  delta formGeode
  repeat' first | lift_lets | with_reducible assumption | with_reducible (apply latch_unwrapAll) | with_reducible (apply latch_freshVault)

theorem latch_applyImage (a0 : List Gather) (a1 : Bool) (a2 : State) (h0 : Kept c a2) : Kept c (applyImage a0 a1 a2) := by
  delta applyImage
  repeat' first | (intro v; refine kept_in c v ?_ ?_ <;> [subst v; (clear_value v; intro _)]) | lift_lets | with_reducible assumption | with_reducible (apply latch_formDispatch) | with_reducible (apply latch_formQueues) | with_reducible (apply latch_formLode) | with_reducible (apply latch_formSwitch) | with_reducible (apply latch_formCounts) | with_reducible (apply latch_resetBlocks) | with_reducible (apply latch_formGrid) | with_reducible (apply latch_formRtk) | with_reducible (apply latch_formGnss) | with_reducible (apply latch_formTime) | with_reducible (apply latch_formStrata) | with_reducible (apply latch_formAssay) | with_reducible (apply latch_formRadio) | with_reducible (apply latch_formSetpt) | with_reducible (apply latch_realignTicks) | with_reducible (apply latch_applyPairs) | with_reducible (apply latch_formTwin) | with_reducible (apply latch_formGeode)

theorem latch_startApplying (a0 : State) (h0 : Kept c a0) : Kept c (startApplying a0) := by
  delta startApplying
  repeat' first | (intro v; subst v) | lift_lets | with_reducible assumption | with_reducible (apply latch_toMode) | with_reducible (apply latch_finishRequest) | with_reducible (apply latch_discard) | split

theorem latch_applyForm (a0 : Load) (a1 : State) (h0 : Kept c a1) : Kept c (applyForm a0 a1) := by
  delta applyForm
  repeat' first | (intro v; refine kept_in c v ?_ ?_ <;> [subst v; (clear_value v; intro _)]) | (intro v; subst v) | lift_lets | with_reducible assumption | with_reducible (apply latch_applyImage) | with_reducible (apply latch_startApplying) | simp only [kept_mk] | with_reducible refine kept_q ?_

theorem latch_mirrorEntries (a0 : List (ℕ × LodeEntry)) (a1 : State) (h0 : Kept c a1) : Kept c (mirrorEntries a0 a1) := by
  refine kept_foldl (kept_foldl h0 fun s x hs => ?_) fun s x hs => ?_
  · split
    · exact latch_deleteWritten _ _ _ hs
    · exact hs
  · split
    · cases hw : writeEntry _ x.2 s with
      | none => exact latch_tableFull _ _ hs
      | some t => exact latch_writeEntry _ _ _ hs _ hw
    · exact hs

theorem latch_setGridMach (a0 : ℕ) (a1 : GridMach → GridMach) (a2 : State) (h0 : Kept c a2) : Kept c (setGridMach a0 a1 a2) := by
  delta setGridMach
  repeat' first | (intro v; subst v) | lift_lets | with_reducible assumption | simp only [kept_mk] | with_reducible refine kept_q ?_

theorem latch_mirrorMach (a0 : State) (a1 : ℕ × GridMach) (h0 : Kept c a0) : Kept c (mirrorMach a0 a1) := by
  delta mirrorMach
  repeat' first | lift_lets | with_reducible assumption | with_reducible (apply latch_setGridMach)

theorem latch_applyGrid (a0 : MirGrid) (a1 : State) (h0 : Kept c a1) : Kept c (applyGrid a0 a1) := by
  delta applyGrid
  repeat' first | (intro v; refine kept_in c v ?_ ?_ <;> [subst v; (clear_value v; intro _)]) | (intro v; subst v) | lift_lets | with_reducible assumption | with_reducible (apply latch_mirrorEntries) | with_reducible (apply latch_mirrorMach) | with_reducible (apply kept_foldl) | simp only [kept_mk] | with_reducible refine kept_q ?_

theorem latch_applyGroups (a0 : State) (h0 : Kept c a0) : Kept c (applyGroups a0) := by
  delta applyGroups
  repeat' first | (intro v; subst v) | lift_lets | with_reducible assumption | simp only [kept_mk] | with_reducible refine kept_q ?_

theorem latch_applyMove (a0 : TableDesc) (a1 : Inst) (a2 : ℕ × ℕ) (a3 : LodeEntry) (a4 : LearnReq) (a5 : State) (h0 : Kept c a5) : Kept c (applyMove a0 a1 a2 a3 a4 a5) := by
  delta applyMove
  repeat' first | (intro v; refine kept_in c v ?_ ?_ <;> [subst v; (clear_value v; intro _)]) | (intro v; subst v) | lift_lets | with_reducible assumption | with_reducible (apply latch_setInst) | with_reducible (apply latch_excess) | with_reducible (apply latch_bumpLode) | with_reducible (apply latch_raise) | dsimp only | split

theorem latch_applyLearn (a0 : TableDesc) (a1 : Inst) (a2 : LearnReq) (a3 : State) (h0 : Kept c a3) : Kept c (applyLearn a0 a1 a2 a3) := by
  delta applyLearn
  repeat' first | lift_lets | with_reducible assumption | with_reducible (apply latch_setInst) | with_reducible (apply latch_bumpLode) | with_reducible (apply latch_applyMove) | with_reducible (apply latch_excess) | with_reducible (apply latch_drawn64) | with_reducible (apply latch_raise) | dsimp only | split

theorem latch_applyPair (a0 : MirPair) (a1 : State) (h0 : Kept c a1) : Kept c (applyPair a0 a1) := by
  delta applyPair
  repeat' first | (intro v; subst v) | lift_lets | with_reducible assumption | simp only [kept_mk] | with_reducible refine kept_q ?_

theorem latch_applyRadio (a0 : MirRadio) (a1 : State) (h0 : Kept c a1) : Kept c (applyRadio a0 a1) := by
  delta applyRadio
  repeat' first | (intro v; subst v) | lift_lets | with_reducible assumption | with_reducible (apply latch_applyCorr) | simp only [kept_mk] | with_reducible refine kept_q ?_

theorem latch_applyRecord (a0 : State) (a1 : MirRecord) (h0 : Kept c a0) : Kept c (applyRecord a0 a1) := by
  delta applyRecord
  repeat' first | (intro v; subst v) | lift_lets | with_reducible assumption | with_reducible (apply latch_applyPair) | with_reducible (apply latch_applyGrid) | with_reducible (apply latch_applyRadio) | with_reducible (apply latch_applyAssay) | simp only [kept_mk] | with_reducible refine kept_q ?_ | split

theorem latch_applyReform (a0 : Load) (a1 : State) (h0 : Kept c a1) : Kept c (applyReform a0 a1) := by
  delta applyReform
  repeat' first | (intro v; subst v) | lift_lets | with_reducible assumption | with_reducible (apply latch_setLoad) | simp only [kept_mk] | with_reducible refine kept_q ?_

theorem latch_askAnneal (a0 : ℕ) (a1 : Bool) (a2 : Bool) (a3 : State) (h0 : Kept c a3) : Kept c (askAnneal a0 a1 a2 a3) := by
  delta askAnneal
  repeat' first | (intro v; refine kept_in c v ?_ ?_ <;> [subst v; (clear_value v; intro _)]) | (intro v; subst v) | lift_lets | with_reducible assumption | with_reducible (apply latch_setGridMach) | with_reducible (apply latch_raise) | with_reducible (apply latch_bumpGrid) | split

theorem latch_setptQuench (a0 : ℕ) (a1 : State) (h0 : Kept c a1) : Kept c (setptQuench a0 a1) := by
  delta setptQuench
  repeat' first | lift_lets | with_reducible assumption | with_reducible (apply latch_machineQuench) | with_reducible (apply latch_raise) | with_reducible (apply latch_bumpSetpt)

theorem latch_askExtend (a0 : ℕ) (a1 : Option ℕ) (a2 : State) (h0 : Kept c a2) : Kept c (askExtend a0 a1 a2) := by
  delta askExtend
  repeat' first | (intro v; refine kept_in c v ?_ ?_ <;> [subst v; (clear_value v; intro _)]) | (intro v; subst v) | lift_lets | with_reducible assumption | with_reducible (apply latch_bumpSetpt) | with_reducible (apply latch_setptQuench) | simp only [kept_mk] | with_reducible refine kept_q ?_ | split

theorem latch_via (a0 : State → Out) (a1 : State) (h0 : ∀ t, a0 a1 = .next t → Kept c t) (h : Kept c a1) : Kept c (via a0 a1) := by
  unfold via
  split
  · exact h0 _ ‹_›
  · exact h

theorem latch_bus (a0 : State) (a1 : State → State) (h0 : Kept c a0) (h1 : ∀ (b0 : State), Kept c b0 → Kept c (a1 b0)) : Kept c (bus a0 a1) := by
  delta bus
  repeat' first | lift_lets | with_reducible assumption | with_reducible (apply h1) | split

theorem latch_execAssaySnapshot (a0 : Master) (a1 : Fin 16) (a2 : State) (h0 : Kept c a2) : (∀ t, execAssaySnapshot a0 a1 a2 = .next t → Kept c t) := by
  intro t h
  cases h
  repeat' first | lift_lets | with_reducible assumption | with_reducible (apply latch_bus) | simp only [kept_mk] | with_reducible refine kept_q ?_ | intro _

theorem latch_assayEnd (a0 : AsResult) (a1 : State) (h0 : Kept c a1) : Kept c (assayEnd a0 a1) := by
  delta assayEnd
  repeat' first | (intro v; subst v) | lift_lets | with_reducible assumption | with_reducible (apply latch_raise) | simp only [kept_mk] | with_reducible refine kept_q ?_

theorem latch_execCheckpoint (a0 : Bool) (a1 : State) (h0 : Kept c a1) : (∀ t, execCheckpoint a0 a1 = .next t → Kept c t) := by
  intro t h
  cases h
  repeat' first | lift_lets | with_reducible assumption | with_reducible (apply latch_bus) | with_reducible (apply latch_assayEnd) | with_reducible (apply latch_checkpointAll) | intro _ | split

theorem latch_execRebase (a0 : Access) (a1 : Fin 16) (a2 : Fin 4) (a3 : Bool) (a4 : State) (h0 : Kept c a4) : (∀ t, execRebase a0 a1 a2 a3 a4 = .next t → Kept c t) := by
  intro t h
  cases h
  repeat' first | lift_lets | with_reducible assumption | with_reducible (apply latch_bus) | with_reducible (apply latch_assayEnd) | with_reducible (apply latch_setAs) | intro _ | split

theorem latch_closeOne (a0 : Bool) (a1 : State) (a2 : ℕ) (h0 : Kept c a1) : Kept c (closeOne a0 a1 a2) := by
  delta closeOne
  repeat' first | (intro v; refine kept_in c v ?_ ?_ <;> [subst v; (clear_value v; intro _)]) | (intro v; subst v) | lift_lets | with_reducible assumption | with_reducible (apply latch_setAs) | with_reducible (apply latch_raise) | simp only [kept_mk] | with_reducible refine kept_q ?_ | split

theorem latch_execCloseInterval (a0 : Bool) (a1 : Fin 16) (a2 : Bool) (a3 : State) (h0 : Kept c a3) : (∀ t, execCloseInterval a0 a1 a2 a3 = .next t → Kept c t) := by
  intro t h
  cases h
  repeat' first | lift_lets | with_reducible assumption | with_reducible (apply latch_bus) | with_reducible (apply latch_assayEnd) | with_reducible (apply latch_closeOne) | with_reducible (apply kept_foldl) | intro _ | split

theorem latch_assayCommand (a0 : Access) (a1 : ℕ) (a2 : Word) (a3 : State) (h0 : Kept c a3) : Kept c (assayCommand a0 a1 a2 a3) := by
  delta assayCommand
  repeat' first | (intro v; subst v) | lift_lets | with_reducible assumption | with_reducible (refine latch_via _ _ (fun _ h => latch_execAssaySnapshot _ _ _ ?_ _ h) ?_) | with_reducible (refine latch_via _ _ (fun _ h => latch_execCheckpoint _ _ ?_ _ h) ?_) | with_reducible (refine latch_via _ _ (fun _ h => latch_execRebase _ _ _ _ _ ?_ _ h) ?_) | with_reducible (refine latch_via _ _ (fun _ h => latch_execCloseInterval _ _ _ _ ?_ _ h) ?_) | with_reducible (apply latch_assayEnd) | with_reducible (apply latch_writeAssay) | split

theorem latch_atLaunch (a0 : ℕ) (a1 : QFrame) (a2 : State) (h0 : Kept c a2) : Kept c (atLaunch a0 a1 a2) := by
  delta atLaunch
  repeat' first | (intro v; subst v) | lift_lets | with_reducible assumption | with_reducible (apply latch_advanceTo)

theorem latch_railsOff (a0 : State) (h0 : Kept c a0) : Kept c (railsOff a0) := by
  delta railsOff
  repeat' first | (intro v; subst v) | lift_lets | with_reducible assumption | simp only [kept_mk] | with_reducible refine kept_q ?_

theorem latch_critHold (a0 : State) (h0 : Kept c a0) : Kept c (critHold a0) := by
  delta critHold
  repeat' first | (intro v; subst v) | lift_lets | with_reducible assumption | with_reducible (apply latch_railsOff) | with_reducible (apply latch_mainReset) | simp only [kept_mk] | with_reducible refine kept_q ?_ | split

theorem latch_critAction (a0 : State) (h0 : Kept c a0) : Kept c (critAction a0) := by
  delta critAction
  repeat' first | lift_lets | with_reducible assumption | with_reducible (apply latch_critHold) | with_reducible (apply latch_acceptDormant) | split

theorem latch_battCritNow (a0 : State) (h0 : Kept c a0) : Kept c (battCritNow a0) := by
  delta battCritNow
  repeat' first | (intro v; refine kept_in c v ?_ ?_ <;> [subst v; (clear_value v; intro _)]) | (intro v; subst v) | lift_lets | with_reducible assumption | with_reducible (apply latch_settleVote) | with_reducible (apply latch_critAction) | simp only [kept_mk] | with_reducible refine kept_q ?_ | split

theorem latch_modeRequest_endBusy (a0 : Option (BitVec 8)) (a1 : State) (h0 : Kept c a1) : Kept c (modeRequest.endBusy a0 a1) := by
  delta modeRequest.endBusy
  repeat' first | (intro v; subst v) | lift_lets | with_reducible assumption | with_reducible (apply latch_wardenAnswer) | with_reducible (apply latch_raise) | simp only [kept_mk] | with_reducible refine kept_q ?_ | split

theorem latch_modeRequest (a0 : ℕ) (a1 : Master) (a2 : Option (BitVec 8)) (a3 : State) (h0 : Kept c a3) : Kept c (modeRequest a0 a1 a2 a3) := by
  delta modeRequest
  repeat' first | (intro v; subst v) | lift_lets | with_reducible assumption | with_reducible (apply latch_modeRequest_endBusy) | with_reducible (apply latch_endRequest) | with_reducible (apply latch_acceptDormant) | simp only [kept_mk] | with_reducible refine kept_q ?_ | split

theorem latch_battLowNow (a0 : State) (h0 : Kept c a0) : Kept c (battLowNow a0) := by
  delta battLowNow
  repeat' first | (intro v; subst v) | lift_lets | with_reducible assumption | with_reducible (apply latch_modeRequest) | with_reducible (apply latch_raise) | simp only [kept_mk] | with_reducible refine kept_q ?_ | split

theorem latch_poisonLines (a0 : ℕ) (a1 : State) (h0 : Kept c a1) : Kept c (poisonLines a0 a1) := by
  delta poisonLines
  repeat' first | (intro v; subst v) | lift_lets | with_reducible assumption | with_reducible (apply latch_drawn) | simp only [kept_mk] | with_reducible refine kept_q ?_

theorem latch_epochGone (a0 : ℕ) (a1 : MachEpoch) (a2 : State) (h0 : Kept c a2) : Kept c (epochGone a0 a1 a2) := by
  delta epochGone
  repeat' first | (intro v; refine kept_in c v ?_ ?_ <;> [subst v; (clear_value v; intro _)]) | (intro v; subst v) | lift_lets | with_reducible assumption | with_reducible (apply latch_setRtkMach) | simp only [kept_mk] | with_reducible refine kept_q ?_ | split

theorem latch_toCairn (a0 : State) (h0 : Kept c a0) : Kept c (toCairn a0) := by
  delta toCairn
  repeat' first | (intro v; subst v) | lift_lets | with_reducible assumption | with_reducible (apply latch_raise) | simp only [kept_mk] | with_reducible refine kept_q ?_ | split

theorem latch_loseWork (a0 : ResKind) (a1 : ℕ) (a2 : State) (h0 : Kept c a2) : Kept c (loseWork a0 a1 a2) := by
  delta loseWork
  repeat' first | lift_lets | with_reducible assumption | with_reducible (apply latch_setChain) | with_reducible (apply latch_poisonLines) | with_reducible (apply latch_stopCore) | with_reducible (apply latch_epochGone) | with_reducible (apply latch_toCairn) | split

theorem latch_setBank (a0 : ℕ) (a1 : Bank → Bank) (a2 : State) (h0 : Kept c a2) : Kept c (setBank a0 a1 a2) := by
  delta setBank
  repeat' first | (intro v; subst v) | lift_lets | with_reducible assumption | simp only [kept_mk] | with_reducible refine kept_q ?_

theorem latch_blockChannels (a0 : ℕ) (a1 : Channel → Channel) (a2 : State) (h0 : Kept c a2) : Kept c (blockChannels a0 a1 a2) := by
  delta blockChannels
  repeat' first | (intro v; subst v) | lift_lets | with_reducible assumption | simp only [kept_mk] | with_reducible refine kept_q ?_

theorem latch_beginTest (a0 : ResKind) (a1 : ℕ) (a2 : State) (h0 : Kept c a2) : Kept c (beginTest a0 a1 a2) := by
  delta beginTest
  repeat' first | (intro v; refine kept_in c v ?_ ?_ <;> [subst v; (clear_value v; intro _)]) | (intro v; subst v) | lift_lets | with_reducible assumption | with_reducible (apply latch_loseWork) | with_reducible (apply latch_driveOutputs) | with_reducible (apply latch_settleVote) | with_reducible (apply latch_raise) | with_reducible (apply latch_bumpQuench) | with_reducible (apply latch_setQch) | with_reducible (apply latch_setChain) | with_reducible (apply latch_setCore) | with_reducible (apply latch_leaveLink) | with_reducible (apply latch_setBank) | with_reducible (apply latch_blockChannels) | simp only [kept_mk] | with_reducible refine kept_q ?_ | intro _ | split

theorem latch_setActs (a0 : ℕ) (a1 : ℕ) (a2 : State) (h0 : Kept c a2) : Kept c (setActs a0 a1 a2) := by
  delta setActs
  repeat' first | (intro v; subst v) | lift_lets | with_reducible assumption | simp only [kept_mk] | with_reducible refine kept_q ?_

theorem latch_postTask (a0 : ℕ) (a1 : State) (h0 : Kept c a1) : Kept c (postTask a0 a1) := by
  delta postTask
  repeat' first | lift_lets | with_reducible assumption | with_reducible (apply latch_settleTask) | with_reducible (apply latch_setActs) | split

theorem latch_bindEdge (a0 : ℕ) (a1 : State) (h0 : Kept c a1) : Kept c (bindEdge a0 a1) := by
  delta bindEdge
  repeat' first | (intro v; subst v) | lift_lets | with_reducible assumption | with_reducible (apply latch_postTask) | simp only [kept_mk] | with_reducible refine kept_q ?_ | split

theorem latch_overdraw (a0 : ℕ) (a1 : State) (h0 : Kept c a1) : Kept c (overdraw a0 a1) := by
  delta overdraw
  repeat' first | (intro v; subst v) | lift_lets | with_reducible assumption | with_reducible (apply latch_note) | with_reducible (apply latch_raise) | split

theorem latch_breakQuench (a0 : ℕ) (a1 : State) (h0 : Kept c a1) : Kept c (breakQuench a0 a1) := by
  delta breakQuench
  repeat' first | lift_lets | with_reducible assumption | with_reducible (apply latch_keyFault) | with_reducible (apply latch_emit) | with_reducible (apply latch_raise) | with_reducible (apply latch_bumpChain) | with_reducible (apply latch_overdraw) | dsimp only | split

theorem latch_breakChain (a0 : ℕ) (a1 : State) (h0 : Kept c a1) : Kept c (breakChain a0 a1) := by
  delta breakChain
  repeat' first | (intro v; subst v) | lift_lets | with_reducible assumption | with_reducible (apply latch_breakQuench) | with_reducible (apply latch_setChain) | split

theorem latch_mbPop (a0 : ℕ) (a1 : Bool) (a2 : State) (h0 : Kept c a2) : Kept c (mbPop a0 a1 a2) := by
  delta mbPop
  repeat' first | (intro v; refine kept_in c v ?_ ?_ <;> [subst v; (clear_value v; intro _)]) | (intro v; subst v) | lift_lets | with_reducible assumption | with_reducible (apply latch_setMb) | simp only [kept_mk] | with_reducible refine kept_q ?_ | split

theorem latch_mailboxRead (a0 : Master) (a1 : ℕ) (a2 : Bool) (a3 : State) (h0 : Kept c a3) : Kept c (mailboxRead a0 a1 a2 a3) := by
  delta mailboxRead
  repeat' first | lift_lets | with_reducible assumption | with_reducible (apply latch_mbPop) | simp only [kept_mk] | with_reducible refine kept_q ?_ | split

theorem latch_lockRead (a0 : ℕ) (a1 : Master) (a2 : Option Master) (a3 : State) (h0 : Kept c a3) : Kept c (lockRead a0 a1 a2 a3) := by
  delta lockRead
  repeat' first | (intro v; subst v) | lift_lets | with_reducible assumption | simp only [kept_mk] | with_reducible refine kept_q ?_ | split

theorem latch_selectGo (a0 : ℕ) (a1 : ℕ) (a2 : ℕ) (a3 : State) (h0 : Kept c a3) : Kept c (selectGo a0 a1 a2 a3).2 := by
  induction a2 generalizing a3 <;> unfold selectGo
  repeat' first | (intro v; subst v) | lift_lets | with_reducible assumption | with_reducible apply_assumption | split

theorem latch_selectTask (a0 : ℕ) (a1 : State) (h0 : Kept c a1) : Kept c (selectTask a0 a1).2 := by
  delta selectTask
  repeat' first | lift_lets | with_reducible assumption | with_reducible (apply latch_selectGo) | split

theorem latch_takeOne (a0 : ℕ) (a1 : State) (h0 : Kept c a1) : Kept c (takeOne a0 a1).2 := by
  delta takeOne
  repeat' first | lift_lets | with_reducible assumption | with_reducible (apply latch_selectTask) | with_reducible (apply latch_setActs) | with_reducible (apply latch_setCore) | with_reducible (apply latch_settleTask) | dsimp only | refine kept_snd ‹_ = (_, _)› ?_ | split

theorem latch_takeEarly (a0 : ℕ) (a1 : State) (h0 : Kept c a1) : Kept c (takeEarly a0 a1) := by
  delta takeEarly
  repeat' first | (intro v; refine kept_in c v ?_ ?_ <;> [subst v; (clear_value v; intro _)]) | (intro v; refine kept_in c (Prod.snd v) ?_ ?_ <;> [subst v; (clear_value v; intro _)]) | (intro v; subst v) | lift_lets | with_reducible assumption | with_reducible (apply latch_takeOne) | simp only [kept_mk] | with_reducible refine kept_q ?_

theorem latch_takeTask (a0 : ℕ) (a1 : ℕ) (a2 : State) (h0 : Kept c a2) : Kept c (takeTask a0 a1 a2) := by
  delta takeTask
  repeat' first | (intro v; refine kept_in c v ?_ ?_ <;> [subst v; (clear_value v; intro _)]) | (intro v; refine kept_in c (Prod.snd v) ?_ ?_ <;> [subst v; (clear_value v; intro _)]) | (intro v; subst v) | lift_lets | with_reducible assumption | with_reducible (apply latch_takeOne) | with_reducible (apply latch_takeEarly) | with_reducible (apply kept_foldl) | simp only [kept_mk] | with_reducible refine kept_q ?_ | intro _ | split

theorem latch_takeRead (a0 : Master) (a1 : ℕ) (a2 : State) (h0 : Kept c a2) : Kept c (takeRead a0 a1 a2) := by
  delta takeRead
  repeat' first | lift_lets | with_reducible assumption | with_reducible (apply latch_takeTask) | simp only [kept_mk] | with_reducible refine kept_q ?_ | split

theorem latch_captureRead (a0 : State) (h0 : Kept c a0) : Kept c (captureRead a0) := by
  delta captureRead
  repeat' first | (intro v; subst v) | lift_lets | with_reducible assumption | simp only [kept_mk] | with_reducible refine kept_q ?_ | split

theorem latch_txtsRead (a0 : State) (h0 : Kept c a0) : Kept c (txtsRead a0) := by
  delta txtsRead
  repeat' first | (intro v; subst v) | lift_lets | with_reducible assumption | simp only [kept_mk] | with_reducible refine kept_q ?_ | split

theorem latch_readUpper (a0 : Master) (a1 : ℕ) (a2 : ℕ) (a3 : State) (h0 : Kept c a3) : Kept c (readUpper a0 a1 a2 a3) := by
  delta readUpper
  repeat' first | (intro v; refine kept_in c v ?_ ?_ <;> [subst v; (clear_value v; intro _)]) | (intro v; subst v) | lift_lets | with_reducible assumption | with_reducible (apply latch_setCount) | simp only [kept_mk] | with_reducible refine kept_q ?_

theorem latch_drawChallenge (a0 : Access) (a1 : State) (h0 : Kept c a1) : Kept c (drawChallenge a0 a1) := by
  delta drawChallenge
  repeat' first | (intro v; refine kept_in c v ?_ ?_ <;> [subst v; (clear_value v; intro _)]) | (intro v; subst v) | lift_lets | with_reducible assumption | with_reducible (apply latch_drawn) | simp only [kept_mk] | with_reducible refine kept_q ?_ | split

theorem latch_uartRxRead (a0 : ℕ) (a1 : State) (h0 : Kept c a1) : Kept c (uartRxRead a0 a1) := by
  delta uartRxRead
  repeat' first | lift_lets | with_reducible assumption | with_reducible (apply latch_setUart) | simp only [kept_mk] | with_reducible refine kept_q ?_ | split

theorem latch_sideRead (x : Access) (off n : Nat) (s : State) (h : Kept c s) : ∀ f, sideRead x off n = some f → Kept c (f s) := by
  intro f hf
  delta sideRead at hf
  dsimp only at hf
  split at hf
  · obtain rfl := Option.some.inj hf; exact latch_mailboxRead _ _ _ _ h
  split at hf
  · obtain rfl := Option.some.inj hf; exact latch_mailboxRead _ _ _ _ h
  split at hf
  · obtain rfl := Option.some.inj hf; exact latch_lockRead _ _ _ _ h
  split at hf
  · obtain rfl := Option.some.inj hf; exact latch_takeRead _ _ _ h
  split at hf
  all_goals first | (obtain rfl := Option.some.inj hf) | (exact absurd hf (by simp))
  · exact latch_captureRead _ h
  · exact latch_txtsRead _ h
  · exact latch_readUpper _ _ _ _ h
  · exact latch_readUpper _ _ _ _ h
  · rw [kept_mk]; exact kept_q h
  · rw [kept_mk]; exact kept_q h
  · exact latch_drawChallenge _ _ h
  · exact latch_uartRxRead _ _ h
  · exact latch_uartRxRead _ _ h

theorem latch_putShadow (a0 : Master) (a1 : ℕ) (a2 : Word) (a3 : State) (h0 : Kept c a3) : Kept c (putShadow a0 a1 a2 a3) := by
  delta putShadow
  repeat' first | lift_lets | with_reducible assumption | simp only [kept_mk] | with_reducible refine kept_q ?_

theorem latch_readWhole (a0 : Master) (a1 : ℕ) (a2 : ℕ) (a3 : ℕ) (a4 : State) (h0 : Kept c a4) : Kept c (readWhole a0 a1 a2 a3 a4) := by
  delta readWhole
  repeat' first | (intro v; refine kept_in c v ?_ ?_ <;> [subst v; (clear_value v; intro _)]) | (intro v; subst v) | lift_lets | with_reducible assumption | with_reducible (apply latch_setCount) | with_reducible (apply latch_putShadow) | simp only [kept_mk] | with_reducible refine kept_q ?_ | split

theorem latch_readLower (a0 : Master) (a1 : ℕ) (a2 : ℕ) (a3 : State) (h0 : Kept c a3) : Kept c (readLower a0 a1 a2 a3) := by
  delta readLower
  repeat' first | lift_lets | with_reducible assumption | with_reducible (apply latch_putShadow) | simp only [kept_mk] | with_reducible refine kept_q ?_

theorem latch_wordRead (a0 : Access) (a1 a2 : Nat) (a3 : State) (h0 : Kept c a3) : Kept c (wordRead a0 a1 a2 a3) := by
  delta wordRead
  split
  · rw [kept_mk]; exact kept_q h0
  · split
    · exact latch_sideRead _ _ _ _ h0 _ ‹_›
    · split
      · exact latch_readWhole _ _ _ _ _ h0
      · exact latch_readLower _ _ _ _ h0
      · dsimp only
        split <;> rw [kept_mk]
        · exact kept_q (latch_drawn _ h0)
        · exact kept_q h0

theorem latch_busRead (a0 : Access) (a1 : ℕ) (a2 : Width) (a3 : ℕ) (a4 : State) (h0 : Kept c a4) : Kept c (busRead a0 a1 a2 a3 a4) := by
  delta busRead
  repeat' first | (intro v; refine kept_in c v ?_ ?_ <;> [subst v; (clear_value v; intro _)]) | lift_lets | with_reducible assumption | with_reducible (apply latch_accessFault) | with_reducible (apply latch_wordRead) | simp only [kept_mk] | with_reducible refine kept_q ?_ | split

theorem latch_cancelTask (a0 : ℕ) (a1 : State) (h0 : Kept c a1) : Kept c (cancelTask a0 a1) := by
  delta cancelTask
  repeat' first | (intro v; refine kept_in c v ?_ ?_ <;> [subst v; (clear_value v; intro _)]) | (intro v; subst v) | lift_lets | with_reducible assumption | with_reducible (apply latch_settleTask) | with_reducible (apply latch_setActs) | with_reducible (apply latch_setCore) | with_reducible (apply kept_foldl) | simp only [kept_mk] | with_reducible refine kept_q ?_ | intro _

theorem latch_dropTried (a0 : ℕ) (a1 : State) (h0 : Kept c a1) : Kept c (dropTried a0 a1) := by
  delta dropTried
  repeat' first | lift_lets | with_reducible assumption | with_reducible (apply latch_bumpChain) | with_reducible (apply latch_setChain) | split

theorem latch_chainBegin (a0 : ℕ) (a1 : State) (h0 : Kept c a1) : Kept c (chainBegin a0 a1) := by
  delta chainBegin
  repeat' first | lift_lets | with_reducible assumption | with_reducible (apply latch_dropTried) | with_reducible (apply latch_setChain) | with_reducible (apply latch_settleChain)

theorem latch_checksPassed (a0 : Load) (a1 : ImageHeader) (a2 : State) (h0 : Kept c a2) : Kept c (checksPassed a0 a1 a2) := by
  delta checksPassed
  repeat' first | (intro v; refine kept_in c v ?_ ?_ <;> [subst v; (clear_value v; intro _)]) | lift_lets | with_reducible assumption | with_reducible (apply latch_setLoad) | with_reducible (apply latch_doneNow) | with_reducible (apply latch_startStore) | with_reducible (apply latch_applyForm) | with_reducible (apply latch_applyReform) | split

theorem latch_yieldUnit (a0 : ℕ) (a1 : State) (h0 : Kept c a1) : Kept c (yieldUnit a0 a1) := by
  delta yieldUnit
  repeat' first | lift_lets | with_reducible assumption | with_reducible (apply latch_toMode) | with_reducible (apply latch_finishRequest) | with_reducible (apply latch_dropClaim) | split

theorem latch_yieldRequest (a0 : State) (h0 : Kept c a0) : Kept c (yieldRequest a0) := by
  delta yieldRequest
  repeat' first | lift_lets | with_reducible assumption | with_reducible (apply latch_raise) | with_reducible (apply latch_bump) | with_reducible (apply latch_yieldUnit) | split

theorem latch_faultRecord (a0 : ℕ) (a1 : ℕ) (a2 : ℕ) (a3 : ℕ) (a4 : State) (h0 : Kept c a4) : Kept c (faultRecord a0 a1 a2 a3 a4) := by
  delta faultRecord
  repeat' first | lift_lets | with_reducible assumption | with_reducible (apply latch_writeRecord) | with_reducible (apply latch_note) | split

theorem latch_classCount (a0 : FaultClass) (a1 : ℕ) (a2 : ℕ) (a3 : Bool) (a4 : Bool) (a5 : BitVec 64) (a6 : State) (h0 : Kept c a6) : Kept c (classCount a0 a1 a2 a3 a4 a5 a6) := by
  delta classCount
  repeat' first | (intro v; refine kept_in c v ?_ ?_ <;> [subst v; (clear_value v; intro _)]) | (intro v; subst v) | lift_lets | with_reducible assumption | with_reducible (apply latch_bump) | with_reducible (apply latch_raise) | with_reducible (apply latch_faultRecord) | simp only [kept_mk] | with_reducible refine kept_q ?_ | split

theorem latch_consequence (a0 : ℕ) (a1 : ℕ) (a2 : State) (h0 : Kept c a2) : Kept c (consequence a0 a1 a2) := by
  delta consequence
  repeat' first | lift_lets | with_reducible assumption | with_reducible (apply latch_classCount)

theorem latch_claimConflict (a0 : State) (h0 : Kept c a0) : Kept c (claimConflict a0) := by
  delta claimConflict
  repeat' first | lift_lets | with_reducible assumption | with_reducible (apply latch_yieldRequest) | with_reducible (apply latch_consequence) | with_reducible (apply latch_raise) | with_reducible (apply latch_bumpTwin)

theorem latch_claimNotch (a0 : ℕ) (a1 : SpecLine) (a2 : State) (h0 : Kept c a2) : Kept c (claimNotch a0 a1 a2) := by
  delta claimNotch
  repeat' first | (intro v; subst v) | lift_lets | with_reducible assumption | with_reducible (apply latch_drawn) | simp only [kept_mk] | with_reducible refine kept_q ?_ | split

theorem latch_loseTie (a0 : State) (h0 : Kept c a0) : Kept c (loseTie a0) := by
  delta loseTie
  repeat' first | (intro v; refine kept_in c v ?_ ?_ <;> [subst v; (clear_value v; intro _)]) | lift_lets | with_reducible assumption | with_reducible (apply latch_dropClaim) | with_reducible (apply latch_toMode) | split

theorem latch_claimSeen (a0 : State) (h0 : Kept c a0) : Kept c (claimSeen a0) := by
  delta claimSeen
  repeat' first | (intro v; subst v) | lift_lets | with_reducible assumption | with_reducible (apply latch_driveOutputs) | with_reducible (apply latch_closeGates) | with_reducible (apply latch_loseTie) | simp only [kept_mk] | with_reducible refine kept_q ?_ | split

theorem latch_setRes (a0 : ResRec) (a1 : State) (h0 : Kept c a1) : Kept c (setRes a0 a1) := by
  delta setRes
  repeat' first | (intro v; subst v) | lift_lets | with_reducible assumption | simp only [kept_mk] | with_reducible refine kept_q ?_

theorem latch_classify (a0 : ResKind) (a1 : ℕ) (a2 : FaultClass) (a3 : Bool) (a4 : Bool) (a5 : BitVec 64) (a6 : State) (h0 : Kept c a6) : Kept c (classify a0 a1 a2 a3 a4 a5 a6) := by
  delta classify
  repeat' first | (intro v; refine kept_in c v ?_ ?_ <;> [subst v; (clear_value v; intro _)]) | (intro v; subst v) | lift_lets | with_reducible assumption | with_reducible (apply latch_setRes) | with_reducible (apply latch_classCount)

theorem latch_clearOcc (a0 : State) (h0 : Kept c a0) : Kept c (clearOcc a0) := by
  delta clearOcc
  repeat' first | (intro v; subst v) | lift_lets | with_reducible assumption | simp only [kept_mk] | with_reducible refine kept_q ?_

theorem latch_closeBlock (a0 : State) (h0 : Kept c a0) : Kept c (closeBlock a0) := by
  delta closeBlock
  repeat' first | (intro v; subst v) | lift_lets | with_reducible assumption | simp only [kept_mk] | with_reducible refine kept_q ?_ | split

theorem latch_closeHost (a0 : Access) (a1 : State) (h0 : Kept c a1) : Kept c (closeHost a0 a1) := by
  delta closeHost
  repeat' first | (intro v; subst v) | lift_lets | with_reducible assumption | simp only [kept_mk] | with_reducible refine kept_q ?_ | split

theorem latch_coldStart (a0 : State) (h0 : Kept c a0) : Kept c (coldStart a0) := by
  delta coldStart
  repeat' first | (intro v; subst v) | lift_lets | with_reducible assumption | with_reducible (apply latch_raise) | simp only [kept_mk] | with_reducible refine kept_q ?_ | split

theorem latch_execResetCtrlMain (a0 : Word) (a1 : State) (h0 : Kept c a1) : (∀ t, execResetCtrlMain a0 a1 = .next t → Kept c t) := by
  intro t h
  cases h
  repeat' first | lift_lets | with_reducible assumption | with_reducible (apply latch_bus) | with_reducible (apply latch_mainReset) | intro _ | split

theorem latch_sysCommand (a0 : Master) (a1 : ℕ) (a2 : Word) (a3 : State) (h0 : Kept c a3) : Kept c (sysCommand a0 a1 a2 a3) := by
  delta sysCommand
  repeat' first | lift_lets | with_reducible assumption | with_reducible (apply latch_modeRequest) | with_reducible (refine latch_via _ _ (fun _ h => latch_execResetCtrlMain _ _ ?_ _ h) ?_) | with_reducible (apply latch_regWrite) | split

theorem latch_emptySource (a0 : Load) (a1 : State) (h0 : Kept c a1) : Kept c (emptySource a0 a1) := by
  delta emptySource
  repeat' first | (intro v; refine kept_in c v ?_ ?_ <;> [subst v; (clear_value v; intro _)]) | (intro v; subst v) | lift_lets | with_reducible assumption | with_reducible (apply latch_failNow) | with_reducible (apply latch_attemptFailed) | simp only [kept_mk] | with_reducible refine kept_q ?_ | split

theorem latch_startAction (a0 : ℕ) (a1 : Fin 4) (a2 : Fin 4) (a3 : State) (h0 : Kept c a3) : Kept c (startAction a0 a1 a2 a3) := by
  delta startAction
  repeat' first | (intro v; subst v) | lift_lets | with_reducible assumption | with_reducible (apply latch_reportErr) | with_reducible (apply latch_emptySource) | with_reducible (apply latch_beginLoad) | split

theorem latch_execMakeActive (a0 : Fin 4) (a1 : State) (h0 : Kept c a1) : (∀ t, execMakeActive a0 a1 = .next t → Kept c t) := by
  intro t h
  cases h
  repeat' first | lift_lets | with_reducible assumption | with_reducible (apply latch_bus) | with_reducible (apply latch_reportErr) | simp only [kept_mk] | with_reducible refine kept_q ?_ | intro _ | split

theorem latch_execMakeFallback (a0 : Fin 4) (a1 : State) (h0 : Kept c a1) : (∀ t, execMakeFallback a0 a1 = .next t → Kept c t) := by
  intro t h
  cases h
  repeat' first | lift_lets | with_reducible assumption | with_reducible (apply latch_bus) | with_reducible (apply latch_reportErr) | simp only [kept_mk] | with_reducible refine kept_q ?_ | intro _ | split

theorem latch_execInvalidateSlot (a0 : Fin 4) (a1 : State) (h0 : Kept c a1) : (∀ t, execInvalidateSlot a0 a1 = .next t → Kept c t) := by
  intro t h
  cases h
  repeat' first | lift_lets | with_reducible assumption | with_reducible (apply latch_bus) | with_reducible (apply latch_reportErr) | with_reducible (apply latch_setSlot) | dsimp only | intro _ | split

theorem latch_parisonCommand (a0 : ℕ) (a1 : Word) (a2 : State) (h0 : Kept c a2) : Kept c (parisonCommand a0 a1 a2) := by
  delta parisonCommand
  repeat' first | lift_lets | with_reducible assumption | with_reducible (apply latch_startAction) | with_reducible (refine latch_via _ _ (fun _ h => latch_execMakeActive _ _ ?_ _ h) ?_) | with_reducible (refine latch_via _ _ (fun _ h => latch_execMakeFallback _ _ ?_ _ h) ?_) | with_reducible (refine latch_via _ _ (fun _ h => latch_execInvalidateSlot _ _ ?_ _ h) ?_) | with_reducible (apply latch_reportErr) | with_reducible (apply latch_regWrite) | split

theorem latch_stepCmd (a0 : Word) (a1 : State) (h0 : Kept c a1) : Kept c (stepCmd a0 a1) := by
  delta stepCmd
  repeat' first | (intro v; subst v) | lift_lets | with_reducible assumption | with_reducible (apply latch_stepAll) | with_reducible (apply latch_raise) | simp only [kept_mk] | with_reducible refine kept_q ?_ | split

theorem latch_spoofAck (a0 : State) (h0 : Kept c a0) : Kept c (spoofAck a0) := by
  delta spoofAck
  repeat' first | (intro v; subst v) | lift_lets | with_reducible assumption | simp only [kept_mk] | with_reducible refine kept_q ?_ | split

theorem latch_exclAdd (a0 : ℕ) (a1 : ℕ) (a2 : State) (h0 : Kept c a2) : Kept c (exclAdd a0 a1 a2) := by
  delta exclAdd
  repeat' first | (intro v; subst v) | lift_lets | with_reducible assumption | with_reducible (apply latch_raise) | simp only [kept_mk] | with_reducible refine kept_q ?_ | split

theorem latch_exclRemove (a0 : ℕ) (a1 : ℕ) (a2 : State) (h0 : Kept c a2) : Kept c (exclRemove a0 a1 a2) := by
  delta exclRemove
  repeat' first | (intro v; subst v) | lift_lets | with_reducible assumption | simp only [kept_mk] | with_reducible refine kept_q ?_

theorem latch_exclClear (a0 : State) (h0 : Kept c a0) : Kept c (exclClear a0) := by
  delta exclClear
  repeat' first | (intro v; subst v) | lift_lets | with_reducible assumption | simp only [kept_mk] | with_reducible refine kept_q ?_

theorem latch_gnssCommand (a0 : ℕ) (a1 : Word) (a2 : State) (h0 : Kept c a2) : Kept c (gnssCommand a0 a1 a2) := by
  delta gnssCommand
  repeat' first | (intro v; refine kept_in c v ?_ ?_ <;> [subst v; (clear_value v; intro _)]) | lift_lets | with_reducible assumption | with_reducible (apply latch_regWrite) | with_reducible (apply latch_spoofAck) | with_reducible (apply latch_coldStart) | with_reducible (apply latch_exclAdd) | with_reducible (apply latch_exclRemove) | with_reducible (apply latch_exclClear) | split

theorem latch_refCmd (a0 : Word) (a1 : Bool) (a2 : State → State) (a3 : State) (h0 : ∀ (b0 : State), Kept c b0 → Kept c (a2 b0)) (h1 : Kept c a3) : Kept c (refCmd a0 a1 a2 a3) := by
  delta refCmd
  repeat' first | (intro v; refine kept_in c v ?_ ?_ <;> [subst v; (clear_value v; intro _)]) | (intro v; subst v) | lift_lets | with_reducible assumption | with_reducible (apply latch_regWrite) | with_reducible (apply h0) | simp only [kept_mk] | with_reducible refine kept_q ?_ | split

theorem latch_execSurveyStart (a0 : Word) (a1 : State) (h0 : Kept c a1) : (∀ t, execSurveyStart a0 a1 = .next t → Kept c t) := by
  intro t h
  cases h
  repeat' first | lift_lets | with_reducible assumption | with_reducible (apply latch_bus) | with_reducible (apply latch_refCmd) | with_reducible (apply latch_refTo) | simp only [kept_mk] | with_reducible refine kept_q ?_ | intro _ | split

theorem latch_execConfirm (a0 : Word) (a1 : State) (h0 : Kept c a1) : (∀ t, execConfirm a0 a1 = .next t → Kept c t) := by
  intro t h
  cases h
  repeat' first | lift_lets | with_reducible assumption | with_reducible (apply latch_bus) | with_reducible (apply latch_refCmd) | with_reducible (apply latch_confirmStart) | with_reducible (apply latch_drawn) | simp only [kept_mk] | with_reducible refine kept_q ?_ | intro _ | split

theorem latch_execEnter (a0 : Word) (a1 : State) (h0 : Kept c a1) : (∀ t, execEnter a0 a1 = .next t → Kept c t) := by
  intro t h
  cases h
  repeat' first | lift_lets | with_reducible assumption | with_reducible (apply latch_bus) | with_reducible (apply latch_refCmd) | with_reducible (apply latch_confirmStart) | intro _

theorem latch_execClear (a0 : Word) (a1 : State) (h0 : Kept c a1) : (∀ t, execClear a0 a1 = .next t → Kept c t) := by
  intro t h
  cases h
  repeat' first | lift_lets | with_reducible assumption | with_reducible (apply latch_bus) | with_reducible (apply latch_refCmd) | with_reducible (apply latch_refTo) | simp only [kept_mk] | with_reducible refine kept_q ?_ | intro _

theorem latch_execResetFilter (a0 : Fin 128) (a1 : State) (h0 : Kept c a1) : (∀ t, execResetFilter a0 a1 = .next t → Kept c t) := by
  intro t h
  cases h
  repeat' first | lift_lets | with_reducible assumption | with_reducible (apply latch_bus) | with_reducible (apply latch_setRtkMach)

theorem latch_execSuspend (a0 : Fin 128) (a1 : State) (h0 : Kept c a1) : (∀ t, execSuspend a0 a1 = .next t → Kept c t) := by
  intro t h
  cases h
  repeat' first | lift_lets | with_reducible assumption | with_reducible (apply latch_bus) | with_reducible (apply latch_setRtkMach)

theorem latch_execFilterResume (a0 : Fin 128) (a1 : State) (h0 : Kept c a1) : (∀ t, execFilterResume a0 a1 = .next t → Kept c t) := by
  intro t h
  cases h
  repeat' first | lift_lets | with_reducible assumption | with_reducible (apply latch_bus) | with_reducible (apply latch_setRtkMach)

theorem latch_rtkCommand (a0 : ℕ) (a1 : Word) (a2 : State) (h0 : Kept c a2) : Kept c (rtkCommand a0 a1 a2) := by
  delta rtkCommand
  repeat' first | lift_lets | with_reducible assumption | with_reducible (refine latch_via _ _ (fun _ h => latch_execSurveyStart _ _ ?_ _ h) ?_) | with_reducible (refine latch_via _ _ (fun _ h => latch_execConfirm _ _ ?_ _ h) ?_) | with_reducible (refine latch_via _ _ (fun _ h => latch_execEnter _ _ ?_ _ h) ?_) | with_reducible (refine latch_via _ _ (fun _ h => latch_execClear _ _ ?_ _ h) ?_) | with_reducible (apply latch_regWrite) | with_reducible (refine latch_via _ _ (fun _ h => latch_execResetFilter _ _ ?_ _ h) ?_) | with_reducible (refine latch_via _ _ (fun _ h => latch_execSuspend _ _ ?_ _ h) ?_) | with_reducible (refine latch_via _ _ (fun _ h => latch_execFilterResume _ _ ?_ _ h) ?_) | with_reducible (apply latch_writeRtk) | split

theorem latch_lodeAcc (a0 : ℕ) (a1 : ℕ) (a2 : Bool) (a3 : Bool) (a4 : State) (h0 : Kept c a4) : Kept c (lodeAcc a0 a1 a2 a3 a4) := by
  delta lodeAcc
  repeat' first | (intro v; subst v) | lift_lets | with_reducible assumption | with_reducible (apply latch_accEnd) | with_reducible (apply latch_accWrite) | with_reducible (apply latch_accRead) | with_reducible (apply latch_accDelete) | with_reducible (apply latch_accReadAt) | simp only [kept_mk] | with_reducible refine kept_q ?_ | split

theorem latch_lodeCommand (a0 : ℕ) (a1 : Word) (a2 : State) (h0 : Kept c a2) : Kept c (lodeCommand a0 a1 a2) := by
  delta lodeCommand
  repeat' first | lift_lets | with_reducible assumption | with_reducible (apply latch_lodeAcc) | with_reducible (apply latch_regWrite) | split

theorem latch_nodeEnd (a0 : NodeResult) (a1 : State) (h0 : Kept c a1) : Kept c (nodeEnd a0 a1) := by
  delta nodeEnd
  repeat' first | (intro v; subst v) | lift_lets | with_reducible assumption | simp only [kept_mk] | with_reducible refine kept_q ?_

theorem latch_execNodeAdd (a0 : BitVec 16) (a1 : Bool) (a2 : State) (h0 : Kept c a2) : (∀ t, execNodeAdd a0 a1 a2 = .next t → Kept c t) := by
  intro t h
  cases h
  repeat' first | lift_lets | with_reducible assumption | with_reducible (apply latch_bus) | with_reducible (apply latch_nodeEnd) | simp only [kept_mk] | with_reducible refine kept_q ?_ | intro _ | split

theorem latch_execNodeRemove (a0 : BitVec 16) (a1 : Bool) (a2 : State) (h0 : Kept c a2) : (∀ t, execNodeRemove a0 a1 a2 = .next t → Kept c t) := by
  intro t h
  cases h
  repeat' first | lift_lets | with_reducible assumption | with_reducible (apply latch_bus) | with_reducible (apply latch_nodeEnd) | simp only [kept_mk] | with_reducible refine kept_q ?_ | intro _ | split

theorem latch_execForceResync (a0 : BitVec 16) (a1 : Bool) (a2 : State) (h0 : Kept c a2) : (∀ t, execForceResync a0 a1 a2 = .next t → Kept c t) := by
  intro t h
  cases h
  repeat' first | lift_lets | with_reducible assumption | with_reducible (apply latch_bus) | with_reducible (apply latch_nodeEnd) | with_reducible (apply latch_raise) | with_reducible (apply latch_setNode) | dsimp only | intro _ | split

theorem latch_radioCommand (a0 : ℕ) (a1 : Word) (a2 : State) (h0 : Kept c a2) : Kept c (radioCommand a0 a1 a2) := by
  delta radioCommand
  repeat' first | (intro v; subst v) | lift_lets | with_reducible assumption | with_reducible (refine latch_via _ _ (fun _ h => latch_execNodeAdd _ _ _ ?_ _ h) ?_) | with_reducible (refine latch_via _ _ (fun _ h => latch_execNodeRemove _ _ _ ?_ _ h) ?_) | with_reducible (refine latch_via _ _ (fun _ h => latch_execForceResync _ _ _ ?_ _ h) ?_) | with_reducible (apply latch_writeRadio) | split

theorem latch_twinEnd (a0 : TwinResult) (a1 : State) (h0 : Kept c a1) : Kept c (twinEnd a0 a1) := by
  delta twinEnd
  repeat' first | (intro v; subst v) | lift_lets | with_reducible assumption | with_reducible (apply latch_raise) | simp only [kept_mk] | with_reducible refine kept_q ?_

theorem latch_execYield (a0 : Master) (a1 : Bool) (a2 : Bool) (a3 : State) (h0 : Kept c a3) : (∀ t, execYield a0 a1 a2 a3 = .next t → Kept c t) := by
  intro t h
  cases h
  repeat' first | lift_lets | with_reducible assumption | with_reducible (apply latch_bus) | with_reducible (apply latch_twinEnd) | with_reducible (apply latch_yieldUnit) | intro _ | split

theorem latch_sendSnapshot (a0 : State) (h0 : Kept c a0) : Kept c (sendSnapshot a0) := by
  delta sendSnapshot
  repeat' first | (intro v; refine kept_in c v ?_ ?_ <;> [subst v; (clear_value v; intro _)]) | (intro v; subst v) | lift_lets | with_reducible assumption | with_reducible (apply latch_sendBody) | with_reducible (apply kept_foldl) | simp only [kept_mk] | with_reducible refine kept_q ?_ | intro _

theorem latch_execResync (a0 : Bool) (a1 : State) (h0 : Kept c a1) : (∀ t, execResync a0 a1 = .next t → Kept c t) := by
  intro t h
  cases h
  repeat' first | lift_lets | with_reducible assumption | with_reducible (apply latch_bus) | with_reducible (apply latch_twinEnd) | with_reducible (apply latch_sendSnapshot) | simp only [kept_mk] | with_reducible refine kept_q ?_ | intro _ | split

theorem latch_twinCommand (a0 : Master) (a1 : ℕ) (a2 : Word) (a3 : State) (h0 : Kept c a3) : Kept c (twinCommand a0 a1 a2 a3) := by
  delta twinCommand
  repeat' first | lift_lets | with_reducible assumption | with_reducible (apply latch_linkEnWrite) | with_reducible (refine latch_via _ _ (fun _ h => latch_execYield _ _ _ _ ?_ _ h) ?_) | with_reducible (refine latch_via _ _ (fun _ h => latch_execResync _ _ ?_ _ h) ?_) | with_reducible (apply latch_twinEnd) | with_reducible (apply latch_regWrite) | split

theorem latch_resumeQueues (a0 : Master) (a1 : ℕ) (a2 : ℕ) (a3 : State) (h0 : Kept c a3) : Kept c (resumeQueues a0 a1 a2 a3) := by
  delta resumeQueues
  repeat' first | lift_lets | with_reducible assumption | with_reducible (apply latch_passEntries) | with_reducible (apply latch_setCq) | with_reducible (apply kept_foldl) | intro _ | split

theorem latch_refuseForming (a0 : ResKind) (a1 : ℕ) (a2 : Bool) (a3 : State) (h0 : Kept c a3) : Kept c (refuseForming a0 a1 a2 a3) := by
  delta refuseForming
  repeat' first | (intro v; subst v) | lift_lets | with_reducible assumption | simp only [kept_mk] | with_reducible refine kept_q ?_ | split

theorem latch_fatalError (a0 : ResKind) (a1 : ℕ) (a2 : State) (h0 : Kept c a2) : Kept c (fatalError a0 a1 a2) := by
  delta fatalError
  repeat' first | (intro v; refine kept_in c v ?_ ?_ <;> [subst v; (clear_value v; intro _)]) | (intro v; subst v) | lift_lets | with_reducible assumption | with_reducible (apply latch_settleVote) | with_reducible (apply latch_yieldRequest) | with_reducible (apply latch_classify) | simp only [kept_mk] | with_reducible refine kept_q ?_ | split

theorem latch_retireCq (a0 : ℕ) (a1 : State) (h0 : Kept c a1) : Kept c (retireCq a0 a1) := by
  delta retireCq
  repeat' first | lift_lets | with_reducible assumption | with_reducible (apply latch_setCq)

theorem latch_retireEq (a0 : ℕ) (a1 : State) (h0 : Kept c a1) : Kept c (retireEq a0 a1) := by
  delta retireEq
  repeat' first | (intro v; refine kept_in c v ?_ ?_ <;> [subst v; (clear_value v; intro _)]) | (intro v; subst v) | lift_lets | with_reducible assumption | with_reducible (apply latch_withPause) | with_reducible (apply latch_setEq) | with_reducible (apply latch_raise) | with_reducible (apply latch_bumpBy) | split

theorem latch_resetLearn (a0 : Bool) (a1 : State) (h0 : Kept c a1) : Kept c (resetLearn a0 a1) := by
  delta resetLearn
  repeat' first | (intro v; subst v) | lift_lets | with_reducible assumption | with_reducible (apply latch_bumpBy) | simp only [kept_mk] | with_reducible refine kept_q ?_

theorem latch_lostRecord (a0 : State) (h0 : Kept c a0) : Kept c (lostRecord a0) := by
  delta lostRecord
  repeat' first | (intro v; subst v) | lift_lets | with_reducible assumption | with_reducible (apply latch_note) | simp only [kept_mk] | with_reducible refine kept_q ?_ | split

theorem latch_resetInternal (a0 : ℕ) (a1 : State) (h0 : Kept c a1) : Kept c (resetInternal a0 a1) := by
  delta resetInternal
  repeat' first | (intro v; refine kept_in c v ?_ ?_ <;> [subst v; (clear_value v; intro _)]) | (intro v; subst v) | lift_lets | with_reducible assumption | with_reducible (apply latch_resetLearn) | with_reducible (apply latch_bumpBy) | with_reducible (apply latch_lostRecord) | with_reducible (apply latch_orReg) | simp only [kept_mk] | with_reducible refine kept_q ?_ | split

theorem latch_retirePtr (a0 : ℕ) (a1 : State) (h0 : Kept c a1) : Kept c (retirePtr a0 a1) := by
  delta retirePtr
  repeat' first | lift_lets | with_reducible assumption | with_reducible (apply latch_retireCq) | with_reducible (apply latch_retireEq) | with_reducible (apply latch_resetInternal) | split

theorem latch_disableOwned (a0 : ℕ) (a1 : State) (h0 : Kept c a1) : Kept c (disableOwned a0 a1) := by
  delta disableOwned
  repeat' first | lift_lets | with_reducible assumption | with_reducible (apply latch_disableCq) | with_reducible (apply latch_disableEq) | with_reducible (apply kept_foldl) | dsimp only | intro _ | split

theorem latch_loseBufferFrames (a0 : ℕ) (a1 : State) (h0 : Kept c a1) : Kept c (loseBufferFrames a0 a1) := by
  delta loseBufferFrames
  repeat' first | (intro v; refine kept_in c v ?_ ?_ <;> [subst v; (clear_value v; intro _)]) | (intro v; subst v) | lift_lets | with_reducible assumption | with_reducible (apply latch_discardFrames) | with_reducible (apply latch_raise) | with_reducible (apply kept_foldl) | intro _ | split

theorem latch_loseBankEntries (a0 : ℕ) (a1 : State) (h0 : Kept c a1) : Kept c (loseBankEntries a0 a1) := by
  delta loseBankEntries
  repeat' first | (intro v; subst v) | lift_lets | with_reducible assumption | simp only [kept_mk] | with_reducible refine kept_q ?_

theorem latch_swapBank (a0 : ℕ) (a1 : ℕ) (a2 : State) (h0 : Kept c a2) : Kept c (swapBank a0 a1 a2) := by
  delta swapBank
  repeat' first | (intro v; refine kept_in c v ?_ ?_ <;> [subst v; (clear_value v; intro _)]) | (intro v; subst v) | lift_lets | with_reducible assumption | with_reducible (apply latch_loseBankEntries) | with_reducible (apply latch_setBank) | with_reducible (apply latch_raise) | simp only [kept_mk] | with_reducible refine kept_q ?_ | split

theorem latch_dropBank (a0 : ℕ) (a1 : State) (h0 : Kept c a1) : Kept c (dropBank a0 a1) := by
  delta dropBank
  repeat' first | (intro v; refine kept_in c v ?_ ?_ <;> [subst v; (clear_value v; intro _)]) | (intro v; subst v) | lift_lets | with_reducible assumption | with_reducible (apply latch_loseBufferFrames) | with_reducible (apply latch_loseBankEntries) | with_reducible (apply latch_setBank) | simp only [kept_mk] | with_reducible refine kept_q ?_ | split

theorem latch_retireChans (a0 : State) (h0 : Kept c a0) : Kept c (retireChans a0) := by
  delta retireChans
  repeat' first | (intro v; subst v) | lift_lets | with_reducible assumption | simp only [kept_mk] | with_reducible refine kept_q ?_

theorem latch_restartFilter (a0 : ℕ) (a1 : State) (h0 : Kept c a1) : Kept c (restartFilter a0 a1) := by
  delta restartFilter
  repeat' first | (intro v; subst v) | lift_lets | with_reducible assumption | with_reducible (apply latch_raise) | simp only [kept_mk] | with_reducible refine kept_q ?_

theorem latch_retireQueue (a0 : ℕ) (a1 : State) (h0 : Kept c a1) : Kept c (retireQueue a0 a1) := by
  delta retireQueue
  repeat' first | lift_lets | with_reducible assumption | with_reducible (apply latch_retireEq) | with_reducible (apply latch_retireCq)

theorem latch_failTest (a0 : ResKind) (a1 : ℕ) (a2 : State) (h0 : Kept c a2) : Kept c (failTest a0 a1 a2) := by
  delta failTest
  repeat' first | (intro v; refine kept_in c v ?_ ?_ <;> [subst v; (clear_value v; intro _)]) | (intro v; subst v) | lift_lets | with_reducible assumption | with_reducible (apply latch_setQch) | with_reducible (apply latch_driveOutputs) | with_reducible (apply latch_settleVote) | with_reducible (apply latch_note) | with_reducible (apply latch_setChain) | with_reducible (apply latch_disableOwned) | with_reducible (apply latch_setCore) | with_reducible (apply latch_leaveLink) | with_reducible (apply latch_loseBufferFrames) | with_reducible (apply latch_swapBank) | with_reducible (apply latch_dropBank) | with_reducible (apply latch_retireChans) | with_reducible (apply latch_restartFilter) | with_reducible (apply latch_raise) | with_reducible (apply latch_retireQueue) | with_reducible (apply kept_foldl) | simp only [kept_mk] | with_reducible refine kept_q ?_ | intro _ | split

theorem latch_lasting (a0 : ResKind) (a1 : ℕ) (a2 : State) (h0 : Kept c a2) : Kept c (lasting a0 a1 a2) := by
  delta lasting
  repeat' first | (intro v; refine kept_in c v ?_ ?_ <;> [subst v; (clear_value v; intro _)]) | (intro v; subst v) | lift_lets | with_reducible assumption | with_reducible (apply latch_setRes) | with_reducible (apply latch_retirePtr) | with_reducible (apply latch_failTest) | with_reducible (apply latch_consequence) | with_reducible (apply latch_yieldRequest) | split

theorem latch_ownWork (a0 : ResKind) (a1 : State) (h0 : Kept c a1) : Kept c (ownWork a0 a1).2 := by
  delta ownWork
  repeat' first | (intro v; subst v) | lift_lets | with_reducible assumption | simp only [kept_mk] | with_reducible refine kept_q ?_ | split

theorem latch_faultDiscard (a0 : ResKind) (a1 : ℕ) (a2 : FaultClass) (a3 : State) (h0 : Kept c a3) : Kept c (faultDiscard a0 a1 a2 a3) := by
  delta faultDiscard
  repeat' first | (intro v; refine kept_in c (Prod.snd v) ?_ ?_ <;> [subst v; (clear_value v; intro _)]) | lift_lets | with_reducible assumption | with_reducible (apply latch_ownWork) | with_reducible (apply latch_discardHits)

theorem latch_rememberTransient (a0 : ResKind) (a1 : ℕ) (a2 : State) (h0 : Kept c a2) : Kept c (rememberTransient a0 a1 a2) := by
  delta rememberTransient
  repeat' first | (intro v; subst v) | lift_lets | with_reducible assumption | with_reducible (apply latch_setRes)

theorem latch_resetEq (a0 : ℕ) (a1 : State) (h0 : Kept c a1) : Kept c (resetEq a0 a1) := by
  delta resetEq
  repeat' first | (intro v; refine kept_in c v ?_ ?_ <;> [subst v; (clear_value v; intro _)]) | (intro v; subst v) | lift_lets | with_reducible assumption | with_reducible (apply latch_setEq) | with_reducible (apply latch_bumpBy) | with_reducible (apply latch_withPause) | with_reducible (apply latch_eqAbove) | with_reducible (apply latch_raise) | split

theorem latch_resetQueue (a0 : ℕ) (a1 : State) (h0 : Kept c a1) : Kept c (resetQueue a0 a1) := by
  delta resetQueue
  repeat' first | lift_lets | with_reducible assumption | with_reducible (apply latch_resetEq) | with_reducible (apply latch_resetInternal) | split

theorem latch_leaveCairn (a0 : State) (h0 : Kept c a0) : Kept c (leaveCairn a0) := by
  delta leaveCairn
  repeat' first | (intro v; refine kept_in c v ?_ ?_ <;> [subst v; (clear_value v; intro _)]) | (intro v; subst v) | lift_lets | with_reducible assumption | with_reducible (apply latch_note) | with_reducible (apply latch_raise) | simp only [kept_mk] | with_reducible refine kept_q ?_ | split

theorem latch_passTest (a0 : ResKind) (a1 : ℕ) (a2 : State) (h0 : Kept c a2) : Kept c (passTest a0 a1 a2) := by
  delta passTest
  repeat' first | (intro v; refine kept_in c v ?_ ?_ <;> [subst v; (clear_value v; intro _)]) | (intro v; subst v) | lift_lets | with_reducible assumption | with_reducible (apply latch_driveOutputs) | with_reducible (apply latch_setQch) | with_reducible (apply latch_setChain) | with_reducible (apply latch_startCore) | with_reducible (apply latch_setCore) | with_reducible (apply latch_leaveCairn) | with_reducible (apply latch_setBank) | with_reducible (apply latch_blockChannels) | with_reducible (apply latch_restartFilter) | simp only [kept_mk] | with_reducible refine kept_q ?_ | intro _ | split

theorem latch_untested (a0 : ResKind) (a1 : ℕ) (a2 : State) (h0 : Kept c a2) : Kept c (untested a0 a1 a2) := by
  delta untested
  repeat' first | lift_lets | with_reducible assumption | with_reducible (apply latch_resetQueue) | with_reducible (apply latch_passTest) | split

theorem latch_detect (a0 : ResKind) (a1 : ℕ) (a2 : Bool) (a3 : Bool) (a4 : State) (h0 : Kept c a4) : Kept c (detect a0 a1 a2 a3 a4) := by
  delta detect
  repeat' first | (intro v; refine kept_in c v ?_ ?_ <;> [subst v; (clear_value v; intro _)]) | (intro v; subst v) | lift_lets | with_reducible assumption | with_reducible (apply latch_refuseForming) | with_reducible (apply latch_fatalError) | with_reducible (apply latch_classify) | with_reducible (apply latch_setRes) | with_reducible (apply latch_lasting) | with_reducible (apply latch_faultDiscard) | with_reducible (apply latch_loseWork) | with_reducible (apply latch_rememberTransient) | with_reducible (apply latch_untested) | with_reducible (apply latch_beginTest) | with_reducible (apply latch_yieldRequest) | split

theorem latch_inject (a0 : ℕ) (a1 : ℕ) (a2 : Bool) (a3 : State) (h0 : Kept c a3) : Kept c (inject a0 a1 a2 a3) := by
  delta inject
  repeat' first | (intro v; subst v) | lift_lets | with_reducible assumption | with_reducible (apply latch_detect) | with_reducible (apply latch_bump) | with_reducible (apply latch_setRes) | simp only [kept_mk] | with_reducible refine kept_q ?_ | split

theorem latch_faultCommand (a0 : Master) (a1 : ℕ) (a2 : Word) (a3 : State) (h0 : Kept c a3) : Kept c (faultCommand a0 a1 a2 a3) := by
  delta faultCommand
  repeat' first | lift_lets | with_reducible assumption | with_reducible (apply latch_resumeQueues) | with_reducible (apply latch_inject) | with_reducible (apply latch_regWrite) | split

theorem latch_descWrite (a0 : ℕ) (a1 : State) (h0 : Kept c a1) : Kept c (descWrite a0 a1) := by
  delta descWrite
  repeat' first | (intro v; refine kept_in c v ?_ ?_ <;> [subst v; (clear_value v; intro _)]) | (intro v; subst v) | lift_lets | with_reducible assumption | with_reducible (apply latch_cancelTask) | simp only [kept_mk] | with_reducible refine kept_q ?_ | split

theorem latch_setDelay (a0 : ℕ) (a1 : ℕ) (a2 : State) (h0 : Kept c a2) : Kept c (setDelay a0 a1 a2) := by
  delta setDelay
  repeat' first | (intro v; subst v) | lift_lets | with_reducible assumption | simp only [kept_mk] | with_reducible refine kept_q ?_

theorem latch_delayTask (a0 : Master) (a1 : ℕ) (a2 : ℕ) (a3 : State) (h0 : Kept c a3) : Kept c (delayTask a0 a1 a2 a3) := by
  delta delayTask
  repeat' first | lift_lets | with_reducible assumption | with_reducible (apply latch_setDelay) | split

theorem latch_doneTask (a0 : ℕ) (a1 : ℕ) (a2 : State) (h0 : Kept c a2) : Kept c (doneTask a0 a1 a2) := by
  delta doneTask
  repeat' first | lift_lets | with_reducible assumption | with_reducible (apply latch_settleTask) | with_reducible (apply latch_setCore) | split

theorem latch_yieldTask (a0 : ℕ) (a1 : ℕ) (a2 : State) (h0 : Kept c a2) : Kept c (yieldTask a0 a1 a2) := by
  delta yieldTask
  repeat' first | (intro v; refine kept_in c v ?_ ?_ <;> [subst v; (clear_value v; intro _)]) | (intro v; subst v) | lift_lets | with_reducible assumption | with_reducible (apply latch_setCore) | with_reducible (apply latch_settleTask) | with_reducible (apply latch_setActs) | simp only [kept_mk] | with_reducible refine kept_q ?_ | split

theorem latch_writeBind (a0 : ℕ) (a1 : Word) (a2 : State) (h0 : Kept c a2) : Kept c (writeBind a0 a1 a2) := by
  delta writeBind
  repeat' first | (intro v; subst v) | lift_lets | with_reducible assumption | simp only [kept_mk] | with_reducible refine kept_q ?_ | split

theorem latch_dispatchCommand (a0 : Access) (a1 : ℕ) (a2 : Word) (a3 : State) (h0 : Kept c a3) : Kept c (dispatchCommand a0 a1 a2 a3) := by
  delta dispatchCommand
  repeat' first | (intro v; subst v) | lift_lets | with_reducible assumption | with_reducible (apply latch_descWrite) | with_reducible (apply latch_postTask) | with_reducible (apply latch_cancelTask) | with_reducible (apply latch_delayTask) | with_reducible (apply latch_doneTask) | with_reducible (apply latch_yieldTask) | with_reducible (apply latch_writeBind) | with_reducible (apply latch_writeDispatch) | dsimp only | split

theorem latch_execLockFree (a0 : Fin 64) (a1 : Master) (a2 : Word) (a3 : State) (h0 : Kept c a3) : (∀ t, execLockFree a0 a1 a2 a3 = .next t → Kept c t) := by
  intro t h
  cases h
  repeat' first | lift_lets | with_reducible assumption | with_reducible (apply latch_bus) | simp only [kept_mk] | with_reducible refine kept_q ?_ | intro _ | split

theorem latch_lockWrite (a0 : ℕ) (a1 : Master) (a2 : Word) (a3 : State) (h0 : Kept c a3) : Kept c (lockWrite a0 a1 a2 a3) := by
  delta lockWrite
  repeat' first | lift_lets | with_reducible assumption | with_reducible (refine latch_via _ _ (fun _ h => latch_execLockFree _ _ _ _ ?_ _ h) ?_) | split

theorem latch_execFlush (a0 : Fin 16) (a1 : Bool) (a2 : State) (h0 : Kept c a2) : (∀ t, execFlush a0 a1 a2 = .next t → Kept c t) := by
  intro t h
  cases h
  repeat' first | lift_lets | with_reducible assumption | with_reducible (apply latch_bus) | with_reducible (apply latch_setCq)

theorem latch_hostifCommand (a0 : Access) (a1 : ℕ) (a2 : Word) (a3 : State) (h0 : Kept c a3) : Kept c (hostifCommand a0 a1 a2 a3) := by
  delta hostifCommand
  repeat' first | (intro v; subst v) | lift_lets | with_reducible assumption | with_reducible (apply latch_mbPush) | with_reducible (apply latch_lockWrite) | with_reducible (refine latch_via _ _ (fun _ h => latch_execFlush _ _ _ ?_ _ h) ?_) | with_reducible (apply latch_writeHostif) | split

theorem latch_geodeEnd (a0 : Access) (a1 : GResult × State) (h0 : Kept c a1.2) : Kept c (geodeEnd a0 a1) := by
  delta geodeEnd
  repeat' first | (intro v; refine kept_in c v ?_ ?_ <;> [subst v; (clear_value v; intro _)]) | (intro v; subst v) | lift_lets | with_reducible assumption | with_reducible (apply latch_setBufs) | with_reducible (apply latch_raise) | with_reducible (apply latch_bump) | simp only [kept_mk] | with_reducible refine kept_q ?_ | split

theorem latch_writeKey (a0 : Access) (a1 : ℕ) (a2 : State) (h0 : Kept c a2) : Kept c (writeKey a0 a1 a2).2 := by
  delta writeKey
  repeat' first | lift_lets | with_reducible assumption | with_reducible (apply latch_enterKey) | split

theorem latch_delSlot (a0 : ℕ) (a1 : State) (h0 : Kept c a1) : Kept c (delSlot a0 a1) := by
  delta delSlot
  repeat' first | (intro v; subst v) | lift_lets | with_reducible assumption | simp only [kept_mk] | with_reducible refine kept_q ?_

theorem latch_eraseKey (a0 : Access) (a1 : ℕ) (a2 : State) (h0 : Kept c a2) : Kept c (eraseKey a0 a1 a2).2 := by
  delta eraseKey
  repeat' first | (intro v; subst v) | lift_lets | with_reducible assumption | with_reducible (apply latch_delSlot) | split

theorem latch_deriveKey (a0 : Access) (a1 : Bool) (a2 : ℕ) (a3 : ℕ) (a4 : State) (h0 : Kept c a4) : Kept c (deriveKey a0 a1 a2 a3 a4).2 := by
  delta deriveKey
  repeat' first | (intro v; subst v) | lift_lets | with_reducible assumption | with_reducible (apply latch_enterKey) | split

theorem latch_wrapKey (a0 : Access) (a1 : ℕ) (a2 : ℕ) (a3 : State) (h0 : Kept c a3) : Kept c (wrapKey a0 a1 a2 a3).2 := by
  delta wrapKey
  repeat' first | (intro v; subst v) | lift_lets | with_reducible assumption | with_reducible (apply latch_setBufs) | split

theorem latch_unwrapKey (a0 : Access) (a1 : ℕ) (a2 : ℕ) (a3 : State) (h0 : Kept c a3) : Kept c (unwrapKey a0 a1 a2 a3).2 := by
  delta unwrapKey
  repeat' first | (intro v; subst v) | lift_lets | with_reducible assumption | with_reducible (apply latch_unwrapInto) | split

theorem latch_revokeHash (a0 : Access) (a1 : State) (h0 : Kept c a1) : Kept c (revokeHash a0 a1).2 := by
  delta revokeHash
  repeat' first | (intro v; subst v) | lift_lets | with_reducible assumption | simp only [kept_mk] | with_reducible refine kept_q ?_ | split

theorem latch_raiseSecver (a0 : Access) (a1 : State) (h0 : Kept c a1) : Kept c (raiseSecver a0 a1).2 := by
  delta raiseSecver
  repeat' first | (intro v; subst v) | lift_lets | with_reducible assumption | simp only [kept_mk] | with_reducible refine kept_q ?_ | split

theorem latch_enterLife (a0 : Life) (a1 : Access) (a2 : State) (h0 : Kept c a2) : Kept c (enterLife a0 a1 a2) := by
  delta enterLife
  repeat' first | (intro v; refine kept_in c v ?_ ?_ <;> [subst v; (clear_value v; intro _)]) | (intro v; subst v) | lift_lets | with_reducible assumption | with_reducible (apply latch_record) | simp only [kept_mk] | with_reducible refine kept_q ?_

theorem latch_lcAdvance (a0 : Access) (a1 : State) (h0 : Kept c a1) : Kept c (lcAdvance a0 a1).2 := by
  delta lcAdvance
  repeat' first | (intro v; subst v) | lift_lets | with_reducible assumption | with_reducible (apply latch_enterLife) | simp only [kept_mk] | with_reducible refine kept_q ?_ | split

theorem latch_pubKey (a0 : Access) (a1 : ℕ) (a2 : State) (h0 : Kept c a2) : Kept c (pubKey a0 a1 a2).2 := by
  delta pubKey
  repeat' first | (intro v; subst v) | lift_lets | with_reducible assumption | with_reducible (apply latch_setBufs) | split

theorem latch_geodeRun (a0 : Access) (a1 : Nat) (a2 : Bool) (a3 a4 : Nat) (a5 : Bool) (a6 : State) (h0 : Kept c a6) :
    Kept c (geodeRun a0 a1 a2 a3 a4 a5 a6) := by
  have ite2 : ∀ (p : Prop) [Decidable p] (x y : GResult × State), Kept c x.2 → Kept c y.2 → Kept c (if p then x else y).2 := by
    intro p _ x y hx hy
    split
    · exact hx
    · exact hy
  exact latch_geodeEnd _ _ (ite2 _ _ _ h0 (ite2 _ _ _ (latch_writeKey _ _ _ h0) (ite2 _ _ _ (latch_eraseKey _ _ _ h0)
    (ite2 _ _ _ (latch_deriveKey _ _ _ _ _ h0) (ite2 _ _ _ (latch_wrapKey _ _ _ _ h0) (ite2 _ _ _ (latch_unwrapKey _ _ _ _ h0)
    (ite2 _ _ _ (latch_addKeyHash _ _ h0) (ite2 _ _ _ (latch_revokeHash _ _ h0) (ite2 _ _ _ (latch_raiseSecver _ _ h0)
    (ite2 _ _ _ (latch_lcAdvance _ _ h0) (ite2 _ _ _ (latch_pubKey _ _ _ h0) h0)))))))))))

theorem latch_openHost (a0 : Access) (a1 : State) (h0 : Kept c a1) : Kept c (openHost a0 a1) := by
  delta openHost
  repeat' first | (intro v; subst v) | lift_lets | with_reducible assumption | with_reducible (apply latch_raise) | simp only [kept_mk] | with_reducible refine kept_q ?_ | split

theorem latch_geodeCommand (a0 : Access) (a1 : ℕ) (a2 : Word) (a3 : State) (h0 : Kept c a3) : Kept c (geodeCommand a0 a1 a2 a3) := by
  delta geodeCommand
  repeat' first | (intro v; refine kept_in c v ?_ ?_ <;> [subst v; (clear_value v; intro _)]) | lift_lets | with_reducible assumption | with_reducible (apply latch_geodeRun) | with_reducible (apply latch_closeHost) | with_reducible (apply latch_openHost) | with_reducible (apply latch_writeGeode) | split

theorem latch_strataClear (a0 : Access) (a1 : ℕ) (a2 : Bool) (a3 : State) (h0 : Kept c a3) : Kept c (strataClear a0 a1 a2 a3) := by
  delta strataClear
  repeat' first | (intro v; refine kept_in c v ?_ ?_ <;> [subst v; (clear_value v; intro _)]) | (intro v; subst v) | lift_lets | with_reducible assumption | with_reducible (apply latch_raise) | with_reducible (apply latch_writeRecord) | simp only [kept_mk] | with_reducible refine kept_q ?_ | split

theorem latch_strataCommand (a0 : Access) (a1 : ℕ) (a2 : Word) (a3 : State) (h0 : Kept c a3) : Kept c (strataCommand a0 a1 a2 a3) := by
  delta strataCommand
  repeat' first | lift_lets | with_reducible assumption | with_reducible (apply latch_strataClear) | with_reducible (apply latch_sumSelect) | with_reducible (apply latch_regWrite) | split

theorem latch_msixWrite (a0 : Master) (a1 : ℕ) (a2 : Word) (a3 : State) (h0 : Kept c a3) : Kept c (msixWrite a0 a1 a2 a3) := by
  delta msixWrite
  repeat' first | (intro v; refine kept_in c v ?_ ?_ <;> [subst v; (clear_value v; intro _)]) | (intro v; subst v) | lift_lets | with_reducible assumption | with_reducible (apply latch_regWrite) | simp only [kept_mk] | with_reducible refine kept_q ?_ | split

theorem latch_commandWrite (x : Access) (off : Nat) (v : Word) (s : State)
    (hr : x.master = .host → off = 0x09000C → fld v 31 16 = 0x9610 → fld v 15 12 = 2 → c.ok (Vector.replicate 3 false))
    (h : Kept c s) : Kept c (commandWrite x off v s) := by
  delta commandWrite
  dsimp only
  split
  case h_16 => exact latch_busWrite _ _ _ _ (fun y hy hw ho => by cases hy; exact hr hw ho) h
  all_goals first
    | with_reducible (apply latch_sysCommand)
    | with_reducible (apply latch_parisonCommand)
    | with_reducible (apply latch_gnssCommand)
    | with_reducible (apply latch_rtkCommand)
    | with_reducible (apply latch_lodeCommand)
    | with_reducible (apply latch_radioCommand)
    | with_reducible (apply latch_twinCommand)
    | with_reducible (apply latch_faultCommand)
    | with_reducible (apply latch_dispatchCommand)
    | with_reducible (apply latch_hostifCommand)
    | with_reducible (apply latch_geodeCommand)
    | with_reducible (apply latch_assayCommand)
    | with_reducible (apply latch_strataCommand)
    | with_reducible (apply latch_msixWrite)
    | split
  all_goals first
    | with_reducible assumption
    | with_reducible (apply latch_stepCmd)
    | with_reducible (apply latch_writeTime)
  all_goals with_reducible assumption

theorem latch_toPair (a0 : PairState) (a1 : State) (h0 : Kept c a1) : Kept c (toPair a0 a1) := by
  delta toPair
  repeat' first | (intro v; refine kept_in c v ?_ ?_ <;> [subst v; (clear_value v; intro _)]) | (intro v; subst v) | lift_lets | with_reducible assumption | with_reducible (apply latch_raise) | simp only [kept_mk] | with_reducible refine kept_q ?_ | split

theorem latch_committed (a0 : State) (h0 : Kept c a0) : Kept c (committed a0) := by
  delta committed
  repeat' first | (intro v; refine kept_in c v ?_ ?_ <;> [subst v; (clear_value v; intro _)]) | (intro v; subst v) | lift_lets | with_reducible assumption | with_reducible (apply latch_toPair) | simp only [kept_mk] | with_reducible refine kept_q ?_ | split

theorem latch_commitGroup (a0 : ℕ) (a1 : State) (h0 : Kept c a1) : Kept c (commitGroup a0 a1) := by
  delta commitGroup
  repeat' first | (intro v; refine kept_in c v ?_ ?_ <;> [subst v; (clear_value v; intro _)]) | (intro v; subst v) | lift_lets | with_reducible assumption | with_reducible (apply latch_bumpTwin) | with_reducible (apply latch_committed) | with_reducible (apply latch_applyRecord) | with_reducible (apply kept_foldl) | simp only [kept_mk] | with_reducible refine kept_q ?_ | split

theorem latch_confirmFail (a0 : RefResult) (a1 : State) (h0 : Kept c a1) : Kept c (confirmFail a0 a1) := by
  delta confirmFail
  repeat' first | (intro v; subst v) | lift_lets | with_reducible assumption | with_reducible (apply latch_refTo) | with_reducible (apply latch_raise) | simp only [kept_mk] | with_reducible refine kept_q ?_

theorem latch_refFixed (a0 : Ecef) (a1 : RefSrc) (a2 : RefSrc) (a3 : State) (h0 : Kept c a3) : Kept c (refFixed a0 a1 a2 a3) := by
  delta refFixed
  repeat' first | (intro v; refine kept_in c v ?_ ?_ <;> [subst v; (clear_value v; intro _)]) | (intro v; subst v) | lift_lets | with_reducible assumption | with_reducible (apply latch_refTo) | with_reducible (apply latch_raise) | simp only [kept_mk] | with_reducible refine kept_q ?_

theorem latch_confirmationDone (a0 : State) (h0 : Kept c a0) : Kept c (confirmationDone a0) := by
  delta confirmationDone
  repeat' first | (intro v; refine kept_in c v ?_ ?_ <;> [subst v; (clear_value v; intro _)]) | lift_lets | with_reducible assumption | with_reducible (apply latch_advanceClk) | with_reducible (apply latch_confirmFail) | with_reducible (apply latch_refFixed) | split

theorem latch_endWindow (a0 : ℕ) (a1 : State) (h0 : Kept c a1) : Kept c (endWindow a0 a1) := by
  delta endWindow
  repeat' first | (intro v; refine kept_in c v ?_ ?_ <;> [subst v; (clear_value v; intro _)]) | (intro v; subst v) | lift_lets | with_reducible assumption | with_reducible (apply latch_setQch) | with_reducible (apply latch_settleVote) | with_reducible (apply latch_raise) | with_reducible (apply latch_bumpQuench) | dsimp only | intro _ | split

theorem latch_endIfDue (a0 : ℕ) (a1 : State) (h0 : Kept c a1) : Kept c (endIfDue a0 a1) := by
  delta endIfDue
  repeat' first | lift_lets | with_reducible assumption | with_reducible (apply latch_endWindow) | split

theorem latch_pairFollow (a0 : ℕ) (a1 : State) (h0 : Kept c a1) : Kept c (pairFollow a0 a1) := by
  delta pairFollow
  repeat' first | (intro v; subst v) | lift_lets | with_reducible assumption | with_reducible (apply latch_settleVote) | with_reducible (apply latch_setQch) | with_reducible (apply latch_driveOutputs) | dsimp only | intro _ | split

theorem latch_setContact (a0 : ℕ) (a1 : Contact → Contact) (a2 : State) (h0 : Kept c a2) : Kept c (setContact a0 a1 a2) := by
  delta setContact
  repeat' first | lift_lets | with_reducible assumption | with_reducible (apply latch_setQch) | dsimp only | intro _ | split

theorem latch_contactAccept (a0 : ℕ) (a1 : State) (h0 : Kept c a1) : Kept c (contactAccept a0 a1) := by
  delta contactAccept
  repeat' first | (intro v; refine kept_in c v ?_ ?_ <;> [subst v; (clear_value v; intro _)]) | (intro v; subst v) | lift_lets | with_reducible assumption | with_reducible (apply latch_endIfDue) | with_reducible (apply latch_advanceClk) | with_reducible (apply latch_pairFollow) | with_reducible (apply latch_setContact) | split

theorem latch_contactEdge (a0 : ℕ) (a1 : Bool) (a2 : State) (h0 : Kept c a2) : Kept c (contactEdge a0 a1 a2) := by
  delta contactEdge
  repeat' first | (intro v; refine kept_in c v ?_ ?_ <;> [subst v; (clear_value v; intro _)]) | (intro v; subst v) | lift_lets | with_reducible assumption | with_reducible (apply latch_bumpQuench) | with_reducible (apply latch_setContact) | split

theorem latch_corrected (a0 : State) (h0 : Kept c a0) : Kept c (corrected a0) := by
  delta corrected
  repeat' first | (intro v; subst v) | lift_lets | with_reducible assumption | with_reducible (apply latch_detect) | simp only [kept_mk] | with_reducible refine kept_q ?_ | split

theorem latch_countLoad (a0 : ℕ) (a1 : State) (h0 : Kept c a1) : Kept c (countLoad a0 a1) := by
  delta countLoad
  repeat' first | (intro v; subst v) | lift_lets | with_reducible assumption | simp only [kept_mk] | with_reducible refine kept_q ?_

theorem latch_countMissed (a0 : State) (h0 : Kept c a0) : Kept c (countMissed a0) := by
  delta countMissed
  repeat' first | (intro v; subst v) | lift_lets | with_reducible assumption | simp only [kept_mk] | with_reducible refine kept_q ?_

theorem latch_cutChain (a0 : ℕ) (a1 : State) (h0 : Kept c a1) : Kept c (cutChain a0 a1) := by
  delta cutChain
  repeat' first | (intro v; subst v) | lift_lets | with_reducible assumption | with_reducible (apply latch_setChain) | split

theorem latch_hostCopy (a0 : Solution) (a1 : State) (h0 : Kept c a1) : Kept c (hostCopy a0 a1) := by
  delta hostCopy
  repeat' first | (intro v; subst v) | lift_lets | with_reducible assumption | with_reducible (apply latch_eqPush) | with_reducible (apply latch_bump) | split

theorem latch_setptSolution (a0 : Solution) (a1 : State) (h0 : Kept c a1) : Kept c (setptSolution a0 a1) := by
  delta setptSolution
  repeat' first | (intro v; subst v) | lift_lets | with_reducible assumption | simp only [kept_mk] | with_reducible refine kept_q ?_ | split

theorem latch_supervise (a0 : ℕ) (a1 : State) (h0 : Kept c a1) : Kept c (supervise a0 a1) := by
  delta supervise
  repeat' first | lift_lets | with_reducible assumption | with_reducible (apply latch_askAnneal) | split

theorem latch_occIssue (a0 : State) (a1 : LearnReq) (h0 : Kept c a0) : ∀ t, occIssue a0 a1 = some t → Kept c t := by
  intro t h
  unfold occIssue at h
  split at h
  · cases h; exact latch_learn _ _ h0
  · cases h

theorem latch_issueOcc (a0 : List LearnReq) (a1 : State) (h0 : Kept c a1) : Kept c (issueOcc a0 a1) := by
  induction a0 generalizing a1 with
  | nil => unfold issueOcc; rw [kept_mk]; exact kept_q h0
  | cons e l ih =>
    unfold issueOcc
    split
    · exact ih _ (latch_occIssue _ _ h0 _ ‹_›)
    · rw [kept_mk]; exact kept_q h0

theorem latch_learnOcc (a0 : ℕ) (a1 : ℕ) (a2 : State) (h0 : Kept c a2) : Kept c (learnOcc a0 a1 a2) := by
  delta learnOcc
  repeat' first | (intro v; refine kept_in c v ?_ ?_ <;> [subst v; (clear_value v; intro _)]) | (intro v; subst v) | lift_lets | with_reducible assumption | with_reducible (apply latch_bumpBy) | with_reducible (apply latch_issueOcc) | dsimp only | split

theorem latch_gridSolution (a0 : Solution) (a1 : State) (h0 : Kept c a1) : Kept c (gridSolution a0 a1) := by
  delta gridSolution
  repeat' first | (intro v; refine kept_in c v ?_ ?_ <;> [subst v; (clear_value v; intro _)]) | (intro v; subst v) | lift_lets | with_reducible assumption | with_reducible (apply latch_setGridMach) | with_reducible (apply latch_supervise) | with_reducible (apply latch_learnOcc) | split

theorem latch_deliver (a0 : Solution) (a1 : State) (h0 : Kept c a1) : Kept c (deliver a0 a1) := by
  delta deliver
  repeat' first | lift_lets | with_reducible assumption | with_reducible (apply latch_hostCopy) | with_reducible (apply latch_setptSolution) | with_reducible (apply latch_gridSolution) | split

theorem latch_deliverUp (a0 : Heard) (a1 : ℕ) (a2 : Bytes) (a3 : State) (h0 : Kept c a3) : Kept c (deliverUp a0 a1 a2 a3) := by
  delta deliverUp
  repeat' first | lift_lets | with_reducible assumption | with_reducible (apply latch_odometer) | with_reducible (apply latch_injectFrame) | with_reducible (apply latch_toIngest) | split

theorem latch_discipline (a0 : Bool) (a1 : ℤ) (a2 : ℕ) (a3 : State) (h0 : Kept c a3) : Kept c (discipline a0 a1 a2 a3) := by
  delta discipline
  repeat' first | (intro v; refine kept_in c v ?_ ?_ <;> [subst v; (clear_value v; intro _)]) | (intro v; subst v) | lift_lets | with_reducible assumption | with_reducible (apply latch_setPend) | with_reducible (apply latch_setDom)

theorem latch_wakeOne (a0 : State) (a1 : DelayEntry) (h0 : Kept c a0) : Kept c (wakeOne a0 a1) := by
  delta wakeOne
  repeat' first | (intro v; refine kept_in c v ?_ ?_ <;> [subst v; (clear_value v; intro _)]) | (intro v; subst v) | lift_lets | with_reducible assumption | with_reducible (apply latch_setDelay) | with_reducible (apply latch_postTask) | simp only [kept_mk] | with_reducible refine kept_q ?_ | split

theorem latch_dispTick (a0 : State) (h0 : Kept c a0) : Kept c (dispTick a0) := by
  delta dispTick
  repeat' first | (intro v; refine kept_in c v ?_ ?_ <;> [subst v; (clear_value v; intro _)]) | (intro v; subst v) | lift_lets | with_reducible assumption | with_reducible (apply latch_applyGroups) | with_reducible (apply latch_wakeOne) | with_reducible (apply kept_foldl) | simp only [kept_mk] | with_reducible refine kept_q ?_

theorem latch_dormantDiscard (a0 : State) (h0 : Kept c a0) : Kept c (dormantDiscard a0) := by
  delta dormantDiscard
  repeat' first | lift_lets | with_reducible assumption | with_reducible (apply latch_discard)

theorem latch_drainList (a0 : ℕ) (a1 : List (ℕ × Bytes)) (a2 : State) (h0 : Kept c a2) : Kept c (drainList a0 a1 a2) := by
  induction a1 generalizing a2 with
  | nil => exact latch_setCq _ _ _ h0
  | cons x l ih =>
    unfold drainList
    split
    · exact ih _ (latch_postEvent _ _ _ h0)
    · exact latch_setCq _ _ _ h0

theorem latch_drainComp (a0 : ℕ) (a1 : State) (h0 : Kept c a1) : Kept c (drainComp a0 a1) := by
  delta drainComp
  repeat' first | lift_lets | with_reducible assumption | with_reducible (apply latch_drainList)

theorem latch_dropCopies (a0 : ℕ) (a1 : List LodeEntry) (a2 : State) (h0 : Kept c a2) : Kept c (dropCopies a0 a1 a2) := by
  delta dropCopies
  repeat' first | (intro v; subst v) | lift_lets | with_reducible assumption | simp only [kept_mk] | with_reducible refine kept_q ?_

theorem latch_dropLines (a0 : State) (h0 : Kept c a0) : Kept c (dropLines a0) := by
  delta dropLines
  repeat' first | (intro v; subst v) | lift_lets | with_reducible assumption | simp only [kept_mk] | with_reducible refine kept_q ?_

theorem latch_dropZones (a0 : State) (h0 : Kept c a0) : Kept c (dropZones a0) := by
  delta dropZones
  repeat' first | (intro v; subst v) | lift_lets | with_reducible assumption | with_reducible (apply latch_deleteWritten) | with_reducible (apply kept_foldl) | simp only [kept_mk] | with_reducible refine kept_q ?_ | intro _ | split

theorem latch_effectNow_gone (a0 : ℕ) (a1 : State) (h0 : Kept c a1) : Kept c (effectNow.gone a0 a1) := by
  delta effectNow.gone
  repeat' first | (intro v; subst v) | lift_lets | with_reducible assumption | simp only [kept_mk] | with_reducible refine kept_q ?_

theorem latch_resource_ (a0 : ℕ) (a1 : ℕ) (a2 : State) (h0 : Kept c a2) : Kept c (resource_ a0 a1 a2) := by
  delta resource_
  repeat' first | (intro v; refine kept_in c v ?_ ?_ <;> [subst v; (clear_value v; intro _)]) | (intro v; subst v) | lift_lets | with_reducible assumption | with_reducible (apply latch_loseSources) | with_reducible (apply latch_setDom)

theorem latch_reformTime (a0 : Bytes) (a1 : State) (h0 : Kept c a1) : Kept c (reformTime a0 a1) := by
  delta reformTime
  repeat' first | (intro v; subst v) | lift_lets | with_reducible assumption | with_reducible (apply latch_resource_) | with_reducible (apply latch_timeLimits)

theorem latch_reformGnss (a0 : Bytes) (a1 : State) (h0 : Kept c a1) : Kept c (reformGnss a0 a1) := by
  delta reformGnss
  repeat' first | (intro v; refine kept_in c v ?_ ?_ <;> [subst v; (clear_value v; intro _)]) | (intro v; subst v) | lift_lets | with_reducible assumption | with_reducible (apply latch_spoofRegs) | with_reducible (apply latch_retireChans) | with_reducible (apply latch_antSample) | simp only [kept_mk] | with_reducible refine kept_q ?_ | split

theorem latch_reformRtk (a0 : Bytes) (a1 : State) (h0 : Kept c a1) : Kept c (reformRtk a0 a1) := by
  delta reformRtk
  repeat' first | (intro v; subst v) | lift_lets | with_reducible assumption | with_reducible (apply latch_rtkRegs) | simp only [kept_mk] | with_reducible refine kept_q ?_

theorem latch_reformGrid (a0 : List Gather) (a1 : Bytes) (a2 : State) (h0 : Kept c a2) : Kept c (reformGrid a0 a1 a2) := by
  delta reformGrid
  repeat' first | (intro v; subst v) | lift_lets | with_reducible assumption | with_reducible (apply latch_putZones) | with_reducible (apply latch_dropZones) | simp only [kept_mk] | with_reducible refine kept_q ?_ | split

theorem latch_reformAsChan (a0 : List Bytes) (a1 : State) (a2 : ℕ) (h0 : Kept c a1) : Kept c (reformAsChan a0 a1 a2) := by
  delta reformAsChan
  repeat' first | (intro v; refine kept_in c v ?_ ?_ <;> [subst v; (clear_value v; intro _)]) | (intro v; subst v) | lift_lets | with_reducible assumption | with_reducible (apply latch_setAs) | with_reducible (apply latch_assayEnable) | with_reducible (apply latch_drawn) | dsimp only | split

theorem latch_reformAssay (a0 : Bytes) (a1 : State) (h0 : Kept c a1) : Kept c (reformAssay a0 a1) := by
  delta reformAssay
  repeat' first | (intro v; subst v) | lift_lets | with_reducible assumption | with_reducible (apply latch_reformAsChan) | with_reducible (apply latch_assayHead) | with_reducible (apply latch_checkpointAll) | with_reducible (apply kept_foldl)

theorem latch_reformGather (a0 : List Gather) (a1 : Gather) (a2 : State) (h0 : Kept c a2) : Kept c (reformGather a0 a1 a2) := by
  delta reformGather
  repeat' first | (intro v; subst v) | lift_lets | with_reducible assumption | with_reducible (apply latch_reformTime) | with_reducible (apply latch_reformGnss) | with_reducible (apply latch_reformRtk) | with_reducible (apply latch_reformGrid) | with_reducible (apply latch_reformAssay) | with_reducible (apply latch_applyPairs) | simp only [kept_mk] | with_reducible refine kept_q ?_ | split

theorem latch_effectNow (a0 : ℕ) (a1 : State) (h0 : Kept c a1) : Kept c (effectNow a0 a1) := by
  delta effectNow
  repeat' first | (intro v; subst v) | lift_lets | with_reducible assumption | with_reducible (apply latch_effectNow_gone) | with_reducible (apply latch_reformGather) | with_reducible (apply latch_advanceTo) | split

theorem latch_emitSolution (a0 : ℕ) (a1 : MachEpoch) (a2 : BaseEpoch) (a3 : ℕ) (a4 : State) (h0 : Kept c a4) : Kept c (emitSolution a0 a1 a2 a3 a4) := by
  delta emitSolution
  repeat' first | (intro v; refine kept_in c v ?_ ?_ <;> [subst v; (clear_value v; intro _)]) | (intro v; subst v) | lift_lets | with_reducible assumption | with_reducible (apply latch_epochGone) | with_reducible (apply latch_setRtkMach) | with_reducible (apply latch_raise) | with_reducible (apply latch_deliver) | with_reducible (apply latch_countLoad) | split

theorem latch_endHold (a0 : State) (h0 : Kept c a0) : Kept c (endHold a0) := by
  delta endHold
  repeat' first | (intro v; subst v) | lift_lets | with_reducible assumption | with_reducible (apply latch_driveOutputs) | simp only [kept_mk] | with_reducible refine kept_q ?_

theorem latch_endOnRes (a0 : State) (h0 : Kept c a0) : Kept c (endOnRes a0) := by
  delta endOnRes
  repeat' first | (intro v; subst v) | lift_lets | with_reducible assumption | simp only [kept_mk] | with_reducible refine kept_q ?_

theorem latch_sendRecovery (a0 : ℕ) (a1 : FrameType) (a2 : State) (h0 : Kept c a2) : Kept c (sendRecovery a0 a1 a2) := by
  delta sendRecovery
  repeat' first | (intro v; refine kept_in c (Prod.snd v) ?_ ?_ <;> [subst v; (clear_value v; intro _)]) | (intro v; subst v) | lift_lets | with_reducible assumption | with_reducible (apply latch_transmit) | with_reducible (apply latch_setChain) | split

theorem latch_recover (a0 : ℕ) (a1 : State) (h0 : Kept c a1) : Kept c (recover a0 a1) := by
  delta recover
  repeat' first | lift_lets | with_reducible assumption | with_reducible (apply latch_sendRecovery) | with_reducible (apply kept_foldl) | intro _ | split

theorem latch_endTakeover (a0 : ℕ) (a1 : ℕ) (a2 : State) (h0 : Kept c a2) : Kept c (endTakeover a0 a1 a2) := by
  delta endTakeover
  repeat' first | (intro v; refine kept_in c v ?_ ?_ <;> [subst v; (clear_value v; intro _)]) | (intro v; subst v) | lift_lets | with_reducible assumption | with_reducible (apply latch_recover) | with_reducible (apply latch_note) | with_reducible (apply latch_raise) | with_reducible (apply latch_bumpTwin) | simp only [kept_mk] | with_reducible refine kept_q ?_

theorem latch_releaseHeld (a0 : State) (h0 : Kept c a0) : Kept c (releaseHeld a0) := by
  delta releaseHeld
  repeat' first | (intro v; subst v) | lift_lets | with_reducible assumption | with_reducible (apply latch_ingress) | with_reducible (apply kept_foldl) | simp only [kept_mk] | with_reducible refine kept_q ?_ | intro _ | split

theorem latch_endTest (a0 : ResKind) (a1 : ℕ) (a2 : Bool) (a3 : State) (h0 : Kept c a3) : Kept c (endTest a0 a1 a2 a3) := by
  delta endTest
  repeat' first | (intro v; refine kept_in c v ?_ ?_ <;> [subst v; (clear_value v; intro _)]) | (intro v; subst v) | lift_lets | with_reducible assumption | with_reducible (apply latch_faultDiscard) | with_reducible (apply latch_classify) | with_reducible (apply latch_releaseHeld) | with_reducible (apply latch_postCullets) | with_reducible (apply latch_rememberTransient) | with_reducible (apply latch_passTest) | with_reducible (apply latch_lasting) | dsimp only | split

theorem latch_setSp (a0 : ℕ) (a1 : SpMach → SpMach) (a2 : State) (h0 : Kept c a2) : Kept c (setSp a0 a1 a2) := by
  delta setSp
  repeat' first | (intro v; subst v) | lift_lets | with_reducible assumption | simp only [kept_mk] | with_reducible refine kept_q ?_

theorem latch_unpair (a0 : ℕ) (a1 : State) (h0 : Kept c a1) : Kept c (unpair a0 a1) := by
  delta unpair
  repeat' first | (intro v; refine kept_in c v ?_ ?_ <;> [subst v; (clear_value v; intro _)]) | (intro v; subst v) | lift_lets | with_reducible assumption | with_reducible (apply latch_setSp) | simp only [kept_mk] | with_reducible refine kept_q ?_ | split

theorem latch_engageRun (a0 : ℕ) (a1 : SpCmd) (a2 : State) (h0 : Kept c a2) : Kept c (engageRun a0 a1 a2).2 := by
  delta engageRun
  repeat' first | (intro v; refine kept_in c v ?_ ?_ <;> [subst v; (clear_value v; intro _)]) | (intro v; subst v) | lift_lets | with_reducible assumption | with_reducible (apply latch_unpair) | with_reducible (apply latch_setSp) | simp only [kept_mk] | with_reducible refine kept_q ?_ | split

theorem latch_enterDormant (a0 : State) (h0 : Kept c a0) : Kept c (enterDormant a0) := by
  delta enterDormant
  repeat' first | (intro v; refine kept_in c v ?_ ?_ <;> [subst v; (clear_value v; intro _)]) | (intro v; subst v) | lift_lets | with_reducible assumption | with_reducible (apply latch_eraseSlots) | with_reducible (apply latch_dormantDiscard) | with_reducible (apply latch_checkpointAll) | with_reducible (apply latch_toMode) | with_reducible (apply latch_railsOff) | with_reducible (apply latch_driveOutputs) | with_reducible (apply latch_mainWiped) | with_reducible (apply latch_alignAon)

theorem latch_enterField (a0 : ModeCause) (a1 : ℕ) (a2 : State) (h0 : Kept c a2) : Kept c (enterField a0 a1 a2) := by
  delta enterField
  repeat' first | lift_lets | with_reducible assumption | with_reducible (apply latch_toMode) | with_reducible (apply latch_raiseClaim)

theorem latch_epochEffects (a0 : State) (h0 : Kept c a0) : Kept c (epochEffects a0) := by
  delta epochEffects
  repeat' first | lift_lets | with_reducible assumption | with_reducible (apply latch_effectNow) | split

theorem latch_ethCodes (a0 : ℕ) (a1 : State) (h0 : Kept c a1) : Kept c (ethCodes a0 a1) := by
  delta ethCodes
  repeat' first | (intro v; refine kept_in c v ?_ ?_ <;> [subst v; (clear_value v; intro _)]) | (intro v; subst v) | lift_lets | with_reducible assumption | with_reducible (apply latch_injectFrame) | simp only [kept_mk] | with_reducible refine kept_q ?_ | split

theorem latch_receive (a0 : FrameType) (a1 : RxFrame) (a2 : State) (h0 : Kept c a2) : Kept c (receive a0 a1 a2).2 := by
  delta receive
  repeat' first | (intro v; refine kept_in c v ?_ ?_ <;> [subst v; (clear_value v; intro _)]) | (intro v; subst v) | lift_lets | with_reducible assumption | with_reducible (apply latch_advanceTo) | with_reducible (apply latch_bumpChain) | with_reducible (apply latch_admitFrame) | split

theorem latch_onFrame (a0 : FrameType) (a1 : RxFrame) (a2 : Heard → State → State) (a3 : State) (h0 : ∀ b0 (b1 : State), Kept c b1 → Kept c (a2 b0 b1)) (h1 : Kept c a3) : Kept c (onFrame a0 a1 a2 a3) := by
  delta onFrame
  repeat' first | lift_lets | with_reducible assumption | with_reducible (apply latch_receive) | with_reducible (apply h0) | refine kept_snd ‹_ = (_, _)› ?_ | split

theorem latch_execAck (a0 : RxFrame) (a1 : State) (h0 : Kept c a1) : (∀ t, execAck a0 a1 = .next t → Kept c t) := by
  intro t h
  cases h
  repeat' first | (intro v; subst v) | lift_lets | with_reducible assumption | with_reducible (apply latch_bus) | with_reducible (apply latch_onFrame) | with_reducible (apply latch_setChain) | simp only [kept_mk] | with_reducible refine kept_q ?_ | intro _ | split

theorem latch_gnssEvent (a0 : State → State) (a1 : State) (h0 : ∀ (b0 : State), Kept c b0 → Kept c (a0 b0)) (h1 : Kept c a1) : Kept c (gnssEvent a0 a1) := by
  delta gnssEvent
  repeat' first | lift_lets | with_reducible assumption | with_reducible (apply latch_bus) | with_reducible (apply h0) | intro _ | split

theorem latch_modChan (a0 : ℕ) (a1 : Channel → Channel) (a2 : State) (h0 : Kept c a2) : Kept c (modChan a0 a1 a2) := by
  delta modChan
  repeat' first | (intro v; subst v) | lift_lets | with_reducible assumption | simp only [kept_mk] | with_reducible refine kept_q ?_

theorem latch_execAcquisition (a0 : Fin 512) (a1 : State) (h0 : Kept c a1) : (∀ t, execAcquisition a0 a1 = .next t → Kept c t) := by
  intro t h
  cases h
  repeat' first | lift_lets | with_reducible assumption | with_reducible (apply latch_gnssEvent) | with_reducible (apply latch_modChan) | intro _

theorem latch_execAddKeyHash (a0 : Access) (a1 : Bool) (a2 : State) (h0 : Kept c a2) : (∀ t, execAddKeyHash a0 a1 a2 = .next t → Kept c t) := by
  intro t h
  cases h
  repeat' first | lift_lets | with_reducible assumption | with_reducible (apply latch_bus) | with_reducible (apply latch_geodeRun)

theorem latch_gridMirrored (a0 : State → State) (a1 : State) (h0 : ∀ (b0 : State), Kept c b0 → Kept c (a0 b0)) (h1 : Kept c a1) : Kept c (gridMirrored a0 a1) := by
  delta gridMirrored
  repeat' first | (intro v; refine kept_in c v ?_ ?_ <;> [subst v; (clear_value v; intro _)]) | lift_lets | with_reducible assumption | with_reducible (apply latch_sendGroup) | with_reducible (apply h0) | split

theorem latch_gridBus (a0 : State) (a1 : State → State) (h0 : Kept c a0) (h1 : ∀ (b0 : State), Kept c b0 → Kept c (a1 b0)) : Kept c (gridBus a0 a1) := by
  delta gridBus
  repeat' first | lift_lets | with_reducible assumption | with_reducible (apply latch_bus) | with_reducible (apply latch_gridMirrored) | intro _

theorem latch_markLosers (a0 : GridCmd) (a1 : State) (h0 : Kept c a1) : Kept c (markLosers a0 a1) := by
  delta markLosers
  repeat' first | (intro v; subst v) | lift_lets | with_reducible assumption | simp only [kept_mk] | with_reducible refine kept_q ?_

theorem latch_gridWork (a0 : GridCmd) (a1 : GridCmd → State → GridEnd × State) (a2 : State) (h0 : ∀ b0 (b1 : State), Kept c b1 → Kept c (a1 b0 b1).2) (h1 : Kept c a2) : Kept c (gridWork a0 a1 a2).2 := by
  delta gridWork
  repeat' first | lift_lets | with_reducible assumption | with_reducible (apply latch_bumpGrid) | with_reducible (apply latch_markLosers) | with_reducible (apply h0) | split

theorem latch_finishEntry (a0 : ℕ) (a1 : CmdResult) (a2 : State) (h0 : Kept c a2) : Kept c (finishEntry a0 a1 a2) := by
  delta finishEntry
  repeat' first | lift_lets | with_reducible assumption | with_reducible (apply latch_setCq) | with_reducible (apply latch_passEntries) | with_reducible (apply latch_cqSettle) | with_reducible (apply latch_drainComp) | with_reducible (apply latch_bump) | dsimp only | split

theorem latch_gridFinish (a0 : GridCmd) (a1 : GridEnd) (a2 : State) (h0 : Kept c a2) : Kept c (gridFinish a0 a1 a2) := by
  delta gridFinish
  repeat' first | (intro v; refine kept_in c v ?_ ?_ <;> [subst v; (clear_value v; intro _)]) | (intro v; subst v) | lift_lets | with_reducible assumption | with_reducible (apply latch_raise) | with_reducible (apply latch_finishEntry) | simp only [kept_mk] | with_reducible refine kept_q ?_ | split

theorem latch_gridHead (a0 : ℕ) (a1 : GridCmd → State → GridEnd × State) (a2 : State) (h0 : ∀ b0 (b1 : State), Kept c b1 → Kept c (a1 b0 b1).2) (h1 : Kept c a2) : Kept c (gridHead a0 a1 a2) := by
  delta gridHead
  repeat' first | lift_lets | with_reducible assumption | with_reducible (apply latch_gridWork) | with_reducible (apply latch_gridFinish) | dsimp only | split

theorem latch_gridCmd (a0 : ℕ) (a1 : CmdSrc) (a2 : GridCmd → State → GridEnd × State) (a3 : State) (h0 : ∀ b0 (b1 : State), Kept c b1 → Kept c (a2 b0 b1).2) (h1 : Kept c a3) : Kept c (gridCmd a0 a1 a2 a3) := by
  delta gridCmd
  repeat' first | lift_lets | with_reducible assumption | with_reducible (apply latch_gridHead) | with_reducible (apply latch_gridGo) | split

theorem latch_expireAllots (a0 : State) (h0 : Kept c a0) : Kept c (expireAllots a0) := by
  delta expireAllots
  repeat' first | lift_lets | with_reducible assumption | with_reducible (apply latch_dropRecords)

theorem latch_gridEffect (a0 : State) (h0 : Kept c a0) : Kept c (gridEffect a0) := by
  delta gridEffect
  repeat' first | lift_lets | with_reducible assumption | with_reducible (apply latch_effectNow) | split

theorem latch_execAllot (a0 : CmdSrc) (a1 : State) (h0 : Kept c a1) : (∀ t, execAllot a0 a1 = .next t → Kept c t) := by
  intro t h
  cases h
  repeat' first | lift_lets | with_reducible assumption | with_reducible (apply latch_gridBus) | with_reducible (apply latch_gridCmd) | with_reducible (apply latch_allot) | with_reducible (apply latch_expireAllots) | with_reducible (apply latch_gridEffect) | intro _

theorem latch_execAllotmentEnd (a0 : BitVec 16) (a1 : State) (h0 : Kept c a1) : (∀ t, execAllotmentEnd a0 a1 = .next t → Kept c t) := by
  intro t h
  cases h
  repeat' first | lift_lets | with_reducible assumption | with_reducible (apply latch_gridBus) | with_reducible (apply latch_advanceTo) | with_reducible (apply latch_dropRecords) | dsimp only | intro _ | split

theorem latch_execAnnealLimit (a0 : State) (h0 : Kept c a0) : (∀ t, execAnnealLimit a0 = .next t → Kept c t) := by
  intro t h
  cases h
  repeat' first | lift_lets | with_reducible assumption | with_reducible (apply latch_bus) | with_reducible (apply latch_advanceClk) | with_reducible (apply latch_wardenPulse) | with_reducible (apply latch_raise) | simp only [kept_mk] | with_reducible refine kept_q ?_ | intro _ | split

theorem latch_setptWork (a0 : SpCmd) (a1 : ℕ → SpCmd → State → SpResult × State) (a2 : State) (h0 : ∀ b0 b1 (b2 : State), Kept c b2 → Kept c (a1 b0 b1 b2).2) (h1 : Kept c a2) : Kept c (setptWork a0 a1 a2).2 := by
  delta setptWork
  repeat' first | lift_lets | with_reducible assumption | with_reducible (apply h0) | split

theorem latch_setptFinish (a0 : SpCmd) (a1 : SpResult) (a2 : State) (h0 : Kept c a2) : Kept c (setptFinish a0 a1 a2) := by
  delta setptFinish
  repeat' first | (intro v; refine kept_in c v ?_ ?_ <;> [subst v; (clear_value v; intro _)]) | (intro v; subst v) | lift_lets | with_reducible assumption | with_reducible (apply latch_bumpSetpt) | with_reducible (apply latch_raise) | with_reducible (apply latch_finishEntry) | simp only [kept_mk] | with_reducible refine kept_q ?_ | split

theorem latch_setptHead (a0 : ℕ) (a1 : ℕ → SpCmd → State → SpResult × State) (a2 : State) (h0 : ∀ b0 b1 (b2 : State), Kept c b2 → Kept c (a1 b0 b1 b2).2) (h1 : Kept c a2) : Kept c (setptHead a0 a1 a2) := by
  delta setptHead
  repeat' first | lift_lets | with_reducible assumption | with_reducible (apply latch_setptWork) | with_reducible (apply latch_setptFinish) | dsimp only | split

theorem latch_setptCmd (a0 : ℕ) (a1 : CmdSrc) (a2 : ℕ → SpCmd → State → SpResult × State) (a3 : State) (h0 : ∀ b0 b1 (b2 : State), Kept c b2 → Kept c (a2 b0 b1 b2).2) (h1 : Kept c a3) : Kept c (setptCmd a0 a1 a2 a3) := by
  delta setptCmd
  repeat' first | lift_lets | with_reducible assumption | with_reducible (apply latch_setptHead) | with_reducible (apply latch_setptGo) | split

theorem latch_queueMachAnneal (a0 : ℕ) (a1 : State) (h0 : Kept c a1) : Kept c (queueMachAnneal a0 a1) := by
  delta queueMachAnneal
  repeat' first | lift_lets | with_reducible assumption | with_reducible (apply latch_setChain) | with_reducible (apply kept_foldl) | intro _ | split

theorem latch_setCauses (a0 : ℕ) (a1 : SpCauses → SpCauses) (a2 : State) (h0 : Kept c a2) : Kept c (setCauses a0 a1 a2) := by
  delta setCauses
  repeat' first | (intro v; refine kept_in c v ?_ ?_ <;> [subst v; (clear_value v; intro _)]) | (intro v; subst v) | lift_lets | with_reducible assumption | with_reducible (apply latch_setSp) | with_reducible (apply latch_unpair) | with_reducible (apply latch_bumpSetpt) | with_reducible (apply latch_queueMachAnneal) | split

theorem latch_execAnnealMach (a0 : CmdSrc) (a1 : State) (h0 : Kept c a1) : (∀ t, execAnnealMach a0 a1 = .next t → Kept c t) := by
  intro t h
  cases h
  repeat' first | lift_lets | with_reducible assumption | with_reducible (apply latch_bus) | with_reducible (apply latch_setptCmd) | with_reducible (apply latch_setCauses) | dsimp only | intro _

theorem latch_useShared (a0 : ℕ) (a1 : State) (h0 : Kept c a1) : Kept c (useShared a0 a1) := by
  delta useShared
  repeat' first | lift_lets | with_reducible assumption | with_reducible (apply latch_setChain)

theorem latch_toUs (a0 : ℕ) (a1 : State) (h0 : Kept c a1) : Kept c (toUs a0 a1) := by
  delta toUs
  repeat' first | lift_lets | with_reducible assumption | with_reducible (apply latch_advanceTo)

theorem latch_sendShared (a0 : ℕ) (a1 : FrameType) (a2 : ℕ) (a3 : Bytes) (a4 : State) (h0 : Kept c a4) : Kept c (sendShared a0 a1 a2 a3 a4).2 := by
  delta sendShared
  repeat' first | lift_lets | with_reducible assumption | with_reducible (apply latch_transmit) | with_reducible (apply latch_useShared) | with_reducible (apply latch_toUs)

theorem latch_execAnnealTx (a0 : Fin 3) (a1 : State) (h0 : Kept c a1) : (∀ t, execAnnealTx a0 a1 = .next t → Kept c t) := by
  intro t h
  cases h
  repeat' first | lift_lets | with_reducible assumption | with_reducible (apply latch_bus) | with_reducible (apply latch_sendShared) | with_reducible (apply latch_setChain) | dsimp only | intro _ | split

theorem latch_execAntBiasRetry (a0 : Bool) (a1 : State) (h0 : Kept c a1) : (∀ t, execAntBiasRetry a0 a1 = .next t → Kept c t) := by
  intro t h
  cases h
  repeat' first | lift_lets | with_reducible assumption | with_reducible (apply latch_gnssEvent) | with_reducible (apply latch_advanceClk) | with_reducible (apply latch_setAnt) | dsimp only | intro _ | split

theorem latch_execAntBiasSample (a0 : Bool) (a1 : ℕ) (a2 : State) (h0 : Kept c a2) : (∀ t, execAntBiasSample a0 a1 a2 = .next t → Kept c t) := by
  intro t h
  cases h
  repeat' first | lift_lets | with_reducible assumption | with_reducible (apply latch_gnssEvent) | with_reducible (apply latch_antSample)

theorem latch_onAon (a0 : State) (a1 : State → State) (h0 : Kept c a0) (h1 : ∀ (b0 : State), Kept c b0 → Kept c (a1 b0)) : Kept c (onAon a0 a1) := by
  delta onAon
  repeat' first | lift_lets | with_reducible assumption | with_reducible (apply h1) | split

theorem latch_execAonClockChangeover (a0 : State) (h0 : Kept c a0) : (∀ t, execAonClockChangeover a0 = .next t → Kept c t) := by
  intro t h
  cases h
  repeat' first | lift_lets | with_reducible assumption | with_reducible (apply latch_onAon) | simp only [kept_mk] | with_reducible refine kept_q ?_ | intro _

theorem latch_losePower (a0 a1 : ℕ) (a2 : State) (h0 : Kept c a2) : Kept c (losePower a0 a1 a2) := by
  delta losePower
  rw [kept_mk, keptQ_mk]
  have k := keptV_set (v := a2.quench.chs) (f := fun (c : QChannel) => { c1 := { level := c.c1.level }, c2 := { level := c.c2.level }, out := false }) (fun _ => rfl) h0
  exact ⟨k.1, k.2.1, fun _ => rfl⟩

theorem latch_execAonPowerLoss (a0 : ℕ) (a1 : ℕ) (a2 : State) (h0 : Kept c a2) : (∀ t, execAonPowerLoss a0 a1 a2 = .next t → Kept c t) := by
  intro t h
  cases h
  repeat' first | lift_lets | with_reducible assumption | with_reducible (apply latch_losePower) | intro _ | split

theorem latch_lostCounts (a0 : State) (a1 : ℕ) (h0 : Kept c a0) : Kept c (lostCounts a0 a1) := by
  delta lostCounts
  repeat' first | (intro v; subst v) | lift_lets | with_reducible assumption | with_reducible (apply latch_note)

theorem latch_loadTotals (a0 : Bool) (a1 : State) (h0 : Kept c a1) : Kept c (loadTotals a0 a1) := by
  delta loadTotals
  repeat' first | (intro v; refine kept_in c v ?_ ?_ <;> [subst v; (clear_value v; intro _)]) | (intro v; subst v) | lift_lets | with_reducible assumption | with_reducible (apply latch_lostCounts) | with_reducible (apply latch_mapAs) | with_reducible (apply kept_foldl) | simp only [kept_mk] | with_reducible refine kept_q ?_ | intro _ | split

theorem latch_powerUp (a0 a1 : ℕ) (a2 : State) (h0 : Kept c a2) : Kept c (powerUp a0 a1 a2) := by
  delta powerUp
  refine latch_driveOutputs _ (latch_resetRecord _ _ (latch_loadTotals _ _ (latch_setCause _ _ ?_)))
  rw [kept_mk]
  exact keptV_set (fun _ => rfl) h0

theorem latch_execAonPowerUp (a0 : ℕ) (a1 : ℕ) (a2 : State) (h0 : Kept c a2) : (∀ t, execAonPowerUp a0 a1 a2 = .next t → Kept c t) := by
  intro t h
  cases h
  repeat' first | lift_lets | with_reducible assumption | with_reducible (apply latch_powerUp) | intro _ | split

theorem latch_execAonSecond (a0 : State) (h0 : Kept c a0) : (∀ t, execAonSecond a0 = .next t → Kept c t) := by
  intro t h
  cases h
  repeat' first | lift_lets | with_reducible assumption | with_reducible (apply latch_onAon) | with_reducible (apply latch_aonSecond)

theorem latch_execApplicationDone (a0 : State) (h0 : Kept c a0) : (∀ t, execApplicationDone a0 = .next t → Kept c t) := by
  intro t h
  cases h
  repeat' first | lift_lets | with_reducible assumption | with_reducible (apply latch_bus) | with_reducible (apply latch_applicationDone)

theorem latch_execAssayBFuncWrite (a0 : Word) (a1 : State) (h0 : Kept c a1) : (∀ t, execAssayBFuncWrite a0 a1 = .next t → Kept c t) := by
  intro t h
  cases h
  repeat' first | lift_lets | with_reducible assumption | with_reducible (apply latch_bus) | with_reducible (apply latch_bFuncWrite)

theorem latch_execAssayChannelEnable (a0 : Fin 16) (a1 : Bool) (a2 : ℕ) (a3 : State) (h0 : Kept c a3) : (∀ t, execAssayChannelEnable a0 a1 a2 a3 = .next t → Kept c t) := by
  intro t h
  cases h
  repeat' first | lift_lets | with_reducible assumption | with_reducible (apply latch_bus) | with_reducible (apply latch_assayEnable) | with_reducible (apply latch_settleAs) | intro _

theorem latch_wardenPop (a0 : State) (h0 : Kept c a0) : Kept c (wardenPop a0) := by
  delta wardenPop
  repeat' first | lift_lets | with_reducible assumption | with_reducible (apply latch_setMb)

theorem latch_wardenTake (a0 : ℕ → Bool) (a1 : ℕ → ℕ → ℕ → State → State) (a2 : State) (h0 : ∀ b0 b1 b2 (b3 : State), Kept c b3 → Kept c (a1 b0 b1 b2 b3)) (h1 : Kept c a2) : Kept c (wardenTake a0 a1 a2) := by
  delta wardenTake
  repeat' first | lift_lets | with_reducible assumption | with_reducible (apply latch_wardenPop) | with_reducible (apply h0) | split

theorem latch_execBadOp (a0 : State) (h0 : Kept c a0) : (∀ t, execBadOp a0 = .next t → Kept c t) := by
  intro t h
  cases h
  repeat' first | lift_lets | with_reducible assumption | with_reducible (apply latch_bus) | with_reducible (apply latch_wardenTake) | with_reducible (apply latch_wardenAnswer) | intro _

theorem latch_onWarden (a0 : State) (a1 : State → State) (h0 : Kept c a0) (h1 : ∀ (b0 : State), Kept c b0 → Kept c (a1 b0)) : Kept c (onWarden a0 a1) := by
  delta onWarden
  repeat' first | lift_lets | with_reducible assumption | with_reducible (apply h1) | split

theorem latch_execBattLowClear (a0 : State) (h0 : Kept c a0) : (∀ t, execBattLowClear a0 = .next t → Kept c t) := by
  intro t h
  cases h
  repeat' first | lift_lets | with_reducible assumption | with_reducible (apply latch_onWarden) | simp only [kept_mk] | with_reducible refine kept_q ?_ | intro _ | split

theorem latch_execBattResCrit (a0 : State) (h0 : Kept c a0) : (∀ t, execBattResCrit a0 = .next t → Kept c t) := by
  intro t h
  cases h
  repeat' first | lift_lets | with_reducible assumption | with_reducible (apply latch_onWarden) | with_reducible (apply latch_battCritNow) | intro _ | split

theorem latch_execBattResLow (a0 : State) (h0 : Kept c a0) : (∀ t, execBattResLow a0 = .next t → Kept c t) := by
  intro t h
  cases h
  repeat' first | lift_lets | with_reducible assumption | with_reducible (apply latch_onWarden) | with_reducible (apply latch_battLowNow) | intro _ | split

theorem latch_execBatteryAnnealLimit_limit (a0 : State) (h0 : Kept c a0) : Kept c (execBatteryAnnealLimit.limit a0) := by
  delta execBatteryAnnealLimit.limit
  repeat' first | (intro v; subst v) | lift_lets | with_reducible assumption | with_reducible (apply latch_settleVote) | simp only [kept_mk] | with_reducible refine kept_q ?_

theorem latch_execBatteryAnnealLimit (a0 : State) (h0 : Kept c a0) : (∀ t, execBatteryAnnealLimit a0 = .next t → Kept c t) := by
  intro t h
  cases h
  repeat' first | lift_lets | with_reducible assumption | with_reducible (apply latch_onWarden) | with_reducible (apply latch_execBatteryAnnealLimit_limit) | with_reducible (apply latch_advanceClk) | dsimp only | intro _ | split

theorem latch_execBeaconTx (a0 : Fin 3) (a1 : State) (h0 : Kept c a1) : (∀ t, execBeaconTx a0 a1 = .next t → Kept c t) := by
  intro t h
  cases h
  repeat' first | lift_lets | with_reducible assumption | with_reducible (apply latch_bus) | with_reducible (apply latch_toUs) | with_reducible (apply latch_transmit) | with_reducible (apply latch_setChain) | dsimp only | intro _ | split

theorem latch_execBind (a0 : Fin 32) (a1 : Word) (a2 : State) (h0 : Kept c a2) : (∀ t, execBind a0 a1 a2 = .next t → Kept c t) := by
  intro t h
  cases h
  repeat' first | lift_lets | with_reducible assumption | with_reducible (apply latch_bus) | with_reducible (apply latch_writeBind)

theorem latch_execBoundInterrupt (a0 : Fin 32) (a1 : State) (h0 : Kept c a1) : (∀ t, execBoundInterrupt a0 a1 = .next t → Kept c t) := by
  intro t h
  cases h
  repeat' first | lift_lets | with_reducible assumption | with_reducible (apply latch_bus) | with_reducible (apply latch_bindEdge)

theorem latch_signBundle (a0 : Bundle) (a1 : State) (h0 : Kept c a1) : Kept c (signBundle a0 a1).2 := by
  delta signBundle
  repeat' first | (intro v; subst v) | lift_lets | with_reducible assumption | with_reducible (apply latch_useRefused) | with_reducible (apply latch_raise) | with_reducible (apply latch_drawn) | dsimp only | split

theorem latch_routeDrop (a0 : State) (h0 : Kept c a0) : Kept c (routeDrop a0) := by
  delta routeDrop
  repeat' first | lift_lets | with_reducible assumption | with_reducible (apply latch_bump)

theorem latch_routeRadio (a0 : ℕ) (a1 : Bytes) (a2 : State) (h0 : Kept c a2) : Kept c (routeRadio a0 a1 a2) := by
  delta routeRadio
  repeat' first | (intro v; refine kept_in c v ?_ ?_ <;> [subst v; (clear_value v; intro _)]) | (intro v; subst v) | lift_lets | with_reducible assumption | with_reducible (apply latch_setChain) | with_reducible (apply latch_routeDrop) | with_reducible (apply kept_foldl) | intro _ | split

theorem latch_uartSettle (a0 : State) (h0 : Kept c a0) : Kept c (uartSettle a0) := by
  delta uartSettle
  repeat' first | (intro v; subst v) | lift_lets | with_reducible assumption | simp only [kept_mk] | with_reducible refine kept_q ?_ | split

theorem latch_routeUart (a0 : Bytes) (a1 : State) (h0 : Kept c a1) : Kept c (routeUart a0 a1) := by
  delta routeUart
  repeat' first | (intro v; refine kept_in c v ?_ ?_ <;> [subst v; (clear_value v; intro _)]) | (intro v; subst v) | lift_lets | with_reducible assumption | with_reducible (apply latch_uartSettle) | with_reducible (apply latch_routeDrop) | simp only [kept_mk] | with_reducible refine kept_q ?_ | split

theorem latch_routeEth (a0 : Bytes) (a1 : State) (h0 : Kept c a1) : Kept c (routeEth a0 a1) := by
  delta routeEth
  repeat' first | (intro v; refine kept_in c v ?_ ?_ <;> [subst v; (clear_value v; intro _)]) | (intro v; subst v) | lift_lets | with_reducible assumption | with_reducible (apply latch_routeDrop) | with_reducible (apply latch_ethSettle) | simp only [kept_mk] | with_reducible refine kept_q ?_ | split

theorem latch_execBundleComplete (a0 : State) (h0 : Kept c a0) : (∀ t, execBundleComplete a0 = .next t → Kept c t) := by
  intro t h
  cases h
  repeat' first | lift_lets | with_reducible assumption | with_reducible (apply latch_bus) | with_reducible (apply latch_signBundle) | with_reducible (apply latch_routeRadio) | with_reducible (apply latch_routeUart) | with_reducible (apply latch_routeEth) | simp only [kept_mk] | with_reducible refine kept_q ?_ | intro _ | split

theorem latch_openWindow (a0 : State) (h0 : Kept c a0) : Kept c (openWindow a0) := by
  delta openWindow
  repeat' first | (intro v; subst v) | lift_lets | with_reducible assumption | simp only [kept_mk] | with_reducible refine kept_q ?_

theorem latch_execBurstWindow (a0 : State) (h0 : Kept c a0) : (∀ t, execBurstWindow a0 = .next t → Kept c t) := by
  intro t h
  cases h
  repeat' first | lift_lets | with_reducible assumption | with_reducible (apply latch_gnssEvent) | with_reducible (apply latch_openWindow) | with_reducible (apply latch_advanceTo) | intro _ | split

theorem latch_execC2hPop (a0 : Fin 9) (a1 : Master) (a2 : State) (h0 : Kept c a2) : (∀ t, execC2hPop a0 a1 a2 = .next t → Kept c t) := by
  intro t h
  cases h
  repeat' first | lift_lets | with_reducible assumption | with_reducible (apply latch_bus) | with_reducible (apply latch_mbPop) | simp only [kept_mk] | with_reducible refine kept_q ?_ | intro _ | split

theorem latch_execC2hPush (a0 : Fin 9) (a1 : Master) (a2 : Word) (a3 : Bool) (a4 : State) (h0 : Kept c a4) : (∀ t, execC2hPush a0 a1 a2 a3 a4 = .next t → Kept c t) := by
  intro t h
  cases h
  repeat' first | lift_lets | with_reducible assumption | with_reducible (apply latch_bus) | with_reducible (apply latch_mbPush) | intro _ | split

theorem latch_execCancel (a0 : Fin 4096) (a1 : State) (h0 : Kept c a1) : (∀ t, execCancel a0 a1 = .next t → Kept c t) := by
  intro t h
  cases h
  repeat' first | lift_lets | with_reducible assumption | with_reducible (apply latch_bus) | with_reducible (apply latch_cancelTask) | intro _ | split

theorem latch_execCaptureEdge (a0 : Fin 5) (a1 : Bool) (a2 : State) (h0 : Kept c a2) : (∀ t, execCaptureEdge a0 a1 a2 = .next t → Kept c t) := by
  intro t h
  cases h
  repeat' first | lift_lets | with_reducible assumption | with_reducible (apply latch_bus) | with_reducible (apply latch_raise) | simp only [kept_mk] | with_reducible refine kept_q ?_ | intro _ | split

theorem latch_execCaptureRead (a0 : State) (h0 : Kept c a0) : (∀ t, execCaptureRead a0 = .next t → Kept c t) := by
  intro t h
  cases h
  repeat' first | lift_lets | with_reducible assumption | with_reducible (apply latch_bus) | with_reducible (apply latch_captureRead)

theorem latch_execChainEnable (a0 : Fin 3) (a1 : Word) (a2 : State) (h0 : Kept c a2) : (∀ t, execChainEnable a0 a1 a2 = .next t → Kept c t) := by
  intro t h
  cases h
  repeat' first | lift_lets | with_reducible assumption | with_reducible (apply latch_bus) | with_reducible (apply latch_chainCtrl)

theorem latch_execChallengeRead (a0 : Access) (a1 : State) (h0 : Kept c a1) : (∀ t, execChallengeRead a0 a1 = .next t → Kept c t) := by
  intro t h
  cases h
  repeat' first | lift_lets | with_reducible assumption | with_reducible (apply latch_bus) | with_reducible (apply latch_drawChallenge)

theorem latch_execCheckAndStore (a0 : Fin 4) (a1 : Fin 4) (a2 : State) (h0 : Kept c a2) : (∀ t, execCheckAndStore a0 a1 a2 = .next t → Kept c t) := by
  intro t h
  cases h
  repeat' first | lift_lets | with_reducible assumption | with_reducible (apply latch_bus) | with_reducible (apply latch_startAction)

theorem latch_execCheckOnly (a0 : Fin 4) (a1 : Fin 4) (a2 : State) (h0 : Kept c a2) : (∀ t, execCheckOnly a0 a1 a2 = .next t → Kept c t) := by
  intro t h
  cases h
  repeat' first | lift_lets | with_reducible assumption | with_reducible (apply latch_bus) | with_reducible (apply latch_startAction)

theorem latch_execCheckpointTick_ckpt (a0 : State) (h0 : Kept c a0) : Kept c (execCheckpointTick.ckpt a0) := by
  delta execCheckpointTick.ckpt
  repeat' first | (intro v; subst v) | lift_lets | with_reducible assumption | with_reducible (apply latch_checkpointAll) | simp only [kept_mk] | with_reducible refine kept_q ?_

end Sys2Proof.Machine
end

