-- ==== Sys2Proof/Laws/LatchCommands.lean ====
section
/-! SUPPORT. LatchCommands.lean: the same for every command: a release by the host alone clears the copies, and no command touches the queue. -/

namespace Sys2Proof.Machine

open Sys2Proof

variable {c : LatchClaim}

theorem latch_execCheckpointTick (a0 : State) (h0 : Kept c a0) : (∀ t, execCheckpointTick a0 = .next t → Kept c t) := by
  intro t h
  cases h
  repeat' first | lift_lets | with_reducible assumption | with_reducible (apply latch_bus) | with_reducible (apply latch_execCheckpointTick_ckpt) | with_reducible (apply latch_advanceTo) | intro _ | split

theorem latch_execClaimConflict (a0 : State) (h0 : Kept c a0) : (∀ t, execClaimConflict a0 = .next t → Kept c t) := by
  intro t h
  cases h
  repeat' first | lift_lets | with_reducible assumption | with_reducible (apply latch_onAon) | with_reducible (apply latch_claimConflict) | with_reducible (apply latch_advanceClk) | simp only [kept_mk] | with_reducible refine kept_q ?_ | intro _ | split

theorem latch_execClaimGlitch (a0 : State) (h0 : Kept c a0) : (∀ t, execClaimGlitch a0 = .next t → Kept c t) := by
  intro t h
  cases h
  repeat' first | lift_lets | with_reducible assumption | with_reducible (apply latch_onAon) | with_reducible (apply latch_bumpTwin)

theorem latch_openGates (a0 : State) (h0 : Kept c a0) : Kept c (openGates a0) := by
  delta openGates
  repeat' first | (intro v; subst v) | lift_lets | with_reducible assumption | with_reducible (apply latch_driveOutputs) | simp only [kept_mk] | with_reducible refine kept_q ?_

theorem latch_execClaimGuardExpire_guardEnd (a0 : State) (h0 : Kept c a0) : Kept c (execClaimGuardExpire.guardEnd a0) := by
  delta execClaimGuardExpire.guardEnd
  repeat' first | lift_lets | with_reducible assumption | with_reducible (apply latch_endTakeover) | with_reducible (apply latch_openGates) | with_reducible (apply latch_advance) | with_reducible (apply latch_drawn) | split

theorem latch_execClaimGuardExpire (a0 : State) (h0 : Kept c a0) : (∀ t, execClaimGuardExpire a0 = .next t → Kept c t) := by
  intro t h
  cases h
  repeat' first | lift_lets | with_reducible assumption | with_reducible (apply latch_onAon) | with_reducible (apply latch_execClaimGuardExpire_guardEnd) | with_reducible (apply latch_advanceClk) | intro _ | split

theorem latch_takeoverReport (a0 : State) (h0 : Kept c a0) : Kept c (takeoverReport a0) := by
  delta takeoverReport
  repeat' first | (intro v; refine kept_in c v ?_ ?_ <;> [subst v; (clear_value v; intro _)]) | (intro v; subst v) | lift_lets | with_reducible assumption | with_reducible (apply latch_discardHits) | with_reducible (apply latch_setCq) | with_reducible (apply kept_foldl) | intro _ | split

theorem latch_takeover (a0 : State) (h0 : Kept c a0) : Kept c (takeover a0) := by
  delta takeover
  repeat' first | (intro v; refine kept_in c v ?_ ?_ <;> [subst v; (clear_value v; intro _)]) | (intro v; subst v) | lift_lets | with_reducible assumption | with_reducible (apply latch_abandonReform) | with_reducible (apply latch_raiseClaim) | with_reducible (apply latch_wardenPulse) | with_reducible (apply latch_gridStart) | with_reducible (apply latch_toMode) | with_reducible (apply latch_adopt) | with_reducible (apply latch_takeoverReport) | simp only [kept_mk] | with_reducible refine kept_q ?_ | split

theorem latch_execClaimIFall (a0 : State) (h0 : Kept c a0) : (∀ t, execClaimIFall a0 = .next t → Kept c t) := by
  intro t h
  cases h
  repeat' first | lift_lets | with_reducible assumption | with_reducible (apply latch_onAon) | with_reducible (apply latch_takeover) | simp only [kept_mk] | with_reducible refine kept_q ?_ | intro _ | split

theorem latch_execClaimIRise (a0 : State) (h0 : Kept c a0) : (∀ t, execClaimIRise a0 = .next t → Kept c t) := by
  intro t h
  cases h
  repeat' first | lift_lets | with_reducible assumption | with_reducible (apply latch_onAon) | with_reducible (apply latch_claimSeen) | simp only [kept_mk] | with_reducible refine kept_q ?_ | intro _ | split

theorem latch_execCloseWorld (a0 : Access) (a1 : State) (h0 : Kept c a1) : (∀ t, execCloseWorld a0 a1 = .next t → Kept c t) := by
  intro t h
  cases h
  repeat' first | lift_lets | with_reducible assumption | with_reducible (apply latch_bus) | with_reducible (apply latch_closeHost)

theorem latch_execCoalesceTimeout (a0 : Fin 16) (a1 : State) (h0 : Kept c a1) : (∀ t, execCoalesceTimeout a0 a1 = .next t → Kept c t) := by
  intro t h
  cases h
  repeat' first | lift_lets | with_reducible assumption | with_reducible (apply latch_bus) | with_reducible (apply latch_eqSignal) | with_reducible (apply latch_advanceClk) | intro _ | split

theorem latch_execCoastTimeout (a0 : Fin 512) (a1 : State) (h0 : Kept c a1) : (∀ t, execCoastTimeout a0 a1 = .next t → Kept c t) := by
  intro t h
  cases h
  repeat' first | lift_lets | with_reducible assumption | with_reducible (apply latch_gnssEvent) | with_reducible (apply latch_advanceClk) | with_reducible (apply latch_modChan) | dsimp only | intro _ | split

theorem latch_execCodeLockRegained (a0 : Fin 512) (a1 : State) (h0 : Kept c a1) : (∀ t, execCodeLockRegained a0 a1 = .next t → Kept c t) := by
  intro t h
  cases h
  repeat' first | lift_lets | with_reducible assumption | with_reducible (apply latch_gnssEvent) | with_reducible (apply latch_modChan) | intro _

theorem latch_execColdStart (a0 : State) (h0 : Kept c a0) : (∀ t, execColdStart a0 = .next t → Kept c t) := by
  intro t h
  cases h
  repeat' first | lift_lets | with_reducible assumption | with_reducible (apply latch_bus) | with_reducible (apply latch_coldStart)

theorem latch_execCommandCommit (a0 : Fin 16) (a1 : State) (h0 : Kept c a1) : (∀ t, execCommandCommit a0 a1 = .next t → Kept c t) := by
  intro t h
  cases h
  repeat' first | lift_lets | with_reducible assumption | with_reducible (apply latch_bus) | with_reducible (apply latch_drainComp) | with_reducible (apply latch_finishEntry) | dsimp only | intro _ | split

theorem latch_linkFails (a0 : State) (h0 : Kept c a0) : Kept c (linkFails a0) := by
  delta linkFails
  repeat' first | (intro v; subst v) | lift_lets | with_reducible assumption | with_reducible (apply latch_detect) | simp only [kept_mk] | with_reducible refine kept_q ?_

theorem latch_frameBad (a0 : State) (h0 : Kept c a0) : Kept c (frameBad a0) := by
  delta frameBad
  repeat' first | (intro v; subst v) | lift_lets | with_reducible assumption | with_reducible (apply latch_linkFails) | with_reducible (apply latch_sendBody) | simp only [kept_mk] | with_reducible refine kept_q ?_ | split

theorem latch_gatedCheck (a0 : FrHead) (a1 : State) (h0 : Kept c a1) : Kept c (gatedCheck a0 a1) := by
  delta gatedCheck
  repeat' first | lift_lets | with_reducible assumption | with_reducible (apply latch_claimConflict) | split

theorem latch_pairFrom (a0 : FrHead) (a1 : State) (h0 : Kept c a1) : Kept c (pairFrom a0 a1) := by
  delta pairFrom
  repeat' first | lift_lets | with_reducible assumption | with_reducible (apply latch_toPair) | split

theorem latch_headIn (a0 : FrHead) (a1 : State) (h0 : Kept c a1) : Kept c (headIn a0 a1) := by
  delta headIn
  repeat' first | (intro v; refine kept_in c v ?_ ?_ <;> [subst v; (clear_value v; intro _)]) | (intro v; subst v) | lift_lets | with_reducible assumption | with_reducible (apply latch_bumpTwin) | with_reducible (apply latch_corrected) | with_reducible (apply latch_gatedCheck) | with_reducible (apply latch_pairFrom) | with_reducible (apply latch_acked) | simp only [kept_mk] | with_reducible refine kept_q ?_

theorem latch_frameUp (a0 : FrHead) (a1 : State → State) (a2 : State) (h0 : ∀ (b0 : State), Kept c b0 → Kept c (a1 b0)) (h1 : Kept c a2) : Kept c (frameUp a0 a1 a2) := by
  delta frameUp
  repeat' first | (intro v; refine kept_in c v ?_ ?_ <;> [subst v; (clear_value v; intro _)]) | lift_lets | with_reducible assumption | with_reducible (apply latch_frameBad) | with_reducible (apply latch_headIn) | with_reducible (apply h0) | split

theorem latch_execCommit (a0 : FrHead) (a1 : Fin 7) (a2 : State) (h0 : Kept c a2) : (∀ t, execCommit a0 a1 a2 = .next t → Kept c t) := by
  intro t h
  cases h
  repeat' first | lift_lets | with_reducible assumption | with_reducible (apply latch_bus) | with_reducible (apply latch_frameUp) | with_reducible (apply latch_commitGroup) | intro _ | split

theorem latch_execCompareArm (a0 : Fin 4) (a1 : Word) (a2 : State) (h0 : Kept c a2) : (∀ t, execCompareArm a0 a1 a2 = .next t → Kept c t) := by
  intro t h
  cases h
  repeat' first | lift_lets | with_reducible assumption | with_reducible (apply latch_bus) | with_reducible (apply latch_regWrite) | with_reducible (apply latch_fireCompare) | dsimp only | intro _ | split

theorem latch_execCompareFire (a0 : Fin 4) (a1 : State) (h0 : Kept c a1) : (∀ t, execCompareFire a0 a1 = .next t → Kept c t) := by
  intro t h
  cases h
  repeat' first | lift_lets | with_reducible assumption | with_reducible (apply latch_bus) | with_reducible (apply latch_fireCompare) | with_reducible (apply latch_advanceTo) | dsimp only | intro _ | split

theorem latch_execConfirmationDone (a0 : State) (h0 : Kept c a0) : (∀ t, execConfirmationDone a0 = .next t → Kept c t) := by
  intro t h
  cases h
  repeat' first | lift_lets | with_reducible assumption | with_reducible (apply latch_bus) | with_reducible (apply latch_confirmationDone) | intro _ | split

theorem latch_execContactAccept (a0 : Fin 6) (a1 : State) (h0 : Kept c a1) : (∀ t, execContactAccept a0 a1 = .next t → Kept c t) := by
  intro t h
  cases h
  repeat' first | lift_lets | with_reducible assumption | with_reducible (apply latch_onAon) | with_reducible (apply latch_contactAccept)

theorem latch_execContactEdge (a0 : Fin 6) (a1 : Bool) (a2 : State) (h0 : Kept c a2) : (∀ t, execContactEdge a0 a1 a2 = .next t → Kept c t) := by
  intro t h
  cases h
  repeat' first | lift_lets | with_reducible assumption | with_reducible (apply latch_onAon) | with_reducible (apply latch_contactEdge)

theorem latch_execCorrTx (a0 : Fin 3) (a1 : State) (h0 : Kept c a1) : (∀ t, execCorrTx a0 a1 = .next t → Kept c t) := by
  intro t h
  cases h
  repeat' first | lift_lets | with_reducible assumption | with_reducible (apply latch_bus) | with_reducible (apply latch_sendShared) | with_reducible (apply latch_setChain) | dsimp only | intro _ | split

theorem latch_execCorrWrite (a0 : Bool) (a1 : Word) (a2 : State) (h0 : Kept c a2) : (∀ t, execCorrWrite a0 a1 a2 = .next t → Kept c t) := by
  intro t h
  cases h
  repeat' first | lift_lets | with_reducible assumption | with_reducible (apply latch_bus) | with_reducible (apply latch_corrWrite)

theorem latch_execCorrectionAgeLimit (a0 : State) (h0 : Kept c a0) : (∀ t, execCorrectionAgeLimit a0 = .next t → Kept c t) := by
  intro t h
  cases h
  repeat' first | lift_lets | with_reducible assumption | with_reducible (apply latch_bus) | with_reducible (apply latch_advanceClk) | with_reducible (apply latch_advanceTo) | with_reducible (apply latch_ageAction) | dsimp only | intro _ | split

theorem latch_execCqEnable (a0 : Fin 16) (a1 : Word) (a2 : State) (h0 : Kept c a2) : (∀ t, execCqEnable a0 a1 a2 = .next t → Kept c t) := by
  intro t h
  cases h
  repeat' first | lift_lets | with_reducible assumption | with_reducible (apply latch_bus) | with_reducible (apply latch_cqConfig)

theorem latch_execCulletPost (a0 : State) (h0 : Kept c a0) : (∀ t, execCulletPost a0 = .next t → Kept c t) := by
  intro t h
  cases h
  repeat' first | lift_lets | with_reducible assumption | with_reducible (apply latch_bus) | with_reducible (apply latch_postCullets)

theorem latch_takeFragment (a0 : Heard) (a1 : State) (h0 : Kept c a1) : Kept c (takeFragment a0 a1) := by
  delta takeFragment
  repeat' first | (intro v; subst v) | lift_lets | with_reducible assumption | with_reducible (apply latch_deliverUp) | simp only [kept_mk] | with_reducible refine kept_q ?_ | split

theorem latch_execData (a0 : RxFrame) (a1 : State) (h0 : Kept c a1) : (∀ t, execData a0 a1 = .next t → Kept c t) := by
  intro t h
  cases h
  repeat' first | lift_lets | with_reducible assumption | with_reducible (apply latch_bus) | with_reducible (apply latch_onFrame) | with_reducible (apply latch_takeFragment) | with_reducible (apply latch_sendAck) | dsimp only | intro _ | split

theorem latch_execDelay (a0 : Master) (a1 : Fin 4096) (a2 : BitVec 16) (a3 : State) (h0 : Kept c a3) : (∀ t, execDelay a0 a1 a2 a3 = .next t → Kept c t) := by
  intro t h
  cases h
  repeat' first | lift_lets | with_reducible assumption | with_reducible (apply latch_bus) | with_reducible (apply latch_delayTask)

theorem latch_execDelayWake (a0 : Fin 4096) (a1 : State) (h0 : Kept c a1) : (∀ t, execDelayWake a0 a1 = .next t → Kept c t) := by
  intro t h
  cases h
  repeat' first | lift_lets | with_reducible assumption | with_reducible (apply latch_bus) | with_reducible (apply latch_dispTick) | with_reducible (apply latch_advanceTo) | intro _ | split

theorem latch_execDerive (a0 : Access) (a1 : Bool) (a2 : Fin 128) (a3 : Fin 128) (a4 : Bool) (a5 : State) (h0 : Kept c a5) : (∀ t, execDerive a0 a1 a2 a3 a4 a5 = .next t → Kept c t) := by
  intro t h
  cases h
  repeat' first | lift_lets | with_reducible assumption | with_reducible (apply latch_bus) | with_reducible (apply latch_geodeRun)

theorem latch_execDescWrite (a0 : Fin 4096) (a1 : State) (h0 : Kept c a1) : (∀ t, execDescWrite a0 a1 = .next t → Kept c t) := by
  intro t h
  cases h
  repeat' first | lift_lets | with_reducible assumption | with_reducible (apply latch_bus) | with_reducible (apply latch_descWrite)

theorem latch_execDiscrepant (a0 : Fin 3) (a1 : State) (h0 : Kept c a1) : (∀ t, execDiscrepant a0 a1 = .next t → Kept c t) := by
  intro t h
  cases h
  repeat' first | lift_lets | with_reducible assumption | with_reducible (apply latch_onAon) | with_reducible (apply latch_endWindow) | with_reducible (apply latch_advanceClk) | intro _ | split

theorem latch_execDiscrepantClear (a0 : Fin 3) (a1 : State) (h0 : Kept c a1) : (∀ t, execDiscrepantClear a0 a1 = .next t → Kept c t) := by
  intro t h
  cases h
  repeat' first | lift_lets | with_reducible assumption | with_reducible (apply latch_bus) | with_reducible (apply latch_clearDiscrepant)

theorem latch_execDisengage (a0 : CmdSrc) (a1 : State) (h0 : Kept c a1) : (∀ t, execDisengage a0 a1 = .next t → Kept c t) := by
  intro t h
  cases h
  repeat' first | lift_lets | with_reducible assumption | with_reducible (apply latch_bus) | with_reducible (apply latch_setptCmd) | with_reducible (apply latch_unpair) | intro _ | split

theorem latch_execDispatchYield (a0 : Fin 8) (a1 : Master) (a2 : Fin 4096) (a3 : State) (h0 : Kept c a3) : (∀ t, execDispatchYield a0 a1 a2 a3 = .next t → Kept c t) := by
  intro t h
  cases h
  repeat' first | lift_lets | with_reducible assumption | with_reducible (apply latch_bus) | with_reducible (apply latch_yieldTask) | intro _ | split

theorem latch_execDispatcherTick (a0 : State) (h0 : Kept c a0) : (∀ t, execDispatcherTick a0 = .next t → Kept c t) := by
  intro t h
  cases h
  repeat' first | lift_lets | with_reducible assumption | with_reducible (apply latch_bus) | with_reducible (apply latch_dispTick) | with_reducible (apply latch_advanceTo) | intro _

theorem latch_execDone (a0 : Fin 8) (a1 : Master) (a2 : Fin 4096) (a3 : State) (h0 : Kept c a3) : (∀ t, execDone a0 a1 a2 a3 = .next t → Kept c t) := by
  intro t h
  cases h
  repeat' first | lift_lets | with_reducible assumption | with_reducible (apply latch_bus) | with_reducible (apply latch_doneTask) | intro _ | split

theorem latch_wakeAtOnce (a0 : Option WakeSrc) (a1 : State) (h0 : Kept c a1) : Kept c (wakeAtOnce a0 a1) := by
  delta wakeAtOnce
  repeat' first | lift_lets | with_reducible assumption | with_reducible (apply latch_wakeUp) | split

theorem latch_execDormantEntryDone (a0 : State) (h0 : Kept c a0) : (∀ t, execDormantEntryDone a0 = .next t → Kept c t) := by
  intro t h
  cases h
  repeat' first | lift_lets | with_reducible assumption | with_reducible (apply latch_bus) | with_reducible (apply latch_wakeAtOnce) | with_reducible (apply latch_enterDormant) | intro _ | split

theorem latch_execDownTx (a0 : Fin 3) (a1 : State) (h0 : Kept c a1) : (∀ t, execDownTx a0 a1 = .next t → Kept c t) := by
  intro t h
  cases h
  repeat' first | lift_lets | with_reducible assumption | with_reducible (apply latch_bus) | with_reducible (apply latch_sendShared) | with_reducible (apply latch_setChain) | dsimp only | intro _ | split

theorem latch_execDriverOvercurrent (a0 : Fin 4) (a1 : State) (h0 : Kept c a1) : (∀ t, execDriverOvercurrent a0 a1 = .next t → Kept c t) := by
  intro t h
  cases h
  repeat' first | lift_lets | with_reducible assumption | with_reducible (apply latch_onAon) | with_reducible (apply latch_driveOutputs) | with_reducible (apply latch_raise) | with_reducible (apply latch_setDriver) | intro _

theorem latch_execEngage (a0 : CmdSrc) (a1 : State) (h0 : Kept c a1) : (∀ t, execEngage a0 a1 = .next t → Kept c t) := by
  intro t h
  cases h
  repeat' first | lift_lets | with_reducible assumption | with_reducible (apply latch_bus) | with_reducible (apply latch_setptCmd) | with_reducible (apply latch_engageRun) | intro _

theorem latch_execEntryFetch (a0 : Fin 16) (a1 : Bytes) (a2 : State) (h0 : Kept c a2) : (∀ t, execEntryFetch a0 a1 a2 = .next t → Kept c t) := by
  intro t h
  cases h
  repeat' first | lift_lets | with_reducible assumption | with_reducible (apply latch_bus) | with_reducible (apply latch_setCq) | with_reducible (apply latch_passEntries) | with_reducible (apply latch_bump) | simp only [kept_mk] | with_reducible refine kept_q ?_ | intro _ | split

theorem latch_writeBank (a0 : State) (h0 : Kept c a0) : Kept c (writeBank a0) := by
  delta writeBank
  repeat' first | (intro v; subst v) | lift_lets | with_reducible assumption | with_reducible (apply latch_raise) | simp only [kept_mk] | with_reducible refine kept_q ?_ | split

theorem latch_execEpochWindowWritten (a0 : State) (h0 : Kept c a0) : (∀ t, execEpochWindowWritten a0 = .next t → Kept c t) := by
  intro t h
  cases h
  repeat' first | lift_lets | with_reducible assumption | with_reducible (apply latch_gnssEvent) | with_reducible (apply latch_writeBank)

theorem latch_execEqEnable (a0 : Fin 16) (a1 : Word) (a2 : State) (h0 : Kept c a2) : (∀ t, execEqEnable a0 a1 a2 = .next t → Kept c t) := by
  intro t h
  cases h
  repeat' first | lift_lets | with_reducible assumption | with_reducible (apply latch_bus) | with_reducible (apply latch_eqConfig)

theorem latch_execErase (a0 : Access) (a1 : Fin 128) (a2 : Bool) (a3 : State) (h0 : Kept c a3) : (∀ t, execErase a0 a1 a2 a3 = .next t → Kept c t) := by
  intro t h
  cases h
  repeat' first | lift_lets | with_reducible assumption | with_reducible (apply latch_bus) | with_reducible (apply latch_geodeRun)

theorem latch_execErrorDetected (a0 : ResKind) (a1 : Fin 256) (a2 : Bool) (a3 : Bool) (a4 : State) (h0 : Kept c a4) : (∀ t, execErrorDetected a0 a1 a2 a3 a4 = .next t → Kept c t) := by
  intro t h
  cases h
  repeat' first | lift_lets | with_reducible assumption | with_reducible (apply latch_onAon) | with_reducible (apply latch_detect)

theorem latch_execEventPost (a0 : Fin 16) (a1 : State) (h0 : Kept c a1) : (∀ t, execEventPost a0 a1 = .next t → Kept c t) := by
  intro t h
  cases h
  repeat' first | lift_lets | with_reducible assumption | with_reducible (apply latch_bus) | with_reducible (apply latch_passEntries) | with_reducible (apply latch_drainComp) | with_reducible (apply kept_foldl) | intro _ | split

theorem latch_execEventRecord (a0 : BitVec 16) (a1 : BitVec 8) (a2 : Fin 5) (a3 : Word) (a4 : Word) (a5 : Word) (a6 : State) (h0 : Kept c a6) : (∀ t, execEventRecord a0 a1 a2 a3 a4 a5 a6 = .next t → Kept c t) := by
  intro t h
  cases h
  repeat' first | lift_lets | with_reducible assumption | with_reducible (apply latch_record)

theorem latch_execExclAdd (a0 : Byte) (a1 : Byte) (a2 : State) (h0 : Kept c a2) : (∀ t, execExclAdd a0 a1 a2 = .next t → Kept c t) := by
  intro t h
  cases h
  repeat' first | lift_lets | with_reducible assumption | with_reducible (apply latch_bus) | with_reducible (apply latch_exclAdd)

theorem latch_execExclClear (a0 : State) (h0 : Kept c a0) : (∀ t, execExclClear a0 = .next t → Kept c t) := by
  intro t h
  cases h
  repeat' first | lift_lets | with_reducible assumption | with_reducible (apply latch_bus) | with_reducible (apply latch_exclClear)

theorem latch_execExclRemove (a0 : Byte) (a1 : Byte) (a2 : State) (h0 : Kept c a2) : (∀ t, execExclRemove a0 a1 a2 = .next t → Kept c t) := by
  intro t h
  cases h
  repeat' first | lift_lets | with_reducible assumption | with_reducible (apply latch_bus) | with_reducible (apply latch_exclRemove)

theorem latch_extendRun (a0 : Allot) (a1 : ℕ) (a2 : State) (h0 : Kept c a2) : Kept c (extendRun a0 a1 a2).2 := by
  delta extendRun
  repeat' first | (intro v; subst v) | lift_lets | with_reducible assumption | with_reducible (apply latch_refuse) | with_reducible (refine latch_commitCells _ _ _ ?_ _ ‹_›) | with_reducible (apply latch_resvTableFull) | with_reducible (apply latch_bumpBy) | simp only [kept_mk] | with_reducible refine kept_q ?_ | split

theorem latch_extend (a0 : State) (h0 : Kept c a0) : Kept c (extend a0) := by
  delta extend
  repeat' first | (intro v; subst v) | lift_lets | with_reducible assumption | with_reducible (apply latch_expireAllots) | with_reducible (apply latch_bumpGrid) | with_reducible (apply latch_extendRun) | with_reducible (apply latch_reportAllot) | with_reducible (apply latch_setptQuench) | with_reducible (apply latch_raise) | simp only [kept_mk] | with_reducible refine kept_q ?_ | split

theorem latch_execExtend (a0 : State) (h0 : Kept c a0) : (∀ t, execExtend a0 = .next t → Kept c t) := by
  intro t h
  cases h
  repeat' first | lift_lets | with_reducible assumption | with_reducible (apply latch_gridBus) | with_reducible (apply latch_extend)

theorem latch_execFaultInject (a0 : BitVec 16) (a1 : BitVec 8) (a2 : Bool) (a3 : State) (h0 : Kept c a3) : (∀ t, execFaultInject a0 a1 a2 a3 = .next t → Kept c t) := by
  intro t h
  cases h
  repeat' first | lift_lets | with_reducible assumption | with_reducible (apply latch_bus) | with_reducible (apply latch_inject)

theorem latch_execFaultResume (a0 : Master) (a1 : BitVec 16) (a2 : BitVec 16) (a3 : State) (h0 : Kept c a3) : (∀ t, execFaultResume a0 a1 a2 a3 = .next t → Kept c t) := by
  intro t h
  cases h
  repeat' first | lift_lets | with_reducible assumption | with_reducible (apply latch_bus) | with_reducible (apply latch_resumeQueues)

theorem latch_execFence (a0 : Fin 16) (a1 : State) (h0 : Kept c a1) : (∀ t, execFence a0 a1 = .next t → Kept c t) := by
  intro t h
  cases h
  repeat' first | lift_lets | with_reducible assumption | with_reducible (apply latch_bus) | with_reducible (apply latch_finishEntry) | intro _ | split

theorem latch_flapExpire (a0 : ℕ) (a1 : Bool) (a2 : State) (h0 : Kept c a2) : Kept c (flapExpire a0 a1 a2) := by
  delta flapExpire
  repeat' first | lift_lets | with_reducible assumption | with_reducible (apply latch_advanceTo) | with_reducible (apply latch_setInst) | dsimp only | split

theorem latch_execFlapExpire (a0 : Fin 64) (a1 : Bool) (a2 : State) (h0 : Kept c a2) : (∀ t, execFlapExpire a0 a1 a2 = .next t → Kept c t) := by
  intro t h
  cases h
  repeat' first | lift_lets | with_reducible assumption | with_reducible (apply latch_bus) | with_reducible (apply latch_flapExpire)

theorem latch_execForm (a0 : Fin 4) (a1 : Fin 4) (a2 : State) (h0 : Kept c a2) : (∀ t, execForm a0 a1 a2 = .next t → Kept c t) := by
  intro t h
  cases h
  repeat' first | lift_lets | with_reducible assumption | with_reducible (apply latch_bus) | with_reducible (apply latch_startAction)

theorem latch_execFormAndStore (a0 : Fin 4) (a1 : Fin 4) (a2 : State) (h0 : Kept c a2) : (∀ t, execFormAndStore a0 a1 a2 = .next t → Kept c t) := by
  intro t h
  cases h
  repeat' first | lift_lets | with_reducible assumption | with_reducible (apply latch_bus) | with_reducible (apply latch_startAction)

theorem latch_startFrame (a0 : ℕ) (a1 : ℕ) (a2 : QFrame) (a3 : State) (h0 : Kept c a3) : Kept c (startFrame a0 a1 a2 a3) := by
  delta startFrame
  repeat' first | (intro v; refine kept_in c v ?_ ?_ <;> [subst v; (clear_value v; intro _)]) | (intro v; subst v) | lift_lets | with_reducible assumption | with_reducible (apply latch_advanceClk) | with_reducible (apply latch_setQ) | with_reducible (apply latch_setPort)

theorem latch_serve (a0 : ℕ) (a1 : ℕ) (a2 : ℕ × QFrame) (a3 : State) (h0 : Kept c a3) : Kept c (serve a0 a1 a2 a3) := by
  delta serve
  repeat' first | (intro v; refine kept_in c v ?_ ?_ <;> [subst v; (clear_value v; intro _)]) | (intro v; subst v) | lift_lets | with_reducible assumption | with_reducible (apply latch_startFrame) | with_reducible (apply latch_setQ) | with_reducible (apply latch_setPort)

theorem latch_robinVisits (a0 : ℕ) (a1 : ℕ) (a2 : ℕ × QFrame) (a3 : List (ℕ × QFrame)) (a4 : State) (h0 : Kept c a4) : Kept c (robinVisits a0 a1 a2 a3 a4) := by
  delta robinVisits
  repeat' first | (intro v; subst v) | lift_lets | with_reducible assumption | with_reducible (apply latch_setQ) | with_reducible (apply kept_foldl) | dsimp only | intro _

theorem latch_robin (a0 : ℕ) (a1 : ℕ) (a2 : List (ℕ × QFrame)) (a3 : State) (h0 : Kept c a3) : Kept c (robin a0 a1 a2 a3) := by
  delta robin
  repeat' first | (intro v; subst v) | lift_lets | with_reducible assumption | with_reducible (apply latch_serve) | with_reducible (apply latch_robinVisits) | split

theorem latch_startClass (a0 : ℕ) (a1 : List ℕ) (a2 : State) (h0 : Kept c a2) : Kept c (startClass a0 a1 a2) := by
  induction a1 generalizing a2 with
  | nil => exact h0
  | cons x l ih =>
    unfold startClass
    split
    · exact ih _ h0
    · exact latch_startFrame _ _ _ _ h0
    · exact latch_robin _ _ _ _ h0

theorem latch_startNext (a0 : ℕ) (a1 : State) (h0 : Kept c a1) : Kept c (startNext a0 a1) := by
  delta startNext
  repeat' first | lift_lets | with_reducible assumption | with_reducible (apply latch_startClass) | split

theorem latch_execFrameEgress (a0 : Fin 16) (a1 : State) (h0 : Kept c a1) : (∀ t, execFrameEgress a0 a1 = .next t → Kept c t) := by
  intro t h
  cases h
  repeat' first | lift_lets | with_reducible assumption | with_reducible (apply latch_bus) | with_reducible (apply latch_startNext) | with_reducible (apply latch_finishWire) | intro _

theorem latch_frameIn (a0 : ℕ) (a1 : Bytes) (a2 : State) (h0 : Kept c a2) : Kept c (frameIn a0 a1 a2) := by
  delta frameIn
  repeat' first | (intro v; refine kept_in c v ?_ ?_ <;> [subst v; (clear_value v; intro _)]) | lift_lets | with_reducible assumption | with_reducible (apply latch_bumpPort) | with_reducible (apply latch_countRx) | with_reducible (apply latch_arrive) | split

theorem latch_execFrameIngress (a0 : Fin 12) (a1 : Bytes) (a2 : State) (h0 : Kept c a2) : (∀ t, execFrameIngress a0 a1 a2 = .next t → Kept c t) := by
  intro t h
  cases h
  repeat' first | lift_lets | with_reducible assumption | with_reducible (apply latch_bus) | with_reducible (apply latch_frameIn)

theorem latch_execFrauriAck (a0 : FrHead) (a1 : State) (h0 : Kept c a1) : (∀ t, execFrauriAck a0 a1 = .next t → Kept c t) := by
  intro t h
  cases h
  repeat' first | lift_lets | with_reducible assumption | with_reducible (apply latch_bus) | with_reducible (apply latch_frameUp) | simp only [kept_mk] | with_reducible refine kept_q ?_ | intro _

theorem latch_execFrauriFrameBad (a0 : Bool) (a1 : State) (h0 : Kept c a1) : (∀ t, execFrauriFrameBad a0 a1 = .next t → Kept c t) := by
  intro t h
  cases h
  repeat' first | lift_lets | with_reducible assumption | with_reducible (apply latch_bus) | with_reducible (apply latch_frameBad) | with_reducible (apply latch_bumpTwin) | intro _ | split

theorem latch_execGafferBeaconRx (a0 : RxFrame) (a1 : State) (h0 : Kept c a1) : (∀ t, execGafferBeaconRx a0 a1 = .next t → Kept c t) := by
  intro t h
  cases h
  repeat' first | lift_lets | with_reducible assumption | with_reducible (apply latch_bus) | with_reducible (apply latch_onFrame) | simp only [kept_mk] | with_reducible refine kept_q ?_ | intro _ | split

theorem latch_execGangTx (a0 : Fin 3) (a1 : State) (h0 : Kept c a1) : (∀ t, execGangTx a0 a1 = .next t → Kept c t) := by
  intro t h
  cases h
  repeat' first | lift_lets | with_reducible assumption | with_reducible (apply latch_bus) | with_reducible (apply latch_toUs) | with_reducible (apply latch_transmit) | with_reducible (apply latch_setChain) | dsimp only | intro _ | split

theorem latch_loadFail (a0 : LoadErr) (a1 : ℕ) (a2 : ℕ) (a3 : State) (h0 : Kept c a3) : Kept c (loadFail a0 a1 a2 a3) := by
  delta loadFail
  repeat' first | (intro v; refine kept_in c v ?_ ?_ <;> [subst v; (clear_value v; intro _)]) | lift_lets | with_reducible assumption | with_reducible (apply latch_failNow) | with_reducible (apply latch_nextAttempt) | with_reducible (apply latch_toMode) | split

theorem latch_gatherPayload (a0 : Load) (a1 : ImageHeader) (a2 : Gather) (a3 : ℕ) (a4 : Bytes) (a5 : State) (h0 : Kept c a5) : Kept c (gatherPayload a0 a1 a2 a3 a4 a5) := by
  delta gatherPayload
  repeat' first | (intro v; refine kept_in c v ?_ ?_ <;> [subst v; (clear_value v; intro _)]) | (intro v; subst v) | lift_lets | with_reducible assumption | with_reducible (apply latch_loadFail) | with_reducible (apply latch_setLoad) | simp only [kept_mk] | with_reducible refine kept_q ?_ | split

theorem latch_gatherHeader (a0 : Load) (a1 : ImageHeader) (a2 : Bytes) (a3 : State) (h0 : Kept c a3) : Kept c (gatherHeader a0 a1 a2 a3) := by
  delta gatherHeader
  repeat' first | (intro v; subst v) | lift_lets | with_reducible assumption | with_reducible (apply latch_loadFail) | with_reducible (apply latch_setLoad) | split

theorem latch_gatherRead (a0 : Bytes) (a1 : State) (h0 : Kept c a1) : Kept c (gatherRead a0 a1) := by
  delta gatherRead
  repeat' first | lift_lets | with_reducible assumption | with_reducible (apply latch_loadFail) | with_reducible (apply latch_gatherPayload) | with_reducible (apply latch_gatherHeader) | split

theorem latch_execGatherRead (a0 : Bytes) (a1 : State) (h0 : Kept c a1) : (∀ t, execGatherRead a0 a1 = .next t → Kept c t) := by
  intro t h
  cases h
  repeat' first | lift_lets | with_reducible assumption | with_reducible (apply latch_bus) | with_reducible (apply latch_gatherRead)

theorem latch_takeEffect (a0 : ℕ) (a1 : State) (h0 : Kept c a1) : Kept c (takeEffect a0 a1) := by
  delta takeEffect
  repeat' first | lift_lets | with_reducible assumption | with_reducible (apply latch_effectNow) | split

theorem latch_execGatherTakesEffect (a0 : BitVec 16) (a1 : State) (h0 : Kept c a1) : (∀ t, execGatherTakesEffect a0 a1 = .next t → Kept c t) := by
  intro t h
  cases h
  repeat' first | lift_lets | with_reducible assumption | with_reducible (apply latch_bus) | with_reducible (apply latch_takeEffect)

theorem latch_gearLost (a0 : ℕ) (a1 : State) (h0 : Kept c a1) : Kept c (gearLost a0 a1) := by
  delta gearLost
  repeat' first | lift_lets | with_reducible assumption | with_reducible (apply latch_raise) | with_reducible (apply latch_bumpSetpt) | with_reducible (apply latch_setCauses) | with_reducible (apply latch_unpair)

theorem latch_execGearLost (a0 : Fin 128) (a1 : State) (h0 : Kept c a1) : (∀ t, execGearLost a0 a1 = .next t → Kept c t) := by
  intro t h
  cases h
  repeat' first | lift_lets | with_reducible assumption | with_reducible (apply latch_bus) | with_reducible (apply latch_gearLost) | with_reducible (apply latch_advanceClk) | intro _ | split

theorem latch_execGnssAllocate (a0 : Option SkyView) (a1 : State) (h0 : Kept c a1) : (∀ t, execGnssAllocate a0 a1 = .next t → Kept c t) := by
  intro t h
  cases h
  repeat' first | (intro v; refine kept_in c v ?_ ?_ <;> [subst v; (clear_value v; intro _)]) | (intro v; refine kept_in c (Prod.snd v) ?_ ?_ <;> [subst v; (clear_value v; intro _)]) | (intro v; subst v) | lift_lets | with_reducible assumption | with_reducible (apply latch_gnssEvent) | with_reducible (apply latch_allocateAt) | with_reducible (apply latch_advanceTo) | with_reducible (apply kept_foldl) | with_reducible (apply kept_foldl2) | with_reducible (apply kept_foldl1) | simp only [kept_mk, keptQ_mk] | with_reducible refine kept_q ?_ | with_reducible refine kept_v ?_ | refine kept_snd ‹_ = (_, _)› ?_ | intro _

theorem latch_execH2cPop (a0 : Fin 9) (a1 : Master) (a2 : State) (h0 : Kept c a2) : (∀ t, execH2cPop a0 a1 a2 = .next t → Kept c t) := by
  intro t h
  cases h
  repeat' first | (intro v; refine kept_in c v ?_ ?_ <;> [subst v; (clear_value v; intro _)]) | (intro v; refine kept_in c (Prod.snd v) ?_ ?_ <;> [subst v; (clear_value v; intro _)]) | (intro v; subst v) | lift_lets | with_reducible assumption | with_reducible (apply latch_bus) | with_reducible (apply latch_mbPop) | with_reducible (apply kept_foldl) | with_reducible (apply kept_foldl2) | with_reducible (apply kept_foldl1) | simp only [kept_mk] | with_reducible refine kept_q ?_ | with_reducible refine kept_v ?_ | refine kept_snd ‹_ = (_, _)› ?_ | intro _ | split

theorem latch_execH2cPush (a0 : Fin 9) (a1 : Master) (a2 : Word) (a3 : Bool) (a4 : State) (h0 : Kept c a4) : (∀ t, execH2cPush a0 a1 a2 a3 a4 = .next t → Kept c t) := by
  intro t h
  cases h
  repeat' first | (intro v; refine kept_in c v ?_ ?_ <;> [subst v; (clear_value v; intro _)]) | (intro v; refine kept_in c (Prod.snd v) ?_ ?_ <;> [subst v; (clear_value v; intro _)]) | (intro v; subst v) | lift_lets | with_reducible assumption | with_reducible (apply latch_bus) | with_reducible (apply latch_mbPush) | with_reducible (apply kept_foldl) | with_reducible (apply kept_foldl2) | with_reducible (apply kept_foldl1) | simp only [kept_mk, keptQ_mk] | with_reducible refine kept_q ?_ | with_reducible refine kept_v ?_ | refine kept_snd ‹_ = (_, _)› ?_ | intro _ | split

theorem latch_execHeadWrite (a0 : Fin 16) (a1 : Word) (a2 : State) (h0 : Kept c a2) : (∀ t, execHeadWrite a0 a1 a2 = .next t → Kept c t) := by
  intro t h
  cases h
  repeat' first | (intro v; refine kept_in c v ?_ ?_ <;> [subst v; (clear_value v; intro _)]) | (intro v; refine kept_in c (Prod.snd v) ?_ ?_ <;> [subst v; (clear_value v; intro _)]) | (intro v; subst v) | lift_lets | with_reducible assumption | with_reducible (apply latch_bus) | with_reducible (apply latch_headWrite)

theorem latch_headerRead (a0 : Bytes) (a1 : State) (h0 : Kept c a1) : Kept c (headerRead a0 a1) := by
  delta headerRead
  repeat' first | (intro v; refine kept_in c v ?_ ?_ <;> [subst v; (clear_value v; intro _)]) | (intro v; refine kept_in c (Prod.snd v) ?_ ?_ <;> [subst v; (clear_value v; intro _)]) | (intro v; subst v) | lift_lets | with_reducible assumption | with_reducible (apply latch_loadFail) | with_reducible (apply latch_setLoad) | with_reducible (apply kept_foldl) | with_reducible (apply kept_foldl2) | with_reducible (apply kept_foldl1) | simp only [kept_mk, keptQ_mk] | with_reducible refine kept_q ?_ | with_reducible refine kept_v ?_ | refine kept_snd ‹_ = (_, _)› ?_ | intro _ | split

theorem latch_execHeaderRead (a0 : Bytes) (a1 : State) (h0 : Kept c a1) : (∀ t, execHeaderRead a0 a1 = .next t → Kept c t) := by
  intro t h
  cases h
  repeat' first | (intro v; refine kept_in c v ?_ ?_ <;> [subst v; (clear_value v; intro _)]) | (intro v; refine kept_in c (Prod.snd v) ?_ ?_ <;> [subst v; (clear_value v; intro _)]) | (intro v; subst v) | lift_lets | with_reducible assumption | with_reducible (apply latch_bus) | with_reducible (apply latch_headerRead)

theorem latch_linkUp (a0 : State) (h0 : Kept c a0) : Kept c (linkUp a0) := by
  delta linkUp
  repeat' first | (intro v; refine kept_in c v ?_ ?_ <;> [subst v; (clear_value v; intro _)]) | (intro v; refine kept_in c (Prod.snd v) ?_ ?_ <;> [subst v; (clear_value v; intro _)]) | (intro v; subst v) | lift_lets | with_reducible assumption | with_reducible (apply latch_raise) | with_reducible (apply kept_foldl) | with_reducible (apply kept_foldl2) | with_reducible (apply kept_foldl1) | simp only [kept_mk] | with_reducible refine kept_q ?_

theorem latch_execHello (a0 : FrHead) (a1 : Word) (a2 : Word) (a3 : Bool) (a4 : BitVec 6) (a5 : Word) (a6 : State) (h0 : Kept c a6) : (∀ t, execHello a0 a1 a2 a3 a4 a5 a6 = .next t → Kept c t) := by
  intro t h
  cases h
  repeat' first | lift_lets | with_reducible assumption | with_reducible (apply latch_bus) | with_reducible (apply latch_useRefused) | with_reducible (apply latch_frameBad) | with_reducible (apply latch_headIn) | with_reducible (apply latch_linkUp) | with_reducible (apply latch_raise) | simp only [kept_mk] | with_reducible refine kept_q ?_ | intro _ | split

theorem latch_hostSideReset (a0 : ℕ) (a1 : State) (a2 : optParam Bool false) (h0 : Kept c a1) : Kept c (hostSideReset a0 a1 a2) := by
  delta hostSideReset
  repeat' first | lift_lets | with_reducible assumption | with_reducible (apply latch_setMb)

theorem latch_hostReset (a0 : Bool) (a1 : State) (h0 : Kept c a1) : Kept c (hostReset a0 a1) := by
  delta hostReset
  repeat' first | (intro v; refine kept_in c v ?_ ?_ <;> [subst v; (clear_value v; intro _)]) | (intro v; subst v) | lift_lets | with_reducible assumption | with_reducible (apply latch_disableOwned) | with_reducible (apply latch_freeLocksOf) | with_reducible (apply latch_hostSideReset) | with_reducible (apply latch_raise) | with_reducible (apply kept_foldl) | simp only [kept_mk] | with_reducible refine kept_q ?_ | intro _

theorem latch_execHostReset (a0 : Bool) (a1 : State) (h0 : Kept c a1) : (∀ t, execHostReset a0 a1 = .next t → Kept c t) := by
  intro t h
  cases h
  repeat' first | lift_lets | with_reducible assumption | with_reducible (apply latch_bus) | with_reducible (apply latch_hostReset)

theorem latch_execHostSourceEnd (a0 : State) (h0 : Kept c a0) : (∀ t, execHostSourceEnd a0 = .next t → Kept c t) := by
  intro t h
  cases h
  repeat' first | lift_lets | with_reducible assumption | with_reducible (apply latch_onAon) | with_reducible (apply latch_advanceClk) | with_reducible (apply latch_driveOutputs) | simp only [kept_mk, keptQ_mk] | with_reducible refine kept_v ?_ | intro _ | split

theorem latch_execIdent (a0 : State) (h0 : Kept c a0) : (∀ t, execIdent a0 = .next t → Kept c t) := by
  intro t h
  cases h
  repeat' first | lift_lets | with_reducible assumption | with_reducible (apply latch_bus) | with_reducible (apply latch_wardenTake) | with_reducible (apply latch_wardenAnswer) | intro _ | split

theorem latch_execIdle (a0 : FrHead) (a1 : State) (h0 : Kept c (a1)) : (∀ t, execIdle a0 a1 = .next t → Kept c t) := by
  intro t h
  cases h
  exact latch_bus _ _ h0 fun _ h => latch_frameUp _ _ _ (fun _ h => h) h

theorem latch_execIntervalClose_closeAll (a0 : State) (h0 : Kept c a0) : Kept c (execIntervalClose.closeAll a0) := by
  delta execIntervalClose.closeAll
  repeat' first | (intro v; subst v) | lift_lets | with_reducible assumption | with_reducible (apply latch_closeOne) | with_reducible (apply kept_foldl) | simp only [kept_mk] | with_reducible refine kept_q ?_ | split

theorem latch_execIntervalClose (a0 : State) (h0 : Kept c a0) : (∀ t, execIntervalClose a0 = .next t → Kept c t) := by
  intro t h
  cases h
  repeat' first | lift_lets | with_reducible assumption | with_reducible (apply latch_bus) | with_reducible (apply latch_execIntervalClose_closeAll) | with_reducible (apply latch_advanceTo) | intro _ | split

theorem latch_execIrecSelect (a0 : Word) (a1 : State) (h0 : Kept c a1) : (∀ t, execIrecSelect a0 a1 = .next t → Kept c t) := by
  intro t h
  cases h
  repeat' first | lift_lets | with_reducible assumption | with_reducible (apply latch_bus) | with_reducible (apply latch_irecSelect)

theorem latch_jamTo (a0 : ℕ) (a1 : Bool) (a2 : State) (h0 : Kept c a2) : Kept c (jamTo a0 a1 a2) := by
  delta jamTo
  repeat' first | (intro v; refine kept_in c v ?_ ?_ <;> [subst v; (clear_value v; intro _)]) | (intro v; subst v) | lift_lets | with_reducible assumption | with_reducible (apply latch_note) | with_reducible (apply latch_raise) | simp only [kept_mk] | with_reducible refine kept_q ?_

theorem latch_jamClear (a0 : ℕ) (a1 : State) (h0 : Kept c a1) : Kept c (jamClear a0 a1) := by
  delta jamClear
  repeat' first | (intro v; subst v) | lift_lets | with_reducible assumption | with_reducible (apply latch_jamTo) | with_reducible (apply latch_advanceClk) | split

theorem latch_execJamClear (a0 : Fin 6) (a1 : State) (h0 : Kept c a1) : (∀ t, execJamClear a0 a1 = .next t → Kept c t) := by
  intro t h
  cases h
  repeat' first | lift_lets | with_reducible assumption | with_reducible (apply latch_gnssEvent) | with_reducible (apply latch_jamClear)

theorem latch_jamSet (a0 : ℕ) (a1 : State) (h0 : Kept c a1) : Kept c (jamSet a0 a1) := by
  delta jamSet
  repeat' first | (intro v; subst v) | lift_lets | with_reducible assumption | with_reducible (apply latch_jamTo) | with_reducible (apply latch_advanceClk) | split

theorem latch_execJamSet (a0 : Fin 6) (a1 : State) (h0 : Kept c a1) : (∀ t, execJamSet a0 a1 = .next t → Kept c t) := by
  intro t h
  cases h
  repeat' first | lift_lets | with_reducible assumption | with_reducible (apply latch_gnssEvent) | with_reducible (apply latch_jamSet)

theorem latch_lapse (a0 : ℕ) (a1 : State) (h0 : Kept c a1) : Kept c (lapse a0 a1) := by
  delta lapse
  repeat' first | (intro v; refine kept_in c v ?_ ?_ <;> [subst v; (clear_value v; intro _)]) | lift_lets | with_reducible assumption | with_reducible (apply latch_setGridMach) | with_reducible (apply latch_dropRecords) | with_reducible (apply latch_raise) | with_reducible (apply latch_bumpGrid) | with_reducible (apply latch_machineQuench) | split

theorem latch_execLapse (a0 : Fin 128) (a1 : State) (h0 : Kept c a1) : (∀ t, execLapse a0 a1 = .next t → Kept c t) := by
  intro t h
  cases h
  repeat' first | lift_lets | with_reducible assumption | with_reducible (apply latch_gridBus) | with_reducible (apply latch_lapse) | with_reducible (apply latch_advanceClk) | dsimp only | intro _ | split

theorem latch_startLaunch (a0 : ℕ) (a1 : ℕ) (a2 : QFrame) (a3 : State) (h0 : Kept c a3) : Kept c (startLaunch a0 a1 a2 a3) := by
  delta startLaunch
  repeat' first | (intro v; refine kept_in c v ?_ ?_ <;> [subst v; (clear_value v; intro _)]) | (intro v; subst v) | lift_lets | with_reducible assumption | with_reducible (apply latch_finishWire) | with_reducible (apply latch_bumpQ) | with_reducible (apply latch_startFrame) | with_reducible (apply latch_raise) | split

theorem latch_execLaunch (a0 : Fin 16) (a1 : State) (h0 : Kept c a1) : (∀ t, execLaunch a0 a1 = .next t → Kept c t) := by
  intro t h
  cases h
  repeat' first | lift_lets | with_reducible assumption | with_reducible (apply latch_bus) | with_reducible (apply latch_startLaunch) | with_reducible (apply latch_atLaunch) | intro _ | split

theorem latch_execLcAdvance (a0 : Access) (a1 : Bool) (a2 : State) (h0 : Kept c a2) : (∀ t, execLcAdvance a0 a1 a2 = .next t → Kept c t) := by
  intro t h
  cases h
  repeat' first | lift_lets | with_reducible assumption | with_reducible (apply latch_bus) | with_reducible (apply latch_geodeRun)

theorem latch_learnStep (a0 : ℕ) (a1 : Bool) (a2 : State) (h0 : Kept c a2) : Kept c (learnStep a0 a1 a2) := by
  delta learnStep
  repeat' first | lift_lets | with_reducible assumption | with_reducible (apply latch_applyLearn) | with_reducible (apply latch_setInst) | dsimp only | split

theorem latch_execLearnApply (a0 : Fin 64) (a1 : Bool) (a2 : State) (h0 : Kept c a2) : (∀ t, execLearnApply a0 a1 a2 = .next t → Kept c t) := by
  intro t h
  cases h
  repeat' first | lift_lets | with_reducible assumption | with_reducible (apply latch_bus) | with_reducible (apply latch_afterLearn) | with_reducible (apply latch_learnStep) | with_reducible (apply latch_issueOcc) | dsimp only | intro _

theorem latch_execLedgerBucket (a0 : State) (h0 : Kept c a0) : (∀ t, execLedgerBucket a0 = .next t → Kept c t) := by
  intro t h
  cases h
  repeat' first | lift_lets | with_reducible assumption | with_reducible (apply latch_bus) | with_reducible (apply latch_advanceTo) | simp only [kept_mk] | with_reducible refine kept_q ?_ | intro _

theorem latch_limitsRun (a0 : ℕ) (a1 : SpCmd) (a2 : State) (h0 : Kept c a2) : Kept c (limitsRun a0 a1 a2).2 := by
  delta limitsRun
  repeat' first | (intro v; subst v) | lift_lets | with_reducible assumption | with_reducible (apply latch_setSp) | split

theorem latch_execLimits (a0 : CmdSrc) (a1 : State) (h0 : Kept c a1) : (∀ t, execLimits a0 a1 = .next t → Kept c t) := by
  intro t h
  cases h
  repeat' first | lift_lets | with_reducible assumption | with_reducible (apply latch_bus) | with_reducible (apply latch_setptCmd) | with_reducible (apply latch_limitsRun) | intro _

theorem latch_execLinkBlockLockLost (a0 : State) (h0 : Kept c a0) : (∀ t, execLinkBlockLockLost a0 = .next t → Kept c t) := by
  intro t h
  cases h
  repeat' first | lift_lets | with_reducible assumption | with_reducible (apply latch_bus) | with_reducible (apply latch_linkFails) | intro _ | split

theorem latch_execLinkDown (a0 : Fin 12) (a1 : State) (h0 : Kept c a1) : (∀ t, execLinkDown a0 a1 = .next t → Kept c t) := by
  intro t h
  cases h
  repeat' first | lift_lets | with_reducible assumption | with_reducible (apply latch_bus) | with_reducible (apply latch_settlePort) | with_reducible (apply latch_raise) | with_reducible (apply latch_flushPort) | with_reducible (apply latch_setPort) | intro _

theorem latch_execLinkEnWrite (a0 : Word) (a1 : State) (h0 : Kept c a1) : (∀ t, execLinkEnWrite a0 a1 = .next t → Kept c t) := by
  intro t h
  cases h
  repeat' first | lift_lets | with_reducible assumption | with_reducible (apply latch_bus) | with_reducible (apply latch_linkEnWrite)

theorem latch_sendHello (a0 : State) (h0 : Kept c a0) : Kept c (sendHello a0) := by
  delta sendHello
  repeat' first | (intro v; subst v) | lift_lets | with_reducible assumption | with_reducible (apply latch_sendBody) | with_reducible (apply latch_useRefused) | simp only [kept_mk] | with_reducible refine kept_q ?_ | split

theorem latch_execLinkTrained (a0 : State) (h0 : Kept c a0) : (∀ t, execLinkTrained a0 = .next t → Kept c t) := by
  intro t h
  cases h
  repeat' first | lift_lets | with_reducible assumption | with_reducible (apply latch_bus) | with_reducible (apply latch_sendHello) | with_reducible (apply latch_frReset) | simp only [kept_mk] | with_reducible refine kept_q ?_ | intro _ | split

theorem latch_execLinkUp (a0 : Fin 12) (a1 : ℕ) (a2 : State) (h0 : Kept c a2) : (∀ t, execLinkUp a0 a1 a2 = .next t → Kept c t) := by
  intro t h
  cases h
  repeat' first | lift_lets | with_reducible assumption | with_reducible (apply latch_bus) | with_reducible (apply latch_raise) | with_reducible (apply latch_setPort) | dsimp only | intro _

theorem latch_execLockAcquire (a0 : Fin 64) (a1 : Master) (a2 : Option Master) (a3 : State) (h0 : Kept c a3) : (∀ t, execLockAcquire a0 a1 a2 a3 = .next t → Kept c t) := by
  intro t h
  cases h
  repeat' first | lift_lets | with_reducible assumption | with_reducible (apply latch_bus) | with_reducible (apply latch_lockRead)

theorem latch_execLockLost (a0 : Fin 512) (a1 : State) (h0 : Kept c a1) : (∀ t, execLockLost a0 a1 = .next t → Kept c t) := by
  intro t h
  cases h
  repeat' first | lift_lets | with_reducible assumption | with_reducible (apply latch_gnssEvent) | with_reducible (apply latch_modChan) | intro _

theorem latch_execLodeBucketCrcError (a0 : Fin 66) (a1 : Fin 3) (a2 : State) (h0 : Kept c a2) : (∀ t, execLodeBucketCrcError a0 a1 a2 = .next t → Kept c t) := by
  intro t h
  cases h
  repeat' first | lift_lets | with_reducible assumption | with_reducible (apply latch_bus) | with_reducible (apply latch_detect) | with_reducible (apply latch_bumpBy) | intro _

theorem latch_execLodeDelete (a0 : Fin 64) (a1 : Bool) (a2 : Bool) (a3 : State) (h0 : Kept c a3) : (∀ t, execLodeDelete a0 a1 a2 a3 = .next t → Kept c t) := by
  intro t h
  cases h
  repeat' first | lift_lets | with_reducible assumption | with_reducible (apply latch_bus) | with_reducible (apply latch_lodeAcc)

theorem latch_execLodeRead (a0 : Fin 64) (a1 : Bool) (a2 : Bool) (a3 : State) (h0 : Kept c a3) : (∀ t, execLodeRead a0 a1 a2 a3 = .next t → Kept c t) := by
  intro t h
  cases h
  repeat' first | lift_lets | with_reducible assumption | with_reducible (apply latch_bus) | with_reducible (apply latch_lodeAcc)

theorem latch_execLodeWrite (a0 : Fin 64) (a1 : Bool) (a2 : State) (h0 : Kept c a2) : (∀ t, execLodeWrite a0 a1 a2 = .next t → Kept c t) := by
  intro t h
  cases h
  repeat' first | lift_lets | with_reducible assumption | with_reducible (apply latch_bus) | with_reducible (apply latch_lodeAcc)

theorem latch_loneStop (a0 : State) (h0 : Kept c a0) : Kept c (loneStop a0) := by
  delta loneStop
  repeat' first | lift_lets | with_reducible assumption | with_reducible (apply latch_advanceClk) | with_reducible (apply latch_note) | with_reducible (apply latch_raise) | with_reducible (apply latch_bumpQuench) | simp only [kept_mk, keptQ_mk] | with_reducible refine kept_v ?_ | split

theorem latch_execLoneStop (a0 : State) (h0 : Kept c a0) : (∀ t, execLoneStop a0 = .next t → Kept c t) := by
  intro t h
  cases h
  repeat' first | lift_lets | with_reducible assumption | with_reducible (apply latch_onAon) | with_reducible (apply latch_loneStop)

theorem latch_execLowerWordRead (a0 : Access) (a1 : BitVec 26) (a2 : Width) (a3 : State) (h0 : Kept c a3) : (∀ t, execLowerWordRead a0 a1 a2 a3 = .next t → Kept c t) := by
  intro t h
  cases h
  repeat' first | lift_lets | with_reducible assumption | with_reducible (apply latch_bus) | with_reducible (apply latch_busRead)

theorem latch_execMachRelease (a0 : Master) (a1 : Fin 128) (a2 : Bool) (a3 : State) (h0 : Kept c a3) : (∀ t, execMachRelease a0 a1 a2 a3 = .next t → Kept c t) := by
  intro t h
  cases h
  repeat' first | lift_lets | with_reducible assumption | with_reducible (apply latch_bus) | with_reducible (apply latch_machRelease)

theorem latch_execMachineEpochIncomplete (a0 : Fin 128) (a1 : State) (h0 : Kept c a1) : (∀ t, execMachineEpochIncomplete a0 a1 = .next t → Kept c t) := by
  intro t h
  cases h
  repeat' first | lift_lets | with_reducible assumption | with_reducible (apply latch_bus) | with_reducible (apply latch_advanceClk) | with_reducible (apply latch_bump) | with_reducible (apply latch_setRtkMach) | dsimp only | intro _ | split

theorem latch_sendQuench (a0 : ℕ) (a1 : Bytes) (a2 : State) (h0 : Kept c a2) : Kept c (sendQuench a0 a1 a2).2 := by
  delta sendQuench
  repeat' first | lift_lets | with_reducible assumption | with_reducible (apply latch_sendShared) | with_reducible (apply latch_transmit) | with_reducible (apply latch_setChain) | with_reducible (apply latch_toUs) | split

theorem latch_execMachineQuenchTx (a0 : Fin 3) (a1 : State) (h0 : Kept c a1) : (∀ t, execMachineQuenchTx a0 a1 = .next t → Kept c t) := by
  intro t h
  cases h
  repeat' first | lift_lets | with_reducible assumption | with_reducible (apply latch_bus) | with_reducible (apply latch_sendQuench) | with_reducible (apply latch_setChain) | dsimp only | intro _ | split

theorem latch_execMailboxSideReset (a0 : Fin 9) (a1 : Bool) (a2 : Bool) (a3 : State) (h0 : Kept c a3) : (∀ t, execMailboxSideReset a0 a1 a2 a3 = .next t → Kept c t) := by
  intro t h
  cases h
  repeat' first | lift_lets | with_reducible assumption | with_reducible (apply latch_bus) | with_reducible (apply latch_coreSideReset) | with_reducible (apply latch_hostSideReset) | intro _ | split

theorem latch_execMainBrownout (a0 : State) (h0 : Kept c a0) : (∀ t, execMainBrownout a0 = .next t → Kept c t) := by
  intro t h
  cases h
  repeat' first | lift_lets | with_reducible assumption | with_reducible (apply latch_onAon) | with_reducible (apply latch_railsOff) | with_reducible (apply latch_mainReset) | intro _ | split

theorem latch_releaseMain (a0 : Bool) (a1 : State) (h0 : Kept c a1) : Kept c (releaseMain a0 a1) := by
  delta releaseMain
  repeat' first | (intro v; refine kept_in c v ?_ ?_ <;> [subst v; (clear_value v; intro _)]) | (intro v; subst v) | lift_lets | with_reducible assumption | with_reducible (apply latch_realignTicks) | with_reducible (apply latch_leaveCairn) | with_reducible (apply latch_toCairn) | with_reducible (apply latch_bootStart) | simp only [kept_mk] | with_reducible refine kept_q ?_ | split

theorem latch_execMainDieResetRelease (a0 : Bool) (a1 : State) (h0 : Kept c a1) : (∀ t, execMainDieResetRelease a0 a1 = .next t → Kept c t) := by
  intro t h
  cases h
  repeat' first | lift_lets | with_reducible assumption | with_reducible (apply latch_onWarden) | with_reducible (apply latch_releaseMain) | intro _ | split

theorem latch_execMainRailsUp (a0 : State) (h0 : Kept c a0) : (∀ t, execMainRailsUp a0 = .next t → Kept c t) := by
  intro t h
  cases h
  repeat' first | lift_lets | with_reducible assumption | with_reducible (apply latch_onWarden) | simp only [kept_mk] | with_reducible refine kept_q ?_ | intro _ | split

theorem latch_renewMasks (a0 : ℕ) (a1 : ℕ) (a2 : State) (h0 : Kept c a2) : Kept c (renewMasks a0 a1 a2) := by
  delta renewMasks
  repeat' first | lift_lets | with_reducible assumption | with_reducible (apply latch_bump) | with_reducible (apply latch_note) | with_reducible (apply latch_raise) | with_reducible (apply latch_delSlot) | split

theorem latch_execMaskRenewal (a0 : Fin 128) (a1 : Fin 3) (a2 : State) (h0 : Kept c a2) : (∀ t, execMaskRenewal a0 a1 a2 = .next t → Kept c t) := by
  intro t h
  cases h
  repeat' first | lift_lets | with_reducible assumption | with_reducible (apply latch_bus) | with_reducible (apply latch_renewMasks)

theorem latch_spoofEpoch (a0 : EpochMeas) (a1 : State) (h0 : Kept c a1) : Kept c (spoofEpoch a0 a1) := by
  delta spoofEpoch
  repeat' first | (intro v; refine kept_in c v ?_ ?_ <;> [subst v; (clear_value v; intro _)]) | (intro v; subst v) | lift_lets | with_reducible assumption | with_reducible (apply latch_note) | with_reducible (apply latch_raise) | simp only [kept_mk] | with_reducible refine kept_q ?_ | split

theorem latch_releaseExcluded (a0 : State) (h0 : Kept c a0) : Kept c (releaseExcluded a0) := by
  delta releaseExcluded
  repeat' first | (intro v; subst v) | lift_lets | with_reducible assumption | simp only [kept_mk] | with_reducible refine kept_q ?_

theorem latch_latchEpoch (a0 : EpochMeas) (a1 : SpoofState) (a2 : State) (h0 : Kept c a2) : Kept c (latchEpoch a0 a1 a2) := by
  delta latchEpoch
  repeat' first | (intro v; subst v) | lift_lets | with_reducible assumption | with_reducible (apply latch_drawn) | simp only [kept_mk] | with_reducible refine kept_q ?_

theorem latch_takeBase (a0 : EpochMeas) (a1 : Bool) (a2 : State) (h0 : Kept c a2) : Kept c (takeBase a0 a1 a2) := by
  delta takeBase
  repeat' first | (intro v; subst v) | lift_lets | with_reducible assumption | simp only [kept_mk] | with_reducible refine kept_q ?_

theorem latch_movedEpoch (a0 : EpochMeas) (a1 : State) (h0 : Kept c a1) : Kept c (movedEpoch a0 a1) := by
  delta movedEpoch
  repeat' first | (intro v; subst v) | lift_lets | with_reducible assumption | simp only [kept_mk] | with_reducible refine kept_q ?_ | split

theorem latch_surveyEpoch (a0 : EpochMeas) (a1 : State) (h0 : Kept c a1) : Kept c (surveyEpoch a0 a1) := by
  delta surveyEpoch
  repeat' first | (intro v; refine kept_in c v ?_ ?_ <;> [subst v; (clear_value v; intro _)]) | (intro v; subst v) | lift_lets | with_reducible assumption | with_reducible (apply latch_closeBlock) | simp only [kept_mk] | with_reducible refine kept_q ?_ | split

theorem latch_referenceEpoch (a0 : EpochMeas) (a1 : Bool) (a2 : State) (h0 : Kept c a2) : Kept c (referenceEpoch a0 a1 a2) := by
  delta referenceEpoch
  repeat' first | (intro v; refine kept_in c v ?_ ?_ <;> [subst v; (clear_value v; intro _)]) | (intro v; subst v) | lift_lets | with_reducible assumption | with_reducible (apply latch_takeBase) | with_reducible (apply latch_movedEpoch) | with_reducible (apply latch_surveyEpoch) | simp only [kept_mk] | with_reducible refine kept_q ?_ | split

theorem latch_gnssDomain (a0 : EpochMeas) (a1 : Bool) (a2 : State) (h0 : Kept c a2) : Kept c (gnssDomain a0 a1 a2) := by
  delta gnssDomain
  repeat' first | (intro v; subst v) | lift_lets | with_reducible assumption | with_reducible (apply latch_discipline) | with_reducible (apply latch_sourceValid) | split

theorem latch_gnssTimes (a0 : EpochMeas) (a1 : Bool) (a2 : State) (h0 : Kept c a2) : Kept c (gnssTimes a0 a1 a2) := by
  delta gnssTimes
  repeat' first | (intro v; refine kept_in c v ?_ ?_ <;> [subst v; (clear_value v; intro _)]) | (intro v; subst v) | lift_lets | with_reducible assumption | with_reducible (apply latch_gnssDomain) | with_reducible (apply latch_loseSources) | simp only [kept_mk] | with_reducible refine kept_q ?_ | split

theorem latch_measurementEpoch (a0 : EpochMeas) (a1 : State) (h0 : Kept c a1) : Kept c (measurementEpoch a0 a1) := by
  delta measurementEpoch
  repeat' first | (intro v; refine kept_in c v ?_ ?_ <;> [subst v; (clear_value v; intro _)]) | (intro v; subst v) | lift_lets | with_reducible assumption | with_reducible (apply latch_spoofEpoch) | with_reducible (apply latch_releaseExcluded) | with_reducible (apply latch_latchEpoch) | with_reducible (apply latch_referenceEpoch) | with_reducible (apply latch_gnssTimes)

theorem latch_execMeasurementEpoch (a0 : EpochMeas) (a1 : State) (h0 : Kept c a1) : (∀ t, execMeasurementEpoch a0 a1 = .next t → Kept c t) := by
  intro t h
  cases h
  repeat' first | lift_lets | with_reducible assumption | with_reducible (apply latch_gnssEvent) | with_reducible (apply latch_advanceTo) | with_reducible (apply latch_ethSettle) | with_reducible (apply latch_writeBank) | with_reducible (apply latch_allocDue) | with_reducible (apply latch_epochEffects) | with_reducible (apply latch_measurementEpoch) | simp only [kept_mk] | with_reducible refine kept_q ?_ | intro _

theorem latch_execMirror (a0 : FrHead) (a1 : MirRecord) (a2 : State) (h0 : Kept c a2) : (∀ t, execMirror a0 a1 a2 = .next t → Kept c t) := by
  intro t h
  cases h
  repeat' first | lift_lets | with_reducible assumption | with_reducible (apply latch_bus) | with_reducible (apply latch_frameUp) | simp only [kept_mk] | with_reducible refine kept_q ?_ | intro _ | split

theorem latch_execMirrorStale (a0 : State) (h0 : Kept c a0) : (∀ t, execMirrorStale a0 = .next t → Kept c t) := by
  intro t h
  cases h
  repeat' first | lift_lets | with_reducible assumption | with_reducible (apply latch_bus) | with_reducible (apply latch_advanceClk) | with_reducible (apply latch_raise) | simp only [kept_mk] | with_reducible refine kept_q ?_ | intro _ | split

theorem latch_execModeReq (a0 : State) (h0 : Kept c a0) : (∀ t, execModeReq a0 = .next t → Kept c t) := by
  intro t h
  cases h
  repeat' first | lift_lets | with_reducible assumption | with_reducible (apply latch_bus) | with_reducible (apply latch_wardenTake) | with_reducible (apply latch_modeRequest) | with_reducible (apply latch_wardenAnswer) | simp only [kept_mk] | with_reducible refine kept_q ?_ | intro _ | split

theorem latch_ingest (a0 : RtcmIn) (a1 : State) (h0 : Kept c a1) : Kept c (ingest a0 a1) := by
  delta ingest
  repeat' first | (intro v; subst v) | lift_lets | with_reducible assumption | with_reducible (apply latch_bump) | with_reducible (apply latch_acceptMsm) | split

theorem latch_execMsmMessage (a0 : State) (h0 : Kept c a0) : (∀ t, execMsmMessage a0 = .next t → Kept c t) := by
  intro t h
  cases h
  repeat' first | lift_lets | with_reducible assumption | with_reducible (apply latch_bus) | with_reducible (apply latch_ingest) | simp only [kept_mk] | with_reducible refine kept_q ?_ | intro _ | split

theorem latch_execNak (a0 : FrHead) (a1 : State) (h0 : Kept c a1) : (∀ t, execNak a0 a1 = .next t → Kept c t) := by
  intro t h
  cases h
  repeat' first | lift_lets | with_reducible assumption | with_reducible (apply latch_bus) | with_reducible (apply latch_frameUp) | with_reducible (apply latch_linkFails) | with_reducible (apply latch_bumpTwin) | simp only [kept_mk] | with_reducible refine kept_q ?_ | intro _ | split

theorem latch_execNop (a0 : Fin 16) (a1 : State) (h0 : Kept c a1) : (∀ t, execNop a0 a1 = .next t → Kept c t) := by
  intro t h
  cases h
  repeat' first | lift_lets | with_reducible assumption | with_reducible (apply latch_bus) | with_reducible (apply latch_finishEntry) | intro _ | split

theorem latch_releaseNotch (a0 : ℕ) (a1 : State) (h0 : Kept c a1) : Kept c (releaseNotch a0 a1) := by
  delta releaseNotch
  repeat' first | lift_lets | with_reducible assumption | with_reducible (apply latch_advanceClk) | simp only [kept_mk] | with_reducible refine kept_q ?_ | split

theorem latch_execNotchRelease (a0 : Fin 48) (a1 : State) (h0 : Kept c a1) : (∀ t, execNotchRelease a0 a1 = .next t → Kept c t) := by
  intro t h
  cases h
  repeat' first | lift_lets | with_reducible assumption | with_reducible (apply latch_gnssEvent) | with_reducible (apply latch_releaseNotch)

theorem latch_notchLines (a0 : ℕ) (a1 : List SpecLine) (a2 : State) (h0 : Kept c a2) : Kept c (notchLines a0 a1 a2) := by
  delta notchLines
  repeat' first | (intro v; subst v) | lift_lets | with_reducible assumption | with_reducible (apply latch_claimNotch) | with_reducible (apply kept_foldl) | simp only [kept_mk] | with_reducible refine kept_q ?_ | intro _ | split

theorem latch_notchSpectrum (a0 : ℕ) (a1 : List SpecLine) (a2 : ℕ) (a3 : ℕ) (a4 : State) (h0 : Kept c a4) : Kept c (notchSpectrum a0 a1 a2 a3 a4) := by
  delta notchSpectrum
  repeat' first | (intro v; refine kept_in c v ?_ ?_ <;> [subst v; (clear_value v; intro _)]) | (intro v; subst v) | lift_lets | with_reducible assumption | with_reducible (apply latch_advanceClk) | with_reducible (apply latch_notchLines) | simp only [kept_mk] | with_reducible refine kept_q ?_ | split

theorem latch_execNotchSpectrum (a0 : Fin 6) (a1 : List SpecLine) (a2 : ℕ) (a3 : Byte) (a4 : State) (h0 : Kept c a4) : (∀ t, execNotchSpectrum a0 a1 a2 a3 a4 = .next t → Kept c t) := by
  intro t h
  cases h
  repeat' first | lift_lets | with_reducible assumption | with_reducible (apply latch_gnssEvent) | with_reducible (apply latch_notchSpectrum)

theorem latch_holdPeer (a0 : State) (h0 : Kept c a0) : Kept c (holdPeer a0) := by
  delta holdPeer
  repeat' first | (intro v; subst v) | lift_lets | with_reducible assumption | with_reducible (apply latch_settleVote) | simp only [kept_mk, keptQ_mk] | with_reducible refine kept_v ?_

theorem latch_execNotice (a0 : FrHead) (a1 : State) (h0 : Kept c a1) : (∀ t, execNotice a0 a1 = .next t → Kept c t) := by
  intro t h
  cases h
  repeat' first | lift_lets | with_reducible assumption | with_reducible (apply latch_bus) | with_reducible (apply latch_frameUp) | with_reducible (apply latch_holdPeer) | intro _

theorem latch_execOccColdEnd (a0 : State) (h0 : Kept c a0) : (∀ t, execOccColdEnd a0 = .next t → Kept c t) := by
  intro t h
  cases h
  repeat' first | lift_lets | with_reducible assumption | with_reducible (apply latch_gridBus) | with_reducible (apply latch_advanceClk) | simp only [kept_mk] | with_reducible refine kept_q ?_ | intro _ | split

theorem latch_execOdometerReport (a0 : Bytes) (a1 : Option (BitVec 64)) (a2 : State) (h0 : Kept c a2) : (∀ t, execOdometerReport a0 a1 a2 = .next t → Kept c t) := by
  intro t h
  cases h
  repeat' first | lift_lets | with_reducible assumption | with_reducible (apply latch_bus) | with_reducible (apply latch_odometer) | intro _ | split

theorem latch_execOpenLoad (a0 : Fin 4) (a1 : State) (h0 : Kept c a1) : (∀ t, execOpenLoad a0 a1 = .next t → Kept c t) := by
  intro t h
  cases h
  repeat' first | lift_lets | with_reducible assumption | with_reducible (apply latch_onAon) | with_reducible (apply latch_raise) | with_reducible (apply latch_setDriver) | intro _ | split

theorem latch_execOpenWorld (a0 : Access) (a1 : State) (h0 : Kept c a1) : (∀ t, execOpenWorld a0 a1 = .next t → Kept c t) := by
  intro t h
  cases h
  repeat' first | lift_lets | with_reducible assumption | with_reducible (apply latch_bus) | with_reducible (apply latch_openHost)

theorem latch_originTo (a0 : Option Ecef) (a1 : State) (h0 : Kept c a1) : Kept c (originTo a0 a1).2 := by
  delta originTo
  repeat' first | lift_lets | with_reducible assumption | with_reducible (apply latch_gridIn) | with_reducible (apply latch_refuse) | with_reducible (apply latch_clearOcc) | simp only [kept_mk] | with_reducible refine kept_q ?_ | intro _ | split

theorem latch_execOriginClear (a0 : CmdSrc) (a1 : State) (h0 : Kept c a1) : (∀ t, execOriginClear a0 a1 = .next t → Kept c t) := by
  intro t h
  cases h
  repeat' first | lift_lets | with_reducible assumption | with_reducible (apply latch_gridBus) | with_reducible (apply latch_gridCmd) | with_reducible (apply latch_originTo) | intro _

theorem latch_execOriginSet (a0 : CmdSrc) (a1 : State) (h0 : Kept c a1) : (∀ t, execOriginSet a0 a1 = .next t → Kept c t) := by
  intro t h
  cases h
  repeat' first | lift_lets | with_reducible assumption | with_reducible (apply latch_gridBus) | with_reducible (apply latch_gridCmd) | with_reducible (apply latch_originTo) | intro _

theorem latch_execOrphan (a0 : State) (h0 : Kept c a0) : (∀ t, execOrphan a0 = .next t → Kept c t) := by
  intro t h
  cases h
  repeat' first | lift_lets | with_reducible assumption | with_reducible (apply latch_bus) | with_reducible (apply latch_raise) | simp only [kept_mk] | with_reducible refine kept_q ?_ | intro _ | split

theorem latch_execParentBeaconRx (a0 : RxFrame) (a1 : State) (h0 : Kept c a1) : (∀ t, execParentBeaconRx a0 a1 = .next t → Kept c t) := by
  intro t h
  cases h
  repeat' first | lift_lets | with_reducible assumption | with_reducible (apply latch_bus) | with_reducible (apply latch_onFrame) | simp only [kept_mk] | with_reducible refine kept_q ?_ | intro _ | split

theorem latch_holdPendant (a0 : State) (h0 : Kept c a0) : Kept c (holdPendant a0) := by
  delta holdPendant
  repeat' first | (intro v; subst v) | lift_lets | with_reducible assumption | with_reducible (apply latch_settleVote) | simp only [kept_mk, keptQ_mk] | with_reducible refine kept_v ?_

theorem latch_execParentQuenchRx (a0 : RxFrame) (a1 : State) (h0 : Kept c a1) : (∀ t, execParentQuenchRx a0 a1 = .next t → Kept c t) := by
  intro t h
  cases h
  repeat' first | lift_lets | with_reducible assumption | with_reducible (apply latch_bus) | with_reducible (apply latch_onFrame) | with_reducible (apply latch_holdPendant) | intro _ | split

theorem latch_execPcieLinkUp (a0 : Fin 4) (a1 : Fin 3) (a2 : Bool) (a3 : State) (h0 : Kept c a3) : (∀ t, execPcieLinkUp a0 a1 a2 a3 = .next t → Kept c t) := by
  intro t h
  cases h
  repeat' first | lift_lets | with_reducible assumption | with_reducible (apply latch_bus) | simp only [kept_mk] | with_reducible refine kept_q ?_ | intro _

theorem latch_execPeerQuenchRx (a0 : RxFrame) (a1 : State) (h0 : Kept c a1) : (∀ t, execPeerQuenchRx a0 a1 = .next t → Kept c t) := by
  intro t h
  cases h
  repeat' first | lift_lets | with_reducible assumption | with_reducible (apply latch_bus) | with_reducible (apply latch_onFrame) | with_reducible (apply latch_holdPeer) | intro _ | split

theorem latch_execPendantHoldExpire (a0 : State) (h0 : Kept c a0) : (∀ t, execPendantHoldExpire a0 = .next t → Kept c t) := by
  intro t h
  cases h
  repeat' first | lift_lets | with_reducible assumption | with_reducible (apply latch_onAon) | with_reducible (apply latch_advanceClk) | with_reducible (apply latch_driveOutputs) | simp only [kept_mk, keptQ_mk] | with_reducible refine kept_v ?_ | intro _ | split

theorem latch_execPermitOutOffDelay (a0 : State) (h0 : Kept c a0) : (∀ t, execPermitOutOffDelay a0 = .next t → Kept c t) := by
  intro t h
  cases h
  repeat' first | lift_lets | with_reducible assumption | with_reducible (apply latch_onAon) | with_reducible (apply latch_advanceClk) | simp only [kept_mk, keptQ_mk] | with_reducible refine kept_v ?_ | intro _ | split

theorem latch_execPerst (a0 : State) (h0 : Kept c a0) : (∀ t, execPerst a0 = .next t → Kept c t) := by
  intro t h
  cases h
  repeat' first | lift_lets | with_reducible assumption | with_reducible (apply latch_bus) | with_reducible (apply latch_mainReset) | with_reducible (apply latch_hostReset) | intro _ | split

theorem latch_execPinLevelAccept (a0 : Fin 16) (a1 : Bool) (a2 : Bool) (a3 : State) (h0 : Kept c a3) : (∀ t, execPinLevelAccept a0 a1 a2 a3 = .next t → Kept c t) := by
  intro t h
  cases h
  repeat' first | lift_lets | with_reducible assumption | with_reducible (apply latch_onAon) | with_reducible (apply latch_acceptPin) | with_reducible (apply latch_settleAs) | intro _

theorem latch_pllResult (a0 : Bool) (a1 : State) (h0 : Kept c a1) : Kept c (pllResult a0 a1) := by
  delta pllResult
  repeat' first | (intro v; subst v) | lift_lets | with_reducible assumption | simp only [kept_mk] | with_reducible refine kept_q ?_ | split

theorem latch_execPllLocked (a0 : Bool) (a1 : State) (h0 : Kept c a1) : (∀ t, execPllLocked a0 a1 = .next t → Kept c t) := by
  intro t h
  cases h
  repeat' first | lift_lets | with_reducible assumption | with_reducible (apply latch_onWarden) | with_reducible (apply latch_pllResult) | intro _ | split

theorem latch_widenNodes (a0 : State) (h0 : Kept c a0) : Kept c (widenNodes a0) := by
  delta widenNodes
  repeat' first | (intro v; subst v) | lift_lets | with_reducible assumption | with_reducible (apply latch_raise) | simp only [kept_mk] | with_reducible refine kept_q ?_ | split

theorem latch_execPoll (a0 : RxFrame) (a1 : State) (h0 : Kept c a1) : (∀ t, execPoll a0 a1 = .next t → Kept c t) := by
  intro t h
  cases h
  repeat' first | lift_lets | with_reducible assumption | with_reducible (apply latch_bus) | with_reducible (apply latch_onFrame) | with_reducible (apply latch_widenNodes) | with_reducible (apply latch_bumpChain) | with_reducible (apply latch_answerPoll) | dsimp only | intro _ | split

theorem latch_execPortEnable (a0 : Fin 16) (a1 : Bool) (a2 : State) (h0 : Kept c a2) : (∀ t, execPortEnable a0 a1 a2 = .next t → Kept c t) := by
  intro t h
  cases h
  repeat' first | lift_lets | with_reducible assumption | with_reducible (apply latch_bus) | with_reducible (apply latch_portEnable)

theorem latch_execPost (a0 : Fin 4096) (a1 : State) (h0 : Kept c a1) : (∀ t, execPost a0 a1 = .next t → Kept c t) := by
  intro t h
  cases h
  repeat' first | lift_lets | with_reducible assumption | with_reducible (apply latch_bus) | with_reducible (apply latch_postTask)

theorem latch_senseSample (a0 : ℕ) (a1 : ℕ) (a2 : State) (h0 : Kept c a2) : Kept c (senseSample a0 a1 a2) := by
  delta senseSample
  repeat' first | (intro v; subst v) | lift_lets | with_reducible assumption | simp only [kept_mk] | with_reducible refine kept_q ?_

theorem latch_execPowerSenseSample (a0 : ℕ) (a1 : ℕ) (a2 : State) (h0 : Kept c a2) : (∀ t, execPowerSenseSample a0 a1 a2 = .next t → Kept c t) := by
  intro t h
  cases h
  repeat' first | lift_lets | with_reducible assumption | with_reducible (apply latch_onWarden) | with_reducible (apply latch_senseSample)

theorem latch_ppsEdge (a0 : State) (h0 : Kept c a0) : Kept c (ppsEdge a0) := by
  delta ppsEdge
  repeat' first | (intro v; refine kept_in c v ?_ ?_ <;> [subst v; (clear_value v; intro _)]) | (intro v; subst v) | lift_lets | with_reducible assumption | simp only [kept_mk] | with_reducible refine kept_q ?_ | split

theorem latch_execPpsOutEdge (a0 : State) (h0 : Kept c a0) : (∀ t, execPpsOutEdge a0 = .next t → Kept c t) := by
  intro t h
  cases h
  repeat' first | lift_lets | with_reducible assumption | with_reducible (apply latch_bus) | with_reducible (apply latch_ppsEdge) | with_reducible (apply latch_advanceTo) | intro _

theorem latch_execPpsOutFall (a0 : State) (h0 : Kept c a0) : (∀ t, execPpsOutFall a0 = .next t → Kept c t) := by
  intro t h
  cases h
  repeat' first | lift_lets | with_reducible assumption | with_reducible (apply latch_bus) | with_reducible (apply latch_advanceClk) | simp only [kept_mk] | with_reducible refine kept_q ?_ | intro _ | split

theorem latch_grantReq (a0 : Mode) (a1 : Master) (a2 : State) (h0 : Kept c a2) : Kept c (grantReq a0 a1 a2) := by
  delta grantReq
  repeat' first | lift_lets | with_reducible assumption | with_reducible (apply latch_toMode) | with_reducible (apply latch_finishRequest)

theorem latch_tickSurvey (a0 : State) (h0 : Kept c a0) : Kept c (tickSurvey a0) := by
  delta tickSurvey
  repeat' first | lift_lets | with_reducible assumption | with_reducible (apply latch_toMode) | with_reducible (apply latch_dropClaim) | with_reducible (apply latch_grantReq) | with_reducible (apply latch_enterField) | with_reducible (apply latch_finishRequest) | split

theorem latch_startAnneal (a0 : ModeCause) (a1 : ℕ) (a2 : State) (h0 : Kept c a2) : Kept c (startAnneal a0 a1 a2) := by
  delta startAnneal
  repeat' first | lift_lets | with_reducible assumption | with_reducible (apply latch_toMode) | with_reducible (apply latch_finishRequest) | split

theorem latch_tickField (a0 : State) (h0 : Kept c a0) : Kept c (tickField a0) := by
  delta tickField
  repeat' first | lift_lets | with_reducible assumption | with_reducible (apply latch_startAnneal) | with_reducible (apply latch_toMode) | split

theorem latch_tickHoldover (a0 : State) (h0 : Kept c a0) : Kept c (tickHoldover a0) := by
  delta tickHoldover
  repeat' first | lift_lets | with_reducible assumption | with_reducible (apply latch_startAnneal) | with_reducible (apply latch_toMode) | with_reducible (apply latch_ageAction) | split

theorem latch_tickAnneal (a0 : State) (h0 : Kept c a0) : Kept c (tickAnneal a0) := by
  delta tickAnneal
  repeat' first | lift_lets | with_reducible assumption | with_reducible (apply latch_toMode) | with_reducible (apply latch_grantReq) | split

theorem latch_tickOther (a0 : State) (h0 : Kept c a0) : Kept c (tickOther a0) := by
  delta tickOther
  repeat' first | lift_lets | with_reducible assumption | with_reducible (apply latch_toMode) | with_reducible (apply latch_grantReq) | split

theorem latch_modeTick (a0 : State) (h0 : Kept c a0) : Kept c (modeTick a0) := by
  delta modeTick
  repeat' first | lift_lets | with_reducible assumption | with_reducible (apply latch_tickSurvey) | with_reducible (apply latch_tickField) | with_reducible (apply latch_tickHoldover) | with_reducible (apply latch_tickAnneal) | with_reducible (apply latch_tickOther) | split

theorem latch_planOff (a0 : ℕ) (a1 : SpClass) (a2 : State) (h0 : Kept c a2) : Kept c (planOff a0 a1 a2) := by
  delta planOff
  repeat' first | (intro v; refine kept_in c v ?_ ?_ <;> [subst v; (clear_value v; intro _)]) | (intro v; subst v) | lift_lets | with_reducible assumption | with_reducible (apply latch_setCauses) | with_reducible (apply latch_setSp) | split

theorem latch_planGeared (a0 : ℕ) (a1 : SpLimits) (a2 : SpClass) (a3 : Path) (a4 : ℕ) (a5 : ℕ) (a6 : Gear) (a7 : State) (h0 : Kept c a7) : Kept c (planGeared a0 a1 a2 a3 a4 a5 a6 a7) := by
  delta planGeared
  repeat' first | (intro v; refine kept_in c v ?_ ?_ <;> [subst v; (clear_value v; intro _)]) | (intro v; subst v) | lift_lets | with_reducible assumption | with_reducible (apply latch_setSp) | with_reducible (apply latch_gearLost) | with_reducible (apply latch_raise) | dsimp only | split

theorem latch_planOn (a0 : ℕ) (a1 : SpClass) (a2 : List Allot) (a3 : ℕ) (a4 : ℕ) (a5 : State) (h0 : Kept c a5) : Kept c (planOn a0 a1 a2 a3 a4 a5) := by
  delta planOn
  repeat' first | (intro v; refine kept_in c v ?_ ?_ <;> [subst v; (clear_value v; intro _)]) | (intro v; subst v) | lift_lets | with_reducible assumption | with_reducible (apply latch_setSp) | with_reducible (apply latch_raise) | with_reducible (apply latch_bumpSetpt) | with_reducible (apply latch_setCauses) | with_reducible (apply latch_askExtend) | with_reducible (apply latch_planGeared) | dsimp only | split

theorem latch_noteStill (a0 : ℕ) (a1 : State) (h0 : Kept c a1) : Kept c (noteStill a0 a1) := by
  delta noteStill
  repeat' first | (intro v; refine kept_in c v ?_ ?_ <;> [subst v; (clear_value v; intro _)]) | (intro v; subst v) | lift_lets | with_reducible assumption | with_reducible (apply latch_setSp) | with_reducible (apply latch_bumpSetpt) | simp only [kept_mk, keptQ_mk] | with_reducible refine kept_v ?_ | split

theorem latch_planMach (a0 : ℕ) (a1 : State) (a2 : ℕ) (h0 : Kept c a1) : Kept c (planMach a0 a1 a2) := by
  delta planMach
  repeat' first | (intro v; refine kept_in c v ?_ ?_ <;> [subst v; (clear_value v; intro _)]) | (intro v; subst v) | lift_lets | with_reducible assumption | with_reducible (apply latch_setCauses) | with_reducible (apply latch_gearLost) | with_reducible (apply latch_planOff) | with_reducible (apply latch_planOn) | with_reducible (apply latch_noteStill) | with_reducible (apply latch_setSp) | dsimp only | split

theorem latch_followMach (a0 : ℕ) (a1 : State) (a2 : ℕ) (h0 : Kept c a1) : Kept c (followMach a0 a1 a2) := by
  delta followMach
  repeat' first | (intro v; refine kept_in c v ?_ ?_ <;> [subst v; (clear_value v; intro _)]) | (intro v; subst v) | lift_lets | with_reducible assumption | with_reducible (apply latch_setCauses) | with_reducible (apply latch_setSp) | with_reducible (apply latch_noteStill) | dsimp only | split

theorem latch_planTick (a0 : ℕ) (a1 : State) (h0 : Kept c a1) : Kept c (planTick a0 a1) := by
  delta planTick
  repeat' first | (intro v; refine kept_in c v ?_ ?_ <;> [subst v; (clear_value v; intro _)]) | (intro v; subst v) | lift_lets | with_reducible assumption | with_reducible (apply latch_planMach) | with_reducible (apply latch_ethCodes) | with_reducible (apply latch_driveOutputs) | with_reducible (apply latch_followMach) | with_reducible (apply kept_foldl) | simp only [kept_mk] | with_reducible refine kept_q ?_ | split

theorem latch_sendAssay (a0 : State) (h0 : Kept c a0) : Kept c (sendAssay a0) := by
  delta sendAssay
  repeat' first | (intro v; subst v) | lift_lets | with_reducible assumption | with_reducible (apply latch_sendGroup) | simp only [kept_mk] | with_reducible refine kept_q ?_ | split

theorem latch_noteHostq (a0 : State) (h0 : Kept c a0) : Kept c (noteHostq a0) := by
  delta noteHostq
  repeat' first | (intro v; subst v) | lift_lets | with_reducible assumption | simp only [kept_mk] | with_reducible refine kept_q ?_ | split

theorem latch_mirrorTick (a0 : State) (h0 : Kept c a0) : Kept c (mirrorTick a0) := by
  delta mirrorTick
  repeat' first | (intro v; refine kept_in c v ?_ ?_ <;> [subst v; (clear_value v; intro _)]) | lift_lets | with_reducible assumption | with_reducible (apply latch_sendSnapshot) | with_reducible (apply latch_sendGroup) | with_reducible (apply latch_sendAssay) | with_reducible (apply latch_noteHostq) | with_reducible (apply latch_sendBody) | split

theorem latch_execProfileTick (a0 : State) (h0 : Kept c a0) : (∀ t, execProfileTick a0 = .next t → Kept c t) := by
  intro t h
  cases h
  repeat' first | lift_lets | with_reducible assumption | with_reducible (apply latch_bus) | with_reducible (apply latch_advanceTo) | with_reducible (apply latch_modeTick) | with_reducible (apply latch_annealDoneTick) | with_reducible (apply latch_planTick) | with_reducible (apply latch_mirrorTick) | simp only [kept_mk] | with_reducible refine kept_q ?_ | intro _ | split

theorem latch_execPubkey (a0 : Access) (a1 : Fin 128) (a2 : Bool) (a3 : State) (h0 : Kept c a3) : (∀ t, execPubkey a0 a1 a2 a3 = .next t → Kept c t) := by
  intro t h
  cases h
  repeat' first | lift_lets | with_reducible assumption | with_reducible (apply latch_bus) | with_reducible (apply latch_geodeRun)

theorem latch_execQuench (a0 : Master) (a1 : State) (h0 : Kept c a1) : (∀ t, execQuench a0 a1 = .next t → Kept c t) := by
  intro t h
  cases h
  repeat' first | lift_lets | with_reducible assumption | with_reducible (apply latch_bus) | with_reducible (apply latch_hostQuench)

theorem latch_execQuenchFrameRepeat (a0 : State) (h0 : Kept c a0) : ∀ t, execQuenchFrameRepeat a0 = .next t → Kept c t := by
  intro t h
  cases h
  refine latch_bus _ _ h0 fun s hs => ?_
  split
  · exact hs
  · refine latch_sendQuenchFrames _ _ _ _ _ ?_
    rw [kept_mk, keptQ_mk]
    exact kept_v (latch_advanceTo _ _ hs)

theorem latch_execQuenchMach (a0 : Fin 128) (a1 : State) (h0 : Kept c a1) : (∀ t, execQuenchMach a0 a1 = .next t → Kept c t) := by
  intro t h
  cases h
  repeat' first | lift_lets | with_reducible assumption | with_reducible (apply latch_bus) | with_reducible (apply latch_machineQuench) | simp only [kept_mk, keptQ_mk] | with_reducible refine kept_v ?_ | intro _

theorem latch_execQuenchRepeatTx (a0 : Fin 3) (a1 : State) (h0 : Kept c a1) : (∀ t, execQuenchRepeatTx a0 a1 = .next t → Kept c t) := by
  intro t h
  cases h
  repeat' first | lift_lets | with_reducible assumption | with_reducible (apply latch_bus) | with_reducible (apply latch_sendQuench) | intro _ | split

theorem latch_mirrorSlot (a0 : State) (h0 : Kept c a0) : Kept c (mirrorSlot a0) := by
  delta mirrorSlot
  repeat' first | lift_lets | with_reducible assumption | with_reducible (apply latch_sendGroup) | split

theorem latch_lateBreak (a0 : State) (h0 : Kept c a0) : Kept c (lateBreak a0) := by
  delta lateBreak
  repeat' first | (intro v; subst v) | lift_lets | with_reducible assumption | with_reducible (apply latch_breakChain) | simp only [kept_mk] | with_reducible refine kept_q ?_ | split

theorem latch_holdAsn (a0 : State) (h0 : Kept c a0) : Kept c (holdAsn a0) := by
  delta holdAsn
  repeat' first | (intro v; refine kept_in c v ?_ ?_ <;> [subst v; (clear_value v; intro _)]) | (intro v; subst v) | lift_lets | with_reducible assumption | with_reducible (apply latch_raise) | simp only [kept_mk] | with_reducible refine kept_q ?_ | split

theorem latch_slotBegin (a0 : State) (h0 : Kept c a0) : Kept c (slotBegin a0) := by
  delta slotBegin
  repeat' first | (intro v; refine kept_in c v ?_ ?_ <;> [subst v; (clear_value v; intro _)]) | (intro v; subst v) | lift_lets | with_reducible assumption | with_reducible (apply latch_countMissed) | with_reducible (apply latch_lateBreak) | with_reducible (apply latch_widenNodes) | with_reducible (apply latch_holdAsn) | with_reducible (apply latch_chainBegin) | simp only [kept_mk] | with_reducible refine kept_q ?_ | split

theorem latch_slotReached (a0 : State) (h0 : Kept c a0) : Kept c (slotReached a0) := by
  delta slotReached
  repeat' first | (intro v; subst v) | lift_lets | with_reducible assumption | with_reducible (apply latch_slotBegin) | simp only [kept_mk] | with_reducible refine kept_q ?_ | split

theorem latch_execRadioSlot (a0 : State) (h0 : Kept c a0) : (∀ t, execRadioSlot a0 = .next t → Kept c t) := by
  intro t h
  cases h
  repeat' first | lift_lets | with_reducible assumption | with_reducible (apply latch_bus) | with_reducible (apply latch_mirrorSlot) | with_reducible (apply latch_slotReached) | with_reducible (apply latch_advanceTo) | intro _

theorem latch_execRaiseSecver (a0 : Access) (a1 : Bool) (a2 : State) (h0 : Kept c a2) : (∀ t, execRaiseSecver a0 a1 a2 = .next t → Kept c t) := by
  intro t h
  cases h
  repeat' first | lift_lets | with_reducible assumption | with_reducible (apply latch_bus) | with_reducible (apply latch_geodeRun)

theorem latch_execRateWrite (a0 : Bool) (a1 : Word) (a2 : State) (h0 : Kept c a2) : (∀ t, execRateWrite a0 a1 a2 = .next t → Kept c t) := by
  intro t h
  cases h
  repeat' first | lift_lets | with_reducible assumption | with_reducible (apply latch_bus) | with_reducible (apply latch_rateWrite)

theorem latch_stored (a0 : ℕ) (a1 : State) (h0 : Kept c a1) : Kept c (stored a0 a1) := by
  delta stored
  repeat' first | (intro v; refine kept_in c v ?_ ?_ <;> [subst v; (clear_value v; intro _)]) | (intro v; subst v) | lift_lets | with_reducible assumption | with_reducible (apply latch_mapAs) | with_reducible (apply latch_setAs) | simp only [kept_mk] | with_reducible refine kept_q ?_ | split

theorem latch_storeFails (a0 : State) (h0 : Kept c a0) : Kept c (storeFails a0) := by
  delta storeFails
  repeat' first | (intro v; refine kept_in c v ?_ ?_ <;> [subst v; (clear_value v; intro _)]) | (intro v; subst v) | lift_lets | with_reducible assumption | with_reducible (apply latch_mapAs) | with_reducible (apply latch_detect) | with_reducible (apply latch_raise) | simp only [kept_mk] | with_reducible refine kept_q ?_ | split

theorem latch_execRawTotalStored (a0 : Fin 16) (a1 : Bool) (a2 : State) (h0 : Kept c a2) : (∀ t, execRawTotalStored a0 a1 a2 = .next t → Kept c t) := by
  intro t h
  cases h
  repeat' first | lift_lets | with_reducible assumption | with_reducible (apply latch_onAon) | with_reducible (apply latch_stored) | with_reducible (apply latch_storeFails) | intro _ | split

theorem latch_execRcCounterRead (a0 : Access) (a1 : BitVec 26) (a2 : Width) (a3 : ℕ) (a4 : State) (h0 : Kept c a4) : (∀ t, execRcCounterRead a0 a1 a2 a3 a4 = .next t → Kept c t) := by
  intro t h
  cases h
  repeat' first | lift_lets | with_reducible assumption | with_reducible (apply latch_bus) | with_reducible (apply latch_busRead)

theorem latch_execReadAt (a0 : Fin 64) (a1 : Bool) (a2 : Bool) (a3 : State) (h0 : Kept c a3) : (∀ t, execReadAt a0 a1 a2 a3 = .next t → Kept c t) := by
  intro t h
  cases h
  repeat' first | lift_lets | with_reducible assumption | with_reducible (apply latch_bus) | with_reducible (apply latch_lodeAcc)

theorem latch_execReadSys (a0 : State) (h0 : Kept c a0) : (∀ t, execReadSys a0 = .next t → Kept c t) := by
  intro t h
  cases h
  repeat' first | lift_lets | with_reducible assumption | with_reducible (apply latch_bus) | with_reducible (apply latch_wardenTake) | with_reducible (apply latch_wardenAnswer) | intro _ | split

theorem latch_execReasmTimeout (a0 : State) (h0 : Kept c a0) : (∀ t, execReasmTimeout a0 = .next t → Kept c t) := by
  intro t h
  cases h
  repeat' first | lift_lets | with_reducible assumption | with_reducible (apply latch_bus) | with_reducible (apply latch_bumpChain) | with_reducible (apply latch_advanceClk) | simp only [kept_mk] | with_reducible refine kept_q ?_ | intro _ | split

theorem latch_storeNext (a0 : State) (h0 : Kept c a0) : Kept c (storeNext a0) := by
  delta storeNext
  repeat' first | (intro v; subst v) | lift_lets | with_reducible assumption | with_reducible (apply latch_lostRecord) | with_reducible (apply latch_writeRecord) | simp only [kept_mk] | with_reducible refine kept_q ?_ | split

theorem latch_storeFailed (a0 : State) (h0 : Kept c a0) : Kept c (storeFailed a0) := by
  delta storeFailed
  repeat' first | (intro v; refine kept_in c v ?_ ?_ <;> [subst v; (clear_value v; intro _)]) | (intro v; subst v) | lift_lets | with_reducible assumption | with_reducible (apply latch_detect) | with_reducible (apply latch_lostRecord) | with_reducible (apply latch_recordInt) | simp only [kept_mk] | with_reducible refine kept_q ?_ | split

theorem latch_execRecordStore (a0 : Bool) (a1 : State) (h0 : Kept c a1) : (∀ t, execRecordStore a0 a1 = .next t → Kept c t) := by
  intro t h
  cases h
  repeat' first | lift_lets | with_reducible assumption | with_reducible (apply latch_onAon) | with_reducible (apply latch_storeNext) | with_reducible (apply latch_storeFailed) | intro _ | split

theorem latch_execRef10Lost (a0 : State) (h0 : Kept c a0) : (∀ t, execRef10Lost a0 = .next t → Kept c t) := by
  intro t h
  cases h
  repeat' first | lift_lets | with_reducible assumption | with_reducible (apply latch_bus) | with_reducible (apply latch_fatalError) | simp only [kept_mk] | with_reducible refine kept_q ?_ | intro _

theorem latch_execRef10Return (a0 : State) (h0 : Kept c a0) : (∀ t, execRef10Return a0 = .next t → Kept c t) := by
  intro t h
  cases h
  repeat' first | lift_lets | with_reducible assumption | with_reducible (apply latch_onWarden) | simp only [kept_mk] | with_reducible refine kept_q ?_ | intro _

theorem latch_refMoved (a0 : State) (h0 : Kept c a0) : Kept c (refMoved a0) := by
  delta refMoved
  repeat' first | (intro v; subst v) | lift_lets | with_reducible assumption | with_reducible (apply latch_refTo) | with_reducible (apply latch_raise) | with_reducible (apply latch_advanceClk) | with_reducible (apply latch_loseSources) | simp only [kept_mk] | with_reducible refine kept_q ?_ | split

theorem latch_execRefMoved (a0 : State) (h0 : Kept c a0) : (∀ t, execRefMoved a0 = .next t → Kept c t) := by
  intro t h
  cases h
  repeat' first | lift_lets | with_reducible assumption | with_reducible (apply latch_bus) | with_reducible (apply latch_refMoved) | intro _ | split

theorem latch_execRegisterWrite (a0 : Access) (a1 : BitVec 26) (b : Width) (a2 g : Word) (a3 : State)
    (hr : a0.master = .host → a1.toNat = 0x09000C → b = .word → fld a2 31 16 = 0x9610 → fld a2 15 12 = 2 →
      c.ok (Vector.replicate 3 false))
    (h0 : Kept c a3) : ∀ t, execRegisterWrite a0 a1 b a2 g a3 = .next t → Kept c t := by
  intro t h
  cases h
  refine latch_bus _ _ h0 fun s hs => ?_
  split
  · exact latch_accessFault _ _ _ _ hs
  · split
    · exact hs
    · refine latch_commandWrite _ _ _ _ (fun h1 h2 => ?_) hs
      have hw : w1cBits a1.toNat = 0 := by rw [h2]; decide
      rw [hw, show g &&& (0 : Word) = 0#32 from BitVec.and_zero, show ~~~(0#32) = BitVec.allOnes 32 from rfl, BitVec.and_allOnes]
      exact hr h1 h2 (by tauto)

theorem latch_release (a0 : GridCmd) (a1 : State) (h0 : Kept c a1) : Kept c (release a0 a1).2 := by
  delta release
  repeat' first | (intro v; subst v) | lift_lets | with_reducible assumption | with_reducible (apply latch_gridIn) | with_reducible (apply latch_endAllots) | with_reducible (apply latch_refuse) | intro _ | split

theorem latch_execRelease (a0 : CmdSrc) (a1 : State) (h0 : Kept c a1) : (∀ t, execRelease a0 a1 = .next t → Kept c t) := by
  intro t h
  cases h
  repeat' first | lift_lets | with_reducible assumption | with_reducible (apply latch_gridBus) | with_reducible (apply latch_gridCmd) | with_reducible (apply latch_release) | intro _

theorem latch_execReleaseLatch (a0 : Master) (b0 : Bool) (a1 : State) (hr : a0 = .host → c.ok (Vector.replicate 3 false)) (h0 : Kept c a1) :
    ∀ t, execReleaseLatch a0 b0 a1 = .next t → Kept c t := by
  intro t h
  cases h
  exact latch_bus _ _ h0 fun s hs => latch_releaseLatch _ _ _ hr hs

theorem latch_releaseMach (a0 : GridCmd) (a1 : State) (h0 : Kept c a1) : Kept c (releaseMach a0 a1).2 := by
  delta releaseMach
  repeat' first | (intro v; subst v) | lift_lets | with_reducible assumption | with_reducible (apply latch_gridIn) | with_reducible (apply latch_refuse) | with_reducible (apply latch_endAllots) | intro _ | split

theorem latch_execReleaseMach (a0 : CmdSrc) (a1 : State) (h0 : Kept c a1) : (∀ t, execReleaseMach a0 a1 = .next t → Kept c t) := by
  intro t h
  cases h
  repeat' first | lift_lets | with_reducible assumption | with_reducible (apply latch_gridBus) | with_reducible (apply latch_gridCmd) | with_reducible (apply latch_releaseMach) | intro _

theorem latch_execReminder (a0 : State) (h0 : Kept c a0) : (∀ t, execReminder a0 = .next t → Kept c t) := by
  intro t h
  cases h
  repeat' first | lift_lets | with_reducible assumption | with_reducible (apply latch_onAon) | with_reducible (apply latch_advanceClk) | with_reducible (apply latch_note) | with_reducible (apply latch_bumpQuench) | simp only [kept_mk, keptQ_mk] | with_reducible refine kept_v ?_ | intro _ | split

theorem latch_execReqAnneal (a0 : Master) (a1 : State) (h0 : Kept c a1) : (∀ t, execReqAnneal a0 a1 = .next t → Kept c t) := by
  intro t h
  cases h
  repeat' first | lift_lets | with_reducible assumption | with_reducible (apply latch_bus) | with_reducible (apply latch_modeRequest)

theorem latch_execReqDormant (a0 : Master) (a1 : State) (h0 : Kept c a1) : (∀ t, execReqDormant a0 a1 = .next t → Kept c t) := by
  intro t h
  cases h
  repeat' first | lift_lets | with_reducible assumption | with_reducible (apply latch_bus) | with_reducible (apply latch_modeRequest)

theorem latch_execReqField (a0 : Master) (a1 : State) (h0 : Kept c a1) : (∀ t, execReqField a0 a1 = .next t → Kept c t) := by
  intro t h
  cases h
  repeat' first | lift_lets | with_reducible assumption | with_reducible (apply latch_bus) | with_reducible (apply latch_modeRequest)

theorem latch_execReqMaintenance (a0 : Master) (a1 : State) (h0 : Kept c a1) : (∀ t, execReqMaintenance a0 a1 = .next t → Kept c t) := by
  intro t h
  cases h
  repeat' first | lift_lets | with_reducible assumption | with_reducible (apply latch_bus) | with_reducible (apply latch_modeRequest)

theorem latch_execReqSurvey (a0 : Master) (a1 : State) (h0 : Kept c a1) : (∀ t, execReqSurvey a0 a1 = .next t → Kept c t) := by
  intro t h
  cases h
  repeat' first | lift_lets | with_reducible assumption | with_reducible (apply latch_bus) | with_reducible (apply latch_modeRequest)

theorem latch_execResCritClear (a0 : State) (h0 : Kept c a0) : (∀ t, execResCritClear a0 = .next t → Kept c t) := by
  intro t h
  cases h
  repeat' first | lift_lets | with_reducible assumption | with_reducible (apply latch_onWarden) | with_reducible (apply latch_driveOutputs) | simp only [kept_mk] | with_reducible refine kept_q ?_ | intro _ | split

theorem latch_restoreBank (a0 : ℕ) (a1 : State) (h0 : Kept c a1) : Kept c (restoreBank a0 a1) := by
  delta restoreBank
  repeat' first | (intro v; refine kept_in c v ?_ ?_ <;> [subst v; (clear_value v; intro _)]) | (intro v; subst v) | lift_lets | with_reducible assumption | with_reducible (apply latch_setBank) | with_reducible (apply latch_raise) | simp only [kept_mk] | with_reducible refine kept_q ?_ | split

theorem latch_execRestoreDone (a0 : Fin 64) (a1 : State) (h0 : Kept c a1) : (∀ t, execRestoreDone a0 a1 = .next t → Kept c t) := by
  intro t h
  cases h
  repeat' first | lift_lets | with_reducible assumption | with_reducible (apply latch_bus) | with_reducible (apply latch_restoreBank)

theorem latch_resume (a0 : GridCmd) (a1 : State) (h0 : Kept c a1) : Kept c (resume a0 a1).2 := by
  delta resume
  repeat' first | (intro v; subst v) | lift_lets | with_reducible assumption | with_reducible (apply latch_gridIn) | with_reducible (apply latch_refuse) | with_reducible (apply latch_setGridMach) | intro _ | split

theorem latch_execResume (a0 : CmdSrc) (a1 : State) (h0 : Kept c a1) : (∀ t, execResume a0 a1 = .next t → Kept c t) := by
  intro t h
  cases h
  repeat' first | lift_lets | with_reducible assumption | with_reducible (apply latch_gridBus) | with_reducible (apply latch_gridCmd) | with_reducible (apply latch_resume) | intro _

theorem latch_execResumeMach (a0 : CmdSrc) (a1 : State) (h0 : Kept c a1) : (∀ t, execResumeMach a0 a1 = .next t → Kept c t) := by
  intro t h
  cases h
  repeat' first | lift_lets | with_reducible assumption | with_reducible (apply latch_bus) | with_reducible (apply latch_setptCmd) | with_reducible (apply latch_setCauses) | dsimp only | intro _

theorem latch_resvRefresh (a0 : State) (h0 : Kept c a0) : Kept c (resvRefresh a0) := by
  delta resvRefresh
  repeat' first | (intro v; subst v) | lift_lets | with_reducible assumption | with_reducible (apply latch_bumpBy) | simp only [kept_mk] | with_reducible refine kept_q ?_ | split

theorem latch_execResvRefresh (a0 : State) (h0 : Kept c a0) : (∀ t, execResvRefresh a0 = .next t → Kept c t) := by
  intro t h
  cases h
  repeat' first | lift_lets | with_reducible assumption | with_reducible (apply latch_gridBus) | with_reducible (apply latch_resvRefresh) | intro _ | split

theorem latch_execRevokeHash (a0 : Access) (a1 : Bool) (a2 : State) (h0 : Kept c a2) : (∀ t, execRevokeHash a0 a1 a2 = .next t → Kept c t) := by
  intro t h
  cases h
  repeat' first | lift_lets | with_reducible assumption | with_reducible (apply latch_bus) | with_reducible (apply latch_geodeRun)

theorem latch_execRun (a0 : BitVec 8) (a1 : BitVec 8) (a2 : State) (h0 : Kept c a2) : (∀ t, execRun a0 a1 a2 = .next t → Kept c t) := by
  intro t h
  cases h
  repeat' first | lift_lets | with_reducible assumption | with_reducible (apply latch_bus) | with_reducible (apply latch_writeRun)

theorem latch_execRxBuf (a0 : Fin 16) (a1 : State) (h0 : Kept c a1) : (∀ t, execRxBuf a0 a1 = .next t → Kept c t) := by
  intro t h
  cases h
  repeat' first | lift_lets | with_reducible assumption | with_reducible (apply latch_bus) | with_reducible (apply latch_finishEntry) | simp only [kept_mk] | with_reducible refine kept_q ?_ | intro _ | split

theorem latch_schedRun (a0 : ℕ) (a1 : SpCmd) (a2 : State) (h0 : Kept c a2) : Kept c (schedRun a0 a1 a2).2 := by
  delta schedRun
  repeat' first | (intro v; subst v) | lift_lets | with_reducible assumption | with_reducible (apply latch_setSp) | dsimp only | split

theorem latch_execSched (a0 : CmdSrc) (a1 : State) (h0 : Kept c a1) : (∀ t, execSched a0 a1 = .next t → Kept c t) := by
  intro t h
  cases h
  repeat' first | lift_lets | with_reducible assumption | with_reducible (apply latch_bus) | with_reducible (apply latch_setptCmd) | with_reducible (apply latch_schedRun) | intro _

theorem latch_execSchedClear (a0 : CmdSrc) (a1 : State) (h0 : Kept c a1) : (∀ t, execSchedClear a0 a1 = .next t → Kept c t) := by
  intro t h
  cases h
  repeat' first | lift_lets | with_reducible assumption | with_reducible (apply latch_bus) | with_reducible (apply latch_setptCmd) | with_reducible (apply latch_setSp) | intro _ | split

theorem latch_execSelWrite (a0 : Bool) (a1 : State) (h0 : Kept c a1) : (∀ t, execSelWrite a0 a1 = .next t → Kept c t) := by
  intro t h
  cases h
  repeat' first | lift_lets | with_reducible assumption | with_reducible (apply latch_bus) | with_reducible (apply latch_selWrite)

theorem latch_execSelfTestDone (a0 : ResKind) (a1 : Fin 256) (a2 : Bool) (a3 : State) (h0 : Kept c a3) : (∀ t, execSelfTestDone a0 a1 a2 a3 = .next t → Kept c t) := by
  intro t h
  cases h
  repeat' first | lift_lets | with_reducible assumption | with_reducible (apply latch_onAon) | with_reducible (apply latch_endTest)

theorem latch_semanticDone (a0 : State) (h0 : Kept c a0) : Kept c (semanticDone a0) := by
  delta semanticDone
  repeat' first | lift_lets | with_reducible assumption | with_reducible (apply latch_loadFail) | with_reducible (apply latch_drawn) | with_reducible (apply latch_checksPassed) | dsimp only | split

theorem latch_execSemanticCheckDone (a0 : State) (h0 : Kept c a0) : (∀ t, execSemanticCheckDone a0 = .next t → Kept c t) := by
  intro t h
  cases h
  repeat' first | lift_lets | with_reducible assumption | with_reducible (apply latch_bus) | with_reducible (apply latch_semanticDone)

theorem latch_settleCore (a0 : ℕ) (a1 : State) (h0 : Kept c a1) : Kept c (settleCore a0 a1) := by
  delta settleCore
  repeat' first | (intro v; refine kept_in c v ?_ ?_ <;> [subst v; (clear_value v; intro _)]) | lift_lets | with_reducible assumption | with_reducible (apply latch_stopCore) | with_reducible (apply latch_raise) | with_reducible (apply latch_startCore) | split

theorem latch_settleBanks (a0 : State) (h0 : Kept c a0) : Kept c (settleBanks a0) := by
  delta settleBanks
  repeat' first | (intro v; subst v) | lift_lets | with_reducible assumption | with_reducible (apply latch_raise) | simp only [kept_mk] | with_reducible refine kept_q ?_ | split

theorem latch_settleSection (a0 : State) (h0 : Kept c a0) : Kept c (settleSection a0) := by
  delta settleSection
  repeat' first | (intro v; refine kept_in c v ?_ ?_ <;> [subst v; (clear_value v; intro _)]) | (intro v; subst v) | lift_lets | with_reducible assumption | with_reducible (apply latch_raise) | with_reducible (apply latch_resume1) | simp only [kept_mk] | with_reducible refine kept_q ?_ | split

theorem latch_settleAll (a0 : State) (h0 : Kept c a0) : Kept c (settleAll a0) := by
  delta settleAll
  repeat' first | (intro v; refine kept_in c v ?_ ?_ <;> [subst v; (clear_value v; intro _)]) | lift_lets | with_reducible assumption | with_reducible (apply latch_settlePort) | with_reducible (apply latch_settleChain) | with_reducible (apply latch_settleAs) | with_reducible (apply latch_settleCore) | with_reducible (apply latch_settleBanks) | with_reducible (apply latch_settleSection) | with_reducible (apply kept_foldl) | intro _

theorem latch_execShutdownComplete (a0 : State) (h0 : Kept c a0) : (∀ t, execShutdownComplete a0 = .next t → Kept c t) := by
  intro t h
  cases h
  repeat' first | lift_lets | with_reducible assumption | with_reducible (apply latch_bus) | with_reducible (apply latch_settleAll)

theorem latch_signatureDone (a0 : Bytes) (a1 : State) (h0 : Kept c a1) : Kept c (signatureDone a0 a1) := by
  delta signatureDone
  repeat' first | lift_lets | with_reducible assumption | with_reducible (apply latch_loadFail) | with_reducible (apply latch_setLoad) | dsimp only | split

theorem latch_execSignatureCheckDone (a0 : Bytes) (a1 : State) (h0 : Kept c a1) : (∀ t, execSignatureCheckDone a0 a1 = .next t → Kept c t) := by
  intro t h
  cases h
  repeat' first | lift_lets | with_reducible assumption | with_reducible (apply latch_bus) | with_reducible (apply latch_signatureDone)

theorem latch_execSilentGaffer (a0 : State) (h0 : Kept c a0) : (∀ t, execSilentGaffer a0 = .next t → Kept c t) := by
  intro t h
  cases h
  repeat' first | lift_lets | with_reducible assumption | with_reducible (apply latch_bus) | with_reducible (apply latch_note) | with_reducible (apply latch_raise) | simp only [kept_mk] | with_reducible refine kept_q ?_ | intro _ | split

theorem latch_execSmbusBlockRead (a0 : BitVec 8) (a1 : Bool) (a2 : State) (h0 : Kept c a2) : (∀ t, execSmbusBlockRead a0 a1 a2 = .next t → Kept c t) := by
  intro t h
  cases h
  repeat' first | lift_lets | with_reducible assumption | with_reducible (apply latch_onAon) | simp only [kept_mk] | with_reducible refine kept_q ?_ | intro _

theorem latch_snapshotDone (a0 : State) (h0 : Kept c a0) : Kept c (snapshotDone a0) := by
  delta snapshotDone
  repeat' first | (intro v; subst v) | lift_lets | with_reducible assumption | with_reducible (apply latch_committed) | with_reducible (apply latch_applyRecord) | with_reducible (apply kept_foldl) | simp only [kept_mk] | with_reducible refine kept_q ?_

theorem latch_execSnapshot (a0 : FrHead) (a1 : Bool) (a2 : MirRecord) (a3 : Bool) (a4 : State) (h0 : Kept c a4) : (∀ t, execSnapshot a0 a1 a2 a3 a4 = .next t → Kept c t) := by
  intro t h
  cases h
  repeat' first | lift_lets | with_reducible assumption | with_reducible (apply latch_bus) | with_reducible (apply latch_frameUp) | with_reducible (apply latch_toPair) | with_reducible (apply latch_snapshotDone) | simp only [kept_mk] | with_reducible refine kept_q ?_ | intro _ | split

theorem latch_execSoftTimeout (a0 : Bool) (a1 : State) (h0 : Kept c a1) : (∀ t, execSoftTimeout a0 a1 = .next t → Kept c t) := by
  intro t h
  cases h
  repeat' first | lift_lets | with_reducible assumption | with_reducible (apply latch_bus) | with_reducible (apply latch_advanceClk) | with_reducible (apply latch_loseSources) | dsimp only | intro _ | split

theorem latch_solveNext (a0 : ℕ) (a1 : MachEpoch) (a2 : State) (h0 : Kept c a2) : Kept c (solveNext a0 a1 a2) := by
  delta solveNext
  repeat' first | lift_lets | with_reducible assumption | with_reducible (apply latch_emitSolution) | with_reducible (apply latch_epochGone) | split

theorem latch_execSolutionOut (a0 : State) (h0 : Kept c a0) : (∀ t, execSolutionOut a0 = .next t → Kept c t) := by
  intro t h
  cases h
  repeat' first | lift_lets | with_reducible assumption | with_reducible (apply latch_gridBus) | with_reducible (apply latch_solveNext) | intro _ | split

theorem latch_execSourceLost (a0 : Bool) (a1 : Bool) (a2 : State) (h0 : Kept c a2) : (∀ t, execSourceLost a0 a1 a2 = .next t → Kept c t) := by
  intro t h
  cases h
  repeat' first | lift_lets | with_reducible assumption | with_reducible (apply latch_bus) | with_reducible (apply latch_loseSources)

theorem latch_execSourceReadError (a0 : State) (h0 : Kept c a0) : (∀ t, execSourceReadError a0 = .next t → Kept c t) := by
  intro t h
  cases h
  repeat' first | lift_lets | with_reducible assumption | with_reducible (apply latch_bus) | with_reducible (apply latch_loadFail) | with_reducible (apply latch_setLoad) | intro _ | split

theorem latch_execSourceValid (a0 : Bool) (a1 : ℤ) (a2 : State) (h0 : Kept c a2) : (∀ t, execSourceValid a0 a1 a2 = .next t → Kept c t) := by
  intro t h
  cases h
  repeat' first | lift_lets | with_reducible assumption | with_reducible (apply latch_bus) | with_reducible (apply latch_sourceValid) | intro _ | split

theorem latch_refreshMeans (a0 : State) (a1 : ℕ) (h0 : Kept c a0) : Kept c (refreshMeans a0 a1) := by
  delta refreshMeans
  repeat' first | (intro v; refine kept_in c v ?_ ?_ <;> [subst v; (clear_value v; intro _)]) | (intro v; subst v) | lift_lets | with_reducible assumption | with_reducible (apply latch_setSp) | with_reducible (apply latch_raise) | split

theorem latch_execSpmeanRefresh (a0 : State) (h0 : Kept c a0) : (∀ t, execSpmeanRefresh a0 = .next t → Kept c t) := by
  intro t h
  cases h
  repeat' first | lift_lets | with_reducible assumption | with_reducible (apply latch_bus) | with_reducible (apply latch_driveOutputs) | with_reducible (apply latch_refreshMeans) | with_reducible (apply kept_foldl) | intro _ | split

theorem latch_execSpoofAck (a0 : State) (h0 : Kept c a0) : (∀ t, execSpoofAck a0 = .next t → Kept c t) := by
  intro t h
  cases h
  repeat' first | lift_lets | with_reducible assumption | with_reducible (apply latch_bus) | with_reducible (apply latch_spoofAck)

theorem latch_setptStale (a0 : ℕ) (a1 : State) (h0 : Kept c a1) : Kept c (setptStale a0 a1) := by
  delta setptStale
  repeat' first | (intro v; subst v) | lift_lets | with_reducible assumption | simp only [kept_mk] | with_reducible refine kept_q ?_

theorem latch_execStaleMarker (a0 : Fin 128) (a1 : State) (h0 : Kept c a1) : (∀ t, execStaleMarker a0 a1 = .next t → Kept c t) := by
  intro t h
  cases h
  repeat' first | lift_lets | with_reducible assumption | with_reducible (apply latch_gridBus) | with_reducible (apply latch_advanceClk) | with_reducible (apply latch_setRtkMach) | with_reducible (apply latch_hostCopy) | with_reducible (apply latch_setptStale) | with_reducible (apply latch_gridSolution) | simp only [kept_mk] | with_reducible refine kept_q ?_ | intro _ | split

theorem latch_execStep (a0 : Word) (a1 : State) (h0 : Kept c a1) : (∀ t, execStep a0 a1 = .next t → Kept c t) := by
  intro t h
  cases h
  repeat' first | lift_lets | with_reducible assumption | with_reducible (apply latch_bus) | with_reducible (apply latch_stepCmd)

theorem latch_execStopReq (a0 : RxFrame) (a1 : State) (h0 : Kept c a1) : (∀ t, execStopReq a0 a1 = .next t → Kept c t) := by
  intro t h
  cases h
  repeat' first | lift_lets | with_reducible assumption | with_reducible (apply latch_bus) | with_reducible (apply latch_onFrame) | with_reducible (apply latch_holdPendant) | with_reducible (apply latch_raise) | with_reducible (apply latch_bumpChain) | simp only [kept_mk] | with_reducible refine kept_q ?_ | intro _ | split

theorem latch_execStopState (a0 : State) (h0 : Kept c a0) : (∀ t, execStopState a0 = .next t → Kept c t) := by
  intro t h
  cases h
  repeat' first | lift_lets | with_reducible assumption | with_reducible (apply latch_bus) | with_reducible (apply latch_wardenTake) | with_reducible (apply latch_wardenAnswer) | intro _ | split

theorem latch_storeDone (a0 : Bool) (a1 : State) (h0 : Kept c a1) : Kept c (storeDone a0 a1) := by
  delta storeDone
  repeat' first | lift_lets | with_reducible assumption | with_reducible (apply latch_doneNow) | with_reducible (apply latch_setSlot) | with_reducible (apply latch_failNow) | split

theorem latch_execStoreWriteDone (a0 : Bool) (a1 : State) (h0 : Kept c a1) : (∀ t, execStoreWriteDone a0 a1 = .next t → Kept c t) := by
  intro t h
  cases h
  repeat' first | lift_lets | with_reducible assumption | with_reducible (apply latch_bus) | with_reducible (apply latch_storeDone)

theorem latch_execStrataClear (a0 : Access) (a1 : BitVec 3) (a2 : Bool) (a3 : State) (h0 : Kept c a3) : (∀ t, execStrataClear a0 a1 a2 a3 = .next t → Kept c t) := by
  intro t h
  cases h
  repeat' first | lift_lets | with_reducible assumption | with_reducible (apply latch_bus) | with_reducible (apply latch_strataClear)

theorem latch_execStuck (a0 : Fin 16) (a1 : State) (h0 : Kept c a1) : (∀ t, execStuck a0 a1 = .next t → Kept c t) := by
  intro t h
  cases h
  repeat' first | lift_lets | with_reducible assumption | with_reducible (apply latch_onAon) | with_reducible (apply latch_advanceClk) | with_reducible (apply latch_note) | with_reducible (apply latch_raise) | with_reducible (apply latch_setAs) | dsimp only | intro _ | split

theorem latch_execSumSelect (a0 : Fin 64) (a1 : State) (h0 : Kept c a1) : (∀ t, execSumSelect a0 a1 = .next t → Kept c t) := by
  intro t h
  cases h
  repeat' first | lift_lets | with_reducible assumption | with_reducible (apply latch_bus) | with_reducible (apply latch_sumSelect)

theorem latch_execSupplyFail (a0 : State) (h0 : Kept c a0) : (∀ t, execSupplyFail a0 = .next t → Kept c t) := by
  intro t h
  cases h
  repeat' first | lift_lets | with_reducible assumption | with_reducible (apply latch_onAon) | with_reducible (apply latch_mapAs) | simp only [kept_mk] | with_reducible refine kept_q ?_ | intro _ | split

theorem latch_surveyDone (a0 : State) (h0 : Kept c a0) : Kept c (surveyDone a0) := by
  delta surveyDone
  repeat' first | (intro v; refine kept_in c v ?_ ?_ <;> [subst v; (clear_value v; intro _)]) | lift_lets | with_reducible assumption | with_reducible (apply latch_closeBlock) | with_reducible (apply latch_refFixed) | split

theorem latch_execSurveyDone (a0 : State) (h0 : Kept c a0) : (∀ t, execSurveyDone a0 = .next t → Kept c t) := by
  intro t h
  cases h
  repeat' first | lift_lets | with_reducible assumption | with_reducible (apply latch_bus) | with_reducible (apply latch_surveyDone) | intro _ | split

theorem latch_sweepBucket (a0 : TableDesc) (a1 : ℕ) (a2 : List (Fin 8)) (a3 : Inst) (a4 : State) (h0 : Kept c a4) : Kept c (sweepBucket a0 a1 a2 a3 a4) := by
  delta sweepBucket
  repeat' first | (intro v; refine kept_in c v ?_ ?_ <;> [subst v; (clear_value v; intro _)]) | (intro v; subst v) | lift_lets | with_reducible assumption | with_reducible (apply latch_setInst) | with_reducible (apply latch_dropCopies) | with_reducible (apply latch_bumpBy)

theorem latch_sweepVisit (a0 : Bool) (a1 : List (Fin 8)) (a2 : State) (h0 : Kept c a2) : Kept c (sweepVisit a0 a1 a2) := by
  delta sweepVisit
  repeat' first | lift_lets | with_reducible assumption | with_reducible (apply latch_advanceTo) | with_reducible (apply latch_sweepBucket) | dsimp only | split

theorem latch_execSweepVisit (a0 : Bool) (a1 : List (Fin 8)) (a2 : State) (h0 : Kept c a2) : (∀ t, execSweepVisit a0 a1 a2 = .next t → Kept c t) := by
  intro t h
  cases h
  repeat' first | lift_lets | with_reducible assumption | with_reducible (apply latch_bus) | with_reducible (apply latch_sweepVisit) | with_reducible (apply latch_settleOccLimit) | with_reducible (apply kept_foldl) | dsimp only | intro _

theorem latch_execSyncReq (a0 : RxFrame) (a1 : State) (h0 : Kept c a1) : (∀ t, execSyncReq a0 a1 = .next t → Kept c t) := by
  intro t h
  cases h
  repeat' first | (intro v; subst v) | lift_lets | with_reducible assumption | with_reducible (apply latch_bus) | with_reducible (apply latch_onFrame) | with_reducible (apply latch_sendAck) | with_reducible (apply latch_setNode) | simp only [kept_mk] | with_reducible refine kept_q ?_ | intro _ | split

theorem latch_execTailWrite (a0 : Fin 16) (a1 : Word) (a2 : State) (h0 : Kept c a2) : (∀ t, execTailWrite a0 a1 a2 = .next t → Kept c t) := by
  intro t h
  cases h
  repeat' first | lift_lets | with_reducible assumption | with_reducible (apply latch_bus) | with_reducible (apply latch_tailWrite)

theorem latch_execTake (a0 : Fin 8) (a1 : Master) (a2 : BitVec 8) (a3 : State) (h0 : Kept c a3) : (∀ t, execTake a0 a1 a2 a3 = .next t → Kept c t) := by
  intro t h
  cases h
  repeat' first | lift_lets | with_reducible assumption | with_reducible (apply latch_bus) | with_reducible (apply latch_takeTask) | simp only [kept_mk] | with_reducible refine kept_q ?_ | intro _ | split

theorem latch_thermalEnd (a0 : State) (h0 : Kept c a0) : Kept c (thermalEnd a0) := by
  delta thermalEnd
  repeat' first | (intro v; subst v) | lift_lets | with_reducible assumption | with_reducible (apply latch_driveOutputs) | simp only [kept_mk] | with_reducible refine kept_q ?_

theorem latch_thermalNote (a0 : State) (h0 : Kept c a0) : Kept c (thermalNote a0) := by
  delta thermalNote
  repeat' first | lift_lets | with_reducible assumption | with_reducible (apply latch_record) | with_reducible (apply latch_raise)

theorem latch_thermalStop (a0 : State) (h0 : Kept c a0) : Kept c (thermalStop a0) := by
  delta thermalStop
  repeat' first | (intro v; refine kept_in c v ?_ ?_ <;> [subst v; (clear_value v; intro _)]) | (intro v; subst v) | lift_lets | with_reducible assumption | with_reducible (apply latch_thermalNote) | with_reducible (apply latch_settleVote) | with_reducible (apply latch_mainReset) | simp only [kept_mk] | with_reducible refine kept_q ?_ | split

theorem latch_thermalRequest (a0 : State) (h0 : Kept c a0) : Kept c (thermalRequest a0) := by
  delta thermalRequest
  repeat' first | (intro v; refine kept_in c v ?_ ?_ <;> [subst v; (clear_value v; intro _)]) | (intro v; subst v) | lift_lets | with_reducible assumption | with_reducible (apply latch_thermalNote) | simp only [kept_mk] | with_reducible refine kept_q ?_ | split

theorem latch_thermalSample (a0 : ℤ) (a1 : State) (h0 : Kept c a1) : Kept c (thermalSample a0 a1) := by
  delta thermalSample
  repeat' first | (intro v; refine kept_in c v ?_ ?_ <;> [subst v; (clear_value v; intro _)]) | (intro v; subst v) | lift_lets | with_reducible assumption | with_reducible (apply latch_thermalEnd) | with_reducible (apply latch_thermalStop) | with_reducible (apply latch_thermalRequest) | simp only [kept_mk] | with_reducible refine kept_q ?_ | split

theorem latch_execThermalSample (a0 : BitVec 16) (a1 : State) (h0 : Kept c a1) : (∀ t, execThermalSample a0 a1 = .next t → Kept c t) := by
  intro t h
  cases h
  repeat' first | lift_lets | with_reducible assumption | with_reducible (apply latch_onWarden) | with_reducible (apply latch_thermalSample)

theorem latch_execTime_followOne (a0 : Bool) (a1 : ℤ) (a2 : State) (h0 : Kept c a2) : Kept c (execTime.followOne a0 a1 a2) := by
  delta execTime.followOne
  repeat' first | (intro v; refine kept_in c v ?_ ?_ <;> [subst v; (clear_value v; intro _)]) | (intro v; subst v) | lift_lets | with_reducible assumption | with_reducible (apply latch_setDom) | with_reducible (apply latch_discipline) | with_reducible (apply latch_sourceValid) | split

theorem latch_execTime_followBoth (a0 : ℤ) (a1 : ℤ) (a2 : State) (h0 : Kept c a2) : Kept c (execTime.followBoth a0 a1 a2) := by
  delta execTime.followBoth
  repeat' first | lift_lets | with_reducible assumption | with_reducible (apply latch_execTime_followOne)

theorem latch_execTime (a0 : FrHead) (a1 : ℤ) (a2 : Word) (a3 : State) (h0 : Kept c a3) : (∀ t, execTime a0 a1 a2 a3 = .next t → Kept c t) := by
  intro t h
  cases h
  repeat' first | lift_lets | with_reducible assumption | with_reducible (apply latch_bus) | with_reducible (apply latch_frameUp) | with_reducible (apply latch_execTime_followBoth) | simp only [kept_mk] | with_reducible refine kept_q ?_ | intro _ | split

theorem latch_execTimerCompare (a0 : Fin 8) (a1 : State) (h0 : Kept c a1) : (∀ t, execTimerCompare a0 a1 = .next t → Kept c t) := by
  intro t h
  cases h
  repeat' first | lift_lets | with_reducible assumption | with_reducible (apply latch_bus) | with_reducible (apply latch_advanceTo) | intro _

theorem latch_trackDrop (a0 : GridCmd) (a1 : State) (h0 : Kept c a1) : Kept c (trackDrop a0 a1).2 := by
  delta trackDrop
  repeat' first | (intro v; subst v) | lift_lets | with_reducible assumption | with_reducible (apply latch_gridIn) | with_reducible (apply latch_refuse) | simp only [kept_mk] | with_reducible refine kept_q ?_ | intro _ | split

theorem latch_execTrackDrop (a0 : CmdSrc) (a1 : State) (h0 : Kept c a1) : (∀ t, execTrackDrop a0 a1 = .next t → Kept c t) := by
  intro t h
  cases h
  repeat' first | lift_lets | with_reducible assumption | with_reducible (apply latch_gridBus) | with_reducible (apply latch_gridCmd) | with_reducible (apply latch_trackDrop) | intro _

theorem latch_trackLoad (a0 : Bytes) (a1 : GridCmd) (a2 : State) (h0 : Kept c a2) : Kept c (trackLoad a0 a1 a2).2 := by
  delta trackLoad
  repeat' first | (intro v; subst v) | lift_lets | with_reducible assumption | with_reducible (apply latch_gridIn) | with_reducible (apply latch_refuse) | simp only [kept_mk] | with_reducible refine kept_q ?_ | intro _ | split

theorem latch_execTrackLoad (a0 : CmdSrc) (a1 : Bytes) (a2 : State) (h0 : Kept c a2) : (∀ t, execTrackLoad a0 a1 a2 = .next t → Kept c t) := by
  intro t h
  cases h
  repeat' first | lift_lets | with_reducible assumption | with_reducible (apply latch_gridBus) | with_reducible (apply latch_gridCmd) | with_reducible (apply latch_trackLoad) | intro _

theorem latch_execTwinExchangeTimeout (a0 : Bool) (a1 : State) (h0 : Kept c a1) : (∀ t, execTwinExchangeTimeout a0 a1 = .next t → Kept c t) := by
  intro t h
  cases h
  repeat' first | lift_lets | with_reducible assumption | with_reducible (apply latch_bus) | with_reducible (apply latch_advanceClk) | with_reducible (apply latch_loseSources) | dsimp only | intro _ | split

theorem latch_txDirect (a0 : InFrame) (a1 : ℕ) (a2 : ℕ) (a3 : State) (h0 : Kept c a3) : Kept c (txDirect a0 a1 a2 a3).2 := by
  delta txDirect
  repeat' first | lift_lets | with_reducible assumption | with_reducible (apply latch_bumpPort) | with_reducible (apply latch_offerGo) | split

theorem latch_txOffer (a0 : ℕ) (a1 : CmdEntry) (a2 : Bytes) (a3 : State) (h0 : Kept c a3) : Kept c (txOffer a0 a1 a2 a3).2 := by
  delta txOffer
  repeat' first | (intro v; subst v) | lift_lets | with_reducible assumption | with_reducible (apply latch_bumpPort) | with_reducible (apply latch_ingress) | with_reducible (apply latch_countRx) | with_reducible (apply latch_txDirect) | split

theorem latch_execTxFrame (a0 : Fin 16) (a1 : Bytes) (a2 : State) (h0 : Kept c a2) : (∀ t, execTxFrame a0 a1 a2 = .next t → Kept c t) := by
  intro t h
  cases h
  repeat' first | lift_lets | with_reducible assumption | with_reducible (apply latch_bus) | with_reducible (apply latch_txOffer) | with_reducible (apply latch_finishEntry) | dsimp only | intro _ | split

theorem latch_execTxtsRead (a0 : State) (h0 : Kept c a0) : (∀ t, execTxtsRead a0 = .next t → Kept c t) := by
  intro t h
  cases h
  repeat' first | lift_lets | with_reducible assumption | with_reducible (apply latch_bus) | with_reducible (apply latch_txtsRead)

theorem latch_uartRx (a0 : ℕ) (a1 : BitVec 8) (a2 : Bool) (a3 : Bool) (a4 : State) (h0 : Kept c a4) : Kept c (uartRx a0 a1 a2 a3 a4) := by
  delta uartRx
  repeat' first | (intro v; subst v) | lift_lets | with_reducible assumption | with_reducible (apply latch_raise) | with_reducible (apply latch_setUart) | split

theorem latch_execUartRxByte (a0 : Fin 2) (a1 : BitVec 8) (a2 : Bool) (a3 : Bool) (a4 : State) (h0 : Kept c a4) : (∀ t, execUartRxByte a0 a1 a2 a3 a4 = .next t → Kept c t) := by
  intro t h
  cases h
  repeat' first | lift_lets | with_reducible assumption | with_reducible (apply latch_bus) | with_reducible (apply latch_uartRx)

theorem latch_execUartRxRead (a0 : Fin 2) (a1 : State) (h0 : Kept c a1) : (∀ t, execUartRxRead a0 a1 = .next t → Kept c t) := by
  intro t h
  cases h
  repeat' first | lift_lets | with_reducible assumption | with_reducible (apply latch_bus) | with_reducible (apply latch_uartRxRead)

theorem latch_execUartTx (a0 : Fin 2) (a1 : BitVec 8) (a2 : State) (h0 : Kept c a2) : (∀ t, execUartTx a0 a1 a2 = .next t → Kept c t) := by
  intro t h
  cases h
  repeat' first | lift_lets | with_reducible assumption | with_reducible (apply latch_bus) | with_reducible (apply latch_uartTx)

theorem latch_execUnwrap (a0 : Access) (a1 : Fin 128) (a2 : Fin 128) (a3 : Bool) (a4 : State) (h0 : Kept c a4) : (∀ t, execUnwrap a0 a1 a2 a3 a4 = .next t → Kept c t) := by
  intro t h
  cases h
  repeat' first | lift_lets | with_reducible assumption | with_reducible (apply latch_bus) | with_reducible (apply latch_geodeRun)

theorem latch_supplyChange (a0 : Bool) (a1 : State) (h0 : Kept c a1) : Kept c (supplyChange a0 a1) := by
  delta supplyChange
  repeat' first | (intro v; refine kept_in c v ?_ ?_ <;> [subst v; (clear_value v; intro _)]) | (intro v; subst v) | lift_lets | with_reducible assumption | with_reducible (apply latch_raise) | with_reducible (apply latch_record) | simp only [kept_mk] | with_reducible refine kept_q ?_

theorem latch_mainLost (a0 : State) (h0 : Kept c a0) : Kept c (mainLost a0) := by
  delta mainLost
  repeat' first | (intro v; subst v) | lift_lets | with_reducible assumption | with_reducible (apply latch_supplyChange) | with_reducible (apply latch_shedLoad) | simp only [kept_mk] | with_reducible refine kept_q ?_ | split

theorem latch_inputs (a0 : ℕ) (a1 : ℕ) (a2 : State) (h0 : Kept c a2) : Kept c (inputs a0 a1 a2) := by
  delta inputs
  repeat' first | (intro v; subst v) | lift_lets | with_reducible assumption | simp only [kept_mk] | with_reducible refine kept_q ?_

theorem latch_execVinMainLost (a0 : ℕ) (a1 : ℕ) (a2 : State) (h0 : Kept c a2) : (∀ t, execVinMainLost a0 a1 a2 = .next t → Kept c t) := by
  intro t h
  cases h
  repeat' first | lift_lets | with_reducible assumption | with_reducible (apply latch_onAon) | with_reducible (apply latch_mainLost) | with_reducible (apply latch_inputs) | with_reducible (apply latch_losePower) | intro _ | split

theorem latch_mainReturned (a0 : State) (h0 : Kept c a0) : Kept c (mainReturned a0) := by
  delta mainReturned
  repeat' first | (intro v; refine kept_in c v ?_ ?_ <;> [subst v; (clear_value v; intro _)]) | lift_lets | with_reducible assumption | with_reducible (apply latch_endOnRes) | with_reducible (apply latch_supplyChange) | with_reducible (apply latch_driveOutputs) | with_reducible (apply latch_restoreLoad) | split

theorem latch_execVinMainReturn (a0 : ℕ) (a1 : State) (h0 : Kept c a1) : (∀ t, execVinMainReturn a0 a1 = .next t → Kept c t) := by
  intro t h
  cases h
  repeat' first | lift_lets | with_reducible assumption | with_reducible (apply latch_onAon) | with_reducible (apply latch_mainReturned) | with_reducible (apply latch_inputs) | intro _ | split

theorem latch_execVinResFallSwitch (a0 : ℕ) (a1 : ℕ) (a2 : State) (h0 : Kept c a2) : (∀ t, execVinResFallSwitch a0 a1 a2 = .next t → Kept c t) := by
  intro t h
  cases h
  repeat' first | lift_lets | with_reducible assumption | with_reducible (apply latch_onAon) | with_reducible (apply latch_supplyChange) | with_reducible (apply latch_inputs) | with_reducible (apply latch_losePower) | intro _ | split

theorem latch_sendNotice (a0 : State) (h0 : Kept c a0) : Kept c (sendNotice a0) := by
  delta sendNotice
  repeat' first | lift_lets | with_reducible assumption | with_reducible (apply latch_sendBody) | split

theorem latch_slotBreak (a0 : State) (h0 : Kept c a0) : Kept c (slotBreak a0) := by
  delta slotBreak
  repeat' first | (intro v; subst v) | lift_lets | with_reducible assumption | with_reducible (apply latch_cutChain) | with_reducible (apply latch_breakChain) | simp only [kept_mk] | with_reducible refine kept_q ?_ | split

theorem latch_latchQuench (a0 : QCause) (a1 : ℕ) (a2 : State) (h0 : Kept c (a2)) : Kept c (latchQuench a0 a1 a2) := by
  unfold latchQuench
  repeat' first
    | with_reducible assumption
    | with_reducible (apply latch_driveOutputs)
    | with_reducible (apply latch_slotBreak)
    | with_reducible (apply latch_sendQuenchFrames)
    | with_reducible (apply latch_sendNotice)
    | with_reducible (apply latch_record)
    | with_reducible (apply latch_raise)
    | with_reducible (apply latch_bumpQuench)
    | with_reducible (apply latch_toMode)
    | with_reducible (apply latch_finishRequest)
    | simp only [kept_mk, keptQ_mk]
    | exact keptV_set (fun _ => rfl) (kept_v h0)
    | lift_lets
    | intro _
    | split

theorem latch_execVotedDecision (a0 : State) (h0 : Kept c a0) : (∀ t, execVotedDecision a0 = .next t → Kept c t) := by
  intro t h
  cases h
  repeat' first | lift_lets | with_reducible assumption | with_reducible (apply latch_onAon) | with_reducible (apply latch_latchQuench) | with_reducible (apply latch_critAction) | simp only [kept_mk] | with_reducible refine kept_q ?_ | intro _ | split

theorem latch_wakeEvent (a0 : WakeSrc) (a1 : State) (h0 : Kept c a1) : Kept c (wakeEvent a0 a1) := by
  delta wakeEvent
  repeat' first | (intro v; subst v) | lift_lets | with_reducible assumption | with_reducible (apply latch_wakeUp) | simp only [kept_mk] | with_reducible refine kept_q ?_ | split

theorem latch_execWakeGpio (a0 : Fin 4) (a1 : State) (h0 : Kept c a1) : (∀ t, execWakeGpio a0 a1 = .next t → Kept c t) := by
  intro t h
  cases h
  repeat' first | lift_lets | with_reducible assumption | with_reducible (apply latch_onWarden) | with_reducible (apply latch_wakeEvent) | intro _ | split

theorem latch_execWakeHoldClear (a0 : State) (h0 : Kept c a0) : (∀ t, execWakeHoldClear a0 = .next t → Kept c t) := by
  intro t h
  cases h
  repeat' first | lift_lets | with_reducible assumption | with_reducible (apply latch_bus) | with_reducible (apply latch_endHold) | with_reducible (apply latch_advanceClk) | intro _ | split

theorem latch_execWakeMain (a0 : State) (h0 : Kept c a0) : (∀ t, execWakeMain a0 = .next t → Kept c t) := by
  intro t h
  cases h
  repeat' first | lift_lets | with_reducible assumption | with_reducible (apply latch_onWarden) | with_reducible (apply latch_wakeEvent) | intro _ | split

theorem latch_execWakeSolar (a0 : State) (h0 : Kept c a0) : (∀ t, execWakeSolar a0 = .next t → Kept c t) := by
  intro t h
  cases h
  repeat' first | lift_lets | with_reducible assumption | with_reducible (apply latch_onWarden) | with_reducible (apply latch_wakeEvent) | with_reducible (apply latch_advanceClk) | intro _ | split

theorem latch_execWardenPulseEnd (a0 : State) (h0 : Kept c a0) : (∀ t, execWardenPulseEnd a0 = .next t → Kept c t) := by
  intro t h
  cases h
  repeat' first | lift_lets | with_reducible assumption | with_reducible (apply latch_onAon) | with_reducible (apply latch_advanceClk) | with_reducible (apply latch_driveOutputs) | simp only [kept_mk, keptQ_mk] | with_reducible refine kept_v ?_ | intro _ | split

theorem latch_execWardenStart (a0 : State) (h0 : Kept c a0) : (∀ t, execWardenStart a0 = .next t → Kept c t) := by
  intro t h
  cases h
  repeat' first | lift_lets | with_reducible assumption | with_reducible (apply latch_onAon) | simp only [kept_mk] | with_reducible refine kept_q ?_ | intro _

theorem latch_execWatchdog (a0 : State) (h0 : Kept c a0) : (∀ t, execWatchdog a0 = .next t → Kept c t) := by
  intro t h
  cases h
  repeat' first | lift_lets | with_reducible assumption | with_reducible (apply latch_bus) | with_reducible (apply latch_mainReset)

theorem latch_execWrap (a0 : Access) (a1 : Fin 128) (a2 : Fin 128) (a3 : Bool) (a4 : State) (h0 : Kept c a4) : (∀ t, execWrap a0 a1 a2 a3 a4 = .next t → Kept c t) := by
  intro t h
  cases h
  repeat' first | lift_lets | with_reducible assumption | with_reducible (apply latch_bus) | with_reducible (apply latch_geodeRun)

theorem latch_execWriteKey (a0 : Access) (a1 : Fin 128) (a2 : Bool) (a3 : State) (h0 : Kept c a3) : (∀ t, execWriteKey a0 a1 a2 a3 = .next t → Kept c t) := by
  intro t h
  cases h
  repeat' first | lift_lets | with_reducible assumption | with_reducible (apply latch_bus) | with_reducible (apply latch_geodeRun)

theorem latch_zoneAdd (a0 : GridCmd) (a1 : State) (h0 : Kept c a1) : Kept c (zoneAdd a0 a1).2 := by
  delta zoneAdd
  repeat' first | (intro v; subst v) | lift_lets | with_reducible assumption | with_reducible (apply latch_gridIn) | with_reducible (apply latch_refuse) | with_reducible (refine latch_addZone _ _ ?_ _ ‹_›) | with_reducible (apply latch_zoneTableFull) | dsimp only | intro _ | split

theorem latch_execZoneAdd (a0 : CmdSrc) (a1 : State) (h0 : Kept c a1) : (∀ t, execZoneAdd a0 a1 = .next t → Kept c t) := by
  intro t h
  cases h
  repeat' first | lift_lets | with_reducible assumption | with_reducible (apply latch_gridBus) | with_reducible (apply latch_gridCmd) | with_reducible (apply latch_zoneAdd) | intro _

theorem latch_zoneDel (a0 : GridCmd) (a1 : State) (h0 : Kept c a1) : Kept c (zoneDel a0 a1).2 := by
  delta zoneDel
  repeat' first | lift_lets | with_reducible assumption | with_reducible (apply latch_gridIn) | with_reducible (apply latch_refuse) | with_reducible (apply latch_deleteWritten) | simp only [kept_mk] | with_reducible refine kept_q ?_ | intro _ | split

theorem latch_execZoneDel (a0 : CmdSrc) (a1 : State) (h0 : Kept c a1) : (∀ t, execZoneDel a0 a1 = .next t → Kept c t) := by
  intro t h
  cases h
  repeat' first | lift_lets | with_reducible assumption | with_reducible (apply latch_gridBus) | with_reducible (apply latch_gridCmd) | with_reducible (apply latch_zoneDel) | intro _

theorem latch_setDeficit (a0 : ℕ) (a1 : ℕ) (a2 : ℕ) (a3 : State) (h0 : Kept c a3) : Kept c (setDeficit a0 a1 a2 a3) := by
  delta setDeficit
  repeat' first | (intro v; subst v) | lift_lets | with_reducible assumption | simp only [kept_mk] | with_reducible refine kept_q ?_

theorem latch_nextGroup (a0 : ℕ) (a1 : State) (h0 : Kept c a1) : Kept c (nextGroup a0 a1) := by
  delta nextGroup
  repeat' first | (intro v; subst v) | lift_lets | with_reducible assumption | with_reducible (apply latch_setDeficit) | simp only [kept_mk] | with_reducible refine kept_q ?_

theorem latch_tapSelect (a0 : TapInstr) (a1 : State) (h0 : Kept c a1) : Kept c (tapSelect a0 a1) := by
  delta tapSelect
  repeat' first | (intro v; subst v) | lift_lets | with_reducible assumption | simp only [kept_mk] | with_reducible refine kept_q ?_

theorem latch_tapUpdate (a0 : List (OutPin × PinLevel)) (a1 : State) (h0 : Kept c a1) : Kept c (tapUpdate a0 a1) := by
  delta tapUpdate
  repeat' first | (intro v; subst v) | lift_lets | with_reducible assumption | simp only [kept_mk] | with_reducible refine kept_q ?_ | split
/-- A command that may release the latch: RELEASE_LATCH of the host, or its whole-word write of OP = RELEASE to QUENCH_CMD (R368). -/
def Releases : Instr → Prop
  | .releaseLatch who _ => who = .host
  | .registerWrite who off w v _ => who.master = .host ∧ off.toNat = 0x09000C ∧ w = .word ∧ fld v 31 16 = 0x9610 ∧ fld v 15 12 = 2
  | _ => False

/-- Every command keeps a claim about the latch and the queue that a release would keep. -/
theorem exec_kept {i : Instr} {s t : State} (hr : Releases i → c.ok (Vector.replicate 3 false)) (h0 : Kept c s)
    (h : exec i s = .next t) : Kept c t := by
  cases i with
  | registerWrite who off width v against => exact latch_execRegisterWrite _ _ _ _ _ _ (fun h1 h2 h3 h4 h5 => hr ⟨h1, h2, h3, h4, h5⟩) h0 _ h
  | rcCounterRead _ _ _ _ => exact latch_execRcCounterRead _ _ _ _ _ h0 _ h
  | lowerWordRead _ _ _ => exact latch_execLowerWordRead _ _ _ _ h0 _ h
  | aonPowerUp _ _ => exact latch_execAonPowerUp _ _ _ h0 _ h
  | aonPowerLoss _ _ => exact latch_execAonPowerLoss _ _ _ h0 _ h
  | wardenStart => exact latch_execWardenStart _ h0 _ h
  | mainRailsUp => exact latch_execMainRailsUp _ h0 _ h
  | pllLocked _ => exact latch_execPllLocked _ _ h0 _ h
  | mainDieResetRelease _ => exact latch_execMainDieResetRelease _ _ h0 _ h
  | ref10Return => exact latch_execRef10Return _ h0 _ h
  | ref10Lost => exact latch_execRef10Lost _ h0 _ h
  | aonClockChangeover => exact latch_execAonClockChangeover _ h0 _ h
  | vinMainLost _ _ => exact latch_execVinMainLost _ _ _ h0 _ h
  | vinMainReturn _ => exact latch_execVinMainReturn _ _ h0 _ h
  | vinResFallSwitch _ _ => exact latch_execVinResFallSwitch _ _ _ h0 _ h
  | powerSenseSample _ _ => exact latch_execPowerSenseSample _ _ _ h0 _ h
  | battResLow => exact latch_execBattResLow _ h0 _ h
  | battResCrit => exact latch_execBattResCrit _ h0 _ h
  | battLowClear => exact latch_execBattLowClear _ h0 _ h
  | resCritClear => exact latch_execResCritClear _ h0 _ h
  | batteryAnnealLimit => exact latch_execBatteryAnnealLimit _ h0 _ h
  | thermalSample _ => exact latch_execThermalSample _ _ h0 _ h
  | mainBrownout => exact latch_execMainBrownout _ h0 _ h
  | perst => exact latch_execPerst _ h0 _ h
  | watchdog => exact latch_execWatchdog _ h0 _ h
  | resetCtrlMain _ => exact latch_execResetCtrlMain _ _ h0 _ h
  | reqSurvey _ => exact latch_execReqSurvey _ _ h0 _ h
  | reqField _ => exact latch_execReqField _ _ h0 _ h
  | reqAnneal _ => exact latch_execReqAnneal _ _ h0 _ h
  | reqDormant _ => exact latch_execReqDormant _ _ h0 _ h
  | reqMaintenance _ => exact latch_execReqMaintenance _ _ h0 _ h
  | dormantEntryDone => exact latch_execDormantEntryDone _ h0 _ h
  | aonSecond => exact latch_execAonSecond _ h0 _ h
  | wakeMain => exact latch_execWakeMain _ h0 _ h
  | wakeSolar => exact latch_execWakeSolar _ h0 _ h
  | wakeGpio _ => exact latch_execWakeGpio _ _ h0 _ h
  | wakeHoldClear => exact latch_execWakeHoldClear _ h0 _ h
  | correctionAgeLimit => exact latch_execCorrectionAgeLimit _ h0 _ h
  | ident => exact latch_execIdent _ h0 _ h
  | readSys => exact latch_execReadSys _ h0 _ h
  | modeReq => exact latch_execModeReq _ h0 _ h
  | stopState => exact latch_execStopState _ h0 _ h
  | form _ _ => exact latch_execForm _ _ _ h0 _ h
  | checkOnly _ _ => exact latch_execCheckOnly _ _ _ h0 _ h
  | checkAndStore _ _ => exact latch_execCheckAndStore _ _ _ h0 _ h
  | formAndStore _ _ => exact latch_execFormAndStore _ _ _ h0 _ h
  | headerRead _ => exact latch_execHeaderRead _ _ h0 _ h
  | gatherRead _ => exact latch_execGatherRead _ _ h0 _ h
  | sourceReadError => exact latch_execSourceReadError _ h0 _ h
  | signatureCheckDone _ => exact latch_execSignatureCheckDone _ _ h0 _ h
  | semanticCheckDone => exact latch_execSemanticCheckDone _ h0 _ h
  | applicationDone => exact latch_execApplicationDone _ h0 _ h
  | storeWriteDone _ => exact latch_execStoreWriteDone _ _ h0 _ h
  | makeActive _ => exact latch_execMakeActive _ _ h0 _ h
  | makeFallback _ => exact latch_execMakeFallback _ _ h0 _ h
  | invalidateSlot _ => exact latch_execInvalidateSlot _ _ h0 _ h
  | gatherTakesEffect _ => exact latch_execGatherTakesEffect _ _ h0 _ h
  | shutdownComplete => exact latch_execShutdownComplete _ h0 _ h
  | profileTick => exact latch_execProfileTick _ h0 _ h
  | dispatcherTick => exact latch_execDispatcherTick _ h0 _ h
  | selWrite _ => exact latch_execSelWrite _ _ h0 _ h
  | step _ => exact latch_execStep _ _ h0 _ h
  | rateWrite _ _ => exact latch_execRateWrite _ _ _ h0 _ h
  | corrWrite _ _ => exact latch_execCorrWrite _ _ _ h0 _ h
  | sourceValid _ _ => exact latch_execSourceValid _ _ _ h0 _ h
  | sourceLost _ _ => exact latch_execSourceLost _ _ _ h0 _ h
  | softTimeout _ => exact latch_execSoftTimeout _ _ h0 _ h
  | twinExchangeTimeout _ => exact latch_execTwinExchangeTimeout _ _ h0 _ h
  | compareArm _ _ => exact latch_execCompareArm _ _ _ h0 _ h
  | compareFire _ => exact latch_execCompareFire _ _ h0 _ h
  | ppsOutEdge => exact latch_execPpsOutEdge _ h0 _ h
  | ppsOutFall => exact latch_execPpsOutFall _ h0 _ h
  | captureEdge _ _ => exact latch_execCaptureEdge _ _ _ h0 _ h
  | captureRead => exact latch_execCaptureRead _ h0 _ h
  | txtsRead => exact latch_execTxtsRead _ h0 _ h
  | measurementEpoch _ => exact latch_execMeasurementEpoch _ _ h0 _ h
  | epochWindowWritten => exact latch_execEpochWindowWritten _ h0 _ h
  | gnssAllocate _ => exact latch_execGnssAllocate _ _ h0 _ h
  | burstWindow => exact latch_execBurstWindow _ h0 _ h
  | antBiasSample _ _ => exact latch_execAntBiasSample _ _ _ h0 _ h
  | antBiasRetry _ => exact latch_execAntBiasRetry _ _ h0 _ h
  | notchSpectrum _ _ _ _ => exact latch_execNotchSpectrum _ _ _ _ _ h0 _ h
  | notchRelease _ => exact latch_execNotchRelease _ _ h0 _ h
  | jamSet _ => exact latch_execJamSet _ _ h0 _ h
  | jamClear _ => exact latch_execJamClear _ _ h0 _ h
  | lockLost _ => exact latch_execLockLost _ _ h0 _ h
  | codeLockRegained _ => exact latch_execCodeLockRegained _ _ h0 _ h
  | coastTimeout _ => exact latch_execCoastTimeout _ _ h0 _ h
  | spoofAck => exact latch_execSpoofAck _ h0 _ h
  | coldStart => exact latch_execColdStart _ h0 _ h
  | exclAdd _ _ => exact latch_execExclAdd _ _ _ h0 _ h
  | exclRemove _ _ => exact latch_execExclRemove _ _ _ h0 _ h
  | exclClear => exact latch_execExclClear _ h0 _ h
  | surveyStart _ => exact latch_execSurveyStart _ _ h0 _ h
  | confirm _ => exact latch_execConfirm _ _ h0 _ h
  | enter _ => exact latch_execEnter _ _ h0 _ h
  | clear _ => exact latch_execClear _ _ h0 _ h
  | confirmationDone => exact latch_execConfirmationDone _ h0 _ h
  | surveyDone => exact latch_execSurveyDone _ h0 _ h
  | refMoved => exact latch_execRefMoved _ h0 _ h
  | bundleComplete => exact latch_execBundleComplete _ h0 _ h
  | msmMessage => exact latch_execMsmMessage _ h0 _ h
  | machineEpochIncomplete _ => exact latch_execMachineEpochIncomplete _ _ h0 _ h
  | solutionOut => exact latch_execSolutionOut _ h0 _ h
  | staleMarker _ => exact latch_execStaleMarker _ _ h0 _ h
  | resetFilter _ => exact latch_execResetFilter _ _ h0 _ h
  | suspend _ => exact latch_execSuspend _ _ h0 _ h
  | filterResume _ => exact latch_execFilterResume _ _ h0 _ h
  | lodeRead _ _ _ => exact latch_execLodeRead _ _ _ _ h0 _ h
  | lodeWrite _ _ => exact latch_execLodeWrite _ _ _ h0 _ h
  | lodeDelete _ _ _ => exact latch_execLodeDelete _ _ _ _ h0 _ h
  | readAt _ _ _ => exact latch_execReadAt _ _ _ _ h0 _ h
  | learnApply _ _ => exact latch_execLearnApply _ _ _ h0 _ h
  | sweepVisit _ _ => exact latch_execSweepVisit _ _ _ h0 _ h
  | flapExpire _ _ => exact latch_execFlapExpire _ _ _ h0 _ h
  | lodeBucketCrcError _ _ => exact latch_execLodeBucketCrcError _ _ _ h0 _ h
  | restoreDone _ => exact latch_execRestoreDone _ _ h0 _ h
  | trackLoad _ _ => exact latch_execTrackLoad _ _ _ h0 _ h
  | trackDrop _ => exact latch_execTrackDrop _ _ h0 _ h
  | allot _ => exact latch_execAllot _ _ h0 _ h
  | extend => exact latch_execExtend _ h0 _ h
  | release _ => exact latch_execRelease _ _ h0 _ h
  | releaseMach _ => exact latch_execReleaseMach _ _ h0 _ h
  | zoneAdd _ => exact latch_execZoneAdd _ _ h0 _ h
  | zoneDel _ => exact latch_execZoneDel _ _ h0 _ h
  | resume _ => exact latch_execResume _ _ h0 _ h
  | originSet _ => exact latch_execOriginSet _ _ h0 _ h
  | originClear _ => exact latch_execOriginClear _ _ h0 _ h
  | lapse _ => exact latch_execLapse _ _ h0 _ h
  | resvRefresh => exact latch_execResvRefresh _ h0 _ h
  | allotmentEnd _ => exact latch_execAllotmentEnd _ _ h0 _ h
  | occColdEnd => exact latch_execOccColdEnd _ h0 _ h
  | engage _ => exact latch_execEngage _ _ h0 _ h
  | disengage _ => exact latch_execDisengage _ _ h0 _ h
  | sched _ => exact latch_execSched _ _ h0 _ h
  | schedClear _ => exact latch_execSchedClear _ _ h0 _ h
  | limits _ => exact latch_execLimits _ _ h0 _ h
  | annealMach _ => exact latch_execAnnealMach _ _ h0 _ h
  | resumeMach _ => exact latch_execResumeMach _ _ h0 _ h
  | odometerReport _ _ => exact latch_execOdometerReport _ _ _ h0 _ h
  | gearLost _ => exact latch_execGearLost _ _ h0 _ h
  | spmeanRefresh => exact latch_execSpmeanRefresh _ h0 _ h
  | radioSlot => exact latch_execRadioSlot _ h0 _ h
  | beaconTx _ => exact latch_execBeaconTx _ _ h0 _ h
  | gangTx _ => exact latch_execGangTx _ _ h0 _ h
  | corrTx _ => exact latch_execCorrTx _ _ h0 _ h
  | downTx _ => exact latch_execDownTx _ _ h0 _ h
  | quenchRepeatTx _ => exact latch_execQuenchRepeatTx _ _ h0 _ h
  | machineQuenchTx _ => exact latch_execMachineQuenchTx _ _ h0 _ h
  | annealTx _ => exact latch_execAnnealTx _ _ h0 _ h
  | stopReq _ => exact latch_execStopReq _ _ h0 _ h
  | data _ => exact latch_execData _ _ h0 _ h
  | ack _ => exact latch_execAck _ _ h0 _ h
  | poll _ => exact latch_execPoll _ _ h0 _ h
  | syncReq _ => exact latch_execSyncReq _ _ h0 _ h
  | gafferBeaconRx _ => exact latch_execGafferBeaconRx _ _ h0 _ h
  | parentBeaconRx _ => exact latch_execParentBeaconRx _ _ h0 _ h
  | parentQuenchRx _ => exact latch_execParentQuenchRx _ _ h0 _ h
  | peerQuenchRx _ => exact latch_execPeerQuenchRx _ _ h0 _ h
  | pendantHoldExpire => exact latch_execPendantHoldExpire _ h0 _ h
  | reasmTimeout => exact latch_execReasmTimeout _ h0 _ h
  | silentGaffer => exact latch_execSilentGaffer _ h0 _ h
  | orphan => exact latch_execOrphan _ h0 _ h
  | ledgerBucket => exact latch_execLedgerBucket _ h0 _ h
  | nodeAdd _ _ => exact latch_execNodeAdd _ _ _ h0 _ h
  | nodeRemove _ _ => exact latch_execNodeRemove _ _ _ h0 _ h
  | forceResync _ _ => exact latch_execForceResync _ _ _ h0 _ h
  | chainEnable _ _ => exact latch_execChainEnable _ _ _ h0 _ h
  | contactEdge _ _ => exact latch_execContactEdge _ _ _ h0 _ h
  | contactAccept _ => exact latch_execContactAccept _ _ h0 _ h
  | discrepant _ => exact latch_execDiscrepant _ _ h0 _ h
  | discrepantClear _ => exact latch_execDiscrepantClear _ _ h0 _ h
  | quench _ => exact latch_execQuench _ _ h0 _ h
  | hostSourceEnd => exact latch_execHostSourceEnd _ h0 _ h
  | wardenPulseEnd => exact latch_execWardenPulseEnd _ h0 _ h
  | votedDecision => exact latch_execVotedDecision _ h0 _ h
  | quenchFrameRepeat => exact latch_execQuenchFrameRepeat _ h0 _ h
  | releaseLatch who against => exact latch_execReleaseLatch _ _ _ hr h0 _ h
  | quenchMach _ => exact latch_execQuenchMach _ _ h0 _ h
  | machRelease _ _ _ => exact latch_execMachRelease _ _ _ _ h0 _ h
  | loneStop => exact latch_execLoneStop _ h0 _ h
  | reminder => exact latch_execReminder _ h0 _ h
  | annealLimit => exact latch_execAnnealLimit _ h0 _ h
  | permitOutOffDelay => exact latch_execPermitOutOffDelay _ h0 _ h
  | driverOvercurrent _ => exact latch_execDriverOvercurrent _ _ h0 _ h
  | openLoad _ => exact latch_execOpenLoad _ _ h0 _ h
  | frameIngress _ _ => exact latch_execFrameIngress _ _ _ h0 _ h
  | frameEgress _ => exact latch_execFrameEgress _ _ h0 _ h
  | launch _ => exact latch_execLaunch _ _ h0 _ h
  | linkUp _ _ => exact latch_execLinkUp _ _ _ h0 _ h
  | linkDown _ => exact latch_execLinkDown _ _ h0 _ h
  | portEnable _ _ => exact latch_execPortEnable _ _ _ h0 _ h
  | claimIFall => exact latch_execClaimIFall _ h0 _ h
  | claimIRise => exact latch_execClaimIRise _ h0 _ h
  | claimGuardExpire => exact latch_execClaimGuardExpire _ h0 _ h
  | claimConflict => exact latch_execClaimConflict _ h0 _ h
  | linkTrained => exact latch_execLinkTrained _ h0 _ h
  | linkBlockLockLost => exact latch_execLinkBlockLockLost _ h0 _ h
  | hello _ _ _ _ _ _ => exact latch_execHello _ _ _ _ _ _ _ h0 _ h
  | mirror _ _ => exact latch_execMirror _ _ _ h0 _ h
  | commit _ _ => exact latch_execCommit _ _ _ h0 _ h
  | time _ _ _ => exact latch_execTime _ _ _ _ h0 _ h
  | notice _ => exact latch_execNotice _ _ h0 _ h
  | nak _ => exact latch_execNak _ _ h0 _ h
  | snapshot _ _ _ _ => exact latch_execSnapshot _ _ _ _ _ h0 _ h
  | frauriFrameBad _ => exact latch_execFrauriFrameBad _ _ h0 _ h
  | mirrorStale => exact latch_execMirrorStale _ h0 _ h
  | yield _ _ _ => exact latch_execYield _ _ _ _ h0 _ h
  | resync _ => exact latch_execResync _ _ h0 _ h
  | errorDetected _ _ _ _ => exact latch_execErrorDetected _ _ _ _ _ h0 _ h
  | selfTestDone _ _ _ => exact latch_execSelfTestDone _ _ _ _ h0 _ h
  | culletPost => exact latch_execCulletPost _ h0 _ h
  | faultResume _ _ _ => exact latch_execFaultResume _ _ _ _ h0 _ h
  | faultInject _ _ _ => exact latch_execFaultInject _ _ _ _ h0 _ h
  | run _ _ => exact latch_execRun _ _ _ h0 _ h
  | descWrite _ => exact latch_execDescWrite _ _ h0 _ h
  | post _ => exact latch_execPost _ _ h0 _ h
  | cancel _ => exact latch_execCancel _ _ h0 _ h
  | delay _ _ _ => exact latch_execDelay _ _ _ _ h0 _ h
  | delayWake _ => exact latch_execDelayWake _ _ h0 _ h
  | take _ _ _ => exact latch_execTake _ _ _ _ h0 _ h
  | done _ _ _ => exact latch_execDone _ _ _ _ h0 _ h
  | dispatchYield _ _ _ => exact latch_execDispatchYield _ _ _ _ h0 _ h
  | bind _ _ => exact latch_execBind _ _ _ h0 _ h
  | boundInterrupt _ => exact latch_execBoundInterrupt _ _ h0 _ h
  | timerCompare _ => exact latch_execTimerCompare _ _ h0 _ h
  | h2cPush _ _ _ _ => exact latch_execH2cPush _ _ _ _ _ h0 _ h
  | h2cPop _ _ => exact latch_execH2cPop _ _ _ h0 _ h
  | c2hPush _ _ _ _ => exact latch_execC2hPush _ _ _ _ _ h0 _ h
  | c2hPop _ _ => exact latch_execC2hPop _ _ _ h0 _ h
  | mailboxSideReset _ _ _ => exact latch_execMailboxSideReset _ _ _ _ h0 _ h
  | lockAcquire _ _ _ => exact latch_execLockAcquire _ _ _ _ h0 _ h
  | lockFree _ _ _ => exact latch_execLockFree _ _ _ _ h0 _ h
  | hostReset _ => exact latch_execHostReset _ _ h0 _ h
  | cqEnable _ _ => exact latch_execCqEnable _ _ _ h0 _ h
  | tailWrite _ _ => exact latch_execTailWrite _ _ _ h0 _ h
  | entryFetch _ _ => exact latch_execEntryFetch _ _ _ h0 _ h
  | commandCommit _ => exact latch_execCommandCommit _ _ h0 _ h
  | nop _ => exact latch_execNop _ _ h0 _ h
  | fence _ => exact latch_execFence _ _ h0 _ h
  | txFrame _ _ => exact latch_execTxFrame _ _ _ h0 _ h
  | rxBuf _ => exact latch_execRxBuf _ _ h0 _ h
  | flush _ _ => exact latch_execFlush _ _ _ h0 _ h
  | eqEnable _ _ => exact latch_execEqEnable _ _ _ h0 _ h
  | headWrite _ _ => exact latch_execHeadWrite _ _ _ h0 _ h
  | eventPost _ => exact latch_execEventPost _ _ h0 _ h
  | coalesceTimeout _ => exact latch_execCoalesceTimeout _ _ h0 _ h
  | writeKey _ _ _ => exact latch_execWriteKey _ _ _ _ h0 _ h
  | erase _ _ _ => exact latch_execErase _ _ _ _ h0 _ h
  | derive _ _ _ _ _ => exact latch_execDerive _ _ _ _ _ _ h0 _ h
  | wrap _ _ _ _ => exact latch_execWrap _ _ _ _ _ h0 _ h
  | unwrap _ _ _ _ => exact latch_execUnwrap _ _ _ _ _ h0 _ h
  | pubkey _ _ _ => exact latch_execPubkey _ _ _ _ h0 _ h
  | addKeyHash _ _ => exact latch_execAddKeyHash _ _ _ h0 _ h
  | revokeHash _ _ => exact latch_execRevokeHash _ _ _ h0 _ h
  | raiseSecver _ _ => exact latch_execRaiseSecver _ _ _ h0 _ h
  | lcAdvance _ _ => exact latch_execLcAdvance _ _ _ h0 _ h
  | challengeRead _ => exact latch_execChallengeRead _ _ h0 _ h
  | openWorld _ => exact latch_execOpenWorld _ _ h0 _ h
  | closeWorld _ => exact latch_execCloseWorld _ _ h0 _ h
  | maskRenewal _ _ => exact latch_execMaskRenewal _ _ _ h0 _ h
  | pinLevelAccept _ _ _ => exact latch_execPinLevelAccept _ _ _ _ h0 _ h
  | stuck _ => exact latch_execStuck _ _ h0 _ h
  | rawTotalStored _ _ => exact latch_execRawTotalStored _ _ _ h0 _ h
  | supplyFail => exact latch_execSupplyFail _ h0 _ h
  | checkpointTick => exact latch_execCheckpointTick _ h0 _ h
  | checkpoint _ => exact latch_execCheckpoint _ _ h0 _ h
  | rebase _ _ _ _ => exact latch_execRebase _ _ _ _ _ h0 _ h
  | closeInterval _ _ _ => exact latch_execCloseInterval _ _ _ _ h0 _ h
  | intervalClose => exact latch_execIntervalClose _ h0 _ h
  | assaySnapshot _ _ => exact latch_execAssaySnapshot _ _ _ h0 _ h
  | irecSelect _ => exact latch_execIrecSelect _ _ h0 _ h
  | assayChannelEnable _ _ _ => exact latch_execAssayChannelEnable _ _ _ _ h0 _ h
  | eventRecord _ _ _ _ _ _ => exact latch_execEventRecord _ _ _ _ _ _ _ h0 _ h
  | recordStore _ => exact latch_execRecordStore _ _ h0 _ h
  | strataClear _ _ _ => exact latch_execStrataClear _ _ _ _ h0 _ h
  | sumSelect _ => exact latch_execSumSelect _ _ h0 _ h
  | uartTx _ _ => exact latch_execUartTx _ _ _ h0 _ h
  | uartRxByte _ _ _ _ => exact latch_execUartRxByte _ _ _ _ _ h0 _ h
  | uartRxRead _ => exact latch_execUartRxRead _ _ h0 _ h
  | smbusBlockRead _ _ => exact latch_execSmbusBlockRead _ _ _ h0 _ h
  | assayBFuncWrite _ => exact latch_execAssayBFuncWrite _ _ h0 _ h
  | acquisition _ => exact latch_execAcquisition _ _ h0 _ h
  | pcieLinkUp _ _ _ => exact latch_execPcieLinkUp _ _ _ _ h0 _ h
  | claimGlitch => exact latch_execClaimGlitch _ h0 _ h
  | idle _ => exact latch_execIdle _ _ h0 _ h
  | frauriAck _ => exact latch_execFrauriAck _ _ h0 _ h
  | linkEnWrite _ => exact latch_execLinkEnWrite _ _ h0 _ h
  | badOp => exact latch_execBadOp _ h0 _ h

end Sys2Proof.Machine
end

