-- ==== Sys2Proof/Tests/Slice0.lean ====
section
/-! SUPPORT. Slice0.lean: tests of one step each. The witnesses of an obligation carry its name, or the name of the part of it
that they meet; each expected result is worked out by hand from the rules of spec/. -/

namespace Sys2Proof.Machine

open Sys2Proof

namespace Tests

set_option Elab.async false

/-- A running part in a mode, with nothing formed. -/
def run (m : Mode) : State :=
  { aon := { wardenUp := true, mainRails := true, pllLocked := true, mainRun := true }, sys := { mode := m } }

/-- A command answers a next state that passes a check. -/
def ans (i : Instr) (s : State) (p : State → Bool) : Bool := match exec i s with | .next t => p t | _ => false

/-! ### Registers, power and reset -/

/-- The host's access. -/
def hostA : Access := { master := .host, mmode := false }

theorem witness_RegisterBitsFollowTheirCode :
    let r : RegRow := { base := 0, rw := 0xF, rwl := 0xF0, w1c := 0xF00, w1s := 0xF000 }
    r.rw &&& r.rwl = 0 ∧ r.rw &&& r.w1c = 0 ∧ r.rw &&& r.w1s = 0 ∧ r.rwl &&& r.w1c = 0 ∧ r.rwl &&& r.w1s = 0 ∧ r.w1c &&& r.w1s = 0 ∧
    writtenWord r true 0x0000FF00 0xFFFFF5FA = 0x0000FA0A ∧ writtenWord r false 0x00000F00 0x000085FA = 0x00008AFA := by decide

theorem witness_RegisterCommandsComplete :
    Running (run .survey) ∧ (0x000020#26).toNat / 0x10000 = 0 ∧ (regRow (0x000020#26).toNat).isSome ∧
    ans (.registerWrite hostA 0x000020 .word 0xFFFFFFFF 0) (run .survey) (fun t => regWord t 0x20 == 0x1F) ∧
    ans (.registerWrite hostA 0x00001C .word 3 2) { run .survey with regs := [(0x1C, 7)] } (fun t => regWord t 0x1C == 6) ∧
    ans (.registerWrite hostA 0x000020 .half 0xFFFF 0) (run .survey) (fun t => t == run .survey) ∧
    ans (.registerWrite hostA 0x000022 .word 0xFFFF 0) (run .survey) (fun t => t == run .survey) ∧
    ans (.registerWrite hostA 0x130000 .word 0xFFFF 0) (run .survey) (fun t => t == run .survey) ∧
    ans (.lowerWordRead hostA 0xEFFFFC .word) { run .survey with rdata := 5 } (fun t => t == run .survey) ∧
    cntSel (0x090074#26).toNat (run .survey) = some 0 ∧
    ans (.rcCounterRead hostA 0x090074 .word 0) (bumpQuench 0 (bumpQuench 0 (run .survey))) (fun t => t.rdata == 2 && t.counts == []) ∧
    ans (.rcCounterRead hostA 0x090074 .word 1) (bumpQuench 0 (bumpQuench 0 (run .survey))) (fun t => t.rdata == 1 && countOf t 0x090074 0 == 1) ∧
    ans (.lowerWordRead hostA 0x020008 .word) { run .survey with time := { raw := 2 ^ 32 + 5 } } (fun t => t.rdata == 5 && t.shadows == [(.host, 0x02000C, 1)]) ∧
    ans (.lowerWordRead hostA 0x02000C .word) { run .survey with shadows := [(.host, 0x02000C, 7)] } (fun t => t.rdata == 7 && t.shadows == []) ∧
    ans (.lowerWordRead hostA 0x000003 .byte) (run .survey) (fun t => t.rdata == 0x96) := by
  decide +kernel

/-- The part without power. -/
def dark : State := { aon := { powered := false } }

theorem witness_AonPowerUpAndLoss :
    dark.aon.powered = false ∧
    ans (.aonPowerUp 10500 0) dark (fun t => t.aon.powered && !t.aon.wardenUp && (qch t 0).latch && (qch t 2).latch && regBit t 0x18 0 && !t.aon.onRes) ∧
    ans (.aonPowerUp 10499 9000) dark (fun t => t.aon.powered && t.aon.onRes) ∧
    (run .field).aon.powered = true ∧
    ans (.aonPowerLoss 13801 8999) (run .field) (fun t => !t.aon.powered && t.regs == [] && !t.aon.mainRun && (qch t 1).latch) := by decide +kernel

/-- The main die before its release. -/
def held : State := { aon := { wardenUp := true, mainRails := true } }

theorem witness_PowerOnSequence :
    Warden held ∧ held.aon.hold ≠ .battCrit ∧ held.sys.mode ≠ .dormant ∧ held.aon.mainRails = true ∧ held.aon.pllLocked = false ∧
    Warden { held with aon := { held.aon with pllLocked := true } } ∧
    ans (.mainDieResetRelease true) { held with aon := { held.aon with pllLocked := true, waking := true } }
      (fun t => t.aon.mainRun && t.time.raw == 0 && t.sys.wakeHold && t.parison.loader == .reading && t.sys.mode == .forming) ∧
    ans (.mainDieResetRelease true) { held with aon := { held.aon with pllLocked := true }, regs := [(0x010014, 3)] }
      (fun t => t.aon.mainRun && t.parison.loader == .waitHost && t.sys.mode == .reset) := by decide +kernel

theorem witness_PowerPathFollowsTheInputs :
    (run .survey).aon.powered = true ∧
    ans (.vinMainLost 10499 9000) (run .survey) (fun t => t.aon.onRes && !t.aon.mainGood && t.sys.mode == .survey && t.quench == (run .survey).quench) ∧
    ans (.vinMainLost 10499 9000) (run .yielded) (fun t => t.aon.onRes && t.sys.shed) ∧
    ans (.vinMainLost 13801 8999) (run .survey) (fun t => !t.aon.powered) ∧
    (let s := { run .yielded with aon := { (run .yielded).aon with mainGood := false, onRes := true, battCrit := true, hold := .battCrit }, sys := { mode := .yielded, shed := true } }
     s.aon.mainGood = false ∧ ans (.vinMainReturn 10800) s (fun t => !t.aon.onRes && t.aon.mainGood && !t.aon.battCrit && !t.sys.shed && t.aon.hold == .none)) ∧
    (let s := { run .reserve with aon := { (run .reserve).aon with mainGood := false, onRes := true } }
     s.aon.onRes = true ∧ ans (.vinResFallSwitch 10500 8999) s (fun t => !t.aon.onRes && !t.aon.mainGood && t.aon.powered)) := by decide +kernel

/-- A running part with changes to its AON island. -/
def runA (m : Mode) (f : Aon → Aon) : State := { run m with aon := f (run m).aon }

theorem witness_BatteryThresholds :
    Warden (run .field) ∧
    ans (.powerSenseSample 1139999 1000000) (run .field) (fun t => t.aon.battMv == 11400 && t.aon.lowCount == 0) ∧
    ans (.powerSenseSample 1139900 1000000) (run .field) (fun t => t.aon.battMv == 11399 && t.aon.lowCount == 1 && t.aon.critCount == 0) ∧
    ans .battResLow { runA .reserve (fun a => { a with lowCount := 10, onRes := true }) with parison := { inStore := true } }
      (fun t => !t.aon.battLow && t.aon.dormantReq && t.aon.dormantWho == .warden && t.sys.mode == .reserve) ∧
    ans .battResLow (runA .survey (fun a => { a with lowCount := 10 })) (fun t => t.aon.battLow && !t.aon.dormantReq && regBit t 0x1C 3) ∧
    ans .battResCrit (runA .reserve (fun a => { a with critCount := 10, onRes := true }))
      (fun t => t.aon.battCrit && t.aon.hold == .battCrit && !t.aon.mainRun && !t.aon.mainRails && t.sys.mode == .reset && sourceOn t 2 && regBit t 0x18 7) ∧
    ans .battResCrit (setQch 0 (fun c => { c with latch := false }) (setQch 1 (fun c => { c with latch := false }) (setQch 2 (fun c => { c with latch := false })
      (runA .field (fun a => { a with critCount := 10, onRes := true })))))
      (fun t => t.aon.critDue && t.quench.deciding == some (.warden, 0) && t.sys.mode == .field && t.aon.mainRun) ∧
    ans .battLowClear (runA .field (fun a => { a with lowClear := 10, battLow := true })) (fun t => !t.aon.battLow) ∧
    ans .resCritClear (runA .field (fun a => { a with critClear := 10, battCrit := true })) (fun t => !t.aon.battCrit) ∧
    ans .batteryAnnealLimit { run .anneal with sys := { mode := .anneal, annealOnRes := true } } (fun t => t.aon.battAnneal && t.clk == 30 * 10 ^ 9 && sourceOn t 0) := by
  decide +kernel

theorem witness_ThermalThresholds :
    ans (.thermalSample 799) (runA .field (fun a => { a with thermal110 := true, hold := .thermal, thermArmed := false }))
      (fun t => !t.aon.thermal110 && t.aon.thermArmed && t.aon.hold == .none && t.aon.tj == 799) ∧
    ans (.thermalSample 840) (run .field) (fun t => !t.aon.thermArmed && t.sys.thermalReq && regBit t 0x1C 4) ∧
    ans (.thermalSample 880) (run .field) (fun t => t.aon.thermal110 && t.aon.hold == .thermal && !t.aon.mainRun && t.sys.mode == .reset && regBit t 0x18 5) ∧
    Running (run .field) ∧ (880#16).toInt = 880 := by decide +kernel

theorem witness_MainDieResetKeepsTheAonIsland :
    Running (run .field) ∧ (run .field).aon.mainRails = true ∧ regBit (run .field) 0x10 1 = true ∧
    ans .mainBrownout (run .field) (fun t => t.sys.mode == .reset && !t.aon.mainRails && regBit t 0x18 1 && (qch t 0).latch) ∧
    ans (.resetCtrlMain 0x96100001) { run .field with regs := [(0x010014, 2)] } (fun t => t.sys.mode == .reset && regBit t 0x18 2 && regWord t 0x010014 == 2) ∧
    ans .perst (run .field) (fun t => regBit t 0x18 3) ∧ ans .watchdog (run .field) (fun t => regBit t 0x18 4 && t.strata.queue.length == 2) := by decide +kernel

theorem witness_ReferenceLossAndSoftPerst :
    ans .ref10Lost (run .field) (fun t => t.sys.mode == .yielded && t.fault.lastCode == 1 && !t.twin.claimO) ∧
    regBit { run .field with regs := [(0x10, 0)] } 0x10 1 = false ∧
    ans .perst { run .field with regs := [(0x10, 0)], hostif := { busMaster := true } } (fun t => t.sys.mode == .field && !t.hostif.busMaster) := by decide +kernel

/-! ### Modes and the warden -/

/-- A running part whose FIELD conditions of R77 hold. -/
def ready (m : Mode) : State := { run m with rtk := { refState := .fixed }, time := { p := { valid := true } }, twin := { claimO := true } }

theorem witness_ModeRequests :
    fieldReady (ready .survey) = true ∧ fieldReady (run .survey) = false ∧
    ans (.reqSurvey .host) (run .maintenance) (fun t => t.sys.req.isSome) ∧ ans (.reqField .host) (ready .survey) (fun t => t.sys.req.isSome) ∧
    ans (.reqField .host) (run .survey) (fun t => t.sys.reqResult == .notReady) ∧
    ans (.reqAnneal .host) (run .holdover) (fun t => t.sys.req.isSome) ∧ ans (.reqMaintenance .host) (run .servitor) (fun t => t.sys.req.isSome) ∧
    ans (.reqField .host) (run .quenched) (fun t => t.sys.reqResult == .mode && t.sys.mode == .quenched) ∧
    ans (.reqAnneal .host) (runA .field (fun a => { a with dormantReq := true })) (fun t => t.sys.reqResult == .busy && t.sys.mode == .field) := by decide +kernel

theorem witness_DormantRequest :
    dormantMode .quenched = true ∧ noPermit (run .quenched) = true ∧
    ans (.reqDormant .host) (run .quenched) (fun t => t.sys.reqResult == .notStored) ∧
    ans (.reqDormant .host) { run .survey with parison := { inStore := true } } (fun t => t.sys.reqResult == .done && t.aon.dormantReq) ∧
    ans (.reqDormant .host) { run .survey with parison := { inStore := true, load := some { kind := .host, src := .host 0 } } } (fun t => t.sys.reqResult == .busy && !t.aon.dormantReq) ∧
    ans (.reqDormant .host) { run .survey with parison := { inStore := true, load := some { kind := .host, src := .host 0, action := 1 } } } (fun t => t.sys.reqResult == .done) := by
  decide +kernel

/-- The part in DORMANT, with every wake source enabled and the alarm at a second. -/
def asleep (alarm : Word) : State :=
  { aon := { wardenUp := true, seconds := 6, mainArmed := true, mainGood := true, solarRise := some 5 }, sys := { mode := .dormant }, regs := [(0x54, 0x7F), (0x58, alarm)] }

theorem witness_DormantAndWake :
    (let s := { runA .quenched (fun a => { a with dormantReq := true, mainArmed := true, mainGood := true }) with time := { raw := 7500000000 } }
     ans .dormantEntryDone s (fun t => t.sys.mode == .dormant && t.aon.seconds == 7 && !t.aon.mainRun && t.aon.secondAt == 500000000) ∧
     ans .dormantEntryDone { s with regs := [(0x54, 1), (0x58, 7)] } (fun t => t.sys.mode == .reset && t.aon.wakeSrc == .alarm && t.aon.waking) ∧
     regBit s 0x54 1 = true ∧ ans .wakeMain s (fun t => t.aon.wakePending == some .main && t.sys.mode == .quenched)) ∧
    ans .aonSecond (run .survey) (fun t => t.aon.seconds == 1 && t.clk == 10 ^ 9) ∧
    ans .aonSecond (asleep 8) (fun t => t.sys.mode == .dormant && t.aon.seconds == 7) ∧
    ans .aonSecond (asleep 7) (fun t => t.sys.mode == .reset && t.aon.wakeSrc == .alarm) ∧
    ans .wakeMain (asleep 8) (fun t => t.aon.wakeSrc == .main && t.aon.waking && regBit t 0x18 6) ∧
    ans .wakeSolar (asleep 8) (fun t => t.aon.wakeSrc == .solar && t.aon.wakeAt == 10 ^ 9 + 5) ∧ ans (.wakeGpio 3) (asleep 8) (fun t => t.aon.wakeSrc == .gpio 3) ∧
    ans .wakeHoldClear { runA .quenched (fun a => { a with waking := true, wakeAt := 5 }) with sys := { mode := .quenched, wakeHold := true } }
      (fun t => !t.sys.wakeHold && !t.aon.waking && t.clk == 40000005) := by decide +kernel

theorem witness_WardenLimits :
    timeValid (run .holdover) = false ∧
    ans .correctionAgeLimit { run .holdover with time := { ageLimit := 10, cleanAt := some 5 } } (fun t => t.sys.mode == .anneal && t.sys.cause == .ageLimit) ∧
    ans .correctionAgeLimit { run .holdover with time := { ageQuench := true } } (fun t => t.sys.mode == .holdover && t.aon.agePulse && wardenSource t) ∧
    regFld (run .anneal) 0x090050 7 0 ≠ 0 ∧ ans .annealLimit (run .anneal) (fun t => t.aon.annealPulse && t.clk == 120 * 10 ^ 9 && regBit t 0x090080 7) := by
  decide +kernel

/-- A running part with a request in mailbox 8. -/
def asked (m : Mode) (w : Word) : State := { run m with hostif := { mbs := vmod (Vector.replicate 9 {}) 8 (fun b => { b with h2c := { words := [w] } }) } }

theorem witness_WardenMailbox :
    wardenReq (asked .survey 0x01AB0000) = some (1, 0xAB, 0) ∧ wardenRoom (asked .survey 0x01AB0000) = true ∧
    ans .ident (asked .survey 0x01AB0000) (fun t => (mb t 8).c2h.words == [0x01AB0001, 0x00020001] && (mb t 8).h2c.words == []) ∧
    ans .readSys (asked .survey 0x02010000) (fun t => (mb t 8).c2h.words == [0x02010001, 0x96100010]) ∧
    ans .readSys (asked .survey 0x0201001A) (fun t => (mb t 8).c2h.words == [0x02010200]) ∧
    ans .modeReq (asked .survey 0x03070010) (fun t => (mb t 8).c2h.words == [0x03070200] && t.sys.req == none) ∧
    requestResult 10 (asked .survey 0x0307000A) = .none ∧
    ans .modeReq (asked .survey 0x0307000A) (fun t => t.sys.req == some { target := .maintenance, master := .host, mboxTag := some 7 } && (mb t 8).c2h.words == []) ∧
    ans .modeReq (asked .survey 0x03070005) (fun t => (mb t 8).c2h.words == [0x03070001, 3]) ∧
    ans .stopState (asked .survey 0x04FF0000) (fun t => (mb t 8).c2h.words == [0x04FF0001, 0]) ∧
    ans .badOp (asked .survey 0x05010000) (fun t => (mb t 8).c2h.words == [0x05010100]) := by decide +kernel

/-! ### The image loader -/

/-- A host load under way. -/
def loading (m : Mode) (l : Load) (st : LoaderState) : State := { run m with parison := { load := some l, loader := st } }

/-- A load from the QSPI. -/
def aLoad : Load := { kind := .host, src := .qspi 0, limit := 4096 }

theorem witness_LoaderActionsStart :
    Running (run .reset) ∧ (run .reset).parison.load = none ∧ regFld (run .reset) 0x010008 2 0 = 0 ∧ (1 : Fin 4) ≠ (run .reset).parison.active ∧
    ans (.form 0 0) (run .reset) (fun t => t.parison.loader == .reading && t.sys.mode == .forming) ∧
    ans (.checkOnly 1 0) (run .survey) (fun t => t.parison.loader == .reading && t.sys.mode == .survey) ∧
    ans (.checkAndStore 0 1) (run .survey) (fun t => (t.parison.load.map Load.action) == some 2) ∧
    ans (.formAndStore 0 1) (run .maintenance) (fun t => (t.parison.load.map Load.action) == some 3 && t.sys.mode == .maintenance) ∧
    ans (.form 2 3) (run .maintenance) (fun t => t.parison.err == .sourceEmpty) := by decide +kernel

/-- A header of 64 bytes that passes checks 1 to 5, but for its CRC. -/
def headBody : Bytes :=
  [0x54, 0x5A, 0x39, 0x36, 0, 3, 64, 0] ++ leBytes 4 320 ++ leBytes 2 1 ++ leBytes 2 0 ++ leBytes 4 0 ++ leBytes 4 0x96100010 ++ leBytes 12 0 ++ leBytes 24 0

/-- The header with its CRC. -/
def head1 : Bytes := headBody ++ leBytes 4 (crc32c headBody).toNat

/-- The fields of that header. -/
def hdr1 : ImageHeader := { imgLen := 320, gatherCount := 1 }

/-- A gather header of type TIME with 8 bytes of payload. -/
def gath1 : Bytes := leBytes 2 0x40 ++ leBytes 2 1 ++ leBytes 4 8 ++ leBytes 2 1 ++ leBytes 2 0 ++ leBytes 4 0

/-- A gather of 40 bytes whose header has been read. -/
def gat1 : Gather := { type := 0x40, payCrc := crc32c (List.replicate 40 0) }

theorem witness_LoaderReadsTheImage :
    headerErr 4096 head1 = .none ∧ headerErr 319 head1 = .length ∧
    ans (.headerRead head1) (loading .survey aLoad .reading) (fun t => (t.parison.load.bind Load.header) == some hdr1) ∧
    gatherErr hdr1 0 64 gath1 = .none ∧ gatherErr hdr1 0x40 64 gath1 = .gatherOrder ∧
    ans (.gatherRead gath1) (loading .survey { aLoad with header := some hdr1, offset := 64 } .reading)
      (fun t => ((t.parison.load.bind Load.head).map fun g => (g.1.type, g.2)) == some (0x40, 8)) ∧
    ans (.gatherRead (List.replicate 40 0)) (loading .survey { aLoad with header := some hdr1, offset := 64, head := some (gat1, 40) } .reading)
      (fun t => t.parison.loader == .checking && (t.parison.load.map Load.offset) == some 120) ∧
    ans .sourceReadError (loading .survey { aLoad with fails := 1 } .reading) (fun t => (t.parison.load.map Load.fails) == some 2) := by
  decide +kernel

theorem witness_LoaderFailureIsReported :
    headerErr 4096 (head1.set 4 9) = .headerCrc ∧
    ans (.headerRead (head1.set 4 9)) (loading .survey aLoad .reading) (fun t => t.parison.loader == .failed && t.parison.err == .headerCrc && regBit t 0x01003C 1) ∧
    ans .sourceReadError (loading .survey { aLoad with fails := 2 } .reading) (fun t => t.parison.err == .readFault && t.sys.mode == .survey) ∧
    ans .sourceReadError { loading .forming { aLoad with fails := 2, position := some 3 } .reading with parison := { load := some { aLoad with fails := 2, position := some 3 }, loader := .reading } }
      (fun t => t.parison.loader == .waitHost && t.sys.mode == .reset && t.parison.attempts == 1) := by decide +kernel

/-- A port record: every port off, with its first suitable mode and frames of 64 bytes. -/
def portRec (n : Nat) : Bytes := [BitVec.ofNat 8 (((List.range 16).find? (modeSuits n)).getD 0)] ++ leBytes 6 0 ++ leBytes 2 64 ++ leBytes 7 0

/-- A parser of one end node that marks layer 2. -/
def parser1 : Bytes := leBytes 2 1 ++ leBytes 14 0 ++ ([1, 0, 0, 0, 0, 0, 0, 0] ++ leBytes 4 1 ++ leBytes 4 0)

/-- The smallest image: the required gathers, with nothing enabled. -/
def smallImage : List Gather :=
  [(0x01, (List.range 16).flatMap portRec), (0x02, parser1), (0x03, parser1), (0x10, List.replicate 64 0xFF), (0x11, []),
   (0x20, (List.range 6).flatMap (fun j => leBytes 4 (100 + j)) ++ leBytes 8 0 ++
     (List.range 512).flatMap (fun k => [BitVec.ofNat 8 (k / 32), 0xFF] ++ leBytes 6 0))].map
    (fun x => { type := x.1, payload := x.2, payCrc := 0 })

/-- A load whose signature has been checked. -/
def signed (a : BitVec 2) (x : ImageHeader) (gs : List Gather) : Load := { aLoad with action := a, header := some x, gathers := gs, sigDone := true }

theorem witness_LoaderChecksAndApplies :
    ans (.signatureCheckDone []) { loading .survey { aLoad with header := some hdr1 } .checking with geode := { fuses := { life := .scrapped } } }
      (fun t => t.parison.err == .lifeCycle && t.parison.loader == .failed && t.sys.mode == .survey) := by decide +kernel

theorem witness_LoaderChecksAndApplies_semantic :
    missingType smallImage = none ∧ missingType (smallImage.drop 1) = some 1 ∧
    ans .semanticCheckDone (loading .survey (signed 1 hdr1 smallImage) .checking) (fun t => t.parison.loader == .done && t.parison.err == .none && regBit t 0x01003C 0) ∧
    ans .semanticCheckDone (loading .survey (signed 1 hdr1 (smallImage.drop 1)) .checking) (fun t => t.parison.err == .missing && t.parison.failType == 1) := by decide +kernel

set_option maxRecDepth 100000 in
theorem witness_LoaderChecksAndApplies_forming :
    ans .semanticCheckDone (loading .maintenance (signed 0 hdr1 smallImage) .checking) (fun t => t.parison.loader == .applying && t.parison.image == smallImage) := by decide +kernel

theorem witness_LoaderChecksAndApplies_reform :
    ans .semanticCheckDone (loading .maintenance (signed 0 { hdr1 with reformOnly := true } [{ type := 0x40, payload := [20, 10, 0, 1] ++ leBytes 4 100000 ++ leBytes 8 0 }]) .checking)
      (fun t => t.parison.loader == .applying && t.parison.waiting.length == 1 && t.parison.image == []) := by decide +kernel

theorem witness_FormingEndsInTheModeOfTheList :
    let s := { loading .forming (signed 0 hdr1 smallImage) .applying with sys := { mode := .forming } }
    bankMissing s = false ∧
    ans .applicationDone s (fun t => t.parison.loader == .done && t.sys.mode == .quenched && t.aon.formed) ∧
    ans .applicationDone { s with aon := { s.aon with onRes := true } } (fun t => t.sys.mode == .reserve) ∧
    ans .applicationDone { s with twin := { present := true, claimI := true } } (fun t => t.sys.mode == .servitor && !t.twin.claimO) ∧
    ans .applicationDone { s with quench := { chs := Vector.replicate 3 { latch := false } } } (fun t => t.sys.mode == .survey && t.twin.claimO) := by
  decide +kernel

theorem witness_StoreAndReformCommands :
    ans (.storeWriteDone true) (loading .survey { signed 2 hdr1 [] with storing := true, slot := 2 } .checking)
      (fun t => (storeSlot t 2).valid && t.parison.loader == .done) ∧
    (let s := { run .survey with parison := { slots := Vector.replicate 4 { valid := true } } }
     (storeSlot s 3).valid = true ∧ ans (.makeActive 3) s (fun t => t.parison.active == 3 && t.parison.err == .none) ∧
     ans (.makeFallback 3) s (fun t => t.parison.fallback == 3) ∧ ans (.invalidateSlot 3) s (fun t => !(storeSlot t 3).valid && (storeSlot t 2).valid) ∧
     ans (.invalidateSlot 0) s (fun t => (storeSlot t 0).valid && t.parison.err == .busy)) ∧
    ans (.gatherTakesEffect 0x40) { run .survey with parison := { waiting := [{ type := 0x40, payload := [20, 12, 1, 1] ++ leBytes 4 100000 }] } }
      (fun t => t.parison.waiting == [] && t.time.ageLimit == 12 && t.time.ageQuench) ∧
    ans .shutdownComplete { run .survey with lode := { banks := [{ state := .pending }] } } (fun t => t.lode.banks.all (fun b => b.state == .active) && regBit t 0x01003C 2) := by
  decide +kernel

/-! ### Timebase -/

/-- Time with PRIMARY valid and a source each. -/
def timed (m : Mode) (src : Nat) (v : Bool) : State :=
  { run m with time := { p := { valid := v, source := src }, a := { valid := true, off40 := 5 * 2 ^ 40 }, slewPpm := 20, raw := 1000 } }

theorem witness_ModeAtTheProfileTick :
    ans .profileTick { timed .maintenance 2 true with aon.mainGood := false } (fun t => t.sys.mode == .reserve && t.sys.cause == .mainLost && t.sys.shed) ∧
    ans .profileTick { timed .holdover 2 true with aon.onRes := true } (fun t => t.sys.mode == .anneal && t.sys.cause == .mainLost) ∧
    ans .profileTick (run .field) (fun t => t.sys.mode == .holdover && t.sys.cause == .timeLost) ∧
    ans .profileTick (timed .field 2 true) (fun t => t.sys.mode == .field) ∧
    ans .profileTick (timed .holdover 2 true) (fun t => t.sys.mode == .field) ∧
    latched (run .quenched) = true ∧
    ans .profileTick { run .quenched with sys.released := true, quench := { chs := Vector.replicate 3 { latch := false } } } (fun t => t.sys.mode == .survey && t.sys.cause == .release) ∧
    ans .profileTick { run .reserve with aon := { wardenUp := true, mainRun := true, mainGood := true } } (fun t => t.sys.mode == .quenched && t.sys.cause == .mainReturned) ∧
    ans .profileTick (run .yielded) (fun t => t.sys.mode == .yielded && t.time.nextProf == 1) := by decide +kernel

theorem witness_DomainSelection :
    ans (.selWrite false) (timed .field 2 false) (fun t => !t.time.selA && regBit t 0x02002C 13) ∧
    ans (.selWrite true) (timed .field 2 true) (fun t => t.time.selA && now t == 1000 && t.time.resid40 == -(5 * 2 ^ 40)) ∧
    ans (.sourceLost false false) (timed .field 2 true) (fun t => t.time.selA && !t.time.p.valid && now t == 1000) ∧
    ans (.sourceLost true true) (timed .field 2 true) (fun t => !t.time.selA && !t.time.p.valid && !t.time.a.valid && now t == 1000) ∧
    sourceOf (timed .field 2 true) false = 2 ∧ softTimeoutNs (timed .field 2 true) false = 2 * 10 ^ 9 ∧
    ans (.softTimeout false) { timed .field 2 true with clk := 2 * 10 ^ 9 } (fun t => t.time.selA && now t == 1000) ∧
    ans (.softTimeout false) (timed .field 2 true) (fun t => t.clk == 2 * 10 ^ 9) ∧
    ans (.twinExchangeTimeout false) { timed .servitor 2 true with clk := 10 ^ 7, time.a.lastWrite := 1 } (fun t => t.time.selA && now t == 1000) := by decide +kernel

theorem witness_StepCommand :
    ans (.step 0xFFFFFFFF) { run .survey with time := { stepLo := 0xFFFFFF00, raw := 1000, resid40 := 5, p := { pend40 := 7 } } }
      (fun t => t.time.p.off40 == -256 * 2 ^ 40 && now t == 744 && t.time.stepResult == .done && t.lode == {}) ∧
    ans (.step 1) { run .survey with grid := { allots := [{ id := 1 }] } } (fun t => t.grid.allots == []) ∧
    ans (.step 1) (run .field) (fun t => t.time.stepResult == .mode && now t == 0) := by decide +kernel

theorem witness_RateAndCorrectionWrites :
    ans (.rateWrite false 21990233) (timed .field 0 false) (fun t => t.time.p.rate == 0 && regBit t 0x02002C 14) ∧
    ans (.rateWrite false 21990232) (timed .field 0 false) (fun t => t.time.p.rate == 21990232) ∧
    ans (.rateWrite false 5) (timed .field 1 false) (fun t => t.time.p.rate == 0) ∧
    ans (.corrWrite false 0xFFFFFFFF) (timed .field 2 true) (fun t => t.time.p.pend40 == -(2 ^ 40)) ∧
    ans (.corrWrite false 0x80000000) (timed .field 0 false) (fun t => t.time.p.pend40 == -((2 ^ 31 - 1) * 2 ^ 40) && regBit t 0x02002C 15) := by decide +kernel

theorem witness_SourceReturns :
    sourceMay (timed .servitor 0 false) false = true ∧
    ans (.sourceValid false 5000) (timed .servitor 0 false) (fun t => t.time.p.valid && t.time.p.off40 == 5000 * 2 ^ 40 && t.time.p.pend40 == 0) ∧
    ans (.sourceValid false (-200000)) { timed .field 1 false with rtk := { refState := .fixed }, gnss := { sats := 4, spoof := { state := .pass } } }
      (fun t => t.time.p.valid && t.time.p.off40 == 0 && t.time.p.pend40 == -200000 * 2 ^ 40 && t.time.p.slow) ∧
    ans (.sourceValid false 1001) { timed .survey 1 false with rtk := { refState := .fixed }, gnss := { sats := 4, spoof := { state := .pass } }, regs := [(0x020000, 0x20)] }
      (fun t => t.time.p.off40 == 1001 * 2 ^ 40) := by decide +kernel

theorem witness_ComparesFire :
    ans (.compareArm 1 0x80000000) { timed .field 0 true with regs := [(0x0200A8, 1001)] } (fun t => cmpArmed t 1) ∧
    ans (.compareArm 1 0x80000000) { timed .field 0 true with regs := [(0x0200A8, 1000)] } (fun t => !cmpArmed t 1 && regBit t 0x0200AC 30 && regBit t 0x02002C 10) ∧
    ans (.compareFire 1) { timed .field 0 true with regs := [(0x0200A8, 1100), (0x0200AC, 0x80000000)] } (fun t => t.clk == 100 && !cmpArmed t 1) ∧
    cmpArmed (run .field) 1 = false := by decide +kernel

theorem witness_PpsAndCaptures :
    ans .ppsOutEdge { timed .field 0 true with time.ppsNext := 1, regs := [(0x020080, 0x80000005)] }
      (fun t => t.time.ppsHigh && t.clk == 999999000 && t.time.ppsFallAt == 999999000 + 5000) ∧
    ans .ppsOutEdge { timed .field 0 true with time.lastStep := some 1000, regs := [(0x020080, 0x80000005)] } (fun t => !t.time.ppsHigh && t.time.ppsNext == 1) ∧
    ans .ppsOutFall { timed .field 0 true with time.ppsHigh := true, time.ppsFallAt := 9 } (fun t => !t.time.ppsHigh && t.clk == 9) ∧
    regFld { run .field with regs := [(0x0200C0, 0x2)] } 0x0200C0 1 0 = 2 ∧
    ans (.captureEdge 0 true) { run .field with regs := [(0x0200C0, 0x2)] } (fun t => t.time.caps[0].fifo == []) ∧
    ans (.captureEdge 0 false) { run .field with regs := [(0x0200C0, 0x2)] } (fun t => t.time.caps[0].fifo.length == 1) ∧
    ans (.captureEdge 4 true) { run .field with regs := [(0x0200C0, 0x100)], time := { caps := Vector.replicate 5 { fifo := List.replicate 16 {} } } }
      (fun t => t.time.caps[4].lost && t.time.caps[4].fifo.length == 16) ∧
    ans .captureRead { run .field with time := { caps := Vector.replicate 5 { fifo := [{ time := 77 }] } } } (fun t => t.rdata == 77 && t.time.caps[0].fifo == []) ∧
    ans .txtsRead { run .field with time := { txts := [{ time := 99 }] } } (fun t => t.rdata == 99 && t.time.txts == []) := by decide +kernel

/-! ### GNSS baseband -/

/-- A running baseband. -/
def sky (g : Gnss) (r : List (Nat × Word)) : State := { run .field with gnss := g, regs := r }

theorem witness_AntennaBias :
    gnssRuns (sky {} []) = true ∧ antEn (sky {} []) false = false ∧ antEn (sky {} [(0x030020, 1)]) false = true ∧
    ans (.antBiasSample false 9) (sky { antA := { state := .ok } } []) (fun t => t.gnss.antA.state == .off) ∧
    ans (.antBiasSample false 121) (sky { antA := { state := .ok } } [(0x030020, 1)]) (fun t => t.gnss.antA.state == .short && !t.gnss.antA.biasOn && regBit t 0x030090 5) ∧
    ans (.antBiasSample false 120) (sky {} [(0x030020, 1)]) (fun t => t.gnss.antA.state == .ok) ∧
    ans (.antBiasSample true 2) (sky { antB := { state := .ok, low := 9 } } [(0x030020, 0x10)]) (fun t => t.gnss.antB.state == .openCct && t.gnss.antB.low == 10) ∧
    ans (.antBiasSample false 2) (sky { antA := { state := .ok, low := 8 } } [(0x030020, 1)]) (fun t => t.gnss.antA.state == .ok && t.gnss.antA.low == 9) ∧
    ans (.antBiasRetry false) (sky { antA := { state := .short, tripAt := 5 } } [(0x030020, 1)]) (fun t => t.gnss.antA.biasOn && t.clk == 10 ^ 9 + 5) := by decide +kernel

theorem witness_ChannelStates :
    ans (.lockLost 3) (sky { chans := [(3, { state := .track }), (4, { state := .track })] } []) (fun t => t.gnss.chans == [(3, { state := .coast }), (4, { state := .track })]) ∧
    ans (.codeLockRegained 3) (sky { chans := [(3, { state := .coast, lockAt := some 9 })] } []) (fun t => t.gnss.chans == [(3, { state := .track, slip := true })]) ∧
    ans (.coastTimeout 3) (sky { chans := [(3, { state := .coast, coastAt := 7 })] } []) (fun t => (chanOf t 3).state == .acquire && t.clk == 2 * 10 ^ 9 + 7) ∧
    ans (.acquisition 3) (sky { chans := [(3, { state := .acquire })] } []) (fun t => (chanOf t 3).state == .track) ∧
    ans (.lockLost 3) (sky { chans := [(3, { state := .acquire })] } []) (fun t => (chanOf t 3).state == .acquire) := by decide +kernel

theorem witness_Notches :
    (let g : GnssCfg := { signals := [1], notchEn := 1 }
     pathRuns (sky { cfg := g } []) 0 = true ∧ pathRuns (sky { cfg := g } []) 1 = false ∧ notchThr (sky {} []) = 20 ∧
     ans (.notchSpectrum 0 [{ freq := 7, height := 20, power := 9 }] 1 5) (sky { cfg := g } []) (fun t => t.clk == 10 ^ 6 && (kget t.gnss.notches 0).isSome) ∧
     ans (.notchSpectrum 0 [{ freq := 7, height := 19, power := 9 }] 1 5) (sky { cfg := g } []) (fun t => t.gnss.notches == []) ∧
     ans (.notchRelease 1) (sky { cfg := g, notches := [(0, {}), (1, { below := some 6 })] } []) (fun t => t.gnss.notches == [(0, {})] && t.clk == 10 ^ 8 + 6) ∧
     ans (.notchRelease 0) (sky { cfg := g, notches := [(0, {})] } []) (fun t => t.gnss.notches == [(0, {})])) := by decide +kernel

theorem witness_JammingFlag :
    (let g : GnssCfg := { signals := [1] }
     let on : Vector BandPath 6 := (Vector.replicate 6 {}).set 0 { above := some 5 }
     let off : Vector BandPath 6 := (Vector.replicate 6 {}).set 0 { jam := true, below := some 5 }
     jamOn (sky {} []) = 12 ∧ jamOff (sky {} []) = 8 ∧
     ans (.notchSpectrum 0 [] 100 5) (sky { cfg := g, paths := (Vector.replicate 6 {}).set 0 { floor := 25 } } []) (fun t => t.gnss.paths[0].rise == 12 && t.gnss.paths[0].above.isSome) ∧
     ans (.jamSet 0) (sky { cfg := g, paths := on } []) (fun t => t.gnss.paths[0].jam && t.clk == 10 ^ 9 + 5 && regBit t 0x030090 3) ∧
     ans (.jamClear 0) (sky { cfg := g, paths := off } []) (fun t => !t.gnss.paths[0].jam && t.clk == 10 ^ 10 + 5 && regBit t 0x030090 4)) := by decide +kernel

theorem witness_GnssCommands :
    ans (.exclAdd 1 2) (sky { excl := [(1, 2)] } []) (fun t => t.gnss.excl.length == 1) ∧
    ans (.exclAdd 1 3) (sky { excl := [(1, 2)] } []) (fun t => t.gnss.excl == [(1, 2), (1, 3)]) ∧
    ans (.exclAdd 9 9) (sky { excl := List.replicate 32 (1, 2) } []) (fun t => t.gnss.exclFull && t.gnss.excl.length == 32 && regBit t 0x030090 7) ∧
    ans (.exclRemove 1 2) (sky { excl := [(1, 2), (1, 3)] } []) (fun t => t.gnss.excl == [(1, 3)]) ∧
    ans .exclClear (sky { excl := [(1, 2)] } []) (fun t => t.gnss.excl == []) ∧
    ans .spoofAck (sky { spoof := { state := .fail, passN := 4 } } []) (fun t => t.gnss.spoof.ackHeld && t.gnss.spoof.passN == 0) ∧
    ans .coldStart { run .survey with gnss := { aiding := some 3, chans := [(3, { state := .track }), (4, { state := .retired })] } }
      (fun t => t.gnss.aiding == none && (chanOf t 3).state == .acquire && (chanOf t 4).state == .retired) ∧
    ans .coldStart (sky { aiding := some 3 } []) (fun t => t.gnss.aiding == some 3 && regBit t 0x030090 7) := by decide +kernel

theorem witness_MeasurementEpochs :
    posFixed (sky {} []) = false ∧ sourceOf { sky {} [] with time := { p := { source := 1 } } } false = 1 ∧
    ans (.measurementEpoch { chans := [], sats := 3, gnssTime := 0, utc := none, spp := none, drift := 0 }) { sky { seq := 7, latched := some { seq := 6 } } [] with time := { p := { source := 1, valid := true } } }
      (fun t => t.gnss.seq == 8 && !t.time.p.valid && t.time.nextEpoch == 1 && (t.gnss.banks[2].map (fun x => x.seq)) == some 6) ∧
    ans .epochWindowWritten (sky { latched := some { seq := 6 } } []) (fun t => t.gnss.latched == none && t.gnss.lastSeq == 6 && (t.gnss.banks[2].map (fun x => x.seq)) == some 6) ∧
    ans (.gnssAllocate (some { stored := false, sats := [{ con := 0, svid := 5, elev := 40 }] })) { sky { cfg := { signals := [1] }, chans := [(9, { sig := 2 })], burstNext := true } [] with time := { nextEpoch := 1 } }
      (fun t => t.gnss.burst && (t.gnss.chans.map (fun p => (p.1, p.2.svid)) == [(0, 5), (256, 5)])) ∧
    ans (.gnssAllocate none) (sky { cfg := { signals := [1] } } []) (fun t => t.gnss.allocDue == some none && t.gnss.chans == []) ∧
    ans .burstWindow (sky { burst := true } []) (fun t => t.gnss.window) := by decide +kernel

/-! ### Reference and central RTK -/

/-- A part with a reference function in a state. -/
def refd (m : Mode) (r : Rtk) : State := { run m with rtk := r }

theorem witness_ReferenceCommands :
    manyBits 3 = true ∧ manyBits 1 = false ∧
    ans (.surveyStart 3) (refd .survey {}) (fun t => t.rtk.result == .busy && t.rtk.refState == .none) ∧
    ans (.enter 4) (refd .field {}) (fun t => t.rtk.result == .mode && t.rtk.refState == .none) ∧
    ans (.surveyStart 1) { refd .survey {} with twin := { present := true } } (fun t => t.rtk.result == .paired) ∧
    ans (.surveyStart 1) (refd .survey {}) (fun t => t.rtk.refState == .surveying) ∧
    ans (.clear 8) (refd .survey { stored := some ({}, .survey), pos := some {} }) (fun t => t.rtk.stored == none && t.rtk.result == .done) ∧
    ans (.enter 4) (refd .servitor {}) (fun t => t.rtk.refState == .confirming && t.rtk.testing == some ({}, .entered)) ∧
    ans (.confirm 2) (refd .survey { stored := some ({ x := 5 }, .survey) }) (fun t => t.rtk.testing == some ({ x := 5 }, .stored)) ∧
    ans (.confirm 2) (refd .survey {}) (fun t => t.rtk.refState == .none && t.fresh == 1) := by decide +kernel

/-- A confirmation of the position 0 that has averaged 30 positions of the given mean along x. -/
def confirming (seconds : Nat) (x : Int) : Rtk :=
  { refState := .confirming, testing := some ({}, .entered), cfg := { confirmM := 1 }, seconds := List.range seconds, sum := { x := 30 * x, n := 30 } }

theorem witness_ReferenceOutcomes :
    (confirming 30 1000).sum.off2 {} ≤ (30 * (1 * 1000)) ^ 2 ∧ (30 * (1 * 1000)) ^ 2 < (confirming 30 1001).sum.off2 {} ∧
    ans .confirmationDone (refd .survey (confirming 29 0)) (fun t => t.rtk.result == .noSignal && t.clk == 60 * 10 ^ 9) ∧
    ans .confirmationDone (refd .survey (confirming 30 1000))
      (fun t => t.rtk.refState == .fixed && t.rtk.pos == some {} && t.rtk.stored == some ({}, .entered) && t.grid.origin == some {}) ∧
    ans .confirmationDone (refd .survey (confirming 30 1001)) (fun t => t.rtk.refState == .confirmFail && t.rtk.result == .disagree) ∧
    ans .surveyDone (refd .survey { refState := .surveying, cfg := { survAcc := 5 }, sum := { x := 18, n := 2 }, blocks := [{ x := 9, n := 1 }, { x := 9, n := 1 }] })
      (fun t => t.rtk.pos == some { x := 9 } && t.rtk.refSrc == .survey) ∧
    ans .surveyDone (refd .survey { refState := .surveying, cfg := { survMin := 1 }, sum := { n := 2 }, blocks := [{ n := 1 }, { n := 1 }] }) (fun t => t.rtk.pos == none) ∧
    ans .surveyDone (refd .survey { refState := .surveying, sum := { n := 2 }, blocks := [{ n := 1 }] }) (fun t => t.rtk.pos == none) ∧
    ans .refMoved { refd .survey { refState := .fixed, pos := some {}, movedAt := some 4 } with time := { p := { source := 1, valid := true } } }
      (fun t => t.rtk.refState == .moved && !t.time.p.valid && t.clk == 60 * 10 ^ 9 + 4) ∧
    ans .refMoved (refd .survey { refState := .fixed, pos := some {} }) (fun t => t.rtk.refState == .fixed) := by decide +kernel

/-- An engine that admits station 0 as machine 3. -/
def engine (m : Mode) (e : List MachEpoch) : State :=
  refd m { refState := .fixed, cfg := { admitted := [{ mach := 3, rateHz := 1 }], collectMs := 100, staleMs := 500 }, machs := [(3, { epochs := e })] }

/-- A transport frame of a message number with station 0, as the ingest holds it. -/
def rtcm (num : Nat) : RtcmIn := { frame := rtcmFrame (beBytes 8 (num * 2 ^ 52)) }

theorem witness_MachineObservations :
    rtcmCrcOk (rtcm 1077).frame = true ∧ rtcmNum (rtcm 1077).frame = 1077 ∧ rtcmStation (rtcm 1077).frame = 0 ∧ msmNumber 1077 = true ∧ msmNumber 1230 = false ∧
    (admissionOf (engine .survey []) (rtcm 1077)).isSome = true ∧ (admissionOf (run .survey) (rtcm 1077)).isNone = true ∧
    engineRuns (engine .survey []) = true ∧ engineRuns (engine .reserve []) = false ∧ msmCheck (engine .survey []) { mach := 3, rateHz := 1 } 1077 0 = 0 ∧
    ans .msmMessage { engine .survey [] with rtk.ingest := [{ frame := [1, 2] }, rtcm 1077] } (fun t => countOf t 0x040044 0 == 1 && t.rtk.ingest.length == 1) ∧
    ans .msmMessage { engine .survey [] with rtk.ingest := [rtcm 1230] } (fun t => countOf t 0x040048 0 == 1) ∧
    ans (.machineEpochIncomplete 3) (engine .survey [{ time := 1 }]) (fun t => (rtkMach t 3).epochs == [] && t.clk == 10 ^ 8 && countOf t 0x040060 0 == 1) ∧
    inProcess (rtkMach (engine .survey [{ doneAt := some 0 }]) 3) = true ∧ inProcess (rtkMach (engine .survey []) 3) = false ∧
    ans (.suspend 3) (engine .survey []) (fun t => (rtkMach t 3).suspended) ∧ ans (.suspend 3) (engine .survey [{ doneAt := some 0 }]) (fun t => (rtkMach t 3).suspendNext) ∧
    ans (.resetFilter 3) (engine .survey []) (fun t => (rtkMach t 3).filter == none) ∧ ans (.filterResume 3) (engine .survey []) (fun t => !(rtkMach t 3).suspended) := by decide +kernel

/-- A clean base epoch at 5 ns, at a position on the equator. -/
def base5 : BaseEpoch := { time := 5, clean := true, pos := some { x := 63781370000 } }

theorem witness_Solutions :
    (currentEpoch (engine .servitor [{ time := 5, doneAt := some 0 }])).isSome = true ∧
    baseFor { engine .servitor [] with rtk.base := [base5] } 5 = some (base5, 0) ∧ baseFor (engine .servitor []) 5 = none ∧
    solvable (engine .servitor []) 0 = true ∧ solvable { engine .servitor [] with time := { ageLimit := 0 } } 1 = false ∧
    ans .solutionOut (engine .survey [{ time := 5, doneAt := some 0 }]) (fun t => (rtkMach t 3).epochs == [] && (rtkMach t 3).seq == 0) ∧
    fixType (run .survey) { nsv := 4, nDd := 9 } = 0 ∧ fixType { run .survey with rtk.cfg.minAmb := 7 } { nsv := 5, nDd := 4, nAmb := 6 } = 1 ∧
    fixType (run .survey) { nsv := 5, nDd := 4, fixed := true } = 3 ∧ fixType (run .survey) { nsv := 5, nDd := 4 } = 2 ∧
    ans (.staleMarker 3) (engine .servitor []) (fun t => t.clk == 5 * 10 ^ 8 && (rtkMach t 3).markAt == 5 * 10 ^ 8) ∧
    ans (.staleMarker 3) (engine .field []) (fun t => (spMach t 3).stale) := by decide +kernel

theorem witness_CorrectionBundles :
    regBit (refd .field {}) 0x040034 31 = false ∧ regBit (refd .field {}) 0x040034 1 = false ∧ regBit (refd .field {}) 0x040034 2 = false ∧
    ans .bundleComplete { refd .field { bundleDue := some { seq := 4, messages := [{ frame := [1, 2] }] } } with
        regs := [(0x040034, 1)], radio := { chains := vmod (Vector.replicate 3 {}) 1 (fun x => { x with cfg := { corr := true } }) } }
      (fun t => t.rtk.bundleDue == none && (chain t 1).corrLeft == [1, 2] && (chain t 1).corrSeq == 4 && (chain t 0).corrLeft == []) := by decide +kernel

/-! ### Lode -/

/-- MAC table 3 and ZONE table 4 in pipeline 0, with entries of table 3. -/
def lode (es : List ((Nat × Nat) × LodeEntry)) (q : List LearnReq) : State :=
  { run .field with lode := {
      tables := [{ id := 3, content := .mac, keyBits := 60, entryBytes := 32, excess := .drop, pipeMask := 1, sweep := 100, learnLimit := 2 },
                 { id := 4, content := .zone, keyBits := 32, lpm := true, entryBytes := 32, excess := .drop, pipeMask := 1 }]
      insts := [{ table := 3, banks := [7], seeds := [1, 2, 3, 4], entries := es, learnQ := q }, { table := 4, banks := [8] }]
      banks := List.replicate 64 {}, run0 := true, restoring := [5], buffer := leBytes 8 0 ++ leBytes 8 9 ++ leBytes 8 1 } }

/-- A MAC entry of key 9. -/
def ent (w : Bool) : LodeEntry := { written := w, key := { val := 9 }, result := .mac 1 0 0 }

/-- A learn request for key 9. -/
def req (src : Nat) : LearnReq := { table := 3, key := { val := 9 }, source := src, result := .mac 2 0 0 }

theorem witness_LodeWindow :
    ans (.lodeRead 9 false false) (lode [] []) (fun t => t.lode.accResult == .badTable) ∧
    ans (.lodeWrite 3 true) (lode [] []) (fun t => t.lode.accResult == .busy) ∧ stopped (lode [] []) false = false ∧
    ans (.lodeWrite 3 false) (lode [] []) (fun t => t.lode.accResult == .done && (inst t 3 false).any (fun i => i.entries.length == 1)) ∧
    ans (.lodeWrite 4 false) (lode [] []) (fun t => t.lode.accResult == .denied) ∧ ans (.lodeDelete 4 false false) (lode [] []) (fun t => t.lode.accResult == .denied) ∧
    ans (.lodeWrite 3 false) (lode [((5, 1), ent true)] []) (fun t => t.lode.accResult == .done && (inst t 3 false).any (fun i => i.entries.map Prod.fst == [(5, 1)])) ∧
    keyOfImage { content := .mac, excess := .drop } (lode [] []).lode.buffer = { val := 9 } ∧
    ans (.lodeRead 3 false false) (lode [((5, 1), ent true)] []) (fun t => t.lode.accResult == .done && t.lode.buffer.length == 64 && nth t.lode.buffer 0 0 == 3) ∧
    ans (.lodeRead 3 false false) (lode [] []) (fun t => t.lode.accResult == .notFound) ∧
    ans (.lodeDelete 3 false false) (lode [((5, 1), ent true)] []) (fun t => t.lode.accResult == .done && (inst t 3 false).any (fun i => i.entries == [])) ∧
    ans (.lodeDelete 3 false false) (lode [] []) (fun t => t.lode.accResult == .notFound) ∧
    ans (.readAt 3 false false) { lode [((5, 1), ent true)] [] with regs := [(0x050034, 7 * 65536 + 5 * 8 + 1)] } (fun t => t.lode.accResult == .done && nth t.lode.buffer 0 0 == 3) := by decide +kernel

theorem witness_Learning :
    pipeRuns (lode [] []) false = true ∧ pipeRuns (lode [] []) true = false ∧ (lode [] []).grid.occWait = [] ∧
    ans (.learnApply 3 false) { lode [] [req 2] with lode.run0 := false } (fun t => (inst t 3 false).any (fun i => i.learnQ.length == 1)) ∧
    ans (.learnApply 3 false) (lode [((5, 1), ent true)] [req 2]) (fun t => inst t 3 false == inst (lode [((5, 1), ent true)] []) 3 false) ∧
    ans (.learnApply 3 false) (lode [((5, 1), ent false)] [req 0]) (fun t => inst t 3 false == inst (lode [((5, 1), { ent false with hit := true })] []) 3 false) ∧
    ans (.learnApply 3 false) (lode [((5, 1), { ent false with flapping := true, moveMs := 1000 })] [req 2]) (fun t => countOf t 0x050044 5 == 1) ∧
    learnedBy { entries := [] } 2 < learnLimit (lode [] []) { id := 3, content := .mac, excess := .drop, learnLimit := 2 } ∧
    ans (.learnApply 3 false) (lode [] [req 2]) (fun t => countOf t 0x050044 2 == 1 && (inst t 3 false).any (fun i => i.entries.length == 1)) := by decide +kernel

theorem witness_Sweeping :
    (nextSweeper (lode [] []) false).isSome = true ∧ (nextSweeper (lode [] []) true).isNone = true ∧
    ans (.sweepVisit true []) (lode [] []) (fun t => t.lode == (lode [] []).lode) ∧
    ans (.sweepVisit false [3]) (lode [((0, 3), { ent false with seenClear := true })] []) (fun t => (inst t 3 false).any (fun i => i.entries == [((0, 3), { ent false with hit := true })])) ∧
    ans (.sweepVisit false []) (lode [((0, 0), ent true), ((0, 1), { ent false with hit := true }), ((0, 2), ent false), ((0, 3), { ent false with seenClear := true }), ((1, 0), ent false)] [])
      (fun t => inst t 3 false == (inst (lode [((0, 0), ent true), ((0, 1), ent false), ((0, 2), { ent false with seenClear := true }), ((1, 0), ent false)] []) 3 false).map
        (fun i => { i with sweepAt := 1 })) ∧
    expired 7 { ent true with result := .resv [some { end_ := 6 }, none] } = true ∧ expired 7 (ent true) = false := by decide +kernel

theorem witness_LodeUpkeep :
    ans (.flapExpire 3 false) (lode [((5, 1), { ent false with flapping := true, moves := 9, moveMs := 1000 })] [])
      (fun t => t.clk == 10 ^ 9 && (inst t 3 false).any (fun i => i.entries.all (fun x => !x.2.flapping))) ∧
    ans (.restoreDone 4) (lode [] []) (fun t => t.lode.restoring == [5]) ∧ ans (.restoreDone 5) (lode [] []) (fun t => t.lode.restoring == [] && regBit t 0x050050 4) ∧
    ans (.lodeBucketCrcError 3 2) (lode [] []) (fun t => t.lode == (lode [] []).lode && countOf t 0x0C0044 0 == 1 && countOf t 0x050044 14 == 2) := by decide +kernel

/-! ### Field grid -/

/-- A free grid with a RESV table and a zone table, whose one work zone covers the field. -/
def field (m : Mode) (g : Grid) : State :=
  { run m with
    grid := { g with cfg := { resvLevel := 12, occLevel := 10, lapseMs := 500, prints := List.replicate 128 { halfWidth := 500, front := 500, rear := 500 } } }
    lode := {
      tables := [{ id := 1, lpm := true, content := .resv, keyBits := 32, entryBytes := 64, excess := .drop, pipeMask := 1 },
                 { id := 2, lpm := true, content := .zone, keyBits := 32, entryBytes := 32, excess := .drop, pipeMask := 1 }]
      insts := [{ table := 1, banks := [7], seeds := [1, 2, 3, 4] }, { table := 2, banks := [8], seeds := [1, 2, 3, 4], filter :=
        [(1023, { short := some (0, (0, 0)) }), (1706, { short := some (0, (0, 0)) }), (2389, { short := some (0, (0, 0)) }), (3072, { short := some (0, (0, 0)) })], entries := [((0, 0), { written := true, key := { len := 0 }, result := .zone 9 1 0xFE })] }]
      run0 := true } }

/-- A grid command of 48 bytes. -/
def gcmd (l : List (Nat × Nat)) : Bytes := (List.range 48).map (fun k => BitVec.ofNat 8 ((kget l k).getD 0))

/-- A live allotment of machine 3. -/
def al (id : Nat) (m : Nat) : Allot := { id := BitVec.ofNat 16 id, mach := m, trackId := 4, end_ := 10 ^ 9, margin := 0xFFFE }

/-- A track record of two vertices 1 m apart. -/
def trk : Bytes :=
  let v := leBytes 4 0 ++ leBytes 4 0 ++ leBytes 4 1000 ++ leBytes 4 0
  leBytes 4 2 ++ leBytes 4 (crc32c v).toNat ++ leBytes 8 0 ++ v

theorem witness_GridCommandPath :
    underTest { field .field {} with fault.res := [{ kind := .allocator, index := 0, state := .testing }] } .allocator = true ∧
    ans (.allot (.regs .host [])) { field .field { cmdBusy := true } with fault.res := [{ kind := .allocator, index := 0, state := .testing }] }
      (fun t => t.grid.cmdResult == .busy && regBit t 0x060060 1) ∧
    ans (.zoneAdd (.regs .host [])) { field .field {} with fault.res := [{ kind := .allocator, index := 0, state := .testing }] }
      (fun t => t.grid.cmdBusy && t.grid.intake.length == 1) ∧
    ans (.resume (.regs .host [])) (field .servitor {}) (fun t => t.grid.cmdResult == .mode && !t.grid.cmdBusy && t.grid.intake == []) := by decide +kernel

theorem witness_GridTables :
    (gcmd [(0, 1), (2, 4)]).length = 48 ∧ trackFault trk = none ∧ trackFault [] = some .badTrack ∧
    ans (.trackLoad (.regs .host (gcmd [(2, 4)])) trk) (field .field {}) (fun t => t.grid.cmdResult == .done && (kget t.grid.tracks 4).map List.length == some 2) ∧
    ans (.trackLoad (.regs .host (gcmd [(2, 4)])) []) (field .field {}) (fun t => t.grid.cmdResult == .badTrack && t.grid.tracks == []) ∧
    ans (.trackLoad (.regs .host (gcmd [(2, 4)])) trk) (field .field { allots := [al 7 3] }) (fun t => t.grid.cmdResult == .inUse) ∧
    ans (.trackDrop (.regs .host (gcmd [(2, 4)]))) (field .field {}) (fun t => t.grid.cmdResult == .notFound) ∧
    ans (.trackDrop (.regs .host (gcmd [(2, 4)]))) (field .field { tracks := [(4, [])] }) (fun t => t.grid.cmdResult == .done && t.grid.tracks == []) ∧
    ans (.trackDrop (.regs .host (gcmd [(2, 4)]))) (field .field { tracks := [(4, [])], allots := [al 7 3] }) (fun t => t.grid.cmdResult == .inUse) ∧
    ans (.zoneAdd (.regs .host (gcmd [(2, 5), (4, 2), (5, 1), (0x20, 0xFE)]))) (field .field {}) (fun t => t.grid.cmdResult == .done && t.grid.zones.length == 1) ∧
    ans (.zoneAdd (.regs .host (gcmd [(2, 5), (4, 1), (5, 1)]))) (field .field {}) (fun t => t.grid.cmdResult == .badParam) ∧
    ans (.zoneDel (.regs .host (gcmd [(2, 5)]))) (field .field { zones := [{ level := 2, id := 5 }] }) (fun t => t.grid.cmdResult == .done && t.grid.zones == []) ∧
    ans (.originSet (.regs .host [])) (field .survey { staged := { x := 5 } }) (fun t => t.grid.origin == some { x := 5 }) ∧
    ans (.originSet (.regs .host [])) (field .survey { allots := [al 7 3] }) (fun t => t.grid.cmdResult == .inUse && t.grid.origin == none) ∧
    ans (.originClear (.regs .host [])) (field .field { origin := some {} }) (fun t => t.grid.cmdResult == .mode && t.grid.origin == some {}) ∧
    ans (.resume (.regs .host (gcmd [(1, 3)]))) (field .field { machs := [(3, { annealMargin := true })] }) (fun t => t.grid.cmdResult == .done && !(gridMach t 3).annealMargin) ∧
    ans (.resume (.regs .host (gcmd [(1, 3)]))) (field .field { allots := [al 7 3], machs := [(3, { annealMargin := true })] })
      (fun t => t.grid.cmdResult == .notClear && (gridMach t 3).annealMargin) := by decide +kernel

/-- ALLOT of track 4 to machine 3, from 0 to 2^30 ns, operation 1. -/
def ask : Bytes := gcmd [(0, 3), (1, 3), (2, 1), (5, 1), (6, 255), (8, 4), (0x1B, 64)]

theorem witness_AllotGrantsCheckedCellsOnly :
    ask.length = 48 ∧ byteAt ask 0 = 3 ∧
    ans (.allot (.regs .host ask)) (field .survey {}) (fun t => t.grid.cmdResult == .mode) ∧
    ans (.allot (.regs .host ask)) (field .field {}) (fun t => t.grid.cmdResult == .noTrack && t.grid.allots == []) ∧
    ans (.allot (.regs .host ask)) { field .field { tracks := [(4, [{ e := 0, n := 0 }, { e := 1000, n := 0 }])], machs := [(3, { hpl := 20, fixOk := true })] } with time := { p := { valid := true } } }
      (fun t => t.grid.cmdResult == .done && t.grid.allots.all (fun a => a.margin == 20 && a.mach == 3 && a.cells.length == 4 && a.end_ == 2 ^ 30)) := by decide +kernel

theorem witness_AllotmentsEnd :
    ans (.release (.regs .host (gcmd [(2, 7)]))) (field .field { allots := [al 7 3, al 8 5] }) (fun t => t.grid.cmdResult == .done && t.grid.allots == [al 8 5]) ∧
    ans (.release (.regs .host (gcmd [(2, 9)]))) (field .field { allots := [al 7 3] }) (fun t => t.grid.cmdResult == .notFound && t.grid.allots == [al 7 3]) ∧
    ans (.releaseMach (.regs .host (gcmd [(1, 5)]))) (field .field { allots := [al 7 3, al 8 5] }) (fun t => t.grid.allots == [al 7 3]) ∧
    machAllots (field .field { allots := [al 7 3] }) 3 ≠ [] ∧
    ans (.lapse 3) { field .field { allots := [al 7 3, al 8 5], machs := [(3, { goodAt := some 9 })] } with setpt.machs := [(3, { still := true })] }
      (fun t => t.grid.allots == [al 8 5] && (gridMach t 3).lapsed && t.clk == 500000009) ∧
    ans .resvRefresh (field .field {}) (fun t => t.grid.allots == []) ∧
    ans (.allotmentEnd 7) (field .field { allots := [{ al 7 3 with end_ := 0 }, al 8 5] }) (fun t => t.grid.allots == [al 8 5]) ∧
    ans .occColdEnd (field .field { occCold := true }) (fun t => !t.grid.occCold && t.clk == 10 ^ 9) ∧
    ans (.lapse 3) (field .field { allots := [al 7 3] }) (fun t => t.grid.allots == [] && t.quench.machq == 8) := by decide +kernel

/-- Machine 3 with a chain of one allotment on a track of 1 m, in FIELD with time valid. -/
def extending (d : Nat) (end_ : BitVec 64) : State :=
  { field .field { allots := [{ al 7 3 with track := [{ e := 0, n := 0 }, { e := 1000, n := 0 }], margin := 20, op := 1, end_ := end_ }], tasks := [(0, 3, 0)] } with
    time := { p := { valid := true } }, setpt := { extends_ := [{ mach := 3, dist := d }] } }

theorem witness_ExtendsRun :
    (extending 1 (10 ^ 9)).grid.allots.all (liveAllot (extending 1 (10 ^ 9))) = true ∧ pastAge (extending 1 (10 ^ 9)) (30 * 10 ^ 9) = false ∧
    ((reservedChain (extending 1 (10 ^ 9)) 3).getLast?.map Allot.id) = some 7 ∧
    ans .extend (extending 1 (10 ^ 9)) (fun t => t.grid.report.result == .done && t.quench.machq == 0 && t.setpt.extends_ == [] &&
      t.grid.allots.all (fun a => a.ext == 1000 && a.end_ == 30 * 10 ^ 9)) ∧
    ans .extend { extending 1 (10 ^ 9) with time := {} } (fun t => t.grid.report.result == .ageLimit && regBit t 0x070060 4 && t.quench.machq == 8) := by decide +kernel

/-! ### Set-point engine -/

/-- A set-point engine with machines 3 and 5 on chains of their own, class 0. -/
def eng (m : Mode) (e : Setpt) : State :=
  { field m { allots := [al 7 3, al 8 5] } with
    setpt := { e with cfg := { odoStaleMs := 200, classes := [{ vFwd := 3000, dNorm := 1000, dAnneal := 1500, dHard := 3000 }], machs := List.replicate 128 (some 0, 0) } } }

/-- A set-point command of 32 bytes. -/
def scmd (l : List (Nat × Nat)) : Bytes := (List.range 32).map (fun k => BitVec.ofNat 8 ((kget l k).getD 0))

/-- Machine 3 follows machine 5. -/
def pairOf : Gear := { master := 5, ratio0 := 0x10000 }

theorem witness_SetpointCommands :
    (scmd []).length = 32 ∧ (reservedChain (eng .field {}) 3).length = 1 ∧ depthOf (eng .field {}) 8 5 + 1 + heightOf (eng .field {}) 8 3 ≤ 4 ∧ aboveOf (eng .field {}) 3 8 5 = false ∧
    ans (.engage (.regs .host (scmd [(1, 3), (2, 5), (6, 1)]))) (eng .anneal {}) (fun t => t.setpt.cmdResult == .mode) ∧
    ans (.engage (.regs .host (scmd [(1, 3), (2, 5)]))) (eng .field {}) (fun t => t.setpt.cmdResult == .badParam) ∧
    ans (.engage (.regs .host (scmd [(1, 3), (2, 9), (6, 1)]))) (eng .field {}) (fun t => t.setpt.cmdResult == .noChain) ∧
    ans (.engage (.regs .host (scmd [(1, 3), (2, 3), (6, 1)]))) (eng .field {}) (fun t => t.setpt.cmdResult == .loop) ∧
    ans (.engage (.regs .host (scmd [(1, 3), (2, 5), (6, 1)]))) (eng .field {}) (fun t => t.setpt.cmdResult == .done && (spMach t 3).gear == some pairOf) ∧
    ans (.disengage (.regs .host (scmd [(1, 3)]))) (eng .field {}) (fun t => t.setpt.cmdResult == .notGeared) ∧
    ans (.disengage (.regs .host (scmd [(1, 3)]))) (eng .field { machs := [(3, { gear := some pairOf })] }) (fun t => (spMach t 3).gear == none && t.setpt.cmdResult == .done) ∧
    ans (.sched (.regs .host (scmd [(1, 3), (6, 1), (0x0D, 2)]))) (eng .field { machs := [(3, { gear := some pairOf })] })
      (fun t => t.setpt.cmdResult == .done && (spMach t 3).gear == some { pairOf with sched := [{ ratio := 0x10000, blend := 512 }] }) ∧
    ans (.sched (.regs .host (scmd [(1, 3), (6, 1)]))) (eng .field { machs := [(3, { gear := some pairOf })] }) (fun t => t.setpt.cmdResult == .badParam) ∧
    ans (.sched (.regs .host (scmd [(1, 3), (6, 1), (0x0D, 2)]))) (eng .field { machs := [(3, { gear := some pairOf })], odos := [(5, { odo := 1 })] })
      (fun t => t.setpt.cmdResult == .passed) ∧
    ans (.schedClear (.regs .host (scmd [(1, 3)]))) (eng .field { machs := [(3, { gear := some { pairOf with sched := [{}] } })] }) (fun t => (spMach t 3).gear == some pairOf) ∧
    ans (.schedClear (.regs .host (scmd [(1, 3)]))) (eng .field {}) (fun t => t.setpt.cmdResult == .notGeared) ∧
    ans (.limits (.regs .host (scmd [(1, 3), (0x10, 9), (0x12, 200), (0x14, 201)]))) (eng .field {}) (fun t => t.setpt.cmdResult == .done && (spMach t 3).dNorm == 200) ∧
    ans (.limits (.regs .host (scmd [(1, 3), (0x11, 99)]))) (eng .field {}) (fun t => t.setpt.cmdResult == .badParam) := by decide +kernel

theorem witness_AnnealAndResume :
    ans (.annealMach (.regs .host (scmd [(1, 3)]))) (eng .field { machs := [(3, { gear := some pairOf })] }) (fun t => (spMach t 3).causes == { host := true } && (spMach t 3).gear == none) ∧
    ans (.resumeMach (.regs .host (scmd [(1, 3)]))) (eng .field { machs := [(3, { causes := { host := true, margin := true } })] }) (fun t => (spMach t 3).causes == { margin := true }) ∧
    ans (.limits (.regs .host (scmd [(1, 3)]))) (eng .field { orders := [{ master := .host, body := scmd [(0, 6), (1, 3)] }] }) (fun t => t.setpt.cmdResult == .conflictLost) ∧
    ans (.annealMach (.regs .host (scmd [(1, 3)]))) (eng .servitor {}) (fun t => t.setpt.cmdResult == .mode) := by decide +kernel

theorem witness_OdometersAndTables :
    (padTo 20 [(5 : Byte)]).length = 20 ∧ isMaster (eng .field { machs := [(3, { gear := some pairOf })] }) 5 = true ∧
    ans (.odometerReport (padTo 20 [5]) none) (eng .field {}) (fun t => countOf t 0x070054 6 == 1) ∧
    ans (.odometerReport (padTo 20 [5]) none) (eng .field { machs := [(3, { gear := some pairOf })], odos := [(5, {})] }) (fun t => countOf t 0x070054 6 == 1) ∧
    ans (.odometerReport (padTo 20 [5, 0, 1, 0, 7]) none) { eng .field { machs := [(3, { gear := some pairOf })], odos := [(5, {})] } with clk := 9 }
      (fun t => kget t.setpt.odos 5 == some { seq := 1, odo := 7, at_ := 9 } && (spMach t 3).gear == some { pairOf with since := 9 }) ∧
    ans (.gearLost 3) (eng .field { machs := [(3, { gear := some pairOf })] }) (fun t => (spMach t 3).gear == none && (spMach t 3).causes == { gearLost := true } && t.clk == 2 * 10 ^ 8) ∧
    ans .spmeanRefresh (eng .field { machs := [(3, { means := [{}] })] }) (fun t => (spMach t 3).means == []) := by decide +kernel

/-! ### Field radio -/

/-- A shared segment's use in every slot. -/
def plan_ (u : SlotUse) (o : Nat) : List (SlotUse × BitVec 16) := List.replicate 100 (u, BitVec.ofNat 16 o)

/-- A radio in a slot, chain 1 set up, with keys, a ledger and its gates open. -/
def air (m : Mode) (ns : Nat) (r : Radio) (x : Chain) : State :=
  { run m with
    radio := { r with present := true, running := true, windowS := 3600, chains := vmod (Vector.replicate 3 {}) 1 (fun _ => { x with en := true }), pendants := [5] }
    time := { raw := ns }
    twin := { gateOpen := true, claimO := true, present := true }
    regs := [(0x080000, 2), (0x08003C, 0x020102)]
    geode := { slots := [(1, { attr := 0xA40004, key := leBytes 16 7 }), (2, { attr := 0xA40005, key := leBytes 16 7 })] } }

/-- Chain 1 of mode 6. -/
def ch1 (u : SlotUse) (o : Nat) : Chain := { cfg := { mode := 6, beaconDiv := 1, gang := true, stop := true, corr := true, nodes := true, plan := plan_ u o } }

/-- What chain 1 has on air. -/
def onAir1 (t : State) (ty : FrameType) : Bool := match (chain t 1).onAir with | some f => f.type == ty && f.asn == t.radio.asn | none => false

theorem witness_SlotsAndChains :
    ans .radioSlot (run .field) (fun t => !t.radio.running && t.time.nextSlot == 1) ∧
    ans .radioSlot { air .field 5 { txMax := 2, asn := 9 } (ch1 .idle 0) with time.nextSlot := 2 }
      (fun t => t.radio.running && t.radio.asn == 2 && t.radio.asnHold && now t == 2 * 10 ^ 7) ∧
    ans (.chainEnable 1 0x80000030) (run .field) (fun t => (chain t 1).en && (chain t 1).txpwr == 28) ∧
    ans (.chainEnable 1 0xE0) (air .field 5 {} (ch1 .idle 0)) (fun t => !(chain t 1).en && (chain t 1).txpwr == 0xEC) ∧
    ans (.chainEnable 1 0) (air .field 5 {} { ch1 .idle 0 with onAir := some { type := .beacon }, airEnd := 6 }) (fun t => (chain t 1).en && (chain t 1).stopping) := by decide +kernel

theorem witness_BeaconsAndGangs :
    beaconDue (air .field 5 {} (ch1 .idle 0)) 1 = true ∧ mayTx (air .field 5 {} (ch1 .idle 0)) 1 .beacon = true ∧ (dnKey (air .field 5 {} (ch1 .idle 0))).isSome = true ∧
    ledgerRoom (air .field 5 {} (ch1 .idle 0)) 0 (slotChannel (air .field 5 {} (ch1 .idle 0)) 1) .beacon (airtime 6 (psduLen 23)) = true ∧
    mayTx (air .reset 5 {} (ch1 .idle 0)) 1 .beacon = false ∧ gangTaken (air .field 5 {} (ch1 .idle 0)) 1 = false ∧
    ans (.beaconTx 1) (air .field 5 {} (ch1 .idle 0)) (fun t => onAir1 t .beacon && t.radio.seq == 1 && now t == 10 ^ 6 && t.radio.txMax == 0) ∧
    ans (.beaconTx 1) (air .reset 5 {} (ch1 .idle 0)) (fun t => (chain t 1).onAir == none && t.radio.seq == 0) ∧
    ans (.gangTx 1) (air .field 5 {} (ch1 .idle 0)) (fun t => onAir1 t .gang && (chain t 1).sentGang) := by decide +kernel

theorem witness_SharedSegmentFrames :
    sharedOpen (air .field 5 {} (ch1 .corr 0)) 1 = true ∧ sharedTaken (air .field 5 {} (ch1 .corr 0)) 1 = false ∧
    ans (.quenchRepeatTx 1) (air .field 5 { repeatLeft := 1 } (ch1 .corr 0)) (fun t => onAir1 t .quench && (chain t 1).sentShared) ∧
    ans (.machineQuenchTx 1) (air .field 5 {} { ch1 .corr 0 with machQuench := [(3, 9)] }) (fun t => onAir1 t .quench && (chain t 1).machQuench == []) ∧
    ans (.annealTx 1) (air .field 5 {} { ch1 .corr 0 with machAnneal := [3, 4] }) (fun t => onAir1 t .anneal && (chain t 1).machAnneal == [4]) ∧
    ans (.annealTx 1) (air .anneal 5 {} { ch1 .corr 0 with annealFirst := some 0 }) (fun t => onAir1 t .anneal) ∧
    ans (.corrTx 1) (air .field 5 {} { ch1 .corr 0 with corrLeft := [1, 2, 3] }) (fun t => onAir1 t .corr && (chain t 1).corrLeft == [] && (chain t 1).corrChunk == 1) ∧
    ans (.downTx 1) (air .field 5 {} { ch1 .down 0 with downQ := [{ body := [7], ackReq := true }] }) (fun t => onAir1 t .data && (chain t 1).awaitAck == some 0 && ((chain t 1).downQ.map DownFrame.tries) == [1]) ∧
    ans (.downTx 1) (air .field 5 {} { ch1 .down 0 with downQ := [{ body := [7] }] }) (fun t => onAir1 t .data && (chain t 1).downQ == []) := by decide +kernel

/-- A frame of a type from an address to all, of the current slot. -/
def heard (ty : FrameType) (src dst : Nat) (seg : Fin 5) (us : Nat) : RxFrame :=
  { chain := 1, seg := seg, startUs := us, sfdUs := us, psdu := psduOf (leBytes 1 (ty.code + 0x10) ++ leBytes 1 0 ++ leBytes 2 src ++ leBytes 2 dst ++ leBytes 20 0) }

/-- A node at address 9 on chain 1. -/
def node9 (sync : Bool) : Node := { addr := 9, eui := 77, chain := 1, synced := sync }

/-- The checks of R322 before the MIC as one Bool. -/
def arrives (s : State) (ty : FrameType) (f : RxFrame) (who : Sender) (eui : Nat) : Bool :=
  listens s f.chain ty.code && decide (rxEnd s f ≤ now s) && !deafTo s f &&
  fcsOk f && decide (17 ≤ f.psdu.length ∧ byteAt f.psdu 0 / 16 % 4 = 1 ∧ typeOf f = ty.code) &&
  decide (leAt f.psdu 4 2 = 0xFFFF ∨ (chain s f.chain).cfg.parentRx = false ∧ leAt f.psdu 4 2 = baseAddr s) &&
  decide ((if (chain s f.chain).cfg.parentRx then parentSender s (leAt f.psdu 2 2) else senderOf s (leAt f.psdu 2 2)) = some (who, eui)) &&
  decide (ty = .data → (slotUse s f.chain).1 = .up ∧ (slotUse s f.chain).2.toNat = leAt f.psdu 2 2) &&
  fresh s eui (nearAsn s.radio.asn (byteAt f.psdu 1)) (3 * f.seg.val + f.chain.val) && (rxKey s who).isSome

theorem witness_ReceivedFrames :
    arrives (air .field (9 * 10 ^ 6) {} (ch1 .idle 0)) .stopReq (heard .stopReq 0xFF00 0xFFFF 1 (stopStart (ch1 .idle 0).cfg)) (.pendant 0) 5 = true ∧
    arrives (air .field (9 * 10 ^ 6) { nodes := [node9 true] } (ch1 .up 9)) .data (heard .data 9 0xFFF0 3 6000) .node 77 = true ∧
    arrives (air .field (9 * 10 ^ 6) { nodes := [node9 true] } { ch1 .down 9 with awaitAck := some 0, downQ := [{ dst := 9 }] }) .ack (heard .ack 9 0xFFF0 3 6000) .node 77 = true ∧
    arrives (air .field (9 * 10 ^ 6) { nodes := [node9 false] } (ch1 .poll 0)) .poll (heard .poll 9 0xFFF0 3 6000) .node 77 = true ∧
    pollSlot (air .field (9 * 10 ^ 6) { nodes := [node9 false] } (ch1 .poll 0)) 1 (node9 false) = true ∧
    arrives (air .field (9 * 10 ^ 6) { nodes := [node9 false] } (ch1 .rendezvous 0)) .syncReq (heard .syncReq 9 0xFFFF 3 6000) .node 77 = true ∧
    slotIndex (air .field (9 * 10 ^ 6) { nodes := [node9 false] } (ch1 .rendezvous 0)) = 0 ∧
    arrives (air .field (9 * 10 ^ 6) { parent := some { eui := 8, chain := 1 } } { ch1 .idle 0 with cfg.parentRx := true }) .beacon (heard .beacon 0xFFF0 0xFFFF 0 1000) .parent 8 = true ∧
    arrives (air .field (9 * 10 ^ 6) { parent := some { eui := 8, chain := 1 } } { ch1 .idle 0 with cfg.parentRx := true }) .quench (heard .quench 0xFFF0 0xFFFF 3 1000) .parent 8 = true ∧
    ans (.data { heard .data 9 0xFFF0 3 6000 with psdu := leBytes 30 7 }) (air .field (9 * 10 ^ 6) {} (ch1 .up 9)) (fun t => countOf t 0x080094 0x107 == 1) := by decide +kernel

theorem witness_ReceivedFrames_peer :
    Arrives (air .servitor (9 * 10 ^ 6) {} (ch1 .idle 0)) .beacon (heard .beacon 0xFFF1 0xFFFF 0 1000) .peer Config.peerEui ∧
    Arrives (air .field (9 * 10 ^ 6) {} (ch1 .idle 0)) .quench (heard .quench 0xFFF1 0xFFFF 4 1000) .peer Config.peerEui := by
  refine ⟨⟨?_, ?_, ?_, ?_, ?_, ?_, ?_, ?_, ?_, ?_, ?_, ?_⟩, ⟨?_, ?_, ?_, ?_, ?_, ?_, ?_, ?_, ?_, ?_, ?_, ?_⟩⟩ <;> first | decide +kernel | rfl

theorem witness_RadioUpkeep :
    ans .pendantHoldExpire { run .field with quench.pendantEnd := some 7, quench.peerEnd := some 9 } (fun t => t.quench.pendantEnd == none && t.clk == 9) ∧
    ans .reasmTimeout { run .field with radio.reasm := [{ chain := 2, since := 4 }] } (fun t => t.radio.reasm == [] && countOf t 0x080094 0x20C == 1) ∧
    ans .silentGaffer { run .servitor with radio.missGaffer := 3 } (fun t => t.radio.silent && regBit t 0x0800A0 2) ∧
    ans .orphan { run .field with radio.missParent := 3, radio.parent := some {} } (fun t => t.radio.orphan && regBit t 0x0800A0 3) ∧
    ans .ledgerBucket { run .field with radio.windowS := 5, radio.ledger := [{ sec := 0 }, { sec := 1 }], time.raw := 4500000000 } (fun t => t.radio.ledger == [{ sec := 1 }]) ∧
    ans (.nodeAdd 9 false) (air .servitor 0 {} (ch1 .poll 0)) (fun t => t.radio.nodeResult == .mode) ∧
    nodeSuits { air .field 0 {} (ch1 .poll 0) with regs := [(0x080074, 0x1000)] } (stagedNode { air .field 0 {} (ch1 .poll 0) with regs := [(0x080074, 0x1000)] } 9) = true ∧
    ans (.nodeAdd 9 false) { air .field 0 {} (ch1 .poll 0) with regs := [(0x080074, 0x1000)] } (fun t => t.radio.nodeResult == .done && t.radio.nodes == [{ addr := 9, chain := 1 }]) ∧
    ans (.nodeAdd 9 false) (air .field 0 { nodes := [node9 true] } (ch1 .poll 0)) (fun t => t.radio.nodeResult == .exists_) ∧
    ans (.nodeRemove 9 false) (air .field 0 { nodes := [node9 true] } (ch1 .poll 0)) (fun t => t.radio.nodes == [] && t.radio.nodeResult == .done) ∧
    ans (.nodeRemove 8 false) (air .field 0 { nodes := [node9 true] } (ch1 .poll 0)) (fun t => t.radio.nodeResult == .notFound) ∧
    ans (.nodeAdd 9 true) (air .field 0 {} (ch1 .poll 0)) (fun t => t.radio.nodeResult == .busy) ∧
    ans (.forceResync 9 false) (air .field 0 { nodes := [node9 true] } (ch1 .poll 0)) (fun t => t.radio.nodes == [node9 false] && regBit t 0x0800A0 6) := by decide +kernel

/-! ### Quench and permit -/

/-- A running part whose channels are those given. -/
def chans (m : Mode) (a b c : QChannel) (q : Quench) : State := { run m with quench := { q with chs := #v[a, b, c] } }

/-- A healthy channel, latch clear. -/
def ok_ : QChannel := { latch := false, out := true }

theorem witness_Vote :
    votedStop (chans .field ok_ ok_ { ok_ with pair := true } {}) = false ∧ votedStop (chans .field ok_ { ok_ with health := .retired } { ok_ with pair := true } {}) = true ∧
    loneChannel (chans .field ok_ ok_ { ok_ with pair := true } { loneSince := some 4 }) = some 2 ∧
    ans .loneStop (chans .field ok_ ok_ { ok_ with pair := true } { loneSince := some 4 }) (fun t => t.quench.loneDone && t.clk == 10 ^ 7 + 4) := by decide +kernel

theorem witness_PermitConditions :
    let c : SpClass := {}
    let s := { chans .field ok_ ok_ ok_ {} with
      twin := { claimO := true, gateOpen := true }, regs := [(0x090000, 2), (0x090030, 8)]
      setpt := { cfg := { classes := [c], machs := List.replicate 128 (some 0, 0) }, machs := [(3, { means := [{ rungs := 1 }] })] } }
    granted s 3 = true ∧ granted s 4 = false ∧ permits s = 8 ∧ permitDriver s = true ∧ (driveOutputs s).quench.permitOut = true := by decide +kernel

theorem witness_ContactInputs :
    ans (.contactEdge 4 true) (chans .field ok_ ok_ ok_ {}) (fun t => (contact t 4).level && !(contact t 4).active) ∧
    ans (.contactEdge 4 false) { chans .field ok_ ok_ { ok_ with c1 := { level := true } } {} with clk := 1999 } (fun t => countOf t 0x090074 3 == 1) ∧
    ans (.contactAccept 5) (chans .field ok_ ok_ { ok_ with c1 := { level := true, active := true }, c2 := { level := true, edgeAt := 7 }, window := some 3 } {})
      (fun t => (qch t 2).pair && t.clk == 2007) ∧
    ans (.discrepant 2) (chans .field ok_ ok_ { ok_ with c1 := { active := true }, window := some 3 } {}) (fun t => (qch t 2).discrepant && t.clk == 5000003) ∧
    ans (.discrepant 2) (chans .field ok_ ok_ { ok_ with window := some 3 } {}) (fun t => !(qch t 2).discrepant) ∧
    ans (.discrepantClear 2) (chans .field ok_ ok_ { ok_ with discrepant := true } {}) (fun t => !(qch t 2).discrepant) ∧
    ans (.discrepantClear 2) (chans .field ok_ ok_ { ok_ with discrepant := true, c2 := { active := true } } {}) (fun t => (qch t 2).discrepant) := by decide +kernel

theorem witness_VotedQuenchChangesFourModesOnly :
    ans .votedDecision (chans .holdover ok_ ok_ ok_ { deciding := some (.host, 1) }) (fun t => latched t && t.sys.mode == .quenched) ∧
    ans .votedDecision (chans .forming ok_ ok_ ok_ { deciding := some (.host, 1) }) (fun t => latched t && t.sys.mode == .forming) := by decide +kernel

theorem witness_QuenchDecision :
    ans (.quench .host) (chans .field ok_ ok_ ok_ {}) (fun t => t.quench.deciding == some (.host, 1) && hostSource t) ∧
    ans .votedDecision (chans .field ok_ ok_ ok_ { deciding := some (.contact, 240), permitOut := true }) (fun t =>
      latched t && t.sys.mode == .quenched && t.quench.count == 1 && !t.quench.permitOut && !(qch t 0).out && t.quench.cause == .contact) ∧
    ans .votedDecision (chans .servitor ok_ ok_ ok_ { deciding := some (.contact, 240) }) (fun t => latched t && t.sys.mode == .servitor) ∧
    ans .hostSourceEnd (chans .field ok_ ok_ ok_ { hostEnd := some 5 }) (fun t => t.quench.hostEnd == none && t.clk == 5) ∧
    ans .wardenPulseEnd (chans .field ok_ ok_ ok_ { wardenEnd := some 5 }) (fun t => t.quench.wardenEnd == none && t.clk == 5) := by decide +kernel

theorem witness_QuenchFollowUp :
    ans .quenchFrameRepeat (chans .quenched {} {} {} { ethLeft := 4, ethNext := 1 }) (fun t => t.quench.ethLeft == 3 && now t == 10 ^ 7) ∧
    ans .quenchFrameRepeat (chans .quenched ok_ ok_ ok_ { ethLeft := 4 }) (fun t => t.quench.ethLeft == 4) ∧
    ans .reminder (chans .quenched {} {} {} { latchAt := 5 }) (fun t => t.quench.reminders == 1 && t.clk == 60 * 10 ^ 9 + 5) ∧
    ans .permitOutOffDelay (chans .field ok_ ok_ ok_ { permitFall := some 5, permitPin := true }) (fun t => !t.quench.permitPin && t.clk == 100005) := by decide +kernel

theorem witness_ReleaseAndMachineQuench :
    ans (.releaseLatch (.core 2) false) (chans .quenched {} {} {} {}) (fun t => t.quench.result == .denied && latched t) ∧
    ans (.releaseLatch .host false) (chans .quenched ok_ ok_ ok_ {}) (fun t => t.quench.result == .notLatched) ∧
    ans (.releaseLatch .host false) (chans .quenched {} {} { health := .testing } {}) (fun t => t.quench.result == .busy) ∧
    ans (.releaseLatch .host false) (chans .quenched {} { health := .retired } { health := .retired } {}) (fun t => t.quench.result == .degraded) ∧
    ans (.releaseLatch .host false) (chans .quenched {} {} { c1 := { active := true } } {}) (fun t => t.quench.result == .sourceActive && latched t) ∧
    ans (.releaseLatch .host false) (chans .quenched {} {} {} {}) (fun t => t.quench.result == .done && !latched t && t.sys.mode == .quenched) ∧
    ans (.releaseLatch .host true) (chans .quenched {} {} {} {}) (fun t => t.quench.result == .conflictLost && latched t) ∧
    ans (.machRelease .host 3 true) (chans .field ok_ ok_ ok_ { machq := 12 }) (fun t => t.quench.machq == 12 && t.quench.result == .conflictLost) ∧
    ans (.quenchMach 3) (chans .field ok_ ok_ ok_ {}) (fun t => t.quench.machq == 8 && t.quench.count == 1) ∧
    ans (.machRelease .host 3 false) (chans .field ok_ ok_ ok_ { machq := 12 }) (fun t => t.quench.machq == 4) ∧
    ans (.machRelease .warden 3 false) (chans .field ok_ ok_ ok_ { machq := 12 }) (fun t => t.quench.machq == 12 && t.quench.result == .denied) := by decide +kernel

/-! ### Packet switch -/

/-- A graph whose first node is an END node with these actions. -/
def oneNode (a : BitVec 32) : ParseGraph := { nodes := [{ endNode := true, actions := a }] }

/-- A running part with 16 ports, of which the external ones run at 1000 Mbit/s, and queue 0 of each in class c. -/
def ports (c : Nat) (a : BitVec 32) : State :=
  { run .field with
    twin := { claimO := true, gateOpen := true }
    switch := { ports := List.replicate 16 { en := true, mode := 3, maxLen := 1518 }, live := List.replicate 16 { en := true, up := true, speed := 1000 }
                qcfg := (List.range 512).map (fun k => { cls := if k % 32 = 0 then some c else none, weight := 1, high := 4, low := 2 })
                bounds := [20, 100, 500, 1000, 5000, 10000, 50000, 100000], blocks := 64, graph0 := oneNode a, graph1 := oneNode a } }

/-- A frame of 64 bytes whose destination address begins with a byte. -/
def frame64 (b : BitVec 8) : Bytes := withFcs (b :: List.replicate 59 0)

theorem witness_PortsAndLinks :
    let s := ports 4 1
    let q : QFrame := { bytes := frame64 1 }
    let w := setQ 96 (fun x => { x with frames := [q, q] }) s
    ans (.linkUp 3 10) { s with switch.live := List.replicate 16 {} } (fun t => (swPort t 3).speed == 1000 && (swPort t 3).up && regBit t 0x0A0090 1) ∧
    ans (.linkDown 3) w (fun t => !(swPort t 3).up && countOf t 0x0A0024 59 == 2 && openFrames t 3 == []) ∧
    ans (.portEnable 3 false) w (fun t => !(swPort t 3).en && countOf t 0x0A0024 59 == 2) ∧
    ans (.portEnable 3 false) (setPort 3 (fun x => { x with onWire := some (96, q), wireEnd := 9 }) w) (fun t => (swPort t 3).en && (swPort t 3).stopping && (openFrames t 3).length == 3) ∧
    ans (.portEnable 3 true) (setPort 3 (fun x => { x with stopping := true }) w) (fun t => (swPort t 3).pendingEn) := by decide +kernel

theorem witness_FramesIn :
    let s := ports 4 0x101
    let d : TableDesc := { id := 2, content := .mac, pipeMask := 3, excess := .flood }
    let e : LodeEntry := { key := macKey (bytesAt (frame64 6) 0 6) 0, result := .mac 8 0 0 }
    let l := { s with lode := { tables := [d], insts := [{ table := 2, pipe := false, entries := [((0, 0), e)] }] } }
    ans (.frameIngress 1 (frame64 6)) { s with lode.banks := [{ phys := 3, owner := 1, state := .testing }] } (fun t => t.switch.heldIn == [(1, frame64 6, none)] && countOf t 0x0A0024 16 == 1) ∧
    ans (.frameIngress 5 [1, 2]) s (fun t => countOf t 0x0A0024 84 == 1) ∧
    ans (.frameIngress 5 (withFcs [1, 2])) s (fun t => countOf t 0x0A0024 85 == 1) ∧
    ans (.frameIngress 1 (frame64 6)) { s with switch.graph0 := {} } (fun t => countOf t 0x0A0024 23 == 1 && countOf t 0x0A0024 16 == 1) ∧
    ans (.frameIngress 1 (frame64 6)) { s with switch.graph0 := oneNode 0x201 } (fun t => countOf t 0x0A0024 25 == 1 && countOf t 0x0A0024 17 == 64) ∧
    ans (.frameIngress 1 (frame64 6)) l (fun t => (swQ t 96).frames.map (·.bytes) == [frame64 6] && countOf t 0x0A0048 768 == 1 && countOf t 0x0A0024 16 == 1) ∧
    ans (.frameIngress 1 (frame64 6)) { l with switch.blocks := 0 } (fun t => (swQ t 96).frames == [] && (swQ t 96).lastCause == 3) := by decide +kernel

theorem witness_pause :
    ans (.frameIngress 1 (withFcs (List.replicate 12 0 ++ [0x88, 0x08, 0, 1] ++ List.replicate 44 0))) (ports 4 1) (fun t =>
      countOf t 0x0A0024 22 == 1 && countOf t 0x0A0024 16 == 1) := by decide +kernel

theorem witness_Admission :
    let s := ports 0 1
    let f : QFrame := { bytes := frame64 1 }
    refusal (setPort 3 (fun x => { x with speed := 10 }) s) 3 0 f = 1 ∧ refusal s 3 0 f = 0 ∧
    refusal (setPort 3 (fun x => { x with speed := 10 }) s) 3 0 { f with quench := true } = 0 ∧ refusal s 3 1 f = 0xB ∧
    refusal { s with twin := {} } 3 0 f = 5 ∧ refusal (ports 1 1) 3 0 f = 0 := by decide +kernel

/-- One frame in queue 0 of port 3. -/
def held12 (c : Nat) : State := setQ 96 (fun x => { x with frames := [{ bytes := [1] }] }) (ports c 1)

theorem witness_Admission_drop : (dropClaimFrames (held12 1)).1 = 1 ∧ (dropClaimFrames (held12 4)).1 = 0 := by decide +kernel

theorem witness_FramesOut :
    let s := ports 4 1
    let f : QFrame := { bytes := frame64 1 }
    let w := setQ 96 (fun x => { x with frames := [f] }) s
    ans (.frameEgress 3) (setPort 3 (fun x => { x with onWire := some (96, f), wireEnd := 700 }) s) (fun t =>
      t.clk == 700 && (swPort t 3).onWire == none && countOf t 0x0A0024 50 == 1 && countOf t 0x0A0024 51 == 64 && countOf t 0x0A0048 770 == 1) ∧
    ans (.frameEgress 3) w (fun t => (swPort t 3).onWire == some (96, f) && (swPort t 3).wireEnd == 672 && portFrames t 3 == []) ∧
    ans (.frameEgress 3) s (fun t => t == s) ∧ ans (.launch 3) s (fun t => t == s) ∧
    ans (.launch 3) (setQ 96 (fun x => { x with frames := [{ f with launch := some 20000 }] }) s) (fun t =>
      (swPort t 3).onWire == some (96, { f with launch := some 20000 }) && countOf t 0x0A0048 772 == 1 && decide (20000 ≤ now t)) := by decide +kernel

/-! ### Twin redundancy -/

/-- A running part with a twin, not latched. -/
def paired (m : Mode) (x : Twin) : State := { chans13 m with twin := { x with present := true, mirrorSet := 0x3F, staleMs := 20 } }
where
  /-- Latch clear. -/
  chans13 (m : Mode) : State := { run m with quench := { chs := #v[{ latch := false }, { latch := false }, { latch := false }] } }

/-- A header. -/
def hd : FrHead := { claim := true, gated := false, latched := false, unit := true, ready := true, seq := 1, ack := 3 }

theorem witness_ClaimLine :
    ans .claimIFall (paired .servitor { claimI := true }) (fun t => t.twin.claimO && t.sys.mode == .quenched && t.twin.takeover.isSome) ∧
    ans .claimIFall (paired .servitor { claimI := true, pair := .ready, mirror := { pair := some { mode := .field } } }) (fun t => t.sys.mode == .field && t.sys.prev == .servitor) ∧
    ans .claimIFall (paired .servitor { claimI := true, pair := .ready, mirror := { pair := some { mode := .reserve } } }) (fun t => t.sys.mode == .quenched) ∧
    ans .claimIRise (paired .field { claimO := true, gateOpen := true, everOpen := true }) (fun t => t.twin.claimO && !t.twin.gateOpen && t.twin.conflictAt == some 0) ∧
    ans .claimIRise (paired .field { claimO := true, unit := true }) (fun t => !t.twin.claimO && t.sys.mode == .servitor) ∧
    ans .claimIRise (paired .field { claimO := true }) (fun t => t.twin.claimO && t.sys.mode == .field) ∧
    ans .claimConflict (paired .field { claimO := true, claimI := true, conflictAt := some 5 }) (fun t => t.sys.mode == .yielded && t.clk == 4005 && t.fault.lastCode == 0x0B02) ∧
    ans .claimGlitch (paired .field {}) (fun t => countOf t 0x0B0034 9 == 1) ∧
    ans .claimGuardExpire (paired .field { claimO := true, claimOAt := 3 }) (fun t => t.twin.gateOpen && t.clk == 4003) := by decide +kernel

theorem witness_ClaimLine_ends :
    ans .claimGuardExpire (paired .field { claimO := true, claimOAt := 3, takeover := some (0, 0) }) (fun t => t.twin.gateOpen && t.twin.takeover == none) := by
  decide +kernel

theorem witness_FrauriLink :
    ans .linkTrained (paired .field { link := .training, rxSeq := 4 }) (fun t => t.twin.link == .hello && t.twin.rxSeq == 0) ∧
    ans .linkBlockLockLost (paired .field { link := .up, open_ := [.hostq []] }) (fun t => t.twin.link == .testing && t.twin.open_ == []) ∧
    ans (.linkEnWrite 1) (paired .field {}) (fun t => t.twin.link == .training) ∧
    ans (.linkEnWrite 0) (paired .field { link := .up }) (fun t => t.twin.link == .off) ∧
    ans (.hello hd 0x96100010 0 true 0x3F 0) (paired .field { link := .hello }) (fun t => t.twin.keyFault && t.twin.link == .hello) ∧
    ans (.frauriFrameBad true) (paired .field { link := .up, fails := 1 }) (fun t => t.twin.fails == 2 && countOf t 0x0B0034 3 == 1) ∧
    ans (.frauriFrameBad false) (paired .field { link := .up, fails := 2 }) (fun t => t.twin.link == .testing) := by decide +kernel

/-- Keys of the link: slot 5 encrypts and slot 6 decrypts, AES-256. -/
def keyed : State :=
  let s := paired .field { link := .hello }
  let a (u : Nat) : Word := BitVec.ofNat 32 (u + 4 * tyAes256 + 2 ^ mbFrauri + 0x07E00000)
  { s with regs := [(0x0B001C, 5 * 256 + 6)], geode := { fuses := { life := .field }, slots := [(5, { attr := a useEnc }), (6, { attr := a useDec })] } }

theorem witness_FrauriLink_up :
    twinKeys keyed = true ∧
    ans (.hello hd 0x96100010 0 true 0x3F 0) keyed (fun t => t.twin.link == .up && t.twin.pair == .syncing) ∧
    ans (.hello hd 0x96100010 1 true 0x3F 0) keyed (fun t => t.twin.link == .hello && t.twin.pair == .mismatch) := by decide +kernel

theorem witness_FrauriFrames :
    ans (.idle hd) (paired .servitor { link := .up }) (fun t => t.twin.rxSeq == 1 && countOf t 0x0B0034 1 == 1) ∧
    ans (.idle hd) (paired .field { link := .up, pair := .syncing }) (fun t => t.twin.pair == .ready) ∧
    ans (.idle { hd with gated := true }) (paired .field { link := .up, unit := true, claimO := true, gateOpen := true }) (fun t => t.sys.mode == .yielded) ∧
    ans (.idle { hd with seq := 3 }) (paired .servitor { link := .up }) (fun t => t.twin.fails == 1 && t.twin.rxSeq == 0 && t.fr.seq == 1) ∧
    ans (.frauriAck hd) (paired .servitor { link := .up, txFails := 2 }) (fun t => t.twin.txFails == 0) ∧
    ans (.nak hd) (paired .servitor { link := .up, txFails := 1 }) (fun t => t.twin.txFails == 2 && countOf t 0x0B0034 2 == 1) ∧
    ans (.nak hd) (paired .servitor { link := .up, txFails := 2 }) (fun t => t.twin.link == .testing) ∧
    ans (.notice hd) (paired .servitor { link := .up }) (fun t => t.quench.peerEnd == some 0) ∧
    ans (.time hd 0 0) (paired .servitor { link := .up }) (fun t => (dom t false).valid && (dom t true).valid) := by decide +kernel

theorem witness_Mirroring :
    ans (.mirror hd (.hostq [])) (paired .servitor { link := .up }) (fun t => t.twin.open_ == [.hostq []]) ∧
    ans (.mirror hd (.hostq [])) (paired .field { link := .up, pair := .mismatch }) (fun t => t.twin.open_ == []) ∧
    ans (.commit hd 6) (paired .servitor { link := .up, snapDone := true, open_ := [.pair { mode := .field }] }) (fun t =>
      t.twin.peerMode == .field && t.twin.pair == .ready && t.twin.open_ == []) ∧
    ans (.commit hd 2) (paired .servitor { link := .up, snapDone := true, open_ := [.radio { txMax := 7 }] }) (fun t => t.radio.txMax == 7) ∧
    ans (.commit hd 5) (paired .servitor { link := .up, open_ := [.hostq []] }) (fun t => t.twin.groups == [.hostq []] && t.twin.lastCommit == some 0) ∧
    ans (.snapshot hd true (.hostq []) false) (paired .servitor { link := .up, pair := .ready }) (fun t => t.twin.snapshot == [.hostq []] && t.twin.pair == .syncing) ∧
    ans (.snapshot hd false (.hostq []) true) (paired .servitor { link := .up }) (fun t => t.twin.snapDone && t.twin.pair == .ready) ∧
    ans .mirrorStale (paired .servitor { lastCommit := some 1, pair := .ready }) (fun t => t.twin.stale && t.twin.pair == .syncing && t.clk == 20000001) := by decide +kernel

theorem witness_TwinCommands :
    ans (.yield .warden false false) (paired .field {}) (fun t => t.twin.result == .denied) ∧
    ans (.yield .host false false) (paired .field {}) (fun t => t.twin.result == .mode) ∧
    ans (.yield .host false false) (paired .field { claimO := true, gateOpen := true }) (fun t => t.twin.result == .notReady) ∧
    ans (.yield .host false false) (paired .field { claimO := true, gateOpen := true, pair := .ready }) (fun t => t.sys.mode == .yielded && !t.twin.claimO && t.twin.result == .done) ∧
    ans (.yield .host true false) (paired .field {}) (fun t => t.twin.result == .busy) ∧ ans (.resync true) (paired .field {}) (fun t => t.twin.result == .busy) ∧
    ans (.yield .host false true) (paired .field { claimO := true, gateOpen := true, pair := .ready }) (fun t => t.twin.result == .conflictLost) ∧
    ans (.resync false) (paired .field {}) (fun t => t.twin.result == .mode) ∧
    ans (.resync false) (paired .field { claimO := true }) (fun t => t.twin.result == .notReady) ∧
    (paired .field { claimO := true, link := .up, pair := .ready }).twin.link = .up := by decide +kernel

/-! ### Faults and recovery -/

/-- A running part with one resource's record. -/
def with14 (m : Mode) (r : ResRec) : State := { run m with fault := { res := [r] } }

theorem witness_ErrorClasses :
    ans (.errorDetected .lodeBank 3 true false) (run .field) (fun t => countOf t 0x0C0044 0 == 1 && t.sys.mode == .field) ∧
    ans (.errorDetected .ref10 0 false false) (run .field) (fun t => t.sys.mode == .yielded && t.fault.lastCode == 1 && countOf t 0x0C0044 6 == 1) ∧
    ans (.errorDetected .lockstep 0 false false) (run .survey) (fun t => t.sys.mode == .yielded && t.fault.lastCode == 2 && t.aon.lockstep) ∧
    ans (.errorDetected .express 0 false false) (run .field) (fun t => (resOf t .express 0).state == .testing && t.sys.mode == .field) ∧
    ans (.errorDetected .express 0 false false) { run .field with twin := { present := true, claimO := true, pair := .ready } } (fun t =>
      (resOf t .express 0).state == .testing && t.sys.mode == .yielded) ∧
    ans (.errorDetected .core 2 false false) (with14 .field { kind := .core, index := 2, transients := [0, 0, 0] }) (fun t =>
      (resOf t .core 2).state == .retired && t.fault.lastEscalated && countOf t 0x0C0044 4 == 1) ∧
    ans (.errorDetected .filterRead 2 false false) (run .field) (fun t => (resOf t .filterRead 2).state == .healthy && t.fault.lastClass == .transient) ∧
    ans (.errorDetected .chain 1 false false) (with14 .field { kind := .chain, index := 1, state := .testing }) (fun t => (resOf t .chain 1).failTest) := by decide +kernel

theorem witness_SelfTests :
    ans (.selfTestDone .core 2 true) (run .field) (fun t => t == run .field) ∧
    ans (.selfTestDone .core 2 true) (with14 .field { kind := .core, index := 2, state := .testing }) (fun t =>
      (resOf t .core 2).state == .healthy && t.fault.lastClass == .transient && countOf t 0x0C0044 1 == 1) ∧
    ans (.selfTestDone .core 2 true) (with14 .field { kind := .core, index := 2, state := .testing, failTest := true }) (fun t =>
      (resOf t .core 2).state == .retired && t.sys.mode == .field) ∧
    ans (.selfTestDone .express 0 false) (with14 .field { kind := .express, state := .testing }) (fun t => t.sys.mode == .yielded) ∧
    ans (.selfTestDone .quench 1 false) (with14 .field { kind := .quench, index := 1, state := .testing }) (fun t => (qch t 1).health == .retired) := by decide +kernel

theorem witness_ReportsResumeInject :
    let q (f : Fault_) : State := { run .field with fault := f, hostif := { linkUp := true, busMaster := true, eqs := (Vector.replicate 16 {}).set 0 { en := true, state := .run } } }
    let h : State := { run .field with hostif := { cqs := (Vector.replicate 16 {}).set 3 { state := .halted } } }
    ans .culletPost (q {}) (fun t => t == q {}) ∧ ans .culletPost (q { held := [[12]] }) (fun t => t.fault.held == [] && (eq_ t 0).write == 1 && countOf t 0x0C0044 5 == 1) ∧
    ans (.faultResume .warden 8 0) h (fun t => (cq t 3).state == .halted) ∧ ans (.faultResume .host 8 8) h (fun t => (cq t 3).state == .halted) ∧ ans (.faultResume .host 8 0) h (fun t => (cq t 3).state == .run) ∧
    ans (.faultInject 0x0D01 2 true) (run .field) (fun t => t.fault.injectResult == 2) ∧ ans (.faultInject 0x0D02 2 true) (run .maintenance) (fun t => t.fault.injectResult == 3) ∧
    ans (.faultInject 0x0D01 8 true) (run .maintenance) (fun t => t.fault.injectResult == 3) ∧
    ans (.faultInject 0x0D01 2 true) (run .maintenance) (fun t => t.fault.injectResult == 1 && (resOf t .core 2).failTest) := by decide +kernel

/-! ### Field cores -/

/-- A running part with a dispatcher. -/
def disp (d : Dispatch) : State := { run .field with dispatch := { d with groups := List.replicate 16 (1, 0xFF) } }

/-- A task that core 2 may run. -/
def task15 : TaskDesc := { cores := 4, cost := 1 }

/-- A descriptor buffer: level 0, group 0, core 2, VALID and the cost given. -/
def buf15 (cost : Word) : Dispatch := { descBuf := [0, 0, 0, 0, 0x01040000, cost, 0, 0] }

theorem witness_TaskActivations :
    let r : Dispatch := { descs := [(9, task15)] }
    ans (.descWrite 9) (disp (buf15 0)) (fun t => t.dispatch.descResult == 2) ∧
    ans (.descWrite 9) (disp (buf15 1)) (fun t => t.dispatch.descResult == 1 && desc t 9 == some task15) ∧
    ans (.post 9) (disp {}) (fun t => t == disp {}) ∧ ans (.post 9) (disp r) (fun t => actsOf t 9 == 1 && t.dispatch.ready == [9]) ∧
    ans (.cancel 9) (disp { r with acts := [(9, 2)], ready := [9] }) (fun t => actsOf t 9 == 0 && t.dispatch.ready == []) ∧
    ans (.delay .host 9 1) (disp r) (fun t => t.dispatch.delays == [{ task := 9, wake := 0x100000000 }]) ∧
    ans .dispatcherTick (disp { r with delays := [{ task := 9, wake := 0 }] }) (fun t => actsOf t 9 == 1 && t.dispatch.delays == [] && t.time.nextDisp == 1) ∧
    ans (.delayWake 9) (disp { descs := [(9, { task15 with period := 2 })], delays := [{ task := 9, wake := 0 }] }) (fun t =>
      actsOf t 9 == 1 && t.dispatch.delays == [{ task := 9, wake := 20000 }]) ∧
    ans .dispatcherTick (disp { nextGroups := [(3, 7, 1)] }) (fun t => group t 3 == (7, 1) && group t 4 == (1, 0xFF)) ∧
    ans (.bind 4 0x8E000009) (disp r) (fun t => t.dispatch.binds == [{ n := 4, block := 14, task := 9 }]) ∧
    ans (.boundInterrupt 4) { disp { r with binds := [{ n := 4, block := 14, task := 9 }] } with regs := [(0x0E0020, 2), (0x0E0024, 2)] } (fun t => actsOf t 9 == 1) := by decide +kernel

theorem witness_TasksOnCores :
    let r : Dispatch := { descs := [(9, task15), (8, { task15 with level := 3 })], acts := [(8, 1), (9, 2)], ready := [8, 9] }
    let busy : Dispatch := { r with ready := [8], cores := (Vector.replicate 8 {}).set 2 { task := some 9 } }
    ans (.run 4 0) (disp {}) (fun t => (core_ t 2).started && (core_ t 2).run && !(core_ t 1).run) ∧
    ans (.run 0 0) (disp { cores := (Vector.replicate 8 {}).set 2 { run := true, started := true, task := some 1 } }) (fun t => !(core_ t 2).started && (core_ t 2).task == none) ∧
    ans (.run 0 4) (disp { cores := (Vector.replicate 8 {}).set 2 { run := true, started := true } }) (fun t => (core_ t 2).started && (core_ t 2).stopping) ∧
    ans (.run 4 0) (disp { cores := (Vector.replicate 8 {}).set 2 { started := true, stopping := true } }) (fun t => (core_ t 2).stopping && (core_ t 2).run) ∧
    ans (.take 2 (.core 2) 2) (disp r) (fun t => t.rdata == 0x80000009 && t.dispatch.early == [(1, 0)]) ∧
    ans (.take 2 (.core 2) 0) (disp { early := [(2, 7)] }) (fun t => t.rdata == 7 && t.dispatch.early == []) ∧
    ans (.take 2 (.core 2) 0) (disp r) (fun t => t.rdata == 0x80000009 && (core_ t 2).task == some 9 && t.dispatch.ready == [8] && actsOf t 9 == 1) ∧
    ans (.take 2 .host 0) (disp r) (fun t => t.rdata == 0) ∧ ans (.take 3 (.core 3) 0) (disp r) (fun t => t.rdata == 0 && t.dispatch.ready == [8, 9]) ∧
    ans (.done 2 (.core 2) 9) (disp busy) (fun t => (core_ t 2).task == none && t.dispatch.ready == [8, 9]) ∧
    ans (.dispatchYield 2 (.core 2) 9) (disp busy) (fun t => t.dispatch.ready == [9, 8] && actsOf t 9 == 3) ∧
    ans (.dispatchYield 2 (.core 2) 9) (disp { busy with acts := [], cores := (Vector.replicate 8 {}).set 2 { task := some 9, dropped := true } }) (fun t => t.dispatch.ready == [8]) ∧
    ans (.timerCompare 1) { disp {} with regs := [(0x0D0308, 500), (0x0D030C, 0)] } (fun t => now t == 500 && mtip t 1) := by decide +kernel

/-! ### Host interface -/

/-- A running part with a command queue 3 and an event queue 1. -/
def hq (c : CmdQueue) (e : EvtQueue) : State :=
  { run .field with hostif := { linkUp := true, busMaster := true, cqs := (Vector.replicate 16 {}).set 3 c, eqs := (Vector.replicate 16 {}).set 1 e } }

/-- An entry of sequence 5 with a target, an operation and event queue 1. -/
def cent (target op : BitVec 8) : CmdEntry := { seq := 5, raw := padTo 64 ([5, 0, 0, 0, target, 0, 1] ++ List.replicate 9 0 ++ [op]), stamp := 7, passed := false }

/-- A part with a mailbox 2. -/
def mbx (b : Mailbox) : State := { run .field with hostif := { mbs := (Vector.replicate 9 {}).set 2 b, locks := [(4, 4), (5, 1)] } }

theorem witness_MailboxesAndLocks :
    let full : MbDir := { words := [1, 2, 3, 4, 5, 6, 7, 8] }
    ans (.h2cPush 2 .host 9 false) (mbx {}) (fun t => (mb t 2).h2c.words == [9]) ∧
    ans (.h2cPush 2 .host 9 true) (mbx { h2c := full }) (fun t => (mb t 2).h2c.words.length == 9 && !(mb t 2).h2c.collision) ∧
    ans (.c2hPush 2 (.core 2) 9 true) (mbx { c2h := full }) (fun t => (mb t 2).c2h.words.length == 9 && countOf t 0x0E0034 6 == 0) ∧
    ans (.mailboxSideReset 2 true true) (mbx { h2c := full }) (fun t => (mb t 2).h2c.words == [8]) ∧
    ans (.mailboxSideReset 2 false true) (mbx { c2h := full }) (fun t => (mb t 2).c2h.words == [8]) ∧
    ans (.lockAcquire 6 (.core 1) (some .host)) (mbx {}) (fun t => t.rdata == 1 && kget t.hostif.locks 6 == some 1 && t.hostif.lockWon == [6]) ∧
    ans (.lockAcquire 5 .host none) { mbx {} with hostif.lockWon := [5] } (fun t => t.rdata == 0x80000001 && t.hostif.lockWon == []) ∧
    ans (.lockAcquire 6 .host (some (.core 1))) (mbx {}) (fun t => t.rdata == 0x80000001) ∧
    ans (.h2cPush 2 .host 9 false) (mbx { h2c := full }) (fun t => (mb t 2).h2c.words == [1, 2, 3, 4, 5, 6, 7, 9] && (mb t 2).h2c.collision && countOf t 0x0E0034 6 == 1) ∧
    ans (.h2cPush 2 (.core 2) 9 false) (mbx {}) (fun t => (mb t 2).h2c.words == []) ∧
    ans (.c2hPush 2 (.core 2) 9 false) (mbx {}) (fun t => (mb t 2).c2h.words == [9]) ∧ ans (.c2hPush 2 (.core 2) 9 false) (mbx { c2h := full }) (fun t => (mb t 2).c2h.collision) ∧
    ans (.c2hPush 2 .host 9 false) (mbx {}) (fun t => (mb t 2).c2h.words == []) ∧
    ans (.h2cPop 2 (.core 2)) (mbx { h2c := full }) (fun t => t.rdata == 1 && !(mb t 2).h2c.empty) ∧ ans (.h2cPop 2 .host) (mbx { h2c := full }) (fun t => t.rdata == 0) ∧
    ans (.c2hPop 2 .host) (mbx { c2h := { words := [7] } }) (fun t => t.rdata == 7 && (mb t 2).c2h.empty) ∧ ans (.c2hPop 2 .host) (mbx {}) (fun t => t.rdata == 0) ∧
    ans (.mailboxSideReset 2 true false) (mbx { h2c := full, c2h := full }) (fun t => (mb t 2).h2c.rxReset && (mb t 2).c2h.words.length == 8 && t.hostif.locks == [(5, 1)]) ∧
    ans (.mailboxSideReset 2 false false) (mbx { h2c := full, c2h := full }) (fun t => (mb t 2).c2h.rxReset && (mb t 2).h2c.words.length == 8) ∧
    ans (.lockAcquire 5 (.core 1) none) (mbx {}) (fun t => t.rdata == 1) ∧ ans (.lockAcquire 6 (.core 1) none) (mbx {}) (fun t => t.rdata == 0x80000003 && kget t.hostif.locks 6 == some 3) ∧
    ans (.lockFree 4 (.core 2) 0) (mbx {}) (fun t => kget t.hostif.locks 4 == none) ∧ ans (.lockFree 4 .host 0x96100000) (mbx {}) (fun t => kget t.hostif.locks 4 == none) ∧
    ans (.lockFree 4 .host 0) (mbx {}) (fun t => kget t.hostif.locks 4 == some 4) := by decide +kernel

theorem witness_HostResetAndLink :
    ans (.pcieLinkUp 3 2 true) (run .field) (fun t => t.hostif.linkUp && t.hostif.gen == 4 && t.hostif.width == 4) ∧
    ans (.hostReset true) (hq { en := true, state := .run } { en := true, state := .run }) (fun t => !(cq t 3).en && !(eq_ t 1).en && !t.hostif.linkUp) := by decide +kernel

theorem witness_CommandQueues :
    ans (.cqEnable 3 0x81000004) (hq {} {}) (fun t => (cq t 3).en && (cq t 3).commit == 0xFFFFFFFF && (cq t 3).state == .run) ∧
    ans (.cqEnable 3 0x81000004) (hq { state := .retired } {}) (fun t => !(cq t 3).en && (cq t 3).state == .retired) ∧
    ans (.cqEnable 3 0) (hq { en := true, state := .run } {}) (fun t => (cq t 3).state == .off) ∧
    ans (.cqEnable 3 0) (hq { en := true, state := .run, entries := [cent 0x0E 0] } {}) (fun t => (cq t 3).stopping) ∧
    ans (.tailWrite 3 16) (hq { en := true, state := .run } {}) (fun t => (cq t 3).tail == 16) ∧
    ans (.tailWrite 3 17) (hq { en := true, state := .run } {}) (fun t => (cq t 3).tail == 0 && (cq t 3).overfill) ∧
    ans (.entryFetch 3 [0]) (hq { en := true, state := .run, tail := 1 } {}) (fun t => (cq t 3).fetch == 1 && (cq t 3).entries.length == 1 && countOf t 0x0E0034 0 == 1) ∧
    ans (.entryFetch 3 [0]) (hq { en := true, state := .halted, tail := 1 } {}) (fun t => (cq t 3).fetch == 0) ∧
    ans (.cqEnable 3 0x81000004) (hq { stopping := true, state := .run, entries := [cent 0x0E 0] } {}) (fun t => (cq t 3).state == .pending && !(cq t 3).en) ∧
    ans (.entryFetch 3 [0]) { hq { en := true, state := .run, tail := 1 } {} with fault.res := [{ kind := .queueSram, index := 0, state := .testing }] } (fun t => (cq t 3).fetch == 0) ∧
    ans (.flush 3 true) (hq { en := true, state := .run, tail := 4, fetch := 2, commit := 1 } {}) (fun t => (cq t 3).fetch == 4 && (cq t 3).flushed) ∧
    ans (.flush 3 false) (hq { en := true, state := .run, tail := 4, fetch := 2, commit := 1 } {}) (fun t => (cq t 3).fetch == 2) ∧
    ans (.flush 3 false) (hq { en := true, state := .halted, tail := 4 } {}) (fun t => (cq t 3).fetch == 4 && (cq t 3).commit == 3 && (cq t 3).flushed) := by decide +kernel

theorem witness_EntriesCommit :
    let c : CmdQueue := { en := true, state := .run, commit := 4, fetch := 6, tail := 6 }
    let e : EvtQueue := { en := true, state := .run }
    entryCheck (cent 0x0E 2) = 3 ∧ entryCheck (cent 0x0E 1) = 0 ∧
    ans (.commandCommit 3) (hq { c with entries := [cent 0x0E 2] } e) (fun t => (cq t 3).commit == 5 && (eq_ t 1).write == 1) ∧
    ans (.commandCommit 3) (hq { c with entries := [cent 0x0E 2] } { e with owner := 1, write := 16 }) (fun t => (cq t 3).heldComp.length == 1) ∧
    ans (.nop 3) (hq { c with entries := [cent 0x0E 0] } e) (fun t => (cq t 3).commit == 5 && (cq t 3).entries == []) ∧
    ans (.fence 3) (hq { c with entries := [cent 0x0E 1] } e) (fun t => (cq t 3).commit == 5) ∧
    ans (.rxBuf 3) (hq { c with entries := [cent 0x0A 2] } e) (fun t => (cq t 3).commit == 5 && t.hostif.hostPool.length == 1) ∧
    ans (.txFrame 3 []) (hq { c with entries := [cent 0x0A 1] } e) (fun t => (cq t 3).commit == 5) ∧
    ans (.txFrame 3 []) { hq { c with entries := [cent 0x0A 1] } e with lode.banks := [{ state := .testing, owner := 2 }] } (fun t => (cq t 3).commit == 4) ∧
    ans (.nop 3) (hq c e) (fun t => (cq t 3).commit == 4) := by decide +kernel

theorem witness_fence_waits :
    let c : CmdQueue := { en := true, state := .run, commit := 4, fetch := 6, tail := 6 }
    let f : CmdEntry := { cent 0x0E 1 with raw := padTo 64 ([5, 0, 0, 0, 0x0E, 0, 1] ++ List.replicate 9 0 ++ [1, 0, 1]) }
    let s : State := hq { c with entries := [f] } {}
    ans (.fence 3) { s with hostif.cqs := s.hostif.cqs.set 0 { c with entries := [{ cent 0x0E 0 with stamp := 3 }] } } (fun t => (cq t 3).commit == 4) := by decide +kernel

theorem witness_EventQueues :
    let e : EvtQueue := { en := true, state := .run, head := 2, write := 4, ring := [[1], [2]], pend := 2, pendSince := 5, coalUs := 3, coalN := 9 }
    ans (.eqEnable 1 0x81050034) (hq {} {}) (fun t => (eq_ t 1).en && (eq_ t 1).coalN == 5 && (eq_ t 1).coalUs == 3 && (eq_ t 1).sizeLog2 == 4) ∧
    ans (.eqEnable 1 0) (hq {} e) (fun t => (eq_ t 1).state == .off && (eq_ t 1).ring == []) ∧
    ans (.headWrite 1 3) (hq {} e) (fun t => (eq_ t 1).ring == [[2]] && (eq_ t 1).head == 3) ∧ ans (.headWrite 1 5) (hq {} e) (fun t => (eq_ t 1).badHead && (eq_ t 1).head == 2) ∧
    ans (.eventPost 1) (hq { heldComp := [(1, [9])] } e) (fun t => (cq t 3).heldComp == [] && (eq_ t 1).write == 5) ∧
    ans (.eventPost 1) (hq { heldComp := [(1, [9])] } { e with head := 0, write := 16 }) (fun t => (cq t 3).heldComp == [(1, [9])]) ∧
    ans (.coalesceTimeout 1) (hq {} e) (fun t => (eq_ t 1).pend == 0 && t.clk == 3005 && kget t.hostif.msix 1 == some 1) ∧
    (eq_ (postEvent 1 [9] { hq {} {} with hostif := { (hq {} {}).hostif with eqs := (Vector.replicate 16 {}).set 0 e } }) 0).ring.length = 3 := by decide +kernel

/-! ### Geode -/

/-- A running part with a vault. -/
def vault (m : Mode) (g : Geode) : State := { run m with geode := g }

def coreA : Access := { master := .core 0, mmode := false }

/-- The host's buffers with an attribute word. -/
def hostBuf (attr : Word) (value : BitVec 16) : GBufs := { master := .host, keyBuf := [1], attr := attr, value := value, labelLen := 4 }

/-- A key for every master and world in FACTORY, of a usage and type. -/
def key17 (u ty : Nat) : Slot := { attr := BitVec.ofNat 32 (u + 4 * ty + 0x80 + 0x40 + 0x1FFF00 + 0x600000 + 0x7800000), key := List.replicate 32 1 }

theorem witness_SlotUse :
    let s := vault .field { slots := [(3, key17 2 2), (4, {}), (5, { attr := 0x1FFF00 }), (6, { attr := 0x7FFF00 })] }
    slotCheck s 2 8 true 2 [2] = .empty ∧ slotCheck s 4 8 true 2 [2] = .deniedMaster ∧ slotCheck s 5 8 true 2 [2] = .deniedWorld ∧ slotCheck s 6 8 true 2 [2] = .deniedLc ∧
    slotCheck s 3 8 true 1 [2] = .usage ∧ slotCheck s 3 8 true 2 [1] = .type ∧ slotCheck s 3 8 true 2 [2] = .done := by decide +kernel

theorem witness_KeyCommands :
    let g : Geode := { bufs := [hostBuf 8 0], slots := [(3, key17 2 2), (4, key17 0 3)] }
    ans (.writeKey coreA 9 false) (vault .field g) (fun t => t.geode.result == .deniedWorld && countOf t 0x0F0154 1 == 1) ∧
    ans (.writeKey hostA 9 false) (vault .field { g with bufs := [hostBuf 0 0] }) (fun t => t.geode.result == .badParam) ∧
    ans (.writeKey hostA 9 true) (vault .field g) (fun t => t.geode.result == .busy && kget t.geode.slots 9 == none) ∧
    ans (.writeKey hostA 3 false) (vault .field g) (fun t => t.geode.result == .occupied) ∧
    ans (.writeKey hostA 9 false) (vault .field { g with policy := [(9, 0)] }) (fun t => t.geode.result == .attrMismatch) ∧
    ans (.writeKey hostA 9 false) (vault .field g) (fun t => t.geode.result == .done && (kget t.geode.slots 9).isSome && (gbufs t .host).keyBuf == []) ∧
    ans (.erase hostA 3 false) (vault .field g) (fun t => t.geode.result == .done && kget t.geode.slots 3 == none) ∧
    ans (.erase coreA 5 false) (vault .field g) (fun t => t.geode.result == .empty) ∧
    ans (.derive hostA true 0 9 false) (vault .field g) (fun t => t.geode.result == .done && (kget t.geode.slots 9).isSome) ∧
    ans (.wrap hostA 3 4 false) (vault .field g) (fun t => t.geode.result == .done) ∧
    ans (.wrap hostA 3 5 false) (vault .field { g with slots := (5, { attr := 0x7FFF80 }) :: g.slots }) (fun t => t.geode.result == .notExportable) ∧
    ans (.unwrap hostA 3 4 false) (vault .field g) (fun t => t.geode.result == .occupied) ∧
    slotCheck (vault .field g) 3 (masterBit .host) (trusted (vault .field g) hostA) useWrap kekTypes = .done ∧ kget g.slots 9 = none ∧
    ans (.pubkey hostA 4 false) (vault .field g) (fun t => t.geode.result == .done) ∧ ans (.pubkey hostA 3 false) (vault .field g) (fun t => t.geode.result == .type) := by decide +kernel

theorem witness_FuseCommands :
    let g (v : BitVec 16) (l : Life) : Geode := { bufs := [hostBuf 0x01000000 v], slots := [(3, key17 2 2)], fuses := { life := l }, hostOpen := true }
    ans (.addKeyHash coreA false) (vault .reset (g 0 .factory)) (fun t => t.geode.result == .deniedWorld) ∧
    ans (.addKeyHash hostA false) (vault .field (g 0 .factory)) (fun t => t.geode.result == .mode) ∧
    ans (.addKeyHash hostA false) (vault .reset (g 0 .factory)) (fun t => t.geode.result == .done && t.geode.fuses.hashes.length == 2) ∧
    ans (.revokeHash hostA false) (vault .reset (g 0 .factory)) (fun t => t.geode.result == .lastKey) ∧
    ans (.revokeHash hostA false) (vault .reset { g 1 .factory with fuses := { hashes := [{ life := 15 }, { life := 15 }] } }) (fun t => t.geode.result == .done) ∧
    ans (.raiseSecver hostA false) (vault .reset (g 2 .factory)) (fun t => t.geode.result == .badParam) ∧
    ans (.raiseSecver hostA false) { vault .reset (g 2 .factory) with parison := { inForce := 3 } } (fun t => t.geode.result == .done && t.geode.fuses.secMin == 2) ∧
    ans (.lcAdvance hostA false) (vault .reset (g 5 .field)) (fun t => t.geode.fuses.life == .scrapped && t.geode.slots == []) ∧
    ans (.lcAdvance hostA false) (vault .reset (g 2 .factory)) (fun t => t.geode.fuses.life == .owned && !t.geode.hostOpen) ∧
    ans (.lcAdvance hostA false) (vault .maintenance (g 3 .owned)) (fun t => t.geode.fuses.life == .field && t.geode.slots.length == 1) ∧
    ans (.lcAdvance hostA true) (vault .reset (g 5 .field)) (fun t => t.geode.result == .busy && t.geode.fuses.life == .field) ∧
    ans (.lcAdvance hostA false) (vault .reset (g 3 .factory)) (fun t => t.geode.result == .lifeCycle) ∧
    trusted (vault .maintenance (g 4 .field)) hostA = true := by decide +kernel

theorem witness_HostWorld :
    ans (.challengeRead coreA) (vault .field {}) (fun t => t.rdata == 0) ∧ ans (.challengeRead hostA) (vault .field {}) (fun t => t.fresh == 1) ∧
    ans (.closeWorld hostA) (vault .field { hostOpen := true }) (fun t => !t.geode.hostOpen) ∧
    ans (.openWorld hostA) (vault .field { fails := 8 }) (fun t => t.geode.result == .deniedWorld) ∧
    ans (.openWorld hostA) (vault .field { fuses := { life := .blank } }) (fun t => t.geode.fails == 1) ∧
    ans (.maskRenewal 3 1) (vault .field { slots := [(3, {})] }) (fun t => countOf t 0x0F0154 2 == 1) ∧
    ans (.maskRenewal 3 2) (vault .field { slots := [(3, {})] }) (fun t => t.geode.slots == [] && countOf t 0x0F0154 3 == 1) := by decide +kernel

/-! ### Assay -/

/-- A running part whose Assay channel 2 is given, its engine on. -/
def meter (m : Mode) (c : AsChan) (a : Assay) : State := { run m with assay := { a with engine := true, chs := (Vector.replicate 16 {}).set 2 c } }

/-- A counting channel with one quantity of 10.0 units a pulse. -/
def single : AsChan := { mode := .single, en := true, qs := [{ source := .fwd, gain := 0x000A0000, offset := 482315400 }] }

theorem witness_PulsesAndTotals :
    ans (.pinLevelAccept 2 false true) (meter .field single {}) (fun t => (asChan t 2).fwd == 1 && (asChan t 2).dirty && ((asChan t 2).qs.map (·.val)) == [0xA0000]) ∧
    ans (.pinLevelAccept 2 false true) (meter .field { single with mode := .quad, levelB := true } {}) (fun t => (asChan t 2).rev == 1 && regBit t 0x1000A0 2) ∧
    ans (.pinLevelAccept 2 false true) (meter .field { single with countAt := some 0 } {}) (fun t => (asChan t 2).fwd == 0 && countOf t 0x100018 2 == 1 && (asChan t 2).overrun) ∧
    ans (.pinLevelAccept 2 false true) { meter .field { single with countAt := some 0 } {} with clk := 500000 } (fun t => (asChan t 2).fwd == 1) ∧
    ans (.pinLevelAccept 2 false false) (meter .field { single with levelA := true, stuck := true } {}) (fun t => !(asChan t 2).stuck) ∧
    ans (.pinLevelAccept 2 true true) (meter .field single {}) (fun t => (asChan t 2).levelB) ∧
    ans (.pinLevelAccept 2 false true) (meter .field single { supplyFail := true }) (fun t => (asChan t 2).fwd == 0) ∧
    ans (.stuck 2) (meter .field { single with levelA := true, activeAt := 5 } { stuckS := 10 }) (fun t => (asChan t 2).stuck && t.clk == 10000000005) ∧
    ans (.rawTotalStored 2 true) (meter .field { single with fwd := 7, dirty := true } {}) (fun t => (asChan t 2).copy0.fwd == 7 && !(asChan t 2).dirty) ∧
    ans (.rawTotalStored 2 true) (meter .field { single with fwd := 7, dirty := true, copy0 := { seq := 1, good := true } } {}) (fun t => (asChan t 2).copy1.fwd == 7 && (asChan t 2).copy1.seq == 2) ∧
    ans (.rawTotalStored 2 false) (meter .field { single with fwd := 7, dirty := true } {}) (fun t => t.assay.unstored && (asChan t 2).dirty) ∧
    ans (.rawTotalStored 2 true) (meter .field { single with fwd := 7, dirty := true } { unstored := true }) (fun t => !t.assay.unstored && !(asChan t 2).dirty) ∧
    ans .supplyFail (meter .field { single with fwd := 7, dirty := true } {}) (fun t => t.assay.supplyFail && (asChan t 2).copy0.fwd == 7) := by decide +kernel

/-- The worked example of 18_assay_metering.md: base 513,357,670 mL at 3,104,227 pulses gives 513,358,080 mL at 3,104,268. -/
theorem witness_Accumulator :
    let q : Quantity := { source := .fwd, gain := 0x000A0000, base := 513357670 * 65536, baseP := 3104227 }
    valueFrom q 3104268 = 513358080 * 65536 ∧
    (let c : AsChan := { single with fwd := 3104227 }
     valueFrom { q with val := q.base } (c.sourceCount .fwd) = q.base ∧ (stepQuantity (countsForward c) { q with val := q.base }).val = valueFrom q 3104228) := by decide +kernel

theorem witness_AssayCommands :
    let trustedCore : Access := { master := .core 1, mmode := true }
    ans (.checkpoint false) { run .field with assay := {} } (fun t => t.assay.result == .mode) ∧
    ans (.checkpoint false) (meter .field { single with fwd := 3, qs := [{ source := .fwd, val := 9 }] } {}) (fun t => (quantity t 2 0).base == 9 && (quantity t 2 0).baseP == 3) ∧
    ans (.checkpoint true) (meter .field single {}) (fun t => t.assay.result == .busy) ∧
    ans (.rebase { master := .warden, mmode := true } 2 0 false) (meter .field single {}) (fun t => t.assay.result == .denied) ∧
    ans .checkpointTick (meter .field { single with fwd := 3, qs := [{ source := .fwd, val := 9 }] } { ckptMs := 1000 }) (fun t => (quantity t 2 0).base == 9 && t.assay.nextCkpt == 1) ∧
    ans (.rebase trustedCore 2 0 false) (meter .field { single with fwd := 3 } {}) (fun t => t.assay.result == .done && (quantity t 2 0).val == 482315400 * 65536 && (quantity t 2 0).baseP == 3) ∧
    ans (.rebase { trustedCore with mmode := false } 2 0 false) (meter .field single {}) (fun t => t.assay.result == .denied) ∧
    ans (.rebase trustedCore 2 0 false) (meter .servitor single {}) (fun t => t.assay.result == .mode) ∧ ans (.rebase trustedCore 3 0 false) (meter .field single {}) (fun t => t.assay.result == .off) ∧
    ans (.closeInterval false 2 false) (meter .field { single with fwd := 3 } {}) (fun t => t.assay.irecNext == 1 && (asChan t 2).openFwd == 3 && t.assay.irecs.length == 1) ∧
    ans (.closeInterval false 3 false) (meter .field single {}) (fun t => t.assay.result == .off) ∧ ans (.closeInterval true 3 false) (meter .field single {}) (fun t => t.assay.irecNext == 1) ∧
    ans .intervalClose (meter .field single { intervalS := 60 }) (fun t => t.assay.irecNext == 1 && t.assay.nextInt == 1) ∧
    ans .intervalClose (meter .servitor single { intervalS := 60 }) (fun t => t.assay.irecNext == 0) ∧
    ans (.assaySnapshot .host 2) (meter .field { single with fwd := 3 } {}) (fun t => (t.assay.snaps.map (·.fwd)) == [3]) ∧
    ans (.irecSelect 5) (meter .field single { irecs := [{ seq := 5, bytes := [1], good := true }] }) (fun t => t.assay.irecData == [1] && t.assay.irecValid) ∧
    ans (.irecSelect 6) (meter .field single { irecs := [{ seq := 5, bytes := [1], good := true }] }) (fun t => t.assay.irecData == [] && t.assay.irecGone) ∧
    ans (.assayChannelEnable 2 false 7) (meter .field single {}) (fun t => (asChan t 2).shutting && (asChan t 2).en) ∧ ans (.assayChannelEnable 2 false 0) (meter .field single {}) (fun t => !(asChan t 2).en) ∧
    ans (.assayChannelEnable 2 true 0) (meter .field { single with shutting := true, shutAt := 9 } {}) (fun t => (asChan t 2).pendingEn) := by decide +kernel

/-! ### Strata -/

/-- A running part with a recorder. -/
def rec19 (x : Strata) : State := { run .field with strata := x }

/-- An event of a code. -/
def ev19 (code : BitVec 16) (p : BitVec 32) : StEvent := { code := code, p0 := p }

theorem witness_RecordsAreStored :
    let st : Strata := { sizes := some (1024, 12), next := 4097, bedrockFirst := 4097, queue := [ev19 0x40 7] }
    ans (.eventRecord 0x0041 0xF0 1 1 2 3) (rec19 {}) (fun t => t.strata.queue.length == 1 && (t.strata.queue.map (·.p2)) == [3]) ∧
    ans (.eventRecord 0x0041 0xF0 1 1 2 3) (rec19 { queue := List.replicate 256 {} }) (fun t => t.strata.lostDue == 1 && countOf t 0x110028 0 == 1) ∧
    ans (.recordStore true) (rec19 {}) (fun t => t == rec19 {}) ∧
    ans (.recordStore true) (rec19 st) (fun t => t.strata.next == 4098 && (kget t.strata.drift 1).isSome && t.strata.bedrock.length == 1 && t.strata.queue == []) ∧
    ans (.recordStore true) (rec19 { st with bedrockFirst := 3073 }) (fun t => t.strata.bedrock == []) ∧
    ans (.recordStore true) (rec19 { st with lostDue := 2 }) (fun t => (t.strata.queue.map (·.code)) == [0x1141]) ∧
    ans (.recordStore true) (rec19 { st with inCairn := true, cairnFirst := some { ev := ev19 0x1101 0 } }) (fun t => t.strata.cairn.length == 1 && t.strata.cairnFirst.isSome && t.strata.drift == []) ∧
    ans (.recordStore true) (rec19 { st with inCairn := true, cairnFirst := some { ev := ev19 0x1101 0 }, cairn := List.replicate 511 {} }) (fun t =>
      (t.strata.cairnFirst.map (·.ev.code)) == some 0x1101 && t.strata.cairnOver == 1 && (t.strata.cairn.head?.map (·.seq)) == some 4097) ∧
    ans (.recordStore true) (rec19 { st with inCairn := true, queue := [ev19 0x1101 0] }) (fun t => t.strata.cairnFirst.isSome && t.strata.cairn == []) ∧
    ans (.recordStore false) (rec19 st) (fun t => t.strata.inCairn && t.strata.cairn == [{ ev := ev19 0x40 7, seq := 4097 }] && (resOf t .mram 0).state == .testing && t.strata.queue == []) ∧
    ans (.eventRecord 0x0041 0xF0 1 1 2 3) (rec19 { queue := [ev19 0x1140 0] }) (fun t => (t.strata.queue.map (·.code)) == [0x0041, 0x1140]) := by decide +kernel

theorem witness_summaries :
    let sel : StSel := { code := 0x40, pflags := 4, shift := 2, base := 0xFFFFFFFC }
    let x := sumAdd sel (ev19 0x40 0xFFFFFFFF) (emptySum sel)
    x.count = 1 ∧ x.min = 0xFFFFFFFF ∧ x.max = 0xFFFFFFFF ∧ nth x.bins 0 0 = 1 ∧ (sumAdd sel (ev19 0x40 4) x).max = 4 ∧ nth (sumAdd sel (ev19 0x40 4) x).bins 2 0 = 1 := by
  decide +kernel

theorem witness_StrataCommands :
    let st : Strata := { sizes := some (1024, 12), next := 9, queue := [ev19 0x40 7], bedrock := [(0, {})] }
    let m : Access := { master := .core 1, mmode := true }
    ans (.strataClear { m with mmode := false } 7 false) (rec19 st) (fun t => t.strata.result == .denied) ∧ ans (.strataClear m 0 false) (rec19 st) (fun t => t.strata.result == .badParam) ∧
    ans (.strataClear m 7 false) (rec19 { st with inCairn := true }) (fun t => t.strata.result == .busy) ∧
    ans (.strataClear m 7 true) (rec19 st) (fun t => t.strata.result == .busy) ∧
    ans (.strataClear m 1 false) (rec19 st) (fun t => t.strata.result == .done && (t.strata.bedrock.map (·.2.ev.code)) == [0x1140] && t.strata.bedrockFirst == 9 && t.strata.driftFirst == 0) ∧
    ans (.strataClear m 2 false) (rec19 st) (fun t => t.strata.bedrock.length == 2 && t.strata.driftFirst == 9 && t.strata.drift.length == 1) ∧
    ans (.sumSelect 3) (rec19 {}) (fun t => t.strata.window == List.replicate 160 0 && regWord t 0x11002C == 3) ∧
    ans (.sumSelect 0) (rec19 { sumCount := 1, sels := [{ code := 0x41 }], sums := [{}] }) (fun t => t.strata.window.take 1 == [0x41]) := by decide +kernel

/-! ### Pins -/

theorem witness_DriversAndUarts :
    let io (u : Uart) : State := { run .field with ioctl := { uarts := #v[u, {}] } }
    ans (.driverOvercurrent 1) { run .field with quench := { chs := Vector.replicate 3 { latch := false, out := true } } } (fun t =>
      (driver t 1).trip && !(qch t 1).out && (qch t 0).out && !(qch t 1).latch) ∧
    ans (.openLoad 1) { run .field with quench := { chs := Vector.replicate 3 { out := true } } } (fun t => (driver t 1).openLoad && (qch t 1).out) ∧
    ans (.openLoad 1) (run .field) (fun t => !(driver t 1).openLoad) ∧
    ans (.uartTx 0 5) (io {}) (fun t => (uart t 0).tx.map Prod.fst == [5]) ∧ ans (.uartTx 0 5) { io {} with regs := [(0x120050, 0)] } (fun t => (uart t 0).tx == []) ∧
    ans (.uartTx 0 5) (io { tx := List.replicate 64 (1, 9) }) (fun t => (uart t 0).txOvf) ∧
    ans (.uartRxByte 0 5 false false) (io {}) (fun t => (uart t 0).rx == [5]) ∧ ans (.uartRxByte 0 5 true false) (io { rx := List.replicate 64 1 }) (fun t => (uart t 0).rxOvf && (uart t 0).frameErr) ∧
    ans (.uartRxRead 0) (io { rx := [7, 8] }) (fun t => t.rdata == 263 && (uart t 0).rx == [8]) ∧ ans (.uartRxRead 0) (io {}) (fun t => t.rdata == 0) ∧
    ans (.smbusBlockRead 0x1A true) (io {}) (fun t => t.ioctl.smb == .nack) ∧
    ans (.smbusBlockRead 0 false) { io {} with regs := [(0x120070, 0x80000050)] } (fun t => t.ioctl.smb == .block [0x10, 0, 0x10, 0x96] none) ∧
    ans (.assayBFuncWrite 6) { run .field with assay := { chs := (Vector.replicate 16 {}).set 2 { mode := .quad } } } (fun t => !regBit t 0x120030 2 && regBit t 0x120030 1) := by decide +kernel


theorem witness_PinsAndScanChain :
    let s : State := run .field
    ownLevel { s with aon.mainRun := false } (.femPa 1) = .floatLow ∧ ownLevel s (.femPa 1) = .low ∧
    ownLevel { s with radio.chains := Vector.replicate 3 { paPol := true } } (.femPa 1) = .high ∧
    ownLevel { s with regs := [(0x020000, 0x10)], aon.refPresent := true } .ref10Out = .clock ∧ ownLevel s .ref10Out = .low ∧
    pinLevel (tapUpdate [(.quenchOut 0, .low), (.femPa 0, .high)] (tapSelect .extest s)) (.quenchOut 0) = .floating ∧
    pinLevel (tapUpdate [(.quenchOut 0, .low), (.femPa 0, .high)] (tapSelect .extest s)) (.femPa 0) = .high ∧ pinLevel (tapSelect .highz s) (.femPa 0) = .floating ∧
    tapData (tapSelect .idcode s) [] = .idcode 0x196106B7 ∧ scanChain { s with geode.fuses.life := .field } = [.part] ∧
    scanChain { s with geode.fuses.life := .owned } = [.part, .debugModule] := by decide +kernel

/-! ### Well-formed operands: a term that each check refuses, beside one that it takes -/

theorem test_wf_register_offset :
    (Instr.registerWrite hostA 0x000013 .word 0 0).wf = false ∧ (Instr.rcCounterRead hostA 0x000012 .word 0).wf = false ∧
    (Instr.rcCounterRead hostA 0x000013 .byte 0).wf = true ∧ (Instr.rcCounterRead hostA 0x000013 .half 0).wf = false ∧
    (Instr.lowerWordRead hostA 0x000011 .word).wf = false ∧ (Instr.lowerWordRead hostA 0x020008 .word).wf = true := by decide +kernel

theorem test_wf_image_bytes :
    (Instr.headerRead (List.replicate 63 0)).wf = false ∧ (Instr.headerRead (List.replicate 64 0)).wf = true ∧
    (Instr.signatureCheckDone (List.replicate 199 0)).wf = false := by decide +kernel

theorem test_wf_command_entry : (Instr.entryFetch 3 (List.replicate 65 0)).wf = false ∧ (Instr.entryFetch 3 (List.replicate 64 0)).wf = true := by
  decide +kernel

/-- A latch of one channel with n tap magnitudes. -/
def latchOf (ch n : Nat) : ChanMeas :=
  { chan := ch, carrierLock := true, halfCycle := false, slip := false, tow := true, pilot := false, pseudorange := 0, carrier := 0, codePhase := 0
    doppler := 0, cn0 := 0, elev := 0, gloK := 0, azim := 0, mags := List.replicate n 0, los := (0, 0, 0), dist := 0 }

/-- An epoch of these latches. -/
def epochOf (l : List ChanMeas) : EpochMeas := { chans := l, sats := 0, gnssTime := 0, utc := none, spp := none, drift := 0 }

theorem test_wf_epoch :
    (Instr.measurementEpoch (epochOf [latchOf 2 9, latchOf 1 9])).wf = false ∧ (Instr.measurementEpoch (epochOf [latchOf 1 8])).wf = false ∧
    (Instr.measurementEpoch (epochOf [latchOf 1 9, latchOf 2 9])).wf = true := by decide +kernel

/-- A frame of n bytes of PSDU. -/
def rxOf (n : Nat) : RxFrame := { chain := 0, seg := 0, startUs := 0, sfdUs := 0, psdu := List.replicate n 0 }

theorem test_wf_radio_frames :
    (Instr.stopReq (rxOf 256)).wf = false ∧ (Instr.data (rxOf 256)).wf = false ∧ (Instr.ack (rxOf 256)).wf = false ∧ (Instr.poll (rxOf 256)).wf = false ∧
    (Instr.syncReq (rxOf 256)).wf = false ∧ (Instr.gafferBeaconRx (rxOf 256)).wf = false ∧ (Instr.parentBeaconRx (rxOf 256)).wf = false ∧
    (Instr.parentQuenchRx (rxOf 256)).wf = false ∧ (Instr.peerQuenchRx (rxOf 256)).wf = false ∧ (Instr.data (rxOf 255)).wf = true := by decide +kernel

/-! ### The machine as a whole -/

theorem witness_StepRunsTheFrontCommand :
    (match step { run .survey with pending := [.wardenStart, .idle { claim := false, gated := false, latched := false, unit := false, ready := false, seq := 0, ack := 0 }] } with
      | .next t => t.pending.length == 1 && t.aon.wardenUp | _ => false) = true ∧
    (match step State.reset with | .next t => t.clk == 1 | _ => false) = true := by decide +kernel

theorem witness_LatchCopiesAgreeAfterEveryStep :
    (match step { chans .quenched ok_ ok_ ok_ { deciding := some (.host, 1) } with pending := [.votedDecision, .wardenStart] } with
      | .next t => (List.range 3).all (fun k => (qch t k).latch) && t.pending.length == 1 | _ => false) = true ∧
    LatchAgrees (chans .quenched ok_ ok_ ok_ {}) := by
  refine ⟨by decide +kernel, fun j k hj hk => ?_⟩
  have hj : j = 0 ∨ j = 1 ∨ j = 2 := by omega
  have hk : k = 0 ∨ k = 1 ∨ k = 2 := by omega
  rcases hj with rfl | rfl | rfl <;> rcases hk with rfl | rfl | rfl <;> rfl

theorem witness_OnlyTheHostReleases :
    latched (chans .survey {} {} {} {}) = true ∧ ans (.releaseLatch .host false) (chans .survey {} {} {} {}) (fun t => !latched t) = true ∧
    ans (.registerWrite { master := .host, mmode := false } 0x09000C .word 0x96102000 0) (chans .survey {} {} {} {}) (fun t => !latched t) = true ∧
    ans (.registerWrite { master := .core 2, mmode := false } 0x09000C .word 0x96102000 0) (chans .survey {} {} {} {}) latched = true := by decide +kernel

end Tests

end Sys2Proof.Machine
end

section
/-! Register accesses (00_scope.md): lists by key, the register table, writes, counters and shadows. -/

namespace Sys2Proof.Machine

open Sys2Proof

/-! ### Lists by key, the register words and the counters -/

section Keyed

variable {α : Type} (l : List (Nat × α)) (k : Nat) (v : α)

@[simp] theorem kget_kset_same : kget (kset l k v) k = some v := by
  induction l with
  | nil => simp [kset, kget]
  | cons p l ih =>
    unfold kget at ih ⊢
    unfold kset
    split
    · simp
    · split
      · simp
      · next hne => rw [List.find?_cons_of_neg (by simpa using Ne.symm hne), ih]

theorem kget_kset_other {j : Nat} (h : j ≠ k) : kget (kset l k v) j = kget l j := by
  have hk : (k == j) = false := by simpa using h.symm
  induction l with
  | nil => simp [kset, kget, h.symm]
  | cons p l ih =>
    unfold kget at ih ⊢
    unfold kset
    split
    · simp only [List.find?_cons, hk]
    · split
      · next heq => simp only [List.find?_cons, ← heq, hk]
      · simp only [List.find?_cons]
        split
        · rfl
        · exact ih

@[simp] theorem kget_kdel_same : kget (kdel l k) k = none := by simp [kget, kdel]

theorem kget_kdel_other {j : Nat} (h : j ≠ k) : kget (kdel l k) j = kget l j := by
  unfold kget kdel
  rw [List.find?_filter]
  congr 2
  funext p
  by_cases hp : p.1 = j <;> simp [hp, h]

end Keyed

@[simp] theorem regWord_setReg_same (s : State) (off : Nat) (w : Word) : regWord (setReg off w s) off = w := by
  simp only [regWord, setReg, regsPut]
  split
  · next h => simp [h]
  · simp

theorem regWord_setReg_other (s : State) {off o : Nat} (w : Word) (h : o ≠ off) : regWord (setReg off w s) o = regWord s o := by
  simp only [regWord, setReg, regsPut]
  split
  · rw [kget_kdel_other _ _ h]
  · rw [kget_kset_other _ _ _ h]

@[simp] theorem countOf_setCount_same (s : State) (off sel n : Nat) : countOf (setCount off sel n s) off sel = n := by
  simp only [countOf, setCount]
  split
  · next h => simp [h]
  · simp

/-! ### Access codes (R7, R8) -/

/-- The bits that a write may set freely: RW always, RWL while the lock is clear. -/
def freeBit (r : RegRow) (lock : Bool) (i : Nat) : Bool := r.rw.testBit i || (!lock && r.rwl.testBit i)

theorem writtenWord_bit (r : RegRow) (lock : Bool) (old new : Word) {i : Nat} (hi : i < 32) :
    (writtenWord r lock old new).getLsbD i =
      ((if freeBit r lock i then new.getLsbD i else old.getLsbD i) && !(new.getLsbD i && r.w1c.testBit i) ||
        new.getLsbD i && r.w1s.testBit i) := by
  have hm : (BitVec.ofNat 32 (if lock then r.rw else r.rw ||| r.rwl)).getLsbD i = freeBit r lock i := by
    cases lock <;> simp [freeBit, -BitVec.getLsbD_eq_getElem, BitVec.getLsbD_ofNat, hi]
  simp only [writtenWord, BitVec.getLsbD_or, BitVec.getLsbD_and, BitVec.getLsbD_not, hm]
  cases freeBit r lock i <;> simp [-BitVec.getLsbD_eq_getElem, BitVec.getLsbD_ofNat, hi]

theorem testBit_of_disjoint {a b i : Nat} (h : a &&& b = 0) (ha : a.testBit i = true) : b.testBit i = false := by
  simpa [ha] using congrArg (fun n => n.testBit i) h

/-! ### The register table -/

theorem regRow_mem {off : Nat} {r : RegRow} (h : regRow off = some r) :
    r ∈ regTableA ++ regTableB ++ regTableC ++ regTableD ∧ r.has off = true := by
  have h : (regTableA ++ regTableB ++ regTableC ++ regTableD).find? (fun r => r.has off) = some r := by
    simpa [regRow, Option.or_assoc] using h
  exact ⟨List.mem_of_find?_eq_some h, by simpa using List.find?_some h⟩

/-- No row reaches into the offsets between the last block and the MSI-X table. -/
theorem regTable_bounds : ∀ r ∈ regTableA ++ regTableB ++ regTableC ++ regTableD,
    0 < r.stride ∧ (r.base + r.count * r.stride ≤ 0x130000 ∨ 0xF00000 ≤ r.base) := by decide +kernel

theorem regRow_unassigned {off : Nat} (hlo : 0x130000 ≤ off) (hhi : off < 0xF00000) : regRow off = none := by
  by_contra hne
  obtain ⟨r, h⟩ := Option.ne_none_iff_exists'.mp hne
  obtain ⟨hmem, hhas⟩ := regRow_mem h
  obtain ⟨hpos, hb⟩ := regTable_bounds r hmem
  simp only [RegRow.has, Bool.and_eq_true, decide_eq_true_eq] at hhas
  obtain ⟨⟨hbase, -⟩, hcount⟩ := hhas
  have := (Nat.div_lt_iff_lt_mul hpos).mp hcount
  omega

/-- The registers of the plain blocks whose write is a command (SYS_MODE_REQ, SYS_RESET_CTRL, PARISON_CTRL, PARISON_STORE_CTRL,
GNSS_EXCL_CTRL, LODE_ACC_CTRL, FAULT_RESUME, FAULT_INJECT). -/
def commandOffsets : List Nat := [0x08, 0x14, 0x010000, 0x01001C, 0x030080, 0x050030, 0x0C0018, 0x0C0030]

theorem regRow_commandOffsets : ∀ off ∈ commandOffsets, regRow off = none := by decide

/-- The blocks in which a write of a register with a row does nothing but that row's access codes. -/
def plainBlock (off : Nat) : Prop :=
  off / 0x10000 = 0x00 ∨ off / 0x10000 = 0x01 ∨ off / 0x10000 = 0x03 ∨ off / 0x10000 = 0x05 ∨ off / 0x10000 = 0x0C

/-! ### Writes -/

/-- R452: an aligned word of the register space is within a field core's rule. -/
theorem badCoreAccess_word (who : Master) {off : Nat} (hlt : off < 2 ^ 26) (hal : off % 4 = 0) {kind : CoreAcc}
    (hk : kind = .load ∨ kind = .store) : badCoreAccess who off .word kind = none := by
  have hr : ∀ a, 0xF0000000 ≤ a → a ≤ 0xF3FFFFFF → coreRegion a = some .register := by
    intro a hlo hhi
    rw [coreRegion, if_neg (by omega), if_pos ⟨hlo, hhi⟩]
  have hmod : (0xF0000000 + off) % 4 = 0 := by omega
  have hmay : coreMay kind (0xF0000000 + off) Width.word.bytes = true := by
    simp only [coreMay, Width.bytes, hr (0xF0000000 + off) (by omega) (by omega), hr (0xF0000000 + off + 4 - 1) (by omega) (by omega)]
    rcases hk with rfl | rfl <;> simp [hmod]
  rw [badCoreAccess, if_pos hmay]

/-- R452 binds the field cores alone. -/
theorem badCoreAccess_host (off : Nat) (w : Width) (kind : CoreAcc) : badCoreAccess .host off w kind = none := by
  simp [badCoreAccess, coreIndex]

theorem commandWrite_plain (x : Access) {off : Nat} (v : Word) (s : State) {r : RegRow} (hb : plainBlock off)
    (hctrl : off ≠ 0x030000) (hr : regRow off = some r) : commandWrite x off v s = regWrite off v s := by
  have hc : off ∉ commandOffsets := fun hm => by simp [regRow_commandOffsets off hm] at hr
  simp only [commandOffsets, List.mem_cons, List.not_mem_nil, or_false, not_or] at hc
  obtain ⟨hModeReq, hResetCtrl, hParison, hStore, hExcl, hAcc, hResume, hInject⟩ := hc
  rcases hb with hb | hb | hb | hb | hb
  · have ho : off % 0x10000 = off := by omega
    simp only [commandWrite, hb, ho, sysCommand]
    rw [if_neg (fun h => hModeReq h.1), if_neg hResetCtrl]
  · have ho : 0x010000 + off % 0x10000 = off := by omega
    simp only [commandWrite, hb, parisonCommand, ho]
    rw [if_neg (by omega), if_neg (by omega)]
  · have ho : 0x030000 + off % 0x10000 = off := by omega
    simp only [commandWrite, hb, gnssCommand, ho]
    rw [if_neg (by omega), if_neg (by omega)]
  · have ho : 0x050000 + off % 0x10000 = off := by omega
    simp only [commandWrite, hb, lodeCommand, ho]
    rw [if_neg (by omega)]
  · have ho : 0x0C0000 + off % 0x10000 = off := by omega
    simp only [commandWrite, hb, faultCommand, ho]
    rw [if_neg (by omega), if_neg (by omega)]

theorem commandWrite_unassigned (x : Access) {off : Nat} (v : Word) (s : State) (hlo : 0x130000 ≤ off) (hhi : off < 0xF00000) :
    commandWrite x off v s = s := by
  have hw : regWrite off v s = s := by simp [regWrite, regRow_unassigned hlo hhi]
  have hb : busWrite (some x) off v s = s := by
    unfold busWrite
    split
    case h_16 => exact hw
    all_goals omega
  unfold commandWrite
  split
  case h_16 => exact hb
  all_goals omega

theorem heldWord_plain {off : Nat} (old w : Word) (hb : plainBlock off) (hpwr : off ≠ 0x4C) (hjam : off ≠ 0x030038) :
    heldWord off old w = w := by
  unfold plainBlock at hb
  rw [heldWord, if_neg hpwr, if_neg hjam, if_neg (by omega), if_neg (by omega)]

theorem regWrite_plain {off : Nat} (v : Word) (s : State) {r : RegRow} (hb : plainBlock off) (hpwr : off ≠ 0x4C)
    (hjam : off ≠ 0x030038) (hr : regRow off = some r) :
    regWrite off v s = setReg off (writtenWord r (locked s off) (regWord s off) v) s := by
  simp only [regWrite, hr, heldWord_plain _ _ hb hpwr hjam]

/-- An aligned word written by any master. -/
theorem exec_registerWrite_word (who : Access) (off : BitVec 26) (v g : Word) {s : State} (h : Running s) (hal : off.toNat % 4 = 0) :
    exec (.registerWrite who off .word v g) s = .next (commandWrite who off.toNat (v &&& ~~~(g &&& w1cBits off.toNat)) s) := by
  have hb := badCoreAccess_word who.master off.isLt hal (.inr rfl)
  change Host.Outcome.next (bus s _) = _
  rw [bus_run _ h.2.2]
  simp [hb, hal]

/-- R5: the part ignores a host's write that is narrow or misaligned. -/
theorem exec_registerWrite_ignored (who : Access) (off : BitVec 26) {w : Width} (v g : Word) {s : State} (h : Running s)
    (hhost : who.master = .host) (hw : w ≠ .word ∨ off.toNat % 4 ≠ 0) : exec (.registerWrite who off w v g) s = .next s := by
  change Host.Outcome.next (bus s _) = _
  rw [bus_run _ h.2.2]
  simp only [hhost, badCoreAccess_host, if_pos hw]

/-! ### Shadows (R10) -/

/-- A shadow is found for its master and its upper register alone. -/
def isShadow (who : Master) (upper : Nat) (x : Master × Nat × Word) : Bool := x.1 == who && x.2.1 == upper

theorem shadowOf_eq (s : State) (who : Master) (upper : Nat) :
    shadowOf s who upper = (s.shadows.find? (isShadow who upper)).map (fun x => x.2.2) := rfl

theorem find_shadow_filtered (l : List (Master × Nat × Word)) (who : Master) (upper : Nat) :
    (l.filter (fun x => !isShadow who upper x)).find? (isShadow who upper) = none := by simp

@[simp] theorem shadowOf_putShadow_same (who : Master) (upper : Nat) (w : Word) (s : State) :
    shadowOf (putShadow who upper w s) who upper = some w := by
  rw [shadowOf_eq]
  change ((s.shadows.filter (fun x => !isShadow who upper x) ++ [(who, upper, w)]).find? (isShadow who upper)).map _ = _
  rw [List.find?_append, find_shadow_filtered]
  simp [isShadow]

theorem wordRead_of_shadow (x : Access) (off g : Nat) {s : State} {w : Word} (h : shadowOf s x.master off = some w) :
    wordRead x off g s = { s with rdata := w, shadows := s.shadows.filter (fun y => !isShadow x.master off y) } := by
  simp only [wordRead, h]
  rfl

/-! ### Reads -/

@[simp] theorem addressed_word {off : Nat} (v : Word) (hal : off % 4 = 0) : addressed off .word v = v := by
  rw [addressed, hal, Width.bytes, Nat.mul_zero, Nat.pow_zero, Nat.div_one, Nat.mod_eq_of_lt v.isLt, BitVec.ofNat_toNat,
    BitVec.setWidth_eq]

/-- R5: an aligned word read shows the whole register. -/
theorem busRead_word (x : Access) {off : Nat} (g : Nat) (s : State) (hlt : off < 2 ^ 26) (hal : off % 4 = 0) :
    busRead x off .word g s = wordRead x off g s := by
  have ho : off / 4 * 4 = off := by omega
  simp only [busRead, badCoreAccess_word x.master hlt hal (.inl rfl), ho, addressed_word _ hal]

/-- R5: any read by the host is the whole read, of which it returns the addressed bytes. -/
theorem busRead_host {x : Access} (hhost : x.master = .host) (off : Nat) (w : Width) (g : Nat) (s : State) :
    busRead x off w g s =
      { wordRead x (off / 4 * 4) g s with rdata := addressed off w (wordRead x (off / 4 * 4) g s).rdata } := by
  simp only [busRead, hhost, badCoreAccess_host]

theorem exec_lowerWordRead (who : Access) (off : BitVec 26) (w : Width) {s : State} (h : Running s) :
    exec (.lowerWordRead who off w) s = .next (busRead who off.toNat w 0 s) := by
  change Host.Outcome.next (bus s _) = _
  rw [bus_run _ h.2.2]

theorem exec_lowerWordRead_word (who : Access) (off : BitVec 26) {s : State} (h : Running s) (hal : off.toNat % 4 = 0) :
    exec (.lowerWordRead who off .word) s = .next (wordRead who off.toNat 0 s) := by
  rw [exec_lowerWordRead who off .word h, busRead_word who 0 s off.isLt hal]

theorem exec_rcCounterRead_word (who : Access) (off : BitVec 26) (g : Nat) {s : State} (h : Running s) (hal : off.toNat % 4 = 0) :
    exec (.rcCounterRead who off .word g) s = .next (wordRead who off.toNat g s) := by
  change Host.Outcome.next (bus s _) = _
  rw [bus_run _ h.2.2, busRead_word who g s off.isLt hal]

/-! ### Which offsets a read treats in a way of its own -/

/-- The single registers whose read has an effect of its own (R584). -/
def sideOffsets : List Nat := [0x0200CC, 0x020140, 0x02014C, 0x040030, 0x040078, 0x070008, 0x0F0110, 0x12005C, 0x12006C]

/-- Besides those registers, a read has an effect of its own only from 0x100 up in HOSTIF and DISPATCH. -/
theorem sideRead_none (x : Access) {off : Nat} (g : Nat) (hside : off ∉ sideOffsets)
    (hblock : off / 0x10000 = 0x0E ∨ off / 0x10000 = 0x0D → off % 0x10000 < 0x100) : sideRead x off g = none := by
  simp only [sideOffsets, List.mem_cons, List.not_mem_nil, or_false, not_or] at hside
  unfold sideRead
  dsimp only
  rw [if_neg (by omega), if_neg (by omega), if_neg (by omega), if_neg (by omega)]
  split
  case h_10 => rfl
  all_goals omega

/-- The single RC counters of a whole register (R7). -/
def counterOffsets : List Nat :=
  [0x040074, 0x050044, 0x060054, 0x070054, 0x080094, 0x08004C, 0x090074, 0x0A0024, 0x0A0048, 0x0B0034, 0x0C0044, 0x0E0034, 0x0F0154,
    0x100018, 0x110028]

theorem counter_of_cntSel {off sel : Nat} {s : State} (h : cntSel off s = some sel) :
    0x040040 ≤ off ∧ off ≤ 0x040060 ∨ off ∈ counterOffsets := by
  unfold cntSel at h
  split at h
  · next hrange => exact .inl ⟨hrange.1, hrange.2.1⟩
  · right
    split at h
    case h_16 => cases h
    all_goals decide

theorem sideRead_counter (x : Access) {off sel : Nat} (g : Nat) {s : State} (h : cntSel off s = some sel) :
    sideRead x off g = none := by
  have hoff := counter_of_cntSel h
  simp only [counterOffsets, List.mem_cons, List.not_mem_nil, or_false] at hoff
  refine sideRead_none x g ?_ (by omega)
  simp only [sideOffsets, List.mem_cons, List.not_mem_nil, or_false]
  omega

theorem cntSel_unassigned {off : Nat} (s : State) (hlo : 0x130000 ≤ off) : cntSel off s = none := by
  by_contra hne
  obtain ⟨sel, h⟩ := Option.ne_none_iff_exists'.mp hne
  have hoff := counter_of_cntSel h
  simp only [counterOffsets, List.mem_cons, List.not_mem_nil, or_false] at hoff
  omega

theorem wideValue_none_above (s : State) (who : Master) {off : Nat} (hlo : 0x100000 ≤ off) : wideValue s who off = none := by
  have hpair : plainPair off = false := by
    simp only [plainPair, Bool.or_eq_false_iff, Bool.and_eq_false_iff, beq_eq_false_iff_ne, decide_eq_false_iff_not]
    omega
  unfold wideValue
  rw [if_neg (by omega)]
  split
  case h_20 => simp [hpair]
  all_goals omega

theorem blockView_unassigned (s : State) (who : Master) {off : Nat} (hlo : 0x130000 ≤ off) (hhi : off < 0xF00000) :
    blockView s who off = 0 := by
  unfold blockView
  split
  case h_22 => rw [if_neg (by omega), if_neg (by omega)]
  all_goals omega

theorem regView_unassigned (s : State) (who : Master) {off : Nat} (hlo : 0x130000 ≤ off) (hhi : off < 0xF00000) :
    regView s who off = 0 := by
  have hlow : wideValue s who (off - 4) = none := wideValue_none_above s who (by omega)
  simp only [regView, cntSel_unassigned s hlo, wideValue_none_above s who (show 0x100000 ≤ off by omega), hlow, ite_self,
    if_neg (show off ≠ 0x0A0028 by omega), blockView_unassigned s who hlo hhi]

/-- R581: an unassigned offset reads 0, and its read has no effect. -/
theorem wordRead_unassigned (x : Access) {off : Nat} (g : Nat) {s : State} (hlo : 0x130000 ≤ off) (hhi : off < 0xF00000)
    (hsh : shadowOf s x.master off = none) : wordRead x off g s = { s with rdata := 0 } := by
  have hside : sideRead x off g = none := by
    refine sideRead_none x g ?_ (by omega)
    simp only [sideOffsets, List.mem_cons, List.not_mem_nil, or_false]
    omega
  have hwin : inWindows off = false := by
    rw [inWindows, decide_eq_false_iff_not]
    omega
  simp [wordRead, hsh, hside, cntSel_unassigned s hlo, wideValue_none_above s x.master (show 0x100000 ≤ off by omega),
    regView_unassigned s x.master hlo hhi, hwin]

/-- R7, R11: a read of a 32-bit counter within its range. -/
theorem wordRead_counter (x : Access) {off sel : Nat} (g : Nat) {s : State} (hsel : cntSel off s = some sel) (h64 : off ≠ 0x0A0024)
    (hsh : shadowOf s x.master off = none) (hmax : countOf s off sel < 2 ^ 32) :
    wordRead x off g s =
      setCount off sel (min g (countOf s off sel)) { s with rdata := BitVec.ofNat 32 (countOf s off sel - g) } := by
  have hshown : countShown 32 (countOf s off sel - g) = countOf s off sel - g := by
    rw [countShown, if_pos (by omega)]
  simp only [wordRead, hsh, sideRead_counter x g hsel, hsel, readWhole, if_neg h64, hshown]

/-- R10: a read of the lower register of served time. -/
theorem wordRead_now (x : Access) (g : Nat) {s : State} (hsh : shadowOf s x.master 0x020008 = none) :
    wordRead x 0x020008 g s = readLower x.master 0x020008 (now s) s := by
  have hside : sideRead x 0x020008 g = none := sideRead_none x g (by decide) (by decide)
  have hcnt : cntSel 0x020008 s = none := rfl
  have hwide : wideValue s x.master 0x020008 = some (now s) := rfl
  simp only [wordRead, hsh, hside, hcnt, hwide]

/-! ### The clauses of register access -/

theorem writtenWord_follows_codes (r : RegRow) (lock : Bool) (old new : Word) (i : Nat) (hi : i < 32)
    (hRwRwl : r.rw &&& r.rwl = 0) (hRwW1c : r.rw &&& r.w1c = 0) (hRwW1s : r.rw &&& r.w1s = 0) (hRwlW1c : r.rwl &&& r.w1c = 0)
    (hRwlW1s : r.rwl &&& r.w1s = 0) (hW1cW1s : r.w1c &&& r.w1s = 0) :
    (r.rw.testBit i = true → (writtenWord r lock old new).getLsbD i = new.getLsbD i) ∧
    (r.rwl.testBit i = true → (writtenWord r lock old new).getLsbD i = if lock then old.getLsbD i else new.getLsbD i) ∧
    (r.w1c.testBit i = true → (writtenWord r lock old new).getLsbD i = (old.getLsbD i && !new.getLsbD i)) ∧
    (r.w1s.testBit i = true → (writtenWord r lock old new).getLsbD i = (old.getLsbD i || new.getLsbD i)) ∧
    ((r.rw ||| r.rwl ||| r.w1c ||| r.w1s).testBit i = false → (writtenWord r lock old new).getLsbD i = old.getLsbD i) := by
  rw [writtenWord_bit r lock old new hi, freeBit]
  refine ⟨fun h => ?rw, fun h => ?rwl, fun h => ?w1c, fun h => ?w1s, fun h => ?other⟩
  case rw => simp [h, testBit_of_disjoint hRwW1c h, testBit_of_disjoint hRwW1s h]
  case rwl =>
    rw [Nat.and_comm] at hRwRwl
    cases lock <;> simp [h, testBit_of_disjoint hRwRwl h, testBit_of_disjoint hRwlW1c h, testBit_of_disjoint hRwlW1s h]
  case w1c =>
    rw [Nat.and_comm] at hRwW1c hRwlW1c
    simp [h, testBit_of_disjoint hRwW1c h, testBit_of_disjoint hRwlW1c h, testBit_of_disjoint hW1cW1s h]
  case w1s =>
    rw [Nat.and_comm] at hRwW1s hRwlW1s hW1cW1s
    simp [h, testBit_of_disjoint hRwW1s h, testBit_of_disjoint hRwlW1s h, testBit_of_disjoint hW1cW1s h]
  case other =>
    simp only [Nat.testBit_or, Bool.or_eq_false_iff] at h
    obtain ⟨⟨⟨hrw, hrwl⟩, hw1c⟩, hw1s⟩ := h
    simp [hrw, hrwl, hw1c, hw1s]

theorem plain_write_leaves_written_word (s : State) (who : Access) (off : BitVec 26) (v g : Word) (r : RegRow) (h : Running s)
    (hal : off.toNat % 4 = 0) (hb : plainBlock off.toNat) (hpwr : off.toNat ≠ 0x4C) (hctrl : off.toNat ≠ 0x030000)
    (hjam : off.toNat ≠ 0x030038) (hr : regRow off.toNat = some r) :
    After (.registerWrite who off .word v g) s fun t =>
      t = { s with regs := t.regs } ∧
      regWord t off.toNat = writtenWord r (locked s off.toNat) (regWord s off.toNat) (v &&& ~~~(g &&& w1cBits off.toNat)) ∧
      ∀ o, o ≠ off.toNat → regWord t o = regWord s o := by
  refine ⟨_, exec_registerWrite_word who off v g h hal, ?_⟩
  rw [commandWrite_plain who _ s hb hctrl hr, regWrite_plain _ s hb hpwr hjam hr]
  exact ⟨rfl, regWord_setReg_same .., fun o ho => regWord_setReg_other s _ ho⟩

theorem counter_read_clears (s : State) (who : Access) (off : BitVec 26) (sel g : Nat) (h : Running s) (hal : off.toNat % 4 = 0)
    (h64 : off.toNat ≠ 0x0A0024) (hsel : cntSel off.toNat s = some sel) (hsh : shadowOf s who.master off.toNat = none)
    (hmax : countOf s off.toNat sel < 2 ^ 32) :
    After (.rcCounterRead who off .word g) s fun t =>
      t = { s with rdata := BitVec.ofNat 32 (countOf s off.toNat sel - g), counts := t.counts } ∧
      countOf t off.toNat sel = min g (countOf s off.toNat sel) := by
  refine ⟨_, exec_rcCounterRead_word who off g h hal, ?_⟩
  rw [wordRead_counter who g hsel h64 hsh hmax]
  exact ⟨rfl, countOf_setCount_same ..⟩

theorem served_time_read_keeps_upper_bits (s : State) (who : Access) (h : Running s) (hsh : shadowOf s who.master 0x020008 = none) :
    After (.lowerWordRead who 0x020008 .word) s fun t =>
      t = { s with rdata := BitVec.ofNat 32 (now s), shadows := t.shadows } ∧
      shadowOf t who.master 0x02000C = some (BitVec.ofNat 32 (now s / 2 ^ 32)) := by
  have hread := exec_lowerWordRead_word who 0x020008 h (by decide)
  rw [show (0x020008 : BitVec 26).toNat = 0x020008 from rfl, wordRead_now who 0 hsh] at hread
  exact ⟨_, hread, rfl, shadowOf_putShadow_same ..⟩

theorem upper_read_returns_shadow (s : State) (who : Access) (off : BitVec 26) (v : Word) (h : Running s) (hal : off.toNat % 4 = 0)
    (hsh : shadowOf s who.master off.toNat = some v) :
    After (.lowerWordRead who off .word) s fun t =>
      t = { s with rdata := v, shadows := t.shadows } ∧ shadowOf t who.master off.toNat = none := by
  refine ⟨_, exec_lowerWordRead_word who off h hal, ?_⟩
  rw [wordRead_of_shadow who _ 0 hsh]
  exact ⟨rfl, by rw [shadowOf_eq, find_shadow_filtered]; rfl⟩

theorem narrow_read_returns_addressed_bytes (s : State) (who : Access) (off : BitVec 26) (w : Width) (h : Running s)
    (hhost : who.master = .host) :
    ∃ u, exec (.lowerWordRead who (BitVec.ofNat 26 (off.toNat / 4 * 4)) .word) s = .next u ∧
      exec (.lowerWordRead who off w) s = .next { u with rdata := addressed off.toNat w u.rdata } := by
  have hlt : off.toNat < 2 ^ 26 := off.isLt
  have hlow : (BitVec.ofNat 26 (off.toNat / 4 * 4)).toNat = off.toNat / 4 * 4 := by
    rw [BitVec.toNat_ofNat, Nat.mod_eq_of_lt (by omega)]
  refine ⟨wordRead who (off.toNat / 4 * 4) 0 s, ?_, ?_⟩
  · rw [exec_lowerWordRead_word who _ h (by omega), hlow]
  · rw [exec_lowerWordRead who off w h, busRead_host hhost]

end Sys2Proof.Machine

open Sys2Proof Sys2Proof.Machine

/-- Settles O5: each clause from its own lemma, on what a write of one register word, one counter or one shadow leaves. -/
theorem registerAccess : Obligations.RegisterAccess := by
  refine ⟨writtenWord_follows_codes, ?plain, ?ignored, ?unassigned, counter_read_clears, served_time_read_keeps_upper_bits,
    upper_read_returns_shadow, narrow_read_returns_addressed_bytes⟩
  case plain =>
    intro s who off v g r h hal hb hpwr hctrl hjam hr
    exact plain_write_leaves_written_word s who off v g r h hal hb hpwr hctrl hjam hr
  case ignored =>
    intro s who off w v g h hhost hw
    exact exec_registerWrite_ignored who off v g h hhost hw
  case unassigned =>
    intro s who off v g h hhost hal hlo hhi hsh
    rw [exec_registerWrite_word who off v g h hal, exec_lowerWordRead_word who off h hal]
    rw [← hhost] at hsh
    exact ⟨by rw [commandWrite_unassigned who _ s hlo hhi], by rw [wordRead_unassigned who 0 hlo hhi hsh]⟩

end

section
/-! Admission to the packet switch's egress queues (12_packet_switch.md R393 to R400): queues and their frames through
the switch's operations, a refused and an admitted copy, and the frames that a dropped claim discards. -/

namespace Sys2Proof.Machine

open Sys2Proof

/-! ### Register bits that the part raises -/

theorem regBit_eq_getLsbD (s : State) (off i : Nat) : regBit s off i = (regWord s off).getLsbD i := rfl

/-- A bit that is set stays set while the part sets others. -/
theorem regBit_orReg_mono {s : State} {off i : Nat} (o : Nat) (m : Word) (h : regBit s off i = true) :
    regBit (orReg o m s) off i = true := by
  rw [regBit_eq_getLsbD] at h ⊢
  by_cases ho : off = o
  · subst ho
    rw [orReg, regWord_setReg_same, BitVec.getLsbD_or, h, Bool.true_or]
  · rw [orReg, regWord_setReg_other _ _ ho, h]

theorem regBit_raise_same (s : State) {b i : Nat} (hb : intStatusOff b ≠ 0) (hi : i < 32) :
    regBit (raise b i s) (intStatusOff b) i = true := by
  rw [raise, if_neg hb, regBit_eq_getLsbD, orReg, regWord_setReg_same, BitVec.getLsbD_or, BitVec.getLsbD_ofNat]
  simp [hi]

/-! ### Queues through the operations of the switch -/

theorem swQ_congr {s t : State} (h : t.switch = s.switch) (k : Nat) : swQ t k = swQ s k := by rw [swQ, swQ, h]

theorem portFrames_congr {s t : State} (h : t.switch = s.switch) (p : Nat) : portFrames t p = portFrames s p := by
  simp only [portFrames, swQ_congr h]

@[simp] theorem swQ_setQ_same (k : Nat) (f : SwQueue → SwQueue) (s : State) : swQ (setQ k f s) k = f (swQ s k) := by
  simp [swQ, setQ, kmod]

theorem swQ_setQ_other {j k : Nat} (f : SwQueue → SwQueue) (s : State) (h : j ≠ k) : swQ (setQ k f s) j = swQ s j := by
  simp only [swQ, setQ, kmod, kget_kset_other _ _ _ h]

@[simp] theorem swQ_bump (o e : Nat) (s : State) (k : Nat) : swQ (bump o e s) k = swQ s k := rfl

@[simp] theorem swQ_bumpBy (o e n : Nat) (s : State) (k : Nat) : swQ (bumpBy o e n s) k = swQ s k := rfl

@[simp] theorem swQ_setPort (p : Nat) (f : SwPort → SwPort) (s : State) (k : Nat) : swQ (setPort p f s) k = swQ s k := rfl

@[simp] theorem withPause_switch (f : State → State) (s : State) : (withPause f s).switch = (f s).switch := by
  unfold withPause
  dsimp only
  split
  · rfl
  · exact raise_switch ..

/-- The above flag is all that a change of depth sets in a queue. -/
theorem swQ_swAbove_frames (k : Nat) (s : State) (j : Nat) : (swQ (swAbove k s) j).frames = (swQ s j).frames := by
  by_cases h : j = k
  · subst h
    simp [swAbove]
  · rw [swAbove, swQ_setQ_other _ _ h]

theorem swQ_withPause_swAbove_frames (k : Nat) (s : State) (j : Nat) :
    (swQ (withPause (swAbove k) s) j).frames = (swQ s j).frames := by
  rw [swQ_congr (withPause_switch ..), swQ_swAbove_frames]

/-! ### The refusal cause (R394 to R400) -/

theorem refusal_unclassed {s : State} {p q : Nat} (f : QFrame) (h : classOf s (qk p q) = none) : refusal s p q f = 11 := by
  simp only [refusal, h]

/-- A quench frame is refused by no check of a port that is up. -/
theorem refusal_quench {s : State} {p q : Nat} {f : QFrame} (hc : (classOf s (qk p q)).isSome = true) (hup : portUp s p = true)
    (hf : f.quench = true) : refusal s p q f = 0 := by
  obtain ⟨c, hc⟩ := Option.isSome_iff_exists.mp hc
  simp [refusal, hc, hup, hf]

/-- R400: without the claim the gated queues take quench frames only. -/
theorem refusal_unclaimed {s : State} {p q c : Nat} {f : QFrame} (hc : classOf s (qk p q) = some c) (h3 : c ≤ 3) (hp : p < 12)
    (hup : portUp s p = true) (hclaim : s.twin.claimO = false) (hf : f.quench = false) : refusal s p q f = 5 := by
  simp [refusal, hc, hup, hf, h3, hp, claimHeld, hclaim]

/-- R393: an admitted copy leaves by its class's bound. -/
theorem drainPs_le_of_admitted {s : State} {p q c : Nat} {f : QFrame} (hc : classOf s (qk p q) = some c)
    (h : refusal s p q f = 0) (hf : f.quench = false) : drainPs s p c false ≤ boundNs s c * 1000 := by
  by_contra hlt
  rw [not_le] at hlt
  simp only [refusal, hc, hf, Bool.false_eq_true, if_false, if_pos hlt] at h
  split at h
  · omega
  · split at h
    · omega
    · split at h <;> omega

/-! ### A refused copy (R397) -/

@[simp] theorem countNoBuffer_switch (p r : Nat) (f : QFrame) (s : State) : (countNoBuffer p r f s).switch = s.switch := by
  unfold countNoBuffer
  split <;> rfl

theorem refuseCopy_switch (k cause : Nat) (s : State) :
    (refuseCopy k cause s).switch = (setQ k (fun x => { x with lastCause := cause }) s).switch := raise_switch ..

theorem refuseCopy_live (k cause : Nat) (s : State) : (refuseCopy k cause s).switch.live = s.switch.live := by
  rw [refuseCopy_switch]
  rfl

theorem swQ_refuseCopy_same (k cause : Nat) (s : State) : swQ (refuseCopy k cause s) k = { swQ s k with lastCause := cause } := by
  rw [swQ_congr (refuseCopy_switch ..), swQ_setQ_same]

theorem swQ_refuseCopy_other {j k : Nat} (cause : Nat) (s : State) (h : j ≠ k) : swQ (refuseCopy k cause s) j = swQ s j := by
  rw [swQ_congr (refuseCopy_switch ..), swQ_setQ_other _ _ h]

theorem enqueueFrame_refused {s : State} {p q : Nat} {f : QFrame} (h : refusal s p q f ≠ 0) :
    enqueueFrame p q f s = refuseCopy (qk p q) (refusal s p q f) (countNoBuffer p (refusal s p q f) f s) := by
  simp only [enqueueFrame, if_neg h]

/-! ### An admitted copy (R393, R394) -/

theorem enqueueFrame_admitted {s : State} {p q c : Nat} {f : QFrame} (hc : classOf s (qk p q) = some c)
    (h : refusal s p q f = 0) : enqueueFrame p q f s = enqueue p q c f s := by
  simp only [enqueueFrame, if_pos h, hc, Option.getD_some]

/-- A copy as it stands in its queue: its deadline and slack (R393). -/
def queuedCopy (s : State) (p c : Nat) (f : QFrame) : QFrame :=
  { f with deadline := now s + boundNs s c, slack := boundNs s c * 1000 - drainPs s p c f.quench }

/-- A copy does not overtake the frames of its own queue. -/
theorem overtakes_own (s : State) (k c : Nat) (f : QFrame) (h : classOf s k = some c) : overtakes s k c (k, f) = false := by
  simp [overtakes, h]

/-- A frame that is cut off the wire is of another class than DL0, and waits in a queue of its own. -/
theorem swQ_cutWire_dl0 {s : State} {k : Nat} (p : Nat) (h : classOf s k = some 0) : swQ (cutWire p s) k = swQ s k := by
  unfold cutWire
  split
  · next j g _ =>
    split
    · rfl
    · next hj =>
      have hne : k ≠ j := fun he => hj (he ▸ h)
      exact swQ_setQ_other _ _ hne
  · rfl

/-- The frames of one queue of a port lose what a copy takes from their slack (R394). -/
def lowerSlack (p cost : Nat) (s : State) (j : Nat) : State :=
  if (kget s.switch.queues (qk p j)).isNone then s
  else setQ (qk p j) (fun x => { x with frames := x.frames.map (fun (y : QFrame) => { y with slack := y.slack - cost }) }) s

/-- The queues of a port once a copy has overtaken frames (R394). -/
def afterOvertaking (p q c : Nat) (f : QFrame) (s : State) : State :=
  ((List.range 32).filter (fun j => overtakes s (qk p q) c (qk p j, f))).foldl (lowerSlack p (slackCost s p c f)) s

theorem lowerSlack_qcfg (p cost : Nat) (s : State) (j : Nat) : (lowerSlack p cost s j).switch.qcfg = s.switch.qcfg := by
  unfold lowerSlack
  split <;> rfl

theorem swQ_lowerSlack_other {p j k : Nat} (cost : Nat) (s : State) (h : k ≠ qk p j) : swQ (lowerSlack p cost s j) k = swQ s k := by
  unfold lowerSlack
  split
  · rfl
  · exact swQ_setQ_other _ _ h

theorem classOf_afterOvertaking (p q c : Nat) (f : QFrame) (s : State) (k : Nat) :
    classOf (afterOvertaking p q c f s) k = classOf s k := by
  have hcfg : (afterOvertaking p q c f s).switch.qcfg = s.switch.qcfg :=
    foldl_keep (fun t : State => t.switch.qcfg) (lowerSlack_qcfg p _) _ s
  rw [classOf, classOf, queueCfg, queueCfg, hcfg]

theorem swQ_afterOvertaking_own {p q c : Nat} (f : QFrame) {s : State} (h : classOf s (qk p q) = some c) :
    swQ (afterOvertaking p q c f s) (qk p q) = swQ s (qk p q) := by
  refine List.foldlRecOn (motive := fun t : State => swQ t (qk p q) = swQ s (qk p q)) _ _ rfl fun t ht j hj => ?_
  have hne : qk p q ≠ qk p j := by
    intro he
    have hov := (List.mem_filter.mp hj).2
    rw [← he, overtakes_own s _ c f h] at hov
    cases hov
  rw [swQ_lowerSlack_other _ _ hne, ht]

/-- Admission as its parts: overtaking, the frame on the wire, the copy's own queue, and a cut of the wire by DL0. -/
theorem enqueue_eq (p q c : Nat) (f : QFrame) (s : State) : ∃ w t,
    t = bumpQ (qk p q) 0 (withPause (swAbove (qk p q))
      (setQ (qk p q) (fun x => { x with frames := x.frames ++ [queuedCopy s p c f] }) (setPort p w (afterOvertaking p q c f s)))) ∧
    enqueue p q c f s = if c = 0 then cutWire p t else t := ⟨_, _, rfl, rfl⟩

/-- R393: an admitted copy stands last in its queue. -/
theorem frames_enqueue {p q c : Nat} (f : QFrame) {s : State} (h : classOf s (qk p q) = some c) :
    (swQ (enqueue p q c f s) (qk p q)).frames = (swQ s (qk p q)).frames ++ [queuedCopy s p c f] := by
  obtain ⟨w, t, ht, he⟩ := enqueue_eq p q c f s
  have hframes : (swQ t (qk p q)).frames = (swQ s (qk p q)).frames ++ [queuedCopy s p c f] := by
    rw [ht, bumpQ, swQ_bump, swQ_withPause_swAbove_frames, swQ_setQ_same, swQ_setPort, swQ_afterOvertaking_own f h]
  have hclass : classOf t (qk p q) = some c := by
    rw [← h, ← classOf_afterOvertaking p q c f s, ht, classOf, classOf, queueCfg, queueCfg, bumpQ, bump_switch, withPause_switch]
    rfl
  rw [he]
  split
  · next hc => rw [swQ_cutWire_dl0 p (hc ▸ hclass), hframes]
  · exact hframes

/-! ### Frames that a dropped claim discards (R400) -/

/-- Steps that each filter one of several lists and leave the others, taken for the indices of a list. -/
theorem foldl_filter {σ β : Type} (g : σ → Nat → List β) (P : Nat → β → Bool) {step : σ → Nat → σ} {inRange : Nat → Prop}
    (hsame : ∀ t i, g (step t i) i = (g t i).filter (P i)) (hother : ∀ t i j, inRange i → inRange j → j ≠ i → g (step t i) j = g t j)
    (l : List Nat) (hl : ∀ i ∈ l, inRange i) (t : σ) {j : Nat} (hj : inRange j) :
    g (l.foldl step t) j = if j ∈ l then (g t j).filter (P j) else g t j := by
  induction l generalizing t with
  | nil => simp
  | cons i l ih =>
    rw [List.foldl_cons, ih (fun x hx => hl x (List.mem_cons_of_mem i hx))]
    by_cases hi : j = i
    · subst hi
      simp [hsame]
    · simp [hother t i j (hl i List.mem_cons_self) hj hi, hi]

/-- What a discard does to one queue of a port. -/
def discardQueue (p ev : Nat) (drop : Nat → QFrame → Bool) (s : State) (q : Nat) : State :=
  withPause (swAbove (qk p q)) (bumpBy 0x0A0048 (3 + 8 * qk p q) ((swQ s (qk p q)).frames.filter (drop (qk p q))).length
    (bumpBy 0x0A0024 (ev + 16 * p) ((swQ s (qk p q)).frames.filter (drop (qk p q))).length
      (setQ (qk p q) (fun x => { x with frames := x.frames.filter (fun f => !(drop (qk p q) f)) }) s)))

theorem discardFrames_eq (p ev : Nat) (drop : Nat → QFrame → Bool) (s : State) : discardFrames p ev drop s =
    ((List.range 32).filter (fun q => (swQ s (qk p q)).frames.any (drop (qk p q)))).foldl (discardQueue p ev drop) s := rfl

theorem frames_discardQueue_same (p ev : Nat) (drop : Nat → QFrame → Bool) (s : State) (q : Nat) :
    (swQ (discardQueue p ev drop s q) (qk p q)).frames = (swQ s (qk p q)).frames.filter (fun f => !drop (qk p q) f) := by
  rw [discardQueue, swQ_withPause_swAbove_frames, swQ_bumpBy, swQ_bumpBy, swQ_setQ_same]

theorem frames_discardQueue_other {p q k : Nat} (ev : Nat) (drop : Nat → QFrame → Bool) (s : State) (h : k ≠ qk p q) :
    (swQ (discardQueue p ev drop s q) k).frames = (swQ s k).frames := by
  rw [discardQueue, swQ_withPause_swAbove_frames, swQ_bumpBy, swQ_bumpBy, swQ_setQ_other _ _ h]

theorem qk_inj {p q p' q' : Nat} (hq : q < 32) (hq' : q' < 32) : qk p q = qk p' q' ↔ p = p' ∧ q = q' := by
  simp only [qk]
  omega

theorem frames_discardFrames_same (p ev : Nat) (drop : Nat → QFrame → Bool) (s : State) {q : Nat} (hq : q < 32) :
    (swQ (discardFrames p ev drop s) (qk p q)).frames = (swQ s (qk p q)).frames.filter (fun f => !drop (qk p q) f) := by
  rw [discardFrames_eq, foldl_filter (fun t q => (swQ t (qk p q)).frames) (fun q f => !drop (qk p q) f) (inRange := fun q => q < 32)
    (frames_discardQueue_same p ev drop)
    (fun t i j hi hj hne => frames_discardQueue_other ev drop t (fun he => hne ((qk_inj hj hi).mp he).2))
    _ (fun i hi => List.mem_range.mp (List.mem_filter.mp hi).1) s hq]
  split
  · rfl
  · next hnone =>
    simp only [List.mem_filter, List.mem_range, hq, true_and, List.any_eq_true, not_exists, not_and] at hnone
    exact (List.filter_eq_self.mpr fun f hf => by simpa using hnone f hf).symm

theorem frames_discardFrames_other {p p' q : Nat} (ev : Nat) (drop : Nat → QFrame → Bool) (s : State) (hp : p' ≠ p) (hq : q < 32) :
    (swQ (discardFrames p ev drop s) (qk p' q)).frames = (swQ s (qk p' q)).frames := by
  rw [discardFrames_eq]
  refine List.foldlRecOn (motive := fun t : State => (swQ t (qk p' q)).frames = (swQ s (qk p' q)).frames) _ _ rfl fun t ht j hj => ?_
  have hj32 := List.mem_range.mp (List.mem_filter.mp hj).1
  rw [frames_discardQueue_other ev drop t (fun he => hp ((qk_inj hq hj32).mp he).1), ht]

theorem portFrames_discardFrames_same (p ev : Nat) (drop : Nat → QFrame → Bool) (s : State) :
    portFrames (discardFrames p ev drop s) p = (portFrames s p).filter (fun x => !drop x.1 x.2) := by
  rw [portFrames, portFrames, List.filter_flatMap]
  refine List.flatMap_congr fun q hq => ?_
  rw [frames_discardFrames_same p ev drop s (List.mem_range.mp hq), List.filter_map]
  rfl

theorem portFrames_discardFrames_other {p p' : Nat} (ev : Nat) (drop : Nat → QFrame → Bool) (s : State) (hp : p' ≠ p) :
    portFrames (discardFrames p ev drop s) p' = portFrames s p' := by
  refine List.flatMap_congr fun q hq => ?_
  rw [frames_discardFrames_other ev drop s hp (List.mem_range.mp hq)]

/-- R400: the claim drops. Ports 0 to 11 lose their gated frames, and no port another. -/
theorem portFrames_dropClaimFrames (s : State) (p : Nat) : portFrames (dropClaimFrames s).2 p =
    if p < 12 then (portFrames s p).filter (fun x => !gatedFrame s x.1 x.2) else portFrames s p := by
  have hfold : portFrames ((List.range 12).foldl (fun t p => discardFrames p 13 (gatedFrame s) t) s) p =
      if p < 12 then (portFrames s p).filter (fun x => !gatedFrame s x.1 x.2) else portFrames s p := by
    rw [foldl_filter portFrames (fun _ x => !gatedFrame s x.1 x.2) (inRange := fun _ => True)
      (fun t i => portFrames_discardFrames_same i 13 _ t) (fun t i j _ _ h => portFrames_discardFrames_other 13 _ t h)
      _ (fun _ _ => trivial) s trivial]
    simp only [List.mem_range]
  rw [← hfold]
  simp only [dropClaimFrames]
  split
  · rfl
  · exact portFrames_congr (raise_switch ..) p

theorem gatedFrame_eq_false_iff (s : State) (k : Nat) (f : QFrame) :
    gatedFrame s k f = false ↔ f.quench = true ∨ ¬ ∃ c, classOf s k = some c ∧ c ≤ 3 := by
  cases hc : classOf s k with
  | none => simp [gatedFrame, hc]
  | some c => cases hq : f.quench <;> simp [gatedFrame, hc, hq]

end Sys2Proof.Machine

open Sys2Proof Sys2Proof.Machine

/-- Settles O43: the refused copy, the admitted copy and the dropped claim each from the lemma on what they leave in the queues. -/
theorem admission : Obligations.Admission := by
  refine ⟨?refused, ?admitted, fun s p q f hc hup hf => refusal_quench hc hup hf, fun s p q f hc => refusal_unclassed f hc,
    fun s p q c f hc h3 hp hup hclaim hf => refusal_unclaimed hc h3 hp hup hclaim hf, ?dropped, ?left⟩
  case refused =>
    intro s p q f h
    have hnb : ∀ k, swQ (countNoBuffer p (refusal s p q f) f s) k = swQ s k := swQ_congr (countNoBuffer_switch ..)
    rw [enqueueFrame_refused h, swQ_refuseCopy_same, hnb]
    refine ⟨rfl, rfl, regBit_raise_same _ (b := bSWITCH) (by decide) (by decide), fun k hk => ?_, ?_⟩
    · rw [swQ_refuseCopy_other _ _ hk, hnb]
    · rw [refuseCopy_live, countNoBuffer_switch]
  case admitted =>
    intro s p q c f hc h
    rw [enqueueFrame_admitted hc h]
    refine ⟨queuedCopy s p c f, frames_enqueue f hc, rfl, rfl, fun hf => ?_⟩
    have hle := drainPs_le_of_admitted hc h hf
    refine ⟨hle, ?_⟩
    rw [queuedCopy, hf, Nat.sub_add_cancel hle]
  case dropped =>
    intro s p k f hp hmem
    rw [portFrames_dropClaimFrames, if_pos hp, List.mem_filter, Bool.not_eq_true'] at hmem
    exact (gatedFrame_eq_false_iff s k f).mp hmem.2
  case left =>
    intro s p k f hmem hstay
    have hkeep : gatedFrame s k f = false := by
      refine (gatedFrame_eq_false_iff s k f).mpr (hstay.imp_right ?_)
      rintro ⟨c, hc, h3⟩ ⟨c', hc', h3'⟩
      rw [hc, Option.some.injEq] at hc'
      omega
    rw [portFrames_dropClaimFrames]
    split
    · exact List.mem_filter.mpr ⟨hmem, by rw [hkeep]; rfl⟩
    · exact hmem

end

section
/-! The quench channels, the stop outputs and the permits (11_quench_permit.md R353 to R371): what each shared operation
leaves of them. -/

namespace Sys2Proof.Machine

open Sys2Proof

/-! ### The copies of the latch and the vote -/

theorem vget_vmod_same {α : Type} {n : Nat} (v : Vector α n) {i : Nat} (f : α → α) (d : α) (h : i < n) :
    vget (vmod v i f) i d = f (vget v i d) := by
  simp [vget, vmod, h]

theorem vget_vmod_other {α : Type} {n : Nat} (v : Vector α n) {i j : Nat} (f : α → α) (d : α) (h : j ≠ i) :
    vget (vmod v i f) j d = vget v j d := by
  unfold vget vmod
  split
  · split
    · rw [Vector.getElem_set_ne _ _ h.symm]
    · rfl
  · rfl

@[simp] theorem qch_setQch_same (s : State) {k : Nat} (f : QChannel → QChannel) (h : k < 3) : qch (setQch k f s) k = f (qch s k) :=
  vget_vmod_same _ f _ h

theorem qch_setQch_other (s : State) {j k : Nat} (f : QChannel → QChannel) (h : j ≠ k) : qch (setQch k f s) j = qch s j :=
  vget_vmod_other _ f _ h

/-- A channel's latch is its copy; past the third channel the default shows. -/
theorem qch_latch (s : State) (k : Nat) : (qch s k).latch = vget (latchCopies s) k true := by
  unfold qch vget latchCopies
  split <;> simp

theorem qch_latch_congr {s t : State} (h : latchCopies t = latchCopies s) (k : Nat) : (qch t k).latch = (qch s k).latch := by
  rw [qch_latch, qch_latch, h]

theorem latched_congr {s t : State} (h : latchCopies t = latchCopies s) : latched t = latched s := by
  simp only [latched, qch_latch_congr h]

theorem latched_eq_false_iff (s : State) : latched s = false ↔ ∀ k, k < 3 → (qch s k).latch = false := by
  simp [latched]

theorem qch_latch_of_copies_set {s : State} (h : latchCopies s = Vector.replicate 3 true) (k : Nat) : (qch s k).latch = true := by
  rw [qch_latch, h]
  unfold vget
  split <;> simp

theorem latched_of_copies_set {s : State} (h : latchCopies s = Vector.replicate 3 true) : latched s = true := by
  simp only [latched, List.any_eq_true]
  exact ⟨0, by decide, qch_latch_of_copies_set h 0⟩

theorem votedStop_of_all {s : State} (h : ∀ k, presentsStop s k = true) : votedStop s = true := by
  rw [votedStop, List.filter_eq_self.mpr fun k _ => h k]
  rfl

theorem votedStop_of_hostSource {s : State} (h : hostSource s = true) : votedStop s = true :=
  votedStop_of_all fun k => by simp [presentsStop, resultStop, sourceOn, h]

theorem votedStop_of_copies_set {s : State} (h : latchCopies s = Vector.replicate 3 true) : votedStop s = true :=
  votedStop_of_all fun k => by simp [presentsStop, resultStop, qch_latch_of_copies_set h k]

/-! ### What the stop outputs leave of the quench block -/

/-- The quench block without what its outputs show: the channels, the lone result, and PERMIT_OUT. -/
def Quench.inner (q : Quench) : Quench :=
  { q with chs := Vector.replicate 3 {}, loneSince := none, loneDone := false, permitOut := false, permitPin := false, permitFall := none }

theorem trackLone_chs (s : State) : (trackLone s).quench.chs = s.quench.chs := by
  unfold trackLone
  split <;> rfl

theorem trackLone_inner (s : State) : (trackLone s).quench.inner = s.quench.inner := by
  unfold trackLone
  split <;> rfl

/-- One relay output follows the voters as they stand in a state s (R361, R564). -/
def driveRelay (s t : State) (k : Nat) : State :=
  let u := setDriver k (fun x => x.follow (presentsStop s k)) t
  setQch k (fun c => { c with out := outNext s k && !(driver u k).held }) u

theorem driveRelays_eq (s : State) : driveRelays s = (List.range 3).foldl (driveRelay s) s := rfl

theorem driveRelays_inner (s : State) : (driveRelays s).quench.inner = s.quench.inner := by
  rw [driveRelays_eq]
  exact foldl_keep (fun t : State => t.quench.inner) (f := driveRelay s) (fun _ _ => rfl) _ s

theorem drivePermit_chs (s : State) : (drivePermit s).quench.chs = s.quench.chs := by
  simp only [drivePermit]
  split
  · rfl
  · split <;> rfl

theorem drivePermit_inner (s : State) : (drivePermit s).quench.inner = s.quench.inner := by
  simp only [drivePermit]
  split
  · rfl
  · split <;> rfl

theorem driveOutputs_inner (s : State) : (driveOutputs s).quench.inner = s.quench.inner := by
  rw [driveOutputs, drivePermit_inner, driveRelays_inner, trackLone_inner]

theorem latchCopies_setQch (s : State) (k : Nat) {f : QChannel → QChannel} (h : ∀ x, (f x).latch = x.latch) :
    latchCopies (setQch k f s) = latchCopies s := by
  unfold latchCopies setQch vmod
  dsimp only
  split
  · rw [Vector.map_set, h, ← Vector.getElem_map QChannel.latch, Vector.set_getElem_self]
  · rfl

@[simp] theorem trackLone_latchCopies (s : State) : latchCopies (trackLone s) = latchCopies s := by
  rw [latchCopies, trackLone_chs, latchCopies]

@[simp] theorem driveRelays_latchCopies (s : State) : latchCopies (driveRelays s) = latchCopies s := by
  rw [driveRelays_eq]
  exact foldl_keep latchCopies (f := driveRelay s) (fun t k => latchCopies_setQch _ k fun _ => rfl) _ s

@[simp] theorem drivePermit_latchCopies (s : State) : latchCopies (drivePermit s) = latchCopies s := by
  rw [latchCopies, drivePermit_chs, latchCopies]

@[simp] theorem driveOutputs_latchCopies (s : State) : latchCopies (driveOutputs s) = latchCopies s := by
  rw [driveOutputs, drivePermit_latchCopies, driveRelays_latchCopies, trackLone_latchCopies]

/-! ### The outputs (R361, R363) -/

/-- R361: a channel's output stays off while the vote is STOP. -/
theorem outNext_of_votedStop {s : State} (h : votedStop s = true) (k : Nat) : outNext s k = false := by
  unfold outNext
  split <;> simp [h]

theorem qch_driveRelay_other (s t : State) {j k : Nat} (h : j ≠ k) : qch (driveRelay s t k) j = qch t j :=
  qch_setQch_other _ _ h

theorem driveRelay_out_of_votedStop {s : State} (h : votedStop s = true) (t : State) {k : Nat} (hk : k < 3) :
    (qch (driveRelay s t k) k).out = false := by
  rw [driveRelay, qch_setQch_same _ _ hk, outNext_of_votedStop h, Bool.false_and]

theorem foldl_driveRelay_out_of_votedStop {s : State} (h : votedStop s = true) {k : Nat} (hk : k < 3) (l : List Nat) {t : State}
    (ht : k ∈ l ∨ (qch t k).out = false) : (qch (l.foldl (driveRelay s) t) k).out = false := by
  induction l generalizing t with
  | nil => exact ht.resolve_left List.not_mem_nil
  | cons j l ih =>
    refine ih ?_
    by_cases hj : k = j
    · subst hj
      exact .inr (driveRelay_out_of_votedStop h t hk)
    · rw [qch_driveRelay_other s t hj]
      exact ht.imp_left fun hmem => (List.mem_cons.mp hmem).resolve_left hj

/-- R361: every relay output is off while the vote is STOP. -/
theorem qch_driveRelays_out_of_votedStop {s : State} (h : votedStop s = true) {k : Nat} (hk : k < 3) :
    (qch (driveRelays s) k).out = false :=
  foldl_driveRelay_out_of_votedStop h hk _ (.inl (List.mem_range.mpr hk))

theorem drivePermit_permitOut (s : State) :
    (drivePermit s).quench.permitOut = (permitDriver s && !(driver (drivePermit s) 3).held) := by
  simp only [drivePermit]
  split
  · next h => exact h.symm
  · split
    · next h => exact h.symm
    · next h => exact (Bool.eq_false_iff.mpr h).symm

/-- What the PERMIT_OUT driver rests on. -/
theorem permitDriver_congr {s t : State} (hlatch : latchCopies t = latchCopies s) (hsys : t.sys = s.sys) (htwin : t.twin = s.twin)
    (hregs : t.regs = s.regs) : permitDriver t = permitDriver s := by
  simp only [permitDriver, latched_congr hlatch, hsys, htwin, regBit, regWord, hregs]

theorem driveOutputs_permitOut (s : State) :
    (driveOutputs s).quench.permitOut = (permitDriver s && !(driver (driveOutputs s) 3).held) := by
  have hdriver : permitDriver (driveRelays (trackLone s)) = permitDriver s := permitDriver_congr (by simp) (by simp) (by simp) (by simp)
  rw [driveOutputs, drivePermit_permitOut, hdriver]

/-! ### Permits (R33, R371) -/

theorem permitMode_iff (s : State) : permitMode s = true ↔ s.sys.mode = .field ∨ s.sys.mode = .holdover ∨ s.sys.mode = .anneal := by
  simp [permitMode, or_assoc]

theorem granted_iff (s : State) (m : Nat) : granted s m = true ↔
    (s.sys.mode = .field ∨ s.sys.mode = .holdover ∨ s.sys.mode = .anneal) ∧ s.twin.claimO = true ∧ (∀ k, k < 3 → (qch s k).latch = false) ∧
    regBit s (0x090030 + 4 * (m / 32)) (m % 32) = true ∧ planable s m = true ∧ s.quench.machq.toNat.testBit m = false ∧
    ¬ (s.sys.mode = .anneal ∧ s.quench.stood.toNat.testBit m = true) := by
  rw [← latched_eq_false_iff, ← permitMode_iff]
  simp [granted, permitEn, and_assoc, imp_iff_not_or]

theorem not_granted_of_latched {s : State} (h : latched s = true) (m : Nat) : granted s m = false := by
  simp [granted, h]

theorem permitDriver_iff (s : State) : permitDriver s = true ↔
    (s.sys.mode = .field ∨ s.sys.mode = .holdover ∨ s.sys.mode = .anneal ∧ s.sys.annealDone = false) ∧ (∀ k, k < 3 → (qch s k).latch = false) ∧
    s.twin.gateOpen = true ∧ regBit s 0x090000 1 = true := by
  rw [← latched_eq_false_iff]
  simp [permitDriver, and_assoc, or_assoc]

/-- The outputs take and give no permit. -/
theorem granted_driveOutputs (s : State) (m : Nat) : granted (driveOutputs s) m = granted s m := by
  have hmachq : (driveOutputs s).quench.machq = s.quench.machq := (congrArg Quench.machq (driveOutputs_inner s) :)
  have hstood : (driveOutputs s).quench.stood = s.quench.stood := (congrArg Quench.stood (driveOutputs_inner s) :)
  simp only [granted, permitMode, permitEn, planable, spClassOf, spMach, regBit, regWord, hmachq, hstood,
    latched_congr (driveOutputs_latchCopies s), driveOutputs_sys, driveOutputs_twin, driveOutputs_regs, driveOutputs_setpt]

/-- A number summed from bits below n. -/
theorem bitSum_lt_and_testBit (f : Nat → Bool) (n : Nat) :
    (List.range n).foldl (fun a m => a + b2n (f m) * 2 ^ m) 0 < 2 ^ n ∧
    ∀ m, m < n → ((List.range n).foldl (fun a m => a + b2n (f m) * 2 ^ m) 0).testBit m = f m := by
  induction n with
  | zero => simp
  | succ n ih =>
    obtain ⟨hlt, hbit⟩ := ih
    rw [List.range_succ, List.foldl_append]
    generalize (List.range n).foldl (fun a m => a + b2n (f m) * 2 ^ m) 0 = a at hlt hbit
    rw [List.foldl_cons, List.foldl_nil]
    have hpow : (2 : Nat) ^ (n + 1) = 2 ^ n + 2 ^ n := by rw [pow_succ, mul_two]
    cases hf : f n with
    | false =>
      rw [show b2n false = 0 from rfl, Nat.zero_mul, Nat.add_zero]
      refine ⟨by omega, fun m hm => ?_⟩
      obtain hlow | rfl : m < n ∨ m = n := by omega
      · exact hbit m hlow
      · rw [Nat.testBit_lt_two_pow hlt, hf]
    | true =>
      rw [show b2n true = 1 from rfl, Nat.one_mul, Nat.add_comm]
      refine ⟨by omega, fun m hm => ?_⟩
      obtain hlow | rfl : m < n ∨ m = n := by omega
      · rw [Nat.testBit_two_pow_add_gt hlow, hbit m hlow]
      · rw [Nat.testBit_two_pow_add_eq, Nat.testBit_lt_two_pow hlt, hf]
        rfl

theorem testBit_permits (s : State) {m : Nat} (h : m < 128) : (permits s).testBit m = granted s m :=
  (bitSum_lt_and_testBit (granted s) 128).2 m h

theorem permits_driveOutputs (s : State) : permits (driveOutputs s) = permits s := by
  simp only [permits, granted_driveOutputs]

end Sys2Proof.Machine

open Sys2Proof Sys2Proof.Machine

/-- Settles O37: the conditions of a permit and of the driver read off their definitions, and the outputs that follow them. -/
theorem permitConditions : Obligations.PermitConditions :=
  ⟨granted_iff, fun s _ hm => testBit_permits s hm, permitDriver_iff, fun s => ⟨driveOutputs_permitOut s, permits_driveOutputs s⟩⟩

end

section
/-! The host source and the voted decision (11_quench_permit.md R354 to R367; 03_modes_power_reset.md R74): what a decision
leaves, through the operations that carry it out. -/

namespace Sys2Proof.Machine

open Sys2Proof

/-! ### A source and the vote it brings (R354, R358) -/

theorem driveOutputs_hostEnd (s : State) : (driveOutputs s).quench.hostEnd = s.quench.hostEnd :=
  (congrArg Quench.hostEnd (driveOutputs_inner s) :)

theorem driveOutputs_wardenEnd (s : State) : (driveOutputs s).quench.wardenEnd = s.quench.wardenEnd :=
  (congrArg Quench.wardenEnd (driveOutputs_inner s) :)

/-- A vote that waits for its decision changes nothing else of the quench block but the account of a lone result. -/
theorem settleVote_quench (cause : QCause) (rank : Nat) (s : State) : ∃ d a, (settleVote cause rank s).quench =
    { (trackLone s).quench with deciding := d, decidingAt := a } := by
  simp only [settleVote]
  split <;> exact ⟨_, _, rfl⟩

theorem settleVote_latchCopies (cause : QCause) (rank : Nat) (s : State) : latchCopies (settleVote cause rank s) = latchCopies s := by
  obtain ⟨d, a, h⟩ := settleVote_quench cause rank s
  rw [latchCopies, h]
  exact trackLone_latchCopies s

theorem settleVote_hostEnd (cause : QCause) (rank : Nat) (s : State) : (settleVote cause rank s).quench.hostEnd = s.quench.hostEnd := by
  obtain ⟨d, a, h⟩ := settleVote_quench cause rank s
  rw [h]
  exact (congrArg Quench.hostEnd (trackLone_inner s) :)

theorem settleVote_result (cause : QCause) (rank : Nat) (s : State) : (settleVote cause rank s).quench.result = s.quench.result := by
  obtain ⟨d, a, h⟩ := settleVote_quench cause rank s
  rw [h]
  exact (congrArg Quench.result (trackLone_inner s) :)

/-- R354: with no latch and no earlier cause, a vote that has come to STOP waits for its decision with the new cause. -/
theorem settleVote_deciding {cause : QCause} {rank : Nat} {s : State} (hvote : votedStop (trackLone s) = true) (hlatch : latched s = false)
    (hnone : s.quench.deciding = none) : (settleVote cause rank s).quench.deciding = some (cause, rank) := by
  have hnone' : (trackLone s).quench.deciding = none := hnone ▸ (congrArg Quench.deciding (trackLone_inner s) :)
  have hcond : votedStop (trackLone s) = true ∧ ¬ latched (trackLone s) = true ∧ causeFirst (trackLone s) cause = true :=
    ⟨hvote, by rw [latched_congr (trackLone_latchCopies s), hlatch]; decide, by simp [causeFirst, hnone']⟩
  simp only [settleVote, if_pos hcond]

theorem hostSource_of_hostEnd {s : State} (h : s.quench.hostEnd = some (s.clk + 10000)) : hostSource s = true := by
  simp [hostSource, pulseOn, h]

/-- R358: QUENCH asserts the host source for 10 µs, which the vote follows; every latch and the mode stand. -/
theorem hostQuench_leaves (rank : Nat) (s : State) : (hostQuench rank s).quench.hostEnd = some (s.clk + 10000) ∧
    (hostQuench rank s).quench.result = .done ∧ hostSource (hostQuench rank s) = true ∧ votedStop (hostQuench rank s) = true ∧
    (hostQuench rank s).sys = s.sys ∧ (∀ k, (qch (hostQuench rank s) k).latch = (qch s k).latch) ∧
    (latched s = false → s.quench.deciding = none → (hostQuench rank s).quench.deciding = some (.host, rank)) := by
  have hend : (hostQuench rank s).quench.hostEnd = some (s.clk + 10000) := settleVote_hostEnd ..
  have hsource : hostSource (hostQuench rank s) = true := hostSource_of_hostEnd (by rw [hend, hostQuench, settleVote_clk])
  refine ⟨hend, settleVote_result .., hsource, votedStop_of_hostSource hsource, settleVote_sys .., ?_, fun hlatch hnone => ?_⟩
  · exact qch_latch_congr (settleVote_latchCopies _ _ _)
  · refine settleVote_deciding (votedStop_of_hostSource (hostSource_of_hostEnd ?_)) hlatch hnone
    rw [trackLone_clk]
    exact (congrArg Quench.hostEnd (trackLone_inner _) :)

theorem advanceClk_clk (e : Nat) (s : State) : (advanceClk e s).clk = max s.clk e := by
  change s.clk + (e - s.clk) = _
  omega

/-! ### What the operations of a decision leave -/

/-- What of the part a decision's own operations leave. -/
structure StopView where
  /-- The copies of the latch. -/
  copies : Vector Bool 3
  /-- The quench block but for its outputs. -/
  inner : Quench
  mode : Mode
  /-- The mode before it. -/
  prev : Mode
  /-- The action at RES_CRIT is due. -/
  critDue : Bool

/-- The view of a state. -/
def stopView (s : State) : StopView where
  copies := latchCopies s
  inner := s.quench.inner
  mode := s.sys.mode
  prev := s.sys.prev
  critDue := s.aon.critDue

/-- Between two states the stop path and the mode stand, and no register bit has fallen. -/
structure StopStands (s t : State) : Prop where
  view : stopView t = stopView s
  bits : ∀ off i, regBit s off i = true → regBit t off i = true

namespace StopStands

variable {s t u : State}

theorem refl (s : State) : StopStands s s := ⟨rfl, fun _ _ h => h⟩

theorem trans (h : StopStands s t) (k : StopStands t u) : StopStands s u :=
  ⟨k.view.trans h.view, fun off i hs => k.bits off i (h.bits off i hs)⟩

theorem of_regs (hview : stopView t = stopView s) (hregs : t.regs = s.regs) : StopStands s t :=
  ⟨hview, fun off i h => by rwa [regBit, regWord, hregs]⟩

/-- A change of what neither the stop path nor a register holds. -/
theorem other (h : StopStands s t) (hview : stopView u = stopView t := by rfl) (hregs : u.regs = t.regs := by rfl) : StopStands s u :=
  h.trans (of_regs hview hregs)

theorem foldl {α : Type} {f : State → α → State} (hf : ∀ t a, StopStands s t → StopStands s (f t a)) (l : List α)
    (h : StopStands s t) : StopStands s (l.foldl f t) := by
  induction l generalizing t with
  | nil => exact h
  | cons a l ih => exact ih (hf t a h)

theorem ite {p : Prop} [Decidable p] (ht : StopStands s t) (hu : StopStands s u) : StopStands s (if p then t else u) := by
  split
  · exact ht
  · exact hu

theorem latchCopies_eq (h : StopStands s t) : latchCopies t = latchCopies s := congrArg StopView.copies h.view

theorem inner_eq (h : StopStands s t) : t.quench.inner = s.quench.inner := congrArg StopView.inner h.view

theorem mode_eq (h : StopStands s t) : t.sys.mode = s.sys.mode := congrArg StopView.mode h.view

theorem prev_eq (h : StopStands s t) : t.sys.prev = s.sys.prev := congrArg StopView.prev h.view

theorem critDue_eq (h : StopStands s t) : t.aon.critDue = s.aon.critDue := congrArg StopView.critDue h.view

/-- Both states move to one mode. -/
theorem setMode (h : StopStands s t) (m p : Mode) (c : ModeCause) : StopStands { s with sys := { s.sys with mode := m, prev := p } }
    { t with sys := { t.sys with mode := m, prev := p, cause := c } } where
  view := by
    change StopView.mk (latchCopies t) t.quench.inner m p t.aon.critDue = ⟨latchCopies s, s.quench.inner, m, p, s.aon.critDue⟩
    rw [h.latchCopies_eq, h.inner_eq, h.critDue_eq]
  bits off i hb := h.bits off i hb

end StopStands

/-! #### Registers, counters, records and outputs -/

section

variable {s t : State} (h : StopStands s t)

include h

theorem stopStands_bump (o e : Nat) : StopStands s (bump o e t) := h.other

theorem stopStands_orReg (o : Nat) (m : Word) : StopStands s (orReg o m t) :=
  h.trans ⟨rfl, fun _ _ hb => regBit_orReg_mono o m hb⟩

theorem stopStands_raise (b i : Nat) : StopStands s (raise b i t) := .ite h (stopStands_orReg h _ _)

theorem stopStands_record (code source sev p0 p1 p2 : Nat) : StopStands s (record code source sev p0 p1 p2 t) :=
  .ite h (.ite h.other (stopStands_orReg h.other _ _))

theorem stopStands_driveOutputs : StopStands s (driveOutputs t) :=
  h.other (by simp [stopView, driveOutputs_inner]) (driveOutputs_regs t)

/-! #### A mode request that has lost, and the move to QUENCHED (R74, R105) -/

theorem stopStands_mbPush (m : Nat) (h2c : Bool) (w : Word) (same : Bool) : StopStands s (mbPush m h2c w same t) :=
  .ite h.other h.other

theorem stopStands_wardenAnswer (op tag status : Nat) (data : List Nat) : StopStands s (wardenAnswer op tag status data t) :=
  .foldl (fun _ _ ht => stopStands_mbPush ht ..) data (stopStands_mbPush h ..)

theorem stopStands_endRequest (tag : Option (BitVec 8)) (r : ReqResult) : StopStands s (endRequest tag r t) := by
  have hended : StopStands s { t with sys := { t.sys with req := none, reqResult := r } } := h.other
  have hraised := stopStands_raise hended bSYS 1
  cases tag with
  | none => exact hraised
  | some g => exact stopStands_wardenAnswer hraised.other ..

theorem stopStands_finishRequest (r : ReqResult) : StopStands s (finishRequest r t) := by
  unfold finishRequest
  split
  · exact stopStands_endRequest h ..
  · exact h

theorem stopStands_endStale (m : Mode) : StopStands s (endStale m t) := by
  have hfinish : StopStands s (if t.sys.req.isSome then finishRequest .mode t else t) := .ite (stopStands_finishRequest h _) h
  exact .ite hfinish hfinish.other

/-! #### The frames of a decision (R365, R419, R331) -/

theorem stopStands_withPause {f : State → State} (hf : ∀ u, StopStands s u → StopStands s (f u)) : StopStands s (withPause f t) :=
  .ite (hf t h) (stopStands_raise (hf t h) ..)

theorem stopStands_refuseCopy (k cause : Nat) : StopStands s (refuseCopy k cause t) :=
  stopStands_raise (stopStands_bump h.other ..) ..

theorem stopStands_countNoBuffer (p r : Nat) (f : QFrame) : StopStands s (countNoBuffer p r f t) := .ite (stopStands_bump h ..) h

theorem stopStands_lowerSlack (p cost j : Nat) : StopStands s (lowerSlack p cost t j) := .ite h h.other

theorem stopStands_cutWire (p : Nat) : StopStands s (cutWire p t) := by
  unfold cutWire
  split
  · exact .ite h h.other
  · exact h

theorem stopStands_enqueue (p q c : Nat) (f : QFrame) : StopStands s (enqueue p q c f t) := by
  obtain ⟨w, u, hu, he⟩ := enqueue_eq p q c f t
  have hover : StopStands s (afterOvertaking p q c f t) := .foldl (fun _ _ ht => stopStands_lowerSlack ht ..) _ h
  have hplaced : StopStands s u := by
    rw [hu]
    exact stopStands_bump (stopStands_withPause hover.other fun _ ht => ht.other) ..
  rw [he]
  exact .ite (stopStands_cutWire hplaced p) hplaced

theorem stopStands_enqueueFrame (p q : Nat) (f : QFrame) : StopStands s (enqueueFrame p q f t) :=
  .ite (stopStands_enqueue h ..) (stopStands_refuseCopy (stopStands_countNoBuffer h ..) ..)

theorem stopStands_useRefused : StopStands s (useRefused t) := stopStands_raise (stopStands_bump h ..) ..

theorem stopStands_sendQuenchFrames (target rep qseq time : Nat) : StopStands s (sendQuenchFrames target rep qseq time t) := by
  have hkey : StopStands s (if t.radio.present ∧ (quenchKey t).isNone then useRefused t else t) := .ite (stopStands_useRefused h) h
  refine .foldl (fun u p hu => ?_) _ hkey
  split
  · exact .ite (stopStands_enqueueFrame hu ..) hu
  · exact hu

theorem stopStands_sendNotice : StopStands s (sendNotice t) := .ite h.other h

theorem stopStands_bumpChain (c e : Nat) : StopStands s (bumpChain c e t) := stopStands_bump (stopStands_bump h ..) ..

theorem stopStands_charge (b ch us : Nat) : StopStands s (charge b ch us t) := by
  simp only [charge]
  split <;> exact h.other

theorem stopStands_emit (c : Nat) (ty : FrameType) (dst sub : Nat) (key payload : Bytes) :
    StopStands s (emit c ty dst sub key payload t) := by
  have hcharged := stopStands_charge h (chain t c).cfg.band (slotChannel t c) (airtime (chain t c).cfg.mode (psduLen payload.length))
  simp only [emit]
  split <;> exact hcharged.other

theorem stopStands_overdraw (c : Nat) : StopStands s (overdraw c t) :=
  .ite h (stopStands_record (stopStands_raise h ..) ..)

theorem stopStands_breakQuench (c : Nat) : StopStands s (breakQuench c t) := by
  unfold breakQuench
  split
  · exact stopStands_useRefused (stopStands_raise h.other ..)
  · exact stopStands_raise (stopStands_bumpChain (stopStands_overdraw (stopStands_emit h ..) c) ..) ..

theorem stopStands_breakChain (c : Nat) : StopStands s (breakChain c t) := .ite (stopStands_breakQuench h.other c) h

theorem stopStands_cutChain (c : Nat) : StopStands s (cutChain c t) := .ite h.other h

theorem stopStands_slotBreak : StopStands s (slotBreak t) :=
  .ite (stopStands_cutChain (stopStands_cutChain (stopStands_cutChain h.other 0) 1) 2)
    (stopStands_breakChain (stopStands_breakChain (stopStands_breakChain h.other 0) 1) 2)

end

/-! ### The voted decision (R20, R74, R354, R367) -/

theorem quenchableMode_iff (m : Mode) : quenchableMode m = true ↔ m = .survey ∨ m = .field ∨ m = .holdover ∨ m = .anneal := by
  cases m <;> decide

/-- Leaving a mode that a decision turns to QUENCHED leaves the stop path. -/
theorem stopStands_leaveMode {old : Mode} (hold : quenchableMode old = true) (s : State) : StopStands s (leaveMode old s) := by
  obtain rfl | rfl | rfl | rfl := (quenchableMode_iff old).mp hold
  · exact .refl s
  · exact .refl s
  · exact .of_regs rfl rfl
  · exact .of_regs rfl rfl

/-- The domains' sources change with SERVITOR alone (R110). -/
theorem changeSources_quenched {old : Mode} (hold : quenchableMode old = true) (s : State) : changeSources old .quenched s = s := by
  obtain rfl | rfl | rfl | rfl := (quenchableMode_iff old).mp hold <;> rfl

/-- R73, R74: the move to QUENCHED sets the mode and the one before it, and leaves the stop path. -/
theorem stopStands_toMode_quenched (cause : ModeCause) (rank : Nat) {s : State} (hold : quenchableMode s.sys.mode = true) :
    StopStands { s with sys := { s.sys with mode := .quenched, prev := s.sys.mode } } (toMode .quenched cause rank s) := by
  have hmode := (stopStands_leaveMode hold s).setMode .quenched s.sys.mode cause
  simp only [toMode, changeSources_quenched hold]
  exact stopStands_driveOutputs ((stopStands_endStale (stopStands_record (stopStands_raise hmode ..) ..) _).other)

/-- The quench block as a decision sets it, before the mode, the frames and the outputs follow (R354, R367). -/
def decisionTaken (cause : QCause) (s : State) : State :=
  { s with quench := { s.quench with
    chs := s.quench.chs.map (fun (c : QChannel) => { c with latch := true })
    cause := cause, time := BitVec.ofNat 64 (recordTime s).1, count := s.quench.count + 1, qseq := s.quench.count + 1
    latchAt := s.clk, deciding := none, reminders := 0, ethLeft := quenchRepeats s, ethNext := now s / 10 ^ 7 + 1 } }

/-- The mode follows a decision (R74). -/
def decisionMode (rank : Nat) (s : State) : State :=
  if quenchableMode s.sys.mode then toMode .quenched .quench rank (finishRequest .conflictLost s) else s

/-- The record and the frames that tell of a decision (R365, R367, R419). -/
def decisionTold (cause : QCause) (rank : Nat) (was : Mode) (n : BitVec 16) (s : State) : State :=
  let t := record 0x0940 rank 3 cause.code n.toNat was.code s
  slotBreak (sendQuenchFrames 0xFF 0 n.toNat t.quench.time.toNat (sendNotice t))

theorem latchQuench_eq (cause : QCause) (rank : Nat) (s : State) : latchQuench cause rank s =
    driveOutputs (decisionTold cause rank s.sys.mode (s.quench.count + 1)
      (raise bQUENCH 0 (bumpQuench 0 (decisionMode rank (decisionTaken cause s))))) := rfl

theorem latchCopies_decisionTaken (cause : QCause) (s : State) : latchCopies (decisionTaken cause s) = Vector.replicate 3 true := by
  rw [latchCopies, decisionTaken, Vector.map_map]
  ext i hi
  simp

theorem stopStands_decisionTold {s t : State} (h : StopStands s t) (cause : QCause) (rank : Nat) (was : Mode) (n : BitVec 16) :
    StopStands s (decisionTold cause rank was n t) :=
  stopStands_slotBreak (stopStands_sendQuenchFrames (stopStands_sendNotice (stopStands_record h ..)) ..)

theorem stopStands_latchQuench {s d : State} {cause : QCause} {rank : Nat} (h : StopStands d (decisionMode rank (decisionTaken cause s))) :
    StopStands d (latchQuench cause rank s) := by
  rw [latchQuench_eq]
  exact stopStands_driveOutputs (stopStands_decisionTold (stopStands_raise (stopStands_bump h ..) ..) ..)

/-- R74: a decision in SURVEY, FIELD, HOLDOVER or ANNEAL moves to QUENCHED. -/
theorem stopStands_latchQuench_quenchable (cause : QCause) (rank : Nat) {s : State} (hm : quenchableMode s.sys.mode = true) :
    StopStands { decisionTaken cause s with sys := { s.sys with mode := .quenched, prev := s.sys.mode } } (latchQuench cause rank s) := by
  have hfin := stopStands_finishRequest (.refl (decisionTaken cause s)) .conflictLost
  have hmode : (finishRequest .conflictLost (decisionTaken cause s)).sys.mode = s.sys.mode := hfin.mode_eq
  have hmove := stopStands_toMode_quenched .quench rank (hmode ▸ hm)
  rw [hmode] at hmove
  refine stopStands_latchQuench ?_
  have hdef : decisionMode rank (decisionTaken cause s) =
      toMode .quenched .quench rank (finishRequest .conflictLost (decisionTaken cause s)) := if_pos hm
  rw [hdef]
  exact (hfin.setMode .quenched s.sys.mode (finishRequest .conflictLost (decisionTaken cause s)).sys.cause).trans hmove

/-- R74: a decision in any other mode leaves it. -/
theorem stopStands_latchQuench_other (cause : QCause) (rank : Nat) {s : State} (hm : quenchableMode s.sys.mode = false) :
    StopStands (decisionTaken cause s) (latchQuench cause rank s) := by
  refine stopStands_latchQuench ?_
  have hdef : decisionMode rank (decisionTaken cause s) = decisionTaken cause s := if_neg (Bool.eq_false_iff.mp hm)
  rw [hdef]
  exact .refl _

/-- R20, R74, R367: what a decision leaves in every mode. -/
theorem latchQuench_leaves (cause : QCause) (rank : Nat) (s : State) :
    latchCopies (latchQuench cause rank s) = Vector.replicate 3 true ∧
    (latchQuench cause rank s).quench.inner = (decisionTaken cause s).quench.inner ∧
    (latchQuench cause rank s).sys.mode = (if quenchableMode s.sys.mode then .quenched else s.sys.mode) ∧
    (latchQuench cause rank s).sys.prev = (if quenchableMode s.sys.mode then s.sys.mode else s.sys.prev) ∧
    (latchQuench cause rank s).aon.critDue = s.aon.critDue := by
  rw [← latchCopies_decisionTaken cause s]
  cases hm : quenchableMode s.sys.mode with
  | true =>
    have h := stopStands_latchQuench_quenchable cause rank hm
    exact ⟨h.latchCopies_eq, h.inner_eq, h.mode_eq, h.prev_eq, h.critDue_eq⟩
  | false =>
    have h := stopStands_latchQuench_other cause rank hm
    exact ⟨h.latchCopies_eq, h.inner_eq, h.mode_eq, h.prev_eq, h.critDue_eq⟩

/-- A decision sets QUENCHED of QUENCH_INT_STATUS, and what follows it clears no bit. -/
theorem regBit_latchQuench (cause : QCause) (rank : Nat) (s : State) : regBit (latchQuench cause rank s) 0x090080 0 = true := by
  rw [latchQuench_eq]
  exact (stopStands_driveOutputs (stopStands_decisionTold (.refl _) ..)).bits _ _
    (regBit_raise_same _ (b := bQUENCH) (by decide) (by decide))

/-! ### The outputs once every copy is set (R361, R363) -/

theorem driveOutputs_out_of_copies_set {s : State} (h : latchCopies s = Vector.replicate 3 true) {k : Nat} (hk : k < 3) :
    (qch (driveOutputs s) k).out = false := by
  have hvote : votedStop (trackLone s) = true := votedStop_of_copies_set ((trackLone_latchCopies s).trans h)
  rw [qch, driveOutputs, drivePermit_chs]
  exact qch_driveRelays_out_of_votedStop hvote hk

theorem driveOutputs_permitOut_of_latched {s : State} (h : latched s = true) : (driveOutputs s).quench.permitOut = false := by
  rw [driveOutputs_permitOut]
  simp [permitDriver, h]

/-- R361, R363: a decision takes every relay output and PERMIT_OUT. -/
theorem latchQuench_outputs_off (cause : QCause) (rank : Nat) (s : State) :
    (∀ k, k < 3 → (qch (latchQuench cause rank s) k).out = false) ∧ (latchQuench cause rank s).quench.permitOut = false := by
  obtain ⟨hcopies, -⟩ := latchQuench_leaves cause rank s
  rw [latchQuench_eq] at hcopies ⊢
  rw [driveOutputs_latchCopies] at hcopies
  exact ⟨fun k hk => driveOutputs_out_of_copies_set hcopies hk, driveOutputs_permitOut_of_latched (latched_of_copies_set hcopies)⟩

/-! ### The commands (R358, R367) -/

theorem exec_votedDecision_none {s : State} (hp : s.aon.powered = true) (h : s.quench.deciding = none) :
    exec .votedDecision s = .next s := by
  change Host.Outcome.next (onAon s _) = _
  rw [onAon_run _ hp]
  simp only [h]

/-- A decision with no action at RES_CRIT behind it is latchQuench alone. -/
theorem exec_votedDecision {s : State} {c : QCause} {r : Nat} (hp : s.aon.powered = true) (h : s.quench.deciding = some (c, r))
    (hcrit : s.aon.critDue = false) : exec .votedDecision s = .next (latchQuench c r s) := by
  obtain ⟨-, -, -, -, hdue⟩ := latchQuench_leaves c r s
  change Host.Outcome.next (onAon s _) = _
  rw [onAon_run _ hp]
  simp only [h, hdue, hcrit, Bool.false_eq_true, if_false]

end Sys2Proof.Machine

open Sys2Proof Sys2Proof.Machine

/-- Settles O39: the host source brings the vote and its cause; the decision's facts are those of `latchQuench`; the end of a
pulse runs the clock and the outputs alone. -/
theorem quenchDecision : Obligations.QuenchDecision := by
  refine ⟨?source, ?decision, fun s hp h => exec_votedDecision_none hp h, ?ends⟩
  case source =>
    intro s who hrun
    exact after_bus rfl hrun (hostQuench_leaves who.rank s)
  case decision =>
    intro s c r hp hd hcrit
    refine ⟨_, exec_votedDecision hp hd hcrit, ?_⟩
    obtain ⟨hcopies, hinner, hmode, hprev, -⟩ := latchQuench_leaves c r s
    obtain ⟨hout, hpermit⟩ := latchQuench_outputs_off c r s
    have hbit := regBit_latchQuench c r s
    generalize latchQuench c r s = t at hcopies hinner hmode hprev hout hpermit hbit ⊢
    refine ⟨fun k hk => ⟨qch_latch_of_copies_set hcopies k, hout k hk⟩, (congrArg Quench.cause hinner :), (congrArg Quench.count hinner :),
      (congrArg Quench.qseq hinner :), (congrArg Quench.deciding hinner :), (congrArg Quench.latchAt hinner :), hpermit,
      not_granted_of_latched (latched_of_copies_set hcopies), hbit, fun hm => ?_, fun hm => ?_⟩
    · rw [if_pos ((quenchableMode_iff _).mpr hm)] at hmode hprev
      exact ⟨hmode, hprev⟩
    · rw [hmode, if_neg]
      intro hq
      obtain h | h | h | h := (quenchableMode_iff _).mp hq <;> simp [h] at hm
  case ends =>
    intro s e hp
    refine ⟨fun he => after_aon rfl hp ?_, fun he => after_aon rfl hp ?_⟩
    · simp only [he]
      refine ⟨driveOutputs_hostEnd _, ?_, qch_latch_congr (driveOutputs_latchCopies _), driveOutputs_sys _⟩
      rw [driveOutputs_clk]
      exact advanceClk_clk e s
    · simp only [he]
      refine ⟨driveOutputs_wardenEnd _, ?_, qch_latch_congr (driveOutputs_latchCopies _), driveOutputs_sys _⟩
      rw [driveOutputs_clk]
      exact advanceClk_clk e s

end

section
/-! The image loader's run (02_parison_image.md R45 to R57, R591): the start of an action, what each read and each check leaves,
and the start of application. -/

namespace Sys2Proof.Machine

open Sys2Proof

/-! ### What the loader's own operations leave -/

theorem setLoad_of_load (f : Load → Load) {s : State} {l : Load} (h : s.parison.load = some l) :
    setLoad f s = { s with parison.load := some (f l) } := by simp [setLoad, h]

theorem reportErr_bit (e : LoadErr) (s : State) : regBit (reportErr e s) 0x01003C (if e = .none then 0 else 1) = true :=
  regBit_raise_same _ (b := bPARISON) (by decide) (by split <;> decide)

/-- A failed check sets FAILED in the cycle of ERR (R591). -/
theorem failNow_bit {e : LoadErr} (he : e ≠ .none) (t w : Nat) (s : State) : regBit (failNow e t w s) 0x01003C 1 = true := by
  have hbit := reportErr_bit e { s with parison := { s.parison with loader := .failed, load := none, failType := t, failWord := w } }
  rwa [if_neg he] at hbit

/-- An action that ends well sets DONE. -/
theorem doneNow_bit (s : State) : regBit (doneNow s) 0x01003C 0 = true := reportErr_bit .none _

/-- R591: outside FORMING a failed check does no more than end the load. -/
theorem loadFail_outside_forming (e : LoadErr) (t w : Nat) {s : State} {l : Load} (h : s.parison.load = some l)
    (hm : s.sys.mode ≠ .forming) : loadFail e t w s = failNow e t w s := by
  have hmode : (failNow e t w s).sys.mode ≠ .forming := hm
  simp only [loadFail, h, if_neg hmode]

/-! ### The move to FORMING at the first byte (R56, R57, R78) -/

@[simp] theorem mbPush_parison (m : Nat) (h2c : Bool) (w : Word) (same : Bool) (s : State) :
    (mbPush m h2c w same s).parison = s.parison := by
  simp only [mbPush, apply_ite State.parison, bump_parison, setMb_parison, ite_self]

theorem wardenAnswer_parison (op tag status : Nat) (data : List Nat) (s : State) :
    (wardenAnswer op tag status data s).parison = s.parison := by
  unfold wardenAnswer
  rw [foldl_keep (fun t : State => t.parison) fun t _ => mbPush_parison _ _ _ _ t, mbPush_parison]

theorem endRequest_parison (tag : Option (BitVec 8)) (r : ReqResult) (s : State) : (endRequest tag r s).parison = s.parison := by
  cases tag with
  | none => rfl
  | some t => exact wardenAnswer_parison ..

theorem finishRequest_parison (r : ReqResult) (s : State) : (finishRequest r s).parison = s.parison := by
  unfold finishRequest
  split
  · exact endRequest_parison ..
  · rfl

theorem endStale_parison (m : Mode) (s : State) : (endStale m s).parison = s.parison := by
  have hreq : (if s.sys.req.isSome then finishRequest .mode s else s).parison = s.parison := by
    split
    · exact finishRequest_parison ..
    · rfl
  unfold endStale
  dsimp only
  split <;> exact hreq

/-- From RESET to FORMING neither mode has anything of its own to leave or to enter. -/
theorem toMode_reset_forming (cause : ModeCause) (rank : Nat) {s : State} (h : s.sys.mode = .reset) :
    (toMode .forming cause rank s).sys.mode = .forming ∧ (toMode .forming cause rank s).parison = s.parison := by
  have hto : toMode .forming cause rank s = driveOutputs (endStale .forming (record 0x0041 rank 1 Mode.forming.code Mode.reset.code
      cause.code (raise bSYS 0 { s with sys := { s.sys with mode := .forming, prev := .reset, cause := cause } }))) := by
    simp only [toMode, h]
    rfl
  rw [hto, driveOutputs_sys, driveOutputs_parison, endStale_parison, record_parison]
  exact ⟨(stopStands_endStale (.refl _) .forming).mode_eq.trans (by rw [record_sys, raise_sys]), rfl⟩

/-! ### The start of an action (PARISON_CTRL, R50, R51, R57) -/

/-- The loader as a load begins to read. -/
def Parison.began (p : Parison) (l : Load) : Parison :=
  { p with load := some l, loader := .reading, err := .none, failType := 0, failWord := 0, lastSrc := l.src.code }

theorem beginLoad_leaves (l : Load) (s : State) : (beginLoad l s).parison = s.parison.began l ∧
    (beginLoad l s).sys.mode = if s.sys.mode = .reset ∧ (l.action = 0 ∨ l.action = 3) then .forming else s.sys.mode := by
  unfold beginLoad
  dsimp only
  split
  · next h =>
    obtain ⟨hmode, hparison⟩ := toMode_reset_forming l.kind.cause l.kind.rank
      (s := { s with parison := s.parison.began l }) h.1
    exact ⟨hparison, hmode⟩
  · exact ⟨rfl, rfl⟩

theorem hostLoad_fields (a src : Nat) (slot : Fin 4) (s : State) : (hostLoad a src slot s).kind = .host ∧
    (hostLoad a src slot s).action = BitVec.ofNat 2 a ∧ (hostLoad a src slot s).header = none := by
  unfold hostLoad
  dsimp only
  split
  · exact ⟨rfl, rfl, rfl⟩
  · split <;> exact ⟨rfl, rfl, rfl⟩

/-- A START that nothing refuses begins to read. -/
theorem startAction_accepted {a : Nat} {src slot : Fin 4} {s : State} (hidle : s.parison.load = none) (hsrc : src ≠ 3)
    (haddr : src.val < 2 → regFld s 0x010008 2 0 = 0) (hstore : 2 ≤ a → slot ≠ s.parison.active ∧ src ≠ 2)
    (hslot : src = 2 → (storeSlot s slot).valid = true) :
    startAction a src slot s = beginLoad (hostLoad a src.val slot s) s := by
  have hsource : ¬ (src = 3 ∨ src.val < 2 ∧ regFld s 0x010008 2 0 ≠ 0) := fun h => h.elim hsrc fun h => h.2 (haddr h.1)
  have hbusy : ¬ (2 ≤ a ∧ (slot = s.parison.active ∨ src = 2)) := fun h => h.2.elim (hstore h.1).1 (hstore h.1).2
  have hempty : ¬ (src = 2 ∧ ¬ (storeSlot s slot).valid = true) := fun h => h.2 (hslot h.1)
  simp only [startAction, hidle, Option.isSome_none, Bool.false_eq_true, if_false, if_neg hsource, if_neg hbusy, if_neg hempty]

theorem startAction_leaves {a : Nat} (ha : a < 4) (src slot : Fin 4) {s : State}
    (hstart : startAction a src slot s = beginLoad (hostLoad a src.val slot s) s) :
    (startAction a src slot s).parison.loader = .reading ∧ (startAction a src slot s).parison.err = .none ∧
    ((startAction a src slot s).parison.load.map Load.kind) = some .host ∧
    ((startAction a src slot s).parison.load.map Load.action) = some (BitVec.ofNat 2 a) ∧
    ((startAction a src slot s).parison.load.bind Load.header) = none ∧
    (startAction a src slot s).sys.mode = (if s.sys.mode = .reset ∧ (a = 0 ∨ a = 3) then .forming else s.sys.mode) := by
  obtain ⟨hkind, haction, hheader⟩ := hostLoad_fields a src.val slot s
  obtain ⟨hparison, hmode⟩ := beginLoad_leaves (hostLoad a src.val slot s) s
  have hforms : (hostLoad a src.val slot s).action = 0 ∨ (hostLoad a src.val slot s).action = 3 ↔ a = 0 ∨ a = 3 := by
    rw [haction]
    interval_cases a <;> decide
  rw [hstart, hparison, hmode]
  refine ⟨rfl, rfl, congrArg some hkind, congrArg some haction, hheader, ?_⟩
  simp only [hforms]

/-! ### The reads (R47, R49) -/

theorem headerRead_good {bytes : Bytes} {s : State} {l : Load} (h : s.parison.load = some l) (hnew : l.header = none)
    (hsrc : lostSource l s = false) (he : headerErr l.limit (readBytes l 0 64 bytes s) = .none)
    (hcount : leAt (readBytes l 0 64 bytes s) 0xC 2 ≠ 0) : headerRead bytes s = { s with parison.load := some { l with
      header := some (headerOf (readBytes l 0 64 bytes s)), rawHeader := readBytes l 0 64 bytes s, offset := 64, fails := 0 } } := by
  simp [headerRead, h, hnew, hsrc, he, hcount, setLoad_of_load]

theorem headerRead_bad {bytes : Bytes} {s : State} {l : Load} (h : s.parison.load = some l) (hnew : l.header = none)
    (hm : s.sys.mode ≠ .forming) (hsrc : lostSource l s = false) (he : headerErr l.limit (readBytes l 0 64 bytes s) ≠ .none) :
    headerRead bytes s = failNow (headerErr l.limit (readBytes l 0 64 bytes s)) 0 0 s := by
  simp [headerRead, h, hnew, hsrc, he, loadFail_outside_forming _ _ _ h hm]

/-- R50: the loader reads an invalidated slot no further. -/
theorem headerRead_lost {bytes : Bytes} {s : State} {l : Load} (h : s.parison.load = some l) (hnew : l.header = none)
    (hm : s.sys.mode ≠ .forming) (hsrc : lostSource l s = true) : headerRead bytes s = failNow .sourceEmpty 0 0 s := by
  simp [headerRead, h, hnew, hsrc, loadFail_outside_forming _ _ _ h hm]

theorem gatherRead_header {bytes : Bytes} {s : State} {l : Load} {x : ImageHeader} (h : s.parison.load = some l)
    (hx : l.header = some x) (hhead : l.head = none) (hr : s.parison.loader = .reading) (hsrc : lostSource l s = false) :
    gatherRead bytes s = gatherHeader l x bytes s := by
  simp [gatherRead, h, hx, hhead, hr, hsrc]

theorem gatherRead_payload {bytes : Bytes} {s : State} {l : Load} {x : ImageHeader} {g : Gather} {n : Nat}
    (h : s.parison.load = some l) (hx : l.header = some x) (hhead : l.head = some (g, n)) (hr : s.parison.loader = .reading)
    (hsrc : lostSource l s = false) : gatherRead bytes s = gatherPayload l x g n bytes s := by
  simp [gatherRead, h, hx, hhead, hr, hsrc]

theorem gatherHeader_good {bytes : Bytes} {s : State} {l : Load} {x : ImageHeader} (h : s.parison.load = some l)
    (he : gatherErr x (lastType l) l.offset (readBytes l l.offset 16 bytes s) = .none) :
    ∃ g : Gather, g.type = leAt (readBytes l l.offset 16 bytes s) 0 2 ∧ gatherHeader l x bytes s =
      { s with parison.load := some { l with head := some (g, leAt (readBytes l l.offset 16 bytes s) 4 4), fails := 0 } } := by
  refine ⟨_, ?_, by simp only [gatherHeader, he, ne_eq, not_true_eq_false, if_false, setLoad_of_load _ h]; rfl⟩
  rfl

/-- The loader once a payload has been kept. -/
def Parison.tookGather (p : Parison) (l : Load) (x : ImageHeader) (g : Gather) (stop : Nat) : Parison :=
  { p with
    load := some { l with gathers := l.gathers ++ [g], head := none, offset := stop, fails := 0 }
    loader := if l.gathers.length + 1 = x.gatherCount then .checking else p.loader }

theorem gatherPayload_good {bytes : Bytes} {s : State} {l : Load} {x : ImageHeader} {g : Gather} {n : Nat}
    (h : s.parison.load = some l) (hcrc : crc32c (readBytes l (l.offset + 16) n bytes s) = g.payCrc)
    (hend : l.gathers.length + 1 = x.gatherCount → l.offset + 16 + n = x.imgLen - 200) :
    gatherPayload l x g n bytes s = { s with
      parison := s.parison.tookGather l x { g with payload := readBytes l (l.offset + 16) n bytes s } (l.offset + 16 + n) } := by
  have hplace : ¬ (l.gathers.length + 1 = x.gatherCount ∧ l.offset + 16 + n ≠ x.imgLen - 200) := fun hbad => hbad.2 (hend hbad.1)
  simp only [gatherPayload, hcrc, ne_eq, not_true_eq_false, if_false, if_neg hplace, setLoad_of_load _ h, Parison.tookGather]
  split <;> rfl

/-! ### The checks (R44 to R47) -/

theorem signatureDone_good {sig : Bytes} {s : State} {l : Load} {x : ImageHeader} (h : s.parison.load = some l)
    (hx : l.header = some x) (hsig : l.sigDone = false) (hc : s.parison.loader = .checking) (hsrc : lostSource l s = false)
    (he : signatureErr s.geode.fuses x (signedBytes l) (readBytes l l.offset 200 sig s) = .none) :
    signatureDone sig s =
      { s with parison.load := some { l with sigBytes := readBytes l l.offset 200 sig s, sigDone := true, fails := 0 } } := by
  simp [signatureDone, h, hx, hsig, hc, hsrc, he, setLoad_of_load]

theorem signatureDone_bad {sig : Bytes} {s : State} {l : Load} {x : ImageHeader} (h : s.parison.load = some l)
    (hx : l.header = some x) (hsig : l.sigDone = false) (hc : s.parison.loader = .checking) (hm : s.sys.mode ≠ .forming)
    (hsrc : lostSource l s = false)
    (he : signatureErr s.geode.fuses x (signedBytes l) (readBytes l l.offset 200 sig s) ≠ .none) :
    signatureDone sig s = failNow (signatureErr s.geode.fuses x (signedBytes l) (readBytes l l.offset 200 sig s)) 0 0 s := by
  simp [signatureDone, h, hx, hsig, hc, hsrc, he, loadFail_outside_forming _ _ _ h hm]

/-- R56 step 4: checks 10 to 12 that find nothing end in `checksPassed`. -/
theorem semanticDone_passed {s : State} {l : Load} {x : ImageHeader} (h : s.parison.load = some l) (hx : l.header = some x)
    (hsig : l.sigDone = true) (hnew : l.checked = false) (hall : x.reformOnly = false → missingType l.gathers = none)
    (hsem : semanticFault s l.gathers (wouldHold l x s) (asReform l x s) = none) (hmode : (modeErr l x s).1 = .none) :
    semanticDone s = checksPassed l x s := by
  have hmissing : (if x.reformOnly then none else missingType l.gathers) = none := by
    split
    · rfl
    · next hr => exact hall (Bool.eq_false_iff.mpr hr)
  simp [semanticDone, h, hx, hsig, hnew, hmissing, hsem, hmode]

/-- R63, R64: a re-formable image passes check 12 in a mode of R63. -/
theorem modeErr_reform {s : State} {l : Load} {x : ImageHeader} (hr : x.reformOnly = true) (ha : applies l = true)
    (hm : reformMode s = true) : modeErr l x s = (.none, 0) := by
  simp [modeErr, hr, ha, hm]

theorem checksPassed_checkOnly {s : State} {l : Load} (x : ImageHeader) (ha : l.action = 1) :
    checksPassed l x s = doneNow (setLoad (fun l => { l with checked := true }) s) := by
  simp [checksPassed, ha]

theorem checksPassed_form {s : State} {l : Load} {x : ImageHeader} (ha : l.action = 0) (hr : x.reformOnly = false)
    (hm : formMode s.sys.mode = true) : checksPassed l x s = applyForm l (setLoad (fun l => { l with checked := true }) s) := by
  simp [checksPassed, ha, hr, hm]

theorem checksPassed_reform {s : State} {l : Load} {x : ImageHeader} (ha : l.action = 0) (hr : x.reformOnly = true) :
    checksPassed l x s = applyReform l (setLoad (fun l => { l with checked := true }) s) := by
  simp [checksPassed, ha, hr]

end Sys2Proof.Machine

open Sys2Proof Sys2Proof.Machine

/-- Settles O6: the start, the good and the bad reads, and the passed checks, each from the equation of its step. -/
theorem loaderRun : Obligations.LoaderRun := by
  refine ⟨?start, ?header, ?gatherHead, ?gatherPayload, ?retry, ?badHeader, ?lostSource, ?readFault, ?signature, ?checked, ?reform⟩
  case start =>
    intro s src slot c a hrun hc hidle hsrc haddr hstore hslot
    have hstart := startAction_accepted hidle hsrc haddr hstore hslot
    obtain ⟨rfl, rfl⟩ | ⟨rfl, rfl⟩ | ⟨rfl, rfl⟩ | ⟨rfl, rfl⟩ := hc <;>
      exact after_bus rfl hrun (startAction_leaves (by decide) src slot hstart)
  case header =>
    intro s bytes l hrun hl hnew hsrc he hcount
    refine after_bus rfl hrun ?_
    rw [headerRead_good hl hnew hsrc he hcount]
    exact ⟨rfl, rfl, rfl⟩
  case gatherHead =>
    intro s bytes l x hrun hl hx hhead hr hsrc he
    refine after_bus rfl hrun ?_
    obtain ⟨g, htype, hread⟩ := gatherHeader_good hl he
    rw [gatherRead_header hl hx hhead hr hsrc, hread, ← htype]
    exact ⟨rfl, rfl⟩
  case gatherPayload =>
    intro s bytes l x g n hrun hl hx hhead hr hsrc hcrc hend
    refine after_bus rfl hrun ?_
    rw [gatherRead_payload hl hx hhead hr hsrc, gatherPayload_good hl hcrc hend]
    refine ⟨rfl, rfl, rfl, ?_⟩
    rw [← hr]
    rfl
  case retry =>
    intro s l hrun hl hreads hfails
    refine after_bus rfl hrun ?_
    simp only [hl, hreads, not_true_eq_false, if_false, if_neg (Nat.not_le.mpr hfails), setLoad_of_load _ hl, and_self]
  case badHeader =>
    intro s bytes l hrun hl hnew hm hsrc he
    refine after_bus rfl hrun ?_
    rw [headerRead_bad hl hnew hm hsrc he]
    exact ⟨rfl, rfl, rfl, failNow_bit he .., rfl⟩
  case lostSource =>
    intro s bytes l hrun hl hnew hm hsrc
    refine after_bus rfl hrun ?_
    rw [headerRead_lost hl hnew hm hsrc]
    exact ⟨rfl, rfl, rfl, rfl⟩
  case readFault =>
    intro s l hrun hl hreads hfails hm
    refine after_bus rfl hrun ?_
    simp only [hl, hreads, not_true_eq_false, if_false, if_pos hfails, loadFail_outside_forming _ _ _ hl hm]
    exact ⟨rfl, rfl, rfl, rfl, rfl⟩
  case signature =>
    intro s sig l x hrun hl hx hsig hc hm hsrc
    refine after_bus rfl hrun ?_
    by_cases he : signatureErr s.geode.fuses x (signedBytes l) (readBytes l l.offset 200 sig s) = .none
    · rw [signatureDone_good hl hx hsig hc hsrc he]
      exact ⟨rfl, fun _ => ⟨rfl, rfl⟩, fun hbad => absurd he hbad⟩
    · rw [signatureDone_bad hl hx hsig hc hm hsrc he]
      exact ⟨rfl, fun hgood => absurd hgood he, fun _ => ⟨rfl, rfl⟩⟩
  case checked =>
    intro s l x hrun hl hx hsig hnew hr hall hsem hmode ha hform
    refine after_bus rfl hrun ?_
    rw [semanticDone_passed hl hx hsig hnew (fun _ => hall) hsem (congrArg Prod.fst hmode)]
    obtain ha | ha := ha
    · rw [checksPassed_form ha hr (hform ha), if_neg (by rw [ha]; decide)]
      exact ⟨rfl, rfl, rfl⟩
    · rw [checksPassed_checkOnly x ha, if_pos ha]
      exact ⟨rfl, rfl, rfl, doneNow_bit _, rfl⟩
  case reform =>
    intro s l x hrun hl hx hsig hnew hr hsem ha hm
    refine after_bus rfl hrun ?_
    have happlies : applies l = true := by simp [applies, ha]
    rw [semanticDone_passed hl hx hsig hnew (by simp [hr]) hsem (congrArg Prod.fst (modeErr_reform hr happlies hm)),
      checksPassed_reform ha hr]
    exact ⟨rfl, rfl, rfl, rfl⟩

end

section
/-! Passing time and the counters: what a wait leaves, and which counter a bump moves. -/

namespace Sys2Proof.Machine

open Sys2Proof

/-! ### Passing time (R106, R108) -/

theorem advanceGo_keep {α : Type} (g : State → α) (h : ∀ d s, g (advance d s) = g s) (target n : Nat) (s : State) :
    g (advanceGo target n s) = g s := by
  induction n generalizing s with
  | zero => rw [advanceGo]
  | succ n ih =>
    rw [advanceGo]
    split
    · rfl
    · rw [ih, h]

/-- What no passing nanosecond changes, no wait changes. -/
theorem advanceTo_keep {α : Type} (g : State → α) (h : ∀ d s, g (advance d s) = g s) (target : Nat) (s : State) :
    g (advanceTo target s) = g s := advanceGo_keep g h _ _ s

variable (target : Nat) (s : State)

@[simp] theorem advanceTo_regs : (advanceTo target s).regs = s.regs := advanceTo_keep State.regs (fun _ _ => rfl) target s
@[simp] theorem advanceTo_counts : (advanceTo target s).counts = s.counts := advanceTo_keep State.counts (fun _ _ => rfl) target s
@[simp] theorem advanceTo_sys : (advanceTo target s).sys = s.sys := advanceTo_keep State.sys (fun _ _ => rfl) target s
@[simp] theorem advanceTo_lode : (advanceTo target s).lode = s.lode := advanceTo_keep State.lode (fun _ _ => rfl) target s
@[simp] theorem advanceTo_radio : (advanceTo target s).radio = s.radio := advanceTo_keep State.radio (fun _ _ => rfl) target s
@[simp] theorem advanceTo_quench : (advanceTo target s).quench = s.quench := advanceTo_keep State.quench (fun _ _ => rfl) target s
@[simp] theorem advanceTo_switch : (advanceTo target s).switch = s.switch := advanceTo_keep State.switch (fun _ _ => rfl) target s
@[simp] theorem advanceTo_twin : (advanceTo target s).twin = s.twin := advanceTo_keep State.twin (fun _ _ => rfl) target s
@[simp] theorem advanceTo_geode : (advanceTo target s).geode = s.geode := advanceTo_keep State.geode (fun _ _ => rfl) target s

theorem advance_nextSlot (d : Nat) : (advance d s).time.nextSlot = s.time.nextSlot := by
  change (if s.aon.mainRun then s.time.run d else s.time).nextSlot = _
  split <;> rfl

@[simp] theorem advanceTo_nextSlot : (advanceTo target s).time.nextSlot = s.time.nextSlot :=
  advanceTo_keep (fun t => t.time.nextSlot) (fun d t => advance_nextSlot t d) target s

@[simp] theorem advanceClk_regs : (advanceClk target s).regs = s.regs := rfl
@[simp] theorem advanceClk_counts : (advanceClk target s).counts = s.counts := rfl
@[simp] theorem advanceClk_sys : (advanceClk target s).sys = s.sys := rfl
@[simp] theorem advanceClk_switch : (advanceClk target s).switch = s.switch := rfl

/-! ### Counters (R7) -/

theorem countOf_congr {s t : State} (h : t.counts = s.counts) (o e : Nat) : countOf t o e = countOf s o e := by
  rw [countOf, countOf, h]

theorem countOf_setCount_other {o e o' e' : Nat} (n : Nat) (h : countKey o e ≠ countKey o' e') :
    countOf (setCount o' e' n s) o e = countOf s o e := by
  simp only [countOf, setCount]
  split
  · rw [kget_kdel_other _ _ h]
  · rw [kget_kset_other _ _ _ h]

@[simp] theorem countOf_bumpBy_same (o e n : Nat) : countOf (bumpBy o e n s) o e = countOf s o e + n :=
  countOf_setCount_same ..

theorem countOf_bumpBy_other {o e o' e' : Nat} (n : Nat) (h : countKey o e ≠ countKey o' e') :
    countOf (bumpBy o' e' n s) o e = countOf s o e := countOf_setCount_other s _ h

end Sys2Proof.Machine
end

section
/-! Slot boundaries, chains and the shared segment of the field radio (10_field_radio.md R309 to R333): what the chains' own
operations leave, the start of a slot, and a frame of the shared segment that goes on air. -/

namespace Sys2Proof.Machine

open Sys2Proof

/-! ### Chains -/

@[simp] theorem chain_setChain_same (s : State) {c : Nat} (f : Chain → Chain) (h : c < 3) : chain (setChain c f s) c = f (chain s c) :=
  vget_vmod_same _ f _ h

theorem chain_setChain_other (s : State) {j c : Nat} (f : Chain → Chain) (h : j ≠ c) : chain (setChain c f s) j = chain s j :=
  vget_vmod_other _ f _ h

theorem chain_congr {s t : State} (h : t.radio.chains = s.radio.chains) (c : Nat) : chain t c = chain s c := by
  rw [chain, chain, h]

@[simp] theorem chain_raise (b i : Nat) (s : State) (c : Nat) : chain (raise b i s) c = chain s c := chain_congr (by rw [raise_radio]) c

@[simp] theorem chain_advanceTo (target : Nat) (s : State) (c : Nat) : chain (advanceTo target s) c = chain s c :=
  chain_congr (by rw [advanceTo_radio]) c

@[simp] theorem chain_bumpChain (j e : Nat) (s : State) (c : Nat) : chain (bumpChain j e s) c = chain s c := rfl

/-! ### What a slot's work on the radio leaves of the part -/

/-- The part without the radio, as far as a slot boundary is asked of it: mode, quench channels, twin and time. -/
def slotRest (s : State) : Sys × Quench × Twin × TimeB := (s.sys, s.quench, s.twin, s.time)

@[simp] theorem slotRest_raise (b i : Nat) (s : State) : slotRest (raise b i s) = slotRest s := by simp [slotRest]

@[simp] theorem slotRest_bump (o e : Nat) (s : State) : slotRest (bump o e s) = slotRest s := rfl

@[simp] theorem slotRest_bumpChain (c e : Nat) (s : State) : slotRest (bumpChain c e s) = slotRest s := rfl

@[simp] theorem slotRest_setChain (c : Nat) (f : Chain → Chain) (s : State) : slotRest (setChain c f s) = slotRest s := rfl

@[simp] theorem slotRest_setRadio (r : Radio) (s : State) : slotRest { s with radio := r } = slotRest s := rfl

@[simp] theorem slotRest_note (code sev p0 p1 p2 : Nat) (s : State) : slotRest (note code sev p0 p1 p2 s) = slotRest s := by
  simp [slotRest]

theorem slotRest_settleChain (c : Nat) (s : State) : slotRest (settleChain c s) = slotRest s := by
  simp only [settleChain, apply_ite slotRest, slotRest_raise, slotRest_setChain, ite_self]

theorem slotRest_dropTried (c : Nat) (s : State) : slotRest (dropTried c s) = slotRest s := by
  unfold dropTried
  split
  · simp only [apply_ite slotRest, slotRest_bumpChain, slotRest_setChain, ite_self]
  · rfl

theorem slotRest_chainBegin (c : Nat) (s : State) : slotRest (chainBegin c s) = slotRest s := by
  rw [chainBegin, slotRest_dropTried, slotRest_setChain, slotRest_settleChain]

theorem slotRest_holdAsn (s : State) : slotRest (holdAsn s) = slotRest s := by
  simp only [holdAsn, apply_ite slotRest, slotRest_raise, slotRest_setRadio, ite_self]

theorem slotRest_widenNodes (s : State) : slotRest (widenNodes s) = slotRest s := by
  simp only [widenNodes, apply_ite slotRest, slotRest_raise, slotRest_setRadio, ite_self]

theorem slotRest_keyFault (s : State) : slotRest (keyFault s) = slotRest s := by
  simp only [keyFault, useRefused, slotRest_raise, slotRest_bump, slotRest_setRadio]

theorem slotRest_overdraw (c : Nat) (s : State) : slotRest (overdraw c s) = slotRest s := by
  simp only [overdraw, apply_ite slotRest, slotRest_note, slotRest_raise, ite_self]

/-! ### A frame that goes on air (R318, R323, R339) -/

/-- An airtime charge moves the ledger alone. -/
theorem charge_eq (b ch us : Nat) (s : State) : ∃ l, charge b ch us s = { s with radio.ledger := l } := by
  simp only [charge]
  split <;> exact ⟨_, rfl⟩

/-- The radio with a frame on air of a chain. -/
def Radio.aired (r : Radio) (c : Nat) (f : RadioFrame) (led : List LedgerEntry) (start stop : Nat) : Radio :=
  { r with
    ledger := led
    chains := vmod r.chains c (fun x => { x with onAir := some f, airStart := start, airEnd := stop, channel := f.channel })
    seq := r.seq + 1
    txMax := max r.asn r.txMax }

/-- A frame as a chain sends it now. -/
def frameOf (s : State) (c : Nat) (ty : FrameType) (dst sub : Nat) (key payload : Bytes) : RadioFrame where
  type := ty
  channel := slotChannel s c
  asn := s.radio.asn
  sub := sub
  plain := frameHeader ty s.radio.asn (baseAddr s) dst s.radio.seq.toNat ++ payload
  psdu := sealFrame key ty (nonce Config.baseEui s.radio.asn sub) (frameHeader ty s.radio.asn (baseAddr s) dst s.radio.seq.toNat) payload

/-- The part once it is charged for a frame, with the frame on air of a chain. -/
def airedFrom (c : Nat) (f : RadioFrame) (stop : Nat) (s : State) : State :=
  { s with radio := s.radio.aired c f s.radio.ledger (now s) (now s + stop) }

theorem emit_eq (c : Nat) (ty : FrameType) (dst sub : Nat) (key payload : Bytes) (s : State) : ∃ led stop,
    emit c ty dst sub key payload s =
      (txEvent ty).elim id (bumpChain c) (airedFrom c (frameOf s c ty dst sub key payload) stop { s with radio.ledger := led }) := by
  obtain ⟨led, hcharge⟩ := charge_eq (chain s c).cfg.band (slotChannel s c) (airtime (chain s c).cfg.mode (psduLen payload.length)) s
  refine ⟨led, airtime (chain s c).cfg.mode (psduLen payload.length) * 1000, ?_⟩
  rw [← hcharge]
  cases ty <;> rfl

theorem emit_radio (c : Nat) (ty : FrameType) (dst sub : Nat) (key payload : Bytes) (s : State) : ∃ led start stop,
    (emit c ty dst sub key payload s).radio = s.radio.aired c (frameOf s c ty dst sub key payload) led start stop := by
  obtain ⟨led, stop, h⟩ := emit_eq c ty dst sub key payload s
  refine ⟨led, now s, now s + stop, ?_⟩
  rw [h]
  cases txEvent ty <;> rfl

theorem chain_of_aired {s t : State} {c : Nat} (hc : c < 3) {f : RadioFrame} {led : List LedgerEntry} {start stop : Nat}
    (h : t.radio = s.radio.aired c f led start stop) :
    chain t c = { chain s c with onAir := some f, airStart := start, airEnd := stop, channel := f.channel } := by
  rw [chain, h]
  exact vget_vmod_same _ _ _ hc

theorem slotRest_emit (c : Nat) (ty : FrameType) (dst sub : Nat) (key payload : Bytes) (s : State) :
    slotRest (emit c ty dst sub key payload s) = slotRest s := by
  obtain ⟨led, stop, h⟩ := emit_eq c ty dst sub key payload s
  rw [h]
  cases txEvent ty <;> rfl

/-! ### The late QUENCH of a slot break (R349) -/

/-- What a slot's start decides of the radio for the whole slot. -/
def Radio.slotFlags (r : Radio) : Bool × Nat × Bool × Bool × Bool := (r.running, r.asn, r.breakDue, r.asnHold, r.asnWrap)

theorem breakQuench_leaves (c : Nat) (s : State) : slotRest (breakQuench c s) = slotRest s ∧
    (breakQuench c s).radio.slotFlags = s.radio.slotFlags := by
  unfold breakQuench
  split
  · exact ⟨slotRest_keyFault s, rfl⟩
  · next key _ =>
    generalize hpay : quenchPayload 0xFF s.quench.qseq.toNat = payload
    obtain ⟨led, start, stop, hradio⟩ := emit_radio c .quench 0xFFFF (12 + c) key payload s
    have hover : (overdraw c (emit c .quench 0xFFFF (12 + c) key payload s)).radio = (emit c .quench 0xFFFF (12 + c) key payload s).radio := by
      simp only [overdraw, apply_ite State.radio, note_radio, raise_radio, ite_self]
    refine ⟨?_, ?_⟩
    · rw [slotRest_raise, slotRest_bumpChain, slotRest_overdraw, slotRest_emit]
    · rw [raise_radio, bumpChain, bump_radio, bump_radio, hover, hradio]
      rfl

theorem breakChain_leaves (c : Nat) (s : State) : slotRest (breakChain c s) = slotRest s ∧
    (breakChain c s).radio.slotFlags = s.radio.slotFlags := by
  unfold breakChain
  dsimp only
  split
  · exact breakQuench_leaves c _
  · exact ⟨rfl, rfl⟩

theorem lateBreak_of_none {s : State} (h : s.radio.breakDue = false) : lateBreak s = s := by simp [lateBreak, h]

theorem lateBreak_leaves (s : State) : slotRest (lateBreak s) = slotRest s ∧
    (lateBreak s).radio.slotFlags = { s.radio with breakDue := false }.slotFlags := by
  unfold lateBreak
  split
  · obtain ⟨hrest0, hflags0⟩ := breakChain_leaves 0 { s with radio.breakDue := false }
    obtain ⟨hrest1, hflags1⟩ := breakChain_leaves 1 (breakChain 0 { s with radio.breakDue := false })
    obtain ⟨hrest2, hflags2⟩ := breakChain_leaves 2 (breakChain 1 (breakChain 0 { s with radio.breakDue := false }))
    exact ⟨(hrest2.trans hrest1).trans hrest0, (hflags2.trans hflags1).trans hflags0⟩
  · next h =>
    rw [Bool.not_eq_true] at h
    exact ⟨rfl, by rw [Radio.slotFlags, Radio.slotFlags, h]⟩

/-! ### The start of a slot (R311, R312, R323) -/

/-- Nothing of the last slot is left on a chain. -/
def Chain.atStart (x : Chain) : Prop :=
  x.onAir = none ∧ x.broken = false ∧ x.sentBeacon = false ∧ x.sentGang = false ∧ x.sentShared = false

/-- The radio without its chains. -/
def Radio.core (r : Radio) : Radio := { r with chains := Vector.replicate 3 {} }

theorem Radio.fields_of_core {r q : Radio} (h : r.core = q.core) :
    r.running = q.running ∧ r.asn = q.asn ∧ r.breakDue = q.breakDue ∧ r.seq = q.seq ∧ r.txMax = q.txMax :=
  ⟨(congrArg Radio.running h :), (congrArg Radio.asn h :), (congrArg Radio.breakDue h :), (congrArg Radio.seq h :),
    (congrArg Radio.txMax h :)⟩

theorem settleChain_chains (c : Nat) (s : State) : (settleChain c s).radio.core = s.radio.core ∧
    ∀ k, k ≠ c → chain (settleChain c s) k = chain s k := by
  simp only [settleChain]
  split
  · exact ⟨rfl, fun _ _ => rfl⟩
  · split
    · exact ⟨by rw [raise_radio]; rfl, fun k hk => by rw [chain_raise, chain_setChain_other _ _ hk]⟩
    · exact ⟨rfl, fun k hk => chain_setChain_other _ _ hk⟩

theorem dropTried_chains (c : Nat) (s : State) : (dropTried c s).radio.core = s.radio.core ∧
    (∀ k, k ≠ c → chain (dropTried c s) k = chain s k) ∧ (c < 3 → (chain s c).atStart → (chain (dropTried c s) c).atStart) := by
  unfold dropTried
  split
  · split
    · refine ⟨rfl, fun k hk => chain_setChain_other _ _ hk, fun hc h => ?_⟩
      rw [chain_bumpChain, chain_setChain_same _ _ hc]
      exact h
    · exact ⟨rfl, fun _ _ => rfl, fun _ h => h⟩
  · exact ⟨rfl, fun _ _ => rfl, fun _ h => h⟩

theorem chainBegin_chains (c : Nat) (s : State) : (chainBegin c s).radio.core = s.radio.core ∧
    (∀ k, k ≠ c → chain (chainBegin c s) k = chain s k) ∧ (c < 3 → (chain (chainBegin c s) c).atStart) := by
  obtain ⟨hcore, hother⟩ := settleChain_chains c s
  obtain ⟨hcore', hother', hstart⟩ := dropTried_chains c (setChain c (freshChain s c) (settleChain c s))
  refine ⟨hcore'.trans hcore, fun k hk => ?_, fun hc => hstart hc ?_⟩
  · rw [chainBegin, hother' k hk, chain_setChain_other _ _ hk, hother k hk]
  · rw [chain_setChain_same _ _ hc]
    exact ⟨rfl, rfl, rfl, rfl, rfl⟩

theorem holdAsn_radio (s : State) : (holdAsn s).radio = { s.radio with
    asnHold := decide (s.radio.asn ≤ s.radio.txMax), asnWrap := decide (2 ^ 36 ≤ s.radio.asn) } := by
  simp only [holdAsn, apply_ite State.radio, raise_radio, ite_self]

theorem widenNodes_radio (s : State) : (widenNodes s).radio = { s.radio with nodes := s.radio.nodes.map (widenNode s) } := by
  simp only [widenNodes]
  split
  · next h => rw [h]
  · rw [raise_radio]

/-- The three chains at a slot boundary (R312, R329). -/
def chainsBegin (s : State) : State := chainBegin 2 (chainBegin 1 (chainBegin 0 s))

theorem chainsBegin_leaves (s : State) : slotRest (chainsBegin s) = slotRest s ∧ (chainsBegin s).radio.core = s.radio.core ∧
    ∀ c, c < 3 → (chain (chainsBegin s) c).atStart := by
  obtain ⟨hcore0, -, hstart0⟩ := chainBegin_chains 0 s
  obtain ⟨hcore1, hother1, hstart1⟩ := chainBegin_chains 1 (chainBegin 0 s)
  obtain ⟨hcore2, hother2, hstart2⟩ := chainBegin_chains 2 (chainBegin 1 (chainBegin 0 s))
  refine ⟨?_, (hcore2.trans hcore1).trans hcore0, fun c hc => ?_⟩
  · rw [chainsBegin, slotRest_chainBegin, slotRest_chainBegin, slotRest_chainBegin]
  · obtain rfl | rfl | rfl : c = 0 ∨ c = 1 ∨ c = 2 := by omega
    · rw [chainsBegin, hother2 0 (by decide), hother1 0 (by decide)]
      exact hstart0 hc
    · rw [chainsBegin, hother2 1 (by decide)]
      exact hstart1 hc
    · exact hstart2 hc

/-- The ASN of the slot that served time has reached (R311). -/
def slotAsn (s : State) : Nat := (now s - s.radio.schedE) / 10 ^ 7 % 2 ^ 40

/-- The slot's count, before its chains begin it. -/
def slotCounted (s : State) : State :=
  let u := if s.radio.running then countMissed s else s
  { u with radio := { u.radio with
    repeatLeft := repeatsAt u.radio (slotAsn s), asn := slotAsn s, running := true, syncDone := []
    nodes := u.radio.nodes.map (fun (n : Node) => { n with replied := none }) } }

theorem slotBegin_eq (s : State) : slotBegin s = lateBreak (widenNodes (holdAsn (chainsBegin (slotCounted s)))) := rfl

theorem slotCounted_leaves (s : State) : slotRest (slotCounted s) = slotRest s ∧ (slotCounted s).radio.running = true ∧
    (slotCounted s).radio.asn = slotAsn s ∧ (slotCounted s).radio.breakDue = s.radio.breakDue ∧
    (slotCounted s).radio.seq = s.radio.seq ∧ (slotCounted s).radio.txMax = s.radio.txMax := by
  unfold slotCounted
  split <;> exact ⟨rfl, rfl, rfl, rfl, rfl, rfl⟩

/-- The slot as its chains have begun it, before the QUENCH of a late decision. -/
def slotOpened (s : State) : State := widenNodes (holdAsn (chainsBegin (slotCounted s)))

theorem slotOpened_leaves (s : State) : slotRest (slotOpened s) = slotRest s ∧
    (slotOpened s).radio.slotFlags = (true, slotAsn s, s.radio.breakDue, decide (slotAsn s ≤ s.radio.txMax), decide (2 ^ 36 ≤ slotAsn s)) ∧
    (slotOpened s).radio.seq = s.radio.seq ∧ (slotOpened s).radio.txMax = s.radio.txMax ∧
    ∀ c, c < 3 → (chain (slotOpened s) c).atStart := by
  obtain ⟨hrest, hrun, hasn, hdue, hseq, hmax⟩ := slotCounted_leaves s
  obtain ⟨hrest', hcore, hstart⟩ := chainsBegin_leaves (slotCounted s)
  obtain ⟨hrun', hasn', hdue', hseq', hmax'⟩ := Radio.fields_of_core hcore
  rw [← hrest, ← hasn, ← hdue, ← hseq, ← hmax, ← hrest', ← hasn', ← hdue', ← hseq', ← hmax', ← hrun, ← hrun']
  unfold slotOpened
  generalize chainsBegin (slotCounted s) = u at hstart ⊢
  refine ⟨by rw [slotRest_widenNodes, slotRest_holdAsn], ?_, ?_, ?_, fun c hc => ?_⟩
  · rw [widenNodes_radio, holdAsn_radio]
    rfl
  · rw [widenNodes_radio, holdAsn_radio]
  · rw [widenNodes_radio, holdAsn_radio]
  · rw [chain_congr (s := u) (by rw [widenNodes_radio, holdAsn_radio])]
    exact hstart c hc

theorem slotBegin_leaves (s : State) : slotRest (slotBegin s) = slotRest s ∧
    (slotBegin s).radio.slotFlags = (true, slotAsn s, false, decide (slotAsn s ≤ s.radio.txMax), decide (2 ^ 36 ≤ slotAsn s)) ∧
    (s.radio.breakDue = false → (slotBegin s).radio.seq = s.radio.seq ∧ (slotBegin s).radio.txMax = s.radio.txMax ∧
      ∀ c, c < 3 → (chain (slotBegin s) c).atStart) := by
  obtain ⟨hrest, hflags, hseq, hmax, hstart⟩ := slotOpened_leaves s
  obtain ⟨hrest', hflags'⟩ := lateBreak_leaves (slotOpened s)
  have heq : slotBegin s = lateBreak (slotOpened s) := rfl
  rw [heq]
  refine ⟨hrest'.trans hrest, ?_, fun hdue => ?_⟩
  · rw [hflags']
    simp only [Radio.slotFlags, Prod.mk.injEq] at hflags ⊢
    obtain ⟨hrun, hasn, -, hhold, hwrap⟩ := hflags
    exact ⟨hrun, hasn, trivial, hhold, hwrap⟩
  · have hnone : (slotOpened s).radio.breakDue = false := by
      simp only [Radio.slotFlags, Prod.mk.injEq] at hflags
      exact hflags.2.2.1.trans hdue
    rw [lateBreak_of_none hnone]
    exact ⟨hseq, hmax, hstart⟩

/-! ### The mirror of a slot (R346, R421) -/

theorem sendBody_keep {α : Type} (g : State → α) (h : ∀ k p s, g (sendFrame k p s) = g s) (k : FrKind) (b : FrBody) (s : State) :
    g (sendBody k b s) = g s := by
  unfold sendBody
  split
  · exact h ..
  · exact foldl_keep g (fun t p => h k p t) _ s

theorem mirrorSlot_keep {α : Type} (g : State → α) (h : ∀ k p s, g (sendFrame k p s) = g s) (s : State) : g (mirrorSlot s) = g s := by
  simp only [mirrorSlot, sendGroup, apply_ite g, sendBody_keep g h, ite_self]

theorem slotRest_mirrorSlot (s : State) : slotRest (mirrorSlot s) = slotRest s := mirrorSlot_keep slotRest (fun _ _ _ => rfl) s

theorem mirrorSlot_radio (s : State) : (mirrorSlot s).radio = s.radio := mirrorSlot_keep State.radio (fun _ _ _ => rfl) s

/-! ### RADIO_CHAIN_CTRL (R69, R309) -/

theorem signedOf_fld_byte (w : Word) : signedOf 8 (fld w 7 0) = (w.truncate 8 : BitVec 8).toInt := by
  have hb : fld w 7 0 % 2 ^ 8 = (w.truncate 8 : BitVec 8).toNat := by simp [fld, bitsOf]
  have hhalf : (w.truncate 8 : BitVec 8).toNat < 2 ^ 7 ↔ 2 * (w.truncate 8 : BitVec 8).toNat < 2 ^ 8 := by omega
  simp only [signedOf, hb, BitVec.toInt, hhalf]

theorem toInt_ofInt_clamped (i : Int) : (BitVec.ofInt 8 (max (-20) (min 28 i))).toInt = max (-20) (min 28 i) := by
  rw [BitVec.toInt_ofInt_eq_self] <;> omega

theorem settleChain_of_none {c : Nat} {s : State} (hstop : (chain s c).stopping = false) (hshed : (chain s c).shedWait = false) :
    settleChain c s = s := by
  simp [settleChain, hstop, hshed]

/-- A chain with the power that a write names (R309). -/
def Chain.powered (w : Word) (x : Chain) : Chain := { x with txpwr := BitVec.ofInt 8 (max (-20) (min 28 (signedOf 8 (fld w 7 0)))) }

/-- A chain after a write of its EN, with a frame on air or not (R69). -/
def Chain.enabled (w : Word) (air : Bool) (x : Chain) : Chain :=
  if bit w 31 then (if x.stopping then { x with pendingEn := true } else { x with en := true })
  else if air then (if x.en then { x with stopping := true, pendingEn := false } else x)
  else { x with en := false }

section

variable {w : Word} {x : Chain}

theorem Chain.enabled_txpwr (air : Bool) : (x.enabled w air).txpwr = x.txpwr := by
  simp only [Chain.enabled, apply_ite Chain.txpwr, ite_self]

theorem Chain.enabled_on (air : Bool) (hw : w.getLsbD 31 = true) (hstop : x.stopping = false) : (x.enabled w air).en = true := by
  have hbit : bit w 31 = true := hw
  simp [Chain.enabled, hbit, hstop]

theorem Chain.enabled_off_idle (hw : w.getLsbD 31 = false) : (x.enabled w false).en = false := by
  have hbit : bit w 31 = false := hw
  simp [Chain.enabled, hbit]

theorem Chain.enabled_off_busy (hw : w.getLsbD 31 = false) (hen : x.en = true) :
    (x.enabled w true).en = true ∧ (x.enabled w true).stopping = true := by
  have hbit : bit w 31 = false := hw
  simp [Chain.enabled, hbit, hen]

end

/-- The chain has a frame on air that has not ended. -/
def chainBusy (s : State) (c : Nat) : Bool := (chain s c).onAir.isSome && decide (now s < (chain s c).airEnd)

theorem chainCtrl_settled {c : Nat} (hc : c < 3) (w : Word) {s : State} (hstop : (chain s c).stopping = false)
    (hshed : (chain s c).shedWait = false) :
    chainCtrl c w s = setChain c (Chain.enabled w (chainBusy s c)) (setChain c (Chain.powered w) s) := by
  have hbusy : chainBusy (setChain c (Chain.powered w) s) c = chainBusy s c := by
    rw [chainBusy, chain_setChain_same _ _ hc]
    rfl
  rw [← hbusy]
  simp only [chainCtrl, settleChain_of_none hstop hshed]
  unfold Chain.enabled
  split
  · rfl
  · change (if chainBusy (setChain c (Chain.powered w) s) c then _ else _) = _
    split <;> rfl

/-! ### A frame of the shared segment (R313, R332, R333, R340) -/

/-- The state in which a frame of the shared segment is sent: at the segment's start, with the segment used. -/
def atShared (c : Nat) (s : State) : State := useShared c (toUs (sharedUs s c) s)

theorem sendShared_eq (c : Nat) (ty : FrameType) (dst : Nat) (payload : Bytes) (s : State) :
    sendShared c ty dst payload s = transmit c ty dst (9 + c) payload (atShared c s) := rfl

section

variable (c : Nat) (s : State)

@[simp] theorem atShared_sys : (atShared c s).sys = s.sys := by
  rw [atShared, useShared, setChain_sys, toUs, advanceTo_sys]
@[simp] theorem atShared_regs : (atShared c s).regs = s.regs := by
  rw [atShared, useShared, setChain_regs, toUs, advanceTo_regs]
@[simp] theorem atShared_quench : (atShared c s).quench = s.quench := by
  rw [atShared, useShared, setChain_quench, toUs, advanceTo_quench]
@[simp] theorem atShared_twin : (atShared c s).twin = s.twin := by
  rw [atShared, useShared, setChain_twin, toUs, advanceTo_twin]
@[simp] theorem atShared_geode : (atShared c s).geode = s.geode := by
  rw [atShared, useShared, setChain_geode, toUs, advanceTo_geode]

theorem atShared_radio :
    (atShared c s).radio = { s.radio with chains := vmod s.radio.chains c (fun x => { x with sentShared := true }) } := by
  rw [atShared, useShared, setChain, toUs, advanceTo_radio]

theorem chain_atShared {c : Nat} (h : c < 3) : chain (atShared c s) c = { chain s c with sentShared := true } := by
  rw [atShared, useShared, chain_setChain_same _ _ h, toUs, chain_advanceTo]

end

theorem dnKey_congr {s t : State} (hgeode : t.geode = s.geode) (hregs : t.regs = s.regs) : dnKey t = dnKey s := by
  unfold dnKey blockKey slotCheck slotOwner slotAttr slotKey regFld regWord
  rw [hgeode, hregs]

theorem txScope_congr {s t : State} (hsys : t.sys = s.sys) (hregs : t.regs = s.regs) (c : Nat) : txScope t c = txScope s c := by
  unfold txScope beaconChain regFld regWord
  rw [hsys, hregs]

/-- The wait for the shared segment takes nothing from a chain that may send. -/
theorem mayTx_atShared {c : Nat} (hc : c < 3) {ty : FrameType} {s : State} (hstop : (chain s c).stopping = false) :
    mayTx (atShared c s) c ty = mayTx s c ty := by
  simp only [mayTx, activeChain, chainOn, slotOpen, claimAllows, txScope_congr (atShared_sys c s) (atShared_regs c s),
    chain_atShared s hc, atShared_radio, atShared_twin, hstop, Bool.not_false, Bool.true_or]

theorem slotChannel_atShared {c : Nat} (hc : c < 3) (s : State) : slotChannel (atShared c s) c = slotChannel s c := by
  simp only [slotChannel, hopBand, chain_atShared s hc, atShared_radio]

/-- With an empty ledger the room depends on the limits alone. -/
theorem ledgerRoom_congr {s t : State} (hledger : s.radio.ledger = []) (hledger' : t.radio.ledger = [])
    (hlimits : t.radio.limits = s.radio.limits) (hwindow : t.radio.windowS = s.radio.windowS) (b ch : Nat) (ty : FrameType) (us : Nat) :
    ledgerRoom t b ch ty us = ledgerRoom s b ch ty us := by
  have hband : ledgerBand t = ledgerBand s := by
    funext x
    rw [ledgerBand, ledgerBand, hlimits]
  have huse : ∀ x k, ledgerUse t x k = ledgerUse s x k := fun x k => by simp [ledgerUse, hledger, hledger']
  have hlimit : limitUs t = limitUs s := by
    funext x
    rw [limitUs, limitUs, hwindow]
  have hreserve : reserveUs t b ty = reserveUs s b ty := by cases ty <;> simp only [reserveUs, hlimit, hband]
  have haccount : ∀ k, accountRoom t b k ty us = accountRoom s b k ty us := fun k => by
    have hacc : accountLimit t b k = accountLimit s b k := by cases k <;> simp only [accountLimit, hlimit, hband]
    rw [accountRoom, accountRoom, huse, hreserve, hacc]
  have hsub : subOf t b ch = subOf s b ch := by rw [subOf, subOf, hband]
  unfold ledgerRoom
  rw [hsub, haccount]
  cases subOf s b ch with
  | none => rfl
  | some k => exact congrArg _ (haccount (some k))

/-- A chain once its frame of the shared segment is on air. -/
def Chain.onShared (x : Chain) (f : RadioFrame) (start stop : Nat) : Chain :=
  { x with sentShared := true, onAir := some f, airStart := start, airEnd := stop, channel := f.channel }

/-- What a frame of the shared segment leaves: it is on air, and of the chain only what it is on air with has changed. -/
structure SharedSent (s t : State) (c : Nat) (ty : FrameType) (dst : Nat) (payload : Bytes) : Prop where
  onAir : OnAir s t c ty dst (9 + c) payload
  chain : ∃ f start stop, chain t c = (chain s c).onShared f start stop
  quench : t.quench = s.quench
  sys : t.sys = s.sys

theorem transmit_admitted {c : Nat} {ty : FrameType} {dst sub : Nat} {key payload : Bytes} {s : State} (hmay : mayTx s c ty = true)
    (hkey : dnKey s = some key)
    (hroom : ledgerRoom s (chain s c).cfg.band (slotChannel s c) ty (airtime (chain s c).cfg.mode (psduLen payload.length)) = true) :
    transmit c ty dst sub payload s = (true, emit c ty dst sub key payload s) := by
  simp [transmit, hmay, hkey, hroom]

theorem sharedSent_emit {c : Nat} (hc : c < 3) (ty : FrameType) (dst : Nat) (key payload : Bytes) (s : State) :
    SharedSent s (emit c ty dst (9 + c) key payload (atShared c s)) c ty dst payload := by
  obtain ⟨led, start, stop, hradio⟩ := emit_radio c ty dst (9 + c) key payload (atShared c s)
  have hrest := slotRest_emit c ty dst (9 + c) key payload (atShared c s)
  simp only [slotRest, atShared_sys, atShared_quench, Prod.mk.injEq] at hrest
  obtain ⟨hsys, hquench, -, -⟩ := hrest
  have hframe : frameOf (atShared c s) c ty dst (9 + c) key payload = frameOf s c ty dst (9 + c) key payload := by
    simp only [frameOf, slotChannel_atShared hc, baseAddr, atShared_radio]
  rw [hframe] at hradio
  generalize emit c ty dst (9 + c) key payload (atShared c s) = t at hradio hsys hquench ⊢
  have hchain : chain t c = (chain s c).onShared (frameOf s c ty dst (9 + c) key payload) start stop := by
    rw [chain_of_aired hc hradio, chain_atShared s hc]
    rfl
  refine ⟨⟨⟨_, by rw [hchain]; rfl, rfl, rfl, rfl, rfl, rfl⟩, ?_, ?_⟩, ⟨_, _, _, hchain⟩, hquench, hsys⟩
  · rw [hradio, atShared_radio]
    rfl
  · rw [hradio, atShared_radio]
    rfl

/-- A frame that the mode, the claim, the key and the ledger let go leaves at the start of the shared segment. -/
theorem sendShared_sends {c n : Nat} (hc : c < 3) {ty : FrameType} (dst : Nat) {payload : Bytes} {s : State} (h : Sends s c n ty)
    (hn : payload.length = n) : (sendShared c ty dst payload s).1 = true ∧
    SharedSent s (sendShared c ty dst payload s).2 c ty dst payload := by
  obtain ⟨hmay, hstop, hkey, hledger, hroom⟩ := h
  obtain ⟨key, hkey⟩ := Option.isSome_iff_exists.mp hkey
  have hmay' : mayTx (atShared c s) c ty = true := (mayTx_atShared hc hstop).trans hmay
  have hkey' : dnKey (atShared c s) = some key := (dnKey_congr (atShared_geode c s) (atShared_regs c s)).trans hkey
  have hroom' : ledgerRoom (atShared c s) (chain (atShared c s) c).cfg.band (slotChannel (atShared c s) c) ty
      (airtime (chain (atShared c s) c).cfg.mode (psduLen payload.length)) = true := by
    rw [chain_atShared s hc, slotChannel_atShared hc, hn, ledgerRoom_congr hledger (by rw [atShared_radio]; exact hledger)
      (by rw [atShared_radio]) (by rw [atShared_radio])]
    exact hroom
  rw [sendShared_eq, transmit_admitted hmay' hkey' hroom']
  exact ⟨rfl, sharedSent_emit hc ty dst key payload s⟩

/-- A change of the chain that leaves its frame on air leaves what has been sent. -/
theorem OnAir.setChain {s t : State} {c : Nat} (hc : c < 3) {ty : FrameType} {dst sub : Nat} {payload : Bytes} {g : Chain → Chain}
    (h : OnAir s t c ty dst sub payload) (hg : ∀ x, (g x).onAir = x.onAir) : OnAir s (setChain c g t) c ty dst sub payload := by
  obtain ⟨⟨f, hair, hf⟩, hseq, hmax⟩ := h
  exact ⟨⟨f, by rw [chain_setChain_same _ _ hc, hg, hair], hf⟩, hseq, hmax⟩

/-- On a chain with a shared segment that is open a QUENCH takes it (R332). -/
theorem sendQuench_shared {c : Nat} {payload : Bytes} {s : State} (hopen : sharedOpen s c = true) (hfits : sharedFits s c 4 0 = true) :
    sendQuench c payload s = sendShared c .quench 0xFFFF payload s := by
  have hshared : hasShared (chain s c).cfg = true := by
    simp only [sharedOpen, Bool.and_eq_true] at hopen
    exact hopen.1.1
  simp [sendQuench, hshared, hopen, hfits]

/-! ### The clauses of slots and chains -/

/-- The next boundary is the one after. -/
def slotNext (s : State) : State := { s with time.nextSlot := s.time.nextSlot + 1 }

theorem slotNext_leaves (s : State) : (slotNext s).time.nextSlot = s.time.nextSlot + 1 ∧ (slotNext s).sys = s.sys ∧
    (slotNext s).quench = s.quench ∧ (slotNext s).twin = s.twin ∧ (slotNext s).radio = s.radio := ⟨rfl, rfl, rfl, rfl, rfl⟩

theorem slotReached_eq (s : State) : slotReached s =
    if ¬ (slotNext s).radio.present ∨ now (slotNext s) < (slotNext s).radio.schedE then
      { slotNext s with radio := { (slotNext s).radio with running := false } }
    else slotBegin (slotNext s) := rfl

/-- The radio at a boundary that served time has reached, and the frames that mirror it (R311, R346). -/
def slotBoundary (s : State) : State := mirrorSlot (slotReached s)

theorem slotRest_slotBoundary (s : State) : slotRest (slotBoundary s) = slotRest (slotNext s) := by
  rw [slotBoundary, slotRest_mirrorSlot, slotReached_eq]
  split
  · rfl
  · exact (slotBegin_leaves _).1

/-- R311: with no schedule, or before its epoch, no slot runs. -/
theorem slotBoundary_idle {s : State} (h : s.radio.present = false ∨ now (slotNext s) < s.radio.schedE) :
    (slotBoundary s).radio = { s.radio with running := false } := by
  rw [← Bool.not_eq_true] at h
  rw [slotBoundary, mirrorSlot_radio, slotReached_eq]
  exact congrArg State.radio (if_pos h)

theorem slotBoundary_begun {s : State} (hp : s.radio.present = true) (hnow : s.radio.schedE ≤ now (slotNext s)) :
    (slotBoundary s).radio = (slotBegin (slotNext s)).radio := by
  rw [slotBoundary, mirrorSlot_radio, slotReached_eq]
  refine congrArg State.radio (if_neg ?_)
  exact fun h => h.elim (· hp) (Nat.not_lt.mpr hnow)

/-- RADIO_SLOT waits for the boundary, and then the radio acts. -/
theorem exec_radioSlot {s : State} (h : Running s) : ∃ u, exec .radioSlot s = .next (slotBoundary u) ∧
    u.time.nextSlot = s.time.nextSlot ∧ u.sys = s.sys ∧ u.quench = s.quench ∧ u.twin = s.twin ∧ u.radio = s.radio :=
  ⟨advanceTo _ s, congrArg Host.Outcome.next (bus_run _ h.2.2), advanceTo_nextSlot .., advanceTo_sys .., advanceTo_quench ..,
    advanceTo_twin .., advanceTo_radio ..⟩

theorem quenchPayload_length (target qseq : Nat) : (quenchPayload target qseq).length = 4 := rfl

theorem corrPayload_length (seq chunk : Nat) (body : Bytes) : (leBytes 2 seq ++ leBytes 1 chunk ++ body).length = 3 + body.length :=
  (List.length_append ..).trans rfl

end Sys2Proof.Machine

open Sys2Proof Sys2Proof.Machine

/-- Settles O31: a boundary by what `slotBegin` leaves, a write of a chain by its two changes, and each frame of the shared segment by
`sendShared_sends`. -/
theorem slotsAndSharedSegment : Obligations.SlotsAndSharedSegment := by
  refine ⟨?slot, ?ctrl, ?frames⟩
  case slot =>
    intro s hrun
    obtain ⟨u, hexec, hnext, hsys, hquench, htwin, hradio⟩ := exec_radioSlot hrun
    rw [← hsys, ← hquench, ← htwin, ← hradio, ← hnext]
    refine ⟨_, hexec, ?_⟩
    obtain ⟨-, hflags, hkept⟩ := slotBegin_leaves (slotNext u)
    have hrest := slotRest_slotBoundary u
    simp only [slotRest, Prod.mk.injEq] at hrest
    obtain ⟨hsys', hquench', htwin', htime⟩ := hrest
    have hnow : now (slotBoundary u) = now (slotNext u) := by rw [now, now, htime]
    rw [hnow]
    simp only [Radio.slotFlags, Prod.mk.injEq] at hflags
    obtain ⟨hrunning, hasn, hdue, hhold, hwrap⟩ := hflags
    refine ⟨by rw [htime]; rfl, hsys', hquench', htwin', fun hnone => ?_, slotBoundary_idle, fun hp hreached => ?_⟩
    · obtain ⟨hseq, hmax, -⟩ := hkept hnone
      by_cases hidle : u.radio.present = false ∨ now (slotNext u) < u.radio.schedE
      · rw [slotBoundary_idle hidle]
        exact ⟨rfl, rfl⟩
      · rw [not_or, Bool.not_eq_false, not_lt] at hidle
        rw [slotBoundary_begun hidle.1 hidle.2]
        exact ⟨hseq, hmax⟩
    · have hbegun := slotBoundary_begun hp hreached
      rw [hbegun, hasn]
      refine ⟨hrunning, rfl, hdue, fun hnone c hc => ?_, hhold, hwrap⟩
      obtain ⟨-, -, hstart⟩ := hkept hnone
      rw [chain_congr (congrArg Radio.chains hbegun)]
      exact hstart c hc
  case ctrl =>
    intro s c w hrun hstop hshed
    refine after_bus rfl hrun ?_
    rw [chainCtrl_settled c.isLt w hstop hshed]
    have hother : ∀ k, k ≠ c.val → chain (setChain c (Chain.enabled w (chainBusy s c)) (setChain c (Chain.powered w) s)) k = chain s k :=
      fun k hk => by rw [chain_setChain_other _ _ hk, chain_setChain_other _ _ hk]
    refine ⟨rfl, hother, ?_⟩
    rw [chain_setChain_same _ _ c.isLt, chain_setChain_same _ _ c.isLt]
    refine ⟨?power, fun hw => Chain.enabled_on _ hw hstop, fun hw hidle => ?idle, fun hw hair hend hen => ?busy⟩
    case power =>
      rw [Chain.enabled_txpwr, ← signedOf_fld_byte]
      exact toInt_ofInt_clamped _
    case idle =>
      have hbusy : chainBusy s c = false := by
        obtain h | h := hidle <;> simp [chainBusy, h]
      rw [hbusy]
      exact Chain.enabled_off_idle hw
    case busy =>
      have hbusy : chainBusy s c = true := by simp [chainBusy, hair, hend]
      rw [hbusy]
      exact Chain.enabled_off_busy hw hen
  case frames =>
    intro s c hrun hopen
    refine ⟨fun hdue hfits hsends => ?quench, fun m q l hdue hq hfits hsends => ?machine, fun m hdue hq hm hfits hsends => ?anneal,
      fun n htaken huse hcorr hleft hn hsends => ?corr, fun f l n htaken huse hq htries hn hsends => ?down⟩
    case quench =>
      refine after_bus rfl hrun ?_
      obtain ⟨-, hsent⟩ := sendShared_sends c.isLt 0xFFFF hsends (quenchPayload_length 0xFF s.quench.qseq.toNat)
      obtain ⟨f, start, stop, hchain⟩ := hsent.chain
      simp only [hdue, if_true, sendQuench_shared hopen hfits]
      exact ⟨by rw [hchain]; rfl, hsent.onAir, hsent.quench, hsent.sys⟩
    case machine =>
      refine after_bus rfl hrun ?_
      obtain ⟨hgone, hsent⟩ := sendShared_sends c.isLt 0xFFFF hsends (quenchPayload_length m q)
      simp only [hq, hdue, Bool.false_eq_true, if_false, sendQuench_shared hopen hfits, hgone, if_true]
      exact ⟨hsent.onAir.setChain c.isLt fun _ => rfl, by rw [chain_setChain_same _ _ c.isLt],
        (setChain_quench ..).trans hsent.quench, (setChain_sys ..).trans hsent.sys⟩
    case anneal =>
      refine after_bus rfl hrun ?_
      obtain ⟨hgone, hsent⟩ := sendShared_sends (payload := leBytes 1 m ++ leBytes 3 0) c.isLt 0xFFFF hsends rfl
      obtain ⟨f, start, stop, hchain⟩ := hsent.chain
      simp only [hm, hdue, hq, hopen, hfits, hgone, Bool.false_eq_true, ne_eq, not_true_eq_false, or_self, false_or, if_false]
      by_cases hall : m = 0xFF
      · rw [if_pos hall, hchain]
        exact ⟨hsent.onAir, fun _ => ⟨rfl, rfl⟩, fun h => absurd hall h, hsent.sys⟩
      · rw [if_neg hall, chain_setChain_same _ _ c.isLt, hchain]
        exact ⟨hsent.onAir.setChain c.isLt fun _ => rfl, fun h => absurd h hall, fun _ => rfl,
          (setChain_sys ..).trans hsent.sys⟩
    case corr =>
      refine after_bus rfl hrun ?_
      obtain ⟨hgone, hsent⟩ := sendShared_sends (payload := leBytes 2 (chain s c).corrSeq ++
        leBytes 1 ((chain s c).corrChunk % 128 + 128 * b2n (decide ((chain s c).corrLeft.length ≤ n - 3))) ++
        (chain s c).corrLeft.take (n - 3)) c.isLt Config.corrDst hsends (corrPayload_length ..)
      obtain ⟨f, start, stop, hchain⟩ := hsent.chain
      simp only [huse, hcorr, hleft, htaken, hopen, hn, hgone, ne_eq, not_true_eq_false, or_self, Bool.false_eq_true, if_false, if_true]
      rw [chain_setChain_same _ _ c.isLt, hchain]
      exact ⟨rfl, rfl, rfl, hsent.onAir.setChain c.isLt fun _ => rfl⟩
    case down =>
      refine after_bus rfl hrun ?_
      obtain ⟨hgone, hsent⟩ := sendShared_sends (payload := downPayload f n (l != []) f.ackReq none) c.isLt f.dst.toNat hsends rfl
      simp only [huse, htaken, hopen, hq, hn, hgone, ne_eq, not_true_eq_false, or_self, Bool.false_eq_true, if_false]
      by_cases hack : f.ackReq = true
      · rw [if_pos hack, chain_setChain_same _ _ c.isLt]
        exact ⟨hsent.onAir.setChain c.isLt fun _ => rfl, fun _ => ⟨rfl, rfl⟩, fun h => absurd (h.symm.trans hack) Bool.false_ne_true⟩
      · rw [if_neg hack, chain_setChain_same _ _ c.isLt]
        exact ⟨hsent.onAir.setChain c.isLt fun _ => rfl, fun h => absurd h hack, fun _ => rfl⟩

end

section
/-! Ports, links and egress of the packet switch (12_packet_switch.md R379, R391, R398 to R403): what an operation on one port leaves of
it and of the others, a port that shuts down, and the frames that take the wire and leave it. -/

namespace Sys2Proof.Machine

open Sys2Proof

/-! ### Counter keys -/

theorem countKey_ne_offset {o o' e : Nat} (e' : Nat) (ho : o < o') (he : e < 2 ^ 24) : countKey o e ≠ countKey o' e' := by
  unfold countKey
  omega

theorem countKey_ne_sel (o : Nat) {e e' : Nat} (h : e ≠ e') : countKey o e ≠ countKey o e' := by
  unfold countKey
  omega

/-! ### Ports -/

theorem swPort_setPort_same {p : Nat} (f : SwPort → SwPort) {s : State} (h : p < s.switch.live.length) :
    swPort (setPort p f s) p = f (swPort s p) := by
  simp [swPort, setPort, nth, lmod, h]

theorem swPort_setPort_other {p q : Nat} (f : SwPort → SwPort) (s : State) (h : q ≠ p) : swPort (setPort p f s) q = swPort s q := by
  simp [swPort, setPort, nth, lmod, h.symm]

theorem swPort_congr {s t : State} (h : t.switch.live = s.switch.live) (p : Nat) : swPort t p = swPort s p := by
  rw [swPort, swPort, h]

@[simp] theorem length_live_setPort (p : Nat) (f : SwPort → SwPort) (s : State) :
    (setPort p f s).switch.live.length = s.switch.live.length := List.length_modify ..

theorem setPort_setPort (p : Nat) (f g : SwPort → SwPort) (s : State) : setPort p g (setPort p f s) = setPort p (g ∘ f) s := by
  simp only [setPort, lmod, List.modify_modify_eq]

@[simp] theorem portFrames_setPort (p : Nat) (f : SwPort → SwPort) (s : State) (q : Nat) : portFrames (setPort p f s) q = portFrames s q :=
  rfl

/-- A port that is up waits for no shutdown. -/
theorem waits_of_portUp {s : State} {p : Nat} (h : portUp s p = true) : (swPort s p).stopping = false ∧ (swPort s p).shedWait = false := by
  simp only [portUp, Bool.and_eq_true, Bool.not_eq_true'] at h
  exact ⟨h.1.1.1.2, h.1.1.2⟩

/-- A port's frame on the wire does not bear on whether it is up. -/
theorem portUp_congr {s t : State} {p : Nat} {w : Option (Nat × QFrame)} {e : Nat} (hsys : t.sys = s.sys)
    (hport : swPort t p = { swPort s p with onWire := w, wireEnd := e }) : portUp t p = portUp s p := by
  have hruns : portRuns t p = portRuns s p := by
    unfold portRuns
    rw [hsys]
  simp only [portUp, hport, hruns]

/-! ### What a change of queue depths leaves (R403) -/

theorem withPause_keep {α : Type} (g : State → α) (hraise : ∀ b i u, g (raise b i u) = g u) (f : State → State) (s : State) :
    g (withPause f s) = g (f s) := by
  unfold withPause
  dsimp only
  split
  · rfl
  · exact hraise ..

/-- The ports, the mode and the clock. -/
def portRest (s : State) : List SwPort × Sys × Nat := (s.switch.live, s.sys, s.clk)

theorem portRest_raise (b i : Nat) (s : State) : portRest (raise b i s) = portRest s := by simp [portRest]

theorem portRest_discardFrames (p ev : Nat) (drop : Nat → QFrame → Bool) (s : State) :
    portRest (discardFrames p ev drop s) = portRest s := by
  rw [discardFrames_eq]
  refine foldl_keep portRest (fun t q => ?_) _ s
  rw [discardQueue, withPause_keep portRest portRest_raise]
  rfl

theorem portRest_eq {s t : State} (h : portRest t = portRest s) : t.switch.live = s.switch.live ∧ t.sys = s.sys ∧ t.clk = s.clk := by
  simpa [portRest] using h

/-! ### Frames discarded and counted (R379, R402) -/

theorem frames_of_portFrames_nil {s : State} {p q : Nat} (h : portFrames s p = []) (hq : q < 32) : (swQ s (qk p q)).frames = [] :=
  List.map_eq_nil_iff.mp (List.flatMap_eq_nil_iff.mp h q (List.mem_range.mpr hq))

theorem discardFrames_of_nil {s : State} {p : Nat} (ev : Nat) (drop : Nat → QFrame → Bool) (h : portFrames s p = []) :
    discardFrames p ev drop s = s := by
  have hnone : (List.range 32).filter (fun q => (swQ s (qk p q)).frames.any (drop (qk p q))) = [] := by
    refine List.filter_eq_nil_iff.mpr fun q hq => ?_
    simp [frames_of_portFrames_nil h (List.mem_range.mp hq)]
  rw [discardFrames_eq, hnone, List.foldl_nil]

/-- Frames of one queue of a port that a test names. -/
def dropped (s : State) (p : Nat) (drop : Nat → QFrame → Bool) (q : Nat) : Nat :=
  ((swQ s (qk p q)).frames.filter (drop (qk p q))).length

theorem countOf_discardQueue {p ev : Nat} (hp : p < 16) (hev : ev < 16) (drop : Nat → QFrame → Bool) (s : State) (q : Nat) :
    countOf (discardQueue p ev drop s q) 0x0A0024 (ev + 16 * p) = countOf s 0x0A0024 (ev + 16 * p) + dropped s p drop q := by
  have hcounts := withPause_keep State.counts (fun b i u => raise_counts u b i) (swAbove (qk p q)) (bumpBy 0x0A0048 (3 + 8 * qk p q) (dropped s p drop q)
    (bumpBy 0x0A0024 (ev + 16 * p) (dropped s p drop q)
      (setQ (qk p q) (fun x => { x with frames := x.frames.filter (fun f => !(drop (qk p q) f)) }) s)))
  have hkey : countKey 0x0A0024 (ev + 16 * p) ≠ countKey 0x0A0048 (3 + 8 * qk p q) := countKey_ne_offset _ (by decide) (by omega)
  rw [countOf_congr (t := discardQueue p ev drop s q) hcounts, swAbove, countOf_congr (setQ_counts ..), countOf_bumpBy_other _ _ hkey,
    countOf_bumpBy_same, countOf_congr (setQ_counts ..)]

theorem countOf_foldl_discardQueue {p ev : Nat} (hp : p < 16) (hev : ev < 16) (drop : Nat → QFrame → Bool) (l : List Nat)
    (hl : ∀ q ∈ l, q < 32) (hnd : l.Nodup) (s : State) :
    countOf (l.foldl (discardQueue p ev drop) s) 0x0A0024 (ev + 16 * p) =
      countOf s 0x0A0024 (ev + 16 * p) + (l.map (dropped s p drop)).sum := by
  induction l generalizing s with
  | nil => rfl
  | cons q l ih =>
    obtain ⟨hnot, hnd⟩ := List.nodup_cons.mp hnd
    have hlater : l.map (dropped (discardQueue p ev drop s q) p drop) = l.map (dropped s p drop) := by
      refine List.map_congr_left fun j hj => ?_
      have hne : qk p j ≠ qk p q := fun he => by
        have hjq := ((qk_inj (hl j (List.mem_cons_of_mem q hj)) (hl q List.mem_cons_self)).mp he).2
        exact hnot (hjq ▸ hj)
      rw [dropped, dropped, frames_discardQueue_other ev drop s hne]
    rw [List.foldl_cons, ih (fun j hj => hl j (List.mem_cons_of_mem q hj)) hnd, hlater, countOf_discardQueue hp hev, List.map_cons,
      List.sum_cons, Nat.add_assoc]

theorem sum_map_filter_of_zero {α : Type} (f : α → Nat) (P : α → Bool) (l : List α) (h : ∀ x ∈ l, P x = false → f x = 0) :
    ((l.filter P).map f).sum = (l.map f).sum := by
  induction l with
  | nil => rfl
  | cons x l ih =>
    have ih := ih fun y hy => h y (List.mem_cons_of_mem x hy)
    cases hx : P x with
    | true => simp [hx, ih]
    | false => simp [hx, ih, h x List.mem_cons_self hx]

theorem countFrames_eq_sum (s : State) (p : Nat) (drop : Nat → QFrame → Bool) :
    countFrames s p drop = ((List.range 32).map (dropped s p drop)).sum := by
  rw [countFrames, portFrames, List.filter_flatMap, List.length_flatMap]
  refine congrArg List.sum (List.map_congr_left fun q _ => ?_)
  rw [List.filter_map, List.length_map]
  exact rfl

/-- A discard counts at the port every frame that it discards. -/
theorem countOf_discardFrames {p ev : Nat} (hp : p < 16) (hev : ev < 16) (drop : Nat → QFrame → Bool) (s : State) :
    countOf (discardFrames p ev drop s) 0x0A0024 (ev + 16 * p) = countOf s 0x0A0024 (ev + 16 * p) + countFrames s p drop := by
  rw [discardFrames_eq, countOf_foldl_discardQueue hp hev drop _ (fun q hq => List.mem_range.mp (List.mem_filter.mp hq).1)
    (List.nodup_range.filter _), countFrames_eq_sum]
  refine congrArg (countOf s 0x0A0024 (ev + 16 * p) + ·) (sum_map_filter_of_zero _ _ _ fun q _ hq => ?_)
  rw [List.any_eq_false] at hq
  rw [dropped, List.filter_eq_nil_iff.mpr hq, List.length_nil]

/-! ### A port that loses every frame (R379, R402) -/

/-- A port without its frame on the wire. -/
def SwPort.offWire (x : SwPort) : SwPort := { x with onWire := none }

/-- A port has lost its frames, and each is counted in LINK_DISCARD; the other ports stand. -/
structure PortFlushed (p : Nat) (s t : State) : Prop where
  port : swPort t p = (swPort s p).offWire
  others : ∀ q, q ≠ p → swPort t q = swPort s q ∧ portFrames t q = portFrames s q
  frames : portFrames t p = []
  counted : countOf t 0x0A0024 (11 + 16 * p) = countOf s 0x0A0024 (11 + 16 * p) + (openFrames s p).length
  sys : t.sys = s.sys
  clk : t.clk = s.clk
  length : t.switch.live.length = s.switch.live.length

/-- The wire of a port cleared, and its frame counted as discarded. -/
def clearWire (p : Nat) (s : State) : State :=
  match (swPort s p).onWire with
  | some (k, _) => withPause (swAbove k) (bumpQ k 3 (bumpPort p 11 (setPort p SwPort.offWire s)))
  | none => setPort p SwPort.offWire s

theorem flushPort_eq (p : Nat) (s : State) : flushPort p s = discardFrames p 11 (fun _ _ => true) (clearWire p s) := rfl

theorem openFrames_of_some {s : State} {p : Nat} {x : Nat × QFrame} (h : (swPort s p).onWire = some x) :
    openFrames s p = x :: portFrames s p := by
  unfold openFrames
  rw [h]
  rfl

theorem openFrames_of_none {s : State} {p : Nat} (h : (swPort s p).onWire = none) : openFrames s p = portFrames s p := by
  unfold openFrames
  rw [h]
  rfl

theorem clearWire_leaves {p : Nat} (hp : p < 16) (s : State) : portRest (clearWire p s) = portRest (setPort p SwPort.offWire s) ∧
    (∀ q, portFrames (clearWire p s) q = portFrames s q) ∧
    countOf (clearWire p s) 0x0A0024 (11 + 16 * p) + (portFrames s p).length =
      countOf s 0x0A0024 (11 + 16 * p) + (openFrames s p).length := by
  unfold clearWire
  split
  · next k f hw =>
    have hkey : countKey 0x0A0024 (11 + 16 * p) ≠ countKey 0x0A0048 (3 + 8 * k) := countKey_ne_offset _ (by decide) (by omega)
    refine ⟨?_, fun q => ?_, ?_⟩
    · rw [withPause_keep portRest portRest_raise]
      rfl
    · refine List.flatMap_congr fun j _ => ?_
      rw [swQ_withPause_swAbove_frames]
      rfl
    · rw [countOf_congr (withPause_keep State.counts (fun b i u => raise_counts u b i) ..), swAbove, countOf_congr (setQ_counts ..), bumpQ, bump,
        countOf_bumpBy_other _ _ hkey, bumpPort, bump, countOf_bumpBy_same, countOf_congr (setPort_counts ..), openFrames_of_some hw,
        List.length_cons]
      omega
  · next hw => exact ⟨rfl, fun _ => rfl, by rw [openFrames_of_none hw, countOf_congr (setPort_counts ..)]⟩

theorem flushPort_flushed {p : Nat} (hp : p < 16) {s : State} (hlen : p < s.switch.live.length) : PortFlushed p s (flushPort p s) := by
  obtain ⟨hrest, hframes, hcount⟩ := clearWire_leaves hp s
  obtain ⟨hlive, hsys, hclk⟩ := portRest_eq ((portRest_discardFrames p 11 (fun _ _ => true) (clearWire p s)).trans hrest)
  rw [← flushPort_eq] at hlive hsys hclk
  refine ⟨?_, fun q hq => ⟨?_, ?_⟩, ?_, ?_, hsys, hclk, ?_⟩
  · rw [swPort_congr hlive, swPort_setPort_same _ hlen]
  · rw [swPort_congr hlive, swPort_setPort_other _ _ hq]
  · rw [flushPort_eq, portFrames_discardFrames_other _ _ _ hq, hframes]
  · rw [flushPort_eq, portFrames_discardFrames_same]
    simp
  · rw [flushPort_eq, countOf_discardFrames hp (by decide), ← hcount, countFrames, hframes, List.filter_true]
  · rw [hlive, length_live_setPort]

theorem flushPort_of_empty {p : Nat} {s : State} (hwire : (swPort s p).onWire = none) (hframes : portFrames s p = []) :
    flushPort p s = setPort p SwPort.offWire s := by
  have hclear : clearWire p s = setPort p SwPort.offWire s := by simp only [clearWire, hwire]
  rw [flushPort_eq, hclear, discardFrames_of_nil _ _ ((portFrames_setPort ..).trans hframes)]

end Sys2Proof.Machine
end

section
/-! A port that shuts down (12_packet_switch.md R69, R379, R402): what the discard of the commands for the switch leaves of it. -/

namespace Sys2Proof.Machine

open Sys2Proof

/-! ### The switch under a discard of commands (R441 to R447) -/

/-- Between two states the switch stands, and no port counter has moved. -/
structure SwitchStands (s t : State) : Prop where
  same : t.switch = s.switch
  counts : ∀ e, e < 2 ^ 24 → countOf t 0x0A0024 e = countOf s 0x0A0024 e

namespace SwitchStands

variable {s t u : State}

theorem refl (s : State) : SwitchStands s s := ⟨rfl, fun _ _ => rfl⟩

theorem trans (h : SwitchStands s t) (k : SwitchStands t u) : SwitchStands s u :=
  ⟨k.same.trans h.same, fun e he => (k.counts e he).trans (h.counts e he)⟩

/-- A change of what is neither the switch nor a counter. -/
theorem other (h : SwitchStands s t) (hswitch : u.switch = t.switch := by rfl) (hcounts : u.counts = t.counts := by rfl) :
    SwitchStands s u :=
  h.trans ⟨hswitch, fun e _ => countOf_congr hcounts _ e⟩

theorem foldl {α : Type} {f : State → α → State} (hf : ∀ t a, SwitchStands s t → SwitchStands s (f t a)) (l : List α)
    (h : SwitchStands s t) : SwitchStands s (l.foldl f t) := by
  induction l generalizing t with
  | nil => exact h
  | cons a l ih => exact ih (hf t a h)

theorem ite {p : Prop} [Decidable p] (ht : SwitchStands s t) (hu : SwitchStands s u) : SwitchStands s (if p then t else u) := by
  split
  · exact ht
  · exact hu

theorem thenIf {p : Prop} [Decidable p] {f : State → State} (hf : ∀ u, SwitchStands s u → SwitchStands s (f u)) (h : SwitchStands s t) :
    SwitchStands s (if p then f t else t) := .ite (hf t h) h

end SwitchStands

section

variable {s t : State} (h : SwitchStands s t)

include h

/-- A counter of a later block. -/
theorem switchStands_bump {o : Nat} (e : Nat) (ho : 0x0A0024 < o) : SwitchStands s (bump o e t) :=
  h.trans ⟨rfl, fun _ he => countOf_bumpBy_other _ _ (countKey_ne_offset _ ho he)⟩

theorem switchStands_raise (b i : Nat) : SwitchStands s (raise b i t) := h.other (raise_switch ..) (raise_counts ..)

theorem switchStands_note (code sev p0 p1 p2 : Nat) : SwitchStands s (note code sev p0 p1 p2 t) :=
  .ite h (.ite h.other (switchStands_bump (h.other (u := { t with strata.lostDue := t.strata.lostDue + 1 })) (o := 0x110028) _ (by decide)).other)

theorem switchStands_withPause {f : State → State} (hf : ∀ u, SwitchStands s u → SwitchStands s (f u)) : SwitchStands s (withPause f t) :=
  .ite (hf t h) (switchStands_raise (hf t h) ..)

theorem switchStands_cqSettle (n : Nat) : SwitchStands s (cqSettle n t) := h.other

theorem switchStands_haltQueue (n : Nat) : SwitchStands s (haltQueue n t) := h.other

theorem switchStands_coreStore (a : Nat) (bs : Bytes) : SwitchStands s (coreStore a bs t) := .ite h.other h

theorem switchStands_eqStore (q : Nat) (bs : Bytes) : SwitchStands s (eqStore q bs t) :=
  .ite (switchStands_coreStore (switchStands_coreStore h ..) ..) h

theorem switchStands_eqSignal (q : Nat) : SwitchStands s (eqSignal q t) := h.other

theorem switchStands_eqPush (q : Nat) (bs : Bytes) : SwitchStands s (eqPush q bs t) := by
  unfold eqPush
  refine .thenIf (fun _ hu => switchStands_eqSignal hu q) (switchStands_withPause (switchStands_bump ?_ _ (by decide)) fun _ hu => hu.other)
  exact (switchStands_eqStore h q bs).other

theorem switchStands_culletPush (e : Bytes) : SwitchStands s (culletPush e t) := by
  unfold culletPush
  exact .thenIf (fun _ hu => switchStands_raise (switchStands_bump hu _ (by decide)) ..) (switchStands_eqPush h ..)

theorem switchStands_culletGo (l : List Bytes) : SwitchStands s (culletGo l t) := by
  induction l generalizing t with
  | nil => exact h.other
  | cons e l ih => exact .ite (ih (switchStands_culletPush h e)) h.other

theorem switchStands_passOne (n : Nat) (e : CmdEntry) : SwitchStands s (passOne n e t) := .ite h.other h.other

theorem switchStands_passGo (n : Nat) : SwitchStands s (passGo n t) := by
  induction n generalizing t with
  | zero => exact h
  | succ n ih =>
    rw [passGo]
    split
    · exact ih (switchStands_passOne h ..)
    · exact h

theorem switchStands_culletRecords (l : List Hit) : SwitchStands s (culletRecords l t) :=
  .foldl (fun _ _ hu => .ite hu (switchStands_note hu ..)) _ h

theorem switchStands_discardHits (l : List Hit) (kind cls code res dropped : Nat) (toQueue : Bool) :
    SwitchStands s (discardHits l kind cls code res dropped toQueue t) := by
  have hrecords := switchStands_culletRecords (h.other (u := { t with fault.reportSeq := t.fault.reportSeq + 1 })) l
  have hhalted := SwitchStands.foldl (f := fun s n => if nth l n .no = .no then s else haltQueue n s)
    (fun _ n hu => .ite hu (switchStands_haltQueue hu n)) (List.range 16) hrecords
  exact .ite h (switchStands_passGo (switchStands_culletGo hhalted.other _) 16)

end

/-! ### A port that shuts down -/

/-- A port as its shutdown leaves it: an enable that waited takes effect. -/
def SwPort.shut (x : SwPort) : SwPort := { x with en := x.pendingEn, stopping := false, pendingEn := false }

theorem shutPort_stands (p : Nat) (s : State) : SwitchStands (setPort p SwPort.shut (flushPort p s)) (shutPort p s) :=
  .ite (.refl _) (switchStands_discardHits (.refl _) ..)

theorem shutPort_of_empty {p : Nat} {s : State} (hframes : portFrames s p = []) :
    shutPort p s = setPort p SwPort.shut (flushPort p s) := by
  have hn : countFrames s p (fun _ _ => true) = 0 := by
    rw [countFrames, hframes]
    rfl
  exact if_pos hn

/-- A port that no longer waits for its shedding. -/
def SwPort.unshed (x : SwPort) : SwPort := { x with shedWait := false }

/-- A port that waits for nothing is settled. -/
theorem settlePort_of_running {p : Nat} {s : State} (hstop : (swPort s p).stopping = false) (hshed : (swPort s p).shedWait = false) :
    settlePort p s = s := by
  unfold settlePort
  rw [hstop, hshed]
  exact if_pos (by simp)

/-- A port that waits on its wire, once the wire is idle. -/
def endWait (p : Nat) (s : State) : State :=
  if (swPort (setPort p SwPort.unshed s) p).stopping then shutPort p (setPort p SwPort.unshed s) else setPort p SwPort.unshed s

theorem settlePort_of_waiting {p : Nat} {s : State} (hwire : (swPort s p).onWire = none)
    (hwait : (swPort s p).stopping = true ∨ (swPort s p).shedWait = true) :
    settlePort p s = if portPending s p then raise bPARISON 2 (endWait p s) else endWait p s :=
  if_neg (by simp [hwire, hwait])

/-- An idle port told to stop shuts down; PENDING_DONE may tell of it. -/
theorem settlePort_of_stopping {p : Nat} {s : State} (hwire : (swPort s p).onWire = none) (hlen : p < s.switch.live.length)
    (hstop : (swPort s p).stopping = true) : SwitchStands (shutPort p (setPort p SwPort.unshed s)) (settlePort p s) := by
  have hshut : endWait p s = shutPort p (setPort p SwPort.unshed s) := if_pos ((congrArg _ (swPort_setPort_same _ hlen)).trans hstop)
  rw [settlePort_of_waiting hwire (.inl hstop), hshut]
  exact .thenIf (fun _ hu => switchStands_raise hu ..) (.refl _)

end Sys2Proof.Machine
end

section
/-! Links and enables (12_packet_switch.md R69, R70, R379, R402): an idle port that is settled, a link that goes down, and a port
told to stop. -/

namespace Sys2Proof.Machine

open Sys2Proof

/-! ### An idle port that is settled (R69) -/

/-- Between two states a port's link and wire stand, with all else but its enables; no register bit has fallen. -/
structure PortIdles (p : Nat) (s t : State) : Prop where
  up : (swPort t p).up = (swPort s p).up
  wire : (swPort t p).onWire = (swPort s p).onWire
  others : ∀ q, q ≠ p → swPort t q = swPort s q
  frames : ∀ q, portFrames t q = portFrames s q
  length : t.switch.live.length = s.switch.live.length
  counts : t.counts = s.counts
  sys : t.sys = s.sys
  clk : t.clk = s.clk
  bits : ∀ off i, regBit s off i = true → regBit t off i = true

theorem PortIdles.refl (p : Nat) (s : State) : PortIdles p s s :=
  ⟨rfl, rfl, fun _ _ => rfl, fun _ => rfl, rfl, rfl, rfl, rfl, fun _ _ h => h⟩

section

variable {p : Nat} {s t : State} (h : PortIdles p s t)

include h

theorem portIdles_raise (b i : Nat) : PortIdles p s (raise b i t) where
  up := by rw [swPort_congr (congrArg _ (raise_switch ..)), h.up]
  wire := by rw [swPort_congr (congrArg _ (raise_switch ..)), h.wire]
  others q hq := by rw [swPort_congr (congrArg _ (raise_switch ..)), h.others q hq]
  frames q := (portFrames_congr (raise_switch ..) q).trans (h.frames q)
  length := (congrArg (·.live.length) (raise_switch ..)).trans h.length
  counts := (raise_counts ..).trans h.counts
  sys := (raise_sys ..).trans h.sys
  clk := (raise_clk ..).trans h.clk
  bits off j hj := by
    unfold raise
    split
    · exact h.bits off j hj
    · exact regBit_orReg_mono _ _ (h.bits off j hj)

theorem portIdles_setPort {f : SwPort → SwPort} (hlen : p < t.switch.live.length) (hup : (f (swPort t p)).up = (swPort t p).up)
    (hwire : (f (swPort t p)).onWire = (swPort t p).onWire) : PortIdles p s (setPort p f t) where
  up := by rw [swPort_setPort_same _ hlen, hup, h.up]
  wire := by rw [swPort_setPort_same _ hlen, hwire, h.wire]
  others q hq := (swPort_setPort_other _ _ hq).trans (h.others q hq)
  frames := h.frames
  length := (length_live_setPort ..).trans h.length
  counts := h.counts
  sys := h.sys
  clk := h.clk
  bits := h.bits

end

theorem shutPort_idles {p : Nat} {s t : State} (h : PortIdles p s t) (hlen : p < t.switch.live.length)
    (hwire : (swPort t p).onWire = none) (hframes : portFrames t p = []) : PortIdles p s (shutPort p t) := by
  rw [shutPort_of_empty hframes, flushPort_of_empty hwire hframes]
  exact portIdles_setPort (portIdles_setPort h hlen rfl hwire.symm) (by rwa [length_live_setPort]) rfl rfl

theorem endWait_idles {p : Nat} {s : State} (hlen : p < s.switch.live.length) (hwire : (swPort s p).onWire = none)
    (hframes : portFrames s p = []) : PortIdles p s (endWait p s) := by
  have hshed : PortIdles p s (setPort p SwPort.unshed s) := portIdles_setPort (.refl p s) hlen rfl rfl
  unfold endWait
  split
  · exact shutPort_idles hshed (by rwa [length_live_setPort]) (hshed.wire.trans hwire) hframes
  · exact hshed

theorem settlePort_idles {p : Nat} {s : State} (hlen : p < s.switch.live.length) (hwire : (swPort s p).onWire = none)
    (hframes : portFrames s p = []) : PortIdles p s (settlePort p s) := by
  have hended := endWait_idles hlen hwire hframes
  by_cases hwait : (swPort s p).stopping = true ∨ (swPort s p).shedWait = true
  · rw [settlePort_of_waiting hwire hwait]
    split
    · exact portIdles_raise hended ..
    · exact hended
  · obtain ⟨hstop, hshed⟩ := not_or.mp hwait
    rw [settlePort_of_running (Bool.not_eq_true _ ▸ hstop) (Bool.not_eq_true _ ▸ hshed)]
    exact .refl p s

/-! ### Links (R379) -/

theorem lineSpeed_eq (mode resolved : Nat) : lineSpeed mode resolved =
    if mode = 1 then 10000 else if mode = 2 ∨ mode = 3 then 1000 else if mode = 4 then 100 else if mode = 5 then 10 else resolved := rfl

/-- The switch tells of a change of a link. -/
theorem regBit_raise_link (s : State) : regBit (raise bSWITCH 1 s) 0x0A0090 1 = true :=
  regBit_raise_same s (b := bSWITCH) (by decide) (by decide)

/-- R379: a link goes down with every frame of its port. -/
theorem linkDown_leaves {p : Nat} {s : State} (hp : p < 12) (hlen : p < s.switch.live.length) {f : SwPort → SwPort}
    (hup : (f (swPort s p)).up = false) (hwire : (f (swPort s p)).onWire = (swPort s p).onWire) {t : State}
    (ht : t = settlePort p (raise bSWITCH 1 (flushPort p (setPort p f s)))) :
    (swPort t p).up = false ∧ openFrames t p = [] ∧ regBit t 0x0A0090 1 = true ∧ t.sys = s.sys ∧ t.clk = s.clk ∧
    countOf t 0x0A0024 (11 + 16 * p) = countOf s 0x0A0024 (11 + 16 * p) + (openFrames s p).length ∧
    (∀ q, q ≠ p → swPort t q = swPort s q ∧ portFrames t q = portFrames s q) := by
  have hport := swPort_setPort_same f hlen
  have hopen : openFrames (setPort p f s) p = openFrames s p := by
    unfold openFrames
    rw [hport, hwire, portFrames_setPort]
  have hflush := flushPort_flushed (p := p) (by omega) (s := setPort p f s) (by rwa [length_live_setPort])
  generalize flushPort p (setPort p f s) = u at hflush ht
  have hsame : ∀ q, swPort (raise bSWITCH 1 u) q = swPort u q := swPort_congr (congrArg _ (raise_switch ..))
  have hframes := (portFrames_congr (raise_switch u bSWITCH 1) p).trans hflush.frames
  have hidle : (swPort (raise bSWITCH 1 u) p).onWire = none := by
    rw [hsame, hflush.port]
    rfl
  have hset := settlePort_idles (s := raise bSWITCH 1 u) (by rwa [raise_switch, hflush.length, length_live_setPort]) hidle hframes
  rw [← ht] at hset
  refine ⟨?_, ?_, hset.bits _ _ (regBit_raise_link u), ?_, ?_, ?_, fun q hq => ⟨?_, ?_⟩⟩
  · rw [hset.up, hsame, hflush.port, hport]
    exact hup
  · rw [openFrames_of_none (hset.wire.trans hidle), hset.frames, hframes]
  · rw [hset.sys, raise_sys, hflush.sys, setPort_sys]
  · rw [hset.clk, raise_clk, hflush.clk, setPort_clk]
  · rw [countOf_congr hset.counts, countOf_congr (raise_counts ..), hflush.counted, countOf_congr (setPort_counts ..), hopen]
  · rw [hset.others q hq, hsame, (hflush.others q hq).1, swPort_setPort_other _ _ hq]
  · rw [hset.frames, portFrames_congr (raise_switch ..), (hflush.others q hq).2, portFrames_setPort]

/-! ### Enables (R69, R70, R402) -/

theorem ethSettle_of_none {s : State} (h : s.rtk.ethWait = none) : ethSettle s = s := by
  unfold ethSettle
  rw [h]

/-- R69, R402: a port is enabled, or its enable waits for its shutdown. -/
theorem portEnable_true {p : Nat} {s : State} (h : p = 15 → s.rtk.ethWait = none) : portEnable p true s =
    setPort p (fun x => if x.stopping then { x with pendingEn := true } else { x with en := true }) s := by
  unfold portEnable
  rw [if_neg (by simp)]
  split
  · next hp => exact ethSettle_of_none (h hp)
  · rfl

theorem portEnable_false (p : Nat) (s : State) : portEnable p false s = stopPort p s := if_pos (by simp)

/-- R70: an enable that waits is cancelled. -/
theorem stopPort_of_stopping {p : Nat} {s : State} (h : (swPort s p).stopping = true) :
    stopPort p s = setPort p (fun x => { x with pendingEn := false }) s := if_pos h

theorem stopPort_of_disabled {p : Nat} {s : State} (hstop : (swPort s p).stopping = false) (hen : (swPort s p).en = false) :
    stopPort p s = s := (if_neg (by simp [hstop])).trans (if_pos (by simp [hen]))

/-- A port told to stop. -/
def SwPort.stop (x : SwPort) : SwPort := { x with stopping := true, pendingEn := false }

/-- R402: a port told to stop does so at once when its wire is idle, and else at the end of the frame on it. -/
theorem stopPort_of_enabled {p : Nat} {s : State} (hstop : (swPort s p).stopping = false) (hen : (swPort s p).en = true) :
    stopPort p s = if (swPort s p).onWire.isSome = true ∧ (swPort s p).wireEnd ≤ s.clk then finishWire p (setPort p SwPort.stop s)
      else settlePort p (setPort p SwPort.stop s) := by
  unfold stopPort
  rw [if_neg (by simp [hstop]), if_neg (by simp [hen])]
  rfl

theorem settlePort_of_busy {p : Nat} {s : State} (h : (swPort s p).onWire.isSome = true) : settlePort p s = s := if_pos (.inl h)

/-- R402: an idle port that stops loses its frames, and each is counted. -/
theorem stopPort_idle {p : Nat} {s : State} (hp : p < 16) (hlen : p < s.switch.live.length) (hstop : (swPort s p).stopping = false)
    (hen : (swPort s p).en = true) (hwire : (swPort s p).onWire = none) {t : State} (ht : t = stopPort p s) :
    (swPort t p).en = false ∧ (swPort t p).stopping = false ∧ portFrames t p = [] ∧
      countOf t 0x0A0024 (11 + 16 * p) = countOf s 0x0A0024 (11 + 16 * p) + (portFrames s p).length := by
  have hport : swPort (setPort p SwPort.unshed (setPort p SwPort.stop s)) p = (swPort s p).stop.unshed := by
    rw [swPort_setPort_same _ (by rwa [length_live_setPort]), swPort_setPort_same _ hlen]
  have hstopping := swPort_setPort_same SwPort.stop hlen
  have hshut := settlePort_of_stopping (s := setPort p SwPort.stop s) (by rw [hstopping]; exact hwire) (by rwa [length_live_setPort])
    (by rw [hstopping]; rfl)
  have hflush := flushPort_flushed hp (s := setPort p SwPort.unshed (setPort p SwPort.stop s))
    (by rwa [length_live_setPort, length_live_setPort])
  have hstands := (shutPort_stands p _).trans hshut
  have hsettle : t = settlePort p (setPort p SwPort.stop s) := by
    rw [ht, stopPort_of_enabled hstop hen, if_neg (by simp [hwire])]
  rw [← hsettle] at hstands
  have hended : swPort t p = (swPort (setPort p SwPort.unshed (setPort p SwPort.stop s)) p).offWire.shut := by
    rw [swPort_congr (congrArg _ hstands.same), swPort_setPort_same _ (by rwa [hflush.length, length_live_setPort, length_live_setPort]),
      hflush.port]
  rw [hport] at hended
  have hopen : openFrames (setPort p SwPort.unshed (setPort p SwPort.stop s)) p = portFrames s p :=
    openFrames_of_none (by rw [hport]; exact hwire)
  refine ⟨by rw [hended]; rfl, by rw [hended]; rfl, ?_, ?_⟩
  · rw [portFrames_congr hstands.same, portFrames_setPort, hflush.frames]
  · rw [hstands.counts _ (by omega), countOf_congr (setPort_counts ..), hflush.counted, hopen, countOf_congr (setPort_counts ..),
      countOf_congr (setPort_counts ..)]

/-- R402: a port told to stop sends the frame on its wire to its end. -/
theorem stopPort_busy {p : Nat} {s : State} (hlen : p < s.switch.live.length) (hstop : (swPort s p).stopping = false)
    (hen : (swPort s p).en = true) (hwire : (swPort s p).onWire.isSome = true) (hend : s.clk < (swPort s p).wireEnd) :
    stopPort p s = setPort p SwPort.stop s := by
  rw [stopPort_of_enabled hstop hen, if_neg (by omega)]
  exact settlePort_of_busy (by rw [swPort_setPort_same _ hlen]; exact hwire)

end Sys2Proof.Machine
end

section
/-! Frames on the wire (12_packet_switch.md R391, R398, R399): a frame that leaves, the next one of an idle port, and a launch frame. -/

namespace Sys2Proof.Machine

open Sys2Proof

/-! ### A frame that leaves (R391, R403) -/

/-- What a frame that has left changes of its port and of the counters. -/
structure FrameSent (p k : Nat) (f : QFrame) (s t : State) : Prop where
  port : swPort t p = (swPort s p).offWire
  frames : portFrames t p = portFrames s p
  sys : t.sys = s.sys
  clk : t.clk = s.clk
  sentAtPort : countOf t 0x0A0024 (2 + 16 * p) = countOf s 0x0A0024 (2 + 16 * p) + 1
  bytesAtPort : countOf t 0x0A0024 (3 + 16 * p) = countOf s 0x0A0024 (3 + 16 * p) + f.bytes.length
  sentAtQueue : countOf t 0x0A0048 (2 + 8 * k) = countOf s 0x0A0048 (2 + 8 * k) + 1

/-- A port's wire cleared, and its frame's blocks off the depth of its queue. -/
def leaveWire (p k : Nat) (s : State) : State := withPause (fun s => swAbove k (setPort p SwPort.offWire s)) s

theorem countSent_eq (p k : Nat) (f : QFrame) (s : State) : countSent p k f s =
    bumpBy 0x0A0048 (2 + 8 * k) 1 (bumpBy 0x0A0024 (3 + 16 * p) f.bytes.length (bumpBy 0x0A0024 (2 + 16 * p) 1 (leaveWire p k s))) := rfl

theorem leaveWire_portRest (p k : Nat) (s : State) : portRest (leaveWire p k s) = portRest (setPort p SwPort.offWire s) := by
  rw [leaveWire, withPause_keep portRest portRest_raise]
  rfl

@[simp] theorem leaveWire_counts (p k : Nat) (s : State) : (leaveWire p k s).counts = s.counts := by
  rw [leaveWire, withPause_keep State.counts fun b i u => raise_counts u b i]
  rfl

theorem leaveWire_portFrames (p k : Nat) (s : State) : portFrames (leaveWire p k s) p = portFrames s p := by
  rw [leaveWire, withPause_keep (fun u => portFrames u p) fun b i u => portFrames_congr (raise_switch u b i) p]
  refine List.flatMap_congr fun j _ => ?_
  rw [swQ_swAbove_frames]
  exact rfl

theorem countSent_sent {p : Nat} (hp : p < 12) {s : State} (hlen : p < s.switch.live.length) (k : Nat) (f : QFrame) :
    FrameSent p k f s (countSent p k f s) := by
  obtain ⟨hlive, hsys, hclk⟩ := portRest_eq (leaveWire_portRest p k s)
  have hqueue (e : Nat) (he : e < 2 ^ 24) : countKey 0x0A0024 e ≠ countKey 0x0A0048 (2 + 8 * k) := countKey_ne_offset _ (by decide) he
  have hevents : countKey 0x0A0024 (2 + 16 * p) ≠ countKey 0x0A0024 (3 + 16 * p) := countKey_ne_sel _ (by omega)
  have hcounts (o e : Nat) : countOf (leaveWire p k s) o e = countOf s o e := countOf_congr (leaveWire_counts ..) o e
  rw [countSent_eq]
  refine ⟨?_, leaveWire_portFrames p k s, hsys, hclk, ?_, ?_, ?_⟩
  · exact (swPort_congr hlive p).trans (swPort_setPort_same _ hlen)
  · rw [countOf_bumpBy_other _ _ (hqueue _ (by omega)), countOf_bumpBy_other _ _ hevents, countOf_bumpBy_same, hcounts]
  · rw [countOf_bumpBy_other _ _ (hqueue _ (by omega)), countOf_bumpBy_same, countOf_bumpBy_other _ _ hevents.symm, hcounts]
  · rw [countOf_bumpBy_same, countOf_bumpBy_other _ _ (hqueue _ (by omega)).symm,
      countOf_bumpBy_other _ _ (hqueue _ (by omega)).symm, hcounts]

theorem deliverFrame_of_line {p : Nat} (hp : p < 12) (f : QFrame) (s : State) : deliverFrame p f s = s := by
  unfold deliverFrame
  rw [if_neg (by omega), if_neg (by omega), if_neg (by omega), if_neg (by omega)]

theorem consumerTakes_of_line {p : Nat} (hp : p < 12) (f : QFrame) (s : State) : consumerTakes s p f = true := if_neg (by omega)

theorem queueStamp_of_unasked {f : QFrame} (h : f.tsReq = false) (p : Nat) (s : State) : queueStamp p f s = s := by
  unfold queueStamp
  split
  · exact if_neg (by simp [h])
  · rfl

/-- A port that is up finishes no wire when it holds no frame. -/
theorem finishWire_of_idle {p : Nat} {s : State} (hwire : (swPort s p).onWire = none) (hstop : (swPort s p).stopping = false)
    (hshed : (swPort s p).shedWait = false) : finishWire p s = s := by
  unfold finishWire
  rw [hwire]
  exact settlePort_of_running hstop hshed

/-- R391: a frame leaves a line port that runs at the end of its wire time. -/
theorem finishWire_of_line {p k : Nat} (hp : p < 12) {f : QFrame} {s : State} (hlen : p < s.switch.live.length) (hup : portUp s p = true)
    (hwire : (swPort s p).onWire = some (k, f)) (hts : f.tsReq = false) :
    finishWire p s = countSent p k f (advanceClk (swPort s p).wireEnd s) := by
  obtain ⟨hstop, hshed⟩ := waits_of_portUp hup
  have hport := (countSent_sent hp (s := advanceClk (swPort s p).wireEnd s) hlen k f).port
  unfold finishWire
  rw [hwire]
  dsimp only
  rw [if_pos (consumerTakes_of_line hp ..), deliverFrame_of_line hp, queueStamp_of_unasked hts]
  exact settlePort_of_running (by rw [hport]; exact hstop) (by rw [hport]; exact hshed)

/-! ### The frame that may start next (R391) -/

theorem filterMap_eq_singleton {α β : Type} {g : α → Option β} {l : List α} {a : α} {b : β} (hmem : a ∈ l) (hnd : l.Nodup)
    (ha : g a = some b) (hothers : ∀ x ∈ l, x ≠ a → g x = none) : l.filterMap g = [b] := by
  obtain ⟨l₁, l₂, rfl⟩ := List.append_of_mem hmem
  have hne := (List.nodup_middle.mp hnd)
  rw [List.nodup_cons] at hne
  have hnone (m : List α) (hm : ∀ x ∈ m, x ∈ l₁ ++ l₂) : m.filterMap g = [] := by
    refine List.filterMap_eq_nil_iff.mpr fun x hx => hothers x ?_ fun hxa => hne.1 (hxa ▸ hm x hx)
    have := hm x hx
    simp only [List.mem_append, List.mem_cons] at this ⊢
    tauto
  rw [List.filterMap_append, List.filterMap_cons_some ha, hnone l₁ fun x hx => List.mem_append_left _ hx,
    hnone l₂ fun x hx => List.mem_append_right _ hx, List.nil_append]

/-- The one queued frame of a port lies alone in a queue of it. -/
theorem queue_of_portFrames_single {s : State} {p k : Nat} {f : QFrame} (h : portFrames s p = [(k, f)]) :
    ∃ q, q < 32 ∧ k = qk p q ∧ (swQ s (qk p q)).frames = [f] ∧ ∀ j, j < 32 → j ≠ q → (swQ s (qk p j)).frames = [] := by
  have hmem : (k, f) ∈ portFrames s p := h ▸ List.mem_singleton_self _
  obtain ⟨q, hq, hkf⟩ := List.mem_flatMap.mp hmem
  obtain ⟨g, hg, heq⟩ := List.mem_map.mp hkf
  obtain ⟨rfl, rfl⟩ := Prod.mk.inj heq
  refine ⟨q, List.mem_range.mp hq, rfl, ?_⟩
  obtain ⟨l₁, l₂, hsplit⟩ := List.append_of_mem hq
  rw [portFrames, hsplit, List.flatMap_append, List.flatMap_cons] at h
  obtain ⟨hnil, hrest⟩ | ⟨-, hrest⟩ := List.append_eq_singleton_iff.mp h
  · obtain ⟨hown, -⟩ | ⟨hown, hlast⟩ := List.append_eq_singleton_iff.mp hrest
    · rw [List.map_eq_nil_iff.mp hown] at hg
      exact absurd hg List.not_mem_nil
    · obtain ⟨x, hx, hxf⟩ := List.map_eq_singleton_iff.mp hown
      obtain rfl : x = g := (Prod.mk.inj hxf).2
      refine ⟨hx, fun j hj hjq => ?_⟩
      have hjm : j ∈ l₁ ++ q :: l₂ := hsplit ▸ List.mem_range.mpr hj
      obtain hj1 | hj2 := List.mem_append.mp hjm
      · exact List.map_eq_nil_iff.mp (List.flatMap_eq_nil_iff.mp hnil j hj1)
      · exact List.map_eq_nil_iff.mp (List.flatMap_eq_nil_iff.mp hlast j ((List.mem_cons.mp hj2).resolve_left hjq))
  · obtain ⟨hown, -⟩ := List.append_eq_nil_iff.mp hrest
    rw [List.map_eq_nil_iff.mp hown] at hg
    exact absurd hg List.not_mem_nil

theorem offered_of_empty {s : State} {p q : Nat} (h : (swQ s (qk p q)).frames = []) : offered s p q = none := by
  unfold offered
  rw [h]
  rfl

theorem offered_of_single {s : State} {p q : Nat} {f : QFrame} (h : (swQ s (qk p q)).frames = [f]) (hlaunch : f.launch = none)
    (hmay : mayStart s p (qk p q) f = true) : offered s p q = some f := by
  have hfilter : [f].filter (fun f => f.launch.isNone) = [f] := by simp [hlaunch]
  unfold offered
  rw [h, hfilter]
  exact if_pos hmay

theorem startClass_of_none {p : Nat} {s : State} {l : List Nat} (h : ∀ c ∈ l, offers s p c = []) : startClass p l s = s := by
  induction l with
  | nil => rfl
  | cons c l ih =>
    rw [startClass, h c List.mem_cons_self]
    exact ih fun d hd => h d (List.mem_cons_of_mem c hd)

theorem startClass_of_single {p c : Nat} {s : State} {x : Nat × QFrame} {l : List Nat} (hc : c ∈ l) (hx : offers s p c = [x])
    (hothers : ∀ d, d ≠ c → offers s p d = []) : startClass p l s = startFrame p (qk p x.1) x.2 s := by
  induction l with
  | nil => exact absurd hc List.not_mem_nil
  | cons d l ih =>
    by_cases hd : d = c
    · rw [startClass, hd, hx]
    · rw [startClass, hothers d hd]
      exact ih ((List.mem_cons.mp hc).resolve_left (Ne.symm hd))

/-- A port with nothing queued starts nothing. -/
theorem startNext_of_empty {p : Nat} {s : State} (h : portFrames s p = []) : startNext p s = s := by
  have hoffers (c : Nat) : offers s p c = [] := by
    refine List.filterMap_eq_nil_iff.mpr fun q hq => ?_
    rw [offered_of_empty (frames_of_portFrames_nil h (List.mem_range.mp hq))]
    exact ite_self _
  unfold startNext
  split
  · rfl
  · exact startClass_of_none fun c _ => hoffers c

/-- R391: the one queued frame of an idle port starts, when it may. -/
theorem startNext_of_single {p k c : Nat} {f : QFrame} {s : State} (hframes : portFrames s p = [(k, f)]) (hclass : classOf s k = some c)
    (hc : c < 8) (hlaunch : f.launch = none) (hmay : mayStart s p k f = true) (hwire : (swPort s p).onWire = none)
    (hup : portUp s p = true) (hwake : ¬ (s.sys.wakeHold = true ∧ p < 12)) : startNext p s = startFrame p k f s := by
  obtain ⟨q, hq, rfl, hown, hothers⟩ := queue_of_portFrames_single hframes
  have hoffer : offers s p c = [(q, f)] := by
    refine filterMap_eq_singleton (List.mem_range.mpr hq) List.nodup_range ?_ fun j hj hjq => ?_
    · rw [if_pos hclass, offered_of_single hown hlaunch hmay]
      rfl
    · rw [offered_of_empty (hothers j (List.mem_range.mp hj) hjq)]
      exact ite_self _
  have hnone (d : Nat) (hd : d ≠ c) : offers s p d = [] := by
    refine List.filterMap_eq_nil_iff.mpr fun j hj => ?_
    by_cases hjq : j = q
    · rw [hjq, hclass]
      exact if_neg fun h => hd (Option.some.inj h).symm
    · rw [offered_of_empty (hothers j (List.mem_range.mp hj) hjq)]
      exact ite_self _
  unfold startNext
  rw [if_neg (by simpa [hwire, hup] using hwake)]
  exact startClass_of_single (List.mem_range.mpr hc) hoffer hnone

/-! ### A frame that takes the wire (R391, R398) -/

/-- What a frame that starts changes: it takes the wire of its port and leaves its queue. -/
structure FrameStarted (p k : Nat) (f : QFrame) (s t : State) : Prop where
  wire : (swPort t p).onWire = some (k, f)
  wireEnd : (swPort t p).wireEnd = t.clk + cdiv (wirePs s p (f.bytes.length + 20)) 1000
  queues : ∀ j, (swQ t j).frames = if j = k then (swQ s j).frames.erase f else (swQ s j).frames
  clk : t.clk = max s.clk (swPort s p).wireEnd
  counts : t.counts = s.counts
  sys : t.sys = s.sys
  regs : t.regs = s.regs

theorem sentFrame_of_not_ptp {f : QFrame} (h : f.ptp = false) (s : State) (p : Nat) : sentFrame s p f = f :=
  if_pos (by simp [stamped, h])

theorem startFrame_started {p k : Nat} {f : QFrame} {s : State} (hlen : p < s.switch.live.length) (hptp : f.ptp = false) :
    FrameStarted p k f s (startFrame p k f s) := by
  have hport : swPort (startFrame p k f s) p = { swPort s p with
      onWire := some (k, sentFrame (advanceClk (swPort s p).wireEnd s) p f)
      wireEnd := (advanceClk (swPort s p).wireEnd s).clk + cdiv (wirePs s p (f.bytes.length + 20)) 1000 } := swPort_setPort_same _ hlen
  have hqueue (j : Nat) : swQ (startFrame p k f s) j =
      swQ (setQ k (fun x => { x with frames := x.frames.erase f }) (advanceClk (swPort s p).wireEnd s)) j := rfl
  have hclk : (startFrame p k f s).clk = max s.clk (swPort s p).wireEnd := advanceClk_clk ..
  refine ⟨?_, ?_, fun j => ?_, hclk, rfl, rfl, rfl⟩
  · rw [hport, sentFrame_of_not_ptp hptp]
  · rw [hport]
    exact rfl
  · rw [hqueue]
    split
    · next hj =>
      rw [hj, swQ_setQ_same]
      exact rfl
    · next hj =>
      rw [swQ_setQ_other _ _ hj]
      exact rfl

/-- The one queued frame of a port that starts leaves none behind. -/
theorem FrameStarted.portFrames_nil {p k : Nat} {f : QFrame} {s t : State} (h : FrameStarted p k f s t)
    (hframes : portFrames s p = [(k, f)]) : portFrames t p = [] := by
  obtain ⟨q, hq, rfl, hown, hothers⟩ := queue_of_portFrames_single hframes
  refine List.flatMap_eq_nil_iff.mpr fun j hj => List.map_eq_nil_iff.mpr ?_
  by_cases hjq : j = q
  · rw [h.queues, hjq, if_pos rfl, hown, List.erase_cons_head]
  · have hne : qk p j ≠ qk p q := fun he => hjq ((qk_inj (List.mem_range.mp hj) hq).mp he).2
    rw [h.queues, if_neg hne, hothers j (List.mem_range.mp hj) hjq]

/-- R398: a launch frame starts on an idle wire. -/
theorem startLaunch_of_idle {p : Nat} {s : State} (k : Nat) (f : QFrame) (hwire : (swPort s p).onWire = none)
    (hstop : (swPort s p).stopping = false) (hshed : (swPort s p).shedWait = false) :
    startLaunch p k f s = bumpQ k 4 (startFrame p k f s) := by
  unfold startLaunch
  simp only [finishWire_of_idle hwire hstop hshed, hwire, Option.isSome_none, Bool.false_and, Bool.false_eq_true, if_false]

end Sys2Proof.Machine
end

section

open Sys2Proof
open Sys2Proof.Machine

/-- Settles O41: a link's change and an enable are read from the operation on its port, a discard counts each frame that it takes
(`flushPort_flushed`), and a frame that leaves or starts changes its port, its queue and its counters alone. -/
theorem portsAndEgress : Obligations.PortsAndEgress := by
  unfold Obligations.PortsAndEgress
  refine ⟨?linkUp, ?linkDown, ?enables, ?leaves, ?starts, ?empty, ?noLaunch, ?launches⟩
  case linkUp =>
    intro s p v hrun hlen
    refine after_bus rfl hrun ?_
    refine ⟨?_, regBit_raise_link _, fun q hq => ?_, congrArg (·.queues) (raise_switch ..), raise_sys .., raise_counts ..⟩
    · rw [swPort_congr (congrArg _ (raise_switch ..)), swPort_setPort_same _ hlen, lineSpeed_eq]
    · rw [swPort_congr (congrArg _ (raise_switch ..)), swPort_setPort_other _ _ hq]
  case linkDown =>
    intro s p hrun hlen
    exact after_bus rfl hrun (linkDown_leaves p.isLt hlen rfl rfl rfl)
  case enables =>
    intro s p hrun hlen
    refine ⟨fun hstop heth => ?on, fun hstop heth => ?pending, fun hstop => ?cancel, fun hstop hen => ?off, fun hstop hen hwire => ?idle,
      fun hstop hen hwire hend => ?busy⟩
    case on =>
      refine after_bus rfl hrun ?_
      rw [portEnable_true heth]
      exact ⟨(swPort_setPort_same _ hlen).trans (if_neg (by simp [hstop])), rfl, rfl⟩
    case pending =>
      refine after_bus rfl hrun ?_
      rw [portEnable_true heth]
      exact ⟨(swPort_setPort_same _ hlen).trans (if_pos hstop), rfl, rfl⟩
    case cancel =>
      refine after_bus rfl hrun ?_
      rw [portEnable_false, stopPort_of_stopping hstop, swPort_setPort_same _ hlen]
    case off =>
      refine congrArg Host.Outcome.next ((bus_run _ hrun.2.2).trans ?_)
      rw [portEnable_false, stopPort_of_disabled hstop hen]
    case idle => exact after_bus rfl hrun (stopPort_idle p.isLt hlen hstop hen hwire (portEnable_false ..))
    case busy =>
      refine after_bus rfl hrun ?_
      rw [portEnable_false, stopPort_busy hlen hstop hen hwire hend]
      have hport := swPort_setPort_same SwPort.stop hlen
      refine ⟨hport, ?_, rfl⟩
      unfold openFrames
      rw [hport, portFrames_setPort]
      rfl
  case leaves =>
    intro s p k f hrun hp hlen hup hwire hframes hts
    refine after_bus rfl hrun ?_
    have hsent := countSent_sent hp (s := advanceClk (swPort s p).wireEnd s) hlen k f
    have hnone := hsent.frames.trans hframes
    rw [finishWire_of_line hp hlen hup hwire hts, startNext_of_empty hnone]
    exact ⟨by rw [hsent.port]; rfl, hnone, by rw [hsent.clk, advanceClk_clk], hsent.sys, hsent.sentAtPort, hsent.bytesAtPort, hsent.sentAtQueue⟩
  case starts =>
    intro s p k c f hrun hlen hup hwire hframes hclass hc hlaunch hptp hwake hmay
    obtain ⟨hstop, hshed⟩ := waits_of_portUp hup
    refine after_bus rfl hrun ?_
    have hstart := startFrame_started (k := k) hlen hptp
    rw [finishWire_of_idle hwire hstop hshed, startNext_of_single hframes hclass hc hlaunch hmay hwire hup hwake]
    exact ⟨hstart.wire, hstart.portFrames_nil hframes, hstart.counts, hstart.wireEnd, hstart.clk⟩
  case empty =>
    intro s p hrun hwire hup hframes
    obtain ⟨hstop, hshed⟩ := waits_of_portUp hup
    refine congrArg Host.Outcome.next ((bus_run _ hrun.2.2).trans ?_)
    rw [finishWire_of_idle hwire hstop hshed, startNext_of_empty hframes]
  case noLaunch =>
    intro s p hrun hlaunch
    refine congrArg Host.Outcome.next ((bus_run _ hrun.2.2).trans ?_)
    rw [hlaunch]
  case launches =>
    intro s p k f hrun hlen hfirst hup hgate htest hwake hwire hptp
    obtain ⟨hstop, hshed⟩ := waits_of_portUp hup
    have hswitch : (atLaunch p f s).switch = s.switch := advanceTo_switch ..
    have hcounts : (atLaunch p f s).counts = s.counts := advanceTo_counts ..
    have hsys : (atLaunch p f s).sys = s.sys := advanceTo_sys ..
    have hregs : (atLaunch p f s).regs = s.regs := advanceTo_regs ..
    have hport := swPort_congr (congrArg (·.live) hswitch) p.val
    have hstart := startFrame_started (k := k) (s := atLaunch p f s) (p := p) (by rwa [hswitch]) hptp
    refine after_bus rfl hrun ?_
    rw [hfirst]
    dsimp only
    rw [if_pos ⟨hup, hgate, htest, hwake⟩, startLaunch_of_idle k f (by rw [hport, hwire]) (by rw [hport, hstop]) (by rw [hport, hshed])]
    generalize startFrame p k f (atLaunch p f s) = t at hstart
    generalize atLaunch p f s = u at hstart hcounts hsys hregs
    have hcount (e : Nat) : countOf t 0x0A0048 e = countOf s 0x0A0048 e := countOf_congr (hstart.counts.trans hcounts) _ e
    refine ⟨hstart.wire, ?_, ?_, hstart.sys.trans hsys, hstart.regs.trans hregs⟩
    · rw [bumpQ, bump, countOf_bumpBy_same, hcount]
    · rw [bumpQ, bump, countOf_bumpBy_other _ _ (countKey_ne_sel _ (by omega)), hcount]

end

section
/-! The work around a mode change (03_modes_power_reset.md R73 to R88): what the operations that a transition starts and stops leave of
the part's mode, power, claim and stop path. -/

namespace Sys2Proof.Machine

open Sys2Proof

theorem latchCopies_congr {s t : State} (h : t.quench = s.quench) : latchCopies t = latchCopies s := by rw [latchCopies, h, latchCopies]

/-! ### What a block's own work leaves -/

/-- What of the part the work of its blocks leaves. -/
structure CalmView where
  clk : Nat
  sys : Sys
  aon : Aon
  parison : Parison
  time : TimeB
  quench : Quench
  twin : Twin
  /-- Code and class of the last error. -/
  lastFault : BitVec 16 × FaultClass

/-- The view of a state. -/
def calmView (s : State) : CalmView where
  clk := s.clk
  sys := s.sys
  aon := s.aon
  parison := s.parison
  time := s.time
  quench := s.quench
  twin := s.twin
  lastFault := (s.fault.lastCode, s.fault.lastClass)

/-- Between two states no register bit has fallen, and registers other than INT_STATUS stand. -/
structure RegsStand (s t : State) : Prop where
  bits : ∀ off i, regBit s off i = true → regBit t off i = true
  plain : ∀ off, (∀ b, intStatusOff b ≠ off) → regWord t off = regWord s off

theorem RegsStand.of_eq {s t : State} (h : t.regs = s.regs) : RegsStand s t :=
  ⟨fun off i hb => by rwa [regBit, regWord, h], fun off _ => by rw [regWord, regWord, h]⟩

theorem RegsStand.trans {s t u : State} (h : RegsStand s t) (k : RegsStand t u) : RegsStand s u :=
  ⟨fun off i hb => k.bits off i (h.bits off i hb), fun off ho => (k.plain off ho).trans (h.plain off ho)⟩

theorem regsStand_orReg (b : Nat) (m : Word) (s : State) : RegsStand s (orReg (intStatusOff b) m s) :=
  ⟨fun _ _ hb => regBit_orReg_mono _ m hb, fun _ ho => regWord_setReg_other _ _ (ho b).symm⟩

theorem regsStand_raise (b i : Nat) (s : State) : RegsStand s (raise b i s) := by
  unfold raise
  split
  · exact .of_eq rfl
  · exact regsStand_orReg b _ s

/-- Between two states the mode, the power, the loader, time, the stop path and the claim stand, and the registers do. -/
structure Calm (s t : State) : Prop where
  view : calmView t = calmView s
  regs : RegsStand s t

namespace Calm

variable {s t u : State}

theorem refl (s : State) : Calm s s := ⟨rfl, .of_eq rfl⟩

theorem trans (h : Calm s t) (k : Calm t u) : Calm s u := ⟨k.view.trans h.view, h.regs.trans k.regs⟩

/-- A change of what neither the view nor a register holds. -/
theorem other (h : Calm s t) (hview : calmView u = calmView t) (hregs : u.regs = t.regs) : Calm s u :=
  h.trans ⟨hview, .of_eq hregs⟩

theorem foldl {α : Type} {f : State → α → State} (hf : ∀ t a, Calm s t → Calm s (f t a)) (l : List α) (h : Calm s t) :
    Calm s (l.foldl f t) := by
  induction l generalizing t with
  | nil => exact h
  | cons a l ih => exact ih (hf t a h)

theorem ite {p : Prop} [Decidable p] (ht : Calm s t) (hu : Calm s u) : Calm s (if p then t else u) := by
  split
  · exact ht
  · exact hu

theorem thenIf {p : Prop} [Decidable p] {f : State → State} (hf : ∀ u, Calm s u → Calm s (f u)) (h : Calm s t) :
    Calm s (if p then f t else t) := .ite (hf t h) h

theorem clk_eq (h : Calm s t) : t.clk = s.clk := congrArg CalmView.clk h.view

theorem sys_eq (h : Calm s t) : t.sys = s.sys := congrArg CalmView.sys h.view

theorem aon_eq (h : Calm s t) : t.aon = s.aon := congrArg CalmView.aon h.view

theorem parison_eq (h : Calm s t) : t.parison = s.parison := congrArg CalmView.parison h.view

theorem time_eq (h : Calm s t) : t.time = s.time := congrArg CalmView.time h.view

theorem quench_eq (h : Calm s t) : t.quench = s.quench := congrArg CalmView.quench h.view

theorem twin_eq (h : Calm s t) : t.twin = s.twin := congrArg CalmView.twin h.view

theorem copies_eq (h : Calm s t) : latchCopies t = latchCopies s := latchCopies_congr h.quench_eq

theorem lastFault_eq (h : Calm s t) : (t.fault.lastCode, t.fault.lastClass) = (s.fault.lastCode, s.fault.lastClass) :=
  congrArg CalmView.lastFault h.view

end Calm

section

variable {s t : State} (h : Calm s t)

include h

/-! #### Counters, interrupts and records -/

theorem calm_bump (o e : Nat) : Calm s (bump o e t) := h.other rfl rfl

theorem calm_bumpBy (o e n : Nat) : Calm s (bumpBy o e n t) := h.other rfl rfl

theorem calm_raise (b i : Nat) : Calm s (raise b i t) :=
  h.trans ⟨by simp [calmView], regsStand_raise b i t⟩

theorem calm_record (code source sev p0 p1 p2 : Nat) : Calm s (record code source sev p0 p1 p2 t) := by
  refine .ite h (.ite (h.other rfl rfl) ?_)
  exact (h.other (u := bump 0x110028 0 { t with strata.lostDue := t.strata.lostDue + 1 }) rfl rfl).trans ⟨rfl, regsStand_orReg 0x11 0x8 _⟩

/-! #### Mailboxes -/

theorem calm_mbPush (m : Nat) (h2c : Bool) (w : Word) (same : Bool) : Calm s (mbPush m h2c w same t) := .ite (h.other rfl rfl) (h.other rfl rfl)

theorem calm_wardenAnswer (op tag status : Nat) (data : List Nat) : Calm s (wardenAnswer op tag status data t) :=
  .foldl (fun _ _ ht => calm_mbPush ht ..) data (calm_mbPush h ..)

/-! #### Queue depths and the frames of ports -/

theorem calm_withPause {f : State → State} (hf : ∀ u, Calm s u → Calm s (f u)) : Calm s (withPause f t) :=
  .ite (hf t h) (calm_raise (hf t h) ..)

theorem calm_setQ (k : Nat) (f : SwQueue → SwQueue) : Calm s (setQ k f t) := h.other rfl rfl

theorem calm_swAbove (k : Nat) : Calm s (swAbove k t) := calm_setQ h ..

theorem calm_discardQueue (p ev : Nat) (drop : Nat → QFrame → Bool) (q : Nat) : Calm s (discardQueue p ev drop t q) :=
  calm_withPause (calm_bumpBy (calm_bumpBy (calm_setQ h ..) ..) ..) fun _ hu => calm_swAbove hu _

theorem calm_discardFrames (p ev : Nat) (drop : Nat → QFrame → Bool) : Calm s (discardFrames p ev drop t) := by
  rw [discardFrames_eq]
  exact .foldl (fun _ q hu => calm_discardQueue hu p ev drop q) _ h

theorem calm_setPort (p : Nat) (f : SwPort → SwPort) : Calm s (setPort p f t) := h.other rfl rfl

theorem calm_shedPort (p : Nat) : Calm s (shedPort p t) := calm_setPort (calm_discardFrames h ..) ..

theorem calm_dropClaimFrames : Calm s (dropClaimFrames t).2 := by
  have hfold := Calm.foldl (fun u p (hu : Calm s u) => calm_discardFrames hu p 13 (gatedFrame t)) (List.range 12) h
  unfold dropClaimFrames
  dsimp only
  exact .ite hfold (calm_raise hfold ..)

/-! #### A discard of host commands (R441 to R447) -/

theorem calm_coreStore (a : Nat) (bs : Bytes) : Calm s (coreStore a bs t) := .ite (h.other rfl rfl) h

theorem calm_eqStore (q : Nat) (bs : Bytes) : Calm s (eqStore q bs t) := .ite (calm_coreStore (calm_coreStore h ..) ..) h

theorem calm_setEq (q : Nat) (f : EvtQueue → EvtQueue) : Calm s (setEq q f t) := h.other rfl rfl

theorem calm_eqAbove (q : Nat) : Calm s (eqAbove q t) := calm_setEq h q _

theorem calm_eqSignal (q : Nat) : Calm s (eqSignal q t) := (calm_setEq h q fun e => { e with pend := 0 }).other rfl rfl

theorem calm_eqPush (q : Nat) (bs : Bytes) : Calm s (eqPush q bs t) :=
  .thenIf (f := eqSignal q) (fun _ hu => calm_eqSignal hu q)
    (calm_withPause (calm_bump (calm_setEq (calm_eqStore h q bs) q _) ..) fun _ hu => calm_eqAbove hu q)

theorem calm_culletPush (e : Bytes) : Calm s (culletPush e t) :=
  .thenIf (f := fun u => raise bFAULT 3 (bump 0x0C0044 5 u)) (fun _ hu => calm_raise (calm_bump hu ..) ..) (calm_eqPush h _ e)

theorem calm_culletGo (l : List Bytes) : Calm s (culletGo l t) := by
  induction l generalizing t with
  | nil =>
    rw [culletGo]
    exact h.other rfl rfl
  | cons e l ih =>
    rw [culletGo]
    exact .ite (ih (calm_culletPush h e)) (h.other rfl rfl)

theorem calm_passOne (n : Nat) (e : CmdEntry) : Calm s (passOne n e t) := .ite (h.other rfl rfl) (h.other rfl rfl)

theorem calm_passGo (n : Nat) : Calm s (passGo n t) := by
  induction n generalizing t with
  | zero => exact h
  | succ n ih =>
    rw [passGo]
    split
    · exact ih (calm_passOne h ..)
    · exact h

theorem calm_setCq (n : Nat) (f : CmdQueue → CmdQueue) : Calm s (setCq n f t) := h.other rfl rfl

theorem calm_cqSettle (n : Nat) : Calm s (cqSettle n t) := calm_setCq h n _

theorem calm_haltQueue (n : Nat) : Calm s (haltQueue n t) := by
  unfold haltQueue
  dsimp only
  generalize hu : cqSettle n (setCq n _ t) = u
  have hsettled : Calm s u := hu ▸ calm_cqSettle (calm_setCq h n _) n
  exact hsettled.other rfl rfl

theorem calm_discardHits (l : List Hit) (kind cls code res dropped : Nat) (toQueue : Bool) :
    Calm s (discardHits l kind cls code res dropped toQueue t) := by
  have hrecords : Calm s (culletRecords l { t with fault.reportSeq := t.fault.reportSeq + 1 }) :=
    .foldl (fun _ _ hu => .ite hu (calm_record hu ..)) _ (h.other rfl rfl)
  have hhalted := Calm.foldl (f := fun s n => if nth l n .no = .no then s else haltQueue n s)
    (fun _ n hu => .ite hu (calm_haltQueue hu n)) (List.range 16) hrecords
  exact .ite h (calm_passGo (calm_culletGo (hhalted.other (by rfl) (by rfl)) _) 16)

theorem calm_discard (targets : List Nat) (kind cls code res dropped : Nat) (toQueue : Bool) :
    Calm s (discard targets kind cls code res dropped toQueue t) := calm_discardHits h ..

/-! #### Field cores (R86, R455, R457) -/

theorem calm_setMb (m : Nat) (f : Mailbox → Mailbox) : Calm s (setMb m f t) := h.other rfl rfl

theorem calm_coreSideReset (m : Nat) (pushed : Bool) : Calm s (coreSideReset m t pushed) := by
  unfold coreSideReset
  dsimp only
  generalize hu : setMb m _ t = u
  have hset : Calm s u := hu ▸ calm_setMb h m _
  split
  · exact hset.other rfl rfl
  · exact hset

theorem calm_settleTask (k : Nat) : Calm s (settleTask k t) := .ite (.ite h (h.other rfl rfl)) (h.other rfl rfl)

theorem calm_setCore (k : Nat) (f : FieldCore → FieldCore) : Calm s (setCore k f t) := h.other rfl rfl

theorem calm_stopCore (k : Nat) : Calm s (stopCore k t) := by
  unfold stopCore
  dsimp only
  refine calm_coreSideReset ?_ k false
  split
  · exact calm_settleTask (calm_setCore h ..) _
  · exact calm_setCore h ..

theorem calm_gateCores : Calm s (gateCores t) := .foldl (fun _ _ hu => calm_setCore (calm_stopCore hu _) ..) _ h

theorem calm_drawn : Calm s (drawn t) := h.other rfl rfl

theorem calm_startCore (k cause : Nat) : Calm s (startCore k cause t) := .ite (calm_coreSideReset (calm_setCore (calm_drawn h) ..) ..) h

theorem calm_ungateCores : Calm s (ungateCores t) := .foldl (fun _ _ hu => .ite (calm_startCore (calm_setCore hu ..) ..) hu) _ h

/-! #### Lode's pipeline 1 (R208) -/

theorem calm_bumpLode (pipe : Bool) (ev : Nat) : Calm s (bumpLode pipe ev t) := h.other rfl rfl

theorem calm_applyHeldOne (w : HeldWrite) : Calm s (applyHeldOne t w) := by
  unfold applyHeldOne
  split
  · split
    · exact .ite (h.other rfl rfl) (h.other rfl rfl)
    · exact calm_raise (.foldl (fun _ i hu => calm_bumpLode hu ..) _ h) ..
  · exact h

theorem calm_resume1 : Calm s (resume1 t) :=
  (Calm.foldl (fun _ w hu => calm_applyHeldOne hu w) t.lode.held1 (h.other (u := { t with lode.held1 := [] }) rfl rfl)).other rfl rfl

/-! #### The radio's chains -/

theorem calm_setChain (c : Nat) (f : Chain → Chain) : Calm s (setChain c f t) := h.other rfl rfl

theorem calm_shedChain (c : Nat) : Calm s (shedChain t c) := .ite h (h.other rfl rfl)

theorem calm_armAnneal : Calm s (armAnneal t) := .foldl (fun _ _ hu => calm_setChain hu ..) _ h

end

end Sys2Proof.Machine
end

section
/-! Mode transitions (03_modes_power_reset.md R73, R78, R86 to R88): what a transition sets, and what of the part it leaves. -/

namespace Sys2Proof.Machine

open Sys2Proof

/-- What of the part a mode transition leaves, beside the mode that it sets. -/
structure ModeView where
  mode : Mode
  prev : Mode
  cause : ModeCause
  /-- The load of R86 is shed. -/
  shed : Bool
  wakeHold : Bool
  clk : Nat
  /-- The AON island but for the decision at the battery anneal limit, which ends with ANNEAL. -/
  aon : Aon
  parison : Parison
  /-- The raw count. -/
  raw : Nat
  twin : Twin
  /-- The copies of the latch. -/
  copies : Vector Bool 3
  lastFault : BitVec 16 × FaultClass

/-- The view of a state. -/
def modeView (s : State) : ModeView where
  mode := s.sys.mode
  prev := s.sys.prev
  cause := s.sys.cause
  shed := s.sys.shed
  wakeHold := s.sys.wakeHold
  clk := s.clk
  aon := { s.aon with battAnneal := false }
  parison := s.parison
  raw := s.time.raw
  twin := s.twin
  copies := latchCopies s
  lastFault := (s.fault.lastCode, s.fault.lastClass)

/-- Between two states the mode, the power, the loader, the copies of the latch and the claim stand, and the registers do. -/
structure ModeStands (s t : State) : Prop where
  view : modeView t = modeView s
  regs : RegsStand s t

theorem Calm.modeStands {s t : State} (h : Calm s t) : ModeStands s t :=
  ⟨by simp only [modeView, latchCopies, h.clk_eq, h.sys_eq, h.aon_eq, h.parison_eq, h.time_eq, h.quench_eq, h.twin_eq, h.lastFault_eq], h.regs⟩

/-- SYS_MODE set, with the cause and the mode before it. -/
def withMode (m p : Mode) (c : ModeCause) (s : State) : State := { s with sys := { s.sys with mode := m, prev := p, cause := c } }

/-- The load of R86 marked as shed, or not. -/
def withShed (b : Bool) (s : State) : State := { s with sys.shed := b }

namespace ModeStands

variable {s t u : State}

theorem refl (s : State) : ModeStands s s := ⟨rfl, .of_eq rfl⟩

theorem trans (h : ModeStands s t) (k : ModeStands t u) : ModeStands s u := ⟨k.view.trans h.view, h.regs.trans k.regs⟩

/-- A change of what neither the view nor a register holds. -/
theorem other (h : ModeStands s t) (hview : modeView u = modeView t) (hregs : u.regs = t.regs) : ModeStands s u :=
  h.trans ⟨hview, .of_eq hregs⟩

/-- Work of the blocks after it. -/
theorem calm (h : ModeStands s t) (k : Calm t u) : ModeStands s u := h.trans k.modeStands

theorem ite {p : Prop} [Decidable p] (ht : ModeStands s t) (hu : ModeStands s u) : ModeStands s (if p then t else u) := by
  split
  · exact ht
  · exact hu

theorem foldl {α : Type} {f : State → α → State} (hf : ∀ t a, ModeStands s t → ModeStands s (f t a)) (l : List α) (h : ModeStands s t) :
    ModeStands s (l.foldl f t) := by
  induction l generalizing t with
  | nil => exact h
  | cons a l ih => exact ih (hf t a h)

theorem mode_eq (h : ModeStands s t) : t.sys.mode = s.sys.mode := congrArg ModeView.mode h.view

theorem prev_eq (h : ModeStands s t) : t.sys.prev = s.sys.prev := congrArg ModeView.prev h.view

theorem cause_eq (h : ModeStands s t) : t.sys.cause = s.sys.cause := congrArg ModeView.cause h.view

theorem shed_eq (h : ModeStands s t) : t.sys.shed = s.sys.shed := congrArg ModeView.shed h.view

theorem wakeHold_eq (h : ModeStands s t) : t.sys.wakeHold = s.sys.wakeHold := congrArg ModeView.wakeHold h.view

theorem clk_eq (h : ModeStands s t) : t.clk = s.clk := congrArg ModeView.clk h.view

/-- The AON island but for the decision at the battery anneal limit. -/
theorem aon_eq {α : Type} (h : ModeStands s t) (f : Aon → α) (hf : ∀ (a : Aon) b, f { a with battAnneal := b } = f a) :
    f t.aon = f s.aon := by
  have haon : f { t.aon with battAnneal := false } = f { s.aon with battAnneal := false } := congrArg (fun v => f v.aon) h.view
  exact (hf ..).symm.trans (haon.trans (hf ..))

theorem parison_eq (h : ModeStands s t) : t.parison = s.parison := congrArg ModeView.parison h.view

theorem raw_eq (h : ModeStands s t) : t.time.raw = s.time.raw := congrArg ModeView.raw h.view

theorem twin_eq (h : ModeStands s t) : t.twin = s.twin := congrArg ModeView.twin h.view

theorem copies_eq (h : ModeStands s t) : latchCopies t = latchCopies s := congrArg ModeView.copies h.view

theorem lastFault_eq (h : ModeStands s t) : (t.fault.lastCode, t.fault.lastClass) = (s.fault.lastCode, s.fault.lastClass) :=
  congrArg ModeView.lastFault h.view

/-- Both states take one mode. -/
theorem setMode (h : ModeStands s t) (m p : Mode) (c : ModeCause) : ModeStands (withMode m p c s) (withMode m p c t) where
  view := by
    change { modeView t with mode := m, prev := p, cause := c } = { modeView s with mode := m, prev := p, cause := c }
    rw [h.view]
  regs := ⟨h.regs.bits, h.regs.plain⟩

/-- Both states have their load shed, or neither has. -/
theorem setShed (h : ModeStands s t) (b : Bool) : ModeStands (withShed b s) (withShed b t) where
  view := by
    change { modeView t with shed := b } = { modeView s with shed := b }
    rw [h.view]
  regs := ⟨h.regs.bits, h.regs.plain⟩

end ModeStands

section

variable {s t : State} (h : ModeStands s t)

include h

theorem modeStands_driveOutputs : ModeStands s (driveOutputs t) :=
  h.trans ⟨by simp [modeView], .of_eq (driveOutputs_regs t)⟩

/-! ### Load, planners and sources (R86 to R88, R110) -/

theorem modeStands_setDom (a : Bool) (f : Domain) : ModeStands s (setDom a f t) := by
  cases a
  · exact h.other rfl rfl
  · exact h.other rfl rfl

theorem modeStands_dropSource (a : Bool) : ModeStands s (dropSource a t) := (modeStands_setDom h ..).calm (calm_raise (.refl _) ..)

theorem modeStands_selectDom (a : Bool) : ModeStands s (selectDom a t) :=
  (h.other (by rfl) (by rfl)).calm (calm_raise (.refl { t with time := (selectDom a t).time }) ..)

theorem modeStands_loseSources (l : List Bool) : ModeStands s (loseSources l t) := by
  have hfold := ModeStands.foldl (fun u a (hu : ModeStands s u) => modeStands_dropSource hu a) (l.filter fun a => (dom t a).valid) h
  exact .ite (modeStands_selectDom hfold _) hfold

theorem modeStands_changeSources (old new : Mode) : ModeStands s (changeSources old new t) := .ite h (modeStands_loseSources h _)

/-! ### A mode request that ends (R78, R103, R105) -/

theorem modeStands_endRequest (tag : Option (BitVec 8)) (r : ReqResult) : ModeStands s (endRequest tag r t) := by
  have hended : ModeStands s { t with sys := { t.sys with req := none, reqResult := r } } := h.other rfl rfl
  have hraised := hended.calm (calm_raise (.refl _) bSYS 1)
  cases tag with
  | none => exact hraised
  | some g => exact (hraised.other (by rfl) (by rfl)).calm (calm_wardenAnswer (.refl _) ..)

theorem modeStands_finishRequest (r : ReqResult) : ModeStands s (finishRequest r t) := by
  unfold finishRequest
  split
  · exact modeStands_endRequest h ..
  · exact h

theorem modeStands_endStale (m : Mode) : ModeStands s (endStale m t) := by
  have hfinish : ModeStands s (if t.sys.req.isSome then finishRequest .mode t else t) := .ite (modeStands_finishRequest h _) h
  exact .ite hfinish (hfinish.other rfl rfl)

end

/-! ### Leaving and entering a mode -/

theorem calm_withShed {s t : State} (h : Calm s t) (b : Bool) : Calm (withShed b s) (withShed b t) where
  view := by
    change { calmView t with sys := { t.sys with shed := b } } = { calmView s with sys := { s.sys with shed := b } }
    rw [h.view, h.sys_eq]
  regs := ⟨h.regs.bits, h.regs.plain⟩

/-- R86: the load is shed. -/
theorem calm_shedLoad (s : State) : Calm (withShed true s) (shedLoad s) := by
  have hports := Calm.foldl (fun u p (hu : Calm s u) => calm_shedPort hu p) backPorts (.refl s)
  have hcores := calm_gateCores (Calm.foldl (fun u c (hu : Calm s u) => calm_shedChain hu c) (List.range 3) hports)
  unfold shedLoad
  dsimp only
  generalize gateCores _ = u at hcores ⊢
  exact (calm_withShed hcores true).other rfl rfl

/-- R87: the load returns. -/
theorem calm_restoreLoad (s : State) : Calm (withShed false s) (restoreLoad s) := by
  have hcores := calm_ungateCores ((Calm.refl (withShed false s)).other (u := { s with sys.shed := false, gnss.burstNext := false }) rfl rfl)
  unfold restoreLoad
  dsimp only
  generalize ungateCores _ = u at hcores ⊢
  exact .ite (hcores.other rfl rfl) (calm_resume1 hcores)

theorem modeStands_leaveMode (old : Mode) (s : State) :
    ModeStands (withShed (s.sys.shed && old != .reserve) s) (leaveMode old s) := by
  by_cases hold : old = .reserve
  · subst hold
    rw [show (Mode.reserve != Mode.reserve) = false from rfl, Bool.and_false]
    exact (((ModeStands.refl s).other (u := recomputeAll s) rfl rfl).setShed false).calm (calm_restoreLoad _)
  · have hshed : ModeStands (withShed (s.sys.shed && old != .reserve) s) s :=
      (ModeStands.refl _).other (by simp [modeView, withShed, latchCopies, hold]) rfl
    cases old with
    | reserve => exact absurd rfl hold
    | anneal => exact hshed.other rfl rfl
    | holdover => exact hshed.other rfl rfl
    | _ => exact hshed

theorem modeStands_enterMode (m : Mode) (cause : ModeCause) (s : State) :
    ModeStands (withShed (s.sys.shed || m == .reserve) s) (enterMode m cause s) := by
  by_cases hm : m = .reserve
  · subst hm
    rw [show (Mode.reserve == Mode.reserve) = true from rfl, Bool.or_true]
    have hstopped := (ModeStands.refl s).other (u := stopPlanners (checkpointAll s)) rfl rfl
    exact ((hstopped.calm (calm_discard (.refl _) ..)).setShed true).calm (calm_shedLoad _)
  · have hshed : ModeStands (withShed (s.sys.shed || m == .reserve) s) s :=
      (ModeStands.refl _).other (by simp [modeView, withShed, latchCopies, hm]) rfl
    cases m with
    | reserve => exact absurd rfl hm
    | anneal => exact (hshed.other (by rfl) (by rfl)).calm (calm_armAnneal (.refl _))
    | yielded => exact (hshed.other (u := stopPlanners s) rfl rfl).calm (calm_discard (.refl _) ..)
    | quenched => exact hshed.other rfl rfl
    | _ => exact hshed

/-- The load is shed in RESERVE, and by a loss of VIN_MAIN in YIELDED (R86 to R88). -/
def shedAfter (old m : Mode) (b : Bool) : Bool := b && old != .reserve || m == .reserve

/-- R73: a transition sets the mode with its cause and the one before it, sheds the load on entry to RESERVE and restores it on exit,
and leaves the rest of the view. -/
theorem modeStands_toMode (m : Mode) (cause : ModeCause) (rank : Nat) (s : State) :
    ModeStands (withShed (shedAfter s.sys.mode m s.sys.shed) (withMode m s.sys.mode cause s)) (toMode m cause rank s) := by
  have hset := (modeStands_leaveMode s.sys.mode s).setMode m s.sys.mode cause
  have htold := modeStands_endStale (modeStands_changeSources (hset.calm (calm_record (calm_raise (.refl _) bSYS 0)
    0x0041 rank 1 m.code s.sys.mode.code cause.code)) s.sys.mode m) m
  have hto : toMode m cause rank s = driveOutputs (enterMode m cause (endStale m (changeSources s.sys.mode m (record 0x0041 rank 1 m.code
    s.sys.mode.code cause.code (raise bSYS 0 (withMode m s.sys.mode cause (leaveMode s.sys.mode s))))))) := rfl
  have henter := modeStands_enterMode m cause (endStale m (changeSources s.sys.mode m (record 0x0041 rank 1 m.code
    s.sys.mode.code cause.code (raise bSYS 0 (withMode m s.sys.mode cause (leaveMode s.sys.mode s))))))
  rw [hto]
  generalize endStale m _ = u at htold henter ⊢
  rw [htold.shed_eq] at henter
  exact modeStands_driveOutputs ((htold.setShed _).trans henter)

end Sys2Proof.Machine
end

section
/-! The latch at reset and after a voted decision (03_modes_power_reset.md R74, R76, R84). -/

namespace Sys2Proof.Machine

open Sys2Proof

theorem copies_reset : latchCopies State.reset = Vector.replicate 3 true := by
  simp [latchCopies, State.reset]

theorem latchAgrees_of_copies_set {s : State} (h : latchCopies s = Vector.replicate 3 true) : LatchAgrees s := fun j k _ _ => by
  rw [qch_latch_of_copies_set h, qch_latch_of_copies_set h]

theorem outputs_off_at_reset : ∀ k, k < 3 → (qch State.reset k).out = false := by decide

/-- The claim that every copy of the latch is set. -/
def copiesSet (l : List Instr) : LatchClaim := { ok := (· = Vector.replicate 3 true), set := rfl, queue := l, mem := False }

/-- What follows the decision at RES_CRIT clears no copy. -/
theorem critAction_keeps_copies_set {s : State} (h : latchCopies s = Vector.replicate 3 true) (a : Aon) :
    latchCopies (critAction { s with aon := a }) = Vector.replicate 3 true :=
  (latch_critAction (c := copiesSet s.pending) { s with aon := a } ⟨h, rfl, False.elim⟩).1

theorem exec_votedDecision_crit {s : State} {c : QCause} {r : Nat} (hp : s.aon.powered = true) (h : s.quench.deciding = some (c, r))
    (hcrit : s.aon.critDue = true) : exec .votedDecision s =
      .next (critAction { latchQuench c r s with aon := { (latchQuench c r s).aon with critDue := false } }) := by
  obtain ⟨-, -, -, -, hdue⟩ := latchQuench_leaves c r s
  change Host.Outcome.next (onAon s _) = _
  rw [onAon_run _ hp]
  simp only [h, hdue, hcrit, if_true]

end Sys2Proof.Machine

open Sys2Proof Sys2Proof.Machine

/-- Settles O2: the copies of the latch are set, which no permit outlives; the rest is read off the reset state. -/
theorem resetLeavesTheLatchSet : Obligations.ResetLeavesTheLatchSet :=
  ⟨rfl, rfl, rfl, rfl, fun k hk => ⟨qch_latch_of_copies_set copies_reset k, outputs_off_at_reset k hk⟩,
    latchAgrees_of_copies_set copies_reset, rfl, by decide, rfl, rfl, rfl,
    not_granted_of_latched (latched_of_copies_set copies_reset), rfl, reset_wf⟩

/-- Settles O36: the decision is `latchQuench`, and R84's action behind it clears no copy. -/
theorem votedQuenchChangesFourModesOnly : Obligations.VotedQuenchChangesFourModesOnly := by
  intro s c r hp hd
  obtain ⟨hcopies, -, hmode, -, hdue⟩ := latchQuench_leaves c r s
  cases hcrit : s.aon.critDue with
  | false =>
    refine ⟨_, exec_votedDecision hp hd hcrit, fun k _ => qch_latch_of_copies_set hcopies k, fun _ => ?_⟩
    rw [hmode]
    exact if_congr (quenchableMode_iff _) rfl rfl
  | true =>
    exact ⟨_, exec_votedDecision_crit hp hd hcrit, fun k _ => qch_latch_of_copies_set (critAction_keeps_copies_set hcopies _) k, nofun⟩
end

section
/-! The claim and the end of a forming (13_twin_redundancy.md R407 to R413; 02_parison_image.md R56; R590): the claim drops or rises, the
blocks start, and the part enters the first mode of R590's list. -/

namespace Sys2Proof.Machine

open Sys2Proof

/-! ### The claim (R407, R413) -/

/-- The TWIN block replaced. -/
def withTwin (w : Twin) (s : State) : State := { s with twin := w }

theorem calm_withTwin {s t : State} (h : Calm s t) (w : Twin) : Calm (withTwin w s) (withTwin w t) where
  view := by
    change { calmView t with twin := w } = { calmView s with twin := w }
    rw [h.view]
  regs := ⟨h.regs.bits, h.regs.plain⟩

/-- R407: the gates close, the view standing but for them. -/
theorem calm_closeGates (s : State) : Calm (withTwin { s.twin with gateOpen := false } s) (closeGates s) := by
  have hchains := Calm.foldl (f := fun u c => setChain c (fun x => if x.onAir.any (fun f => f.type == .quench) then x else x.cut (now s)) u)
    (fun _ _ hu => hu.other rfl rfl) (List.range 3) (.refl s)
  unfold closeGates
  dsimp only
  generalize List.foldl _ s _ = u at hchains ⊢
  rw [← hchains.twin_eq]
  exact calm_withTwin hchains _

/-- R413: the claim drops and the gates close. -/
theorem dropClaim_stands (s : State) : ∃ w : Twin, w.claimO = false ∧ w.gateOpen = false ∧ ModeStands (withTwin w s) (dropClaim s) := by
  have hclosed := calm_closeGates s
  unfold dropClaim
  split
  · next hoff => exact ⟨_, by simpa using hoff, rfl, hclosed.modeStands⟩
  · dsimp only
    generalize closeGates s = u at hclosed ⊢
    refine ⟨{ u.twin with claimO := false, everOpen := false, conflictAt := none }, rfl,
      congrArg Twin.gateOpen hclosed.twin_eq, modeStands_driveOutputs ?_⟩
    have hoff := (calm_withTwin hclosed { u.twin with claimO := false, everOpen := false, conflictAt := none }).other
      (u := { u with twin := { u.twin with claimO := false, everOpen := false, conflictAt := none }, fr := { u.fr with snapSent := false, hostDue := none } })
      rfl rfl
    have hframes := calm_dropClaimFrames hoff
    exact (Calm.ite hframes (calm_discard hframes ..)).modeStands

/-- R409: the claim rises. -/
theorem raiseClaim_stands (s : State) : ∃ w : Twin, ModeStands (withTwin w s) (raiseClaim s) := by
  unfold raiseClaim
  split
  · exact ⟨s.twin, .refl s⟩
  · exact ⟨_, modeStands_driveOutputs (.refl _)⟩

/-! ### The end of a forming (R56, R590) -/

theorem claimAfter_stands (s : State) : ∃ w : Twin, ModeStands (withTwin w s) (claimAfter s) := by
  unfold claimAfter
  split
  · obtain ⟨w, -, -, h⟩ := dropClaim_stands s
    exact ⟨w, h⟩
  · split
    · exact raiseClaim_stands s
    · exact ⟨s.twin, .refl s⟩

theorem calm_autoConfirm (s : State) : Calm s (autoConfirm s) := by
  unfold autoConfirm
  split
  · exact .ite (calm_record ((Calm.refl s).other (by rfl) (by rfl)) ..) (.refl s)
  · exact .refl s

/-- What starts at the end of a forming moves at most the state of the Frauri link. -/
theorem startBlocks_stands (s : State) : ∃ k, Calm (withTwin { s.twin with link := k } s) (startBlocks s) := by
  have hengine : Calm s (engineStart s) := ⟨rfl, .of_eq rfl⟩
  have hblocks := (hengine.other (u := gridStart (mapAs rebaseNew (engineStart s))) rfl rfl).trans (calm_autoConfirm _)
  unfold startBlocks linkStart
  generalize autoConfirm _ = u at hblocks ⊢
  split
  · refine ⟨.training, ?_⟩
    rw [← hblocks.twin_eq]
    exact calm_withTwin hblocks _
  · exact ⟨s.twin.link, hblocks⟩


/-- R51, R590: application has ended well, with nothing left to store or the store write begun. -/
theorem afterApply_parison (l : Load) {s : State} {y : Load} (h : s.parison.load = some y) :
    (l.action ≠ 3 → (afterApply l s).parison.loader = .done ∧ (afterApply l s).parison.err = .none) ∧
    (afterApply l s).parison.build = s.parison.build ∧ (afterApply l s).parison.inForce = s.parison.inForce := by
  unfold afterApply
  split
  · next h3 =>
    refine ⟨fun hn => absurd h3 hn, ?_⟩
    simp only [startStore, h]
    split
    · exact ⟨rfl, rfl⟩
    · exact ⟨rfl, rfl⟩
  · exact ⟨fun _ => ⟨rfl, rfl⟩, rfl, rfl⟩


theorem startStore_stands (s : State) : (startStore s).sys = s.sys ∧ (startStore s).quench = s.quench := by
  unfold startStore
  split
  · split
    · exact ⟨rfl, rfl⟩
    · exact ⟨rfl, rfl⟩
  · exact ⟨rfl, rfl⟩

theorem afterApply_stands (l : Load) (s : State) : (afterApply l s).sys = s.sys ∧ (afterApply l s).quench = s.quench := by
  unfold afterApply
  split
  · exact startStore_stands s
  · exact ⟨rfl, rfl⟩

/-- The first mode of R590's list whose condition holds. -/
theorem modeAfter_fst (s : State) : (modeAfter s).1 = if s.aon.onRes then .reserve else if s.twin.present ∧ s.twin.claimI then .servitor
    else if latched s then .quenched else .survey := by
  unfold modeAfter
  split_ifs <;> rfl

/-- R590: what a forming that ends leaves of the loader, the latch and the mode. -/
theorem formDone_leaves (l : Load) (x : ImageHeader) {s : State} (h : s.parison.load = some l) :
    (l.action ≠ 3 → (formDone l x s).parison.loader = .done ∧ (formDone l x s).parison.err = .none) ∧
    (formDone l x s).parison.build = x.buildId ∧ (formDone l x s).parison.inForce = x.secVersion ∧
    latchCopies (formDone l x s) = latchCopies s ∧ (formDone l x s).sys.mode = (modeAfter s).1 := by
  obtain ⟨k, hstart⟩ := startBlocks_stands (formReport l x { s with aon.formed := true })
  have hnoted := calm_record hstart 0x0141 srcSelf 1 x.buildId.toNat x.serial.toNat x.secVersion
  unfold formDone
  dsimp only [note]
  generalize record _ _ _ _ _ _ (startBlocks _) = u at hnoted ⊢
  have hlatch : latchCopies u = latchCopies s := hnoted.copies_eq
  have hafter : (modeAfter u).1 = (modeAfter s).1 := by
    rw [modeAfter_fst, modeAfter_fst, hnoted.aon_eq, hnoted.twin_eq, latched_congr hlatch]
    rfl
  have hmoved := modeStands_toMode (modeAfter u).1 (modeAfter u).2 l.kind.rank u
  generalize toMode _ _ _ u = v at hmoved ⊢
  obtain ⟨w, hclaim⟩ := claimAfter_stands v
  have hparison : (claimAfter v).parison = (formReport l x { s with aon.formed := true }).parison :=
    hclaim.parison_eq.trans (hmoved.parison_eq.trans hnoted.parison_eq)
  have hcopies : latchCopies (claimAfter v) = latchCopies s :=
    hclaim.copies_eq.trans (hmoved.copies_eq.trans hlatch)
  have hmode : (claimAfter v).sys.mode = (modeAfter s).1 := hclaim.mode_eq.trans (hmoved.mode_eq.trans hafter)
  obtain ⟨hend, hbuild, hforce⟩ := afterApply_parison l ((congrArg Parison.load hparison).trans h)
  obtain ⟨hsys, hquench⟩ := afterApply_stands l (claimAfter v)
  exact ⟨hend, hbuild.trans (congrArg Parison.build hparison), hforce.trans (congrArg Parison.inForce hparison),
    (latchCopies_congr hquench).trans hcopies, (congrArg Sys.mode hsys).trans hmode⟩

theorem applicationDone_forming {s : State} {l : Load} {x : ImageHeader} (h : s.parison.load = some l) (hx : l.header = some x)
    (happly : s.parison.loader = .applying) (hstore : l.storing = false) (hreform : l.reform = false) (hres : l.resource = false)
    (hbank : bankMissing s = false) : applicationDone s = formDone l x s := by
  simp [applicationDone, h, hx, happly, hstore, hreform, hres, hbank]

end Sys2Proof.Machine

open Sys2Proof Sys2Proof.Machine

/-- Settles O7: nothing refuses the application, and `formDone` moves to the first mode of the list. -/
theorem formingEndsInTheModeOfTheList : Obligations.FormingEndsInTheModeOfTheList := by
  intro s l x hrun hl hx happly hstore hreform hres hbank
  refine after_bus rfl hrun ?_
  rw [applicationDone_forming hl hx happly hstore hreform hres hbank]
  obtain ⟨hend, hbuild, hforce, hcopies, hmode⟩ := formDone_leaves l x hl
  exact ⟨hend, hbuild, hforce, qch_latch_congr hcopies, hmode.trans (modeAfter_fst s)⟩

end

section
/-! Main-die resets (03_modes_power_reset.md R96, R97, R588): what a reset keeps, and what its cause, its records and the outputs leave. -/

namespace Sys2Proof.Machine

open Sys2Proof

/-! ### Registers of the AON island (R588) -/

theorem kget_filter {α : Type} {P : Nat → Bool} {k : Nat} (h : P k = true) (l : List (Nat × α)) :
    kget (l.filter fun p => P p.1) k = kget l k := by
  rw [kget, kget, List.find?_filter]
  congr 2
  funext p
  by_cases hp : p.1 = k
  · simp [hp, h]
  · simp [hp]

/-- The registers at an offset stand in the AON island. -/
def aonReg (off : Nat) : Bool := match regRow off with | some r => r.aon | none => false

theorem regsAon_eq (l : List (Nat × Word)) : regsAon l = l.filter fun p => aonReg p.1 := rfl

/-- A register word of the AON island outlasts a reset of the main die. -/
theorem regWord_mainWiped {off : Nat} (h : aonReg off = true) (s : State) : regWord (mainWiped s) off = regWord s off := by
  change (kget (regsAon s.regs) off).getD _ = _
  rw [regsAon_eq, kget_filter h, regWord]

theorem latchCopies_mainWiped (s : State) : latchCopies (mainWiped s) = latchCopies s := by
  rw [latchCopies, mainWiped, Vector.map_map]
  rfl

/-- RESET_CAUSE has the bit of the cause set. -/
theorem regBit_setCause (s : State) {b : Nat} (hb : b < 32) : regBit (setCause b s) 0x000018 b = true := by
  rw [regBit_eq_getLsbD, setCause, orReg, regWord_setReg_same, BitVec.getLsbD_or, BitVec.getLsbD_ofNat]
  simp [hb]

theorem regWord_setCause (b : Nat) (s : State) {off : Nat} (h : off ≠ 0x000018) : regWord (setCause b s) off = regWord s off :=
  regWord_setReg_other _ _ h

/-! ### Records and the move to RESET (R73, R551) -/

/-- From one state to the other registers have been written, and events recorded. -/
def Recorded (s t : State) : Prop :=
  ∃ r c q d, t = { s with regs := r, counts := c, strata := { s.strata with queue := q, lostDue := d } }

theorem Recorded.refl (s : State) : Recorded s s := ⟨_, _, _, _, rfl⟩

theorem Recorded.trans {s t u : State} (h : Recorded s t) (k : Recorded t u) : Recorded s u := by
  obtain ⟨r, c, q, d, rfl⟩ := h
  obtain ⟨r', c', q', d', rfl⟩ := k
  exact ⟨r', c', q', d', rfl⟩

theorem recorded_orReg (o : Nat) (m : Word) (s : State) : Recorded s (orReg o m s) := ⟨_, _, _, _, rfl⟩

theorem recorded_raise (b i : Nat) (s : State) : Recorded s (raise b i s) := by
  unfold raise
  split
  · exact .refl s
  · exact recorded_orReg ..

theorem recorded_record (code source sev p0 p1 p2 : Nat) (s : State) : Recorded s (record code source sev p0 p1 p2 s) := by
  unfold record
  split
  · exact .refl s
  · split
    · exact ⟨_, _, _, _, rfl⟩
    · exact ⟨_, _, _, _, rfl⟩

/-- SYS at its Reset values (R588). -/
def sysReset (s : State) : State := { s with sys := {} }

theorem recorded_modeReset (s : State) : Recorded (sysReset s) (modeReset s) := by
  unfold modeReset
  dsimp only
  split
  · exact .refl _
  · exact (recorded_raise bSYS 0 (sysReset s)).trans (recorded_record ..)

theorem regsStand_record (code source sev p0 p1 p2 : Nat) (s : State) : RegsStand s (record code source sev p0 p1 p2 s) :=
  (calm_record (.refl s) ..).regs

theorem regsStand_modeReset (s : State) : RegsStand s (modeReset s) := by
  have hsys : RegsStand s (sysReset s) := .of_eq rfl
  unfold modeReset
  dsimp only
  split
  · exact hsys
  · exact (hsys.trans (regsStand_raise bSYS 0 (sysReset s))).trans (regsStand_record ..)

/-! ### A main-die reset (R96, R97) -/

/-- What a main-die reset leaves: the wiped main die in RESET, with its cause and its records, and the outputs that follow. -/
theorem mainReset_eq (b : Nat) (s : State) : ∃ u, Recorded (sysReset (mainWiped s)) u ∧ mainReset b s = driveOutputs u :=
  have hcause : Recorded (sysReset (mainWiped s)) (sysReset (setCause b (mainWiped s))) := recorded_orReg ..
  ⟨_, (hcause.trans (recorded_modeReset _)).trans (recorded_record ..), rfl⟩

theorem regsStand_mainReset (b : Nat) (s : State) : RegsStand (setCause b (mainWiped s)) (mainReset b s) :=
  ((regsStand_modeReset _).trans (regsStand_record ..)).trans (.of_eq (driveOutputs_regs _))

section

variable (b : Nat) (s : State)

@[simp] theorem mainReset_clk : (mainReset b s).clk = s.clk := by
  obtain ⟨u, ⟨r, c, q, d, rfl⟩, h⟩ := mainReset_eq b s
  rw [h, driveOutputs_clk]
  rfl

@[simp] theorem mainReset_sys : (mainReset b s).sys = {} := by
  obtain ⟨u, ⟨r, c, q, d, rfl⟩, h⟩ := mainReset_eq b s
  rw [h, driveOutputs_sys]
  rfl

@[simp] theorem mainReset_aon :
    (mainReset b s).aon = { s.aon with mainRun := false, dormantReq := false, wakePending := none, waking := false } := by
  obtain ⟨u, ⟨r, c, q, d, rfl⟩, h⟩ := mainReset_eq b s
  rw [h, driveOutputs_aon]
  rfl

theorem mainReset_latchCopies : latchCopies (mainReset b s) = latchCopies s := by
  obtain ⟨u, ⟨r, c, q, d, rfl⟩, h⟩ := mainReset_eq b s
  rw [h, driveOutputs_latchCopies]
  exact latchCopies_mainWiped s

theorem mainReset_result : (mainReset b s).quench.result = s.quench.result := by
  obtain ⟨u, ⟨r, c, q, d, rfl⟩, h⟩ := mainReset_eq b s
  rw [h]
  exact (congrArg Quench.result (driveOutputs_inner _) :)

/-- RESET_CAUSE names the cause. -/
theorem mainReset_cause (hb : b < 32) : regBit (mainReset b s) 0x000018 b = true :=
  (regsStand_mainReset b s).bits _ _ (regBit_setCause _ hb)

/-- A register of the AON island other than INT_STATUS and RESET_CAUSE stands. -/
theorem regWord_mainReset {off : Nat} (haon : aonReg off = true) (hoff : ∀ k, intStatusOff k ≠ off) (hne : off ≠ 0x000018) :
    regWord (mainReset b s) off = regWord s off := by
  rw [(regsStand_mainReset b s).plain off hoff, regWord_setCause b _ hne, regWord_mainWiped haon]

end

/-- No INT_STATUS stands at a register of power, wake or boot. -/
theorem intStatusOff_ne {off : Nat} (h : off ∈ [0x10, 0x4C, 0x54, 0x58, 0x010014]) (b : Nat) : intStatusOff b ≠ off := by
  simp only [List.mem_cons, List.not_mem_nil, or_false] at h
  obtain rfl | rfl | rfl | rfl | rfl := h <;> unfold intStatusOff <;> split <;> decide

/-- R96, R97: what a reset of the main die takes and what it keeps. -/
theorem mainReset_keeps {b : Nat} (hb : b < 32) (s : State) :
    (mainReset b s).sys.mode = .reset ∧ (mainReset b s).aon.mainRun = false ∧ (mainReset b s).twin.claimO = false ∧
    (mainReset b s).twin.gateOpen = false ∧ regBit (mainReset b s) 0x000018 b = true ∧
    (∀ k, (qch (mainReset b s) k).latch = (qch s k).latch) ∧ (mainReset b s).quench.result = s.quench.result ∧
    (mainReset b s).strata.result = s.strata.result ∧ (mainReset b s).assay.chs = s.assay.chs ∧
    (mainReset b s).strata.drift = s.strata.drift ∧ (mainReset b s).strata.bedrock = s.strata.bedrock ∧
    regWord (mainReset b s) 0x010014 = regWord s 0x010014 ∧ (mainReset b s).geode.fuses = s.geode.fuses ∧
    (mainReset b s).lode = {} ∧ (mainReset b s).aon.onRes = s.aon.onRes ∧ (mainReset b s).pending = s.pending := by
  have hcause := mainReset_cause b s hb
  have hboot := regWord_mainReset b s (off := 0x010014) (by decide) (intStatusOff_ne (by decide)) (by decide)
  have hlatch := qch_latch_congr (mainReset_latchCopies b s)
  have hsys := mainReset_sys b s
  have haon := mainReset_aon b s
  obtain ⟨u, ⟨r, c, q, d, rfl⟩, h⟩ := mainReset_eq b s
  refine ⟨by rw [hsys], by rw [haon], ?_, ?_, hcause, hlatch, mainReset_result b s, ?_, ?_, ?_, ?_, hboot, ?_, ?_, by rw [haon], ?_⟩
  all_goals rw [h]; simp [sysReset, mainWiped, assayAfterReset]

end Sys2Proof.Machine

open Sys2Proof Sys2Proof.Machine

/-- Settles O13: each source resets the main die with its own cause, and a brownout takes the rails besides. -/
theorem mainDieResetKeepsTheAonIsland : Obligations.MainDieResetKeepsTheAonIsland := by
  intro s c b hrun hrails hc
  obtain ⟨rfl, rfl⟩ | ⟨rfl, rfl⟩ | ⟨rfl, hperst, rfl⟩ | ⟨rfl, rfl⟩ := hc
  · refine after_aon rfl hrun.1 ?_
    have hkeeps := mainReset_keeps (b := 1) (by decide) s
    simp only [hrails, if_true]
    generalize mainReset 1 s = u at hkeeps ⊢
    exact hkeeps
  · exact ⟨_, congrArg Host.Outcome.next ((bus_run _ hrun.2.2).trans (if_pos (by decide))), mainReset_keeps (by decide) s⟩
  · refine after_bus rfl hrun ?_
    simp only [hperst, if_true]
    exact mainReset_keeps (by decide) s
  · exact after_bus rfl hrun (mainReset_keeps (by decide) s)

end

section
/-! Mode requests (03_modes_power_reset.md R77, R78, R90, R103, R105): what a request answers, and what it leaves. -/

namespace Sys2Proof.Machine

open Sys2Proof

/-! ### The request itself (R78, R105) -/

theorem modeRequest_busy (target : Nat) (who : Master) {s : State} (h : s.sys.req.isSome = true ∨ s.aon.dormantReq = true) :
    modeRequest target who none s = raise bSYS 1 { s with sys.reqResult := .busy } := by
  rw [modeRequest, if_pos h, modeRequest.endBusy]

section

variable {target : Nat} {who : Master} {tag : Option (BitVec 8)} {s : State}

theorem modeRequest_waits (hreq : s.sys.req = none) (hdorm : s.aon.dormantReq = false) (h : requestResult target s = .none) :
    modeRequest target who tag s =
      { s with sys := { s.sys with req := some { target := targetMode target, master := who, mboxTag := tag }, reqResult := .none } } := by
  simp [modeRequest, hreq, hdorm, h]

theorem modeRequest_done (hreq : s.sys.req = none) (hdorm : s.aon.dormantReq = false) (h : requestResult target s = .done) :
    modeRequest target who tag s = endRequest tag .done (acceptDormant who s) := by
  simp [modeRequest, hreq, hdorm, h]

theorem modeRequest_refused (hreq : s.sys.req = none) (hdorm : s.aon.dormantReq = false) (hnone : requestResult target s ≠ .none)
    (hdone : requestResult target s ≠ .done) : modeRequest target who tag s = endRequest tag (requestResult target s) s := by
  simp [modeRequest, hreq, hdorm, hnone, hdone]

end

/-- A request of a register ends with its result and REQ_DONE. -/
theorem endRequest_register (r : ReqResult) {s : State} (hreq : s.sys.req = none) :
    (endRequest none r s).sys = { s.sys with reqResult := r } ∧ (endRequest none r s).aon = s.aon ∧
    regBit (endRequest none r s) 0x00001C 1 = true := by
  have hsys : (endRequest none r s).sys = { s.sys with req := none, reqResult := r } := raise_sys ..
  exact ⟨by rw [hsys, ← hreq], raise_aon .., regBit_raise_same _ (b := bSYS) (by decide) (by decide)⟩

/-! ### A request for DORMANT (R90) -/

theorem requestResult_dormant {s : State} (h : dormantMode s.sys.mode = true) : requestResult 9 s = dormantResult s := by
  simp [requestResult, h]

theorem dormantResult_notPermitted {s : State} (hm : s.sys.mode ≠ .quenched) (hp : noPermit s = false) :
    dormantResult s = .notPermitted := by simp [dormantResult, hm, hp]

section

variable {s : State} (h : s.sys.mode = .quenched ∨ noPermit s = true)

include h

theorem dormantResult_notStored (hs : s.parison.inStore = false) : dormantResult s = .notStored := by simp [dormantResult, h, hs]

theorem dormantResult_busy (hs : s.parison.inStore = true) (hw : imageWork s = true) : dormantResult s = .busy := by
  simp [dormantResult, h, hs, hw]

theorem dormantResult_done (hs : s.parison.inStore = true) (hw : imageWork s = false) : dormantResult s = .done := by
  simp [dormantResult, h, hs, hw]

end

theorem dormantResult_ne_none (s : State) : dormantResult s ≠ .none := by
  unfold dormantResult
  split_ifs <;> decide

/-- What a DORMANT request from a mode that leads there leaves: it answers at once. -/
theorem modeRequest_dormant (who : Master) {s : State} (hreq : s.sys.req = none) (hdorm : s.aon.dormantReq = false)
    (hm : dormantMode s.sys.mode = true) :
    (modeRequest 9 who none s).sys = { s.sys with reqResult := dormantResult s } ∧
    (modeRequest 9 who none s).aon = (if dormantResult s = .done then (acceptDormant who s).aon else s.aon) ∧
    regBit (modeRequest 9 who none s) 0x00001C 1 = true := by
  have hresult := requestResult_dormant hm
  by_cases hdone : dormantResult s = .done
  · rw [modeRequest_done hreq hdorm (hresult.trans hdone), if_pos hdone, hdone]
    exact endRequest_register .done (s := acceptDormant who s) hreq
  · rw [modeRequest_refused hreq hdorm (hresult ▸ dormantResult_ne_none s) (hresult ▸ hdone), hresult, if_neg hdone]
    exact endRequest_register _ hreq

end Sys2Proof.Machine

open Sys2Proof Sys2Proof.Machine

/-- Settles O14: the answer of each request is `requestResult`'s, and what it leaves follows the answer. -/
theorem modeRequests : Obligations.ModeRequests := by
  refine ⟨fun s who hrun hreq hdorm => ?_, ?busy, ?dormant⟩
  · have hwait : ∀ (c : Instr) (target : Nat), exec c s = .next (bus s (modeRequest target who none)) → requestResult target s = .none →
        exec c s = .next { s with sys := { s.sys with req := some { target := targetMode target, master := who, mboxTag := none }, reqResult := .none } } :=
      fun c target hexec h => by rw [hexec, bus_run _ hrun.2.2, modeRequest_waits hreq hdorm h]
    have hrefuse : ∀ (c : Instr) (target : Nat) (r : ReqResult), exec c s = .next (bus s (modeRequest target who none)) →
        requestResult target s = r → r ≠ .none → r ≠ .done →
        After c s fun t => t.sys = { s.sys with reqResult := r } ∧ regBit t 0x00001C 1 = true := fun c target r hexec h hnone hdone => by
      subst h
      refine after_bus hexec hrun ?_
      rw [modeRequest_refused hreq hdorm hnone hdone]
      obtain ⟨hsys, -, hbit⟩ := endRequest_register (requestResult target s) hreq
      exact ⟨hsys, hbit⟩
    refine ⟨fun hm => hwait _ 2 rfl (by simp [requestResult, hm]), fun hm hready => hwait _ 3 rfl (by simp [requestResult, hm, hready]),
      fun hm hready => ?_, fun hm => hwait _ 5 rfl (by simp [requestResult, hm]), fun hm => hwait _ 10 rfl (by simp [requestResult, hm]),
      fun hm => hrefuse _ 3 .mode rfl (by simp [requestResult, hm]) (by decide) (by decide),
      fun hf hh => hrefuse _ 5 .mode rfl (by simp [requestResult, hf, hh]) (by decide) (by decide)⟩
    obtain ⟨t, ht, hsys, -⟩ := hrefuse (.reqField who) 3 .notReady rfl (by simp [requestResult, hm, hready]) (by decide) (by decide)
    exact ⟨t, ht, hsys⟩
  case busy =>
    intro s who c hrun hc hbusy
    have hanswer : ∀ target, exec c s = .next (bus s (modeRequest target who none)) →
        After c s fun t => t.sys = { s.sys with reqResult := .busy } ∧ t.aon = s.aon := fun target hexec => by
      refine after_bus hexec hrun ?_
      rw [modeRequest_busy target who hbusy]
      exact ⟨raise_sys .., raise_aon ..⟩
    obtain rfl | rfl | rfl | rfl | rfl := hc
    · exact hanswer 2 rfl
    · exact hanswer 3 rfl
    · exact hanswer 5 rfl
    · exact hanswer 9 rfl
    · exact hanswer 10 rfl
  case dormant =>
    intro s who hrun hreq hdorm hm
    refine after_bus rfl hrun ?_
    obtain ⟨hsys, haon, hbit⟩ := modeRequest_dormant who hreq hdorm hm
    have hrefused : ∀ r, dormantResult s = r → r ≠ .done → (modeRequest 9 who none s).sys.reqResult = r ∧
        (modeRequest 9 who none s).aon.dormantReq = false := fun r hr hdone => by
      rw [hsys, haon, hr, if_neg hdone]
      exact ⟨rfl, hdorm⟩
    refine ⟨by rw [hsys], hbit, fun h => hrefused _ (dormantResult_notPermitted h.1 h.2) (by decide),
      fun h hs => hrefused _ (dormantResult_notStored h hs) (by decide), fun h hs hw => hrefused _ (dormantResult_busy h hs hw) (by decide),
      fun h hs hw => ?_⟩
    rw [hsys, haon, dormantResult_done h hs hw, if_pos rfl]
    exact ⟨rfl, rfl⟩

end

section
/-! The AON island's power (03_modes_power_reset.md R76, R83, R98): what its rise sets and what its loss leaves. -/

namespace Sys2Proof.Machine

open Sys2Proof

theorem mainInRange_iff {mv : Nat} : mainInRange mv = true ↔ 10500 ≤ mv ∧ mv ≤ 13800 := by simp [mainInRange]

theorem mainInRange_eq_false {mv : Nat} (h : ¬ (10500 ≤ mv ∧ mv ≤ 13800)) : mainInRange mv = false := by
  rw [← Bool.not_eq_true, mainInRange_iff]
  exact h

theorem resInRange_iff {mv : Nat} : resInRange mv = true ↔ 9000 ≤ mv := by simp [resInRange]

theorem resInRange_eq_false {mv : Nat} (h : mv < 9000) : resInRange mv = false := by simp [resInRange, h]

/-- The totals read back, with the record of each that a failed write took. -/
theorem calm_loadTotals (unstored : Bool) (s : State) : Calm s (loadTotals unstored s) := by
  have hlost := Calm.foldl (f := fun u n => if unstored ∧ (asChan u n).dirty then lostCounts u n else u)
    (fun _ _ hu => .ite (calm_record hu ..) hu) (List.range 16) (.refl s)
  unfold loadTotals
  dsimp only
  generalize List.foldl _ s _ = u at hlost ⊢
  exact hlost.other rfl rfl

theorem lostCounts_geode (s : State) (n : Nat) : (lostCounts s n).geode = s.geode := note_geode ..

theorem loadTotals_geode (unstored : Bool) (s : State) : (loadTotals unstored s).geode = s.geode := by
  unfold loadTotals
  rw [mapAs_geode]
  refine foldl_keep State.geode (fun u n => ?_) (List.range 16) s
  split
  · exact lostCounts_geode u n
  · rfl

/-- The AON island as its power rises. -/
def aonAtPower (vmain vres : Nat) (s : State) : Aon :=
  { vmainMv := vmain, vresMv := vres, onRes := !mainInRange vmain, mainGood := mainInRange vmain, refPresent := s.aon.refPresent }

/-- The state as power rises: the latch set with its cause, and the POWER_ON bit. -/
def atPower (vmain vres : Nat) (s : State) : State := setCause 0 { s with aon := aonAtPower vmain vres s, quench := powerOnLatch s.quench }

theorem powerUp_eq (vmain vres : Nat) (s : State) :
    powerUp vmain vres s = driveOutputs (resetRecord .reset (loadTotals s.assay.unstored (atPower vmain vres s))) := by
  unfold powerUp atPower aonAtPower
  rfl

theorem atPower_copies (vmain vres : Nat) (s : State) : latchCopies (atPower vmain vres s) = Vector.replicate 3 true := by
  rw [latchCopies, atPower, setCause_quench, powerOnLatch, Vector.map_map]
  exact Vector.map_const' ..

theorem driveOutputs_cause (s : State) : (driveOutputs s).quench.cause = s.quench.cause :=
  (congrArg Quench.cause (driveOutputs_inner s) :)

/-- R76, R98: the island starts with the warden and the main die held, and the latch set with cause POWER_ON. -/
theorem powerUp_leaves (vmain vres : Nat) (s : State) :
    (powerUp vmain vres s).aon = aonAtPower vmain vres s ∧ latchCopies (powerUp vmain vres s) = Vector.replicate 3 true ∧
    (powerUp vmain vres s).quench.cause = .powerOn ∧ regBit (powerUp vmain vres s) 0x000018 0 = true ∧
    (powerUp vmain vres s).geode = s.geode := by
  have hcopies := atPower_copies vmain vres s
  have haon : (atPower vmain vres s).aon = aonAtPower vmain vres s := rfl
  have hcause : (atPower vmain vres s).quench.cause = .powerOn := rfl
  have hgeode : (atPower vmain vres s).geode = s.geode := rfl
  have hbit : regBit (atPower vmain vres s) 0x000018 0 = true := regBit_setCause _ (by decide)
  rw [powerUp_eq]
  generalize atPower vmain vres s = u at hcopies haon hcause hgeode hbit ⊢
  have hloaded := calm_loadTotals s.assay.unstored u
  have hgeode' := (loadTotals_geode s.assay.unstored u).trans hgeode
  generalize loadTotals _ u = v at hloaded hgeode' ⊢
  have hnoted : Calm u (resetRecord .reset v) := calm_record hloaded ..
  refine ⟨(driveOutputs_aon _).trans (hnoted.aon_eq.trans haon), (driveOutputs_latchCopies _).trans (hnoted.copies_eq.trans hcopies), ?_, ?_, ?_⟩
  · rw [driveOutputs_cause, hnoted.quench_eq, hcause]
  · rw [regBit, regWord, driveOutputs_regs]
    exact hnoted.regs.bits _ _ hbit
  · rw [driveOutputs_geode, resetRecord, note_geode, hgeode']

theorem losePower_out (vmain vres : Nat) (s : State) {k : Nat} (hk : k < 3) : (qch (losePower vmain vres s) k).out = false := by
  simp [qch, losePower, vget, hk]

end Sys2Proof.Machine

open Sys2Proof Sys2Proof.Machine

/-- Settles O9: the power-up is `powerUp`, and the loss `losePower`, which names all that it keeps. -/
theorem aonPowerUpAndLoss : Obligations.AonPowerUpAndLoss := by
  refine ⟨fun s vm vr hoff hin => ⟨powerUp vm vr s, ?_, ?_⟩, fun s vm vr hon hmain hres => ⟨losePower vm vr s, ?_, ?_⟩⟩
  · change Host.Outcome.next (if _ then _ else _) = _
    rw [if_pos ⟨by simp [hoff], by rwa [mainInRange_iff, resInRange_iff]⟩]
  · obtain ⟨haon, hcopies, hcause, hbit, hgeode⟩ := powerUp_leaves vm vr s
    rw [haon, hgeode]
    refine ⟨rfl, rfl, rfl, fun k _ => qch_latch_of_copies_set hcopies k, hcause, hbit, ?_, rfl⟩
    rw [← mainInRange_iff, aonAtPower, Bool.not_eq_true', Bool.not_eq_true]
  · change Host.Outcome.next (if _ then _ else _) = _
    rw [if_pos ⟨hon, mainInRange_eq_false hmain, resInRange_eq_false hres⟩]
  · exact ⟨rfl, rfl, rfl, rfl, fun k hk => losePower_out vm vr s hk, rfl, rfl, rfl, rfl, rfl, rfl, rfl, rfl, rfl⟩

end

section
/-! The power-on sequence and its inputs (03_modes_power_reset.md R98, R99; 01_architecture.md R27; 14_guild_faults.md R439;
16_host_interface.md R477): the release of the main die, the loss of REF10_IN and a PERST that is a host reset. -/

namespace Sys2Proof.Machine

open Sys2Proof

/-! ### The release of the main die (R98, R58) -/

/-- Between the release and the first load: the main die runs in RESET with raw time at 0, and holds its outputs after a wake. -/
structure Booting (wake : Bool) (s : State) : Prop where
  run : s.aon.mainRun = true
  raw : s.time.raw = 0
  hold : s.sys.wakeHold = wake
  mode : s.sys.mode = .reset

namespace Booting

variable {wake : Bool} {s t : State}

theorem calm (h : Booting wake s) (k : Calm s t) : Booting wake t :=
  ⟨by rw [k.aon_eq, h.run], by rw [k.time_eq, h.raw], by rw [k.sys_eq, h.hold], by rw [k.sys_eq, h.mode]⟩

theorem leaveCairn (h : Booting wake s) : Booting wake (leaveCairn s) := by
  unfold Machine.leaveCairn
  split
  · exact h
  · exact h.calm (calm_record (calm_raise ((Calm.refl s).other (by rfl) (by rfl)) ..) ..)

theorem toCairn (h : Booting wake s) : Booting wake (toCairn s) := by
  unfold Machine.toCairn
  split
  · exact h
  · exact h.calm (calm_raise ((Calm.refl s).other (by rfl) (by rfl)) ..)

theorem failNow (h : Booting wake s) (e : LoadErr) (t w : Nat) : Booting wake (failNow e t w s) :=
  have hnoted : Booting wake { s with parison := { s.parison with loader := .failed, load := none, failType := t, failWord := w, err := e } } :=
    ⟨h.run, h.raw, h.hold, h.mode⟩
  hnoted.calm (calm_raise (.refl _) bPARISON (if e = .none then 0 else 1))

theorem attemptFailed (h : Booting wake s) (p : Nat) (e : LoadErr) (b : Bool) : Booting wake (attemptFailed p e b s) := by
  have hcount : Booting wake { s with parison.attempts := min 7 (s.parison.attempts + 1) } := ⟨h.run, h.raw, h.hold, h.mode⟩
  have hnoted := hcount.calm (calm_record (.refl _) 0x0140 srcSelf 3 p e.code 0)
  cases b with
  | false => exact hnoted
  | true => exact ⟨hnoted.run, hnoted.raw, hnoted.hold, hnoted.mode⟩

end Booting

/-- What the release leaves: no source to read, or the first load of the list. -/
structure Released (wake : Bool) (s : State) : Prop where
  run : s.aon.mainRun = true
  raw : s.time.raw = 0
  hold : s.sys.wakeHold = wake
  loads : s.parison.loader = .waitHost ∧ s.sys.mode = .reset ∨ s.parison.loader = .reading ∧ s.sys.mode = .forming

theorem bootLoad_action (wake : Bool) (p : Nat) (s : State) : (bootLoad wake p s).action = 0 := by
  unfold bootLoad
  dsimp only
  split <;> rfl

theorem released_beginLoad {wake : Bool} {s : State} (h : Booting wake s) {l : Load} (hl : l.action = 0) : Released wake (beginLoad l s) := by
  obtain ⟨hparison, hmode⟩ := beginLoad_leaves l s
  have hmoved := modeStands_toMode .forming l.kind.cause l.kind.rank { s with parison := s.parison.began l }
  have hbegin : beginLoad l s = toMode .forming l.kind.cause l.kind.rank { s with parison := s.parison.began l } := if_pos ⟨h.mode, .inl hl⟩
  rw [← hbegin] at hmoved
  exact ⟨(hmoved.aon_eq Aon.mainRun fun _ _ => rfl).trans h.run, hmoved.raw_eq.trans h.raw, hmoved.wakeHold_eq.trans h.hold,
    .inr ⟨by rw [hparison]; rfl, by rw [hmode, if_pos ⟨h.mode, .inl hl⟩]⟩⟩

/-- The boot tries the sources in order, and waits for the host where none is left. -/
theorem released_bootGo {wake : Bool} (b : Bool) (order : List Nat) {s : State} (h : Booting wake s) : Released wake (bootGo b order s) := by
  have hwait : ∀ {t : State}, Booting wake t → Released wake (waitHost t) := fun ht => ⟨ht.run, ht.raw, ht.hold, .inl ⟨rfl, ht.mode⟩⟩
  induction order generalizing s with
  | nil => exact hwait h
  | cons p rest ih =>
    rw [bootGo]
    split
    · exact hwait h
    · split
      · have hnext : Booting wake { s with parison.lastSrc := 2 } := ⟨h.run, h.raw, h.hold, h.mode⟩
        exact ih ((hnext.failNow ..).attemptFailed ..)
      · have hleft : Booting wake { s with parison.bootLeft := rest } := ⟨h.run, h.raw, h.hold, h.mode⟩
        exact released_beginLoad hleft (bootLoad_action ..)

theorem released_releaseMain (ok : Bool) {s : State} (h : s.sys.mode = .reset) : Released s.aon.waking (releaseMain ok s) := by
  have hstart : Booting s.aon.waking (realignTicks { s with aon := { s.aon with mainRun := true }, sys := { s.sys with wakeHold := s.aon.waking }, time := {} }) :=
    ⟨rfl, rfl, rfl, h⟩
  have hboot : ∀ {t : State}, Booting s.aon.waking t → Released s.aon.waking (bootStart t.aon.waking t) := fun {t} ht =>
    released_bootGo _ _ (s := { t with parison.attempts := 0 }) ⟨ht.run, ht.raw, ht.hold, ht.mode⟩
  cases ok
  · exact hboot hstart.toCairn
  · exact hboot hstart.leaveCairn

/-! ### The loss of REF10_IN (R27, R439) -/

theorem calm_writeRecord {s t : State} (h : Calm s t) (e : StEvent) : Calm s (writeRecord e t) := by
  unfold writeRecord recordInt
  dsimp only
  generalize placeRecord _ _ = y
  exact .ite (calm_raise (h.other (u := { t with strata := y }) rfl rfl) ..) (h.other rfl rfl)

theorem calm_faultRecord {s t : State} (h : Calm s t) (code sev p0 p1 : Nat) : Calm s (faultRecord code sev p0 p1 t) :=
  .ite (calm_writeRecord h _) (calm_record h ..)

theorem calm_setRes {s t : State} (h : Calm s t) (r : ResRec) : Calm s (setRes r t) := h.other rfl rfl

/-- R427, R430: an error is the last one, and the rest of the view stands. -/
theorem classify_stands (k : ResKind) (i : Nat) {c : FaultClass} (esc first : Bool) (t : BitVec 64) (s : State) (hc : c ≠ .corrected) :
    ∃ u f, Calm s u ∧ f.lastCode = BitVec.ofNat 16 (faultCode k) ∧ f.lastClass = c ∧
      Calm { u with fault := f } (classify k i c esc first t s) := by
  unfold classify classCount
  dsimp only
  rw [if_neg hc]
  refine ⟨_, _, ?_, ?_, ?_, calm_faultRecord (.refl _) ..⟩
  · exact calm_raise (.thenIf (f := fun u => bump 0x0C0044 4 u) (fun _ hu => calm_bump hu ..) (calm_bump (calm_setRes (.refl s) _) ..)) ..
  · rfl
  · rfl

/-- R413, R415: the unit yields with its claim dropped. -/
theorem yieldUnit_stands (rank : Nat) {s : State} (h : s.sys.mode ≠ .reset ∧ s.sys.mode ≠ .forming ∧ s.sys.mode ≠ .dormant ∧ s.sys.mode ≠ .yielded) :
    ∃ w : Twin, ∃ b p, w.claimO = false ∧ ModeStands (withShed b (withMode .yielded p .fault (withTwin w s))) (yieldUnit rank s) := by
  obtain ⟨hreset, hforming, hdormant, hyielded⟩ := h
  obtain ⟨w, hclaim, -, hdrop⟩ := dropClaim_stands s
  have hended := modeStands_finishRequest hdrop .conflictLost
  have hmoved := modeStands_toMode .yielded .fault rank (finishRequest .conflictLost (dropClaim s))
  have hyield : yieldUnit rank s = toMode .yielded .fault rank (finishRequest .conflictLost (dropClaim s)) := by
    unfold yieldUnit
    split <;> simp_all
  rw [← hyield] at hmoved
  exact ⟨w, _, _, hclaim, ((hended.setMode ..).setShed _).trans hmoved⟩

theorem yieldRequest_stands {s : State} (h : s.sys.mode ≠ .reset ∧ s.sys.mode ≠ .forming ∧ s.sys.mode ≠ .dormant ∧ s.sys.mode ≠ .yielded) :
    ∃ w : Twin, ∃ b p, w.claimO = false ∧ ModeStands (withShed b (withMode .yielded p .fault (withTwin w s))) (yieldRequest s) := by
  obtain ⟨w, b, p, hclaim, hyielded⟩ := yieldUnit_stands srcSelf h
  obtain ⟨hreset, hforming, hdormant, hisYielded⟩ := h
  have hyield : yieldRequest s = raise bFAULT 4 (bump 0x0C0044 6 (yieldUnit srcSelf s)) := by
    unfold yieldRequest
    split <;> simp_all
  rw [hyield]
  exact ⟨w, b, p, hclaim, hyielded.calm (calm_raise (calm_bump (.refl _) ..) ..)⟩

theorem yieldRequest_stays {s : State} (h : s.sys.mode = .reset ∨ s.sys.mode = .forming ∨ s.sys.mode = .dormant ∨ s.sys.mode = .yielded) :
    yieldRequest s = s := by
  unfold yieldRequest
  split
  · rfl
  · rfl
  · rfl
  · rfl
  · simp_all

/-- R27, R439: the loss of the reference is the last error, FATAL, and a unit in a mode with a claim to give up yields. -/
theorem ref10Lost_leaves (s : State) : (fatalError .ref10 0 s).aon.refPresent = s.aon.refPresent ∧
    (fatalError .ref10 0 s).fault.lastCode = 0x0001 ∧ (fatalError .ref10 0 s).fault.lastClass = .fatal ∧
    (s.sys.mode ≠ .reset → s.sys.mode ≠ .forming → s.sys.mode ≠ .dormant → s.sys.mode ≠ .yielded →
      (fatalError .ref10 0 s).sys.mode = .yielded ∧ (fatalError .ref10 0 s).twin.claimO = false) ∧
    latchCopies (fatalError .ref10 0 s) = latchCopies s := by
  obtain ⟨u, f, hu, hcode, hclass, hf⟩ := classify_stands .ref10 0 (c := .fatal) false false (BitVec.ofNat 64 (now s)) s (by decide)
  have hfatal : fatalError .ref10 0 s = yieldRequest (classify .ref10 0 .fatal false false (BitVec.ofNat 64 (now s)) s) := rfl
  rw [hfatal]
  generalize classify .ref10 0 .fatal false false _ s = v at hf ⊢
  have hmode : v.sys.mode = s.sys.mode := congrArg Sys.mode (hf.sys_eq.trans hu.sys_eq)
  have href : v.aon.refPresent = s.aon.refPresent := congrArg Aon.refPresent (hf.aon_eq.trans hu.aon_eq)
  have hlast : (v.fault.lastCode, v.fault.lastClass) = (0x0001, .fatal) := hf.lastFault_eq.trans (by rw [hcode, hclass]; rfl)
  have hcopies : latchCopies v = latchCopies s := hf.copies_eq.trans hu.copies_eq
  rw [← hmode]
  by_cases hin : v.sys.mode = .reset ∨ v.sys.mode = .forming ∨ v.sys.mode = .dormant ∨ v.sys.mode = .yielded
  · rw [yieldRequest_stays hin]
    obtain ⟨hc, hcl⟩ := Prod.mk.inj hlast
    exact ⟨href, hc, hcl, fun h1 h2 h3 h4 => absurd hin (by simp [h1, h2, h3, h4]), hcopies⟩
  · simp only [not_or] at hin
    obtain ⟨w, b, p, hclaim, hy⟩ := yieldRequest_stands hin
    obtain ⟨hc, hcl⟩ := Prod.mk.inj (hy.lastFault_eq.trans hlast)
    exact ⟨(hy.aon_eq Aon.refPresent fun _ _ => rfl).trans href, hc, hcl,
      fun _ _ _ _ => ⟨hy.mode_eq, (congrArg Twin.claimO hy.twin_eq).trans hclaim⟩, hy.copies_eq.trans hcopies⟩

/-! ### A host reset (R477) -/

/-- Between two states the queues and mailboxes alone have changed, and the bus master stands. -/
def HostOnly (s t : State) : Prop := ∃ y, y.busMaster = s.hostif.busMaster ∧ t = { s with hostif := y }

theorem HostOnly.foldl {α : Type} {f : State → α → State} (hf : ∀ t a, HostOnly t (f t a)) (l : List α) (s : State) : HostOnly s (l.foldl f s) := by
  induction l generalizing s with
  | nil => exact ⟨_, rfl, rfl⟩
  | cons a l ih =>
    obtain ⟨y, hy, hf'⟩ := hf s a
    obtain ⟨z, hz, hl⟩ := ih (f s a)
    exact ⟨z, hz.trans (by rw [hf']; exact hy), hl.trans (by rw [hf'])⟩

theorem hostOnly_disableOwned (rank : Nat) (s : State) : HostOnly s (disableOwned rank s) := by
  refine .foldl (fun t n => ?_) (List.range 16) s
  have heq : ∀ u : State, HostOnly t u → HostOnly t (if (eq_ u n).owner = rank then disableEq n u else u) := by
    rintro u ⟨y, hy, rfl⟩
    split
    · exact ⟨(disableEq n { t with hostif := y }).hostif, hy, rfl⟩
    · exact ⟨y, hy, rfl⟩
  refine heq _ ?_
  split
  · exact ⟨(disableCq n t).hostif, rfl, rfl⟩
  · exact ⟨t.hostif, rfl, rfl⟩

/-- R477: a host reset takes the host's queues, mailboxes, sessions and registers. -/
theorem hostReset_leaves (s : State) : (hostReset false s).sys = s.sys ∧ (hostReset false s).aon = s.aon ∧
    (hostReset false s).quench = s.quench ∧ (hostReset false s).hostif.busMaster = false ∧ (hostReset false s).geode.hostOpen = false := by
  obtain ⟨y, hy, hown⟩ := hostOnly_disableOwned 1 (freeLocksOf 1 { s with hostif := { s.hostif with
    hostResets := satNat 16 (s.hostif.hostResets + 1), busMaster := false, pba := [] } })
  obtain ⟨z, hz, hside⟩ := HostOnly.foldl (f := fun t m => hostSideReset m t) (fun t m => ⟨(hostSideReset m t).hostif, rfl, rfl⟩) (List.range 9) (disableOwned 1 (freeLocksOf 1
    { s with hostif := { s.hostif with hostResets := satNat 16 (s.hostif.hostResets + 1), busMaster := false, pba := [] } }))
  have hbus : z.busMaster = false := by rw [hz, hown]; exact hy
  unfold hostReset
  dsimp only
  rw [raise_sys, raise_aon, raise_quench, raise_hostif, raise_geode]
  simp only [Bool.false_eq_true, if_false]
  rw [hside, hown]
  exact ⟨rfl, rfl, rfl, hbus, trivial⟩

end Sys2Proof.Machine

open Sys2Proof Sys2Proof.Machine

/-- Settles O10: the release boots, the loss of the reference is the last error and yields, and PERST is `hostReset`. -/
theorem powerOnAndReference : Obligations.PowerOnAndReference := by
  refine ⟨fun s hp => ⟨?_, ?_⟩, fun s hw hhold hmode => ?_, fun s hw hrails hlock => ⟨?_, ?_⟩, fun s hw => ?_, fun s ok hw hrails hlock hrun hhold hmode => ?release,
    fun s hrun => ?lost, fun s hrun hperst => ?perst⟩
  · exact congrArg Host.Outcome.next (onAon_run _ hp)
  · exact congrArg Host.Outcome.next (onAon_run _ hp)
  · exact congrArg Host.Outcome.next ((onWarden_run _ hw).trans (by simp [hhold, hmode]))
  · exact congrArg Host.Outcome.next ((onWarden_run _ hw).trans (by simp [hrails, hlock, pllResult]))
  · exact congrArg Host.Outcome.next ((onWarden_run _ hw).trans (by simp [hrails, hlock, pllResult]))
  · exact congrArg Host.Outcome.next (onWarden_run _ hw)
  case release =>
    refine after_warden rfl hw ?_
    simp only [hrails, hlock, hrun, hhold, hmode, Bool.false_eq_true, not_false_eq_true, and_self, if_true]
    obtain ⟨hr, hraw, hh, hloads⟩ := released_releaseMain ok hmode
    exact ⟨hr, hraw, hh, hloads⟩
  case lost =>
    refine after_bus rfl hrun ?_
    obtain ⟨href, hcode, hclass, hyield, hcopies⟩ := ref10Lost_leaves { s with aon := { s.aon with refPresent := false } }
    exact ⟨href, hcode, hclass, hyield, qch_latch_congr hcopies⟩
  case perst =>
    refine after_bus rfl hrun ?_
    simp only [hperst, Bool.false_eq_true, if_false]
    exact hostReset_leaves s

end

section
/-! The power path (03_modes_power_reset.md R81, R83, R85): how it follows VIN_MAIN and VIN_RES. -/

namespace Sys2Proof.Machine

open Sys2Proof

/-- The path with its counts of samples begun anew. -/
def withPath (onRes : Bool) (s : State) : State := { s with aon := { s.aon with onRes := onRes, lowCount := 0, critCount := 0 } }

theorem calm_supplyChange (onRes : Bool) (s : State) : Calm (withPath onRes s) (supplyChange onRes s) :=
  calm_record (calm_raise (.refl (withPath onRes s)) bSYS 2) 0x0042 0 2 (b2n onRes) (raise bSYS 2 (withPath onRes s)).aon.vmainMv
    (raise bSYS 2 (withPath onRes s)).aon.battMv

/-- R88: a yielded unit sheds its load where VIN_MAIN is lost. -/
theorem lostLoad_stands (s : State) : ∃ b, Calm (withShed b s) (if s.sys.mode = .yielded ∧ ¬ s.sys.shed then shedLoad s else s) := by
  split
  · exact ⟨true, calm_shedLoad s⟩
  · exact ⟨s.sys.shed, .refl s⟩

/-- R88: a yielded unit restores its load where VIN_MAIN is back. -/
theorem backLoad_stands (s : State) : ∃ b, Calm (withShed b s) (if s.sys.mode = .yielded ∧ s.sys.shed then restoreLoad s else s) := by
  split
  · exact ⟨false, calm_restoreLoad s⟩
  · exact ⟨s.sys.shed, .refl s⟩

/-- R81: VIN_MAIN is lost with VIN_RES there; the mode waits for the profile tick. -/
theorem mainLost_leaves (s : State) : (mainLost s).aon.onRes = true ∧ (mainLost s).aon.mainGood = false ∧
    (mainLost s).aon.vmainMv = s.aon.vmainMv ∧ (mainLost s).aon.vresMv = s.aon.vresMv ∧ (mainLost s).sys.mode = s.sys.mode ∧
    (mainLost s).quench = s.quench := by
  have hpath := calm_supplyChange true { s with aon := { s.aon with mainGood := false, mainArmed := true } }
  obtain ⟨b, hload⟩ := lostLoad_stands (if s.aon.onRes then { s with aon := { s.aon with mainGood := false, mainArmed := true } }
    else supplyChange true { s with aon := { s.aon with mainGood := false, mainArmed := true } })
  unfold mainLost
  dsimp only
  rw [hload.aon_eq, hload.sys_eq, hload.quench_eq]
  unfold withShed
  dsimp only
  split
  · next hres => exact ⟨hres, rfl, rfl, rfl, rfl, rfl⟩
  · rw [hpath.aon_eq, hpath.sys_eq, hpath.quench_eq]
    exact ⟨rfl, rfl, rfl, rfl, rfl, rfl⟩

/-- R81, R85: VIN_MAIN is back, which ends the conditions of the battery. -/
theorem mainReturned_leaves (s : State) : (mainReturned s).aon.onRes = false ∧ (mainReturned s).aon.mainGood = true ∧
    (mainReturned s).aon.battCrit = false ∧ (mainReturned s).aon.battAnneal = false ∧ (mainReturned s).sys.annealOnRes = false ∧
    (mainReturned s).sys.mode = s.sys.mode := by
  have hpath := calm_supplyChange false (endOnRes s)
  obtain ⟨b, hload⟩ := backLoad_stands (if (endOnRes s).aon.onRes then supplyChange false (endOnRes s) else endOnRes s)
  unfold mainReturned
  dsimp only
  rw [driveOutputs_aon, driveOutputs_sys, hload.aon_eq, hload.sys_eq]
  unfold withShed
  dsimp only
  split
  · rw [hpath.aon_eq, hpath.sys_eq]
    exact ⟨rfl, rfl, rfl, rfl, rfl, rfl⟩
  · next hres => exact ⟨by simpa using hres, rfl, rfl, rfl, rfl, rfl⟩

end Sys2Proof.Machine

open Sys2Proof Sys2Proof.Machine

/-- Settles O11: each input's step is `mainLost`, `losePower`, `mainReturned` or a change of the path. -/
theorem powerPathFollowsTheInputs : Obligations.PowerPathFollowsTheInputs := by
  refine ⟨fun s vm vr hp hmain hres => ?_, fun s vm vr hp hmain hres => ?_, fun s vm hp hlow hhigh hgood => ?_, fun s vm vr hp hon hres hlow hhigh => ?_⟩
  · refine after_aon rfl hp ?_
    simp only [mainInRange_eq_false hmain, resInRange_iff.2 hres, Bool.false_eq_true, if_false, if_true]
    exact mainLost_leaves (inputs vm vr s)
  · refine after_aon rfl hp ?_
    simp only [mainInRange_eq_false hmain, resInRange_eq_false hres, Bool.false_eq_true, if_false]
    rfl
  · refine after_aon rfl hp ?_
    simp only [hlow, hhigh, hgood, Bool.false_eq_true, not_false_eq_true, and_self, if_true]
    exact mainReturned_leaves (inputs vm s.aon.vresMv s)
  · refine after_aon rfl hp ?_
    simp only [hon, resInRange_eq_false hres, mainInRange_iff.2 ⟨hlow, hhigh⟩, not_true_eq_false, Bool.false_eq_true, or_self, if_false, if_true]
    have hpath := calm_supplyChange false (inputs vm vr s)
    rw [hpath.aon_eq, hpath.sys_eq]
    exact ⟨rfl, rfl, rfl, hp⟩

end

section
/-! The battery and the junction temperature (03_modes_power_reset.md R84, R85, R89): what the warden's samples make it do. -/

namespace Sys2Proof.Machine

open Sys2Proof

/-! ### The warden's stop source (R354, R356) -/

theorem sourceOn_of_wardenSource {s : State} (h : wardenSource s = true) (k : Nat) : sourceOn s k = true := by simp [sourceOn, h]

theorem votedStop_of_wardenSource {s : State} (h : wardenSource s = true) : votedStop s = true :=
  votedStop_of_all fun k => by simp [presentsStop, resultStop, sourceOn_of_wardenSource h k]

theorem wardenSource_of_battCrit {s : State} (h : s.aon.battCrit = true) : wardenSource s = true := by simp [wardenSource, h]

theorem wardenSource_of_battAnneal {s : State} (h : s.aon.battAnneal = true) : wardenSource s = true := by simp [wardenSource, h]

theorem wardenSource_of_thermal110 {s : State} (h : s.aon.thermal110 = true) : wardenSource s = true := by simp [wardenSource, h]

/-- No new decision waits while the latch is set. -/
theorem settleVote_deciding_latched (cause : QCause) (rank : Nat) {s : State} (h : latched s = true) :
    (settleVote cause rank s).quench.deciding = s.quench.deciding := by
  have hl : latched (trackLone s) = true := (latched_congr (trackLone_latchCopies s)).trans h
  simp only [settleVote, hl, not_true_eq_false, false_and, and_false, if_false]
  exact (congrArg Quench.deciding (trackLone_inner s) :)

/-! ### The battery (R84) -/

theorem countUp_eq (b : Bool) (n : Nat) : countUp b n = if b = true then min 10 (n + 1) else 0 := rfl

/-- A sample changes the AON island alone. -/
theorem senseSample_eq (batt solar : Nat) (s : State) : senseSample batt solar s = { s with aon := (senseSample batt solar s).aon } := by
  unfold senseSample
  rfl

/-- The readings, the arming of the solar wake and the counts are all that a sample changes. -/
theorem senseSample_aon (batt solar : Nat) (s : State) : ∃ mv sun armed rise low crit lowUp critUp, (senseSample batt solar s).aon =
    { s.aon with
      battMv := mv, solarMv := sun, solarArmed := armed, solarRise := rise
      lowCount := low, critCount := crit, lowClear := lowUp, critClear := critUp } := by
  unfold senseSample
  exact ⟨_, _, _, _, _, _, _, _, rfl⟩

theorem senseSample_powered (batt solar : Nat) (s : State) : (senseSample batt solar s).aon.powered = s.aon.powered := by
  obtain ⟨_, _, _, _, _, _, _, _, h⟩ := senseSample_aon batt solar s
  rw [h]

/-- A sample counts towards each condition, or begins its count anew. -/
theorem senseSample_counts (batt solar : Nat) (s : State) :
    (senseSample batt solar s).aon.lowCount =
      (if (senseSample batt solar s).aon.battMv < regFld s 0x4C 31 16 then min 10 (s.aon.lowCount + 1) else 0) ∧
    (senseSample batt solar s).aon.critCount =
      (if s.aon.onRes = true ∧ (senseSample batt solar s).aon.battMv < regFld s 0x4C 15 0 then min 10 (s.aon.critCount + 1) else 0) ∧
    (senseSample batt solar s).aon.lowClear =
      (if regFld s 0x4C 31 16 + 200 < (senseSample batt solar s).aon.battMv then min 10 (s.aon.lowClear + 1) else 0) ∧
    (senseSample batt solar s).aon.critClear =
      (if regFld s 0x4C 15 0 + 200 < (senseSample batt solar s).aon.battMv then min 10 (s.aon.critClear + 1) else 0) := by
  simp only [senseSample, countUp_eq, Bool.and_eq_true, decide_eq_true_eq, and_self]

theorem noPermit_of_mode {s : State} (h : permitMode s = false) : noPermit s = true := by
  simp [noPermit, granted, h]

/-- A DORMANT request of the warden leaves the mode and BATT_LOW. -/
theorem dormantRequest_leaves (who : Master) (s : State) : (modeRequest 9 who none s).sys.mode = s.sys.mode ∧
    (modeRequest 9 who none s).aon.battLow = s.aon.battLow := by
  by_cases hbusy : s.sys.req.isSome = true ∨ s.aon.dormantReq = true
  · rw [modeRequest_busy 9 who hbusy, raise_sys, raise_aon]
    exact ⟨rfl, rfl⟩
  · obtain ⟨hreq, hdorm⟩ : s.sys.req = none ∧ s.aon.dormantReq = false := by simpa using hbusy
    have hrefused : requestResult 9 s ≠ .none := by
      unfold requestResult
      simp only [Nat.reduceEqDiff, if_false, if_true]
      split
      · exact dormantResult_ne_none s
      · decide
    by_cases hdone : requestResult 9 s = .done
    · rw [modeRequest_done hreq hdorm hdone]
      obtain ⟨hsys, haon, -⟩ := endRequest_register .done (s := acceptDormant who s) hreq
      rw [hsys, haon]
      exact ⟨rfl, rfl⟩
    · rw [modeRequest_refused hreq hdorm hrefused hdone]
      obtain ⟨hsys, haon, -⟩ := endRequest_register (requestResult 9 s) hreq
      rw [hsys, haon]
      exact ⟨rfl, rfl⟩

/-- R84: in RESERVE with the image in store, a low battery asks for DORMANT. -/
theorem battLowNow_requests {s : State} (h : s.sys.mode = .reserve ∧ s.aon.onRes = true ∧ s.parison.inStore = true) :
    (battLowNow s).sys.mode = s.sys.mode ∧ (battLowNow s).aon.battLow = s.aon.battLow ∧
    (s.sys.req = none → s.aon.dormantReq = false → imageWork s = false →
      (battLowNow s).aon.dormantReq = true ∧ (battLowNow s).aon.dormantWho = .warden) := by
  have hnow : battLowNow s = modeRequest 9 .warden none s := if_pos h
  rw [hnow]
  obtain ⟨hm, -, hstore⟩ := h
  obtain ⟨hmode, hbatt⟩ := dormantRequest_leaves .warden s
  refine ⟨hmode, hbatt, fun hreq hdorm hwork => ?_⟩
  obtain ⟨-, haon, -⟩ := modeRequest_dormant .warden hreq hdorm (by rw [hm]; rfl)
  have hpermit : noPermit s = true := noPermit_of_mode (by rw [permitMode, hm]; rfl)
  rw [haon, dormantResult_done (.inr hpermit) hstore hwork, if_pos rfl]
  exact ⟨rfl, rfl⟩

/-- R84: elsewhere a low battery sets BATT_LOW, with its interrupt the first time. -/
theorem battLowNow_flags {s : State} (h : ¬ (s.sys.mode = .reserve ∧ s.aon.onRes = true ∧ s.parison.inStore = true)) :
    (battLowNow s).sys = s.sys ∧ (battLowNow s).aon.battLow = true ∧ (battLowNow s).aon.dormantReq = s.aon.dormantReq ∧
    (s.aon.battLow = false → regBit (battLowNow s) 0x00001C 3 = true) := by
  have hnow : battLowNow s = if s.aon.battLow then s else raise bSYS 3 { s with aon := { s.aon with battLow := true } } := if_neg h
  rw [hnow]
  split
  · next hbatt => exact ⟨rfl, hbatt, rfl, fun hf => absurd (hbatt.symm.trans hf) (by decide)⟩
  · rw [raise_sys, raise_aon]
    exact ⟨rfl, rfl, rfl, fun _ => regBit_raise_same _ (b := bSYS) (by decide) (by decide)⟩

theorem critHold_battCrit (s : State) : (critHold s).aon.battCrit = s.aon.battCrit := by
  unfold critHold
  split
  · rfl
  · have haon := mainReset_aon 7 { s with aon := { s.aon with hold := .battCrit } }
    generalize mainReset 7 _ = u at haon ⊢
    exact (congrArg Aon.battCrit haon :)

theorem critAction_battCrit (s : State) : (critAction s).aon.battCrit = s.aon.battCrit := by
  unfold critAction
  split
  · rfl
  · split
    · exact critHold_battCrit s
    · rfl

/-- The part goes to DORMANT at RES_CRIT where its mode leads there with the image in store. -/
theorem critAction_dormant {s : State} (hm : dormantMode s.sys.mode = true) (hd : s.sys.mode ≠ .dormant) (hreq : s.aon.dormantReq = false)
    (hstore : s.parison.inStore = true) (hwork : imageWork s = false) : critAction s = acceptDormant .warden s := by
  simp [critAction, hm, hd, hreq, hstore, hwork]

/-- The main die is held unpowered at RES_CRIT where DORMANT is not open to it. -/
theorem critAction_hold {s : State} (hm : dormantMode s.sys.mode = false ∨ s.parison.inStore = false) (hd : s.sys.mode ≠ .dormant)
    (hreq : s.aon.dormantReq = false) (hhold : s.aon.hold = .none) : (critAction s).aon.hold = .battCrit ∧
    (critAction s).aon.mainRun = false ∧ (critAction s).aon.mainRails = false ∧ (critAction s).sys.mode = .reset := by
  have hno : dormantMode s.sys.mode = false ∨ ¬ s.parison.inStore = true ∨ imageWork s = true := hm.imp_right fun h => .inl (by simp [h])
  have hcrit : critAction s = railsOff (mainReset 7 { s with aon := { s.aon with hold := .battCrit } }) := by
    simp only [critAction, hd, hreq, Bool.false_eq_true, or_self, if_false, if_pos hno, critHold, hhold, reduceCtorEq]
  rw [hcrit]
  have haon := mainReset_aon 7 { s with aon := { s.aon with hold := .battCrit } }
  have hsys := mainReset_sys 7 { s with aon := { s.aon with hold := .battCrit } }
  generalize mainReset 7 _ = u at haon hsys ⊢
  exact ⟨congrArg Aon.hold haon, congrArg Aon.mainRun haon, rfl, congrArg Sys.mode hsys⟩

/-- The vote at RES_CRIT, with the warden's source on. -/
def critVote (s : State) : State := settleVote .warden 0 { s with aon := { s.aon with battCrit := true } }

theorem critVote_sys (s : State) : (critVote s).sys = s.sys := settleVote_sys ..

theorem critVote_aon (s : State) : (critVote s).aon = { s.aon with battCrit := true } := settleVote_aon ..

theorem critVote_parison (s : State) : (critVote s).parison = s.parison := settleVote_parison ..

theorem critVote_deciding {s : State} (hl : latched s = false) (hn : s.quench.deciding = none) :
    (critVote s).quench.deciding = some (.warden, 0) :=
  settleVote_deciding (s := { s with aon := { s.aon with battCrit := true } })
    (votedStop_of_wardenSource (wardenSource_of_battCrit (congrArg Aon.battCrit (trackLone_aon ..)))) hl hn

theorem critVote_deciding_latched {s : State} (hl : latched s = true) : (critVote s).quench.deciding = s.quench.deciding :=
  settleVote_deciding_latched .warden 0 (s := { s with aon := { s.aon with battCrit := true } }) hl

theorem battCritNow_eq (s : State) : battCritNow s = if (critVote s).quench.deciding.isSome then
    { critVote s with aon := { (critVote s).aon with critDue := true } } else critAction (critVote s) := by
  unfold battCritNow critVote
  rfl

/-- The action at RES_CRIT waits for the decision that the vote brings. -/
theorem battCritNow_waits {s : State} {d : QCause × Nat} (h : (critVote s).quench.deciding = some d) :
    battCritNow s = { critVote s with aon := { (critVote s).aon with critDue := true } } :=
  (battCritNow_eq s).trans (if_pos (by rw [h]; rfl))

/-- The action at RES_CRIT follows at once where no decision waits. -/
theorem battCritNow_acts {s : State} (h : (critVote s).quench.deciding = none) : battCritNow s = critAction (critVote s) :=
  (battCritNow_eq s).trans (if_neg (by rw [h]; decide))

theorem battCritNow_battCrit (s : State) : (battCritNow s).aon.battCrit = true := by
  have hbatt : (critVote s).aon.battCrit = true := congrArg Aon.battCrit (critVote_aon s)
  cases hd : (critVote s).quench.deciding with
  | some d =>
    rw [battCritNow_waits hd]
    exact hbatt
  | none =>
    rw [battCritNow_acts hd, critAction_battCrit]
    exact hbatt

/-! ### The junction temperature (R89) -/

theorem calm_thermalNote (s : State) : Calm s (thermalNote s) := calm_record (calm_raise (.refl s) ..) ..

/-- The reading of the sensor taken. -/
def withTj (tj : Int) (s : State) : State := { s with aon := { s.aon with tj := tj } }

theorem thermalSample_cool {tj : Int} (s : State) (h : tj < 800) : thermalSample tj s = thermalEnd (withTj tj s) := by
  unfold thermalSample withTj
  exact if_pos h

theorem thermalSample_hot {tj : Int} {s : State} (h : 880 ≤ tj) (h110 : s.aon.thermal110 = false) :
    thermalSample tj s = thermalStop (withTj tj s) := by
  unfold thermalSample withTj
  exact (if_neg (by omega)).trans (if_pos ⟨h, by simp [h110]⟩)

theorem thermalSample_warm {tj : Int} {s : State} (hlo : 840 ≤ tj) (hhi : tj < 880) (harmed : s.aon.thermArmed = true) :
    thermalSample tj s = thermalRequest (withTj tj s) := by
  unfold thermalSample withTj
  exact (if_neg (by omega)).trans ((if_neg (by omega)).trans (if_pos ⟨hlo, harmed⟩))

/-- Below 100 °C the stop condition and the hold end. -/
theorem thermalEnd_leaves (s : State) : (thermalEnd s).aon.tj = s.aon.tj ∧ (thermalEnd s).aon.thermal110 = false ∧
    (thermalEnd s).aon.thermArmed = true ∧ (thermalEnd s).aon.hold ≠ .thermal ∧ (thermalEnd s).sys = s.sys := by
  rw [thermalEnd, driveOutputs_aon, driveOutputs_sys]
  refine ⟨rfl, rfl, rfl, ?_, rfl⟩
  dsimp only
  split
  · decide
  · assumption

/-- 105 °C disarms the threshold and asks for ANNEAL. -/
theorem thermalRequest_leaves (s : State) : (thermalRequest s).aon = { s.aon with thermArmed := false } ∧
    (thermalRequest s).sys.mode = s.sys.mode ∧
    (s.sys.mode = .field ∨ s.sys.mode = .holdover → (thermalRequest s).sys.thermalReq = true) := by
  have hnoted := calm_thermalNote { s with aon := { s.aon with thermArmed := false } }
  unfold thermalRequest
  dsimp only
  rw [hnoted.sys_eq]
  split
  · exact ⟨hnoted.aon_eq, rfl, fun _ => rfl⟩
  · next hm => exact ⟨hnoted.aon_eq, (congrArg Sys.mode hnoted.sys_eq :), fun h => absurd h hm⟩

/-- 110 °C stops, and holds the main die in reset. -/
theorem thermalStop_leaves {s : State} (hd : s.sys.mode ≠ .dormant) (hhold : s.aon.hold ≠ .battCrit) (hrun : s.aon.mainRun = true) :
    (thermalStop s).aon.thermal110 = true ∧ (thermalStop s).aon.hold = .thermal ∧ (thermalStop s).aon.mainRun = false ∧
    (thermalStop s).sys.mode = .reset ∧ regBit (thermalStop s) 0x000018 5 = true := by
  have hnoted := calm_thermalNote { s with aon := { s.aon with thermal110 := true, thermArmed := false } }
  have haon := (settleVote_aon (s := thermalNote { s with aon := { s.aon with thermal110 := true, thermArmed := false } }) .warden 0).trans hnoted.aon_eq
  have hsys := (settleVote_sys (s := thermalNote { s with aon := { s.aon with thermal110 := true, thermArmed := false } }) .warden 0).trans hnoted.sys_eq
  unfold thermalStop
  dsimp only
  generalize settleVote .warden 0 _ = u at haon hsys ⊢
  rw [hsys, haon]
  simp only [hd, hhold, hrun, or_self, if_false, if_true]
  rw [mainReset_aon, mainReset_sys]
  exact ⟨rfl, rfl, rfl, rfl, mainReset_cause _ _ (by decide)⟩

end Sys2Proof.Machine

open Sys2Proof Sys2Proof.Machine

/-- Settles O12: each sample's step is the warden's own operation, whose stop source the new condition holds. -/
theorem batteryAndThermalThresholds : Obligations.BatteryAndThermalThresholds := by
  refine ⟨fun s batt solar hw => ?_, fun s hw hlow => ?low, fun s hw hcrit hon hbatt => ?crit, fun s hw hclear => ?_, fun s hw hclear => ?_,
    fun s hw hm hdone hres hlim => ?limit, fun s tj hw htj => ?cool, fun s tj hw hlo hhi harmed => ?warm, fun s tj hrun htj h110 hm hhold => ?hot⟩
  · exact after_warden rfl hw ⟨senseSample_eq batt solar s, senseSample_powered batt solar s, senseSample_counts batt solar s⟩
  case low =>
    refine ⟨battLowNow s, congrArg Host.Outcome.next ((onWarden_run _ hw).trans (if_neg (by rw [hlow]; decide))), ?_⟩
    by_cases hres : s.sys.mode = .reserve ∧ s.aon.onRes = true ∧ s.parison.inStore = true
    · obtain ⟨hmode, hbatt, hdormant⟩ := battLowNow_requests hres
      exact ⟨hmode, fun _ _ _ => ⟨hbatt, hdormant⟩, fun h => absurd hres h⟩
    · obtain ⟨hsys, hbatt, hdorm, hbit⟩ := battLowNow_flags hres
      exact ⟨by rw [hsys], fun hm hon hstore => absurd ⟨hm, hon, hstore⟩ hres, fun _ => ⟨hbatt, hdorm, hbit⟩⟩
  case crit =>
    refine ⟨battCritNow s, congrArg Host.Outcome.next ((onWarden_run _ hw).trans (if_neg (by simp [hcrit, hon, hbatt]))), ?_⟩
    have hbattc := battCritNow_battCrit s
    have hsys := critVote_sys s
    have haon := critVote_aon s
    have hparison := critVote_parison s
    refine ⟨hbattc, sourceOn_of_wardenSource (wardenSource_of_battCrit hbattc), fun hl hn => ?_, fun hl hn hm hdorm => ?_⟩
    · have hdecide := critVote_deciding hl hn
      rw [battCritNow_waits hdecide]
      generalize critVote s = u at hdecide hsys ⊢
      exact ⟨rfl, hdecide, hsys⟩
    · rw [battCritNow_acts ((critVote_deciding_latched hl).trans hn)]
      generalize critVote s = u at hsys haon hparison ⊢
      have hmode : u.sys.mode ≠ .dormant := by rwa [hsys]
      have hreq : u.aon.dormantReq = false := by rwa [haon]
      refine ⟨fun hto hstore hwork => ?_, fun hno hhold => ?_⟩
      · rw [critAction_dormant (by rwa [hsys]) hmode hreq (by rwa [hparison]) (by rwa [imageWork, hparison])]
        exact ⟨rfl, hsys⟩
      · exact critAction_hold (by rwa [hsys, hparison]) hmode hreq (by rwa [haon])
  · exact congrArg Host.Outcome.next ((onWarden_run _ hw).trans (by simp [hclear]))
  · refine after_warden rfl hw ?_
    simp only [hclear, Nat.lt_irrefl, if_false]
    exact ⟨driveOutputs_aon _, driveOutputs_sys _, qch_latch_congr (driveOutputs_latchCopies _)⟩
  case limit =>
    refine after_warden rfl hw ?_
    simp only [hm, hdone, hres, hlim, ne_eq, not_true_eq_false, Bool.false_eq_true, or_self, if_false]
    have hbatt : (execBatteryAnnealLimit.limit (advanceClk (s.quench.annealAt + regFld s 0x000050 7 0 * 10 ^ 9) s)).aon.battAnneal = true := by
      rw [execBatteryAnnealLimit.limit, settleVote_aon]
    refine ⟨hbatt, sourceOn_of_wardenSource (wardenSource_of_battAnneal hbatt), ?_⟩
    exact (settleVote_clk ..).trans (advanceClk_clk ..)
  case cool =>
    refine after_warden rfl hw ?_
    rw [thermalSample_cool s htj]
    exact thermalEnd_leaves (withTj tj.toInt s)
  case warm =>
    refine after_warden rfl hw ?_
    rw [thermalSample_warm hlo hhi harmed]
    obtain ⟨haon, hmode, hreq⟩ := thermalRequest_leaves (withTj tj.toInt s)
    rw [haon]
    exact ⟨rfl, rfl, rfl, hmode, hreq⟩
  case hot =>
    obtain ⟨hp, hup, hmain⟩ := hrun
    refine after_warden rfl ⟨hp, hup⟩ ?_
    rw [thermalSample_hot htj h110]
    obtain ⟨hthermal, hheld, hoff, hmode, hcause⟩ := thermalStop_leaves (s := withTj tj.toInt s) hm hhold hmain
    exact ⟨hthermal, hheld, hoff, hmode, sourceOn_of_wardenSource (wardenSource_of_thermal110 hthermal), hcause⟩

end

section
/-! DORMANT and the wake from it (03_modes_power_reset.md R91 to R94, R105). -/

namespace Sys2Proof.Machine

open Sys2Proof

/-! ### The entry (R91) -/

/-- The AON counter as the entry aligns it to served time. -/
def alignedAon (s : State) : Aon :=
  { s.aon with
    seconds := BitVec.ofNat 32 (now s / 10 ^ 9)
    secondAt := s.aon.aonNs + 10 ^ 9 - now s % 10 ^ 9
    aligned := some (now s, s.aon.aonNs) }

theorem alignAon_eq (s : State) : alignAon s = { s with aon := alignedAon s } := rfl

theorem calm_dormantDiscard (s : State) : Calm s (dormantDiscard (checkpointAll s)) :=
  calm_discard ((Calm.refl s).other (u := checkpointAll s) rfl rfl) ..

/-- The main die as the entry to DORMANT leaves it. -/
theorem enterDormant_stands (s : State) : ∃ b c, ∃ m : State,
    ModeStands (withShed b (withMode .dormant s.sys.mode c { s with aon := alignedAon s })) m ∧
    enterDormant s = railsOff (driveOutputs (mainWiped m)) := by
  have hcalm := calm_dormantDiscard s
  unfold enterDormant
  dsimp only
  generalize dormantDiscard (checkpointAll s) = d at hcalm ⊢
  have haligned : ModeStands { s with aon := alignedAon s } (alignAon (eraseSlots d)) := by
    refine ⟨?_, hcalm.regs.bits, hcalm.regs.plain⟩
    have haon : alignedAon (eraseSlots d) = alignedAon s := by
      change alignedAon d = _
      rw [alignedAon, alignedAon, now, now, hcalm.aon_eq, hcalm.time_eq]
    rw [alignAon_eq, haon]
    have hview := hcalm.modeStands.view
    change { modeView d with aon := { alignedAon s with battAnneal := false } } = { modeView s with aon := { alignedAon s with battAnneal := false } }
    rw [hview]
  generalize alignAon (eraseSlots d) = a at haligned ⊢
  have hmoved := modeStands_toMode .dormant (if s.aon.dormantWho = .warden then .battLow else .hostReq) s.aon.dormantWho.rank a
  have hmode : a.sys.mode = s.sys.mode := haligned.mode_eq
  rw [hmode] at hmoved
  exact ⟨_, _, _, ((haligned.setMode ..).setShed _).trans hmoved, rfl⟩

theorem regWord_enterDormant {off : Nat} (haon : aonReg off = true) (hoff : ∀ k, intStatusOff k ≠ off) (s : State) :
    regWord (enterDormant s) off = regWord s off := by
  obtain ⟨b, c, m, hm, h⟩ := enterDormant_stands s
  rw [h]
  calc regWord (railsOff (driveOutputs (mainWiped m))) off = regWord (mainWiped m) off := by
        rw [regWord, regWord, ← driveOutputs_regs (mainWiped m)]
        rfl
    _ = regWord m off := regWord_mainWiped haon m
    _ = regWord s off := hm.regs.plain off hoff

/-- R91: only the AON island stays powered, with its counter aligned to served time. -/
theorem enterDormant_leaves (s : State) : (enterDormant s).sys.mode = .dormant ∧ (enterDormant s).aon.mainRun = false ∧
    (enterDormant s).aon.mainRails = false ∧ (enterDormant s).aon.dormantReq = false ∧
    (enterDormant s).aon.seconds = BitVec.ofNat 32 (now s / 10 ^ 9) ∧ (enterDormant s).aon.aligned = some (now s, s.aon.aonNs) ∧
    (enterDormant s).geode.slots = [] ∧ ∀ k, (qch (enterDormant s) k).latch = (qch s k).latch := by
  obtain ⟨b, c, m, hm, h⟩ := enterDormant_stands s
  rw [h]
  have hcopies : latchCopies (railsOff (driveOutputs (mainWiped m))) = latchCopies s :=
    (driveOutputs_latchCopies _).trans ((latchCopies_mainWiped m).trans hm.copies_eq)
  have hseconds : m.aon.seconds = BitVec.ofNat 32 (now s / 10 ^ 9) := hm.aon_eq Aon.seconds fun _ _ => rfl
  have haligned : m.aon.aligned = some (now s, s.aon.aonNs) := hm.aon_eq Aon.aligned fun _ _ => rfl
  have hmode : m.sys.mode = .dormant := hm.mode_eq
  have haon := driveOutputs_aon (mainWiped m)
  have hsys := driveOutputs_sys (mainWiped m)
  have hgeode := driveOutputs_geode (mainWiped m)
  generalize driveOutputs (mainWiped m) = u at haon hsys hgeode hcopies ⊢
  refine ⟨(congrArg Sys.mode hsys).trans hmode, congrArg Aon.mainRun haon, rfl, congrArg Aon.dormantReq haon, (congrArg Aon.seconds haon).trans hseconds,
    (congrArg Aon.aligned haon).trans haligned, congrArg Geode.slots hgeode, qch_latch_congr hcopies⟩

/-! ### A wake event (R92, R94, R105) -/

/-- R94: a wake takes the part to RESET with its outputs held from the wake event on. -/
theorem wakeUp_leaves (src : WakeSrc) (s : State) : (wakeUp src s).sys.mode = .reset ∧ (wakeUp src s).aon.waking = true ∧
    (wakeUp src s).aon.wakeSrc = src ∧ (wakeUp src s).aon.wakeAt = (wakeUp src s).clk ∧ regBit (wakeUp src s) 0x000018 6 = true ∧
    (wakeUp src s).clk = s.clk ∧ ∀ k, (qch (wakeUp src s) k).latch = (qch s k).latch := by
  have hnoted := calm_record (.refl { s with aon := { s.aon with wakeSrc := src } }) 0x0044 0 1 (wakeCode src) 0 0
  unfold wakeUp
  dsimp only
  generalize record 0x0044 0 1 (wakeCode src) 0 0 _ = r at hnoted ⊢
  have hclk := (mainReset_clk 6 r).trans hnoted.clk_eq
  have haon := mainReset_aon 6 r
  have hsys := mainReset_sys 6 r
  have hcause := mainReset_cause 6 r (by decide)
  have hcopies := (mainReset_latchCopies 6 r).trans hnoted.copies_eq
  have hsrc : r.aon.wakeSrc = src := congrArg Aon.wakeSrc hnoted.aon_eq
  generalize mainReset 6 r = u at hclk haon hsys hcause hcopies ⊢
  exact ⟨congrArg Sys.mode hsys, rfl, (congrArg Aon.wakeSrc haon).trans hsrc, rfl, hcause, hclk, qch_latch_congr hcopies⟩

/-- Time that passes leaves the stop path and an entry to DORMANT as they are. -/
theorem advanceClk_entry (target : Nat) (s : State) : (advanceClk target s).quench = s.quench ∧
    (advanceClk target s).aon.dormantReq = s.aon.dormantReq ∧ (advanceClk target s).aon.wakePending = s.aon.wakePending := ⟨rfl, rfl, rfl⟩

theorem wakeEvent_dormant (src : WakeSrc) {s : State} (h : s.sys.mode = .dormant) : wakeEvent src s = wakeUp src s := if_pos h

/-- R105: a wake event during the entry waits for its end. -/
theorem wakeEvent_entry (src : WakeSrc) {s : State} (hm : s.sys.mode ≠ .dormant) (hreq : s.aon.dormantReq = true)
    (hnone : s.aon.wakePending = none) : wakeEvent src s = { s with aon := { s.aon with wakePending := some src } } := by
  rw [wakeEvent, if_neg hm, if_pos hreq, hnone]
  rfl

/-! ### The counter of seconds (R93) -/

/-- The island at the counter's next whole second. -/
def atSecond (s : State) : State :=
  let t := advance (s.aon.secondAt - s.aon.aonNs) s
  { t with aon := { t.aon with seconds := t.aon.seconds + 1, secondAt := t.aon.secondAt + 10 ^ 9 } }

theorem atSecond_regs (s : State) : (atSecond s).regs = s.regs := by
  unfold atSecond advance
  rfl

theorem atSecond_seconds (s : State) : (atSecond s).aon.seconds = s.aon.seconds + 1 := by
  unfold atSecond advance
  rfl

theorem atSecond_secondAt (s : State) : (atSecond s).aon.secondAt = s.aon.secondAt + 10 ^ 9 := by
  unfold atSecond advance
  rfl

theorem atSecond_aonNs {s : State} (hp : s.aon.powered = true) :
    (atSecond s).aon.aonNs = s.aon.aonNs + (s.aon.secondAt - s.aon.aonNs) := by
  unfold atSecond advance
  exact if_pos hp

theorem atSecond_sys (s : State) : (atSecond s).sys = s.sys := by
  unfold atSecond advance
  rfl

theorem aonSecond_eq (s : State) : aonSecond s =
    if (atSecond s).sys.mode = .dormant ∧ alarmDue (atSecond s) = true then wakeUp .alarm (atSecond s) else atSecond s := by
  unfold aonSecond atSecond
  rfl

theorem aonSecond_counts {s : State} (hm : s.sys.mode ≠ .dormant) : aonSecond s = atSecond s := by
  rw [aonSecond_eq, atSecond_sys]
  exact if_neg fun h => hm h.1

theorem aonSecond_wakes {s : State} (hm : s.sys.mode = .dormant) (hen : regBit s 0x000054 0 = true)
    (hdue : (regWord s 0x000058).toNat ≤ (s.aon.seconds + 1).toNat) : aonSecond s = wakeUp .alarm (atSecond s) := by
  have halarm : alarmDue (atSecond s) = true := by
    have hword (off : Nat) : regWord (atSecond s) off = regWord s off := by rw [regWord, regWord, atSecond_regs]
    have hbit : regBit (atSecond s) 0x000054 0 = true := by rwa [regBit, hword]
    rw [alarmDue, hbit, hword, atSecond_seconds, decide_eq_true hdue]
    rfl
  rw [aonSecond_eq, atSecond_sys]
  exact if_pos ⟨hm, halarm⟩

end Sys2Proof.Machine

open Sys2Proof Sys2Proof.Machine

/-- Settles O15: the entry is `enterDormant`, and each source's event is one `wakeEvent`, at the time at which it counts. -/
theorem dormantAndWake : Obligations.DormantAndWake := by
  refine ⟨fun s hrun hreq hm hnone halarm => ?entry, fun s hp hm hle => ?second, fun s hp hm hen hdue => ?alarm, fun s c src at_ hw hc => ?events,
    fun s hw harm => ?unarmed, fun s hrun hhold hreset hforming hwaking => ?hold⟩
  case entry =>
    have hquiet : alarmDue (enterDormant s) = false := by
      rw [alarmDue, regBit, regWord_enterDormant (by decide) (intStatusOff_ne (by decide))]
      exact Bool.and_eq_false_imp.2 fun h => absurd (halarm.symm.trans h) (by decide)
    refine ⟨enterDormant s, congrArg Host.Outcome.next ((bus_run _ hrun.2.2).trans ?_), enterDormant_leaves s⟩
    rw [if_pos ⟨hreq, hm⟩, hnone, wakeAtOnce, hquiet]
    rfl
  case second =>
    refine after_aon rfl hp ?_
    rw [aonSecond_counts hm]
    have hns := atSecond_aonNs hp
    exact ⟨atSecond_seconds s, by omega, atSecond_secondAt s, atSecond_sys s⟩
  case alarm =>
    refine after_aon rfl hp ?_
    rw [aonSecond_wakes hm hen hdue]
    obtain ⟨hmode, hwaking, hsrc, -, hcause, -, -⟩ := wakeUp_leaves .alarm (atSecond s)
    exact ⟨hmode, hwaking, hsrc, hcause⟩
  case events =>
    obtain ⟨u, hexec, hsys, hquench, hreq, hpend, hclk⟩ : ∃ u, exec c s = .next (wakeEvent src u) ∧ u.sys = s.sys ∧ u.quench = s.quench ∧
        u.aon.dormantReq = s.aon.dormantReq ∧ u.aon.wakePending = s.aon.wakePending ∧
        u.clk = (if src = .solar then max s.clk (at_ + 10 ^ 9) else s.clk) := by
      obtain ⟨rfl, hen, harm, hgood, rfl, rfl⟩ | ⟨rfl, hen, hrise, rfl⟩ | ⟨⟨p, rfl, hen, rfl⟩, rfl⟩ := hc
      · exact ⟨s, congrArg Host.Outcome.next ((onWarden_run _ hw).trans (if_pos ⟨hen, harm, hgood⟩)), rfl, rfl, rfl, rfl, rfl⟩
      · obtain ⟨hquench, hreq, hpend⟩ := advanceClk_entry (at_ + 10 ^ 9) s
        refine ⟨advanceClk (at_ + 10 ^ 9) s, congrArg Host.Outcome.next ((onWarden_run _ hw).trans ?_), advanceClk_sys .., hquench, hreq, hpend,
          advanceClk_clk ..⟩
        rw [hrise]
        exact if_pos hen
      · exact ⟨s, congrArg Host.Outcome.next ((onWarden_run _ hw).trans (if_pos hen)), rfl, rfl, rfl, rfl, rfl⟩
    refine ⟨fun hm => ⟨_, hexec, ?_⟩, fun hm hdorm hnone => ⟨_, hexec, ?_⟩⟩
    · rw [wakeEvent_dormant src (by rw [hsys, hm])]
      obtain ⟨hmode, hwaking, hsrc, hat, hcause, hstands, hlatch⟩ := wakeUp_leaves src u
      refine ⟨hmode, hwaking, hsrc, hat, hcause, hstands.trans hclk, fun k => (hlatch k).trans ?_⟩
      rw [qch, hquench, qch]
    · rw [wakeEvent_entry src (by rwa [hsys]) (hreq.trans hdorm) (hpend.trans hnone)]
      exact ⟨rfl, hsys, hquench⟩
  case unarmed =>
    refine congrArg Host.Outcome.next ((onWarden_run _ hw).trans (if_neg ?_))
    obtain h | h := harm <;> simp [h]
  case hold =>
    refine after_bus rfl hrun ?_
    rw [if_neg (by simp [hhold, hreset, hforming]), if_pos hwaking, endHold, driveOutputs_sys, driveOutputs_aon, driveOutputs_clk]
    exact ⟨congrArg (fun y : Sys => { y with wakeHold := false }) (advanceClk_sys ..), rfl, advanceClk_clk ..⟩

end

section
/-! The warden's own stops and its mailbox (03_modes_power_reset.md R100 to R104; 11_quench.md R373). -/

namespace Sys2Proof.Machine

open Sys2Proof

/-! ### The warden's pulse (R100, R373) -/

theorem settleVote_wardenEnd (cause : QCause) (rank : Nat) (s : State) :
    (settleVote cause rank s).quench.wardenEnd = s.quench.wardenEnd := by
  obtain ⟨d, a, h⟩ := settleVote_quench cause rank s
  rw [h]
  exact (congrArg Quench.wardenEnd (trackLone_inner s) :)

/-- The warden's source is on for 10 µs. -/
theorem wardenPulse_wardenEnd (s : State) : (wardenPulse s).quench.wardenEnd = some ((wardenPulse s).clk + 10000) := by
  rw [wardenPulse, settleVote_wardenEnd, settleVote_clk]

theorem advance_ageQuench (d : Nat) (s : State) : (advance d s).time.ageQuench = s.time.ageQuench := by
  change (if s.aon.mainRun then s.time.run d else s.time).ageQuench = _
  split <;> rfl

/-- The time at which the age limit is reached. -/
def ageLimitAt (s : State) : Nat :=
  match s.time.cleanAt with
  | some t => t + s.time.ageLimit * 10 ^ 9 + 1
  | none => 0

/-- The state at the first profile tick from a time on. -/
def atTickFrom (e : Nat) (s : State) : State := advanceTo (cdiv (now (advanceClk e s)) (10 ^ 6) * 10 ^ 6) (advanceClk e s)

theorem atTickFrom_sys (e : Nat) (s : State) : (atTickFrom e s).sys = s.sys := advanceTo_sys ..

theorem atTickFrom_ageQuench (e : Nat) (s : State) : (atTickFrom e s).time.ageQuench = s.time.ageQuench :=
  (advanceTo_keep (fun t => t.time.ageQuench) advance_ageQuench _ _).trans (advance_ageQuench ..)

theorem exec_correctionAgeLimit {s : State} (hrun : Running s) (hm : s.sys.mode = .holdover) (hvalid : timeValid s = false) :
    exec .correctionAgeLimit s = .next (ageAction (atTickFrom (ageLimitAt s) s)) :=
  congrArg Host.Outcome.next ((bus_run _ hrun.2.2).trans (if_neg (by simp [hm, hvalid])))

/-- R100: the action at the correction-age limit is taken once, as the image sets it. -/
theorem ageAction_leaves {s : State} (hm : s.sys.mode = .holdover) (htaken : s.sys.ageTaken = false) :
    (s.time.ageQuench = false → (ageAction s).sys.mode = .anneal ∧ (ageAction s).sys.cause = .ageLimit) ∧
    (s.time.ageQuench = true → (ageAction s).sys.mode = .holdover ∧ (ageAction s).aon.agePulse = true ∧
      (ageAction s).quench.wardenEnd = some ((ageAction s).clk + 10000) ∧ (ageAction s).sys.ageTaken = true) := by
  have hact : ageAction s = if s.time.ageQuench then wardenPulse { s with sys := { s.sys with ageTaken := true }, aon := { s.aon with agePulse := true } }
      else toMode .anneal .ageLimit 0 { s with sys := { s.sys with ageTaken := true } } := if_neg (by simp [htaken])
  rw [hact]
  refine ⟨fun h => ?_, fun h => ?_⟩
  · have hmoved := modeStands_toMode .anneal .ageLimit 0 { s with sys := { s.sys with ageTaken := true } }
    rw [if_neg (by simp [h])]
    exact ⟨hmoved.mode_eq, hmoved.cause_eq⟩
  · rw [if_pos h]
    exact ⟨(congrArg Sys.mode (wardenPulse_sys _)).trans hm, congrArg Aon.agePulse (wardenPulse_aon _), wardenPulse_wardenEnd _,
      congrArg Sys.ageTaken (wardenPulse_sys _)⟩

/-! ### The warden's answers (R102 to R104) -/

theorem mb_setMb_same (s : State) {m : Nat} (h : m < 9) (f : Mailbox → Mailbox) : mb (setMb m f s) m = f (mb s m) :=
  vget_vmod_same _ f _ h

/-- A push to mailbox 8 with room. -/
theorem mbPush_room {s : State} (h : (mb s 8).c2h.words.length < 8) (w : Word) :
    mbPush 8 false w false s = setMb 8 (fun b => { b with c2h := b.c2h.push w false }) s :=
  if_neg fun hfull => absurd (of_decide_eq_true (by simpa using hfull.1)) (Nat.not_le.2 h)

theorem push_room {d : MbDir} (h : d.words.length < 8) (w : Word) : d.push w false = { d with words := d.words ++ [w] } := if_pos (.inl h)

/-- Between two states mailbox 8 alone has changed, and its C2H by the words ws. -/
structure Answered (ws : List Word) (s t : State) : Prop where
  only : ∃ y, t = { s with hostif := y }
  c2h : (mb t 8).c2h.words = (mb s 8).c2h.words ++ ws
  h2c : (mb t 8).h2c = (mb s 8).h2c

theorem answered_mbPush {s t : State} {ws : List Word} (ht : Answered ws s t) (h : (mb s 8).c2h.words.length + ws.length < 8) (w : Word) :
    Answered (ws ++ [w]) s (mbPush 8 false w false t) := by
  obtain ⟨⟨y, rfl⟩, hc2h, hh2c⟩ := ht
  have hroom : (mb { s with hostif := y } 8).c2h.words.length < 8 := by rwa [hc2h, List.length_append]
  have hmb := mb_setMb_same { s with hostif := y } (m := 8) (by decide) fun b => { b with c2h := b.c2h.push w false }
  rw [mbPush_room hroom]
  refine ⟨⟨_, rfl⟩, ?_, ?_⟩
  · rw [hmb, push_room hroom, hc2h, List.append_assoc]
  · rw [hmb, hh2c]

/-- R102: an answer is a header and at most one word of data. -/
theorem answered_wardenAnswer (op tag status : Nat) {data : List Nat} (hdata : data.length ≤ 1) {s : State}
    (h : (mb s 8).c2h.words.length + 2 ≤ 8) :
    Answered (BitVec.ofNat 32 (op * 2 ^ 24 + tag * 2 ^ 16 + status * 2 ^ 8 + data.length) :: data.map (BitVec.ofNat 32)) s
      (wardenAnswer op tag status data s) := by
  unfold wardenAnswer
  dsimp only
  generalize BitVec.ofNat 32 (_ + data.length) = w
  have hheader := answered_mbPush (s := s) (t := s) (ws := []) ⟨⟨_, rfl⟩, by rw [List.append_nil], rfl⟩ (by rw [List.length_nil]; omega) w
  match data, hdata with
  | [], _ => exact hheader
  | [d], _ => exact answered_mbPush hheader (by simp only [List.nil_append, List.length_singleton]; omega) (BitVec.ofNat 32 d)

section

variable {s : State} {op tag arg : Nat} (hreq : wardenReq s = some (op, tag, arg)) (hroom : wardenRoom s = true)

theorem wardenPop_h2c (s : State) : (mb (wardenPop s) 8).h2c = (mb s 8).h2c.pop :=
  congrArg Mailbox.h2c (mb_setMb_same s (by decide) _)

theorem wardenPop_c2h (s : State) : (mb (wardenPop s) 8).c2h = (mb s 8).c2h :=
  (congrArg Mailbox.c2h (mb_setMb_same s (m := 8) (by decide) fun b => { b with h2c := b.h2c.pop }) :)

include hreq hroom

/-- R104: the warden takes the oldest request of these OPs where its answer has room. -/
theorem wardenTake_takes {ok : Nat → Bool} (hok : ok op = true) (f : Nat → Nat → Nat → State → State) :
    wardenTake ok f s = f op tag arg (wardenPop s) := by
  rw [wardenTake, hreq]
  exact if_pos ⟨hok, hroom⟩

omit hreq in
theorem answered_of_room (status : Nat) {data : List Word} (hdata : data.length ≤ 1) :
    Answered (BitVec.ofNat 32 (op * 2 ^ 24 + tag * 2 ^ 16 + status * 2 ^ 8 + data.length) :: data) (wardenPop s)
      (wardenAnswer op tag status (data.map BitVec.toNat) (wardenPop s)) := by
  have hfree : (mb (wardenPop s) 8).c2h.words.length + 2 ≤ 8 := by
    have hsum := of_decide_eq_true hroom
    rw [wardenPop_c2h]
    omega
  have hwords : (data.map BitVec.toNat).map (BitVec.ofNat 32) = data := by
    rw [List.map_map]
    exact List.map_id'' (fun w => by simp) data
  have hanswer := answered_wardenAnswer op tag status (data := data.map BitVec.toNat) (by rwa [List.length_map]) hfree
  rwa [hwords, List.length_map] at hanswer

end

/-- What a request answers does not follow from the mailboxes. -/
theorem requestResult_hostif (target : Nat) (y : Hostif) (s : State) : requestResult target { s with hostif := y } = requestResult target s := rfl

/-- The request popped, with its answer owed. -/
def wardenTaken (s : State) : State :=
  { wardenPop s with hostif := { (wardenPop s).hostif with wardenTaken := (wardenPop s).hostif.wardenTaken + 1 } }

theorem requestResult_wardenTaken (target : Nat) (s : State) : requestResult target (wardenTaken s) = requestResult target s :=
  requestResult_hostif target (wardenTaken s).hostif s

theorem stopStateWord_lt (s : State) : stopStateWord s < 64 := by
  have hb (b : Bool) : b2n b ≤ 1 := by cases b <;> decide
  have h0 := hb s.aon.battCrit
  have h1 := hb s.aon.battAnneal
  have h2 := hb s.aon.thermal110
  have h3 := hb s.aon.lockstep
  have h4 := hb s.aon.agePulse
  have h5 := hb s.aon.annealPulse
  unfold stopStateWord
  omega

theorem stopStateWord_toNat (s : State) : (BitVec.ofNat 32 (stopStateWord s)).toNat = stopStateWord s := by
  rw [BitVec.toNat_ofNat]
  exact Nat.mod_eq_of_lt ((stopStateWord_lt s).trans (by decide))

end Sys2Proof.Machine

open Sys2Proof Sys2Proof.Machine

/-- Settles O16: the limits end in `ageAction` and `wardenPulse`; each request is answered with a header and its data, or waits. -/
theorem wardenActsAndAnswers : Obligations.WardenActsAndAnswers := by
  refine ⟨fun s hrun hm hvalid htaken => ?age, fun s hrun hm hdone hlim => ?anneal, fun s op tag arg c status data hrun hreq hroom hc => ?answers,
    fun s tag arg hrun hreq hroom harg hnone hdorm hresult => ?waits⟩
  case age =>
    have hsys := atTickFrom_sys (ageLimitAt s) s
    have hage := atTickFrom_ageQuench (ageLimitAt s) s
    obtain ⟨hanneal, hquench⟩ := ageAction_leaves (s := atTickFrom (ageLimitAt s) s) (by rw [hsys, hm]) (by rw [hsys, htaken])
    exact ⟨_, exec_correctionAgeLimit hrun hm hvalid, fun h => hanneal (hage.trans h), fun h => hquench (hage.trans h)⟩
  case anneal =>
    refine after_bus rfl hrun ?_
    rw [if_neg (by simp [hm, hdone, hlim])]
    dsimp only
    have hclk := advanceClk_clk (s.quench.annealAt + regFld s 0x090050 7 0 * 10 ^ 9) s
    have hsys := advanceClk_sys (s.quench.annealAt + regFld s 0x090050 7 0 * 10 ^ 9) s
    generalize advanceClk _ s = u at hclk hsys ⊢
    have hbit : regBit (raise bQUENCH 7 { u with aon := { u.aon with annealPulse := true } }) 0x090080 7 = true :=
      regBit_raise_same _ (b := bQUENCH) (by decide) (by decide)
    have haon := raise_aon (s := { u with aon := { u.aon with annealPulse := true } }) bQUENCH 7
    have hclk' := (raise_clk (s := { u with aon := { u.aon with annealPulse := true } }) bQUENCH 7).trans hclk
    have hsys' := (raise_sys (s := { u with aon := { u.aon with annealPulse := true } }) bQUENCH 7).trans hsys
    generalize raise bQUENCH 7 _ = v at hbit haon hclk' hsys' ⊢
    refine ⟨?_, (wardenPulse_clk v).trans hclk', wardenPulse_wardenEnd v, (wardenPulse_sys v).trans hsys', ?_⟩
    · rw [wardenPulse_aon, haon]
    · rwa [regBit, regWord, wardenPulse_regs]
  case answers =>
    have htake {ok : Nat → Bool} (hok : ok op = true) (f : Nat → Nat → Nat → State → State) :
        bus s (wardenTake ok f) = f op tag arg (wardenPop s) :=
      (bus_run _ hrun.2.2).trans (wardenTake_takes hreq hroom hok f)
    obtain ⟨hdata, hexec⟩ : data.length ≤ 1 ∧ exec c s = .next (wardenAnswer op tag status (data.map BitVec.toNat) (wardenPop s)) := by
      obtain ⟨rfl, rfl, ⟨rfl, rfl, rfl⟩ | ⟨harg, rfl, rfl⟩⟩ | ⟨rfl, rfl, ⟨harg, rfl, rfl⟩ | ⟨harg, rfl, rfl⟩⟩ | ⟨rfl, rfl, harg, rfl, rfl⟩ |
        ⟨rfl, rfl, ⟨rfl, rfl, rfl⟩ | ⟨harg, rfl, rfl⟩⟩ | ⟨rfl, hop, rfl, rfl⟩ := hc
      · exact ⟨le_rfl, congrArg Host.Outcome.next (htake rfl _)⟩
      · exact ⟨Nat.zero_le _, congrArg Host.Outcome.next ((htake rfl _).trans (if_neg harg))⟩
      · exact ⟨le_rfl, congrArg Host.Outcome.next ((htake rfl _).trans (if_pos harg))⟩
      · exact ⟨Nat.zero_le _, congrArg Host.Outcome.next ((htake rfl _).trans (if_neg (by omega)))⟩
      · exact ⟨Nat.zero_le _, congrArg Host.Outcome.next ((htake rfl _).trans (if_neg (by omega)))⟩
      · refine ⟨le_rfl, congrArg Host.Outcome.next ((htake rfl _).trans ((if_pos rfl).trans ?_))⟩
        rw [List.map_singleton, stopStateWord_toNat]
        rfl
      · exact ⟨Nat.zero_le _, congrArg Host.Outcome.next ((htake rfl _).trans (if_neg harg))⟩
      · refine ⟨Nat.zero_le _, congrArg Host.Outcome.next (htake ?_ _)⟩
        simp only [Bool.not_eq_true', Bool.and_eq_false_iff, decide_eq_false_iff_not]
        omega
    obtain ⟨⟨y, honly⟩, hc2h, hh2c⟩ := answered_of_room (op := op) (tag := tag) hroom status hdata
    refine ⟨_, hexec, ?_, ?_, ?_⟩
    · rw [hh2c, wardenPop_h2c]
      rfl
    · rw [hc2h, wardenPop_c2h, List.append_assoc, List.singleton_append]
    · rw [honly]
      exact ⟨rfl, rfl, rfl, rfl⟩
  case waits =>
    refine ⟨_, (congrArg Host.Outcome.next ((bus_run _ hrun.2.2).trans ((wardenTake_takes hreq hroom rfl _).trans (if_pos harg)))).trans
      (congrArg Host.Outcome.next (modeRequest_waits (s := wardenTaken s) hnone hdorm ((requestResult_wardenTaken arg s).trans hresult))), ?_⟩
    exact ⟨rfl, rfl, rfl, wardenPop_c2h s, congrArg MbDir.words (wardenPop_h2c s), rfl⟩

end

section
/-! Frames that the part's own blocks send (12_switch.md R382 to R396; 13_twin_redundancy.md R399 to R404; 08_setpoint.md R291): a frame
through the switch, or on the Frauri link, leaves the part's mode, its time and its stop path. -/

namespace Sys2Proof.Machine

open Sys2Proof

section

variable {s t : State} (h : Calm s t)

include h

/-! ### Queues of the switch (R391, R396) -/

theorem calm_bumpPort (p ev : Nat) : Calm s (bumpPort p ev t) := calm_bump h ..

theorem calm_refuseCopy (k cause : Nat) : Calm s (refuseCopy k cause t) := calm_raise (calm_bump (calm_setQ h k _) ..) ..

theorem calm_countNoBuffer (p r : Nat) (f : QFrame) : Calm s (countNoBuffer p r f t) := .ite (calm_bump h ..) h

theorem calm_lowerSlack (p cost j : Nat) : Calm s (lowerSlack p cost t j) := .ite h (calm_setQ h _ _)

theorem calm_cutWire (p : Nat) : Calm s (cutWire p t) := by
  unfold cutWire
  split
  · exact .ite h (calm_bumpPort (calm_setQ (calm_setPort h p _) _ _) ..)
  · exact h

theorem calm_enqueue (p q c : Nat) (f : QFrame) : Calm s (enqueue p q c f t) := by
  obtain ⟨w, u, hu, he⟩ := enqueue_eq p q c f t
  have hover : Calm s (afterOvertaking p q c f t) := .foldl (fun _ _ hv => calm_lowerSlack hv ..) _ h
  have hplaced : Calm s u := by
    rw [hu]
    exact calm_bump (calm_withPause (calm_setQ (calm_setPort hover p _) _ _) fun _ hv => calm_swAbove hv _) ..
  rw [he]
  exact .ite (calm_cutWire hplaced p) hplaced

theorem calm_enqueueFrame (p q : Nat) (f : QFrame) : Calm s (enqueueFrame p q f t) :=
  .ite (calm_enqueue h ..) (calm_refuseCopy (calm_countNoBuffer h ..) ..)

theorem calm_useRefused : Calm s (useRefused t) := calm_raise (calm_bump h ..) ..

theorem calm_sendQuenchFrames (target rep qseq time : Nat) : Calm s (sendQuenchFrames target rep qseq time t) := by
  have hkey : Calm s (if t.radio.present ∧ (quenchKey t).isNone then useRefused t else t) := .ite (calm_useRefused h) h
  refine .foldl (fun u p hu => ?_) _ hkey
  split
  · exact .ite (calm_enqueueFrame hu ..) hu
  · exact hu

/-! ### Lookups and learning (R230 to R234, R384) -/

theorem calm_setInst (i : Inst) : Calm s (setInst i t) := h.other rfl rfl

theorem calm_learnOne (r : LearnReq) (i : Inst) : Calm s (learnOne r t i) :=
  .ite (calm_bumpLode h ..) (.ite (calm_raise (calm_bumpLode h ..) ..) (calm_setInst h _))

theorem calm_learn (r : LearnReq) : Calm s (learn r t) := .ite (.foldl (fun _ _ hu => calm_learnOne hu ..) _ h) h

theorem calm_settleOccLimit (m : Nat) : Calm s (settleOccLimit m t) :=
  .ite h (.thenIf (f := raise 0x06 4) (fun _ hu => calm_raise hu ..) (h.other rfl rfl))

theorem calm_excess (d : TableDesc) (pipe : Bool) (src : Nat) : Calm s (excess d pipe src t) := by
  unfold excess
  split
  · exact calm_bumpLode h ..
  · exact calm_bumpLode h ..
  · exact calm_settleOccLimit (calm_bumpLode h ..) _

theorem calm_countLookup (pipe miss : Bool) : Calm s (countLookup pipe miss t) :=
  .thenIf (f := bumpLode pipe 1) (fun _ hu => calm_bumpLode hu ..) (calm_bumpLode h ..)

theorem calm_sourceOne (f : InFrame) (k : LodeKey) (d : TableDesc) : Calm s (sourceOne f k d t).2 := by
  unfold sourceOne
  dsimp only
  split
  · exact calm_excess (calm_learn (calm_countLookup h ..) _) ..
  · exact calm_learn (calm_countLookup h ..) _

theorem calm_sourceLookup (f : InFrame) : Calm s (sourceLookup f t).2 := by
  unfold sourceLookup
  split
  · exact calm_sourceOne h ..
  · exact h

/-! ### Forwarding (R384, R396) -/

theorem calm_bridge (f : InFrame) : Calm s (bridge f t).2 := by
  unfold bridge
  dsimp only
  split
  · exact calm_countLookup h ..
  · split
    · exact calm_countLookup h ..
    · split
      · split
        · exact calm_bumpPort (calm_countLookup h ..) ..
        · exact calm_countLookup h ..
      · exact calm_countLookup h ..

theorem calm_routeHit (f : InFrame) (ofs : Nat) (v6 : Bool) (r : LodeResult) : Calm s (routeHit f ofs v6 r t).2 := by
  unfold routeHit
  split
  · split
    · exact calm_bumpPort h ..
    · split
      · exact calm_bumpPort h ..
      · exact h
  · exact calm_bumpPort h ..

theorem calm_route (f : InFrame) (ofs : Nat) (v6 : Bool) : Calm s (route f ofs v6 t).2 := by
  unfold route
  dsimp only
  split
  · exact calm_bumpPort (calm_countLookup h ..) ..
  · exact calm_routeHit (calm_countLookup h ..) ..

theorem calm_forward (f : InFrame) : Calm s (forward f t).2 := by
  have hsource : Calm s (if f.parse.acts.testBit 8 ∨ f.noLearn then (false, t) else sourceLookup f t).2 := by
    split
    · exact h
    · exact calm_sourceLookup h f
  unfold forward
  dsimp only
  generalize (if f.parse.acts.testBit 8 ∨ f.noLearn then (false, t) else sourceLookup f t) = r at hsource ⊢
  split
  · exact hsource
  · split
    · split
      · exact calm_route hsource ..
      · exact calm_bridge hsource f
    · exact calm_bridge hsource f

theorem calm_offerGo (f : InFrame) (l : List Copy) : Calm s (offerGo f l t).2 := by
  induction l generalizing t with
  | nil => exact h
  | cons c l ih => exact ih (calm_enqueueFrame h ..)

theorem calm_ingress (f : InFrame) : Calm s (ingress f t).2 := by
  unfold ingress
  split
  · exact calm_bumpPort h ..
  · split
    · exact calm_bumpPort h ..
    · exact calm_offerGo (calm_forward h _) ..

theorem calm_arrive (p : Nat) (bs : Bytes) (stamp : Option Nat) : Calm s (arrive p bs stamp t) := .ite (h.other rfl rfl) (calm_ingress h _)

theorem calm_injectFrame (p : Nat) (bs : Bytes) : Calm s (injectFrame p bs t) :=
  .ite (calm_arrive (calm_bumpBy (calm_bumpPort h ..) ..) ..) h

theorem calm_ethCodes (tick : Nat) : Calm s (ethCodes tick t) := by
  unfold ethCodes
  dsimp only
  split
  · exact h
  · exact calm_injectFrame (h.other (by rfl) (by rfl)) ..

/-! ### The Frauri link (R399 to R404) -/

theorem calm_sendFrame (k : FrKind) (payload : Bytes) : Calm s (sendFrame k payload t) := by
  unfold sendFrame
  dsimp only
  exact calm_bump (h.other (by rfl) (by rfl)) ..

theorem calm_sendBody (k : FrKind) (b : FrBody) : Calm s (sendBody k b t) :=
  .ite (calm_sendFrame h ..) (.foldl (fun _ _ hu => calm_sendFrame hu ..) _ h)

theorem calm_sendGroup (r : MirRecord) : Calm s (sendGroup r t) := .ite (calm_sendBody (calm_sendBody h ..) ..) h

theorem calm_sendSnapshot : Calm s (sendSnapshot t) := by
  have hrecords := Calm.foldl (f := fun s r => sendBody .snapshot (.record r) s) (fun _ _ hu => calm_sendBody hu ..) (snapshotRecords t) h
  unfold sendSnapshot
  dsimp only
  generalize List.foldl _ t _ = u at hrecords ⊢
  exact hrecords.other rfl rfl

theorem calm_sendAssay : Calm s (sendAssay t) := .ite h (calm_sendGroup (h.other (by rfl) (by rfl)) _)

theorem calm_noteHostq : Calm s (noteHostq t) := .ite h (h.other rfl rfl)

theorem calm_mirrorTick : Calm s (mirrorTick t) := by
  have hsnapshot : Calm s (if t.fr.snapSent then t else sendSnapshot t) := .ite h (calm_sendSnapshot h)
  unfold mirrorTick
  split
  · exact calm_sendBody (calm_noteHostq (calm_sendGroup (calm_sendAssay (calm_sendGroup (calm_sendGroup hsnapshot _) _)) _)) ..
  · exact .ite (calm_sendBody h ..) h

end

end Sys2Proof.Machine
end

section
/-! The profile tick (03_modes_power_reset.md R73, R78, R80, R81; 08_setpoint.md R290): the mode transition that is due, and the engine's
and the link's work after it, which leaves the mode. -/

namespace Sys2Proof.Machine

open Sys2Proof

/-! ### What the engine's work leaves (R281 to R301) -/

/-- Between two states the mode and what goes with it stand. -/
structure SysStands (s t : State) : Prop where
  sys_eq : t.sys = s.sys

namespace SysStands

variable {s t u : State}

theorem refl (s : State) : SysStands s s := ⟨rfl⟩

/-- A change of another part. -/
theorem other (h : SysStands s t) (hsys : u.sys = t.sys) : SysStands s u := ⟨hsys.trans h.sys_eq⟩

theorem calm (h : SysStands s t) (k : Calm t u) : SysStands s u := h.other k.sys_eq

theorem ite {p : Prop} [Decidable p] (ht : SysStands s t) (hu : SysStands s u) : SysStands s (if p then t else u) := by
  split
  · exact ht
  · exact hu

theorem foldl {α : Type} {f : State → α → State} (hf : ∀ t a, SysStands s t → SysStands s (f t a)) (l : List α) (h : SysStands s t) :
    SysStands s (l.foldl f t) := by
  induction l generalizing t with
  | nil => exact h
  | cons a l ih => exact ih (hf t a h)

end SysStands

section

variable {s t : State} (h : SysStands s t)

include h

theorem sysStands_setSp (m : Nat) (f : SpMach → SpMach) : SysStands s (setSp m f t) := h.other rfl

theorem sysStands_setChain (c : Nat) (f : Chain → Chain) : SysStands s (setChain c f t) := h.other rfl

theorem sysStands_bumpSetpt (ev : Nat) : SysStands s (bumpSetpt ev t) := h.other rfl

theorem sysStands_raise (b i : Nat) : SysStands s (raise b i t) := h.other (raise_sys ..)

theorem sysStands_unpair (m : Nat) : SysStands s (unpair m t) := by
  unfold unpair
  split
  · exact h
  · exact .ite (sysStands_setSp h ..) ((sysStands_setSp h m fun x => { x with gear := none }).other rfl)

theorem sysStands_queueMachAnneal (m : Nat) : SysStands s (queueMachAnneal m t) :=
  .foldl (fun _ _ hu => .ite (sysStands_setChain hu ..) hu) _ h

theorem sysStands_setCauses (m : Nat) (f : SpCauses → SpCauses) : SysStands s (setCauses m f t) := by
  have hset := sysStands_setSp h m fun x => { x with causes := f (spMach t m).causes }
  have hpair := SysStands.ite (p := (f (spMach t m).causes).any = true) (sysStands_unpair hset m) hset
  unfold setCauses
  dsimp only
  exact .ite hpair (sysStands_bumpSetpt (.ite hpair (sysStands_queueMachAnneal hpair m)) 0)

theorem sysStands_gearLost (m : Nat) : SysStands s (gearLost m t) :=
  sysStands_raise (sysStands_bumpSetpt (sysStands_setCauses (sysStands_unpair h m) ..) _) ..

theorem sysStands_queueMachQuench (m qseq : Nat) : SysStands s (queueMachQuench m qseq t) :=
  .foldl (fun _ _ hu => .ite (sysStands_setChain hu ..) hu) _ h

theorem sysStands_machineQuench (m : Nat) : SysStands s (machineQuench m t) := by
  unfold machineQuench
  dsimp only
  refine (sysStands_queueMachQuench (sysStands_raise ?_ ..) ..).calm (calm_sendQuenchFrames (.refl _) ..)
  exact h.other rfl

theorem sysStands_setptQuench (m : Nat) : SysStands s (setptQuench m t) :=
  sysStands_machineQuench (sysStands_raise (sysStands_bumpSetpt h _) ..) m

theorem sysStands_planGeared (m : Nat) (x : SpLimits) (c : SpClass) (p : Path) (tick free : Nat) (g : Gear) :
    SysStands s (planGeared m x c p tick free g t) := by
  unfold planGeared
  dsimp only
  split
  · exact sysStands_setSp h ..
  · split
    · exact sysStands_setSp (sysStands_gearLost h m) ..
    · exact sysStands_setSp (.ite (sysStands_raise h ..) h) ..

theorem sysStands_askExtend (m : Nat) (d : Option Nat) : SysStands s (askExtend m d t) := by
  unfold askExtend
  split
  · exact h
  · exact .ite (sysStands_setptQuench (sysStands_bumpSetpt h _) m) ((sysStands_bumpSetpt h 3).other rfl)

/-- R299: a machine that is to stop short, or cannot, is told of it. -/
theorem sysStands_overrunTold (m : Nat) (newly late : Bool) :
    SysStands s (if late then setCauses m (fun q => { q with overrun := true })
      (setSp m (fun q => { q with causes := { q.causes with overrun := false } }) (if newly then raise bSETPT 1 (bumpSetpt 2 t) else t))
      else if newly then raise bSETPT 1 (bumpSetpt 2 t) else t) := by
  have hnewly : SysStands s (if newly then raise bSETPT 1 (bumpSetpt 2 t) else t) := .ite (sysStands_raise (sysStands_bumpSetpt h _) ..) h
  exact .ite (sysStands_setCauses (sysStands_setSp hnewly ..) ..) hnewly

theorem sysStands_planOn (m : Nat) (c : SpClass) (l : List Allot) (tick free : Nat) : SysStands s (planOn m c l tick free t) := by
  unfold planOn
  dsimp only
  refine sysStands_setSp ?_ ..
  split
  · exact sysStands_planGeared (sysStands_askExtend (sysStands_overrunTold (sysStands_setSp h ..) ..) ..) ..
  · exact sysStands_setSp (sysStands_askExtend (sysStands_overrunTold (sysStands_setSp h ..) ..) ..) ..

theorem sysStands_planOff (m : Nat) (c : SpClass) : SysStands s (planOff m c t) := by
  unfold planOff
  exact sysStands_setSp (.ite (sysStands_setCauses h ..) h) ..

theorem sysStands_noteStill (m : Nat) : SysStands s (noteStill m t) := by
  unfold noteStill
  dsimp only
  generalize hu : setSp m _ t = u
  have hset : SysStands s u := hu ▸ sysStands_setSp h m _
  have hbump : SysStands s (if stillNow t (spMach t m) = true ∧ ¬ (spMach t m).still = true then bumpSetpt 1 u else u) :=
    .ite (sysStands_bumpSetpt hset _) hset
  exact .ite (hbump.other rfl) hbump

theorem sysStands_planMach (tick m : Nat) : SysStands s (planMach tick t m) := by
  unfold planMach
  split
  · dsimp only
    refine sysStands_setSp (sysStands_noteStill ?_ m) ..
    have hcauses := sysStands_setCauses h m (gridCauses t m)
    generalize setCauses m (gridCauses t m) t = u at hcauses ⊢
    have hgear : SysStands s (match (spMach u m).gear with
      | some g => if reservedChain u g.master = [] ∨ (spClassOf u g.master).isNone then gearLost m u else u
      | none => u) := by
      split
      · exact .ite (sysStands_gearLost hcauses m) hcauses
      · exact hcauses
    exact .ite (sysStands_planOff hgear ..) (sysStands_planOn hgear ..)
  · exact sysStands_setSp h ..

theorem sysStands_followMach (tick m : Nat) : SysStands s (followMach tick t m) := by
  unfold followMach
  split
  · exact sysStands_noteStill (sysStands_setSp (sysStands_setCauses h ..) ..) m
  · exact sysStands_setSp h ..

theorem sysStands_planTick (tick : Nat) : SysStands s (planTick tick t) := by
  have hplan := SysStands.foldl (fun _ m hu => sysStands_planMach hu tick m) (List.range 128) h
  have hfollow := SysStands.foldl (fun _ m hu => sysStands_followMach hu tick m) (List.range 128) h
  have hdrive : ∀ u, SysStands s u → SysStands s (ethCodes tick (driveOutputs { u with
      fresh := u.fresh + 129, setpt := { u.setpt with maxPlanUs := max u.setpt.maxPlanUs (Config.freeNat (u.fresh + 128) % 351) } })) :=
    fun u hu => by
      refine SysStands.calm ?_ (calm_ethCodes (.refl _) tick)
      exact hu.other (driveOutputs_sys _)
  unfold planTick
  split
  · exact hdrive _ hplan
  · exact hdrive _ hplan
  · exact hdrive _ hplan
  · exact hfollow.calm (calm_ethCodes (.refl _) tick)
  · exact hfollow.calm (calm_ethCodes (.refl _) tick)
  · exact hfollow.calm (calm_ethCodes (.refl _) tick)
  · exact h

end

end Sys2Proof.Machine
end

section
/-! The transition at the profile tick (03_modes_power_reset.md R73, R78, R81). -/

namespace Sys2Proof.Machine

open Sys2Proof

/-! ### The state at the tick (R106, R290) -/

/-- What of a state the transitions read that time does not change. -/
structure TickView where
  mainAbsent : Bool
  mainGood : Bool
  pValid : Bool
  aValid : Bool
  selA : Bool
  nextProf : Nat

/-- The view of a state. -/
def tickView (s : State) : TickView where
  mainAbsent := mainAbsent s
  mainGood := s.aon.mainGood
  pValid := s.time.p.valid
  aValid := s.time.a.valid
  selA := s.time.selA
  nextProf := s.time.nextProf

theorem tickView_advance (d : Nat) (s : State) : tickView (advance d s) = tickView s := by
  unfold advance tickView mainAbsent
  dsimp only
  split
  · rfl
  · rfl

section

variable (s : State)

theorem tickView_mainAbsent : (tickView s).mainAbsent = mainAbsent s := rfl

theorem tickView_mainGood : (tickView s).mainGood = s.aon.mainGood := rfl

theorem tickView_pValid : (tickView s).pValid = s.time.p.valid := rfl

theorem tickView_aValid : (tickView s).aValid = s.time.a.valid := rfl

theorem tickView_selA : (tickView s).selA = s.time.selA := rfl

theorem tickView_nextProf : (tickView s).nextProf = s.time.nextProf := rfl

end

/-- The next profile tick named. -/
def withNextProf (n : Nat) (s : State) : State := { s with time.nextProf := n }

theorem withNextProf_sys (n : Nat) (s : State) : (withNextProf n s).sys = s.sys := rfl

theorem withNextProf_quench (n : Nat) (s : State) : (withNextProf n s).quench = s.quench := rfl

theorem withNextProf_view (n : Nat) (s : State) : tickView (withNextProf n s) = { tickView s with nextProf := n } := rfl

/-- The state at the tick, before its transition. -/
def atTick (s : State) : State := withNextProf ((advanceTo (nextTick s) s).time.nextProf + 1) (advanceTo (nextTick s) s)

theorem atTick_sys (s : State) : (atTick s).sys = s.sys := by rw [atTick, withNextProf_sys, advanceTo_sys]

theorem atTick_latched (s : State) : latched (atTick s) = latched s :=
  latched_congr (latchCopies_congr (by rw [atTick, withNextProf_quench, advanceTo_quench]))

theorem atTick_view (s : State) : tickView (atTick s) = { tickView s with nextProf := s.time.nextProf + 1 } := by
  have hview := advanceTo_keep tickView tickView_advance (nextTick s) s
  rw [atTick, withNextProf_view, ← tickView_nextProf (advanceTo (nextTick s) s), hview, tickView_nextProf]

theorem atTick_mainAbsent (s : State) : mainAbsent (atTick s) = mainAbsent s := by
  rw [← tickView_mainAbsent (atTick s), atTick_view, ← tickView_mainAbsent s]

theorem atTick_mainGood (s : State) : (atTick s).aon.mainGood = s.aon.mainGood := by
  rw [← tickView_mainGood (atTick s), atTick_view, ← tickView_mainGood s]

theorem atTick_pValid (s : State) : (atTick s).time.p.valid = s.time.p.valid := by
  rw [← tickView_pValid (atTick s), atTick_view, ← tickView_pValid s]

theorem atTick_aValid (s : State) : (atTick s).time.a.valid = s.time.a.valid := by
  rw [← tickView_aValid (atTick s), atTick_view, ← tickView_aValid s]

theorem atTick_nextProf (s : State) : (atTick s).time.nextProf = s.time.nextProf + 1 := by
  rw [← tickView_nextProf (atTick s), atTick_view]

theorem timeValid_eq (s : State) : timeValid s = if s.time.selA then s.time.a.valid else s.time.p.valid := by
  rw [timeValid, TimeB.sel]
  exact apply_ite Domain.valid ..

theorem atTick_timeValid (s : State) : timeValid (atTick s) = timeValid s := by
  have hsel : (atTick s).time.selA = s.time.selA := by rw [← tickView_selA (atTick s), atTick_view, ← tickView_selA s]
  rw [timeValid_eq, timeValid_eq, hsel, atTick_aValid, atTick_pValid]

/-! ### The work after the transition (R80, R290, R403) -/

/-- What a tick does after its transition. -/
def tickWork (tick : Nat) (s : State) : State :=
  mirrorTick { annealDoneTick (if underTest s .setpt then s else planTick tick s) with setpt.orders := [] }

theorem exec_profileTick {s : State} (hrun : Running s) :
    exec .profileTick s = .next (tickWork (nextTick (advanceTo (nextTick s) s)) (modeTick (atTick s))) :=
  congrArg Host.Outcome.next (bus_run _ hrun.2.2)

theorem annealDoneTick_other {s : State} (h : s.sys.mode ≠ .anneal) : annealDoneTick s = s := if_neg fun hm => h hm.1

theorem annealDoneTick_leaves (s : State) : (annealDoneTick s).sys.mode = s.sys.mode ∧ (annealDoneTick s).sys.prev = s.sys.prev ∧
    (annealDoneTick s).sys.cause = s.sys.cause := by
  unfold annealDoneTick
  split
  · rw [driveOutputs_sys]
    exact ⟨rfl, rfl, rfl⟩
  · exact ⟨rfl, rfl, rfl⟩

theorem plan_sys (tick : Nat) (s : State) : (if underTest s .setpt then s else planTick tick s).sys = s.sys :=
  (SysStands.ite (.refl s) (sysStands_planTick (.refl s) tick)).sys_eq

/-- The work after the transition leaves the mode, where it came from and its cause. -/
theorem tickWork_mode (tick : Nat) (s : State) : (tickWork tick s).sys.mode = s.sys.mode ∧ (tickWork tick s).sys.prev = s.sys.prev ∧
    (tickWork tick s).sys.cause = s.sys.cause := by
  have hplan := plan_sys tick s
  unfold tickWork
  generalize (if underTest s .setpt then s else planTick tick s) = u at hplan ⊢
  obtain ⟨hmode, hprev, hcause⟩ := annealDoneTick_leaves u
  rw [hplan] at hmode hprev hcause
  generalize annealDoneTick u = v at hmode hprev hcause ⊢
  rw [(calm_mirrorTick (.refl { v with setpt := { v.setpt with orders := [] } })).sys_eq]
  exact ⟨hmode, hprev, hcause⟩

/-- Outside ANNEAL it leaves all that goes with the mode. -/
theorem tickWork_sys (tick : Nat) {s : State} (h : s.sys.mode ≠ .anneal) : (tickWork tick s).sys = s.sys := by
  have hplan := plan_sys tick s
  unfold tickWork
  generalize (if underTest s .setpt then s else planTick tick s) = u at hplan ⊢
  rw [annealDoneTick_other (by rwa [hplan]), (calm_mirrorTick (.refl { u with setpt := { u.setpt with orders := [] } })).sys_eq]
  exact hplan

/-- In YIELDED neither the engine nor a transition does anything. -/
theorem tickWork_yielded (tick : Nat) {s : State} (h : s.sys.mode = .yielded) : (tickWork tick s).time = s.time := by
  have hplan : (if underTest s .setpt then s else planTick tick s) = s := by
    rw [planTick, h]
    exact ite_self s
  unfold tickWork
  rw [hplan, annealDoneTick_other (by rw [h]; decide)]
  exact (calm_mirrorTick (.refl { s with setpt := { s.setpt with orders := [] } })).time_eq

/-! ### The transition of a tick (R78, R81) -/

theorem reqFor_none {s : State} (h : s.sys.req = none) (m : Mode) : reqFor s m = none := by rw [reqFor, h]

section

variable {s : State} (hreq : s.sys.req = none)

/-- The modes without permits that go to RESERVE. -/
theorem modeTick_reserve (habsent : mainAbsent s = true)
    (hm : s.sys.mode = .survey ∨ s.sys.mode = .quenched ∨ s.sys.mode = .maintenance ∨ s.sys.mode = .servitor) :
    modeTick s = toMode .reserve .mainLost 0 s := by
  obtain hm | hm | hm | hm := hm <;> simp only [modeTick, hm, tickSurvey, tickOther, habsent, if_true]

include hreq

/-- FIELD and HOLDOVER go to ANNEAL. -/
theorem modeTick_anneal (habsent : mainAbsent s = true) (hm : s.sys.mode = .field ∨ s.sys.mode = .holdover) :
    modeTick s = toMode .anneal .mainLost 0 s := by
  have hcause : annealCause s = some (.mainLost, 0) := if_pos habsent
  have hstart : startAnneal .mainLost 0 s = toMode .anneal .mainLost 0 s := by
    rw [startAnneal, reqFor_none hreq]
    rfl
  obtain hm | hm := hm
  · simp only [modeTick, hm, tickField, hcause, hstart]
  · simp only [modeTick, hm, tickHoldover, hcause, hstart]

variable (hpresent : mainAbsent s = false)

include hpresent

theorem annealCause_none (hthermal : s.sys.thermalReq = false) : annealCause s = none := by
  simp [annealCause, hpresent, hthermal, reqFor_none hreq]

theorem modeTick_field (hthermal : s.sys.thermalReq = false) (hm : s.sys.mode = .field) :
    modeTick s = if ¬ s.time.p.valid ∧ ¬ s.time.a.valid then toMode .holdover .timeLost srcSelf s else s := by
  simp only [modeTick, hm, tickField, annealCause_none hreq hpresent hthermal]

theorem modeTick_holdover (hthermal : s.sys.thermalReq = false) (hm : s.sys.mode = .holdover) (hvalid : timeValid s = true) :
    modeTick s = toMode .field .timeRegained srcSelf s := by
  simp only [modeTick, hm, tickHoldover, annealCause_none hreq hpresent hthermal, hvalid, if_true]

theorem modeTick_quenched (hm : s.sys.mode = .quenched) :
    modeTick s = if s.sys.released ∧ ¬ latched s then toMode .survey .release 1 s else s := by
  simp only [modeTick, hm, tickOther, hpresent, reqFor_none hreq, Bool.false_eq_true, if_false]

omit hreq hpresent in
theorem modeTick_leaveReserve (hgood : s.aon.mainGood = true) (hm : s.sys.mode = .reserve) :
    modeTick s = toMode (surveyOr s) .mainReturned 0 s := by
  simp only [modeTick, hm, tickOther, hgood, if_true]

omit hreq hpresent in
theorem modeTick_yielded (hm : s.sys.mode = .yielded) : modeTick s = s := by
  simp only [modeTick, hm, tickOther]

end

theorem surveyOr_ne (s : State) : surveyOr s ≠ .anneal ∧ surveyOr s ≠ .reserve := by
  unfold surveyOr
  split
  · decide
  · decide

/-- No load is shed on the way out of RESERVE. -/
theorem shedAfter_leaving {m : Mode} (h : m ≠ .reserve) (b : Bool) : shedAfter .reserve m b = false := by simp [shedAfter, h]

/-- A transition at the tick stands at its end. -/
theorem toMode_tickWork (tick : Nat) (m : Mode) (cause : ModeCause) (rank : Nat) (s : State) :
    (tickWork tick (toMode m cause rank s)).sys.mode = m ∧ (tickWork tick (toMode m cause rank s)).sys.prev = s.sys.mode ∧
    (tickWork tick (toMode m cause rank s)).sys.cause = cause ∧
    (m ≠ .anneal → (tickWork tick (toMode m cause rank s)).sys.shed = shedAfter s.sys.mode m s.sys.shed) := by
  have hmoved := modeStands_toMode m cause rank s
  generalize toMode m cause rank s = u at hmoved ⊢
  obtain ⟨hmode, hprev, hcause⟩ := tickWork_mode tick u
  have hm : u.sys.mode = m := hmoved.mode_eq
  exact ⟨hmode.trans hm, hprev.trans hmoved.prev_eq, hcause.trans hmoved.cause_eq,
    fun h => (congrArg Sys.shed (tickWork_sys tick (hm ▸ h))).trans hmoved.shed_eq⟩

end Sys2Proof.Machine

open Sys2Proof Sys2Proof.Machine

/-- Settles O17: the transition is `modeTick`'s on the state at the tick, and the work after it leaves the mode. -/
theorem modeAtTheProfileTick : Obligations.ModeAtTheProfileTick := by
  have hreq {s : State} (h : s.sys.req = none) : (atTick s).sys.req = none := by rwa [atTick_sys]
  have hmode {s : State} {m : Mode} (h : s.sys.mode = m) : (atTick s).sys.mode = m := by rwa [atTick_sys]
  -- what the statement asks of the state after a tick whose transition is known
  have hmoves {s : State} {m : Mode} {cause : ModeCause} {rank : Nat} {P : State → Prop} (hrun : Running s)
      (htick : modeTick (atTick s) = toMode m cause rank (atTick s))
      (hP : ∀ tick, P (tickWork tick (toMode m cause rank (atTick s)))) : After .profileTick s P :=
    ⟨_, exec_profileTick hrun, by rw [htick]; exact hP _⟩
  have hstays {s : State} {P : State → Prop} (hrun : Running s) (htick : modeTick (atTick s) = atTick s)
      (hP : ∀ tick, P (tickWork tick (atTick s))) : After .profileTick s P :=
    ⟨_, exec_profileTick hrun, by rw [htick]; exact hP _⟩
  refine ⟨fun s hrun hnone habsent => ⟨fun hm => ?_, fun hm => ?_⟩, fun s hrun hnone hpresent hthermal =>
    ⟨fun hm hp ha => ?_, fun hm hvalid => ?_, fun hm hvalid => ?_, fun hm hl => ?_, fun hm hr => ?_, fun hm hr hl => ?_, fun hm => ?_, fun hm => ?_⟩⟩
  · refine hmoves hrun (modeTick_reserve ((atTick_mainAbsent s).trans habsent) (by rwa [atTick_sys])) fun tick => ?_
    obtain ⟨hto, hfrom, hcause, hshed⟩ := toMode_tickWork tick .reserve .mainLost 0 (atTick s)
    rw [atTick_sys] at hfrom
    exact ⟨hto, hfrom, hcause, (hshed (by decide)).trans (Bool.or_true _)⟩
  · refine hmoves hrun (modeTick_anneal (hreq hnone) ((atTick_mainAbsent s).trans habsent) (by rwa [atTick_sys])) fun tick => ?_
    obtain ⟨hto, hfrom, hcause, -⟩ := toMode_tickWork tick .anneal .mainLost 0 (atTick s)
    rw [atTick_sys] at hfrom
    exact ⟨hto, hfrom, hcause⟩
  · refine hmoves hrun ((modeTick_field (hreq hnone) ((atTick_mainAbsent s).trans hpresent) (by rwa [atTick_sys]) (hmode hm)).trans
      (if_pos (by simp [atTick_pValid, atTick_aValid, hp, ha]))) fun tick => ?_
    obtain ⟨hto, hfrom, hcause, -⟩ := toMode_tickWork tick .holdover .timeLost srcSelf (atTick s)
    exact ⟨hto, hfrom.trans (hmode hm), hcause⟩
  · refine hstays hrun ((modeTick_field (hreq hnone) ((atTick_mainAbsent s).trans hpresent) (by rwa [atTick_sys]) (hmode hm)).trans
      (if_neg (by rw [atTick_pValid, atTick_aValid]; tauto))) fun tick => ?_
    exact (tickWork_mode tick _).1.trans (hmode hm)
  · refine hmoves hrun (modeTick_holdover (hreq hnone) ((atTick_mainAbsent s).trans hpresent) (by rwa [atTick_sys]) (hmode hm)
      ((atTick_timeValid s).trans hvalid)) fun tick => ?_
    obtain ⟨hto, -, hcause, -⟩ := toMode_tickWork tick .field .timeRegained srcSelf (atTick s)
    exact ⟨hto, hcause⟩
  · refine hstays hrun ((modeTick_quenched (hreq hnone) ((atTick_mainAbsent s).trans hpresent) (hmode hm)).trans
      (if_neg (by simp [atTick_latched, hl]))) fun tick => ?_
    exact (tickWork_sys tick (by rw [hmode hm]; decide)).trans (atTick_sys s)
  · refine hstays hrun ((modeTick_quenched (hreq hnone) ((atTick_mainAbsent s).trans hpresent) (hmode hm)).trans
      (if_neg (by simp [atTick_sys, hr]))) fun tick => ?_
    exact (tickWork_sys tick (by rw [hmode hm]; decide)).trans (atTick_sys s)
  · refine hmoves hrun ((modeTick_quenched (hreq hnone) ((atTick_mainAbsent s).trans hpresent) (hmode hm)).trans
      (if_pos (by simp [atTick_sys, atTick_latched, hr, hl]))) fun tick => ?_
    obtain ⟨hto, -, hcause, -⟩ := toMode_tickWork tick .survey .release 1 (atTick s)
    exact ⟨hto, hcause⟩
  · have hgood : s.aon.mainGood = true := by
      rw [mainAbsent, Bool.or_eq_false_iff, Bool.not_eq_false'] at hpresent
      exact hpresent.2
    refine hmoves hrun (modeTick_leaveReserve ((atTick_mainGood s).trans hgood) (hmode hm)) fun tick => ?_
    obtain ⟨hto, -, hcause, hshed⟩ := toMode_tickWork tick (surveyOr (atTick s)) .mainReturned 0 (atTick s)
    obtain ⟨hanneal, hreserve⟩ := surveyOr_ne (atTick s)
    have hsurvey : surveyOr (atTick s) = if latched s then .quenched else .survey := by rw [surveyOr, atTick_latched]
    have hrestored : shedAfter (atTick s).sys.mode (surveyOr (atTick s)) (atTick s).sys.shed = false := by
      rw [hmode hm, shedAfter_leaving hreserve]
    exact ⟨hto.trans hsurvey, hcause, (hshed hanneal).trans hrestored⟩
  · refine hstays hrun (modeTick_yielded (hmode hm)) fun tick => ⟨?_, ?_⟩
    · exact (tickWork_sys tick (by rw [hmode hm]; decide)).trans (atTick_sys s)
    · rw [tickWork_yielded tick (hmode hm), atTick_nextProf]

end


section
/-! Output pins and the JTAG port (10_field_radio.md R343; 20_pins_electrical.md R560, R561, R573, R574): what a front-end pin shows, and
what the test logic leaves. -/

namespace Sys2Proof.Machine

open Sys2Proof

/-! ### Front-end pins and REF10_OUT (R128, R343, R561) -/

theorem levelOfBit_eq_high {b : Bool} : levelOfBit b = .high ↔ b = true := by cases b <;> simp [levelOfBit]

theorem femPin_held {s : State} (h : s.aon.mainRun = false) (asserted activeLow : Bool) : femPin s asserted activeLow = .floatLow := by
  simp [femPin, h]

theorem femPin_eq_high {s : State} (h : s.aon.mainRun = true) (asserted activeLow : Bool) :
    femPin s asserted activeLow = .high ↔ asserted ≠ activeLow := by
  rw [femPin, if_pos h, levelOfBit_eq_high, bne_iff_ne]

theorem lnaOn_of_paOn {s : State} {c : Nat} (h : paOn s c = true) : lnaOn s c = false := by simp [lnaOn, h]

theorem ref10Pin_eq_clock (s : State) :
    ref10Pin s = .clock ↔ s.aon.mainRun = true ∧ regBit s 0x020000 4 = true ∧ s.aon.refPresent = true := by
  unfold ref10Pin
  split
  · next h => exact iff_of_true rfl h
  · next h => exact iff_of_false (by decide) h

/-! ### The test logic (R573) -/

/-- The state with its test logic replaced. -/
def withTap (x : Tap) (s : State) : State := { s with ioctl.tap := x }

/-- No block's own level depends on the test logic. -/
theorem ownLevel_withTap (x : Tap) (s : State) (p : OutPin) : ownLevel (withTap x s) p = ownLevel s p := by cases p <;> rfl

theorem tapSelect_eq (i : TapInstr) (s : State) : tapSelect i s = withTap { s.ioctl.tap with instr := i } s := rfl

theorem tapUpdate_eq (l : List (OutPin × PinLevel)) (s : State) : ∃ x, tapUpdate l s = withTap x s := by
  unfold tapUpdate
  split
  · exact ⟨_, rfl⟩
  · exact ⟨_, rfl⟩
  · exact ⟨s.ioctl.tap, rfl⟩

/-- A pin outside the boundary scan stays under its own block. -/
theorem pinLevel_unscanned (s : State) {p : OutPin} (h : scannable p = false) : pinLevel s p = ownLevel s p := by
  rw [pinLevel, if_pos (by simp [h])]

/-- The boundary cells that an update loads. -/
def cellsOf (l : List (OutPin × PinLevel)) : List (OutPin × PinLevel) := l.filter (fun x => scannable x.1)

theorem tapUpdate_cells {i : TapInstr} (hi : i = .sample ∨ i = .extest) (l : List (OutPin × PinLevel)) (s : State) :
    tapUpdate l (tapSelect i s) = withTap { instr := i, cells := cellsOf l } s := by
  obtain rfl | rfl := hi
  · rfl
  · rfl

theorem not_mem_cellsOf {p : OutPin} (h : scannable p = false) (l : List (OutPin × PinLevel)) (x : PinLevel) : (p, x) ∉ cellsOf l :=
  fun hmem => by simp [cellsOf, h] at hmem

/-- A scanned pin under the boundary cells shows the first level that they hold for it. -/
theorem pinLevel_driven (s : State) {i : TapInstr} (hi : i = .extest ∨ i = .clamp) {p : OutPin} (h : scannable p = true) (x : PinLevel)
    (l : List (OutPin × PinLevel)) : pinLevel (withTap { instr := i, cells := cellsOf ((p, x) :: l) } s) p = x := by
  have hfind : (cellsOf ((p, x) :: l)).find? (fun y => y.1 == p) = some (p, x) := by simp [cellsOf, h]
  rw [pinLevel, if_neg (by simp [h])]
  obtain rfl | rfl := hi <;> simp [withTap, hfind]

theorem pinLevel_highz (s : State) {p : OutPin} (h : scannable p = true) : pinLevel (tapSelect .highz s) p = .floating := by
  simp [pinLevel, h, tapSelect]

/-- BYPASS, SAMPLE and IDCODE leave every pin under its own block. -/
theorem pinLevel_unmoved (s : State) {i : TapInstr} (hi : i = .bypass ∨ i = .sample ∨ i = .idcode) (p : OutPin) :
    pinLevel (tapSelect i s) p = ownLevel (tapSelect i s) p := by
  obtain rfl | rfl | rfl := hi <;> simp [pinLevel, tapSelect]

/-! ### The scan chain (R574) -/

theorem debugModule_mem_scanChain (s : State) :
    ScanDevice.debugModule ∈ scanChain s ↔ s.geode.fuses.life = .factory ∨ s.geode.fuses.life = .owned := by
  have hreach : debugReachable s = true ↔ s.geode.fuses.life = .factory ∨ s.geode.fuses.life = .owned := by simp [debugReachable]
  rw [← hreach, scanChain]
  split
  · next h => simp [h]
  · next h => simp [h]

end Sys2Proof.Machine

open Sys2Proof Sys2Proof.Machine

/-- Settles O60: a pin's level is its block's own, which reads no test logic, and the boundary cells hold no pin outside the chain. -/
theorem pinsAndScanChain : Obligations.PinsAndScanChain := by
  refine ⟨fun s c hrun => ⟨femPin_held hrun .., femPin_held hrun .., femPin_held hrun ..⟩,
    fun s c hrun => ⟨femPin_eq_high hrun .., femPin_eq_high hrun .., lnaOn_of_paOn⟩, ref10Pin_eq_clock, fun s i l t ht => ?_,
    fun s p l hp => ⟨pinLevel_highz s hp, fun i hi => pinLevel_unmoved s hi p, fun x => ⟨?_, ?_⟩⟩,
    fun s l => ⟨rfl, rfl, debugModule_mem_scanChain s⟩⟩
  · obtain ⟨x, rfl⟩ : ∃ x, t = withTap x s := by
      simp only [List.mem_cons, List.not_mem_nil, or_false] at ht
      obtain rfl | rfl | rfl := ht
      · exact ⟨_, tapSelect_eq i s⟩
      · exact tapUpdate_eq l s
      · exact tapUpdate_eq l (tapSelect i s)
    have houtside : ∀ p ∈ [OutPin.quenchOut 0, .quenchOut 1, .quenchOut 2, .permitOut, .claimO], scannable p = false := by decide
    refine ⟨rfl, fun p hp => ⟨?_, fun x => ?_⟩⟩
    · rw [pinLevel_unscanned _ (houtside p hp), ownLevel_withTap]
    · rw [tapUpdate_cells (.inr rfl)]
      exact not_mem_cellsOf (houtside p hp) l x
  · rw [tapUpdate_cells (.inr rfl)]
    exact pinLevel_driven s (.inl rfl) hp x l
  · rw [tapUpdate_cells (.inl rfl)]
    exact pinLevel_driven s (.inr rfl) hp x l

end

section

open Sys2Proof Sys2Proof.Machine

/-- Settles O1: `step` takes the command at the front, and on an empty queue time passes. -/
theorem stepRunsTheFrontCommand : Obligations.StepRunsTheFrontCommand :=
  ⟨fun _ _ _ => rfl, fun s hempty => by rw [step, hempty]⟩

end

section
/-! Compares, PPS_OUT and the capture FIFOs (04_timebase.md R120 to R130): what a compare's registers hold after a write and after it has
fired, and what a wait leaves of the timebase. -/

namespace Sys2Proof.Machine

open Sys2Proof

/-! ### Passing time (R106) -/

theorem advanceGo_clk_le (target n : Nat) (s : State) : s.clk ≤ (advanceGo target n s).clk := by
  induction n generalizing s with
  | zero => rw [advanceGo]
  | succ n ih =>
    rw [advanceGo]
    split
    · exact le_rfl
    · exact le_trans (Nat.le_add_right s.clk _) (ih (advance _ s))

theorem advanceTo_clk_le (target : Nat) (s : State) : s.clk ≤ (advanceTo target s).clk := advanceGo_clk_le ..

/-- A moment of served time that is reached already costs no wait. -/
theorem advanceTo_reached {target : Nat} {s : State} (h : target ≤ now s) : advanceTo target s = s := by
  rw [advanceTo, Nat.sub_eq_zero_of_le h, advanceGo]

theorem regBit_congr {s t : State} (h : t.regs = s.regs) (off i : Nat) : regBit t off i = regBit s off i := by
  rw [regBit, regWord, h, regBit, regWord]

theorem regFld_congr {s t : State} (h : t.regs = s.regs) (off hi lo : Nat) : regFld t off hi lo = regFld s off hi lo := by
  rw [regFld, regWord, h, regFld, regWord]

/-- What PPS_OUT reads of the timebase. -/
structure PpsView where
  next : Nat
  high : Bool
  lastStep : Option Nat

/-- The view of a state. -/
def ppsView (s : State) : PpsView := { next := s.time.ppsNext, high := s.time.ppsHigh, lastStep := s.time.lastStep }

theorem ppsView_advance (d : Nat) (s : State) : ppsView (advance d s) = ppsView s := by
  unfold advance ppsView
  dsimp only
  split
  · rfl
  · rfl

theorem ppsView_advanceTo (target : Nat) (s : State) : ppsView (advanceTo target s) = ppsView s :=
  advanceTo_keep ppsView ppsView_advance target s

theorem advanceTo_ppsNext (target : Nat) (s : State) : (advanceTo target s).time.ppsNext = s.time.ppsNext :=
  congrArg PpsView.next (ppsView_advanceTo target s)

theorem advanceTo_ppsHigh (target : Nat) (s : State) : (advanceTo target s).time.ppsHigh = s.time.ppsHigh :=
  congrArg PpsView.high (ppsView_advanceTo target s)

theorem advanceTo_lastStep (target : Nat) (s : State) : (advanceTo target s).time.lastStep = s.time.lastStep :=
  congrArg PpsView.lastStep (ppsView_advanceTo target s)

/-! ### A compare's registers (R120, R121) -/

section

variable (s : State) (n : Fin 4)

/-- The row of the four TIME_CMPn_HI: TARGET and ARM free, FIRED cleared by a write of 1. -/
def cmpRow : RegRow := { base := 0x0200A4, stride := 8, count := 4, rw := 0x8000FFFF, w1c := 0x40000000 }

theorem regRow_cmpHi : regRow (0x0200A4 + 8 * n.val) = some cmpRow := by
  revert n
  decide

theorem regWrite_cmpHi (hi : Word) : regWrite (0x0200A4 + 8 * n.val) hi s =
    setReg (0x0200A4 + 8 * n.val) (writtenWord cmpRow (locked s (0x0200A4 + 8 * n.val)) (regWord s (0x0200A4 + 8 * n.val)) hi) s := by
  have hheld (old w : Word) : heldWord (0x0200A4 + 8 * n.val) old w = w := by
    rw [heldWord, if_neg (by omega), if_neg (by omega), if_neg (by omega), if_neg (by omega)]
  rw [regWrite, regRow_cmpHi]
  exact congrArg (setReg _ · s) (hheld ..)

/-- A write of TIME_CMPn_HI leaves its TARGET and ARM bits as written. -/
theorem writtenWord_cmpRow_bit (lock : Bool) (old new : Word) {i : Nat} (hi : i < 16 ∨ i = 31) :
    (writtenWord cmpRow lock old new).getLsbD i = new.getLsbD i := by
  have hcodes : ∀ i : Fin 32, i.val < 16 ∨ i.val = 31 →
      (0x8000FFFF).testBit i.val = true ∧ (0x40000000).testBit i.val = false := by decide
  obtain ⟨hrw, hw1c⟩ := hcodes ⟨i, by omega⟩ hi
  rw [writtenWord_bit _ _ _ _ (by omega)]
  simp [freeBit, cmpRow, hrw, hw1c]

theorem fld_low16_congr {v w : Word} (h : ∀ i, i < 16 → v.getLsbD i = w.getLsbD i) : fld v 15 0 = w.toNat % 2 ^ 16 := by
  have htrunc : v.truncate 16 = w.truncate 16 := BitVec.eq_of_getLsbD_eq fun i hi => by
    rw [BitVec.truncate_eq_setWidth, BitVec.truncate_eq_setWidth, BitVec.getLsbD_setWidth, BitVec.getLsbD_setWidth, h i hi]
  simpa [fld, bitsOf] using congrArg BitVec.toNat htrunc

theorem cmpArmed_regWrite (hi : Word) : cmpArmed (regWrite (0x0200A4 + 8 * n.val) hi s) n = hi.getLsbD 31 := by
  rw [regWrite_cmpHi, cmpArmed, regBit_eq_getLsbD, regWord_setReg_same, writtenWord_cmpRow_bit _ _ _ (.inr rfl)]

theorem cmpTarget_regWrite (hi : Word) : cmpTarget (regWrite (0x0200A4 + 8 * n.val) hi s) n =
    hi.toNat % 2 ^ 16 * 2 ^ 32 + (regWord s (0x0200A0 + 8 * n.val)).toNat := by
  rw [regWrite_cmpHi, cmpTarget, regWord_setReg_other _ _ (by omega), regFld, regWord_setReg_same,
    fld_low16_congr fun i h => writtenWord_cmpRow_bit _ _ _ (.inl h), Nat.add_comm]

theorem now_regWrite_cmpHi (hi : Word) : now (regWrite (0x0200A4 + 8 * n.val) hi s) = now s := by
  rw [regWrite_cmpHi, now, now, setReg_time]

theorem isPast_eq_false_iff {target nowNs : Nat} (h : target < 2 ^ 48) :
    isPast target nowNs = false ↔
      0 < (target + 2 ^ 48 - nowNs % 2 ^ 48) % 2 ^ 48 ∧ (target + 2 ^ 48 - nowNs % 2 ^ 48) % 2 ^ 48 < 2 ^ 47 := by
  rw [isPast, Nat.mod_eq_of_lt h]
  simp

/-- R120 for a compare that has just been written. -/
theorem isPast_regWrite_cmpHi (hi : Word) :
    isPast (cmpTarget (regWrite (0x0200A4 + 8 * n.val) hi s) n) (now (regWrite (0x0200A4 + 8 * n.val) hi s)) = false ↔
      let d := (hi.toNat % 2 ^ 16 * 2 ^ 32 + (regWord s (0x0200A0 + 8 * n.val)).toNat + 2 ^ 48 - now s % 2 ^ 48) % 2 ^ 48
      0 < d ∧ d < 2 ^ 47 := by
  have hlt := (regWord s (0x0200A0 + 8 * n.val)).isLt
  rw [cmpTarget_regWrite, now_regWrite_cmpHi]
  exact isPast_eq_false_iff (by omega)

/-- ARM clears and FIRED sets as the part puts 1 in the two bits. -/
theorem regBit_setRegFld_fired (off : Nat) :
    regBit (setRegFld off 31 30 1 s) off 31 = false ∧ regBit (setRegFld off 31 30 1 s) off 30 = true := by
  have hlt := (regWord s off).isLt
  constructor <;>
  · simp only [regBit, setRegFld, regWord_setReg_same, bit, bitsOf, BitVec.toNat_ofNat, Nat.testBit_eq_decide_div_mod_eq,
      Nat.shiftRight_eq_div_pow, decide_eq_true_eq, decide_eq_false_iff_not]
    omega

/-- The state with the pulses of the compares replaced. -/
def withPulses (v : Vector (Nat × BitVec 24) 4) (s : State) : State := { s with time.pulses := v }

theorem withPulses_self : withPulses s.time.pulses s = s := rfl

theorem now_withPulses (v : Vector (Nat × BitVec 24) 4) : now (withPulses v s) = now s := rfl

theorem regBit_withPulses (v : Vector (Nat × BitVec 24) 4) (off i : Nat) : regBit (withPulses v s) off i = regBit s off i := rfl

theorem clk_withPulses (v : Vector (Nat × BitVec 24) 4) : (withPulses v s).clk = s.clk := rfl

theorem fireCompare_eq (k : Nat) : ∃ v, fireCompare k s =
    withPulses v (raise bTIME (9 + k) (setRegFld (0x0200A4 + 8 * k) 31 30 1 s)) := by
  unfold fireCompare
  dsimp only
  split
  · exact ⟨_, (withPulses_self _).symm⟩
  · exact ⟨_, rfl⟩

theorem regWord_raise_time {off : Nat} (i : Nat) (h : off ≠ 0x02002C) : regWord (raise bTIME i s) off = regWord s off := by
  rw [raise, if_neg (by decide), orReg]
  exact regWord_setReg_other s _ h

/-- A compare whose armed target is past fires. -/
def firedIfPast (k : Nat) (s : State) : State := if cmpArmed s k ∧ isPast (cmpTarget s k) (now s) then fireCompare k s else s

theorem firedIfPast_ahead {k : Nat} {s : State} (h : isPast (cmpTarget s k) (now s) = false) : firedIfPast k s = s :=
  if_neg (by simp [h])

theorem firedIfPast_past {k : Nat} {s : State} (harm : cmpArmed s k = true) (h : isPast (cmpTarget s k) (now s) = true) :
    firedIfPast k s = fireCompare k s := if_pos ⟨harm, h⟩

/-- What a compare leaves that has fired. -/
theorem fireCompare_fired :
    regBit (fireCompare n s) (0x0200A4 + 8 * n.val) 31 = false ∧ regBit (fireCompare n s) (0x0200A4 + 8 * n.val) 30 = true ∧
    regBit (fireCompare n s) 0x02002C (9 + n.val) = true ∧ now (fireCompare n s) = now s ∧ (fireCompare n s).clk = s.clk := by
  obtain ⟨v, hfired⟩ := fireCompare_eq s n
  obtain ⟨harm, hfiredBit⟩ := regBit_setRegFld_fired s (0x0200A4 + 8 * n.val)
  have hstands (i : Nat) : regBit (fireCompare n s) (0x0200A4 + 8 * n.val) i =
      regBit (setRegFld (0x0200A4 + 8 * n.val) 31 30 1 s) (0x0200A4 + 8 * n.val) i := by
    rw [hfired, regBit_withPulses, regBit, regWord_raise_time _ _ (by omega), regBit]
  refine ⟨(hstands 31).trans harm, (hstands 30).trans hfiredBit, ?_, ?_, ?_⟩
  · rw [hfired, regBit_withPulses]
    exact regBit_raise_same (b := bTIME) _ (by decide) (by omega)
  · rw [hfired, now_withPulses, now, now, raise_time, setRegFld_time]
  · rw [hfired, clk_withPulses, raise_clk, setRegFld_clk]

end


/-! ### PPS_OUT (R126, R127) -/

theorem ppsEdge_next (s : State) : (ppsEdge s).time.ppsNext = s.time.ppsNext + 1 ∧ (ppsEdge s).sys = s.sys ∧ (ppsEdge s).regs = s.regs := by
  unfold ppsEdge
  dsimp only
  split
  · exact ⟨rfl, rfl, rfl⟩
  · exact ⟨rfl, rfl, rfl⟩

theorem ppsEdge_rises {s : State} (hstep : s.time.lastStep = none) (hen : regBit s 0x020080 31 = true) (hwake : s.sys.wakeHold = false) :
    (ppsEdge s).time.ppsHigh = true ∧ (ppsEdge s).time.ppsFallAt = (ppsEdge s).clk + regFld s 0x020080 23 0 * 1000 := by
  have hnear : nearStep { s with time := { s.time with ppsNext := s.time.ppsNext + 1 } } = false := by simp [nearStep, hstep]
  have hgo : regBit { s with time := { s.time with ppsNext := s.time.ppsNext + 1 } } 0x020080 31 = true ∧ ¬ s.sys.wakeHold = true ∧
      ¬ nearStep { s with time := { s.time with ppsNext := s.time.ppsNext + 1 } } = true := by
    simp [hwake, hnear]
    exact hen
  rw [ppsEdge, if_pos hgo]
  exact ⟨rfl, rfl⟩

theorem ppsEdge_stays {s : State} (h : regBit s 0x020080 31 = false ∨ s.sys.wakeHold = true ∨ nearStep s = true) :
    ppsEdge s = { s with time := { s.time with ppsNext := s.time.ppsNext + 1 } } := by
  refine if_neg fun ⟨hen, hwake, hnear⟩ => ?_
  obtain h | h | h := h
  · exact absurd (hen.symm.trans h) (by decide)
  · exact hwake h
  · exact hnear h

theorem ppsEdge_high {s : State} (h : regBit s 0x020080 31 = false ∨ s.sys.wakeHold = true ∨ nearStep s = true) :
    (ppsEdge s).time.ppsHigh = s.time.ppsHigh := by rw [ppsEdge_stays h]

theorem nearStep_of_lt {s : State} {t : Nat} (hstep : s.time.lastStep = some t) (h : now s < t + 10 ^ 6) : nearStep s = true := by
  simpa [nearStep, hstep] using h

/-! ### Captures (R129) -/

/-- A polarity code takes an edge. -/
def takesEdge (rising : Bool) (e : Nat) : Prop := if rising then e % 2 = 1 else 2 ≤ e

theorem takesEdge_of_code {rising : Bool} {e : Nat} (h : if rising then e = 1 ∨ e = 3 else e = 2 ∨ e = 3) : takesEdge rising e := by
  cases rising
  · have h : e = 2 ∨ e = 3 := by simpa using h
    simp [takesEdge]
    omega
  · have h : e = 1 ∨ e = 3 := by simpa using h
    simp [takesEdge]
    omega

theorem not_takesEdge_of_code {rising : Bool} {e : Nat} (h : if rising then e = 0 ∨ e = 2 else e = 0 ∨ e = 1) : ¬ takesEdge rising e := by
  cases rising
  · have h : e = 0 ∨ e = 1 := by simpa using h
    simp [takesEdge]
    omega
  · have h : e = 0 ∨ e = 2 := by simpa using h
    simp [takesEdge]
    omega

/-- The entry of an edge now. -/
def captured (s : State) (i : Fin 5) (rising : Bool) : CapEntry :=
  { time := BitVec.ofNat 64 (now s), rising := rising, stepped := s.time.caps[i].stepped, ovf := s.time.caps[i].lost }

/-- The state with one capture input replaced. -/
def withCap (i : Fin 5) (c : CapInput) (s : State) : State := { s with time.caps := s.time.caps.set i c }

theorem caps_withCap (i : Fin 5) (c : CapInput) (s : State) : (withCap i c s).time.caps[i] = c := Vector.getElem_set_self _

theorem raise_eq_withRegs (b i : Nat) (s : State) : raise b i s = { s with regs := (raise b i s).regs } := by
  unfold raise
  split
  · rfl
  · rfl

theorem vget_fin {α : Type} {n : Nat} (v : Vector α n) (i : Fin n) (d : α) : vget v i.val d = v[i] := dif_pos i.isLt

theorem getElem_vmod_fin {α : Type} {n : Nat} (v : Vector α n) (i : Fin n) (f : α → α) : (vmod v i.val f)[i] = f v[i] := by
  simp [vmod]

theorem captureRead_of_cons {s : State} {i : Fin 5} {x : CapEntry} {l : List CapEntry} (hi : regFld s 0x0200C8 2 0 = i)
    (hfifo : s.time.caps[i].fifo = x :: l) : captureRead s =
      { s with time := { s.time with capHeld := some x, caps := vmod s.time.caps i (fun c => { c with fifo := l }) }
               rdata := x.time.truncate 32 } := by
  simp only [captureRead, hi, vget_fin, hfifo]

theorem txtsRead_of_cons {s : State} {x : TxTs} {l : List TxTs} (h : s.time.txts = x :: l) :
    txtsRead s = { s with time := { s.time with txtsHeld := some x, txts := l }, rdata := x.time.truncate 32 } := by
  simp only [txtsRead, h]

/-! ### The commands -/

section

variable {s : State} (h : Running s)

include h

/-- A write of TIME_CMPn_HI fires the compare if what it wrote is armed and past. -/
theorem exec_compareArm (n : Fin 4) (hi : Word) : exec (.compareArm n hi) s = .next (firedIfPast n (regWrite (0x0200A4 + 8 * n.val) hi s)) :=
  congrArg Host.Outcome.next (bus_run _ h.2.2)

theorem exec_compareFire_armed {n : Fin 4} (harm : cmpArmed s n = true) :
    ∃ target, exec (.compareFire n) s = .next (fireCompare n (if isPast (cmpTarget s n) (now s) then s else advanceTo target s)) :=
  ⟨_, congrArg Host.Outcome.next ((bus_run _ h.2.2).trans (if_pos harm))⟩

theorem exec_compareFire_disarmed {n : Fin 4} (harm : cmpArmed s n = false) : exec (.compareFire n) s = .next s :=
  congrArg Host.Outcome.next ((bus_run _ h.2.2).trans (if_neg (by simp [harm])))

theorem exec_ppsOutEdge : exec .ppsOutEdge s = .next (ppsEdge (advanceTo (s.time.ppsNext * 10 ^ 9 - ppsAdv s) s)) :=
  congrArg Host.Outcome.next (bus_run _ h.2.2)

theorem exec_ppsOutFall (hhigh : s.time.ppsHigh = true) : exec .ppsOutFall s =
    .next { advanceClk s.time.ppsFallAt s with time := { (advanceClk s.time.ppsFallAt s).time with ppsHigh := false } } :=
  congrArg Host.Outcome.next ((bus_run _ h.2.2).trans (if_pos hhigh))

variable {i : Fin 5} {rising : Bool}

theorem exec_captureEdge_untaken (hedge : ¬ takesEdge rising (regFld s 0x0200C0 (2 * i.val + 1) (2 * i.val))) :
    exec (.captureEdge i rising) s = .next s :=
  congrArg Host.Outcome.next ((bus_run _ h.2.2).trans (if_pos hedge))

variable (hedge : takesEdge rising (regFld s 0x0200C0 (2 * i.val + 1) (2 * i.val)))

include hedge

theorem exec_captureEdge_stored (hroom : s.time.caps[i].fifo.length < 16) : exec (.captureEdge i rising) s =
    .next (raise bTIME 5 (withCap i { fifo := s.time.caps[i].fifo ++ [captured s i rising], lost := false, stepped := false } s)) :=
  congrArg Host.Outcome.next ((bus_run _ h.2.2).trans ((if_neg (not_not.mpr hedge)).trans (if_pos hroom)))

theorem exec_captureEdge_lost (hfull : 16 ≤ s.time.caps[i].fifo.length) : exec (.captureEdge i rising) s =
    .next (raise bTIME 6 (withCap i { s.time.caps[i] with lost := true } s)) :=
  congrArg Host.Outcome.next ((bus_run _ h.2.2).trans ((if_neg (not_not.mpr hedge)).trans (if_neg (by omega))))

end

/-- The edge of a whole second with no step behind it follows PPS_EN and the wake's hold. -/
theorem ppsOutEdge_enabled {s : State} (h : Running s) (hstep : s.time.lastStep = none) : After .ppsOutEdge s fun t =>
    t.time.ppsNext = s.time.ppsNext + 1 ∧ t.sys = s.sys ∧ t.regs = s.regs ∧
    (regBit s 0x020080 31 = true → s.sys.wakeHold = false →
      t.time.ppsHigh = true ∧ t.time.ppsFallAt = t.clk + regFld s 0x020080 23 0 * 1000) ∧
    (regBit s 0x020080 31 = false ∨ s.sys.wakeHold = true → t.time.ppsHigh = s.time.ppsHigh) := by
  have hbit := regBit_congr (advanceTo_regs (s.time.ppsNext * 10 ^ 9 - ppsAdv s) s) 0x020080 31
  have hwidth := regFld_congr (advanceTo_regs (s.time.ppsNext * 10 ^ 9 - ppsAdv s) s) 0x020080 23 0
  obtain ⟨hnext, hsys, hregs⟩ := ppsEdge_next (advanceTo (s.time.ppsNext * 10 ^ 9 - ppsAdv s) s)
  refine ⟨_, exec_ppsOutEdge h, hnext.trans (by rw [advanceTo_ppsNext]), hsys.trans (advanceTo_sys ..), hregs.trans (advanceTo_regs ..),
    fun hen hwake => ?_, fun hoff => ?_⟩
  · obtain ⟨hrise, hfall⟩ := ppsEdge_rises ((advanceTo_lastStep ..).trans hstep) (hbit.trans hen) (by rw [advanceTo_sys, hwake])
    rw [hwidth] at hfall
    exact ⟨hrise, hfall⟩
  · exact (ppsEdge_high (by rw [hbit, advanceTo_sys]; exact hoff.imp_right .inl)).trans (advanceTo_ppsHigh ..)

end Sys2Proof.Machine

open Sys2Proof Sys2Proof.Machine

/-- Settles O19: a write leaves TARGET and ARM as written, which decide whether the compare fires; a wait leaves what PPS_OUT reads;
each edge and read is its own equation. -/
theorem comparesPpsAndCaptures : Obligations.ComparesPpsAndCaptures := by
  refine ⟨fun s n hi hrun hset => ⟨_, exec_compareArm hrun n hi, ?_⟩,
    fun s n hrun => ⟨fun harm => ?_, fun harm => exec_compareFire_disarmed hrun harm⟩,
    fun s hrun => ⟨fun hstep => ppsOutEdge_enabled hrun hstep, fun t0 hstep hdue hnear => ?_,
      fun hhigh => ⟨_, exec_ppsOutFall hrun hhigh, rfl, advanceClk_clk .., rfl⟩⟩,
    fun s i rising hrun => ⟨fun hedge => exec_captureEdge_untaken hrun (not_takesEdge_of_code hedge),
      fun hedge hroom => ⟨_, exec_captureEdge_stored hrun (takesEdge_of_code hedge) hroom, ?_⟩,
      fun hedge hfull => ⟨_, exec_captureEdge_lost hrun (takesEdge_of_code hedge) hfull, ?_⟩⟩,
    fun s i x l hrun hi hfifo => after_bus rfl hrun ?_,
    fun s x l hrun htxts => congrArg Host.Outcome.next ((bus_run _ hrun.2.2).trans (txtsRead_of_cons htxts))⟩
  · have harm := (cmpArmed_regWrite s n hi).trans hset
    have hpast := isPast_regWrite_cmpHi s n hi
    refine ⟨fun hahead => ?_, fun hbehind => ?_⟩
    · rw [firedIfPast_ahead (hpast.mpr hahead)]
      exact ⟨harm, by rw [regWrite_cmpHi]; rfl⟩
    · rw [firedIfPast_past harm (Bool.eq_true_of_not_eq_false (mt hpast.mp hbehind))]
      obtain ⟨hdisarmed, hfired, hint, hnow, -⟩ := fireCompare_fired (regWrite (0x0200A4 + 8 * n.val) hi s) n
      exact ⟨hdisarmed, hfired, hint, hnow.trans (now_regWrite_cmpHi s n hi)⟩
  · obtain ⟨target, hexec⟩ := exec_compareFire_armed hrun harm
    refine ⟨_, hexec, ?_⟩
    obtain ⟨hdisarmed, hfired, hint, -, hclk⟩ := fireCompare_fired (if isPast (cmpTarget s n) (now s) then s else advanceTo target s) n
    refine ⟨hdisarmed, hfired, hint, hclk ▸ ?_⟩
    split
    · exact le_rfl
    · exact advanceTo_clk_le target s
  · rw [exec_ppsOutEdge hrun, advanceTo_reached hdue, ppsEdge_stays (.inr (.inr (nearStep_of_lt hstep hnear)))]
  · exact ⟨by rw [raise_time, caps_withCap]; rfl, by rw [raise_time, caps_withCap], by rw [raise_time, caps_withCap],
      regBit_raise_same (b := bTIME) _ (by decide) (by decide), by rw [raise_time]; exact raise_eq_withRegs ..⟩
  · exact ⟨by rw [raise_time, caps_withCap], regBit_raise_same (b := bTIME) _ (by decide) (by decide)⟩
  · rw [captureRead_of_cons hi hfifo]
    exact ⟨rfl, rfl, congrArg CapInput.fifo (getElem_vmod_fin ..), rfl⟩

end

section
/-! The slow flag of a domain (04_timebase.md R110, R114, R133): a CORR write that takes a return error back leaves it, and the wait for a
SOFT_TIMEOUT ends it, even a wait of 0 ns. -/

namespace Sys2Proof.Machine

open Sys2Proof

/-- A domain with nothing left to slew is no longer slow once it has run on, be it by 0 ticks. -/
theorem slow_run_of_spent {x : Domain} (h : x.pend40 = 0) (d m : Nat) : (x.run d m).slow = false := by
  simp [Domain.run, spend, h]

theorem dom_advance {s : State} (h : s.aon.mainRun = true) (d : Nat) (b : Bool) : ∃ m, dom (advance d s) b = (dom s b).run d m := by
  have htime : (advance d s).time = s.time.run d := if_pos h
  cases b
  · exact ⟨_, congrArg TimeB.p htime⟩
  · exact ⟨_, congrArg TimeB.a htime⟩

/-! ### The slow flag through the loss of a source (R112, R131) -/

theorem dom_raise (i : Nat) (s : State) (b : Bool) : dom (raise bTIME i s) b = dom s b := by rw [dom, dom, raise_time]

theorem slow_dropSource (a : Bool) (s : State) (b : Bool) : (dom (dropSource a s) b).slow = (dom s b).slow := by
  rw [dropSource, dom_raise]
  cases a
  · cases b <;> rfl
  · cases b <;> rfl

theorem dom_selectDom (a : Bool) (s : State) (b : Bool) : dom (selectDom a s) b = dom s b := by rw [selectDom, dom_raise]; rfl

/-- Whatever sources are lost, no domain's slow flag moves. -/
theorem slow_loseSources (l : List Bool) (s : State) (b : Bool) : (dom (loseSources l s) b).slow = (dom s b).slow := by
  have hdrops (gone : List Bool) (u : State) : (dom (gone.foldl (fun v a => dropSource a v) u) b).slow = (dom u b).slow := by
    induction gone generalizing u with
    | nil => rfl
    | cons a gone ih => exact (ih _).trans (slow_dropSource a u b)
  unfold loseSources
  dsimp only
  split
  · rw [dom_selectDom, hdrops]
  · exact hdrops _ s

/-- A SOFT_TIMEOUT ends the slow flag of a domain with no correction left, even one that it costs no time to reach. -/
theorem softTimeout_ends_slow {s : State} (h : Running s) {a : Bool} (hsource : sourceOf s a = 2) (hvalid : (dom s a).valid = true)
    {b : Bool} (hspent : (dom s b).pend40 = 0) : After (.softTimeout a) s fun t => (dom t b).slow = false := by
  obtain ⟨m, hrun⟩ := dom_advance h.2.2 ((dom s a).lastWrite + softTimeoutNs s a - s.clk) b
  refine ⟨_, congrArg Host.Outcome.next ((bus_run _ h.2.2).trans (if_pos ⟨hsource, hvalid⟩)), ?_⟩
  exact (slow_loseSources ..).trans ((congrArg Domain.slow hrun).trans (slow_run_of_spent hspent ..))

/-! ### A return error taken back -/

/-- A running part with two SOFT domains, in FIELD: PRIMARY was written last at 0, and its SOFT_TIMEOUT of 2 s ends now; ALTERNATE is
lost, and may return. -/
def softDomains : State where
  clk := 2 * 10 ^ 9
  regs := [(0x020060, 0x20000000)]
  sys := { mode := .field }
  aon := { wardenUp := true, mainRun := true }
  time := { p := { source := 2, valid := true, everValid := true }, a := { source := 2, everValid := true } }

/-- ALTERNATE has returned with an error of 200 µs, which a second CORR write has taken back. -/
def cancelledReturn : State := corrWrite true (BitVec.ofInt 32 (-200000)) (corrWrite true 200000 softDomains)

/-- ALTERNATE's correction is 0, and its slow flag still stands. -/
theorem cancelledReturn_alternate : (dom cancelledReturn true).pend40 = 0 ∧ (dom cancelledReturn true).slow = true := by decide +kernel

theorem cancelledReturn_running : Running cancelledReturn := by decide +kernel

/-- PRIMARY's time is up, ALTERNATE's is not. -/
theorem cancelledReturn_due : (dom cancelledReturn false).valid = true ∧ sourceOf cancelledReturn false = 2 ∧
    (dom cancelledReturn false).lastWrite + softTimeoutNs cancelledReturn false ≤ cancelledReturn.clk ∧
    cancelledReturn.clk < (dom cancelledReturn true).lastWrite + softTimeoutNs cancelledReturn true := by decide +kernel

end Sys2Proof.Machine

open Sys2Proof Sys2Proof.Machine

/-- Refutes O18: ALTERNATE has returned 200 µs off and a CORR write has taken that back, so that its slow flag stands with no correction
left. PRIMARY's SOFT_TIMEOUT is due at that instant; the wait of 0 ns before it clears the flag (R133), where the statement keeps all of
the domain whose source is not lost. -/
theorem not_timeDomains : ¬ Obligations.TimeDomains := by
  rintro ⟨-, hlost, -⟩
  obtain ⟨hvalid, hsource, hdue, hfresh⟩ := cancelledReturn_due
  obtain ⟨t, hexec, -, -, hother, -⟩ := hlost cancelledReturn false (.softTimeout false) cancelledReturn_running hvalid
    (.inr (.inl ⟨rfl, hsource, hdue, .inr (.inr hfresh)⟩))
  obtain ⟨hspent, hslow⟩ := cancelledReturn_alternate
  obtain ⟨u, hexec', hcleared⟩ := softTimeout_ends_slow cancelledReturn_running hsource hvalid hspent
  obtain rfl : t = u := Host.Outcome.next.inj (hexec.symm.trans hexec')
  have hstands : (dom t true).slow = (dom cancelledReturn true).slow := congrArg Domain.slow hother
  rw [hcleared, hslow] at hstands
  exact absurd hstands (by decide)

end

section
/-! The antenna bias and the channels of the GNSS baseband (05_gnss_baseband.md R138, R141, R154): a bias supply's states, and a
channel that moves while every other stays. -/

namespace Sys2Proof.Machine

open Sys2Proof

/-! ### Events of the running baseband (R153) -/

theorem gnssEvent_run {s : State} (f : State → State) (h : Running s) (hon : gnssRuns s = true) : gnssEvent f s = f s :=
  (bus_run _ h.2.2).trans (if_pos hon)

/-- A baseband event's answer in a running part. -/
theorem after_gnss {i : Instr} {s : State} {f : State → State} {P : State → Prop} (hi : exec i s = .next (gnssEvent f s))
    (h : Running s) (hon : gnssRuns s = true) (hP : P (f s)) : After i s P :=
  ⟨_, hi, by rw [gnssEvent_run f h hon]; exact hP⟩

/-- The state that a baseband event answers in a running part. -/
theorem exec_gnss {i : Instr} {s t : State} {f : State → State} (hi : exec i s = .next (gnssEvent f s))
    (h : Running s) (hon : gnssRuns s = true) (hf : f s = t) : exec i s = .next t := by
  rw [hi, gnssEvent_run f h hon, hf]

/-- A record reaches no interrupt status but Strata's own. -/
theorem regBit_note {off : Nat} (hoff : off ≠ 0x110030) (code sev p0 p1 p2 i : Nat) (s : State) :
    regBit (note code sev p0 p1 p2 s) off i = regBit s off i := by
  unfold note record
  split
  · rfl
  · split
    · rfl
    · rw [regBit_eq_getLsbD, orReg, regWord_setReg_other _ _ hoff]
      rfl

theorem regBit_raise_gnss (s : State) {i : Nat} (hi : i < 32) : regBit (raise bGNSS i s) 0x030090 i = true :=
  regBit_raise_same s (b := bGNSS) (by decide) hi

/-! ### Bias supplies (R138) -/

theorem antOf_congr {s t : State} (h : t.gnss = s.gnss) (b : Bool) : antOf t b = antOf s b := by rw [antOf, antOf, h]

@[simp] theorem antOf_setAnt_same (b : Bool) (a : Antenna) (s : State) : antOf (setAnt b a s) b = a := by cases b <;> rfl

@[simp] theorem antOf_setAnt_other (b : Bool) (a : Antenna) (s : State) : antOf (setAnt b a s) (!b) = antOf s (!b) := by cases b <;> rfl

@[simp] theorem antOf_raise (j i : Nat) (s : State) (b : Bool) : antOf (raise j i s) b = antOf s b := antOf_congr (raise_gnss ..) b

@[simp] theorem antOf_note (code sev p0 p1 p2 : Nat) (s : State) (b : Bool) : antOf (note code sev p0 p1 p2 s) b = antOf s b :=
  antOf_congr (note_gnss ..) b

@[simp] theorem antOf_antCoast (c : Bool) (s : State) (b : Bool) : antOf (antCoast c s) b = antOf s b := rfl

@[simp] theorem antOf_advanceClk (e : Nat) (s : State) (b : Bool) : antOf (advanceClk e s) b = antOf s b := rfl

/-- What a move of one bias supply leaves. -/
structure AntMoves (b : Bool) (a : Antenna) (s t : State) : Prop where
  same : antOf t b = a
  other : antOf t (!b) = antOf s (!b)
  time : t.time = s.time
  sys : t.sys = s.sys

theorem antMoves_setAnt (b : Bool) (a : Antenna) (s : State) : AntMoves b a s (setAnt b a s) :=
  ⟨antOf_setAnt_same .., antOf_setAnt_other .., setAnt_time .., setAnt_sys ..⟩

section

variable {b : Bool} {a : Antenna} {s t : State} (h : AntMoves b a s t)

include h

theorem antMoves_raise (j i : Nat) : AntMoves b a s (raise j i t) :=
  ⟨(antOf_raise ..).trans h.same, (antOf_raise ..).trans h.other, (raise_time ..).trans h.time, (raise_sys ..).trans h.sys⟩

theorem antMoves_note (code sev p0 p1 p2 : Nat) : AntMoves b a s (note code sev p0 p1 p2 t) :=
  ⟨(antOf_note ..).trans h.same, (antOf_note ..).trans h.other, (note_time ..).trans h.time, (note_sys ..).trans h.sys⟩

theorem antMoves_setAnt_again (a' : Antenna) : AntMoves b a' s (setAnt b a' t) :=
  ⟨antOf_setAnt_same .., (antOf_setAnt_other ..).trans h.other, (setAnt_time ..).trans h.time, (setAnt_sys ..).trans h.sys⟩

/-- A supply that moves to a state keeps its record but for that state. -/
theorem antMoves_antTo (x : AntState) : AntMoves b { a with state := x } s (antTo b x t) := by
  unfold antTo
  split
  · next hx => exact ⟨by rw [h.same] at hx ⊢; rw [← hx], h.other, h.time, h.sys⟩
  · have hnoted := antMoves_note (antMoves_setAnt_again h { a with state := x }) 0x0340 2 (b2n b) x.code 0
    rw [← h.same] at hnoted ⊢
    have hfault := antMoves_raise hnoted bGNSS 5
    cases x with
    | openCct => exact ⟨hfault.same, hfault.other, hfault.time, hfault.sys⟩
    | short => exact ⟨hfault.same, hfault.other, hfault.time, hfault.sys⟩
    | _ => exact hnoted

end

/-- An antenna that goes OFF raises no fault. -/
theorem regBit_antTo_off (b : Bool) (s : State) (i : Nat) : regBit (antTo b .off s) 0x030090 i = regBit s 0x030090 i := by
  unfold antTo
  split
  · rfl
  · exact (regBit_note (by decide) ..).trans (regBit_congr (setAnt_regs ..) ..)

/-- An antenna that becomes SHORT raises ANT_FAULT. -/
theorem regBit_antTo_short {b : Bool} {s : State} (h : (antOf s b).state ≠ .short) : regBit (antTo b .short s) 0x030090 5 = true := by
  rw [antTo, if_neg h]
  exact regBit_raise_gnss _ (by decide)

/-- A sample's antenna before its current is judged. -/
def sampled (s : State) (b : Bool) (ma : Nat) : Antenna := { antOf s b with ma := ma, biasOn := true }

/-- The table of R138 for a supply that is on. -/
theorem antSample_on {s : State} {b : Bool} (ma : Nat) (hen : antEn s b = true) (hon : (antOf s b).state ≠ .short ∨ (antOf s b).biasOn = true) :
    antSample b ma s =
      if 120 < ma then
        if (antOf s b).state = .short then
          raise bGNSS 5 (antTo b .short (setAnt b { sampled s b ma with low := 0, biasOn := false, tripAt := s.clk } s))
        else antTo b .short (setAnt b { sampled s b ma with low := 0, biasOn := false, tripAt := s.clk } s)
      else if 3 ≤ ma then antTo b .ok (setAnt b { sampled s b ma with low := 0 } s)
      else if 9 ≤ (antOf s b).low then antTo b .openCct (setAnt b { sampled s b ma with low := (antOf s b).low + 1 } s)
      else if (antOf s b).state = .off then antTo b .ok (setAnt b { sampled s b ma with low := (antOf s b).low + 1 } s)
      else setAnt b { sampled s b ma with low := (antOf s b).low + 1 } s := by
  have hgo : ¬ ((antOf s b).state = .short ∧ ¬ (antOf s b).biasOn = true) := fun ⟨hshort, hoff⟩ => hon.elim (· hshort) hoff
  exact (if_neg (not_not.mpr hen)).trans (if_neg hgo)

theorem antSample_tripped {s : State} {b : Bool} (ma : Nat) (hen : antEn s b = true) (hshort : (antOf s b).state = .short)
    (hoff : (antOf s b).biasOn = false) : antSample b ma s = s :=
  (if_neg (not_not.mpr hen)).trans (if_pos ⟨hshort, by simp [hoff]⟩)

/-- R138: above 120 mA the bias is removed, with ANT_FAULT. -/
theorem antSample_high {s : State} {b : Bool} {ma : Nat} (hen : antEn s b = true)
    (hon : (antOf s b).state ≠ .short ∨ (antOf s b).biasOn = true) (hma : 120 < ma) :
    AntMoves b { sampled s b ma with state := .short, low := 0, biasOn := false, tripAt := s.clk } s (antSample b ma s) ∧
    regBit (antSample b ma s) 0x030090 5 = true := by
  have hshort := antMoves_antTo (antMoves_setAnt b { sampled s b ma with low := 0, biasOn := false, tripAt := s.clk } s) .short
  rw [antSample_on ma hen hon, if_pos hma]
  split
  · exact ⟨antMoves_raise hshort .., regBit_raise_gnss _ (by decide)⟩
  · next hwas => exact ⟨hshort, regBit_antTo_short (by rwa [antOf_setAnt_same])⟩

/-- R138: from 3 mA to 120 mA the antenna is OK. -/
theorem antSample_mid {s : State} {b : Bool} {ma : Nat} (hen : antEn s b = true)
    (hon : (antOf s b).state ≠ .short ∨ (antOf s b).biasOn = true) (hlo : 3 ≤ ma) (hhi : ma ≤ 120) :
    AntMoves b { sampled s b ma with state := .ok, low := 0 } s (antSample b ma s) := by
  rw [antSample_on ma hen hon, if_neg (by omega), if_pos hlo]
  exact antMoves_antTo (antMoves_setAnt b { sampled s b ma with low := 0 } s) .ok

/-- R138: the tenth sample in a row below 3 mA makes the antenna OPEN. -/
theorem antSample_low {s : State} {b : Bool} {ma : Nat} (hen : antEn s b = true)
    (hon : (antOf s b).state ≠ .short ∨ (antOf s b).biasOn = true) (hma : ma < 3) :
    AntMoves b { sampled s b ma with
      low := (antOf s b).low + 1
      state := if 9 ≤ (antOf s b).low then .openCct else if (antOf s b).state = .off then .ok else (antOf s b).state } s (antSample b ma s) := by
  have hset := antMoves_setAnt b { sampled s b ma with low := (antOf s b).low + 1 } s
  rw [antSample_on ma hen hon, if_neg (show ¬ 120 < ma by omega), if_neg (show ¬ 3 ≤ ma by omega)]
  by_cases h9 : 9 ≤ (antOf s b).low
  · rw [if_pos h9, if_pos h9]
    exact antMoves_antTo hset .openCct
  · rw [if_neg h9, if_neg h9]
    by_cases hwas : (antOf s b).state = .off
    · rw [if_pos hwas, if_pos hwas]
      exact antMoves_antTo hset .ok
    · rw [if_neg hwas, if_neg hwas]
      exact hset

/-- R138: the supply of an antenna that is not enabled is off, which raises nothing. -/
theorem antSample_disabled {s : State} {b : Bool} (ma : Nat) (hen : antEn s b = false) :
    AntMoves b { antOf s b with ma := 0, low := 0, biasOn := false, state := .off } s (antSample b ma s) ∧
    ∀ i, regBit (antSample b ma s) 0x030090 i = regBit s 0x030090 i := by
  have hoff : antSample b ma s =
      antTo b .off (setAnt b { antOf s b with ma := 0, low := 0, biasOn := false } s) :=
    if_pos (by simp [hen])
  rw [hoff]
  exact ⟨antMoves_antTo (antMoves_setAnt b { antOf s b with ma := 0, low := 0, biasOn := false } s) .off,
    fun i => (regBit_antTo_off ..).trans (regBit_congr (setAnt_regs ..) ..)⟩

/-- R138: a sample of an enabled supply that is on. -/
theorem antBiasSample_enabled {s : State} {b : Bool} (ma : Nat) (hrun : Running s) (hgnss : gnssRuns s = true) (hen : antEn s b = true)
    (hon : (antOf s b).state ≠ .short ∨ (antOf s b).biasOn = true) : After (.antBiasSample b ma) s fun t =>
      (120 < ma → (antOf t b).state = .short ∧ (antOf t b).biasOn = false ∧ (antOf t b).tripAt = s.clk ∧ regBit t 0x030090 5 = true) ∧
      (3 ≤ ma → ma ≤ 120 → (antOf t b).state = .ok ∧ (antOf t b).low = 0) ∧
      (ma < 3 → (antOf t b).low = (antOf s b).low + 1 ∧ (antOf t b).biasOn = true ∧
        (9 ≤ (antOf s b).low → (antOf t b).state = .openCct) ∧ ((antOf s b).low < 9 → (antOf s b).state = .ok → (antOf t b).state = .ok)) ∧
      antOf t (!b) = antOf s (!b) ∧ t.time = s.time ∧ t.sys = s.sys := by
  refine after_gnss rfl hrun hgnss ?_
  obtain hhigh | hmid | hlow : 120 < ma ∨ (3 ≤ ma ∧ ma ≤ 120) ∨ ma < 3 := by omega
  · obtain ⟨hm, hfault⟩ := antSample_high hen hon hhigh
    exact ⟨fun _ => by rw [hm.same]; exact ⟨rfl, rfl, rfl, hfault⟩, fun _ _ => by omega, fun _ => by omega, hm.other, hm.time, hm.sys⟩
  · have hm := antSample_mid hen hon hmid.1 hmid.2
    exact ⟨fun _ => by omega, fun _ _ => by rw [hm.same]; exact ⟨rfl, rfl⟩, fun _ => by omega, hm.other, hm.time, hm.sys⟩
  · have hm := antSample_low hen hon hlow
    refine ⟨fun _ => by omega, fun _ _ => by omega, fun _ => ?_, hm.other, hm.time, hm.sys⟩
    rw [hm.same]
    exact ⟨rfl, rfl, fun h9 => if_pos h9, fun h9 hok => by simp [Nat.not_le.mpr h9, hok]⟩

/-- A supply whose bias is put back at a moment. -/
def biasRetried (b : Bool) (e : Nat) (s : State) : State := setAnt b { antOf (advanceClk e s) b with biasOn := true, low := 0 } (advanceClk e s)

theorem biasRetried_leaves (b : Bool) (e : Nat) (s : State) :
    antOf (biasRetried b e s) b = { antOf s b with biasOn := true, low := 0 } ∧ antOf (biasRetried b e s) (!b) = antOf s (!b) ∧
    (biasRetried b e s).clk = max s.clk e :=
  ⟨antOf_setAnt_same .., antOf_setAnt_other .., (setAnt_clk ..).trans (advanceClk_clk ..)⟩

/-- R138: 1 s after its removal the bias is put back. -/
theorem exec_antBiasRetry {s : State} {b : Bool} (hrun : Running s) (hgnss : gnssRuns s = true) (hen : antEn s b = true)
    (hshort : (antOf s b).state = .short) (hoff : (antOf s b).biasOn = false) :
    exec (.antBiasRetry b) s = .next (biasRetried b ((antOf s b).tripAt + 10 ^ 9) s) :=
  exec_gnss rfl hrun hgnss (if_pos ⟨hshort, by simp [hoff], hen⟩)

theorem antBiasRetry_tripped {s : State} {b : Bool} (hrun : Running s) (hgnss : gnssRuns s = true) (hen : antEn s b = true)
    (hshort : (antOf s b).state = .short) (hoff : (antOf s b).biasOn = false) : After (.antBiasRetry b) s fun t =>
      (antOf t b).biasOn = true ∧ (antOf t b).state = .short ∧ t.clk = max s.clk ((antOf s b).tripAt + 10 ^ 9) ∧
      antOf t (!b) = antOf s (!b) := by
  obtain ⟨hsame, hother, hclk⟩ := biasRetried_leaves b ((antOf s b).tripAt + 10 ^ 9) s
  exact ⟨_, exec_antBiasRetry hrun hgnss hen hshort hoff, by rw [hsame], by rw [hsame]; exact hshort, hclk, hother⟩

/-! ### Channels (R141, R154) -/

/-- A value by value map leaves the keys. -/
theorem kget_map {α : Type} (f : Nat → α → α) (l : List (Nat × α)) (k : Nat) :
    kget (l.map fun p => (p.1, f p.1 p.2)) k = (kget l k).map (f k) := by
  unfold kget
  induction l with
  | nil => rfl
  | cons p l ih =>
    by_cases hp : p.1 = k
    · simp [hp]
    · simp only [List.map_cons, List.find?_cons, beq_eq_false_iff_ne.mpr hp]
      exact ih

theorem kget_modChan_same (n : Nat) (f : Channel → Channel) (s : State) :
    kget (modChan n f s).gnss.chans n = (kget s.gnss.chans n).map f := by
  rw [modChan, kget_map fun k c => if k = n then f c else c]
  simp

theorem kget_modChan_other {m n : Nat} (f : Channel → Channel) (s : State) (h : m ≠ n) :
    kget (modChan n f s).gnss.chans m = kget s.gnss.chans m := by
  rw [modChan, kget_map fun k c => if k = n then f c else c]
  simp [h]

/-- One channel becomes d, every other stays, and beside the channels only time passes. -/
structure ChanMoves (n : Nat) (d : Channel) (s t : State) : Prop where
  same : kget t.gnss.chans n = some d
  others : ∀ m, m ≠ n → kget t.gnss.chans m = kget s.gnss.chans m
  frame : t = { s with gnss := { s.gnss with chans := t.gnss.chans }, clk := t.clk, aon := t.aon, time := t.time }

theorem chanMoves_modChan {n : Nat} {c : Channel} {s : State} (h : kget s.gnss.chans n = some c) (f : Channel → Channel) :
    ChanMoves n (f c) s (modChan n f s) :=
  ⟨by rw [kget_modChan_same, h]; rfl, fun _ hm => kget_modChan_other f s hm, rfl⟩

/-- What becomes of a channel that loses code lock. -/
def loseLock (s : State) (c : Channel) : Channel := if c.state = .track then { c with state := .coast, coastAt := s.clk } else c

/-- What becomes of a channel that acquires. -/
def acquire (s : State) (c : Channel) : Channel := if c.state = .acquire then { c with state := .track, lockAt := none, gap := lateLock s } else c

/-- What becomes of a channel whose COAST has lasted 2 s. -/
def coastedOut (c : Channel) : Channel := { c with state := .acquire, slip := true, lockAt := none, tested := false }

theorem loseLock_of_track {s : State} {c : Channel} (h : c.state = .track) :
    loseLock s c = { c with state := .coast, coastAt := s.clk } := if_pos h

theorem loseLock_of_not_track {s : State} {c : Channel} (h : c.state ≠ .track) : loseLock s c = c := if_neg h

theorem acquire_of_acquire {s : State} {c : Channel} (h : c.state = .acquire) :
    acquire s c = { c with state := .track, lockAt := none, gap := lateLock s } := if_pos h

theorem acquire_of_not_acquire {s : State} {c : Channel} (h : c.state ≠ .acquire) : acquire s c = c := if_neg h

theorem regain_of_coast {s : State} {c : Channel} (h : c.state = .coast) (htest : c.tested = false) (hin : s.clk < c.coastAt + 2 * 10 ^ 9) :
    regain s c = { c with state := .track, slip := true, lockAt := none, gap := lateLock s } := if_pos ⟨h, by simp [htest], hin⟩

theorem regain_of_track {s : State} {c : Channel} (h : c.state = .track) : regain s c = { c with gap := c.gap && lateLock s } :=
  (if_neg fun hcoast => absurd (h.symm.trans hcoast.1) (by decide)).trans (if_pos h)

/-- A channel that neither tracks nor coasts in time, untested, regains nothing. -/
theorem regain_of_idle {s : State} {c : Channel} (h : c.state ≠ .track)
    (hlate : c.state = .coast → c.tested = true ∨ c.coastAt + 2 * 10 ^ 9 ≤ s.clk) : regain s c = c :=
  (if_neg fun ⟨hcoast, htest, hin⟩ => (hlate hcoast).elim htest (Nat.not_le.mpr hin)).trans (if_neg h)

/-- A channel whose COAST ends at a moment. -/
def coastEnded (n e : Nat) (s : State) : State := modChan n coastedOut (advanceClk e s)

theorem coastEnded_moves {s : State} {n : Nat} {c : Channel} (hc : kget s.gnss.chans n = some c) (e : Nat) :
    ChanMoves n (coastedOut c) s (coastEnded n e s) ∧ (coastEnded n e s).clk = max s.clk e := by
  have hmoves := chanMoves_modChan (s := advanceClk e s) hc coastedOut
  exact ⟨⟨hmoves.same, hmoves.others, rfl⟩, advanceClk_clk ..⟩

section

variable {s : State} {n : Fin 512} {c : Channel} (hrun : Running s) (hgnss : gnssRuns s = true) (hc : kget s.gnss.chans n = some c)

include hrun hgnss hc

theorem lockLost_moves : After (.lockLost n) s fun t => ChanMoves n (loseLock s c) s t ∧ t.clk = s.clk :=
  after_gnss rfl hrun hgnss ⟨chanMoves_modChan hc (loseLock s), rfl⟩

theorem codeLockRegained_moves : After (.codeLockRegained n) s fun t => ChanMoves n (regain s c) s t ∧ t.clk = s.clk :=
  after_gnss rfl hrun hgnss ⟨chanMoves_modChan hc (regain s), rfl⟩

theorem acquisition_moves : After (.acquisition n) s fun t => ChanMoves n (acquire s c) s t ∧ t.clk = s.clk :=
  after_gnss rfl hrun hgnss ⟨chanMoves_modChan hc (acquire s), rfl⟩

theorem exec_coastTimeout (hcoast : c.state = .coast) : exec (.coastTimeout n) s = .next (coastEnded n (c.coastAt + 2 * 10 ^ 9) s) := by
  have hchan : chanOf s n.val = c := by rw [chanOf, hc]; rfl
  subst hchan
  exact exec_gnss rfl hrun hgnss (if_pos hcoast)

theorem coastTimeout_idle (hcoast : c.state ≠ .coast) : exec (.coastTimeout n) s = .next s := by
  have hchan : chanOf s n.val = c := by rw [chanOf, hc]; rfl
  subst hchan
  exact exec_gnss rfl hrun hgnss (if_neg hcoast)

end

/-- An event that moves a channel and takes no time. -/
theorem moved_at_once {s : State} {n : Fin 512} {c d : Channel} {i : Instr} (hi : i ≠ .coastTimeout n)
    (h : After i s fun t => ChanMoves n d s t ∧ t.clk = s.clk) : After i s fun t =>
      kget t.gnss.chans n = some d ∧ (∀ m, m ≠ n.val → kget t.gnss.chans m = kget s.gnss.chans m) ∧
      t = { s with gnss := { s.gnss with chans := t.gnss.chans }, clk := t.clk, aon := t.aon, time := t.time } ∧
      (i = .coastTimeout n → c.state = .coast → t.clk = max s.clk (c.coastAt + 2 * 10 ^ 9)) ∧ (i ≠ .coastTimeout n → t.clk = s.clk) := by
  obtain ⟨t, hexec, hm, hclk⟩ := h
  exact ⟨t, hexec, hm.same, hm.others, hm.frame, fun hwait => absurd hwait hi, fun _ => hclk⟩

/-- R141, R154: what each event makes of its channel. -/
theorem channel_event {s : State} {n : Fin 512} {c d : Channel} {i : Instr} (hrun : Running s) (hgnss : gnssRuns s = true)
    (hc : kget s.gnss.chans n = some c)
    (hcase : i = .lockLost n ∧ c.state = .track ∧ d = { c with state := .coast, coastAt := s.clk } ∨
      i = .codeLockRegained n ∧ c.state = .coast ∧ c.tested = false ∧ s.clk < c.coastAt + 2 * 10 ^ 9 ∧
        d = { c with state := .track, slip := true, lockAt := none, gap := lateLock s } ∨
      i = .codeLockRegained n ∧ c.state = .track ∧ d = { c with gap := c.gap && lateLock s } ∨
      i = .coastTimeout n ∧ c.state = .coast ∧ d = { c with state := .acquire, slip := true, lockAt := none, tested := false } ∨
      i = .acquisition n ∧ c.state = .acquire ∧ d = { c with state := .track, lockAt := none, gap := lateLock s } ∨
      (i = .lockLost n ∧ c.state ≠ .track ∨ i = .acquisition n ∧ c.state ≠ .acquire ∨ i = .coastTimeout n ∧ c.state ≠ .coast ∨
        i = .codeLockRegained n ∧ c.state ≠ .track ∧ (c.state = .coast → c.tested = true ∨ c.coastAt + 2 * 10 ^ 9 ≤ s.clk)) ∧ d = c) :
    After i s fun t =>
      kget t.gnss.chans n = some d ∧ (∀ m, m ≠ n.val → kget t.gnss.chans m = kget s.gnss.chans m) ∧
      t = { s with gnss := { s.gnss with chans := t.gnss.chans }, clk := t.clk, aon := t.aon, time := t.time } ∧
      (i = .coastTimeout n → c.state = .coast → t.clk = max s.clk (c.coastAt + 2 * 10 ^ 9)) ∧ (i ≠ .coastTimeout n → t.clk = s.clk) := by
  have hlost := lockLost_moves hrun hgnss hc
  have hregained := codeLockRegained_moves hrun hgnss hc
  have hacquired := acquisition_moves hrun hgnss hc
  obtain ⟨rfl, hst, rfl⟩ | ⟨rfl, hst, htest, hin, rfl⟩ | ⟨rfl, hst, rfl⟩ | ⟨rfl, hst, rfl⟩ | ⟨rfl, hst, rfl⟩ | ⟨hidle, rfl⟩ := hcase
  · rw [loseLock_of_track hst] at hlost
    exact moved_at_once nofun hlost
  · rw [regain_of_coast hst htest hin] at hregained
    exact moved_at_once nofun hregained
  · rw [regain_of_track hst] at hregained
    exact moved_at_once nofun hregained
  · obtain ⟨hm, hclk⟩ := coastEnded_moves hc (c.coastAt + 2 * 10 ^ 9)
    exact ⟨_, exec_coastTimeout hrun hgnss hc hst, hm.same, hm.others, hm.frame, fun _ _ => hclk, fun hne => absurd rfl hne⟩
  · rw [acquire_of_acquire hst] at hacquired
    exact moved_at_once nofun hacquired
  · obtain ⟨rfl, hst⟩ | ⟨rfl, hst⟩ | ⟨rfl, hst⟩ | ⟨rfl, hst, hlate⟩ := hidle
    · rw [loseLock_of_not_track hst] at hlost
      exact moved_at_once nofun hlost
    · rw [acquire_of_not_acquire hst] at hacquired
      exact moved_at_once nofun hacquired
    · exact ⟨_, coastTimeout_idle hrun hgnss hc hst, hc, fun _ _ => rfl, rfl, fun _ hcoast => absurd hcoast hst, fun _ => rfl⟩
    · rw [regain_of_idle hst hlate] at hregained
      exact moved_at_once nofun hregained

end Sys2Proof.Machine
end

section
/-! Notches and the jamming indicator (05_gnss_baseband.md R137, R146, R148): the notches that a spectrum moves, and a path's noise power
after it. -/

namespace Sys2Proof.Machine

open Sys2Proof

/-! ### Notches (R146) -/

/-- The notches replaced, with the free values that their depths have drawn. -/
def withNotches (l : List (Nat × Notch)) (k : Nat) (s : State) : State := { s with gnss := { s.gnss with notches := l }, fresh := k }

/-- From one state to the other notches of one path alone have moved. -/
def NotchesMove (path : Nat) (s t : State) : Prop :=
  ∃ l k, t = withNotches l k s ∧ ∀ i, i / 8 ≠ path → kget l i = kget s.gnss.notches i

namespace NotchesMove

variable {path : Nat} {s t u : State}

theorem refl (path : Nat) (s : State) : NotchesMove path s s := ⟨s.gnss.notches, s.fresh, rfl, fun _ _ => rfl⟩

theorem trans (h : NotchesMove path s t) (k : NotchesMove path t u) : NotchesMove path s u := by
  obtain ⟨l, f, rfl, hl⟩ := h
  obtain ⟨l', f', rfl, hl'⟩ := k
  exact ⟨l', f', rfl, fun i hi => (hl' i hi).trans (hl i hi)⟩

theorem foldl {α : Type} {f : State → α → State} (hf : ∀ t a, NotchesMove path t (f t a)) (l : List α) (s : State) :
    NotchesMove path s (l.foldl f s) := by
  induction l generalizing s with
  | nil => exact refl path s
  | cons a l ih => exact (hf s a).trans (ih (f s a))

end NotchesMove

theorem freeNotch_path {s : State} {path i : Nat} (h : freeNotch s path = some i) : i / 8 = path := by
  obtain ⟨k, hk, rfl⟩ := List.mem_map.mp (List.mem_of_find?_eq_some h)
  have := List.mem_range.mp hk
  omega

theorem notchesMove_claimNotch (path : Nat) (x : SpecLine) (s : State) : NotchesMove path s (claimNotch path x s) := by
  unfold claimNotch
  split
  · exact .refl path s
  · split
    · next i hi => exact ⟨_, _, rfl, fun j hj => kget_kset_other _ _ _ fun hji => hj (hji ▸ freeNotch_path hi)⟩
    · exact .refl path s

theorem notchHeld_key (s : State) (path : Nat) (lines : List SpecLine) (p : Nat × Notch) : (notchHeld s path lines p).1 = p.1 := by
  unfold notchHeld
  split
  · rfl
  · split
    · rfl
    · rfl

theorem notchHeld_other (s : State) {path : Nat} (lines : List SpecLine) {p : Nat × Notch} (h : p.1 / 8 ≠ path) :
    notchHeld s path lines p = p := if_pos h

/-- A notch of another path is not held anew. -/
theorem kget_notchHeld_other (s : State) {path : Nat} (lines : List SpecLine) (l : List (Nat × Notch)) {i : Nat} (h : i / 8 ≠ path) :
    kget (l.map (notchHeld s path lines)) i = kget l i := by
  have hkeys : notchHeld s path lines = fun p => (p.1, (notchHeld s path lines (p.1, p.2)).2) :=
    funext fun p => Prod.ext (notchHeld_key s path lines p) rfl
  rw [hkeys, kget_map fun k n => (notchHeld s path lines (k, n)).2]
  simp [notchHeld_other s lines (p := (i, _)) h]

theorem notchesMove_notchLines (path : Nat) (lines : List SpecLine) (s : State) : NotchesMove path s (notchLines path lines s) := by
  unfold notchLines
  split
  · exact .refl path s
  · have hheld : NotchesMove path s { s with gnss.notches := s.gnss.notches.map (notchHeld s path lines) } :=
      ⟨_, _, rfl, fun i hi => kget_notchHeld_other s lines _ hi⟩
    exact hheld.trans (.foldl (fun t x => notchesMove_claimNotch path x t) lines _)

theorem notchLines_disabled {path : Nat} (lines : List SpecLine) {s : State} (h : s.gnss.cfg.notchEn.getLsbD path = false) :
    notchLines path lines s = s := if_pos (fun hset => absurd (hset.symm.trans h) (by decide))

theorem notchThr_congr {s t : State} (h : t.regs = s.regs) : notchThr t = notchThr s := regFld_congr h ..

/-- The lone line of a path without notches claims the first, or none. -/
theorem notchLines_single {path : Nat} (x : SpecLine) {s : State} (hen : s.gnss.cfg.notchEn.getLsbD path = true)
    (hnone : s.gnss.notches = []) : (notchLines path [x] s).gnss.notches =
      if x.height < notchThr s then [] else [(8 * path, { freq := x.freq, depth := freeVal s % 101 })] := by
  have hlines : notchLines path [x] s = claimNotch path x { s with gnss.notches := s.gnss.notches.map (notchHeld s path [x]) } :=
    if_neg (not_not.mpr hen)
  have hheld : ({ s with gnss.notches := s.gnss.notches.map (notchHeld s path [x]) } : State) = s := by
    rw [hnone, List.map_nil, ← hnone]
  have hat : notchAt s path x.freq = none := by rw [notchAt, hnone]; rfl
  have hfree : freeNotch s path = some (8 * path) := by
    rw [freeNotch, hnone]
    rfl
  rw [hlines, hheld, claimNotch, hat, hfree]
  by_cases hlow : x.height < notchThr s
  · rw [if_pos (.inl hlow), if_pos hlow, hnone]
  · rw [if_neg (by simp [hlow]), if_neg hlow]
    dsimp only [drawn]
    rw [hnone]
    rfl

/-! ### A path's noise power (R148) -/

theorem second_jam (x : BandPath) : x.second.jam = x.jam := by
  unfold BandPath.second
  split
  · rfl
  · rfl

/-- The floor is held while JAM is set. -/
theorem second_jammed {x : BandPath} (h : x.jam = true) : x.second = x := if_pos h

theorem or_some_isSome {α : Type} (o : Option α) (a : α) : (o.or (some a)).isSome = true := by simp

theorem isSome_ite_or {p : Prop} [Decidable p] (o : Option Nat) (k : Nat) :
    (if p then o.or (some k) else none).isSome = decide p := by
  by_cases h : p
  · rw [if_pos h, or_some_isSome, decide_eq_true h]
  · rw [if_neg h, decide_eq_false h]
    rfl

/-- What the evaluation of a path keeps, and what its times tell of the rise. -/
theorem eval_leaves (x : BandPath) (clk on off power : Nat) :
    (x.eval clk on off power).jam = x.jam ∧ (x.jam = true → (x.eval clk on off power).floor = x.floor) ∧
    (x.eval clk on off power).above.isSome = decide (on ≤ (x.eval clk on off power).rise) ∧
    (x.eval clk on off power).below.isSome = decide ((x.eval clk on off power).rise < off) := by
  refine ⟨?_, fun hjam => ?_, isSome_ite_or .., isSome_ite_or ..⟩
  · unfold BandPath.eval
    dsimp only
    split
    · exact second_jam x
    · rfl
  · unfold BandPath.eval
    dsimp only
    split
    · exact (congrArg BandPath.floor (second_jammed hjam) : x.second.floor = x.floor)
    · rfl

theorem getElem_vmod_ne {α : Type} {n : Nat} (v : Vector α n) {i j : Fin n} (f : α → α) (h : j ≠ i) : (vmod v i.val f)[j] = v[j] := by
  rw [vmod, dif_pos i.isLt]
  exact Vector.getElem_set_ne _ _ fun hij => h (Fin.ext hij.symm)

/-! ### A spectrum (R146, R148) -/

/-- The lines of a spectrum, strongest first. -/
def strongestFirst (l : List SpecLine) : List SpecLine := sortBy (fun a b => decide (b.height ≤ a.height)) l

/-- A path's indicator after a spectrum at the clock of the state, whose lines stand strongest first. -/
def spectrumPath (p : Nat) (l : List SpecLine) (noise gain : Nat) (s : State) (x : BandPath) : BandPath :=
  { x.eval s.clk (jamOn s) (jamOff s) (pathPower s p l noise) with agc := gain }

theorem jamOn_congr {s t : State} (h : t.regs = s.regs) : jamOn t = jamOn s := regFld_congr h ..

theorem jamOff_congr {s t : State} (h : t.regs = s.regs) : jamOff t = jamOff s := by rw [jamOff, jamOff, jamOn_congr h, regFld_congr h]

theorem spectrumPath_leaves (p : Nat) (l : List SpecLine) (noise gain : Nat) (s : State) (x : BandPath) :
    (spectrumPath p l noise gain s x).jam = x.jam ∧ (spectrumPath p l noise gain s x).agc = gain ∧
    (x.jam = true → (spectrumPath p l noise gain s x).floor = x.floor) ∧
    (spectrumPath p l noise gain s x).above.isSome = decide (jamOn s ≤ (spectrumPath p l noise gain s x).rise) ∧
    (spectrumPath p l noise gain s x).below.isSome = decide ((spectrumPath p l noise gain s x).rise < jamOff s) := by
  obtain ⟨hjam, hfloor, habove, hbelow⟩ := eval_leaves x s.clk (jamOn s) (jamOff s) (pathPower s p l noise)
  exact ⟨hjam, rfl, hfloor, habove, hbelow⟩

/-- The indicators of all paths after it. -/
def spectrumPaths (p : Nat) (l : List SpecLine) (noise gain : Nat) (s : State) : State :=
  { s with gnss.paths := vmod s.gnss.paths p (spectrumPath p l noise gain s) }

/-- A spectrum that is taken at a moment. -/
def spectrumAt (p e : Nat) (l : List SpecLine) (noise gain : Nat) (s : State) : State :=
  notchLines p (strongestFirst l) (spectrumPaths p (strongestFirst l) noise gain (advanceClk e s))

section

variable (p : Fin 6) (e : Nat) (l : List SpecLine) (noise gain : Nat) (s : State)

theorem spectrumAt_notches : NotchesMove p (spectrumPaths p (strongestFirst l) noise gain (advanceClk e s)) (spectrumAt p e l noise gain s) :=
  notchesMove_notchLines ..

theorem spectrumAt_frame : spectrumAt p e l noise gain s =
    { s with
      gnss := { s.gnss with notches := (spectrumAt p e l noise gain s).gnss.notches, paths := (spectrumAt p e l noise gain s).gnss.paths }
      fresh := (spectrumAt p e l noise gain s).fresh, clk := (spectrumAt p e l noise gain s).clk, aon := (spectrumAt p e l noise gain s).aon
      time := (spectrumAt p e l noise gain s).time } := by
  obtain ⟨l', k, hmoved, -⟩ := spectrumAt_notches p e l noise gain s
  rw [hmoved]
  rfl

theorem spectrumAt_clk : (spectrumAt p e l noise gain s).clk = max s.clk e := by
  obtain ⟨l', k, hmoved, -⟩ := spectrumAt_notches p e l noise gain s
  rw [hmoved]
  exact advanceClk_clk ..

theorem spectrumAt_other {i : Nat} (hi : i / 8 ≠ p.val) : kget (spectrumAt p e l noise gain s).gnss.notches i = kget s.gnss.notches i := by
  obtain ⟨l', k, hmoved, hothers⟩ := spectrumAt_notches p e l noise gain s
  rw [hmoved]
  exact hothers i hi

theorem spectrumAt_paths : (spectrumAt p e l noise gain s).gnss.paths =
    vmod s.gnss.paths p (spectrumPath p (strongestFirst l) noise gain (advanceClk e s)) := by
  obtain ⟨l', k, hmoved, -⟩ := spectrumAt_notches p e l noise gain s
  rw [hmoved]
  rfl

variable {s}

theorem spectrumAt_disabled (h : s.gnss.cfg.notchEn.getLsbD p = false) : (spectrumAt p e l noise gain s).gnss.notches = s.gnss.notches := by
  rw [spectrumAt, notchLines_disabled _ (by exact h)]
  rfl

theorem spectrumAt_single (x : SpecLine) (hen : s.gnss.cfg.notchEn.getLsbD p = true) (hnone : s.gnss.notches = []) :
    ∃ k ≤ 100, (spectrumAt p e [x] noise gain s).gnss.notches =
      if x.height < notchThr s then [] else [(8 * p.val, { freq := x.freq, depth := k })] := by
  refine ⟨freeVal s % 101, by omega, ?_⟩
  exact notchLines_single x (s := spectrumPaths p [x] noise gain (advanceClk e s)) hen hnone

end

section

variable {s : State} (hrun : Running s) (hgnss : gnssRuns s = true)

include hrun hgnss

theorem exec_notchSpectrum_unpowered {p : Fin 6} (l : List SpecLine) (noise : Nat) (gain : Byte) (hpath : pathRuns s p = false) :
    exec (.notchSpectrum p l noise gain) s = .next s :=
  exec_gnss rfl hrun hgnss (if_pos (by simp [hpath]))

/-- R146: a powered path takes a spectrum 1 ms after the last. -/
theorem exec_notchSpectrum {p : Fin 6} (l : List SpecLine) (noise : Nat) (gain : Byte) (hpath : pathRuns s p = true) :
    exec (.notchSpectrum p l noise gain) s = .next (spectrumAt p (s.gnss.paths[p].specAt + 10 ^ 6) l noise gain.toNat s) := by
  rw [← vget_fin s.gnss.paths p {}]
  exact exec_gnss rfl hrun hgnss (if_neg (not_not.mpr hpath))

end

theorem notchSpectrum_leaves {s : State} {p : Fin 6} (l : List SpecLine) (noise : Nat) (gain : Byte) (hrun : Running s)
    (hgnss : gnssRuns s = true) (hpath : pathRuns s p = true) : After (.notchSpectrum p l noise gain) s fun t =>
      t.gnss.paths[p].jam = s.gnss.paths[p].jam ∧ t.gnss.paths[p].agc = gain.toNat ∧ (∀ q : Fin 6, q ≠ p → t.gnss.paths[q] = s.gnss.paths[q]) ∧
      (s.gnss.paths[p].jam = true → t.gnss.paths[p].floor = s.gnss.paths[p].floor) ∧
      t.gnss.paths[p].above.isSome = decide (jamOn s ≤ t.gnss.paths[p].rise) ∧
      t.gnss.paths[p].below.isSome = decide (t.gnss.paths[p].rise < jamOff s) := by
  refine ⟨_, exec_notchSpectrum hrun hgnss l noise gain hpath, ?_⟩
  generalize s.gnss.paths[p].specAt + 10 ^ 6 = e
  have hpaths := spectrumAt_paths p e l noise gain.toNat s
  have hsame : (spectrumAt p e l noise gain.toNat s).gnss.paths[p] =
      spectrumPath p (strongestFirst l) noise gain.toNat (advanceClk e s) s.gnss.paths[p] := by
    rw [hpaths, getElem_vmod_fin]
  obtain ⟨hjam, hagc, hfloor, habove, hbelow⟩ :=
    spectrumPath_leaves p (strongestFirst l) noise gain.toNat (advanceClk e s) s.gnss.paths[p]
  rw [jamOn_congr (advanceClk_regs e s)] at habove
  rw [jamOff_congr (advanceClk_regs e s)] at hbelow
  rw [hsame]
  exact ⟨hjam, hagc, fun q hq => by rw [hpaths, getElem_vmod_ne _ _ hq], hfloor, habove, hbelow⟩

/-! ### A notch released (R146) -/

/-- A notch that is gone at a moment. -/
def notchReleased (i e : Nat) (s : State) : State :=
  { advanceClk e s with gnss := { (advanceClk e s).gnss with notches := kdel (advanceClk e s).gnss.notches i } }

theorem notchReleased_leaves (i e : Nat) (s : State) :
    kget (notchReleased i e s).gnss.notches i = none ∧
    (∀ j, j ≠ i → kget (notchReleased i e s).gnss.notches j = kget s.gnss.notches j) ∧ (notchReleased i e s).clk = max s.clk e ∧
    notchReleased i e s = { s with
      gnss := { s.gnss with notches := (notchReleased i e s).gnss.notches }, clk := (notchReleased i e s).clk
      aon := (notchReleased i e s).aon, time := (notchReleased i e s).time } :=
  ⟨kget_kdel_same .., fun _ hj => kget_kdel_other _ _ hj, advanceClk_clk .., rfl⟩

theorem releaseNotch_of_standing {s : State} {i : Nat} {x : Notch} (hx : kget s.gnss.notches i = some x) (hbelow : x.below = none) :
    releaseNotch i s = s := by
  unfold releaseNotch
  rw [hx]
  dsimp only
  rw [hbelow]

theorem releaseNotch_of_below {s : State} {i t0 : Nat} {x : Notch} (hx : kget s.gnss.notches i = some x) (hbelow : x.below = some t0)
    (hpath : pathRuns s (i / 8) = true) : releaseNotch i s = notchReleased i (t0 + 10 ^ 8) s := by
  unfold releaseNotch
  rw [hx]
  dsimp only
  rw [hbelow]
  exact if_neg (not_not.mpr hpath)

/-! ### JAM (R148) -/

/-- A path's JAM that changes at a moment. -/
def jamChanged (p : Nat) (on : Bool) (e : Nat) (s : State) : State := jamTo p on (advanceClk e s)

theorem jamChanged_leaves (p : Fin 6) (on : Bool) (e : Nat) (s : State) :
    (jamChanged p on e s).gnss.paths[p].jam = on ∧ regBit (jamChanged p on e s) 0x030090 (if on then 3 else 4) = true ∧
    (jamChanged p on e s).clk = max s.clk e ∧ ∀ q : Fin 6, q ≠ p → (jamChanged p on e s).gnss.paths[q] = s.gnss.paths[q] := by
  have hpaths : (jamChanged p on e s).gnss.paths = vmod s.gnss.paths p fun x => { x with jam := on } := by
    rw [jamChanged, jamTo, note_gnss, raise_gnss]
    rfl
  refine ⟨by rw [hpaths, getElem_vmod_fin], ?_, ?_, fun q hq => by rw [hpaths, getElem_vmod_ne _ _ hq]⟩
  · rw [jamChanged, jamTo, regBit_note (by decide)]
    exact regBit_raise_gnss _ (by cases on <;> decide)
  · rw [jamChanged, jamTo, note_clk, raise_clk]
    exact advanceClk_clk ..

section

variable {s : State} {p : Fin 6} (hrun : Running s) (hgnss : gnssRuns s = true)

include hrun hgnss

theorem exec_jamSet (hpath : pathRuns s p = true) {t0 : Nat} (hjam : s.gnss.paths[p].jam = false) (habove : s.gnss.paths[p].above = some t0) :
    exec (.jamSet p) s = .next (jamChanged p true (t0 + 10 ^ 9) s) := by
  refine exec_gnss rfl hrun hgnss ?_
  rw [jamSet, vget_fin, habove]
  exact if_neg (not_or.mpr ⟨ne_true_of_eq_false hjam, not_not.mpr hpath⟩)

theorem exec_jamSet_idle (h : s.gnss.paths[p].jam = true ∨ s.gnss.paths[p].above = none) : exec (.jamSet p) s = .next s := by
  refine exec_gnss rfl hrun hgnss ?_
  rw [jamSet, vget_fin]
  obtain hjam | hnone := h
  · split
    · exact if_pos (.inl hjam)
    · rfl
  · rw [hnone]

theorem exec_jamClear (hpath : pathRuns s p = true) {t0 : Nat} (hjam : s.gnss.paths[p].jam = true) (hbelow : s.gnss.paths[p].below = some t0) :
    exec (.jamClear p) s = .next (jamChanged p false (t0 + 10 ^ 10) s) := by
  refine exec_gnss rfl hrun hgnss ?_
  rw [jamClear, vget_fin, hbelow]
  exact if_neg (not_or.mpr ⟨not_not.mpr hjam, not_not.mpr hpath⟩)

theorem exec_jamClear_idle (h : s.gnss.paths[p].jam = false ∨ s.gnss.paths[p].below = none) : exec (.jamClear p) s = .next s := by
  refine exec_gnss rfl hrun hgnss ?_
  rw [jamClear, vget_fin]
  obtain hjam | hnone := h
  · split
    · exact if_pos (.inl (ne_true_of_eq_false hjam))
    · rfl
  · rw [hnone]

end

end Sys2Proof.Machine

open Sys2Proof Sys2Proof.Machine

/-- Settles O20: each event of a supply, a channel, a notch and a path is its own equation, from which what it leaves is read. -/
theorem gnssChannelsNotchesAndBias : Obligations.GnssChannelsNotchesAndBias := by
  refine ⟨fun s b ma hrun hgnss => ⟨fun hen => ?disabled, fun hen hon => antBiasSample_enabled ma hrun hgnss hen hon, fun hen hshort hoff =>
      ⟨exec_gnss rfl hrun hgnss (antSample_tripped ma hen hshort hoff), antBiasRetry_tripped hrun hgnss hen hshort hoff⟩⟩,
    fun s n c i d hrun hgnss hc => channel_event hrun hgnss hc,
    fun s p l noise gain hrun hgnss => ⟨exec_notchSpectrum_unpowered hrun hgnss l noise gain, fun hpath =>
      ⟨_, exec_notchSpectrum hrun hgnss l noise gain hpath, spectrumAt_frame .., spectrumAt_clk .., fun i hi => spectrumAt_other _ _ _ _ _ _ hi,
        fun hoff => spectrumAt_disabled _ _ _ _ _ hoff⟩⟩,
    fun s p x noise gain hrun hgnss hpath hen hnone => ⟨_, exec_notchSpectrum hrun hgnss [x] noise gain hpath, ?line⟩,
    fun s i n hrun hgnss hn => ⟨fun t0 hbelow hpath => ?released, fun hbelow => exec_gnss rfl hrun hgnss (releaseNotch_of_standing hn hbelow)⟩,
    fun s p hrun hgnss hpath => ⟨fun l noise gain => notchSpectrum_leaves l noise gain hrun hgnss hpath, fun t0 hjam habove =>
      ⟨_, exec_jamSet hrun hgnss hpath hjam habove, jamChanged_leaves ..⟩, exec_jamSet_idle hrun hgnss, fun t0 hjam hbelow =>
      ⟨_, exec_jamClear hrun hgnss hpath hjam hbelow, jamChanged_leaves ..⟩, exec_jamClear_idle hrun hgnss⟩⟩
  case disabled =>
    obtain ⟨hm, hregs⟩ := antSample_disabled ma hen
    exact after_gnss rfl hrun hgnss ⟨by rw [hm.same], by rw [hm.same], hm.other, hregs⟩
  case line =>
    generalize s.gnss.paths[p].specAt + 10 ^ 6 = e
    obtain ⟨k, hk, hnotches⟩ := spectrumAt_single p e noise gain.toNat x hen hnone
    exact ⟨fun hhigh => ⟨k, hnotches.trans (if_neg (by omega)), hk⟩, fun hlow => hnotches.trans (if_pos hlow)⟩
  case released =>
    exact ⟨_, exec_gnss rfl hrun hgnss (releaseNotch_of_below hn hbelow hpath), notchReleased_leaves ..⟩

end

section
/-! Frames, tables and allotments (07_lode_tables.md R221 to R234; 08_field_grid.md R266; 12_packet_switch.md R384 to R397): what their
work leaves of the baseband, the reference, the mode, the loader and time. -/

namespace Sys2Proof.Machine

open Sys2Proof

/-- The part beside its frames, tables and allotments, as far as a measurement epoch is asked of it. -/
def trafficRest (s : State) : Gnss × Rtk × Sys × Parison × TimeB := (s.gnss, s.rtk, s.sys, s.parison, s.time)

theorem parts_of_trafficRest {s t : State} (h : trafficRest t = trafficRest s) :
    t.gnss = s.gnss ∧ t.rtk = s.rtk ∧ t.sys = s.sys ∧ t.parison = s.parison ∧ t.time = s.time := by
  simpa only [trafficRest, Prod.mk.injEq] using h

/-- A fold of steps that keep it keeps it. -/
theorem trafficRest_foldl {α : Type} {f : State → α → State} (h : ∀ s a, trafficRest (f s a) = trafficRest s) (l : List α) (s : State) :
    trafficRest (l.foldl f s) = trafficRest s := foldl_keep trafficRest h l s

section

variable (s : State)

@[simp] theorem trafficRest_bump (o e : Nat) : trafficRest (bump o e s) = trafficRest s := rfl

@[simp] theorem trafficRest_bumpBy (o e n : Nat) : trafficRest (bumpBy o e n s) = trafficRest s := rfl

@[simp] theorem trafficRest_raise (b i : Nat) : trafficRest (raise b i s) = trafficRest s := by simp [trafficRest]

@[simp] theorem trafficRest_setQ (k : Nat) (f : SwQueue → SwQueue) : trafficRest (setQ k f s) = trafficRest s := rfl

@[simp] theorem trafficRest_setPort (p : Nat) (f : SwPort → SwPort) : trafficRest (setPort p f s) = trafficRest s := rfl

@[simp] theorem trafficRest_setInst (i : Inst) : trafficRest (setInst i s) = trafficRest s := rfl

@[simp] theorem trafficRest_bumpLode (pipe : Bool) (ev : Nat) : trafficRest (bumpLode pipe ev s) = trafficRest s := rfl

@[simp] theorem trafficRest_bumpPort (p ev : Nat) : trafficRest (bumpPort p ev s) = trafficRest s := rfl

@[simp] theorem trafficRest_bumpQ (k ev : Nat) : trafficRest (bumpQ k ev s) = trafficRest s := rfl

/-! ### Queues of the switch (R391, R396) -/

@[simp] theorem trafficRest_withPause (f : State → State) : trafficRest (withPause f s) = trafficRest (f s) :=
  withPause_keep trafficRest (fun b i u => trafficRest_raise u b i) f s

@[simp] theorem trafficRest_swAbove (k : Nat) : trafficRest (swAbove k s) = trafficRest s := rfl

@[simp] theorem trafficRest_refuseCopy (k cause : Nat) : trafficRest (refuseCopy k cause s) = trafficRest s := by
  rw [refuseCopy, trafficRest_raise, trafficRest_bumpQ, trafficRest_setQ]

@[simp] theorem trafficRest_countNoBuffer (p r : Nat) (f : QFrame) : trafficRest (countNoBuffer p r f s) = trafficRest s := by
  simp only [countNoBuffer, apply_ite trafficRest, trafficRest_bump, ite_self]

theorem trafficRest_lowerSlack (p cost j : Nat) : trafficRest (lowerSlack p cost s j) = trafficRest s := by
  simp only [lowerSlack, apply_ite trafficRest, trafficRest_setQ, ite_self]

theorem trafficRest_cutWire (p : Nat) : trafficRest (cutWire p s) = trafficRest s := by
  unfold cutWire
  split
  · simp only [apply_ite trafficRest, trafficRest_bumpPort, trafficRest_setQ, trafficRest_setPort, ite_self]
  · rfl

theorem trafficRest_enqueue (p q c : Nat) (f : QFrame) : trafficRest (enqueue p q c f s) = trafficRest s := by
  obtain ⟨w, t, ht, he⟩ := enqueue_eq p q c f s
  have hplaced : trafficRest t = trafficRest s := by
    rw [ht, trafficRest_bumpQ, trafficRest_withPause, trafficRest_swAbove, trafficRest_setQ, trafficRest_setPort]
    exact trafficRest_foldl (fun u j => trafficRest_lowerSlack u p _ j) _ s
  rw [he, apply_ite trafficRest, trafficRest_cutWire, ite_self, hplaced]

theorem trafficRest_enqueueFrame (p q : Nat) (f : QFrame) : trafficRest (enqueueFrame p q f s) = trafficRest s := by
  simp only [enqueueFrame, apply_ite trafficRest, trafficRest_enqueue, trafficRest_refuseCopy, trafficRest_countNoBuffer, ite_self]

/-! ### Lookups and learning (R230 to R234) -/

theorem trafficRest_learnOne (r : LearnReq) (i : Inst) : trafficRest (learnOne r s i) = trafficRest s := by
  simp only [learnOne, apply_ite trafficRest, trafficRest_raise, trafficRest_bumpLode, trafficRest_setInst, ite_self]

theorem trafficRest_learn (r : LearnReq) : trafficRest (learn r s) = trafficRest s := by
  simp only [learn, apply_ite trafficRest, trafficRest_foldl (fun u i => trafficRest_learnOne u r i), ite_self]

theorem trafficRest_settleOccLimit (m : Nat) : trafficRest (settleOccLimit m s) = trafficRest s := by
  simp only [settleOccLimit, apply_ite trafficRest, trafficRest_raise]
  split
  · rfl
  · exact ite_self _

theorem trafficRest_excess (d : TableDesc) (pipe : Bool) (src : Nat) : trafficRest (excess d pipe src s) = trafficRest s := by
  unfold excess
  split
  · rfl
  · rfl
  · exact trafficRest_settleOccLimit ..

@[simp] theorem trafficRest_countLookup (pipe miss : Bool) : trafficRest (countLookup pipe miss s) = trafficRest s := by
  simp only [countLookup, apply_ite trafficRest, trafficRest_bumpLode, ite_self]

theorem trafficRest_sourceOne (f : InFrame) (k : LodeKey) (d : TableDesc) : trafficRest (sourceOne f k d s).2 = trafficRest s := by
  unfold sourceOne
  dsimp only
  split
  · rw [trafficRest_excess, trafficRest_learn, trafficRest_countLookup]
  · rw [trafficRest_learn, trafficRest_countLookup]

theorem trafficRest_sourceLookup (f : InFrame) : trafficRest (sourceLookup f s).2 = trafficRest s := by
  unfold sourceLookup
  split
  · exact trafficRest_sourceOne ..
  · rfl

/-! ### Forwarding (R384, R396) -/

theorem trafficRest_bridge (f : InFrame) : trafficRest (bridge f s).2 = trafficRest s := by
  unfold bridge
  dsimp only
  split
  · exact trafficRest_countLookup ..
  · split
    · exact trafficRest_countLookup ..
    · split
      · split
        · rw [trafficRest_bumpPort, trafficRest_countLookup]
        · exact trafficRest_countLookup ..
      · exact trafficRest_countLookup ..

theorem trafficRest_routeHit (f : InFrame) (ofs : Nat) (v6 : Bool) (r : LodeResult) : trafficRest (routeHit f ofs v6 r s).2 = trafficRest s := by
  unfold routeHit
  split
  · split
    · rfl
    · split
      · rfl
      · rfl
  · rfl

theorem trafficRest_route (f : InFrame) (ofs : Nat) (v6 : Bool) : trafficRest (route f ofs v6 s).2 = trafficRest s := by
  unfold route
  dsimp only
  split
  · rw [trafficRest_bumpPort, trafficRest_countLookup]
  · rw [trafficRest_routeHit, trafficRest_countLookup]

theorem trafficRest_forward (f : InFrame) : trafficRest (forward f s).2 = trafficRest s := by
  have hsource : trafficRest (if f.parse.acts.testBit 8 ∨ f.noLearn then (false, s) else sourceLookup f s).2 = trafficRest s := by
    split
    · rfl
    · exact trafficRest_sourceLookup s f
  unfold forward
  dsimp only
  generalize (if f.parse.acts.testBit 8 ∨ f.noLearn then (false, s) else sourceLookup f s) = r at hsource ⊢
  split
  · exact hsource
  · split
    · split
      · rw [trafficRest_route, hsource]
      · rw [trafficRest_bridge, hsource]
    · rw [trafficRest_bridge, hsource]

theorem trafficRest_offerGo (f : InFrame) (l : List Copy) : trafficRest (offerGo f l s).2 = trafficRest s := by
  induction l generalizing s with
  | nil => rfl
  | cons c l ih => exact (ih _).trans (trafficRest_enqueueFrame ..)

theorem trafficRest_ingress (f : InFrame) : trafficRest (ingress f s).2 = trafficRest s := by
  unfold ingress
  split
  · rfl
  · split
    · rfl
    · exact (trafficRest_offerGo ..).trans (trafficRest_forward ..)

/-- A frame that a block of the part sends leaves the rest of the part. -/
theorem trafficRest_injectFrame (p : Nat) (bs : Bytes) : trafficRest (injectFrame p bs s) = trafficRest s := by
  unfold injectFrame
  split
  · unfold arrive
    split
    · rfl
    · exact trafficRest_ingress ..
  · rfl

/-! ### Written entries (R221 to R224) -/

theorem trafficRest_commitWrite (w : HeldWrite) (x : Inst × Bool) : trafficRest (commitWrite w x s) = trafficRest s := by
  unfold commitWrite
  split
  · rfl
  · simp only [commitInst, apply_ite trafficRest, trafficRest_bumpLode, trafficRest_setInst, ite_self]

theorem trafficRest_writeEntry {d : TableDesc} {e : LodeEntry} {s t : State} (h : writeEntry d e s = some t) : trafficRest t = trafficRest s := by
  unfold writeEntry at h
  split at h
  · cases h
  · next l _ =>
    obtain rfl := Option.some.inj h
    exact trafficRest_foldl (fun u x => trafficRest_commitWrite u _ x) l (drawn64 s)

theorem trafficRest_deleteWritten (d : TableDesc) (k : LodeKey) : trafficRest (deleteWritten d k s) = trafficRest s := rfl

theorem trafficRest_runItems {l : List BatchItem} {s t : State} (h : runItems l s = some t) : trafficRest t = trafficRest s := by
  induction l generalizing s with
  | nil => rw [← Option.some.inj h]
  | cons x l ih =>
    cases x with
    | write k e =>
      unfold runItems at h
      split at h
      · split at h
        · next u hu => exact (ih h).trans (trafficRest_writeEntry hu)
        · cases h
      · cases h
    | delete k e =>
      unfold runItems at h
      split at h
      · exact (ih h).trans (trafficRest_deleteWritten ..)
      · exact ih h

theorem trafficRest_clearCells (d : TableDesc) (id : BitVec 16) (l : List Cell) : trafficRest (clearCells d id l s) = trafficRest s := by
  unfold clearCells runBatch
  dsimp only
  split
  · rfl
  · generalize hrun : runItems _ s = r
    cases r with
    | none => rfl
    | some t => exact trafficRest_runItems hrun

theorem trafficRest_clearChunks (d : TableDesc) (id : BitVec 16) (n : Nat) (l : List Cell) :
    trafficRest (clearChunks d id n l s) = trafficRest s := by
  induction n generalizing l s with
  | zero => rfl
  | succ n ih =>
    rw [clearChunks]
    split
    · rfl
    · rw [ih, trafficRest_clearCells]

/-! ### Allotments and launches at a step (R119, R266) -/

theorem trafficRest_clearAllot (a : Allot) : trafficRest (clearAllot a s) = trafficRest s := by
  unfold clearAllot
  split
  · rfl
  · exact trafficRest_clearChunks ..

theorem trafficRest_endAllots (p : Allot → Bool) : trafficRest (endAllots p s) = trafficRest s :=
  trafficRest_foldl (fun u a => trafficRest_clearAllot u a) _ s

theorem trafficRest_dropLaunches (k : Nat) : trafficRest (dropLaunches k s) = trafficRest s := by
  unfold dropLaunches
  dsimp only
  split
  · rfl
  · rw [trafficRest_foldl fun u _ => trafficRest_refuseCopy u k 0xA, trafficRest_withPause, trafficRest_swAbove, trafficRest_setQ]

theorem trafficRest_setHooks (q : Quench) (d : Dispatch) (a : Assay) :
    trafficRest { s with quench := q, dispatch := d, assay := a } = trafficRest s := rfl

/-- What a step of served time does in other blocks. -/
theorem trafficRest_stepHooks : trafficRest (stepHooks s) = trafficRest s := by
  have hdropped := trafficRest_foldl (fun u k => trafficRest_dropLaunches u k) (s.switch.queues.map Prod.fst) s
  unfold stepHooks
  dsimp only
  generalize List.foldl _ s _ = u at hdropped ⊢
  rw [trafficRest_setHooks, apply_ite trafficRest, trafficRest_endAllots, ite_self, hdropped]

end

end Sys2Proof.Machine
end

section
/-! GNSS time at a measurement epoch (04_timebase.md R110, R131 to R135, R587): what a domain that is disciplined, returns, steps or is
lost leaves of the epoch. -/

namespace Sys2Proof.Machine

open Sys2Proof

/-! ### What the timebase leaves of an epoch -/

/-- The epoch in the window and its banks, the mode and the loader. -/
def epochRest (s : State) : Option GnssEpoch × Nat × Vector (Option GnssEpoch) 4 × Sys × Parison :=
  (s.gnss.latched, s.gnss.seq, s.gnss.banks, s.sys, s.parison)

theorem epochRest_of_parts {s t : State} (hgnss : t.gnss = s.gnss) (hsys : t.sys = s.sys) (hparison : t.parison = s.parison) :
    epochRest t = epochRest s := by simp only [epochRest, hgnss, hsys, hparison]

theorem epochRest_of_trafficRest {s t : State} (h : trafficRest t = trafficRest s) : epochRest t = epochRest s := by
  obtain ⟨hgnss, -, hsys, hparison, -⟩ := parts_of_trafficRest h
  exact epochRest_of_parts hgnss hsys hparison

section

variable (s : State)

@[simp] theorem epochRest_raise (b i : Nat) : epochRest (raise b i s) = epochRest s := by simp [epochRest]

@[simp] theorem epochRest_note (code sev p0 p1 p2 : Nat) : epochRest (note code sev p0 p1 p2 s) = epochRest s := by simp [epochRest]

@[simp] theorem epochRest_setDom (a : Bool) (d : Domain) : epochRest (setDom a d s) = epochRest s := by simp [epochRest]

theorem epochRest_setRegFld (off hi lo v : Nat) : epochRest (setRegFld off hi lo v s) = epochRest s := rfl

@[simp] theorem epochRest_setTime (t : TimeB) : epochRest { s with time := t } = epochRest s := rfl

@[simp] theorem epochRest_setStepped (t : TimeB) (b : Bool) : epochRest { s with time := t, gnss.stepped := b } = epochRest s := rfl

@[simp] theorem epochRest_setRtk (r : Rtk) : epochRest { s with rtk := r } = epochRest s := rfl

theorem epochRest_setPend (a : Bool) (p : Int) : epochRest (setPend a p s) = epochRest s := by
  simp only [setPend, apply_ite epochRest, epochRest_raise, epochRest_setDom, ite_self]

theorem epochRest_discipline (a : Bool) (e : Int) (hz : Nat) : epochRest (discipline a e hz s) = epochRest s := by
  rw [discipline, epochRest_setDom, epochRest_setPend]

/-! ### A step of served time (R118, R119) -/

theorem epochRest_fireCompare (n : Nat) : epochRest (fireCompare n s) = epochRest s := by
  obtain ⟨v, hfired⟩ := fireCompare_eq s n
  rw [hfired, withPulses, epochRest_setTime, epochRest_raise, epochRest_setRegFld]

theorem epochRest_fireDue : epochRest (fireDue s) = epochRest s :=
  foldl_keep epochRest (fun u n => by rw [apply_ite epochRest, epochRest_fireCompare, ite_self]) _ s

theorem epochRest_stepDom (a : Bool) (e : Int) : epochRest (stepDom a e s) = epochRest s := by
  unfold stepDom
  dsimp only
  split
  · rw [epochRest_fireDue, realignTicks, epochRest_setTime, epochRest_setStepped, epochRest_setTime, epochRest_raise, epochRest_note,
      epochRest_setTime, epochRest_setDom]
  · rw [epochRest_raise, epochRest_note, epochRest_setTime, epochRest_setDom]

theorem epochRest_stepAll (a : Bool) (e : Int) : epochRest (stepAll a e s) = epochRest s := by
  unfold stepAll
  dsimp only
  split
  · rw [epochRest_of_trafficRest (trafficRest_stepHooks _), epochRest_setRtk, epochRest_stepDom]
  · exact epochRest_stepDom ..

/-! ### A source that becomes valid (R133) -/

theorem epochRest_rejoinSlow (a : Bool) (e : Int) : epochRest (rejoinSlow a e s) = epochRest s := by
  simp only [rejoinSlow, apply_ite epochRest, epochRest_note, epochRest_raise, epochRest_setDom, ite_self]

theorem epochRest_sourceValid (a : Bool) (e : Int) : epochRest (sourceValid a e s) = epochRest s := by
  simp only [sourceValid, apply_ite epochRest, epochRest_stepAll, epochRest_rejoinSlow, epochRest_setPend, epochRest_raise, epochRest_setTime,
    epochRest_setDom, ite_self]

theorem epochRest_gnssDomain (e : EpochMeas) (a : Bool) : epochRest (gnssDomain e a s) = epochRest s := by
  simp only [gnssDomain, apply_ite epochRest, epochRest_discipline, epochRest_sourceValid, ite_self]

/-! ### Sources that are lost (R112, R131, R135) -/

theorem epochRest_loseSources (l : List Bool) : epochRest (loseSources l s) = epochRest s := by
  have hdropped (gone : List Bool) : epochRest (gone.foldl (fun u a => dropSource a u) s) = epochRest s :=
    foldl_keep epochRest (fun u a => by rw [dropSource, epochRest_raise, epochRest_setDom]) gone s
  unfold loseSources
  dsimp only
  rw [apply_ite epochRest, selectDom, epochRest_raise, epochRest_setTime, ite_self, hdropped]

theorem valid_dropSource (a b : Bool) : (dom (dropSource a s) b).valid = (!(a == b) && (dom s b).valid) := by
  rw [dropSource, dom_raise]
  cases a
  · cases b <;> rfl
  · cases b <;> rfl

theorem valid_dropSources (l : List Bool) (b : Bool) :
    (dom (l.foldl (fun u a => dropSource a u) s) b).valid = (!l.contains b && (dom s b).valid) := by
  induction l generalizing s with
  | nil => rfl
  | cons a l ih =>
    rw [List.foldl_cons, ih, valid_dropSource, List.contains_cons, Bool.not_or, Bool.and_assoc, Bool.and_left_comm, BEq.comm]

/-- A source named as lost is invalid. -/
theorem valid_loseSources {l : List Bool} {b : Bool} (hb : b ∈ l) : (dom (loseSources l s) b).valid = false := by
  have hdropped : (dom ((l.filter fun a => (dom s a).valid).foldl (fun u a => dropSource a u) s) b).valid = false := by
    rw [valid_dropSources]
    cases hv : (dom s b).valid with
    | false => exact Bool.and_false _
    | true => simp [hb, hv]
  unfold loseSources
  dsimp only
  split
  · rw [dom_selectDom, hdropped]
  · exact hdropped

/-! ### GNSS time (R110, R587) -/

theorem epochRest_gnssTimes (e : EpochMeas) (clean : Bool) : epochRest (gnssTimes e clean s) = epochRest s := by
  simp only [gnssTimes, apply_ite epochRest, epochRest_gnssDomain, epochRest_loseSources]
  exact ite_self _

/-- R110: at an epoch that is not clean every domain that follows GNSS loses it. -/
theorem gnssTimes_unclean (e : EpochMeas) {a : Bool} (ha : sourceOf s a = 1) : (dom (gnssTimes e false s) a).valid = false := by
  refine valid_loseSources { s with gnss.sats := e.sats } (List.mem_filter.mpr ⟨?_, beq_iff_eq.mpr ha⟩)
  cases a <;> decide

end

end Sys2Proof.Machine
end

section
/-! A measurement epoch (05_gnss_baseband.md R143, R149 to R161): what the spoof check, the latch, the reference and GNSS time each leave,
from the last epoch's bank to the allocator's run that has waited. -/

namespace Sys2Proof.Machine

open Sys2Proof

/-! ### Sorted lists -/

theorem mem_insertBy {α : Type} (le : α → α → Bool) (x y : α) (l : List α) : y ∈ insertBy le x l ↔ y = x ∨ y ∈ l := by
  induction l with
  | nil => simp [insertBy]
  | cons z l ih =>
    unfold insertBy
    split
    · rw [List.mem_cons, ih, List.mem_cons, or_left_comm]
    · exact List.mem_cons

theorem mem_sortBy {α : Type} (le : α → α → Bool) (y : α) (l : List α) : y ∈ sortBy le l ↔ y ∈ l := by
  have hgo (acc : List α) : y ∈ l.foldl (fun a x => insertBy le x a) acc ↔ y ∈ l ∨ y ∈ acc := by
    induction l generalizing acc with
    | nil => simp
    | cons x l ih => rw [List.foldl_cons, ih, mem_insertBy, List.mem_cons, or_left_comm, or_assoc]
  rw [sortBy, hgo]
  simp

/-! ### The spoof check and the latch (R149, R150, R158) -/

/-- What of the part no latch of an epoch changes: the reference, the mode, the loader and time. -/
def latchRest (s : State) : Rtk × Sys × Parison × TimeB := (s.rtk, s.sys, s.parison, s.time)

theorem parts_of_latchRest {s t : State} (h : latchRest t = latchRest s) :
    t.rtk = s.rtk ∧ t.sys = s.sys ∧ t.parison = s.parison ∧ t.time = s.time := by
  simpa only [latchRest, Prod.mk.injEq] using h

section

variable (e : EpochMeas) (s : State)

theorem spoofEpoch_leaves : latchRest (spoofEpoch e s) = latchRest s ∧ ∃ x, (spoofEpoch e s).gnss = { s.gnss with spoof := x } := by
  unfold spoofEpoch
  dsimp only
  generalize spoofNext s _ _ _ _ = x
  split
  · exact ⟨rfl, _, rfl⟩
  · split
    · exact ⟨by simp [latchRest], _, by rw [note_gnss, raise_gnss]⟩
    · split
      · exact ⟨by simp [latchRest], _, by rw [raise_gnss]⟩
      · exact ⟨rfl, _, rfl⟩

theorem latchEpoch_rest (was : SpoofState) : latchRest (latchEpoch e was s) = latchRest s := rfl

/-- R158, R159: the epoch latched has the next sequence number, and records of channels in TRACK. -/
theorem latchEpoch_latched (was : SpoofState) :
    (∃ x, (latchEpoch e was s).gnss.latched = some x ∧ x.seq = s.gnss.seq ∧ ∀ r ∈ x.records, (chanOf s r.chan).state = .track) ∧
    (latchEpoch e was s).gnss.seq = (s.gnss.seq + 1) % 2 ^ 32 ∧ (latchEpoch e was s).gnss.banks = s.gnss.banks := by
  refine ⟨⟨_, rfl, rfl, fun r hr => ?_⟩, rfl, rfl⟩
  obtain ⟨m, hm, rfl⟩ := List.mem_map.mp hr
  obtain ⟨-, hrec⟩ := List.mem_filter.mp ((mem_sortBy _ _ _).mp hm)
  simp only [recorded, Bool.and_eq_true, beq_iff_eq] at hrec
  exact hrec.1.1

theorem releaseExcluded_rest : latchRest (releaseExcluded s) = latchRest s ∧ epochRest (releaseExcluded s) = epochRest s := ⟨rfl, rfl⟩

/-! ### The reference function (R164 to R173) -/

theorem closeBlock_eq : ∃ r, closeBlock s = { s with rtk := r } := by
  unfold closeBlock
  split
  · exact ⟨_, rfl⟩
  · exact ⟨_, rfl⟩

theorem surveyEpoch_eq : ∃ r, surveyEpoch e s = { s with rtk := r } := by
  unfold surveyEpoch
  split
  · obtain ⟨r, hclosed⟩ := closeBlock_eq s
    rw [hclosed]
    dsimp only
    split
    · exact ⟨_, rfl⟩
    · exact ⟨_, rfl⟩
  · split
    · exact ⟨_, rfl⟩
    · exact ⟨_, rfl⟩
  · exact ⟨_, rfl⟩

theorem movedEpoch_eq : ∃ r, movedEpoch e s = { s with rtk := r } := by
  unfold movedEpoch
  split
  · exact ⟨_, rfl⟩
  · exact ⟨_, rfl⟩

/-- What of the part the reference function leaves at an epoch: the epoch, the mode, the loader and the domains. -/
theorem referenceEpoch_leaves (clean : Bool) :
    epochRest (referenceEpoch e clean s) = epochRest s ∧ ∀ a, dom (referenceEpoch e clean s) a = dom s a := by
  obtain ⟨r, hsurvey⟩ := surveyEpoch_eq e s
  obtain ⟨r', hmoved⟩ := movedEpoch_eq e (surveyEpoch e s)
  have htaken : ∃ r, takeBase e clean (movedEpoch e (surveyEpoch e s)) = { s with rtk := r } := by
    rw [hmoved, hsurvey]
    exact ⟨_, rfl⟩
  obtain ⟨r'', htaken⟩ := htaken
  unfold referenceEpoch
  rw [htaken]
  dsimp only
  repeat' split
  all_goals exact ⟨rfl, fun _ => rfl⟩

theorem dom_congr {s t : State} (h : t.time = s.time) (a : Bool) : dom t a = dom s a := by rw [dom, dom, h]

theorem sourceOf_congr {s t : State} (hsys : t.sys = s.sys) {a : Bool} (hdom : (dom t a).source = (dom s a).source) :
    sourceOf t a = sourceOf s a := by rw [sourceOf, sourceOf, hsys, hdom]

theorem posFixed_congr {s t : State} (h : t.rtk.refState = s.rtk.refState) : posFixed t = posFixed s := by rw [posFixed, posFixed, h]

/-- The epoch latched, once the spoof check has run and excluded pairs have left their channels. -/
def epochLatched (e : EpochMeas) (s : State) : State := releaseExcluded (latchEpoch e s.gnss.spoof.state (spoofEpoch e s))

theorem measurementEpoch_eq : measurementEpoch e s =
    gnssTimes e (cleanEpoch e (epochLatched e s)) (referenceEpoch e (cleanEpoch e (epochLatched e s)) (epochLatched e s)) := rfl

theorem epochLatched_rest : latchRest (epochLatched e s) = latchRest s := by
  rw [epochLatched, (releaseExcluded_rest _).1, latchEpoch_rest, (spoofEpoch_leaves e s).1]

/-- What an epoch latched from a state is: its number, its channels, and the banks, the mode and the loader as they were. -/
structure Latches (s t : State) : Prop where
  latched : ∃ x, t.gnss.latched = some x ∧ x.seq = s.gnss.seq ∧ ∀ r ∈ x.records, (chanOf s r.chan).state = .track
  seq : t.gnss.seq = (s.gnss.seq + 1) % 2 ^ 32
  banks : t.gnss.banks = s.gnss.banks
  sys : t.sys = s.sys
  parison : t.parison = s.parison

theorem Latches.then {s t u : State} (h : Latches s t) (k : epochRest u = epochRest t) : Latches s u := by
  obtain ⟨hlatched, hseq, hbanks, hsys, hparison⟩ : u.gnss.latched = t.gnss.latched ∧ u.gnss.seq = t.gnss.seq ∧ u.gnss.banks = t.gnss.banks ∧
      u.sys = t.sys ∧ u.parison = t.parison := by simpa only [epochRest, Prod.mk.injEq] using k
  exact ⟨hlatched ▸ h.latched, hseq.trans h.seq, hbanks.trans h.banks, hsys.trans h.sys, hparison.trans h.parison⟩

theorem epochLatched_latches : Latches s (epochLatched e s) := by
  obtain ⟨-, v, hspoof⟩ := spoofEpoch_leaves e s
  obtain ⟨⟨x, hx, hxseq, hrecords⟩, hseq, hbanks⟩ := latchEpoch_latched e (spoofEpoch e s) s.gnss.spoof.state
  obtain ⟨-, hsys, hparison, -⟩ := parts_of_latchRest (epochLatched_rest e s)
  rw [hspoof] at hxseq hseq hbanks
  refine ⟨⟨x, hx, hxseq, fun r hr => ?_⟩, hseq, hbanks, hsys, hparison⟩
  have htrack := hrecords r hr
  rwa [chanOf, hspoof] at htrack

/-- R152, R158: what a measurement epoch latches. -/
theorem measurementEpoch_latches : Latches s (measurementEpoch e s) := by
  refine (epochLatched_latches e s).then ?_
  rw [measurementEpoch_eq, epochRest_gnssTimes, (referenceEpoch_leaves ..).1]

/-- R110: without POS_FIXED or four satellites, no time that follows GNSS stays valid. -/
theorem measurementEpoch_unclean {e : EpochMeas} {s : State} (h : posFixed s = false ∨ e.sats < 4) {a : Bool} (ha : sourceOf s a = 1) :
    (dom (measurementEpoch e s) a).valid = false := by
  obtain ⟨hrtk, hsys, -, htime⟩ := parts_of_latchRest (epochLatched_rest e s)
  have hclean : cleanEpoch e (epochLatched e s) = false := by
    rw [cleanEpoch, posFixed_congr (congrArg Rtk.refState hrtk)]
    obtain hpos | hsats := h
    · rw [hpos, Bool.false_and, Bool.false_and]
    · rw [decide_eq_false (Nat.not_le.mpr hsats), Bool.and_false, Bool.false_and]
  obtain ⟨hrest, hdom⟩ := referenceEpoch_leaves e (epochLatched e s) false
  have hmode : (referenceEpoch e false (epochLatched e s)).sys = s.sys := (congrArg (fun v => v.2.2.2.1) hrest).trans hsys
  rw [measurementEpoch_eq, hclean]
  refine gnssTimes_unclean _ e ?_
  rw [sourceOf_congr hmode (by rw [hdom, dom_congr htime]), ha]

end

end Sys2Proof.Machine
end

section
/-! The allocator, burst tracking and the host's commands of the baseband (05_gnss_baseband.md R110, R140 to R143, R150, R154 to R161). -/

namespace Sys2Proof.Machine

open Sys2Proof

/-! ### The allocator (R140, R143) -/

theorem mem_of_mem_kset {α : Type} {l : List (Nat × α)} {k : Nat} {v : α} {p : Nat × α} (h : p ∈ kset l k v) : p = (k, v) ∨ p ∈ l := by
  induction l with
  | nil => exact .inl (List.mem_singleton.mp h)
  | cons x l ih =>
    unfold kset at h
    split at h
    · exact List.mem_cons.mp h
    · split at h
      · exact (List.mem_cons.mp h).imp_right (List.mem_cons_of_mem x)
      · obtain hx | hl := List.mem_cons.mp h
        · exact .inr (hx ▸ List.mem_cons_self)
        · exact (ih hl).imp_right (List.mem_cons_of_mem x)

/-- The channels and the allocator's counts replaced. -/
def withChans (l : List (Nat × Channel)) (unserved assigned : Nat) (s : State) : State :=
  { s with gnss := { s.gnss with chans := l, unserved := unserved, assigned := assigned } }

/-- From one state to the other channels have been given to pairs that are wanted, and no more. -/
def Assigns (want : List (Nat × Nat)) (s t : State) : Prop :=
  ∃ l n, t = withChans l n s.gnss.assigned s ∧ ∀ p ∈ l, p ∈ s.gnss.chans ∨ (p.2.sig, p.2.svid) ∈ want

theorem Assigns.trans {want : List (Nat × Nat)} {s t u : State} (h : Assigns want s t) (k : Assigns want t u) : Assigns want s u := by
  obtain ⟨l, n, rfl, hl⟩ := h
  obtain ⟨l', n', rfl, hl'⟩ := k
  exact ⟨l', n', rfl, fun p hp => (hl' p hp).elim (hl p) .inr⟩

theorem assigns_assignOne {want : List (Nat × Nat)} {x : Nat × Nat} (hx : x ∈ want) (s : State) : Assigns want s (assignOne x s) := by
  unfold assignOne
  split
  · exact ⟨_, _, rfl, fun p hp => .inl hp⟩
  · next n _ =>
    refine ⟨_, s.gnss.unserved, rfl, fun p hp => ?_⟩
    have hone {m : Nat} {l : List (Nat × Channel)} (h : p ∈ kset l m { state := .acquire, sig := x.1, svid := x.2 }) :
        p ∈ l ∨ (p.2.sig, p.2.svid) ∈ want :=
      (mem_of_mem_kset h).elim (fun hnew => .inr (hnew ▸ hx)) .inl
    split at hp
    · exact hone hp
    · exact (hone hp).elim hone .inr

theorem assigns_foldl {want l : List (Nat × Nat)} (hl : ∀ x ∈ l, x ∈ want) (s : State) :
    Assigns want s (l.foldl (fun s x => assignOne x s) s) := by
  induction l generalizing s with
  | nil => exact ⟨_, s.gnss.unserved, rfl, fun p hp => .inl hp⟩
  | cons x l ih =>
    exact (assigns_assignOne (hl x List.mem_cons_self) s).trans (ih (fun y hy => hl y (List.mem_cons_of_mem x hy)) _)

theorem of_mem_wanted {s : State} {sky : Option (List SkySat)} {sig svid : Nat} (h : (sig, svid) ∈ wanted s sky) :
    sig ∈ s.gnss.cfg.signals ∧ (sig, svid) ∉ s.gnss.excl := by
  obtain ⟨hmem, hexcl⟩ := List.mem_filter.mp h
  obtain ⟨g, hg, hsat⟩ := List.mem_flatMap.mp hmem
  obtain ⟨v, -, hv⟩ := List.mem_map.mp hsat
  obtain ⟨rfl, -⟩ := Prod.mk.inj hv
  exact ⟨hg, by simpa using hexcl⟩

theorem of_keeps {s : State} {sky : Option (List SkySat)} {c : Channel} (h : keeps s sky c = true) :
    c.state = .retired ∨ c.sig ∈ s.gnss.cfg.signals := by
  obtain hret | hkept := Bool.or_eq_true_iff.mp h
  · exact .inl (beq_iff_eq.mp hret)
  · exact .inr (List.contains_iff_mem.mp (Bool.and_eq_true_iff.mp hkept).1)

/-- R140, R143: the allocator moves channels alone; they serve enabled signals, and no excluded pair anew. -/
theorem allocate_leaves (sky : Option (List SkySat)) (s : State) : ∃ l n k, allocate sky s = withChans l n k s ∧
    ∀ p ∈ l, (p.2.state = .retired ∨ p.2.sig ∈ s.gnss.cfg.signals) ∧ (p ∈ s.gnss.chans ∨ (p.2.sig, p.2.svid) ∉ s.gnss.excl) := by
  have hwant : ∀ x ∈ (wanted (withChans (s.gnss.chans.filter fun p => keeps s sky p.2) 0 s.gnss.assigned s) sky).filter
      (fun x => !served (withChans (s.gnss.chans.filter fun p => keeps s sky p.2) 0 s.gnss.assigned s) x),
      x ∈ wanted s sky := fun x hx => (List.mem_filter.mp hx).1
  obtain ⟨l, n, hfold, hl⟩ := assigns_foldl hwant (withChans (s.gnss.chans.filter fun p => keeps s sky p.2) 0 s.gnss.assigned s)
  refine ⟨l, n, (l.filter (fun p => decide (p.1 < 256) && p.2.state != .retired)).length, ?_, fun p hp => ?_⟩
  · unfold allocate
    dsimp only
    rw [withChans] at hfold
    rw [hfold]
    rfl
  · obtain hkept | hnew := hl p hp
    · obtain ⟨hmem, hkeep⟩ := List.mem_filter.mp hkept
      exact ⟨of_keeps hkeep, .inl hmem⟩
    · obtain ⟨hsig, hexcl⟩ := of_mem_wanted hnew
      exact ⟨.inr hsig, .inr hexcl⟩

/-! ### Whole seconds (R154, R161) -/

theorem burstSwitch_leaves (s : State) : (burstSwitch s).gnss.burst = s.gnss.burstNext ∧ (burstSwitch s).gnss.allocDue = s.gnss.allocDue ∧
    (burstSwitch s).gnss.chans = s.gnss.chans ∧ epochRest (burstSwitch s) = epochRest s ∧ ∀ a, dom (burstSwitch s) a = dom s a := by
  unfold burstSwitch
  split
  · next h => exact ⟨h, rfl, rfl, rfl, fun _ => rfl⟩
  · exact ⟨rfl, rfl, rfl, rfl, fun _ => rfl⟩

/-- What a whole second leaves of the channels, of burst tracking and of the epoch. -/
theorem wholeSecond_leaves (sky : Option SkyView) (s : State) :
    (wholeSecond sky s).gnss.burst = s.gnss.burstNext ∧ (wholeSecond sky s).gnss.allocDue = none ∧
    (∀ p ∈ (wholeSecond sky s).gnss.chans, (p.2.state = .retired ∨ p.2.sig ∈ s.gnss.cfg.signals) ∧
      (p ∈ s.gnss.chans ∨ (p.2.sig, p.2.svid) ∉ s.gnss.excl)) ∧
    epochRest (wholeSecond sky s) = epochRest s ∧ ∀ a, dom (wholeSecond sky s) a = dom s a := by
  obtain ⟨l, n, k, halloc, hl⟩ := allocate_leaves (skyNow s sky) { s with gnss.allocDue := none }
  obtain ⟨hburst, hdue, hchans, hrest, hdom⟩ := burstSwitch_leaves (withChans l n k { s with gnss.allocDue := none })
  rw [wholeSecond, halloc]
  exact ⟨hburst, hdue, fun p hp => hl p (by rwa [hchans] at hp), hrest, hdom⟩

/-- The number of the next whole second replaced. -/
def withNextSec (n : Nat) (s : State) : State := { s with time.nextSec := n }

/-- R161: the run of a second whose epoch is still to come waits for it. -/
theorem allocateAt_eq (sky : Option SkyView) (t : Nat) (s : State) : ∃ n, allocateAt sky t s =
    if s.time.nextEpoch = t * epochHz s then { withNextSec n s with gnss.allocDue := some sky } else wholeSecond sky (withNextSec n s) :=
  ⟨_, rfl⟩

theorem epochHz_congr {s t : State} (h : t.gnss = s.gnss) : epochHz t = epochHz s := by rw [epochHz, epochHz, h]

@[simp] theorem advanceTo_gnss (target : Nat) (s : State) : (advanceTo target s).gnss = s.gnss :=
  advanceTo_keep State.gnss (fun _ _ => rfl) target s

@[simp] theorem advanceTo_rtk (target : Nat) (s : State) : (advanceTo target s).rtk = s.rtk :=
  advanceTo_keep State.rtk (fun _ _ => rfl) target s

@[simp] theorem advanceTo_parison (target : Nat) (s : State) : (advanceTo target s).parison = s.parison :=
  advanceTo_keep State.parison (fun _ _ => rfl) target s

theorem advance_nextEpoch (d : Nat) (s : State) : (advance d s).time.nextEpoch = s.time.nextEpoch := by
  change (if s.aon.mainRun then s.time.run d else s.time).nextEpoch = _
  split
  · rfl
  · rfl

@[simp] theorem advanceTo_nextEpoch (target : Nat) (s : State) : (advanceTo target s).time.nextEpoch = s.time.nextEpoch :=
  advanceTo_keep (fun t => t.time.nextEpoch) advance_nextEpoch target s

/-- Time that passes makes no domain valid or invalid, and moves no source. -/
theorem advance_domain (a : Bool) (d : Nat) (s : State) :
    ((dom (advance d s) a).valid, (dom (advance d s) a).source) = ((dom s a).valid, (dom s a).source) := by
  by_cases hmain : s.aon.mainRun = true
  · obtain ⟨m, hran⟩ := dom_advance hmain d a
    rw [hran]
    rfl
  · have htime : (advance d s).time = s.time := if_neg hmain
    rw [dom_congr htime]

theorem advanceTo_domain (a : Bool) (target : Nat) (s : State) :
    ((dom (advanceTo target s) a).valid, (dom (advanceTo target s) a).source) = ((dom s a).valid, (dom s a).source) :=
  advanceTo_keep (fun t => ((dom t a).valid, (dom t a).source)) (advance_domain a) target s

/-- R140: the allocator's run of a whole second. -/
theorem exec_gnssAllocate {s : State} (hrun : Running s) (hgnss : gnssRuns s = true) (sky : Option SkyView) :
    ∃ target, exec (.gnssAllocate sky) s = .next (allocateAt sky s.time.nextSec (advanceTo target s)) :=
  ⟨_, exec_gnss rfl hrun hgnss rfl⟩

theorem gnssAllocate_waits {s : State} (hrun : Running s) (hgnss : gnssRuns s = true) (sky : Option SkyView)
    (h : s.time.nextEpoch = s.time.nextSec * epochHz s) : After (.gnssAllocate sky) s fun t =>
      t.gnss = { s.gnss with allocDue := some sky } ∧ t.regs = s.regs := by
  obtain ⟨target, hexec⟩ := exec_gnssAllocate hrun hgnss sky
  obtain ⟨n, halloc⟩ := allocateAt_eq sky s.time.nextSec (advanceTo target s)
  rw [advanceTo_nextEpoch, epochHz_congr (advanceTo_gnss ..), if_pos h] at halloc
  rw [halloc] at hexec
  refine ⟨_, hexec, ?_, advanceTo_regs ..⟩
  exact congrArg (fun g : Gnss => { g with allocDue := some sky }) (advanceTo_gnss target s)

theorem gnssAllocate_runs {s : State} (hrun : Running s) (hgnss : gnssRuns s = true) (sky : Option SkyView)
    (h : s.time.nextEpoch ≠ s.time.nextSec * epochHz s) : After (.gnssAllocate sky) s fun t =>
      t.gnss.burst = s.gnss.burstNext ∧ t.gnss.allocDue = none ∧
      ∀ p ∈ t.gnss.chans, (p.2.state = .retired ∨ p.2.sig ∈ s.gnss.cfg.signals) ∧ (p ∈ s.gnss.chans ∨ (p.2.sig, p.2.svid) ∉ s.gnss.excl) := by
  obtain ⟨target, hexec⟩ := exec_gnssAllocate hrun hgnss sky
  obtain ⟨n, halloc⟩ := allocateAt_eq sky s.time.nextSec (advanceTo target s)
  rw [advanceTo_nextEpoch, epochHz_congr (advanceTo_gnss ..), if_neg h] at halloc
  rw [halloc] at hexec
  obtain ⟨hburst, hdue, hchans, -, -⟩ := wholeSecond_leaves sky (withNextSec n (advanceTo target s))
  have hsame : (withNextSec n (advanceTo target s)).gnss = s.gnss := advanceTo_gnss target s
  rw [hsame] at hburst hchans
  exact ⟨_, hexec, hburst, hdue, hchans⟩

/-! ### The burst window (R154) -/

theorem burstWindow_opens {s : State} (hrun : Running s) (hgnss : gnssRuns s = true) (hburst : s.gnss.burst = true) :
    After .burstWindow s fun t => t.gnss.window = true ∧ t.gnss.windowAt = t.clk ∧ (∀ p ∈ t.gnss.chans, p.2.gap = true) ∧
      t.gnss.seq = s.gnss.seq ∧ t.regs = s.regs := by
  have hopen : ∃ target, exec .burstWindow s = .next (openWindow (advanceTo target s)) :=
    ⟨_, exec_gnss rfl hrun hgnss (if_pos hburst)⟩
  obtain ⟨target, hexec⟩ := hopen
  refine ⟨_, hexec, rfl, rfl, fun p hp => ?_, (congrArg Gnss.seq (advanceTo_gnss target s) :), advanceTo_regs ..⟩
  obtain ⟨q, -, rfl⟩ := List.mem_map.mp hp
  rfl

/-! ### The banks of the window (R156) -/

theorem getElem?_vmod_same {α : Type} {n : Nat} (v : Vector α n) {i : Nat} (hi : i < n) (a : α) : (vmod v i fun _ => a)[i]? = some a := by
  simp [vmod, hi]

theorem getElem?_vmod_other {α : Type} {n : Nat} (v : Vector α n) {i k : Nat} (h : k ≠ i) (f : α → α) : (vmod v i f)[k]? = v[k]? := by
  unfold vmod
  split
  · exact Vector.getElem?_set_ne _ h.symm
  · rfl

/-- The window with the latched epoch in its bank. -/
def Gnss.banked (g : Gnss) (x : GnssEpoch) : Gnss :=
  { g with banks := vmod g.banks (x.seq % 4) (fun _ => some x), latched := none, lastSeq := x.seq, lastTime := x.time }

theorem writeBank_of_latched {s : State} {x : GnssEpoch} (h : s.gnss.latched = some x) :
    writeBank s = raise bGNSS 0 { s with gnss := s.gnss.banked x } := by
  unfold writeBank
  rw [h]
  rfl

theorem writeBank_of_none {s : State} (h : s.gnss.latched = none) : writeBank s = s := by
  unfold writeBank
  rw [h]

theorem epochWindowWritten_banked {s : State} {x : GnssEpoch} (hrun : Running s) (hgnss : gnssRuns s = true)
    (hx : s.gnss.latched = some x) : After .epochWindowWritten s fun t =>
      t.gnss.banks[x.seq % 4]? = some (some x) ∧ (∀ k, k ≠ x.seq % 4 → t.gnss.banks[k]? = s.gnss.banks[k]?) ∧ t.gnss.latched = none ∧
      t.gnss.lastSeq = x.seq ∧ t.gnss.lastTime = x.time ∧ regBit t 0x030090 0 = true ∧ t = { s with gnss := t.gnss, regs := t.regs } := by
  refine after_gnss rfl hrun hgnss ?_
  rw [writeBank_of_latched hx, raise_gnss]
  exact ⟨getElem?_vmod_same _ (by omega) _, fun k hk => getElem?_vmod_other _ hk _, rfl, rfl, rfl, regBit_raise_gnss _ (by decide),
    raise_eq_withRegs ..⟩

end Sys2Proof.Machine
end

section
/-! The measurement epoch as a command, and the host's commands of the baseband (05_gnss_baseband.md R110, R142, R143, R150, R152,
R156 to R158, R161). -/

namespace Sys2Proof.Machine

open Sys2Proof

/-! ### The instant of an epoch (R152, R156) -/

theorem ethSettle_leaves (s : State) : (ethSettle s).gnss = s.gnss ∧ (ethSettle s).rtk.refState = s.rtk.refState ∧ (ethSettle s).sys = s.sys ∧
    (ethSettle s).parison = s.parison ∧ (ethSettle s).time = s.time := by
  unfold ethSettle
  split
  · split
    · obtain ⟨hgnss, hrtk, hsys, hparison, htime⟩ := parts_of_trafficRest (trafficRest_injectFrame { s with rtk.ethWait := none } 15 _)
      exact ⟨hgnss, (congrArg Rtk.refState hrtk :), hsys, hparison, htime⟩
    · exact ⟨rfl, rfl, rfl, rfl, rfl⟩
  · exact ⟨rfl, rfl, rfl, rfl, rfl⟩

theorem writeBank_rest (s : State) : latchRest (writeBank s) = latchRest s := by
  unfold writeBank
  split
  · simp [latchRest]
  · rfl

/-- The part at the instant of its next epoch: the epoch before it stands in its bank. -/
def atEpoch (target : Nat) (s : State) : State :=
  { advanceTo target (ethSettle (writeBank s)) with
    time := { (advanceTo target (ethSettle (writeBank s))).time with
      nextEpoch := (advanceTo target (ethSettle (writeBank s))).time.nextEpoch + 1 } }

section

variable (target : Nat) (s : State)

theorem atEpoch_gnss : (atEpoch target s).gnss = (writeBank s).gnss := (advanceTo_gnss ..).trans (ethSettle_leaves _).1

theorem atEpoch_leaves : (atEpoch target s).rtk.refState = s.rtk.refState ∧ (atEpoch target s).sys = s.sys ∧
    (atEpoch target s).parison = s.parison ∧ ∀ a, (dom (atEpoch target s) a).source = (dom s a).source := by
  obtain ⟨hrtk, hsys, hparison, htime⟩ := parts_of_latchRest (writeBank_rest s)
  obtain ⟨-, hrtk', hsys', hparison', htime'⟩ := ethSettle_leaves (writeBank s)
  refine ⟨?_, (advanceTo_sys ..).trans (hsys'.trans hsys), (advanceTo_parison ..).trans (hparison'.trans hparison), fun a => ?_⟩
  · exact (congrArg Rtk.refState (advanceTo_rtk ..)).trans (hrtk'.trans (congrArg Rtk.refState hrtk))
  · have hdom := congrArg Prod.snd (advanceTo_domain a target (ethSettle (writeBank s)))
    rw [dom_congr (htime'.trans htime)] at hdom
    cases a
    · exact hdom
    · exact hdom

end

theorem epochEffects_of_none {s : State} (h : s.parison.waiting = []) : epochEffects s = s := by
  rw [epochEffects, h]
  rfl

theorem allocDue_leaves (s : State) : epochRest (allocDue s) = epochRest s ∧ ∀ a, dom (allocDue s) a = dom s a := by
  unfold allocDue
  split
  · next sky _ =>
    obtain ⟨-, -, -, hrest, hdom⟩ := wholeSecond_leaves sky s
    exact ⟨hrest, hdom⟩
  · exact ⟨rfl, fun _ => rfl⟩

/-- R152: a measurement epoch of a part with no re-formed gather waiting. -/
theorem exec_measurementEpoch {s : State} (hrun : Running s) (hgnss : gnssRuns s = true) (hwait : s.parison.waiting = [])
    (e : EpochMeas) : ∃ target, exec (.measurementEpoch e) s = .next (allocDue (measurementEpoch e (atEpoch target s))) := by
  have hexec : ∃ target, exec (.measurementEpoch e) s = .next (allocDue (epochEffects (measurementEpoch e (atEpoch target s)))) :=
    ⟨_, exec_gnss rfl hrun hgnss rfl⟩
  obtain ⟨target, hexec⟩ := hexec
  obtain ⟨-, -, hparison, -⟩ := atEpoch_leaves target s
  rw [epochEffects_of_none (by rw [(measurementEpoch_latches e _).parison, hparison, hwait])] at hexec
  exact ⟨target, hexec⟩

/-- The last epoch stands in its bank when the next is latched. -/
theorem writeBank_banks (s : State) : (writeBank s).gnss.seq = s.gnss.seq ∧ (writeBank s).gnss.chans = s.gnss.chans ∧
    (s.gnss.latched = none → (writeBank s).gnss.banks = s.gnss.banks) ∧
    ∀ y, s.gnss.latched = some y → (writeBank s).gnss.banks[y.seq % 4]? = some (some y) := by
  cases hlatched : s.gnss.latched with
  | none =>
    rw [writeBank_of_none hlatched]
    exact ⟨rfl, rfl, fun _ => rfl, nofun⟩
  | some x =>
    rw [writeBank_of_latched hlatched, raise_gnss]
    refine ⟨rfl, rfl, nofun, fun y hy => ?_⟩
    obtain rfl := Option.some.inj hy
    exact getElem?_vmod_same _ (by omega) _

theorem measurementEpoch_after {s : State} (e : EpochMeas) (hrun : Running s) (hgnss : gnssRuns s = true) (hwait : s.parison.waiting = []) :
    After (.measurementEpoch e) s fun t =>
      (∃ x, t.gnss.latched = some x ∧ x.seq = s.gnss.seq ∧ ∀ r ∈ x.records, (chanOf s r.chan).state = .track) ∧
      t.gnss.seq = (s.gnss.seq + 1) % 2 ^ 32 ∧ t.sys.mode = s.sys.mode ∧
      (s.gnss.latched = none → t.gnss.banks = s.gnss.banks) ∧
      (∀ y, s.gnss.latched = some y → t.gnss.banks[y.seq % 4]? = some (some y)) ∧
      (posFixed s = false ∨ e.sats < 4 → ∀ a, sourceOf s a = 1 → (dom t a).valid = false) := by
  obtain ⟨target, hexec⟩ := exec_measurementEpoch hrun hgnss hwait e
  obtain ⟨hrest, hdom⟩ := allocDue_leaves (measurementEpoch e (atEpoch target s))
  obtain ⟨href, hsys, -, hsource⟩ := atEpoch_leaves target s
  obtain ⟨hseq, hchans, hnone, hsome⟩ := writeBank_banks s
  obtain ⟨⟨x, hx, hxseq, hrecords⟩, htseq, hbanks, htsys, -⟩ := (measurementEpoch_latches e (atEpoch target s)).then hrest
  rw [atEpoch_gnss] at hxseq htseq hbanks
  have hmode := congrArg Sys.mode (htsys.trans hsys)
  refine ⟨_, hexec, ⟨x, hx, hxseq.trans hseq, fun r hr => ?_⟩, by rw [htseq, hseq], hmode, fun h => hbanks.trans (hnone h),
    fun y hy => by rw [hbanks, hsome y hy], fun hunclean a ha => ?_⟩
  · have htrack := hrecords r hr
    rwa [chanOf, atEpoch_gnss, hchans] at htrack
  · rw [hdom]
    exact measurementEpoch_unclean (by rwa [posFixed_congr href]) ((sourceOf_congr hsys (hsource a)).trans ha)

/-! ### The host's commands (R142, R143, R150) -/

/-- The state that a command over the register interface answers in a running part. -/
theorem exec_bus {i : Instr} {s t : State} {f : State → State} (hi : exec i s = .next (bus s f)) (h : Running s) (hf : f s = t) :
    exec i s = .next t := by rw [hi, bus_run f h.2.2, hf]

theorem exclAdd_held {s : State} {sig svid : Nat} (h : (sig, svid) ∈ s.gnss.excl) : exclAdd sig svid s = s := if_pos h

theorem exclAdd_room {s : State} {sig svid : Nat} (h : (sig, svid) ∉ s.gnss.excl) (hroom : s.gnss.excl.length < 32) :
    exclAdd sig svid s = { s with gnss := { s.gnss with
      excl := s.gnss.excl ++ [(sig, svid)], exclFull := false, exclNew := s.gnss.exclNew ++ [((sig, svid), s.clk)] } } :=
  (if_neg h).trans (if_neg (by omega))

theorem exclAdd_full {s : State} {sig svid : Nat} (h : (sig, svid) ∉ s.gnss.excl) (hfull : 32 ≤ s.gnss.excl.length) :
    exclAdd sig svid s = raise bGNSS 7 { s with gnss.exclFull := true } := (if_neg h).trans (if_pos hfull)

theorem mem_exclRemove (sig svid : Nat) (s : State) (x : Nat × Nat) :
    x ∈ (exclRemove sig svid s).gnss.excl ↔ x ∈ s.gnss.excl ∧ x ≠ (sig, svid) := by
  rw [← bne_iff_ne]
  exact List.mem_filter

/-- R142: a cold start forgets the aiding, and every channel acquires anew. -/
theorem coldStart_taken {s : State}
    (h : s.sys.mode = .survey ∨ s.sys.mode = .quenched ∨ s.sys.mode = .maintenance ∨ s.sys.mode = .servitor) :
    (coldStart s).gnss.aiding = none ∧ (∀ n c, kget (coldStart s).gnss.chans n = some c → c.state = .acquire ∨ c.state = .retired) ∧
    coldStart s = { s with gnss := { s.gnss with aiding := none, chans := (coldStart s).gnss.chans } } := by
  have hcold : coldStart s = { s with gnss := { s.gnss with aiding := none, chans := s.gnss.chans.map (fun p =>
      (p.1, if p.2.state = .retired then p.2 else { p.2 with state := .acquire, lockAt := none, slip := true, tested := false })) } } := by
    unfold coldStart
    obtain hm | hm | hm | hm := h
    all_goals rw [hm]
  rw [hcold]
  refine ⟨rfl, fun n c hc => ?_, rfl⟩
  obtain ⟨p, hp, rfl⟩ := Option.map_eq_some_iff.mp hc
  obtain ⟨q, -, rfl⟩ := List.mem_map.mp (List.mem_of_find?_eq_some hp)
  dsimp only
  split
  · next hret => exact .inr hret
  · exact .inl rfl

theorem coldStart_refused {s : State} (h : s.sys.mode = .field ∨ s.sys.mode = .holdover ∨ s.sys.mode = .anneal) :
    coldStart s = raise bGNSS 7 s := by
  unfold coldStart
  obtain hm | hm | hm := h
  all_goals rw [hm]

end Sys2Proof.Machine

open Sys2Proof Sys2Proof.Machine

/-- Settles O21: the host's commands are equations; an epoch keeps what it has latched through GNSS time and an allocator run that waited,
and the allocator gives channels to wanted pairs alone. -/
theorem gnssCommandsAndEpochs : Obligations.GnssCommandsAndEpochs := by
  refine ⟨fun s sig sv hrun => ⟨fun h => exec_bus rfl hrun (exclAdd_held h), fun h hroom => exec_bus rfl hrun (exclAdd_room h hroom),
      fun h hfull => ?full, after_bus rfl hrun ⟨mem_exclRemove sig.toNat sv.toNat s, rfl⟩⟩,
    fun s hrun => ⟨exec_bus rfl hrun rfl, fun hfail => after_bus rfl hrun ?ack, fun hok => exec_bus rfl hrun (if_neg hok),
      fun hm => after_bus rfl hrun (coldStart_taken hm), fun hm => after_bus rfl hrun ?refused⟩,
    fun s e hrun hgnss hwait => measurementEpoch_after e hrun hgnss hwait,
    fun s x hrun hgnss hx => epochWindowWritten_banked hrun hgnss hx,
    fun s sky hrun hgnss => ⟨gnssAllocate_waits hrun hgnss sky, gnssAllocate_runs hrun hgnss sky⟩,
    fun s hrun hgnss => ⟨burstWindow_opens hrun hgnss, fun hoff => exec_gnss rfl hrun hgnss (if_neg (by simp [hoff]))⟩⟩
  case full =>
    refine after_bus rfl hrun ?_
    rw [exclAdd_full h hfull]
    exact ⟨raise_gnss .., regBit_raise_gnss _ (by decide)⟩
  case ack =>
    rw [spoofAck, if_pos hfail]
    exact ⟨rfl, rfl⟩
  case refused =>
    rw [coldStart_refused hm]
    exact ⟨raise_eq_withRegs .., regBit_raise_gnss _ (by decide)⟩

end

section
/-! The reference position (06_reference_central_rtk.md R162 to R169, R200, R243): a write of RTK_CTRL that orders a command, and how a
survey, a confirmation and a base that moves end. -/

namespace Sys2Proof.Machine

open Sys2Proof

@[simp] theorem advanceClk_rtk (target : Nat) (s : State) : (advanceClk target s).rtk = s.rtk := rfl

@[simp] theorem advanceClk_grid (target : Nat) (s : State) : (advanceClk target s).grid = s.grid := rfl

/-! ### A write of RTK_CTRL (R168, R200) -/

/-- The state with the registers and the result of RTK_CTRL given. -/
def withResult (regs : List (Nat × Word)) (r : RefResult) (s : State) : State := { s with rtk := { s.rtk with result := r }, regs := regs }

/-- The state with other registers. -/
def withRegs (regs : List (Nat × Word)) (s : State) : State := { s with regs := regs }

theorem regWrite_eq_withRegs (off : Nat) (v : Word) (s : State) : regWrite off v s = withRegs (regWrite off v s).regs s := by
  unfold regWrite
  split
  · rfl
  · rfl

section

variable (w : Word) {ok : Bool} (run : State → State) (s : State)

/-- The registers that a write of RTK_CTRL leaves. -/
def ctrlRegs : List (Nat × Word) := (regWrite 0x040000 w s).regs

theorem refCmd_many (h : manyBits w = true) : refCmd w ok run s = withResult (ctrlRegs w s) .busy s := by
  rw [refCmd, regWrite_eq_withRegs, if_pos h]
  rfl

theorem refCmd_refused (h : manyBits w = false) (hok : ok = false) : refCmd w ok run s = withResult (ctrlRegs w s) .mode s := by
  rw [refCmd, regWrite_eq_withRegs, if_neg (by simp [h]), if_pos (by simp [hok])]
  rfl

theorem refCmd_runs (h : manyBits w = false) (hok : ok = true) : refCmd w ok run s = run (withRegs (ctrlRegs w s) s) := by
  rw [refCmd, regWrite_eq_withRegs, if_neg (by simp [h]), if_neg (by simp [hok])]
  rfl

end

/-- Each reference command is a write of RTK_CTRL, and no mode takes it but those of a survey and SERVITOR. -/
theorem exec_refCommand {w : Word} {c : Instr} (hc : c = .surveyStart w ∨ c = .confirm w ∨ c = .enter w ∨ c = .clear w) (s : State) :
    ∃ (ok : Bool) (run : State → State), exec c s = .next (bus s fun _ => refCmd w ok run s) ∧
      (ok = true → surveyMode s = true ∨ s.sys.mode = .servitor) := by
  obtain rfl | rfl | rfl | rfl := hc
  · exact ⟨surveyMode s, _, rfl, .inl⟩
  · exact ⟨surveyMode s || s.sys.mode == .servitor, _, rfl, by simp⟩
  · exact ⟨surveyMode s || s.sys.mode == .servitor, _, rfl, by simp⟩
  · exact ⟨surveyMode s, _, rfl, .inl⟩

theorem surveyMode_iff (s : State) : surveyMode s = true ↔ s.sys.mode = .survey ∨ s.sys.mode = .quenched ∨ s.sys.mode = .maintenance := by
  simp [surveyMode, or_assoc]

theorem confirmMode_of (s : State) (h : s.sys.mode = .survey ∨ s.sys.mode = .quenched ∨ s.sys.mode = .maintenance ∨ s.sys.mode = .servitor) :
    (surveyMode s || s.sys.mode == .servitor) = true := by
  obtain hm | hm | hm | hm := h
  all_goals simp [surveyMode, hm]

/-! ### The reference state changes, with its record (R162, R551) -/

section

variable {s t : State} (h : Recorded s t)

include h

theorem Recorded.clk_eq : t.clk = s.clk := by
  obtain ⟨_, _, _, _, rfl⟩ := h
  rfl

theorem Recorded.sys_eq : t.sys = s.sys := by
  obtain ⟨_, _, _, _, rfl⟩ := h
  rfl

theorem Recorded.time_eq : t.time = s.time := by
  obtain ⟨_, _, _, _, rfl⟩ := h
  rfl

theorem Recorded.rtk_eq : t.rtk = s.rtk := by
  obtain ⟨_, _, _, _, rfl⟩ := h
  rfl

theorem Recorded.grid_eq : t.grid = s.grid := by
  obtain ⟨_, _, _, _, rfl⟩ := h
  rfl

end

/-- The reference state given, with its source. -/
def withRef (st : RefState) (src : RefSrc) (s : State) : State := { s with rtk := { s.rtk with refState := st, refSrc := src } }

theorem recorded_refTo (st : RefState) (src : RefSrc) (s : State) : Recorded (withRef st src s) (refTo st src s) := recorded_record ..

/-- A command's answer that is a change of the reference state with its record. -/
theorem after_refTo {c : Instr} {s u : State} {st : RefState} {src : RefSrc} {P : State → Prop} (hexec : exec c s = .next (refTo st src u))
    (hP : ∀ t, Recorded (withRef st src u) t → P t) : After c s P := ⟨_, hexec, hP _ (recorded_refTo ..)⟩

theorem regBit_refTo {off : Nat} (hoff : off ≠ 0x110030) (st : RefState) (src : RefSrc) (s : State) (i : Nat) :
    regBit (refTo st src s) off i = regBit s off i := regBit_note hoff ..

theorem regBit_raise_rtk (s : State) {i : Nat} (hi : i < 32) : regBit (raise bRTK i s) 0x040090 i = true :=
  regBit_raise_same s (b := bRTK) (by decide) hi

/-- A status bit raised as the reference state changes. -/
theorem recorded_raise_refTo (i : Nat) (st : RefState) (src : RefSrc) (s : State) :
    Recorded (withRef st src s) (refTo st src (raise bRTK i s)) := by
  have href := recorded_refTo st src (raise bRTK i s)
  rw [raise_eq_withRegs] at href ⊢
  exact Recorded.trans ⟨_, _, _, _, rfl⟩ href

/-! ### The commands that a mode takes (R164 to R168) -/

/-- A survey begun. -/
def surveyBegun (s : State) : State := { s with rtk := { s.rtk with
  startAt := s.clk, result := .none, sdMm := 0xFFFF, testing := none, sum := {}, block := {}, blockAt := s.clk, blocks := [] } }

/-- A confirmation of a position begun. -/
def confirmBegun (p : Ecef) (src : RefSrc) (s : State) : State := { s with rtk := { s.rtk with
  testing := some (p, src), startAt := s.clk, result := .none, sum := {}, seconds := [] } }

/-- The position in force and the stored one given up. -/
def positionCleared (s : State) : State := { s with rtk := { s.rtk with pos := none, stored := none, testing := none, result := .done } }

section

variable {s : State} {w : Word} (hrun : Running s) (hone : manyBits w = false)

include hrun hone

theorem exec_surveyStart_paired (hmode : surveyMode s = true) (h : s.twin.present = true) :
    exec (.surveyStart w) s = .next (withResult (ctrlRegs w s) .paired s) :=
  exec_bus rfl hrun ((refCmd_runs w _ s hone hmode).trans (if_pos h))

theorem exec_surveyStart_alone (hmode : surveyMode s = true) (h : s.twin.present = false) :
    exec (.surveyStart w) s = .next (refTo .surveying .none (surveyBegun (withRegs (ctrlRegs w s) s))) :=
  exec_bus rfl hrun ((refCmd_runs w _ s hone hmode).trans (if_neg (by simpa [withRegs] using h)))

theorem exec_clear (hmode : surveyMode s = true) :
    exec (.clear w) s = .next (refTo .none .none (positionCleared (withRegs (ctrlRegs w s) s))) :=
  exec_bus rfl hrun (refCmd_runs w _ s hone hmode)

variable (hmode : (surveyMode s || s.sys.mode == .servitor) = true)

include hmode

theorem exec_enter : exec (.enter w) s =
    .next (refTo .confirming .none (confirmBegun s.rtk.staged .entered (withRegs (ctrlRegs w s) s))) :=
  exec_bus rfl hrun (refCmd_runs w _ s hone hmode)

theorem exec_confirm_stored {p : Ecef} {k : RefSrc} (hp : s.rtk.stored = some (p, k)) : exec (.confirm w) s =
    .next (refTo .confirming .none (confirmBegun p .stored (withRegs (ctrlRegs w s) s))) := by
  refine exec_bus rfl hrun ((refCmd_runs w _ s hone hmode).trans ?_)
  have hstored : (withRegs (ctrlRegs w s) s).rtk.stored = some (p, k) := hp
  dsimp only
  rw [hstored]
  rfl

theorem exec_confirm_unstored (hp : s.rtk.stored = none) : exec (.confirm w) s =
    .next (drawn (withResult (ctrlRegs w s) (freeResult s) s)) := by
  refine exec_bus rfl hrun ((refCmd_runs w _ s hone hmode).trans ?_)
  have hstored : (withRegs (ctrlRegs w s) s).rtk.stored = none := hp
  dsimp only
  split
  · next q hq => simp [hstored] at hq
  · rfl

end

/-! ### A confirmation (R164) -/

/-- The position that becomes the one in force: stored, with its source, and the origin where none was. -/
def atPosition (p : Ecef) (kept : RefSrc) (s : State) : State := { s with
  rtk := { s.rtk with pos := some p, stored := some (p, kept), result := .done, testing := none, movedAt := none }
  grid := { s.grid with origin := some (s.grid.origin.getD p) } }

theorem recorded_refFixed (p : Ecef) (src kept : RefSrc) (s : State) :
    Recorded (withRef .fixed src (atPosition p kept s)) (refFixed p src kept s) := recorded_raise_refTo ..

theorem regBit_refFixed (p : Ecef) (src kept : RefSrc) (s : State) : regBit (refFixed p src kept s) 0x040090 0 = true :=
  (regBit_refTo (by decide) ..).trans (regBit_raise_rtk _ (by decide))

/-- The confirmation ended without a position. -/
def unconfirmed (r : RefResult) (s : State) : State := { s with rtk := { s.rtk with result := r, testing := none } }

theorem recorded_confirmFail (r : RefResult) (s : State) :
    Recorded (withRef .confirmFail .none (unconfirmed r s)) (confirmFail r s) := recorded_raise_refTo ..

theorem regBit_confirmFail (r : RefResult) (s : State) : regBit (confirmFail r s) 0x040090 1 = true :=
  (regBit_refTo (by decide) ..).trans (regBit_raise_rtk _ (by decide))

theorem refFixed_leaves (p : Ecef) (src kept : RefSrc) (s : State) : (refFixed p src kept s).rtk.refState = .fixed ∧
    (refFixed p src kept s).rtk.refSrc = src ∧ (refFixed p src kept s).rtk.pos = some p ∧ (refFixed p src kept s).rtk.result = .done ∧
    (refFixed p src kept s).rtk.stored = some (p, kept) ∧ (refFixed p src kept s).grid.origin = some (s.grid.origin.getD p) := by
  obtain ⟨_, _, _, _, hrec⟩ := recorded_refFixed p src kept s
  rw [hrec]
  exact ⟨rfl, rfl, rfl, rfl, rfl, rfl⟩

theorem confirmFail_leaves (r : RefResult) (s : State) : (confirmFail r s).rtk.refState = .confirmFail ∧ (confirmFail r s).rtk.result = r ∧
    (confirmFail r s).rtk.pos = s.rtk.pos ∧ (confirmFail r s).rtk.stored = s.rtk.stored ∧ (confirmFail r s).grid = s.grid := by
  obtain ⟨_, _, _, _, hrec⟩ := recorded_confirmFail r s
  rw [hrec]
  exact ⟨rfl, rfl, rfl, rfl, rfl⟩

/-- What the seconds of a confirmation decide. -/
def confirmOutcome (p : Ecef) (src : RefSrc) (s : State) : State :=
  if s.rtk.seconds.length < 30 then confirmFail .noSignal s
  else if s.rtk.sum.within p (s.rtk.cfg.confirmM * 1000) then
    refFixed p src (if src = .stored then (s.rtk.stored.map Prod.snd).getD .none else src) s
  else confirmFail .disagree s

/-- The moment at which a confirmation ends. -/
def confirmEnd (s : State) : State := advanceClk (s.rtk.startAt + 60 * 10 ^ 9) s

theorem confirmEnd_rtk (s : State) : (confirmEnd s).rtk = s.rtk := advanceClk_rtk ..

theorem confirmEnd_grid (s : State) : (confirmEnd s).grid = s.grid := advanceClk_grid ..

theorem confirmationDone_eq {s : State} {p : Ecef} {src : RefSrc} (hstate : s.rtk.refState = .confirming)
    (htest : s.rtk.testing = some (p, src)) : confirmationDone s = confirmOutcome p src (confirmEnd s) := by
  simp only [confirmationDone, hstate, htest]
  rfl

section

variable {s : State} {p : Ecef} {src : RefSrc}

theorem confirmOutcome_few (h : s.rtk.seconds.length < 30) : confirmOutcome p src s = confirmFail .noSignal s := if_pos h

theorem confirmOutcome_near (h : 30 ≤ s.rtk.seconds.length) (hnear : s.rtk.sum.off2 p ≤ (s.rtk.sum.n * (s.rtk.cfg.confirmM * 1000)) ^ 2) :
    ∃ kept, confirmOutcome p src s = refFixed p src kept s :=
  ⟨_, (if_neg (Nat.not_lt.mpr h)).trans (if_pos (decide_eq_true hnear))⟩

theorem confirmOutcome_far (h : 30 ≤ s.rtk.seconds.length) (hfar : (s.rtk.sum.n * (s.rtk.cfg.confirmM * 1000)) ^ 2 < s.rtk.sum.off2 p) :
    confirmOutcome p src s = confirmFail .disagree s :=
  (if_neg (Nat.not_lt.mpr h)).trans (if_neg (by simpa [PosSum.within] using hfar))

theorem confirmOutcome_leaves : (confirmOutcome p src s).clk = s.clk ∧ (confirmOutcome p src s).sys = s.sys ∧
    (confirmOutcome p src s).rtk.testing = none := by
  have hfail (r : RefResult) := recorded_confirmFail r s
  unfold confirmOutcome
  split
  · exact ⟨(hfail _).clk_eq, (hfail _).sys_eq, congrArg Rtk.testing (hfail _).rtk_eq⟩
  · split
    · have hfixed (kept : RefSrc) := recorded_refFixed p src kept s
      exact ⟨(hfixed _).clk_eq, (hfixed _).sys_eq, congrArg Rtk.testing (hfixed _).rtk_eq⟩
    · exact ⟨(hfail _).clk_eq, (hfail _).sys_eq, congrArg Rtk.testing (hfail _).rtk_eq⟩

end

/-! ### A survey (R165) -/

theorem closeBlock_survey (s : State) : (closeBlock s).clk = s.clk ∧ (closeBlock s).rtk.startAt = s.rtk.startAt ∧
    (closeBlock s).rtk.cfg = s.rtk.cfg ∧ (closeBlock s).rtk.sum = s.rtk.sum ∧ (closeBlock s).grid = s.grid := by
  unfold closeBlock
  split
  · exact ⟨rfl, rfl, rfl, rfl, rfl⟩
  · exact ⟨rfl, rfl, rfl, rfl, rfl⟩

/-- Both conditions that end a survey hold. -/
def SurveyEnds (s : State) : Prop := s.rtk.startAt + s.rtk.cfg.survMin * 10 ^ 9 ≤ s.clk ∧ surveyFine (closeBlock s) = true

section

variable {s : State} (hstate : s.rtk.refState = .surveying)

include hstate

theorem surveyDone_ends (h : SurveyEnds s) : surveyDone s = refFixed s.rtk.sum.mean .survey .survey (closeBlock s) := by
  obtain ⟨hclk, hstart, hcfg, hsum, -⟩ := closeBlock_survey s
  unfold surveyDone
  rw [if_neg (not_not.mpr hstate)]
  dsimp only
  rw [hclk, hstart, hcfg, hsum]
  exact if_pos h

theorem surveyDone_goesOn (h : ¬ SurveyEnds s) : surveyDone s = closeBlock s := by
  obtain ⟨hclk, hstart, hcfg, hsum, -⟩ := closeBlock_survey s
  unfold surveyDone
  rw [if_neg (not_not.mpr hstate)]
  dsimp only
  rw [hclk, hstart, hcfg, hsum]
  exact if_neg h

end

theorem surveyFine_few {s : State} (h : s.rtk.blocks.length < 2) : surveyFine s = false := by
  have hnone : surveySd2 s.rtk.blocks = none := if_pos h
  rw [surveyFine, hnone]

/-! ### A base that has moved (R169) -/

/-- The moment at which the base is found moved. -/
def moveEnd (e : Nat) (s : State) : State := { advanceClk e s with rtk := { s.rtk with movedAt := none } }

/-- The base found moved at a moment. -/
def baseMoved (e : Nat) (s : State) : State := refTo .moved s.rtk.refSrc (raise bRTK 3 (moveEnd e s))

theorem recorded_baseMoved (e : Nat) (s : State) : Recorded (withRef .moved s.rtk.refSrc (moveEnd e s)) (baseMoved e s) :=
  recorded_raise_refTo ..

/-- The domains that follow GNSS. -/
def gnssDomains (s : State) : List Bool := [false, true].filter fun a => sourceOf s a == 1

theorem mem_gnssDomains (s : State) (a : Bool) : a ∈ gnssDomains s ↔ sourceOf s a = 1 := by
  cases a <;> simp [gnssDomains]

theorem refMoved_eq {s : State} {t0 : Nat} (hstate : s.rtk.refState = .fixed) (hmoved : s.rtk.movedAt = some t0) :
    refMoved s = loseSources (gnssDomains (baseMoved (t0 + 60 * 10 ^ 9) s)) (baseMoved (t0 + 60 * 10 ^ 9) s) := by
  simp only [refMoved, hstate, hmoved]
  rfl

theorem refMoved_none {s : State} (hmoved : s.rtk.movedAt = none) : refMoved s = s := by
  unfold refMoved
  split
  · next ht => rw [hmoved] at ht; cases ht
  · rfl

theorem rtk_loseSources (l : List Bool) (s : State) : (loseSources l s).rtk = s.rtk := by
  have hdropped (gone : List Bool) : (gone.foldl (fun u a => dropSource a u) s).rtk = s.rtk :=
    foldl_keep State.rtk (fun u a => by rw [dropSource, raise_rtk, setDom_rtk]) gone s
  unfold loseSources
  dsimp only
  rw [apply_ite State.rtk, selectDom, raise_rtk, ite_self, hdropped]

theorem sys_loseSources (l : List Bool) (s : State) : (loseSources l s).sys = s.sys := by
  have hrest := epochRest_loseSources s l
  simp only [epochRest, Prod.mk.injEq] at hrest
  obtain ⟨-, -, -, hsys, -⟩ := hrest
  exact hsys

theorem sourceOf_advanceClk (e : Nat) (s : State) (a : Bool) : sourceOf (advanceClk e s) a = sourceOf s a :=
  sourceOf_congr (advanceClk_sys ..) (congrArg Prod.snd (advance_domain a (e - s.clk) s))

theorem baseMoved_leaves (e : Nat) (s : State) : (baseMoved e s).rtk.refState = .moved ∧ (baseMoved e s).rtk.pos = s.rtk.pos ∧
    (baseMoved e s).clk = max s.clk e ∧ (baseMoved e s).sys = s.sys ∧ regBit (baseMoved e s) 0x040090 3 = true ∧
    ∀ a, sourceOf (baseMoved e s) a = sourceOf s a := by
  have hrec := recorded_baseMoved e s
  refine ⟨congrArg Rtk.refState hrec.rtk_eq, (congrArg Rtk.pos hrec.rtk_eq :), hrec.clk_eq.trans (advanceClk_clk ..), hrec.sys_eq,
    (regBit_refTo (by decide) ..).trans (regBit_raise_rtk _ (by decide)), fun a => ?_⟩
  exact (sourceOf_congr hrec.sys_eq (by rw [dom_congr hrec.time_eq])).trans (sourceOf_advanceClk e s a)

end Sys2Proof.Machine

open Sys2Proof Sys2Proof.Machine

/-- Settles O22: a command that its word or the mode bars changes nothing but the result, and each other is one record of a change of the
reference state; a confirmation and a survey end FIXED or fail, and a base that has moved loses the domains that follow GNSS. -/
theorem referencePosition : Obligations.ReferencePosition := by
  refine ⟨fun s w c hrun hc => ?_, fun s w hrun hone => ⟨fun hmode => ?commands, fun hmode => ?confirms⟩,
    fun s p src hrun hon hstate htest => ?confirmed, fun s hrun hon hstate => ?surveyed, fun s hrun hon hstate => ?moves⟩
  · obtain ⟨ok, run, hexec, hok⟩ := exec_refCommand hc s
    refine ⟨fun hmany => after_bus hexec hrun ?many, fun hone hmode => after_bus hexec hrun ?refused⟩
    case many =>
      rw [refCmd_many w run s hmany]
      rfl
    case refused =>
      have hno : ok = false := by
        refine Bool.eq_false_iff.mpr fun h => ?_
        have htaken := (hok h).imp_left (surveyMode_iff s).mp
        obtain hm | hm | hm | hm | hm := hmode
        all_goals simp [hm] at htaken
      rw [refCmd_refused w run s hone hno]
      rfl
  case commands =>
    have hmode := (surveyMode_iff s).mpr hmode
    exact ⟨fun hpair => ⟨_, exec_surveyStart_paired hrun hone hmode hpair, rfl⟩,
      fun halone => after_refTo (exec_surveyStart_alone hrun hone hmode halone) fun _ ⟨_, _, _, _, h⟩ => h ▸ ⟨rfl, rfl, rfl, rfl, rfl⟩,
      after_refTo (exec_clear hrun hone hmode) fun _ ⟨_, _, _, _, h⟩ => h ▸ ⟨rfl, rfl, rfl, rfl, rfl, rfl⟩⟩
  case confirms =>
    have hmode := confirmMode_of s hmode
    exact ⟨after_refTo (exec_enter hrun hone hmode) fun _ ⟨_, _, _, _, h⟩ => h ▸ ⟨rfl, rfl, rfl, rfl, rfl⟩,
      fun p k hp => after_refTo (exec_confirm_stored hrun hone hmode hp) fun _ ⟨_, _, _, _, h⟩ => h ▸ ⟨rfl, rfl⟩,
      fun hp => ⟨_, exec_confirm_unstored hrun hone hmode hp, rfl⟩⟩
  case confirmed =>
    refine after_bus rfl hrun ?_
    rw [if_pos hon, confirmationDone_eq hstate htest]
    obtain ⟨hclk, hsys, htesting⟩ := confirmOutcome_leaves (s := confirmEnd s) (p := p) (src := src)
    refine ⟨hclk.trans (advanceClk_clk ..), hsys.trans (advanceClk_sys ..), htesting, fun hfew => ?few,
      fun hlong hnear => ?near, fun hlong hfar => ?far⟩
    case few =>
      obtain ⟨hnew, hresult, hpos, -, hgrid⟩ := confirmFail_leaves .noSignal (confirmEnd s)
      rw [confirmEnd_rtk] at hpos
      rw [confirmEnd_grid] at hgrid
      rw [confirmOutcome_few (by rwa [confirmEnd_rtk])]
      exact ⟨hnew, hresult, hpos, hgrid, regBit_confirmFail ..⟩
    case near =>
      obtain ⟨kept, hfixed⟩ := confirmOutcome_near (p := p) (src := src) (s := confirmEnd s)
        (by rwa [confirmEnd_rtk]) (by rwa [confirmEnd_rtk])
      obtain ⟨hnew, -, hpos, hresult, hstored, horigin⟩ := refFixed_leaves p src kept (confirmEnd s)
      rw [confirmEnd_grid] at horigin
      rw [hfixed]
      exact ⟨hnew, hpos, hresult, by rw [hstored]; rfl, horigin, regBit_refFixed ..⟩
    case far =>
      obtain ⟨hnew, hresult, hpos, hstored, -⟩ := confirmFail_leaves .disagree (confirmEnd s)
      rw [confirmEnd_rtk] at hpos hstored
      rw [confirmOutcome_far (by rwa [confirmEnd_rtk]) (by rwa [confirmEnd_rtk])]
      exact ⟨hnew, hresult, hpos, hstored, regBit_confirmFail ..⟩
  case surveyed =>
    obtain ⟨-, -, -, -, hgrid⟩ := closeBlock_survey s
    refine ⟨fun hlong hfine => after_bus rfl hrun ?ends, fun hnot => exec_bus rfl hrun ?goesOn, fun hfew => surveyFine_few hfew⟩
    case ends =>
      rw [if_pos hon, surveyDone_ends hstate ⟨hlong, hfine⟩]
      obtain ⟨hnew, hsrc, hpos, -, hstored, horigin⟩ := refFixed_leaves s.rtk.sum.mean .survey .survey (closeBlock s)
      rw [hgrid] at horigin
      exact ⟨hnew, hsrc, hpos, hstored, horigin⟩
    case goesOn =>
      rw [if_pos hon]
      refine surveyDone_goesOn hstate fun ⟨hlong, hfine⟩ => ?_
      obtain hshort | hcoarse := hnot
      · exact Nat.not_le.mpr hshort hlong
      · simp [hcoarse] at hfine
  case moves =>
    refine ⟨fun t0 ht => after_bus rfl hrun ?moved, fun ht => exec_bus rfl hrun ?still⟩
    case moved =>
      rw [if_pos hon, refMoved_eq hstate ht]
      obtain ⟨hnew, hpos, hclk, hsys, hbit, hsource⟩ := baseMoved_leaves (t0 + 60 * 10 ^ 9) s
      have hlost := modeStands_loseSources (.refl (baseMoved (t0 + 60 * 10 ^ 9) s)) (gnssDomains (baseMoved (t0 + 60 * 10 ^ 9) s))
      rw [rtk_loseSources, sys_loseSources]
      refine ⟨hnew, hpos, hlost.clk_eq.trans hclk, hlost.regs.bits _ _ hbit, fun a ha => ?_, hsys⟩
      exact valid_loseSources _ ((mem_gnssDomains _ a).mpr ((hsource a).trans ha))
    case still => rw [if_pos hon, refMoved_none ht]

end

section
/-! Machine observations (06_reference_central_rtk.md R178 to R180, R200): one machine's state changed, a frame checked at the ingest,
a message taken into its machine's epoch, and the commands that wait for an epoch in process. -/

namespace Sys2Proof.Machine

open Sys2Proof

/-! ### One machine's state -/

theorem rtkMach_congr {s t : State} (h : t.rtk.machs = s.rtk.machs) (m : Nat) : rtkMach t m = rtkMach s m := by rw [rtkMach, rtkMach, h]

@[simp] theorem rtkMach_setRtkMach_same (m : Nat) (f : RtkMach → RtkMach) (s : State) : rtkMach (setRtkMach m f s) m = f (rtkMach s m) := by
  simp [rtkMach, setRtkMach, kmod]

theorem rtkMach_setRtkMach_other {k m : Nat} (f : RtkMach → RtkMach) (s : State) (h : k ≠ m) :
    rtkMach (setRtkMach m f s) k = rtkMach s k := by
  simp only [rtkMach, setRtkMach, kmod, kget_kset_other _ _ _ h]

theorem rtkMach_advanceClk (target : Nat) (s : State) (m : Nat) : rtkMach (advanceClk target s) m = rtkMach s m :=
  rtkMach_congr (by rw [advanceClk_rtk]) m

theorem bump_machs (o e : Nat) (s : State) : (bump o e s).rtk.machs = s.rtk.machs := congrArg Rtk.machs (bump_rtk ..)

/-! ### The checks at the ingest (R179, R180) -/

section

variable {s : State} {x : RtcmIn}

theorem ingestCode_badCrc (h : rtcmCrcOk x.frame = false) : ingestCode s x = 1 := if_pos (by simp [h])

theorem ingestCode_unread (hcrc : rtcmCrcOk x.frame = true) (h : rtcmMsm x.frame = none) : ingestCode s x = 2 := by
  rw [ingestCode, if_neg (by simp [hcrc]), h]

theorem ingestCode_unadmitted {y : Msm} (hcrc : rtcmCrcOk x.frame = true) (hy : rtcmMsm x.frame = some y) (h : admissionOf s x = none) :
    ingestCode s x = 3 := by
  rw [ingestCode, if_neg (by simp [hcrc]), hy, h]

theorem ingestCode_admitted {y : Msm} {a : Admission} (hcrc : rtcmCrcOk x.frame = true) (hy : rtcmMsm x.frame = some y)
    (h : admissionOf s x = some a) : ingestCode s x = msmCheck s a (rtcmNum x.frame) (msmTime s (rtcmNum x.frame) y) := by
  rw [ingestCode, if_neg (by simp [hcrc]), hy, h]

theorem rtcmMsm_unread (h : byteAt x.frame 0 ≠ 0xD3 ∨ msmNumber (rtcmNum x.frame) = false) : rtcmMsm x.frame = none := by
  refine if_neg fun ⟨hpre, _, hnum⟩ => ?_
  obtain hbyte | hno := h
  · exact hbyte hpre
  · simp [hno] at hnum

theorem msmCheck_idle {a : Admission} {num t : Nat} (h : engineRuns s = false ∨ posFixed s = false ∨ (rtkMach s a.mach).suspended = true) :
    msmCheck s a num t = 4 := if_pos (by simpa using h)

end

/-! ### A message joins its machine's epoch (R180) -/

theorem takeMsm_takes (clk order t num : Nat) (x : Msm) (l : List MachEpoch) :
    ∃ e ∈ takeMsm clk order t num x l, e.time = t ∧ num ∈ e.taken := by
  have htime : ((l.find? fun e => e.time == t).getD { time := t, firstAt := clk }).time = t := by
    cases hfound : l.find? fun e => e.time == t with
    | none => rfl
    | some e => simpa using List.find?_some hfound
  exact ⟨_, (mem_insertBy ..).mpr (.inl rfl), htime, List.mem_append_right _ (List.mem_singleton_self num)⟩

theorem acceptMsm_counts (x : RtcmIn) (s : State) : (acceptMsm x s).counts = s.counts := by
  unfold acceptMsm
  split
  · rfl
  · rfl

/-- The state with the machines given and one more message admitted. -/
def withMachs (l : List (Nat × RtkMach)) (n : Nat) (s : State) : State := { s with rtk := { s.rtk with doneCount := n, machs := l } }

/-- What an admitted message leaves. -/
theorem acceptMsm_leaves {s : State} {x : RtcmIn} {y : Msm} {a : Admission} (hy : rtcmMsm x.frame = some y) (ha : admissionOf s x = some a) :
    (∃ e ∈ (rtkMach (acceptMsm x s) a.mach).epochs, e.time = msmTime s (rtcmNum x.frame) y ∧ rtcmNum x.frame ∈ e.taken) ∧
    (∀ m, m ≠ a.mach → rtkMach (acceptMsm x s) m = rtkMach s m) ∧
    acceptMsm x s = withMachs (acceptMsm x s).rtk.machs (s.rtk.doneCount + 1) s := by
  have haccept : acceptMsm x s = setRtkMach a.mach
      (fun r => { r with epochs := takeMsm s.clk (s.rtk.doneCount + 1) (msmTime s (rtcmNum x.frame) y) (rtcmNum x.frame) y r.epochs })
      (withMachs s.rtk.machs (s.rtk.doneCount + 1) s) := by
    simp only [acceptMsm, hy, ha]
    rfl
  rw [haccept]
  refine ⟨?_, fun m hm => rtkMach_setRtkMach_other _ _ hm, rfl⟩
  rw [rtkMach_setRtkMach_same]
  exact takeMsm_takes ..

/-- The state whose ingest holds the frames given. -/
def withIngest (l : List RtcmIn) (s : State) : State := { s with rtk.ingest := l }

theorem exec_msmMessage {s : State} {x : RtcmIn} {l : List RtcmIn} (hrun : Running s) (h : s.rtk.ingest = x :: l) :
    exec .msmMessage s = .next (bump (0x040040 + 4 * ingestCode s x) 0
      (if ingestCode s x = 0 then acceptMsm x (withIngest l s) else withIngest l s)) :=
  exec_bus rfl hrun (by rw [h]; rfl)

/-! ### An incomplete epoch, and the filter commands (R180, R200) -/

theorem machineEpochIncomplete_discards {s : State} {m : Fin 128} {e : MachEpoch} (hrun : Running s)
    (h : (rtkMach s m).epochs.find? (fun e => e.doneAt.isNone) = some e) : exec (.machineEpochIncomplete m) s =
      .next (bump 0x040060 0 (setRtkMach m (fun r => { r with epochs := r.epochs.filter fun x => x != e })
        (advanceClk (e.firstAt + s.rtk.cfg.collectMs * 10 ^ 6) s))) :=
  exec_bus rfl hrun (by rw [h])

end Sys2Proof.Machine

open Sys2Proof Sys2Proof.Machine

/-- Settles O23: a frame's outcome is its first failed check, and one without meets its machine's state alone; an epoch discarded is
filtered out of its machine's, and each filter command is one change of its machine's state. -/
theorem machineObservations : Obligations.MachineObservations := by
  refine ⟨fun s x l hrun hx => ?ingest, fun s m e hrun he => ?incomplete, fun s m hrun => ?commands⟩
  case ingest =>
    refine ⟨_, exec_msmMessage hrun hx, ?counted, fun hbad => ?rejected, fun hcrc => ingestCode_badCrc hcrc,
      fun hcrc hother => ingestCode_unread hcrc (rtcmMsm_unread hother), fun y hcrc hy ha => ingestCode_unadmitted hcrc hy ha,
      fun y a hcrc hy ha => ⟨fun hidle => ?idle, fun hok => ?accepted⟩⟩
    case counted =>
      rw [bump, countOf_bumpBy_same]
      refine congrArg (· + 1) ?_
      split
      · exact countOf_congr (acceptMsm_counts ..) ..
      · exact countOf_congr rfl ..
    case rejected => rw [if_neg hbad]; rfl
    case idle => rw [ingestCode_admitted hcrc hy ha, msmCheck_idle hidle]
    case accepted =>
      rw [if_pos hok]
      obtain ⟨htaken, hother, hframe⟩ := acceptMsm_leaves (s := withIngest l s) hy ha
      refine ⟨htaken, hother, ?_⟩
      rw [hframe]
      rfl
  case incomplete =>
    refine ⟨_, machineEpochIncomplete_discards hrun he, ?clk, ?counted, ?gone, fun k hk => ?others⟩
    case clk =>
      rw [bump_clk, setRtkMach_clk, advanceClk_clk]
    case counted =>
      rw [bump, countOf_bumpBy_same]
      exact congrArg (· + 1) (countOf_congr ((setRtkMach_counts ..).trans (advanceClk_counts ..)) ..)
    case gone =>
      rw [rtkMach_congr (bump_machs ..), rtkMach_setRtkMach_same]
      simp
    case others => rw [rtkMach_congr (bump_machs ..), rtkMach_setRtkMach_other _ _ hk, rtkMach_advanceClk]
  case commands =>
    refine ⟨fun hbusy => ⟨after_bus rfl hrun ?resetWaits, after_bus rfl hrun ?suspendWaits⟩,
      fun hfree => ⟨after_bus rfl hrun ?reset, after_bus rfl hrun ?suspend⟩, fun c hc => ?each⟩
    case resetWaits => rw [rtkMach_setRtkMach_same, if_pos hbusy]
    case suspendWaits => rw [rtkMach_setRtkMach_same, if_pos hbusy]
    case reset =>
      rw [rtkMach_setRtkMach_same, if_neg (by simp [hfree])]
      exact ⟨rfl, rfl, rfl⟩
    case suspend => rw [rtkMach_setRtkMach_same, if_neg (by simp [hfree])]
    case each =>
      obtain rfl | rfl | rfl := hc
      · exact after_bus rfl hrun ⟨rfl, fun k hk => rtkMach_setRtkMach_other _ _ hk, nofun⟩
      · exact after_bus rfl hrun ⟨rfl, fun k hk => rtkMach_setRtkMach_other _ _ hk, nofun⟩
      · refine after_bus rfl hrun ⟨rfl, fun k hk => rtkMach_setRtkMach_other _ _ hk, fun _ => ?_⟩
        rw [rtkMach_setRtkMach_same]
        exact ⟨rfl, rfl⟩

end

section
/-! Solutions, stale markers and correction bundles (06_reference_central_rtk.md R174 to R177, R186 to R197, R200): a machine epoch that
leaves the engine, what a solution reports, and the routes of a bundle. -/

namespace Sys2Proof.Machine

open Sys2Proof

@[simp] theorem advanceClk_setpt (target : Nat) (s : State) : (advanceClk target s).setpt = s.setpt := rfl

/-! ### A group of the mirror (R421) -/

/-- What no frame of the link changes, the mirror of a grid's change leaves. -/
theorem gridMirrored_keep {α : Type} (g : State → α) (h : ∀ k p s, g (sendFrame k p s) = g s) (f : State → State) (s : State) :
    g (gridMirrored f s) = g (f s) := by
  simp only [gridMirrored, sendGroup, apply_ite g, sendBody_keep g h, ite_self]

theorem gridMirrored_same {f : State → State} {s : State} (h : mirGrid (f s) = mirGrid s) : gridMirrored f s = f s := by
  simp [gridMirrored, h]

theorem exec_gridBus {i : Instr} {s t : State} {f : State → State} (hi : exec i s = .next (gridBus s f)) (hrun : Running s) (hf : f s = t)
    (h : mirGrid t = mirGrid s) : exec i s = .next t := by
  rw [hi, gridBus, bus_run _ hrun.2.2, gridMirrored_same (hf ▸ h), hf]

/-- What a grid command answers, as far as no frame of the link changes it. -/
theorem after_gridBus {i : Instr} {s : State} {f : State → State} {P : State → Prop} (hi : exec i s = .next (gridBus s f))
    (hrun : Running s) (hP : ∀ t, (∀ (α : Type) (g : State → α), (∀ k p s, g (sendFrame k p s) = g s) → g t = g (f s)) → P t) : After i s P :=
  ⟨_, hi, by rw [gridBus, bus_run _ hrun.2.2]; exact hP _ fun _ g hg => gridMirrored_keep g hg f s⟩

/-! ### A machine epoch leaves the engine (R196, R200) -/

/-- What neither an emptied filter nor a suspension changes, the commands that waited leave. -/
theorem actNext_keep {α : Type} (g : RtkMach → α) (hreset : ∀ r, g { emptyFilter r with epochs := r.epochs } = g r)
    (hsuspend : ∀ r, g { r with suspended := true, suspendNext := false } = g r) (r : RtkMach) : g (actNext r) = g r := by
  simp only [actNext, apply_ite g, hsuspend, hreset, ite_self]

@[simp] theorem actNext_epochs (r : RtkMach) : (actNext r).epochs = r.epochs := actNext_keep _ (fun _ => rfl) (fun _ => rfl) r

@[simp] theorem actNext_lastSolved (r : RtkMach) : (actNext r).lastSolved = r.lastSolved := actNext_keep _ (fun _ => rfl) (fun _ => rfl) r

@[simp] theorem actNext_lastFix (r : RtkMach) : (actNext r).lastFix = r.lastFix := actNext_keep _ (fun _ => rfl) (fun _ => rfl) r

@[simp] theorem actNext_seq (r : RtkMach) : (actNext r).seq = r.seq := actNext_keep _ (fun _ => rfl) (fun _ => rfl) r

@[simp] theorem actNext_leaving (r : RtkMach) : (actNext r).leaving = r.leaving := actNext_keep _ (fun _ => rfl) (fun _ => rfl) r

/-- A machine without one of its epochs, after the commands that waited for it. -/
def withoutEpoch (e : MachEpoch) (r : RtkMach) : RtkMach := actNext { r with epochs := r.epochs.filter fun y => y != e }

theorem not_mem_withoutEpoch (e : MachEpoch) (r : RtkMach) : e ∉ (withoutEpoch e r).epochs := by
  simp [withoutEpoch]

/-- A machine that stays on the list loses its epoch alone. -/
theorem epochGone_staying {s : State} {m : Nat} (e : MachEpoch) (h : (rtkMach s m).leaving = false) :
    epochGone m e s = setRtkMach m (withoutEpoch e) s := by
  refine if_neg fun hgoes => ?_
  simp [h] at hgoes

/-! ### A solution reaches the host (R193, R495) -/

/-- What of the part a queue of the host leaves: the reference and the engine, the grid and the set-point engine. -/
def hostRest (s : State) : Rtk × Grid × Setpt := (s.rtk, s.grid, s.setpt)

section

variable (s : State)

@[simp] theorem hostRest_raise (b i : Nat) : hostRest (raise b i s) = hostRest s := by simp [hostRest]

@[simp] theorem hostRest_bump (o e : Nat) : hostRest (bump o e s) = hostRest s := rfl

@[simp] theorem hostRest_setEq (q : Nat) (f : EvtQueue → EvtQueue) : hostRest (setEq q f s) = hostRest s := rfl

theorem hostRest_coreStore (a : Nat) (bs : Bytes) : hostRest (coreStore a bs s) = hostRest s := by
  simp only [coreStore, apply_ite hostRest]
  exact ite_self _

theorem hostRest_eqStore (q : Nat) (bs : Bytes) : hostRest (eqStore q bs s) = hostRest s := by
  simp only [eqStore, apply_ite hostRest, hostRest_coreStore, ite_self]

theorem hostRest_eqPush (q : Nat) (bs : Bytes) : hostRest (eqPush q bs s) = hostRest s := by
  have hsignal (u : State) : hostRest (eqSignal q u) = hostRest u := rfl
  simp only [eqPush, apply_ite hostRest, hsignal, ite_self, withPause_keep hostRest fun b i u => hostRest_raise u b i]
  exact hostRest_eqStore ..

theorem hostRest_hostCopy (x : Solution) : hostRest (hostCopy x s) = hostRest s := by
  simp only [hostCopy, apply_ite hostRest, hostRest_eqPush, hostRest_bump, ite_self]

theorem calm_hostCopy (x : Solution) : Calm s (hostCopy x s) :=
  .ite (.refl s) (.ite (calm_eqPush (.refl s) ..) (calm_bump (.refl s) ..))

end

theorem deliver_servitor {s : State} (x : Solution) (h : s.sys.mode = .servitor) : deliver x s = hostCopy x s := by
  rw [deliver, if_pos h]

/-! ### A machine epoch that is solved (R192 to R197) -/

/-- The machine's state once its epoch has been solved. -/
def solvedState (s : State) (m : Nat) (e : MachEpoch) (b : BaseEpoch) (age : Nat) : State :=
  setRtkMach m (withoutEpoch e) (setRtkMach m (solvedMach s e (fixOf s m e b age) (solutionOf s m e b age (fixOf s m e b age))) s)

/-- The solved state with a failed test raised (R185). -/
def testedState (s : State) (m : Nat) (e : MachEpoch) (b : BaseEpoch) (age : Nat) : State :=
  if (fixOf s m e b age).failed then raise bRTK 2 (solvedState s m e b age) else solvedState s m e b age

theorem emitSolution_eq {s : State} {m : Nat} (e : MachEpoch) (b : BaseEpoch) (age : Nat) (h : (rtkMach s m).leaving = false) :
    emitSolution m e b age s = deliver (solutionOf s m e b age (fixOf s m e b age))
      (countLoad (solutionOf s m e b age (fixOf s m e b age)).latUs (testedState s m e b age)) := by
  have hstays : (rtkMach (setRtkMach m (solvedMach s e (fixOf s m e b age) (solutionOf s m e b age (fixOf s m e b age))) s) m).leaving = false := by
    rw [rtkMach_setRtkMach_same]
    exact h
  rw [emitSolution, epochGone_staying e hstays]
  rfl

theorem machs_countLoad (lat : Nat) (s : State) : (countLoad lat s).rtk.machs = s.rtk.machs := by
  unfold countLoad
  dsimp only
  split
  · rfl
  · rfl

theorem rtkMach_testedState (s : State) (m : Nat) (e : MachEpoch) (b : BaseEpoch) (age k : Nat) :
    rtkMach (testedState s m e b age) k = rtkMach (solvedState s m e b age) k := by
  unfold testedState
  split
  · exact rtkMach_congr (congrArg Rtk.machs (raise_rtk ..)) k
  · rfl

theorem testedState_leaves (s : State) (m : Nat) (e : MachEpoch) (b : BaseEpoch) (age : Nat) :
    (testedState s m e b age).sys = s.sys ∧ (testedState s m e b age).setpt = s.setpt ∧ (testedState s m e b age).grid = s.grid ∧
    ((fixOf s m e b age).failed = true → regBit (testedState s m e b age) 0x040090 2 = true) := by
  unfold testedState
  split
  · exact ⟨raise_sys .., raise_setpt .., raise_grid .., fun _ => regBit_raise_rtk _ (by decide)⟩
  · next hpassed => exact ⟨rfl, rfl, rfl, fun h => absurd h hpassed⟩

/-- In SERVITOR a solution changes its machine's state and what the host sees (R192). -/
theorem emitSolution_servitor {s : State} {m : Nat} (e : MachEpoch) (b : BaseEpoch) (age : Nat) (hstays : (rtkMach s m).leaving = false)
    (hmode : s.sys.mode = .servitor) :
    (∀ k, rtkMach (emitSolution m e b age s) k = rtkMach (solvedState s m e b age) k) ∧
    (emitSolution m e b age s).setpt = s.setpt ∧ (emitSolution m e b age s).grid = s.grid ∧
    ((fixOf s m e b age).failed = true → regBit (emitSolution m e b age s) 0x040090 2 = true) := by
  obtain ⟨hsys, hsetpt, hgrid, hfailed⟩ := testedState_leaves s m e b age
  rw [emitSolution_eq e b age hstays]
  generalize solutionOf s m e b age (fixOf s m e b age) = x
  have hservitor : (countLoad x.latUs (testedState s m e b age)).sys.mode = .servitor := (congrArg Sys.mode hsys).trans hmode
  rw [deliver_servitor x hservitor]
  have hrest := hostRest_hostCopy (countLoad x.latUs (testedState s m e b age)) x
  simp only [hostRest, Prod.mk.injEq] at hrest
  obtain ⟨hrtk, hgr, hset⟩ := hrest
  refine ⟨fun k => ?_, hset.trans hsetpt, hgr.trans hgrid, fun h => (calm_hostCopy _ x).regs.bits _ _ (hfailed h)⟩
  rw [rtkMach_congr (congrArg Rtk.machs hrtk), rtkMach_congr (machs_countLoad ..), rtkMach_testedState]

/-- What an epoch solved leaves of its machine. -/
theorem solvedState_leaves (s : State) (m : Nat) (e : MachEpoch) (b : BaseEpoch) (age : Nat) :
    (rtkMach (solvedState s m e b age) m).lastSolved = some e.time ∧
    (rtkMach (solvedState s m e b age) m).lastFix = fixType s (fixOf s m e b age) ∧
    (rtkMach (solvedState s m e b age) m).seq = ((rtkMach s m).seq + 1) % 2 ^ 32 ∧ e ∉ (rtkMach (solvedState s m e b age) m).epochs ∧
    ∀ k, k ≠ m → rtkMach (solvedState s m e b age) k = rtkMach s k := by
  have hsolved : rtkMach (solvedState s m e b age) m =
      withoutEpoch e (solvedMach s e (fixOf s m e b age) (solutionOf s m e b age (fixOf s m e b age)) (rtkMach s m)) := by
    rw [solvedState, rtkMach_setRtkMach_same, rtkMach_setRtkMach_same]
  rw [hsolved]
  refine ⟨actNext_lastSolved _, actNext_lastFix _, actNext_seq _, not_mem_withoutEpoch _ _, fun k hk => ?_⟩
  rw [solvedState, rtkMach_setRtkMach_other _ _ hk, rtkMach_setRtkMach_other _ _ hk]

/-- The engine takes the next machine epoch. -/
def engineStep (s : State) : State :=
  match currentEpoch s with
  | some (m, e) => if underTest s .search then s else solveNext m e s
  | none => s

theorem engineStep_takes {s : State} {m : Nat} {e : MachEpoch} (hcur : currentEpoch s = some (m, e)) (htest : underTest s .search = false) :
    engineStep s = solveNext m e s := by
  rw [engineStep, hcur]
  exact if_neg (by simp [htest])

theorem solveNext_solved {s : State} {m age : Nat} {e : MachEpoch} {b : BaseEpoch} (hbase : baseFor s e.time = some (b, age))
    (hage : solvable s age = true) (hmode : s.sys.mode = .servitor) : solveNext m e s = emitSolution m e b age s := by
  rw [solveNext, hbase]
  exact if_pos ⟨by rw [hmode]; rfl, hage⟩

theorem solveNext_unsolved {s : State} {m : Nat} {e : MachEpoch}
    (h : baseFor s e.time = none ∨ engineMode s.sys.mode = false ∨ ∃ b age, baseFor s e.time = some (b, age) ∧ solvable s age = false) :
    solveNext m e s = epochGone m e s := by
  unfold solveNext
  split
  · next b age hbase =>
    refine if_neg fun ⟨hmode, hage⟩ => ?_
    obtain hnone | hoff | ⟨b', age', hbase', hold⟩ := h
    · simp [hnone] at hbase
    · simp [hoff] at hmode
    · simp only [hbase, Option.some.injEq, Prod.mk.injEq] at hbase'
      simp [hbase'.2, hold] at hage
  · rfl

/-! ### What a solution reports (R189 to R191) -/

section

variable (s : State) {x : RtkFix}

theorem fixType_none (h : x.nsv < 5 ∨ x.nDd < 4) : fixType s x = 0 := if_pos h

theorem fixType_code (hsv : 5 ≤ x.nsv) (hdd : 4 ≤ x.nDd) (h : x.nAmb < s.rtk.cfg.minAmb) : fixType s x = 1 :=
  (if_neg (by omega)).trans (if_pos h)

theorem fixType_carrier (hsv : 5 ≤ x.nsv) (hdd : 4 ≤ x.nDd) (h : s.rtk.cfg.minAmb ≤ x.nAmb) : fixType s x = if x.fixed then 3 else 2 :=
  (if_neg (by omega)).trans (if_neg (by omega))

theorem solutionOf_unbounded (m : Nat) (e : MachEpoch) (b : BaseEpoch) (age : Nat) (h : fixType s x = 0) :
    (solutionOf s m e b age x).hpl = 0xFFFF ∧ (solutionOf s m e b age x).vpl = 0xFFFF := by
  simp [solutionOf, h, plShown]

end

/-! ### The integer fix (R186, R188) -/

theorem minAmb_le_of_fixes {c : RtkCfg} {a : Attempt} (h : a.fixes c = true) : c.minAmb ≤ a.is.length := by
  simp only [Attempt.fixes, Bool.and_eq_true, decide_eq_true_eq] at h
  exact h.2

section

variable (c : RtkCfg) (axes : Mat) (qh qv : Nat) (b : BaseEpoch) (r : RtkMach) (e : MachEpoch) (a : Nat)

/-- The epoch's float solution, with the signals' lock indicators as they stand after it. -/
def epochFloat : RtkFilter × Update :=
  let l := commons c axes b e.time e.obs
  let q : Rat := (c.qcorr : Rat) / 100000 * ((a : Rat) / 10 ^ 9)
  let u := (floatSolve c e.time l (q * q) (propagate axes qh qv e.time (r.filter.getD (newFilter e.time)))).u
  ({ u.f with locks := locksAfter u.f.locks l, slips := u.f.slips.filter fun y => decide (e.time < y.2) }, u)

/-- The epoch's last attempt at a fix. -/
def epochAttempt : Attempt :=
  let f := epochFloat c axes qh qv b r e a
  attempts c f.1 (searchable f.2).length (searchable f.2)

theorem solveEpoch_fixed_eq : (solveEpoch c axes qh qv b r e a).fixed = (epochAttempt c axes qh qv b r e a).fixes c := by
  rw [solveEpoch, epochAttempt, epochFloat]

theorem solveEpoch_nfix : (solveEpoch c axes qh qv b r e a).nfix =
    if (epochAttempt c axes qh qv b r e a).fixes c then (epochAttempt c axes qh qv b r e a).is.length else 0 := by
  rw [solveEpoch, epochAttempt, epochFloat]

/-- The epochs for which the integers have stood: counted on where they are the same, from one where not, and none without a fix. -/
theorem solveEpoch_count : ∃ (same : Prop) (_ : Decidable same), (solveEpoch c axes qh qv b r e a).count =
    if ¬ (epochAttempt c axes qh qv b r e a).fixes c then 0 else if same then r.holdCount + 1 else 1 := ⟨_, _, rfl⟩

theorem solveEpoch_ints : ∃ z, (solveEpoch c axes qh qv b r e a).ints =
    if (epochAttempt c axes qh qv b r e a).fixes c then z else [] := ⟨_, rfl⟩

theorem solveEpoch_partial : ∃ q, (solveEpoch c axes qh qv b r e a).partial_ =
    ((epochAttempt c axes qh qv b r e a).fixes c && q) := ⟨_, rfl⟩

theorem solveEpoch_fixed (h : (solveEpoch c axes qh qv b r e a).fixed = true) :
    c.minAmb ≤ (solveEpoch c axes qh qv b r e a).nfix ∧ (solveEpoch c axes qh qv b r e a).count ≠ 0 := by
  rw [solveEpoch_fixed_eq] at h
  obtain ⟨same, _, hcount⟩ := solveEpoch_count c axes qh qv b r e a
  constructor
  · rw [solveEpoch_nfix, if_pos h]
    exact minAmb_le_of_fixes h
  · rw [hcount, if_neg (not_not.mpr h)]
    split
    · exact Nat.succ_ne_zero _
    · exact Nat.one_ne_zero

theorem solveEpoch_held : (solveEpoch c axes qh qv b r e a).held =
    decide (c.holdN ≠ 0 ∧ c.holdN ≤ (solveEpoch c axes qh qv b r e a).count) := by
  rw [solveEpoch]

theorem solveEpoch_float (h : (solveEpoch c axes qh qv b r e a).fixed = false) : (solveEpoch c axes qh qv b r e a).ints = [] ∧
    (solveEpoch c axes qh qv b r e a).nfix = 0 ∧ (solveEpoch c axes qh qv b r e a).count = 0 ∧
    (solveEpoch c axes qh qv b r e a).partial_ = false := by
  rw [solveEpoch_fixed_eq] at h
  obtain ⟨same, _, hcount⟩ := solveEpoch_count c axes qh qv b r e a
  obtain ⟨z, hints⟩ := solveEpoch_ints c axes qh qv b r e a
  obtain ⟨q, hpartial⟩ := solveEpoch_partial c axes qh qv b r e a
  rw [hints, solveEpoch_nfix, hcount, hpartial, h]
  exact ⟨rfl, rfl, rfl, rfl⟩

end

/-! ### A stale marker (R192) -/

/-- What of the part a solution without a fix leaves. -/
def clockRest (s : State) : Nat × Rtk := (s.clk, s.rtk)

theorem clockRest_supervise (m : Nat) (s : State) : clockRest (supervise m s) = clockRest s := by
  have hraise (b i : Nat) (u : State) : clockRest (raise b i u) = clockRest u := by simp [clockRest]
  have hset (f : GridMach → GridMach) (u : State) : clockRest (setGridMach m f u) = clockRest u := rfl
  have hbump (ev : Nat) (u : State) : clockRest (bumpGrid ev u) = clockRest u := rfl
  simp only [supervise, askAnneal, apply_ite clockRest, hraise, hbump, hset, ite_self]

theorem clockRest_gridSolution {x : Solution} (h : x.fix = 0) (s : State) : clockRest (gridSolution x s) = clockRest s := by
  unfold gridSolution
  split
  · rfl
  · dsimp only
    rw [if_neg (by simp [h]), clockRest_supervise]
    rfl

/-- A machine's marker counted as its last, with what of it is free drawn. -/
def marked (m : Nat) (s : State) : State := setRtkMach m (fun r => { r with markAt := s.clk }) { s with fresh := s.fresh + 20 }

/-- A stale marker leaves the engine. -/
def markerOut (m : Nat) (s : State) : State :=
  if (marked m s).sys.mode = .servitor then hostCopy (staleMarker s m) (marked m s)
  else setptStale m (gridSolution (staleMarker s m) (marked m s))

theorem rtkMach_marked_same (m : Nat) (s : State) : rtkMach (marked m s) m = { rtkMach s m with markAt := s.clk } :=
  rtkMach_setRtkMach_same ..

theorem rtkMach_marked_other {k m : Nat} (h : k ≠ m) (s : State) : rtkMach (marked m s) k = rtkMach s k := rtkMach_setRtkMach_other _ _ h

/-- The moment at which a machine's marker is due. -/
def markerDue (m : Nat) (s : State) : State := advanceClk ((rtkMach s m).markAt + s.rtk.cfg.staleMs * 10 ^ 6) s

theorem rtkMach_markerDue (m k : Nat) (s : State) : rtkMach (markerDue m s) k = rtkMach s k := rtkMach_advanceClk ..

theorem markerDue_sys (m : Nat) (s : State) : (markerDue m s).sys = s.sys := advanceClk_sys ..

/-- A machine's stale marker, if the engine runs and the machine is on the list. -/
def markerStep (m : Nat) (s : State) : State :=
  if ¬ (s.rtk.cfg.admitted.any fun a => a.mach == m) ∨ ¬ engineRuns s then s else markerOut m (markerDue m s)

theorem markerStep_out {m : Nat} {s : State} (hlist : (s.rtk.cfg.admitted.any fun a => a.mach == m) = true) (hon : engineRuns s = true) :
    markerStep m s = markerOut m (markerDue m s) := if_neg (by simp [hlist, hon])

theorem markerOut_leaves (m : Nat) (s : State) : (markerOut m s).clk = s.clk ∧ (markerOut m s).rtk = (marked m s).rtk ∧
    (s.sys.mode = .servitor → (markerOut m s).setpt = s.setpt ∧ (markerOut m s).grid = s.grid) ∧
    (s.sys.mode ≠ .servitor → (spMach (markerOut m s) m).stale = true) := by
  unfold markerOut
  split
  · next hmode =>
    have hrest := hostRest_hostCopy (marked m s) (staleMarker s m)
    simp only [hostRest, Prod.mk.injEq] at hrest
    obtain ⟨hrtk, hgrid, hset⟩ := hrest
    exact ⟨(calm_hostCopy ..).clk_eq, hrtk, fun _ => ⟨hset, hgrid⟩, fun h => absurd hmode h⟩
  · next hmode =>
    have hrest := clockRest_gridSolution (x := staleMarker s m) rfl (marked m s)
    simp only [clockRest, Prod.mk.injEq] at hrest
    obtain ⟨hclk, hrtk⟩ := hrest
    refine ⟨hclk, hrtk, fun h => absurd h hmode, fun _ => ?_⟩
    simp [spMach, setptStale, kmod]

/-! ### A correction bundle (R174 to R177) -/

theorem signBundle_unsigned (b : Bundle) {s : State} (h : regBit s 0x040034 31 = false) : signBundle b s = (b, s) := if_pos (by simp [h])

/-- A chain that carries corrections takes a bundle from its start. -/
def onRoute (seq : Nat) (bs : Bytes) (x : Chain) : Chain := { x with corrSeq := seq, corrChunk := 0, corrLeft := bs }

theorem chain_foldl_setChain (f : Chain → Chain) {l : List Nat} (hnodup : l.Nodup) (hl : ∀ c ∈ l, c < 3) (s : State) (c : Nat) :
    chain (l.foldl (fun s c => setChain c f s) s) c = if c ∈ l then f (chain s c) else chain s c := by
  induction l generalizing s with
  | nil => rfl
  | cons a l ih =>
    obtain ⟨ha, hnodup⟩ := List.nodup_cons.mp hnodup
    rw [List.foldl_cons, ih hnodup fun c hc => hl c (List.mem_cons_of_mem a hc)]
    by_cases hc : c = a
    · subst hc
      simp [ha, chain_setChain_same s f (hl c List.mem_cons_self)]
    · simp [hc, chain_setChain_other s f hc]

/-- The chains that carry corrections. -/
def corrChains (s : State) : List Nat := (List.range 3).filter fun c => (chain s c).cfg.corr

theorem mem_corrChains {s : State} {c : Nat} (hc : c < 3) : c ∈ corrChains s ↔ (chain s c).cfg.corr = true := by
  simp [corrChains, hc]

/-- The chains that carry corrections take a bundle, and nothing else but a count changes. -/
theorem routeRadio_eq (seq : Nat) (bs : Bytes) (s : State) : ∃ l, routeRadio seq bs s =
    { (corrChains s).foldl (fun s c => setChain c (onRoute seq bs) s) s with counts := l } := by
  unfold routeRadio
  dsimp only
  split
  · exact ⟨_, rfl⟩
  · exact ⟨_, rfl⟩

theorem chain_routeRadio (seq : Nat) (bs : Bytes) (s : State) {c : Nat} (hc : c < 3) :
    chain (routeRadio seq bs s) c = if (chain s c).cfg.corr = true then onRoute seq bs (chain s c) else chain s c := by
  obtain ⟨l, hrouted⟩ := routeRadio_eq seq bs s
  have hlow : ∀ c ∈ corrChains s, c < 3 := fun c h => List.mem_range.mp (List.mem_of_mem_filter h)
  have hchains := chain_foldl_setChain (onRoute seq bs) (List.nodup_range.filter _) hlow s c
  rw [hrouted, ← if_congr (mem_corrChains hc) rfl rfl]
  exact hchains

/-- What of the part the radio's route leaves. -/
def routeRest (s : State) : List (Nat × Word) × Rtk × Switch := (s.regs, s.rtk, s.switch)

theorem routeRest_routeRadio (seq : Nat) (bs : Bytes) (s : State) : routeRest (routeRadio seq bs s) = routeRest s := by
  obtain ⟨l, hrouted⟩ := routeRadio_eq seq bs s
  rw [hrouted]
  exact foldl_keep routeRest (f := fun s c => setChain c (onRoute seq bs) s) (fun _ _ => rfl) (corrChains s) s

/-- The bundle that was due taken for its routes. -/
def bundleTaken (s : State) : State := { s with rtk := { s.rtk with bundleDue := none, bundleSeq := (s.rtk.bundleSeq + 1) % 2 ^ 16 } }

/-- A bundle on the radio's route, if that is enabled. -/
def radioRouted (seq : Nat) (bs : Bytes) (s : State) : State := if regBit s 0x040034 0 then routeRadio seq bs s else s

/-- A bundle on the route of UART0, if that is enabled. -/
def uartRouted (bs : Bytes) (s : State) : State := if regBit s 0x040034 1 then routeUart bs s else s

/-- A bundle on the route of port 15, if that is enabled. -/
def ethRouted (bs : Bytes) (s : State) : State := if regBit s 0x040034 2 then routeEth bs s else s

/-- A bundle signed and sent on the enabled routes. -/
def bundleOut (b : Bundle) (s : State) : State :=
  let r := signBundle b s
  ethRouted (bundleBytes r.1) (uartRouted (bundleBytes r.1) (radioRouted b.seq (bundleBytes r.1) r.2))

/-- The bundle that is due sent. -/
def bundleStep (s : State) : State := match s.rtk.bundleDue with | none => s | some b => bundleOut b (bundleTaken s)

theorem exec_bundleComplete {s : State} {b : Bundle} (hrun : Running s) (h : s.rtk.bundleDue = some b) :
    exec .bundleComplete s = .next (bundleOut b (bundleTaken s)) :=
  exec_bus (f := bundleStep) rfl hrun (by rw [bundleStep, h])

theorem radioRouted_on {s : State} (seq : Nat) (bs : Bytes) (h : regBit s 0x040034 0 = true) : radioRouted seq bs s = routeRadio seq bs s :=
  if_pos h

theorem radioRouted_off {s : State} (seq : Nat) (bs : Bytes) (h : regBit s 0x040034 0 = false) : radioRouted seq bs s = s :=
  if_neg (Bool.eq_false_iff.mp h)

theorem routeRest_radioRouted (seq : Nat) (bs : Bytes) (s : State) : routeRest (radioRouted seq bs s) = routeRest s := by
  rw [radioRouted, apply_ite routeRest, routeRest_routeRadio, ite_self]

/-- An unsigned bundle that neither UART0 nor port 15 takes. -/
theorem bundleOut_radio {s : State} (b : Bundle) (hsign : regBit s 0x040034 31 = false) (huart : regBit s 0x040034 1 = false)
    (heth : regBit s 0x040034 2 = false) : bundleOut b s = radioRouted b.seq (bundleBytes b) s := by
  have hregs : (radioRouted b.seq (bundleBytes b) s).regs = s.regs := congrArg Prod.fst (routeRest_radioRouted ..)
  have huart' := (regBit_congr hregs 0x040034 1).trans huart
  have heth' := (regBit_congr hregs 0x040034 2).trans heth
  simp [bundleOut, signBundle_unsigned b hsign, uartRouted, ethRouted, huart', heth']

end Sys2Proof.Machine

open Sys2Proof Sys2Proof.Machine

/-- Settles O24: the epoch that the engine takes is `emitSolution`'s or gone, what a solution reports is its fix type, an attempt that
fixes holds the counts, a marker changes its machine's clock alone, and a bundle reaches each chain that carries corrections. -/
theorem solutionsAndBundles : Obligations.SolutionsAndBundles := by
  refine ⟨fun s m e hrun hcur htest hstays => ⟨fun b age hbase hage hmode => ?solved, fun hnot => ?unsolved⟩,
    fun s m e b age x => ?reported, fun c axes qh qv b r e a => ?integers, fun s m hrun hlist hon => ?stale,
    fun s m => ⟨rfl, rfl, rfl, rfl⟩, fun s b hrun hdue hsign huart heth => ?bundle⟩
  case solved =>
    obtain ⟨hmachs, hsetpt, hgrid, hfailed⟩ := emitSolution_servitor e b age hstays hmode
    obtain ⟨hsolved, hfix, hseq, hgone, hother⟩ := solvedState_leaves s m e b age
    refine after_gridBus (f := engineStep) rfl hrun fun t hkeep => ?_
    rw [engineStep_takes hcur htest, solveNext_solved hbase hage hmode] at hkeep
    have htm (k : Nat) : rtkMach t k = rtkMach (solvedState s m e b age) k :=
      (hkeep _ (fun u => rtkMach u k) fun _ _ _ => rfl).trans (hmachs k)
    rw [htm m]
    exact ⟨hsolved, hfix, hseq, hgone, (hkeep _ State.setpt fun _ _ _ => rfl).trans hsetpt, (hkeep _ State.grid fun _ _ _ => rfl).trans hgrid,
      fun h => (hkeep _ (fun u => regBit u 0x040090 2) fun _ _ _ => rfl).trans (hfailed h), fun k hk => (htm k).trans (hother k hk)⟩
  case unsolved =>
    refine ⟨_, exec_gridBus (f := engineStep) rfl hrun ((engineStep_takes hcur htest).trans ((solveNext_unsolved hnot).trans
      (epochGone_staying e hstays))) rfl, ?_, rfl⟩
    rw [rtkMach_setRtkMach_same]
    exact not_mem_withoutEpoch _ _
  case reported =>
    refine ⟨rfl, rfl, rfl, fun hfew => ?_, fun hsv hdd hamb => fixType_code s hsv hdd hamb, fun hsv hdd hamb => fixType_carrier s hsv hdd hamb⟩
    have hnone := fixType_none s hfew
    exact ⟨hnone, solutionOf_unbounded s m e b age hnone⟩
  case integers =>
    refine ⟨solveEpoch_fixed c axes qh qv b r e a, fun hfloat => ?_, fun hheld => ?_⟩
    · obtain ⟨hints, hnfix, hcount, hpartial⟩ := solveEpoch_float c axes qh qv b r e a hfloat
      refine ⟨hints, hnfix, ?_, hpartial⟩
      rw [solveEpoch_held, hcount]
      simp
    · rw [solveEpoch_held] at hheld
      exact of_decide_eq_true hheld
  case stale =>
    obtain ⟨hclk, hrtk, hservitor, hother⟩ := markerOut_leaves m (markerDue m s)
    refine after_gridBus (f := markerStep m) rfl hrun fun t hkeep => ?_
    rw [markerStep_out hlist hon] at hkeep
    have htclk : t.clk = (markerDue m s).clk := (hkeep _ State.clk fun _ _ _ => rfl).trans hclk
    have htm (k : Nat) : rtkMach t k = rtkMach (marked m (markerDue m s)) k :=
      (hkeep _ (fun u => rtkMach u k) fun _ _ _ => rfl).trans (rtkMach_congr (congrArg Rtk.machs hrtk) k)
    refine ⟨htclk.trans (advanceClk_clk ..), ?same, fun k hk => ?others, fun hmode => ?inServitor, fun hmode => ?elsewhere⟩
    case same => rw [htm, rtkMach_marked_same, htclk, rtkMach_markerDue]
    case others => rw [htm, rtkMach_marked_other hk, rtkMach_markerDue]
    case inServitor =>
      obtain ⟨hsetpt, hgrid⟩ := hservitor (by rwa [markerDue_sys])
      exact ⟨(hkeep _ State.setpt fun _ _ _ => rfl).trans (hsetpt.trans (advanceClk_setpt ..)),
        (hkeep _ State.grid fun _ _ _ => rfl).trans (hgrid.trans (advanceClk_grid ..))⟩
    case elsewhere => exact (hkeep _ (fun u => (spMach u m).stale) fun _ _ _ => rfl).trans (hother (by rwa [markerDue_sys]))
  case bundle =>
    refine ⟨_, exec_bundleComplete hrun hdue, ?_⟩
    rw [bundleOut_radio b (s := bundleTaken s) hsign huart heth]
    have hrest := routeRest_radioRouted b.seq (bundleBytes b) (bundleTaken s)
    simp only [routeRest, Prod.mk.injEq] at hrest
    obtain ⟨-, hrtk, hswitch⟩ := hrest
    refine ⟨congrArg Rtk.bundleDue hrtk, congrArg Rtk.bundleSeq hrtk, (congrArg Rtk.uartWait hrtk :), hswitch, fun hoff => ?disabled,
      fun hon c hc => ?enabled⟩
    case disabled =>
      rw [radioRouted_off (s := bundleTaken s) _ _ hoff]
      exact ⟨rfl, rfl⟩
    case enabled =>
      rw [radioRouted_on (s := bundleTaken s) _ _ hon, chain_routeRadio _ _ _ hc]
      refine ⟨fun hcorr => ?_, fun hcorr => if_neg (Bool.eq_false_iff.mp hcorr)⟩
      have hcorr' : (chain (bundleTaken s) c).cfg.corr = true := hcorr
      rw [if_pos hcorr']
      exact ⟨rfl, rfl, rfl⟩

end

section
/-! Table instances of Lode (07_lode_tables.md R207 to R216): an `Inst` read back once it is replaced, and what an insertion
and the length filter leave of it. -/

namespace Sys2Proof.Machine

open Sys2Proof

/-! ### An `Inst` replaced -/

theorem inst_congr {s t : State} (h : t.lode.insts = s.lode.insts) (n : Nat) (p : Bool) : inst t n p = inst s n p := by
  rw [inst, inst, h]

/-- An `Inst` stands under its own table and pipeline. -/
theorem named_of_inst {s : State} {n : Nat} {p : Bool} {i : Inst} (h : inst s n p = some i) : i.table = n ∧ i.pipe = p := by
  simpa using List.find?_some h

theorem mem_of_inst {s : State} {n : Nat} {p : Bool} {i : Inst} (h : inst s n p = some i) : i ∈ s.lode.insts := List.mem_of_find?_eq_some h

theorem mem_instsOf {s : State} {n : Nat} {i : Inst} : i ∈ instsOf s n ↔ i ∈ s.lode.insts ∧ i.table = n := by simp [instsOf]

theorem inst_setInst (j : Inst) (s : State) (n : Nat) (p : Bool) :
    inst (setInst j s) n p = (inst s n p).map (fun x => if x.table = j.table ∧ x.pipe = j.pipe then j else x) := by
  simp only [inst, setInst, List.find?_map]
  congr 2
  funext x
  simp only [Function.comp_apply]
  split
  · next h => rw [h.1, h.2]
  · rfl

theorem inst_setInst_same {s : State} {n : Nat} {p : Bool} {i j : Inst} (h : inst s n p = some i) (htable : j.table = n) (hpipe : j.pipe = p) :
    inst (setInst j s) n p = some j := by
  obtain ⟨hn, hp⟩ := named_of_inst h
  simp [inst_setInst, h, hn, hp, htable, hpipe]

theorem inst_setInst_pipe {p q : Bool} {j : Inst} (s : State) (n : Nat) (hpipe : j.pipe = p) (hne : q ≠ p) :
    inst (setInst j s) n q = inst s n q := by
  rw [inst_setInst]
  cases h : inst s n q with
  | none => rfl
  | some i => simp [(named_of_inst h).2, hpipe, hne]

/-! ### What an insertion and the length filter leave of an `Inst` (R214, R216) -/

/-- An `Inst` beside its entries and its length filter. -/
def Inst.frame (i : Inst) : Inst := { i with entries := [], lost := [], filter := [], lengthCount := [] }

theorem table_of_frame {i j : Inst} (h : j.frame = i.frame) : j.table = i.table := (congrArg Inst.table h :)

theorem pipe_of_frame {i j : Inst} (h : j.frame = i.frame) : j.pipe = i.pipe := (congrArg Inst.pipe h :)

@[simp] theorem frame_put (i : Inst) (pos : Nat × Nat) (e : LodeEntry) : (i.put pos e).frame = i.frame := by
  unfold Inst.put
  split <;> rfl

/-- An `Inst` with another length filter. -/
def Refiltered (i j : Inst) : Prop := ∃ f c, j = { i with filter := f, lengthCount := c }

namespace Refiltered

theorem refl (i : Inst) : Refiltered i i := ⟨_, _, rfl⟩

theorem ite {i j k : Inst} {p : Prop} [Decidable p] (hj : Refiltered i j) (hk : Refiltered i k) : Refiltered i (if p then j else k) := by
  split
  · exact hj
  · exact hk

theorem foldl {α : Type} {f : Inst → α → Inst} {i j : Inst} (hf : ∀ j a, Refiltered i j → Refiltered i (f j a)) (l : List α)
    (h : Refiltered i j) : Refiltered i (l.foldl f j) := List.foldlRecOn l f h fun j hj a _ => hf j a hj

theorem entries_eq {i j : Inst} (h : Refiltered i j) : j.entries = i.entries := by
  obtain ⟨f, c, rfl⟩ := h
  rfl

theorem lost_eq {i j : Inst} (h : Refiltered i j) : j.lost = i.lost := by
  obtain ⟨f, c, rfl⟩ := h
  rfl

theorem frame_eq {i j : Inst} (h : Refiltered i j) : j.frame = i.frame := by
  obtain ⟨f, c, rfl⟩ := h
  rfl

theorem findKey_eq {i j : Inst} (h : Refiltered i j) (k : LodeKey) : findKey j k = findKey i k := by
  rw [findKey, findKey, h.entries_eq, h.lost_eq]

end Refiltered

theorem refiltered_index {i j : Inst} (h : Refiltered i j) (k : LodeKey) (pos : Nat × Nat) : Refiltered i (j.index k pos) := by
  refine .foldl ?_ _ h
  rintro j n ⟨f, c, rfl⟩
  exact .ite ⟨_, _, rfl⟩ (.ite ⟨_, _, rfl⟩ ⟨_, _, rfl⟩)

theorem refiltered_unindex {i j : Inst} (h : Refiltered i j) (k : LodeKey) : Refiltered i (j.unindex k) := by
  refine .foldl ?_ _ h
  rintro j n ⟨f, c, rfl⟩
  exact .ite (.ite ⟨_, _, rfl⟩ ⟨_, _, rfl⟩) (.ite ⟨_, _, rfl⟩ ⟨_, _, rfl⟩)

theorem refiltered_indexed (d : TableDesc) (k : LodeKey) (i : Inst) : Refiltered i (indexed d k i) := by
  refine .ite ?_ (.refl i)
  split
  · exact refiltered_index (.refl i) ..
  · exact .refl i

theorem frame_displace {d : TableDesc} {free n : Nat} {i j : Inst} {bs : List Nat} {e : LodeEntry} (h : displace d free n i bs e = some j) :
    j.frame = i.frame := by
  induction n generalizing i bs e with
  | zero =>
    rw [displace] at h
    split at h
    · obtain rfl := Option.some.inj h
      exact frame_put ..
    · cases h
  | succ n ih =>
    rw [displace] at h
    dsimp only at h
    split at h
    · obtain rfl := Option.some.inj h
      exact frame_put ..
    · split at h
      · cases h
      · exact (ih h).trans (frame_put ..)

theorem frame_insertEntry {d : TableDesc} {free : Nat} {i j : Inst} {e : LodeEntry} {b : Bool} (h : insertEntry d free i e = some (j, b)) :
    j.frame = i.frame := by
  unfold insertEntry at h
  dsimp only at h
  split at h
  · next hpath =>
    cases h
    exact frame_displace hpath
  · split at h
    · split at h
      · cases h
        exact frame_put ..
      · cases h
    · cases h

end Sys2Proof.Machine
end

section
/-! Learn requests applied by an `Inst` (07_lode_tables.md R208, R231 to R234): what each outcome is, and what it leaves of the engine. -/

namespace Sys2Proof.Machine

open Sys2Proof

/-! ### OCC_LIMIT after the engine's own work (R268, R269) -/

/-- Between two states the tables, the counters and what is calm stand, and the occupancy requests that wait. -/
structure LodeStands (s t : State) : Prop where
  calm : Calm s t
  lode : t.lode = s.lode
  counts : t.counts = s.counts
  waits : t.grid.occWait = s.grid.occWait

namespace LodeStands

variable {s t u : State}

theorem refl (s : State) : LodeStands s s := ⟨.refl s, rfl, rfl, rfl⟩

theorem trans (h : LodeStands s t) (k : LodeStands t u) : LodeStands s u :=
  ⟨h.calm.trans k.calm, k.lode.trans h.lode, k.counts.trans h.counts, k.waits.trans h.waits⟩

theorem inst_eq (h : LodeStands s t) (n : Nat) (p : Bool) : inst t n p = inst s n p := inst_congr (congrArg Lode.insts h.lode) n p

theorem countOf_eq (h : LodeStands s t) (o e : Nat) : countOf t o e = countOf s o e := countOf_congr h.counts o e

end LodeStands

theorem lodeStands_raise (b i : Nat) (s : State) : LodeStands s (raise b i s) :=
  ⟨calm_raise (.refl s) .., raise_lode .., raise_counts .., congrArg Grid.occWait (raise_grid ..)⟩

theorem lodeStands_settleOccLimit (m : Nat) (s : State) : LodeStands s (settleOccLimit m s) := by
  unfold settleOccLimit
  dsimp only
  split
  · exact .refl s
  · have hset : LodeStands s { s with grid.machs := kmod s.grid.machs m {} (fun g => { g with occLimit := occAtLimit s m }) } :=
      ⟨.other (.refl s) rfl rfl, rfl, rfl, rfl⟩
    split
    · exact hset.trans (lodeStands_raise ..)
    · exact hset

theorem lodeStands_afterLearn (old : State) (n : Nat) (p : Bool) (s : State) : LodeStands s (afterLearn old n p s) := by
  unfold afterLearn
  split
  · split
    · split
      · exact lodeStands_settleOccLimit ..
      · exact .refl s
    · exact .refl s
  · exact .refl s

/-- The state that a learn request leaves, beside OCC_LIMIT. -/
def learnDone (n : Nat) (p : Bool) (s : State) : State :=
  let t := afterLearn s n p (learnStep n p s)
  issueOcc t.grid.occWait t

/-- With no occupancy request waiting, what follows a learn request changes OCC_LIMIT alone. -/
theorem lodeStands_learnDone {n : Nat} {p : Bool} {s : State} (h : (learnStep n p s).grid.occWait = []) :
    LodeStands (learnStep n p s) (learnDone n p s) := by
  have hafter := lodeStands_afterLearn s n p (learnStep n p s)
  have hnone := hafter.waits.trans h
  unfold learnDone
  dsimp only
  rw [hnone]
  exact ⟨hafter.calm.other rfl rfl, hafter.lode, hafter.counts, h.symm⟩

/-! ### The oldest request (R208, R231) -/

/-- An `Inst` that has taken the oldest request from its queue: its entries have FLAPPING as it stands now. -/
def Inst.taken (s : State) (l : List LearnReq) (i : Inst) : Inst := { i.flaps s with learnQ := l }

section

variable {s : State} {n : Nat} {p : Bool} {i : Inst} {d : TableDesc} {r : LearnReq} {l : List LearnReq}
  (hi : inst s n p = some i) (hd : tableDesc s n = some d) (hq : i.learnQ = r :: l)

include hi hd hq

theorem learnStep_stopped (h : pipeRuns s p = false) : learnStep n p s = s := by
  simp [learnStep, hi, hd, hq, h]

theorem learnStep_running (h : pipeRuns s p = true) :
    learnStep n p s = applyLearn d (i.taken s l) r (setInst (i.taken s l) s) := by
  simp [learnStep, hi, hd, hq, h, Inst.taken]

end

/-! ### The request applied (R232 to R234) -/

section

variable {d : TableDesc} {i : Inst} {r : LearnReq} {s : State} {pos : Nat × Nat} {e : LodeEntry}

theorem applyLearn_written (h : findKey i r.key = some (pos, e)) (hw : e.written = true) : applyLearn d i r s = s := by
  simp [applyLearn, h, hw]

theorem applyLearn_hit (h : findKey i r.key = some (pos, e)) (hw : e.written = false) (hsame : e.source = r.source)
    (hocc : ∀ a b, r.result ≠ .occ a b) : applyLearn d i r s = setInst (i.put pos { e with hit := true }) s := by
  unfold applyLearn
  rw [h]
  dsimp only
  rw [if_neg (by simp [hw]), if_pos hsame]
  split
  · next a b hr => exact absurd hr (hocc a b)
  · rfl

theorem applyLearn_flapping (h : findKey i r.key = some (pos, e)) (hw : e.written = false) (hother : e.source ≠ r.source)
    (hflap : e.flapping = true) : applyLearn d i r s = bumpLode i.pipe 5 s := by
  simp [applyLearn, h, hw, hother, hflap]

theorem applyLearn_new (h : findKey i r.key = none) (hroom : learnedBy i r.source < learnLimit s d) :
    (∃ j, applyLearn d i r s = bumpLode i.pipe 2 (setInst j (drawn64 s))) ∨
      applyLearn d i r s = raise bLODE 2 (bumpLode i.pipe 12 (drawn64 s)) := by
  unfold applyLearn
  rw [h]
  dsimp only
  rw [if_neg (Nat.not_le.mpr hroom)]
  split
  · exact .inl ⟨_, rfl⟩
  · exact .inr rfl

end

/-! ### What a request leaves of the engine -/

/-- The part as a learn request leaves it: the written copy, the tables, time, the mode, the occupancy requests that wait, and the
instances of the other pipeline. -/
def learnRest (p : Bool) (s : State) : List (Nat × LodeEntry) × List TableDesc × TimeB × Sys × List LearnReq × (Nat → Option Inst) :=
  (s.lode.copy, s.lode.tables, s.time, s.sys, s.grid.occWait, fun n => inst s n (!p))

theorem learnRest_setInst {p : Bool} {j : Inst} (h : j.pipe = p) (s : State) : learnRest p (setInst j s) = learnRest p s := by
  have hother : (fun n => inst (setInst j s) n (!p)) = fun n => inst s n (!p) := funext fun n => inst_setInst_pipe s n h (by simp)
  exact congrArg (fun g => (s.lode.copy, s.lode.tables, s.time, s.sys, s.grid.occWait, g)) hother

theorem LodeStands.learnRest_eq {s t : State} (h : LodeStands s t) (p : Bool) : learnRest p t = learnRest p s := by
  simp only [learnRest, h.lode, h.calm.time_eq, h.calm.sys_eq, h.waits, h.inst_eq]

theorem learnRest_raise (p : Bool) (b i : Nat) (s : State) : learnRest p (raise b i s) = learnRest p s :=
  (lodeStands_raise b i s).learnRest_eq p

theorem learnRest_excess (p : Bool) (d : TableDesc) (q : Bool) (src : Nat) (s : State) : learnRest p (excess d q src s) = learnRest p s := by
  unfold excess
  split
  · rfl
  · rfl
  · exact (lodeStands_settleOccLimit ..).learnRest_eq p

theorem learnRest_applyMove {p : Bool} {i : Inst} (hp : i.pipe = p) (d : TableDesc) (pos : Nat × Nat) (e : LodeEntry) (r : LearnReq)
    (s : State) : learnRest p (applyMove d i pos e r s) = learnRest p s := by
  unfold applyMove
  dsimp only
  split
  · have hclear := learnRest_setInst (j := i.clear pos) hp s
    split
    · exact (learnRest_excess ..).trans hclear
    · exact hclear
  · have hmove (x : LodeEntry) := learnRest_setInst (j := i.put pos x) ((pipe_of_frame (frame_put ..)).trans hp) s
    split
    · exact (learnRest_raise ..).trans (hmove _)
    · exact hmove _

theorem learnRest_applyLearn {p : Bool} {i : Inst} (hp : i.pipe = p) (d : TableDesc) (r : LearnReq) (s : State) :
    learnRest p (applyLearn d i r s) = learnRest p s := by
  unfold applyLearn
  split
  · next pos e _ =>
    split
    · rfl
    · split
      · exact learnRest_setInst ((pipe_of_frame (frame_put ..)).trans hp) s
      · split
        · rfl
        · exact learnRest_applyMove hp ..
  · split
    · split
      · exact learnRest_excess ..
      · rfl
    · split
      · next j b hin =>
        exact learnRest_setInst ((pipe_of_frame (frame_insertEntry hin)).trans hp) (drawn64 s)
      · exact learnRest_raise ..

/-! ### LEARN_APPLY (R208, R231 to R234) -/

theorem exec_learnApply {s : State} (n : Fin 64) (p : Bool) (hrun : Running s) : exec (.learnApply n p) s = .next (learnDone n p s) :=
  exec_bus (f := learnDone n p) rfl hrun rfl

section

variable {s : State} {n : Nat} {p : Bool} {i : Inst} {d : TableDesc} {r : LearnReq} {l : List LearnReq}
  (hi : inst s n p = some i) (hd : tableDesc s n = some d) (hq : i.learnQ = r :: l) (hwait : s.grid.occWait = [])

include hi

theorem inst_taken : inst (setInst (i.taken s l) s) n p = some (i.taken s l) :=
  inst_setInst_same hi (named_of_inst hi).1 (named_of_inst hi).2

include hd hq

theorem learnRest_learnStep (h : pipeRuns s p = true) : learnRest p (learnStep n p s) = learnRest p s := by
  have hpipe : (i.taken s l).pipe = p := (named_of_inst hi).2
  rw [learnStep_running hi hd hq h, learnRest_applyLearn hpipe, learnRest_setInst hpipe]

include hwait

theorem lodeStands_learnDone_stopped (h : pipeRuns s p = false) : LodeStands s (learnDone n p s) := by
  have hstep := learnStep_stopped hi hd hq h
  have hdone := lodeStands_learnDone (hstep ▸ hwait)
  rwa [hstep] at hdone

variable (hruns : pipeRuns s p = true)

include hruns

/-- What follows the request applied changes OCC_LIMIT alone. -/
theorem lodeStands_learnDone_running : LodeStands (applyLearn d (i.taken s l) r (setInst (i.taken s l) s)) (learnDone n p s) := by
  have hnone : (learnStep n p s).grid.occWait = [] :=
    (congrArg (fun x => x.2.2.2.2.1) (learnRest_learnStep hi hd hq hruns)).trans hwait
  exact learnStep_running hi hd hq hruns ▸ lodeStands_learnDone hnone

theorem learnDone_leaves : (learnDone n p s).lode.copy = s.lode.copy ∧ (learnDone n p s).lode.tables = s.lode.tables ∧
    (learnDone n p s).time = s.time ∧ (learnDone n p s).sys = s.sys ∧ ∀ q, q ≠ p → inst (learnDone n p s) n q = inst s n q := by
  have hstep := learnRest_learnStep hi hd hq hruns
  have hdone := lodeStands_learnDone ((congrArg (fun x => x.2.2.2.2.1) hstep).trans hwait)
  have hrest := (hdone.learnRest_eq p).trans hstep
  simp only [learnRest, Prod.mk.injEq] at hrest
  obtain ⟨hcopy, htables, htime, hsys, -, hother⟩ := hrest
  exact ⟨hcopy, htables, htime, hsys, fun q hq => Bool.eq_not_of_ne hq ▸ congrFun hother n⟩

theorem learnDone_written {pos : Nat × Nat} {e : LodeEntry} (h : findKey (i.taken s l) r.key = some (pos, e)) (hw : e.written = true) :
    inst (learnDone n p s) n p = some (i.taken s l) ∧ (learnDone n p s).counts = s.counts := by
  have hdone := lodeStands_learnDone_running hi hd hq hwait hruns
  rw [applyLearn_written h hw] at hdone
  exact ⟨(hdone.inst_eq ..).trans (inst_taken hi), hdone.counts⟩

theorem learnDone_hit {pos : Nat × Nat} {e : LodeEntry} (h : findKey (i.taken s l) r.key = some (pos, e)) (hw : e.written = false)
    (hsame : e.source = r.source) (hocc : ∀ a b, r.result ≠ .occ a b) :
    inst (learnDone n p s) n p = some ((i.taken s l).put pos { e with hit := true }) := by
  have hdone := lodeStands_learnDone_running hi hd hq hwait hruns
  obtain ⟨htable, hpipe⟩ := named_of_inst hi
  rw [applyLearn_hit h hw hsame hocc] at hdone
  exact (hdone.inst_eq ..).trans (inst_setInst_same (inst_taken hi) ((table_of_frame (frame_put ..)).trans htable)
    ((pipe_of_frame (frame_put ..)).trans hpipe))

theorem learnDone_flapping {pos : Nat × Nat} {e : LodeEntry} (h : findKey (i.taken s l) r.key = some (pos, e)) (hw : e.written = false)
    (hother : e.source ≠ r.source) (hflap : e.flapping = true) :
    inst (learnDone n p s) n p = some (i.taken s l) ∧
      countOf (learnDone n p s) 0x050044 (5 + 0x100 * b2n i.pipe) = countOf s 0x050044 (5 + 0x100 * b2n i.pipe) + 1 := by
  have hdone := lodeStands_learnDone_running hi hd hq hwait hruns
  rw [applyLearn_flapping h hw hother hflap] at hdone
  exact ⟨(hdone.inst_eq ..).trans (inst_taken hi), (hdone.countOf_eq ..).trans (countOf_bumpBy_same ..)⟩

theorem learnDone_new (h : findKey (i.taken s l) r.key = none) (hroom : learnedBy (i.taken s l) r.source < learnLimit s d) :
    countOf (learnDone n p s) 0x050044 (2 + 0x100 * b2n i.pipe) = countOf s 0x050044 (2 + 0x100 * b2n i.pipe) + 1 ∨
      inst (learnDone n p s) n p = some (i.taken s l) ∧
        countOf (learnDone n p s) 0x050044 (12 + 0x100 * b2n i.pipe) = countOf s 0x050044 (12 + 0x100 * b2n i.pipe) + 1 ∧
        regBit (learnDone n p s) 0x050050 2 = true := by
  have hdone := lodeStands_learnDone_running hi hd hq hwait hruns
  rcases applyLearn_new (s := setInst (i.taken s l) s) h hroom with ⟨j, hlearned⟩ | hfull
  · rw [hlearned] at hdone
    exact .inl ((hdone.countOf_eq ..).trans (countOf_bumpBy_same ..))
  · rw [hfull] at hdone
    refine .inr ⟨?_, ?_, hdone.calm.regs.bits _ _ (regBit_raise_same _ (b := bLODE) (by decide) (by decide))⟩
    · rw [hdone.inst_eq, inst_congr (congrArg Lode.insts (raise_lode ..))]
      exact inst_taken hi
    · rw [hdone.countOf_eq, countOf_congr (raise_counts ..)]
      exact countOf_bumpBy_same ..

end

end Sys2Proof.Machine
end

section
/-! The sweepers, flapping entries and restores (07_lode_tables.md R225 to R229, R233, R235, R238): what a visit leaves in its bucket and in
the others, when FLAPPING ends, and what a restore and a corrected bucket error leave. -/

namespace Sys2Proof.Machine

open Sys2Proof

/-! ### One entry under the sweeper (R226, R229) -/

section

variable {nowNs : Nat} {e : LodeEntry}

theorem sweepSlot_expired (h : expired nowNs e = true) (hit : Bool) : sweepSlot nowNs hit e = none := by
  simp [sweepSlot, sweepEntry, h]

variable (h : expired nowNs e = false)

include h

theorem sweepSlot_kept (hw : e.written = true) (ha : e.age = false) (hit : Bool) : sweepSlot nowNs hit e = some e := by
  simp [sweepSlot, sweepEntry, h, hw, ha]

/-- A written entry with AGE clear does not age, and every other one does. -/
theorem sweepEntry_aged (hage : e.written = false ∨ e.age = true) : sweepEntry nowNs e =
    if e.hit then some { e with hit := false, seenClear := false } else if ¬ e.seenClear then some { e with seenClear := true } else none := by
  rw [sweepEntry, if_neg (by simp [h]), if_neg]
  rintro ⟨hw, ha⟩
  rcases hage with hw' | ha'
  · exact Bool.false_ne_true (hw'.symm.trans hw)
  · exact ha ha'

/-- R229: a hit of the same cycle keeps the entry, and its HIT. -/
theorem sweepSlot_struck (hage : e.written = false ∨ e.age = true) : ∃ e', sweepSlot nowNs true e = some e' ∧ e'.hit = true ∧ e'.key = e.key := by
  have hcond : true = true ∧ ¬ expired nowNs e = true ∧ (e.written = true → e.age = true) :=
    ⟨rfl, by simp [h], fun hw => hage.resolve_left (by simp [hw])⟩
  refine ⟨_, if_pos hcond, rfl, ?_⟩
  rw [sweepEntry_aged h hage]
  cases e.hit with
  | true => rfl
  | false => cases e.seenClear <;> rfl

theorem sweepSlot_missed (hage : e.written = false ∨ e.age = true) : sweepSlot nowNs false e =
    if e.hit then some { e with hit := false, seenClear := false } else if ¬ e.seenClear then some { e with seenClear := true } else none :=
  (if_neg fun hstruck => Bool.false_ne_true hstruck.1).trans (sweepEntry_aged h hage)

end

/-! ### The visited bucket and the others (R225, R226) -/

/-- A hit of the same cycle reaches a slot. -/
def struckBy (hits : List (Fin 8)) (x : (Nat × Nat) × LodeEntry) : Bool := hits.any (fun h => h.val == x.1.2)

/-- The entries of an `Inst` after a sweep of one bucket. -/
def sweptEntries (nowNs b : Nat) (hits : List (Fin 8)) (l : List ((Nat × Nat) × LodeEntry)) : List ((Nat × Nat) × LodeEntry) :=
  l.filterMap (fun x => if x.1.1 = b then (sweepSlot nowNs (struckBy hits x) x.2).map (fun e => (x.1, e)) else some x)

section

variable {nowNs b : Nat} {hits : List (Fin 8)} {l : List ((Nat × Nat) × LodeEntry)} {x : (Nat × Nat) × LodeEntry}

theorem mem_sweptEntries_other (hx : x.1.1 ≠ b) : x ∈ sweptEntries nowNs b hits l ↔ x ∈ l := by
  rw [sweptEntries, List.mem_filterMap]
  constructor
  · rintro ⟨y, hy, hyx⟩
    split at hyx
    · next hb =>
      obtain ⟨e, -, rfl⟩ := Option.map_eq_some_iff.mp hyx
      exact absurd hb hx
    · exact Option.some.inj hyx ▸ hy
  · exact fun hx' => ⟨x, hx', if_neg hx⟩

theorem mem_sweptEntries_own (hx : x ∈ l) (hb : x.1.1 = b) {e : LodeEntry} (he : sweepSlot nowNs (struckBy hits x) x.2 = some e) :
    (x.1, e) ∈ sweptEntries nowNs b hits l :=
  List.mem_filterMap.mpr ⟨x, hx, by rw [if_pos hb, he]; rfl⟩

/-- An entry that the sweeper removes is gone, as its place held no other. -/
theorem not_mem_sweptEntries (hx : x ∈ l) (hb : x.1.1 = b) (hnone : sweepSlot nowNs (struckBy hits x) x.2 = none)
    (hnodup : (l.map Prod.fst).Nodup) : x ∉ sweptEntries nowNs b hits l := by
  intro hmem
  obtain ⟨y, hy, hyx⟩ := List.mem_filterMap.mp hmem
  split at hyx
  · obtain ⟨e, he, rfl⟩ := Option.map_eq_some_iff.mp hyx
    have hsame := List.inj_on_of_nodup_map hnodup hy hx rfl
    rw [← hsame, he] at hnone
    cases hnone
  · next hne =>
    obtain rfl := Option.some.inj hyx
    exact hne hb

end

theorem sweepBucket_time (d : TableDesc) (b : Nat) (hits : List (Fin 8)) (i : Inst) (s : State) : (sweepBucket d b hits i s).time = s.time := rfl

/-- A sweep of a bucket: the `Inst` with what the sweeper leaves of its entries. -/
theorem inst_sweepBucket {s : State} {n b : Nat} {p : Bool} {i j : Inst} (d : TableDesc) (hits : List (Fin 8)) (h : inst s n p = some i)
    (htable : j.table = n) (hpipe : j.pipe = p) :
    ∃ k, inst (sweepBucket d b hits j s) n p = some k ∧ Refiltered { j with entries := sweptEntries (now s) b hits j.entries } k := by
  unfold sweepBucket dropCopies
  dsimp only
  refine ⟨_, inst_setInst_same h ?_ ?_, ?hleft⟩
  case hleft => exact .ite (.foldl (fun k e hk => refiltered_unindex hk e.key) _ (.refl _)) (.refl _)
  · split
    · exact (table_of_frame (Refiltered.frame_eq (.foldl (fun k e hk => refiltered_unindex hk e.key) _ (.refl _)))).trans htable
    · exact htable
  · split
    · exact (pipe_of_frame (Refiltered.frame_eq (.foldl (fun k e hk => refiltered_unindex hk e.key) _ (.refl _)))).trans hpipe
    · exact hpipe

/-! ### The visit (R208, R225) -/

theorem inst_of_nextSweeper {s : State} {p : Bool} {d : TableDesc} {i : Inst} (h : nextSweeper s p = some (d, i)) : inst s d.id p = some i := by
  have hmem : ∀ x, nextSweeper s p = some x → x ∈ sweepersOf s p := by
    refine List.foldlRecOn (motive := fun o : Option (TableDesc × Inst) => ∀ x, o = some x → x ∈ sweepersOf s p) _ _ (by simp) ?_
    rintro (_ | y) hy a ha x hx
    · exact Option.some.inj hx ▸ ha
    · dsimp only at hx
      split at hx
      · exact Option.some.inj hx ▸ ha
      · exact hy x hx
  obtain ⟨d', -, hd'⟩ := List.mem_filterMap.mp (hmem _ h)
  obtain ⟨i', hi', hpair⟩ := Option.map_eq_some_iff.mp hd'
  obtain ⟨rfl, rfl⟩ := Prod.mk.inj hpair
  exact hi'

/-- The `Inst` as its sweeper goes on to the next bucket, or begins its next period. -/
def Inst.visited (d : TableDesc) (i : Inst) : Inst :=
  { i with sweepAt := if i.sweepAt + 1 = bucketsOf i then 0 else i.sweepAt + 1
           sweepStart := if i.sweepAt + 1 = bucketsOf i then i.sweepStart + sweepNs d else i.sweepStart }

theorem sweepVisit_due {s : State} {p : Bool} {d : TableDesc} {i : Inst} (hits : List (Fin 8)) (h : nextSweeper s p = some (d, i))
    (hrun : pipeRuns s p = true) :
    sweepVisit p hits s = sweepBucket d i.sweepAt hits (i.visited d) (advanceTo (sweepDue d i) s) := by
  simp [sweepVisit, h, hrun, Inst.visited]

theorem sweepVisit_idle {s : State} {p : Bool} (hits : List (Fin 8)) (h : nextSweeper s p = none ∨ pipeRuns s p = false) :
    sweepVisit p hits s = s := by
  unfold sweepVisit
  split
  · next d i hnext =>
    have hstopped := h.resolve_left (by simp [hnext])
    simp [hstopped]
  · rfl

/-- The state that a visit leaves, with the machines that come off their occupancy limit. -/
def sweepDone (p : Bool) (hits : List (Fin 8)) (s : State) : State :=
  let t := sweepVisit p hits s
  (limitedMachs t).foldl (fun t m => settleOccLimit m t) t

theorem lodeStands_sweepDone (p : Bool) (hits : List (Fin 8)) (s : State) : LodeStands (sweepVisit p hits s) (sweepDone p hits s) :=
  List.foldlRecOn (motive := LodeStands (sweepVisit p hits s)) _ _ (.refl _) fun _ ht m _ => ht.trans (lodeStands_settleOccLimit m _)

theorem exec_sweepVisit {s : State} (p : Bool) (hits : List (Fin 8)) (hrun : Running s) :
    exec (.sweepVisit p hits) s = .next (sweepDone p hits s) := exec_bus (f := sweepDone p hits) rfl hrun rfl

/-- R225, R226: the `Inst` of the sweeper that is due goes on with what the sweep of its bucket left. -/
theorem inst_sweepDone {s : State} {p : Bool} {d : TableDesc} {i : Inst} (hits : List (Fin 8)) (h : nextSweeper s p = some (d, i))
    (hrun : pipeRuns s p = true) :
    ∃ j, inst (sweepDone p hits s) d.id p = some j ∧
      Refiltered { i.visited d with entries := sweptEntries (now (sweepDone p hits s)) i.sweepAt hits i.entries } j := by
  have hi := inst_of_nextSweeper h
  obtain ⟨htable, hpipe⟩ := named_of_inst hi
  have hdone := lodeStands_sweepDone p hits s
  rw [sweepVisit_due hits h hrun] at hdone
  have hthen : inst (advanceTo (sweepDue d i) s) d.id p = some i := (inst_congr (congrArg Lode.insts (advanceTo_lode ..)) ..).trans hi
  obtain ⟨j, hj, hleft⟩ := inst_sweepBucket (b := i.sweepAt) (j := i.visited d) d hits hthen htable hpipe
  have hnow : now (sweepDone p hits s) = now (advanceTo (sweepDue d i) s) :=
    congrArg servedOf (hdone.calm.time_eq.trans (sweepBucket_time ..))
  refine ⟨j, (hdone.inst_eq ..).trans hj, ?_⟩
  rw [hnow]
  exact hleft

/-! ### Flapping (R233) -/

/-- An entry whose FLAPPING stands has its MOVE_MS before it. -/
theorem msPast_of_flapSettled {s : State} {e : LodeEntry} (h : (flapSettled s e).flapping = true) : msPast s (flapSettled s e).moveMs = false := by
  unfold flapSettled at h ⊢
  split at h
  · cases h
  · next hends =>
    rw [if_neg hends]
    exact Bool.eq_false_iff.mpr fun hpast => hends ⟨h, hpast⟩

theorem flapSettled_key (s : State) (e : LodeEntry) : (flapSettled s e).key = e.key := by
  unfold flapSettled
  split <;> rfl

theorem flapSettled_source (s : State) (e : LodeEntry) : (flapSettled s e).source = e.source := by
  unfold flapSettled
  split <;> rfl

/-- FLAP_EXPIRE waits for the first end of FLAPPING, or not at all. -/
theorem flapExpire_eq {s : State} {n : Nat} {p : Bool} {i : Inst} (h : inst s n p = some i) :
    ∃ u, (u = s ∨ ∃ target, u = advanceTo target s) ∧ flapExpire n p s = setInst (i.flaps u) u := by
  unfold flapExpire
  rw [h]
  dsimp only
  split
  · exact ⟨_, .inr ⟨_, rfl⟩, rfl⟩
  · exact ⟨_, .inl rfl, rfl⟩

/-- R233: once FLAP_EXPIRE is done, an entry still FLAPPING has its MOVE_MS before it, and no entry has gone. -/
theorem flapExpire_leaves {s : State} {n : Nat} {p : Bool} {i : Inst} (h : inst s n p = some i) :
    ∃ j, inst (flapExpire n p s) n p = some j ∧ j.entries.map (fun x => (x.1, x.2.key, x.2.source)) = i.entries.map (fun x => (x.1, x.2.key, x.2.source)) ∧
      (∀ x ∈ j.entries, x.2.flapping = true → msPast (flapExpire n p s) x.2.moveMs = false) ∧ (flapExpire n p s).regs = s.regs ∧
      (flapExpire n p s).counts = s.counts ∧ s.clk ≤ (flapExpire n p s).clk := by
  obtain ⟨u, hu, hstep⟩ := flapExpire_eq h
  have hwaited : u.lode = s.lode ∧ u.regs = s.regs ∧ u.counts = s.counts ∧ s.clk ≤ u.clk := by
    rcases hu with rfl | ⟨target, rfl⟩
    · exact ⟨rfl, rfl, rfl, le_rfl⟩
    · exact ⟨advanceTo_lode .., advanceTo_regs .., advanceTo_counts .., advanceTo_clk_le ..⟩
  obtain ⟨hlode, hregs, hcounts, hclk⟩ := hwaited
  obtain ⟨htable, hpipe⟩ := named_of_inst h
  have hu : inst u n p = some i := (inst_congr (congrArg Lode.insts hlode) ..).trans h
  rw [hstep]
  refine ⟨i.flaps u, inst_setInst_same hu htable hpipe, ?_, fun x hx hflap => ?_, hregs, hcounts, hclk⟩
  · simp [Inst.flaps, Function.comp_def, flapSettled_key, flapSettled_source]
  · obtain ⟨y, -, rfl⟩ := List.mem_map.mp hx
    exact msPast_of_flapSettled hflap

/-! ### Restores (R238) -/

theorem restoreBank_idle {s : State} {n : Nat} (h : s.lode.restoring.contains n = false) : restoreBank n s = s := by
  simp only [restoreBank, h]
  rfl

theorem restoreBank_due {s : State} {n : Nat} (h : s.lode.restoring.contains n = true) :
    (restoreBank n s).lode.restoring = s.lode.restoring.filter (· != n) ∧ (restoreBank n s).lode.copy = s.lode.copy ∧
      regBit (restoreBank n s) 0x050050 4 = true ∧ (restoreBank n s).sys = s.sys := by
  unfold restoreBank
  rw [if_neg (not_not_intro h)]
  dsimp only
  rw [raise_lode, raise_sys]
  exact ⟨rfl, rfl, regBit_raise_same _ (b := bLODE) (by decide) (by decide), rfl⟩

/-! ### A bucket error that a re-read corrects (R235) -/

/-- R435: a good re-send is classed at once, and no test begins. -/
theorem detect_resent {k : ResKind} (hk : resendKind k = true) (hfatal : fatalKind k = false) (i : Nat) (unready : Bool) (s : State) :
    detect k i true unready s = classify k i .corrected false false (BitVec.ofNat 64 (now s)) s := by
  have hform : refuseForming k i true s = s := if_neg (by simp [hk])
  simp [detect, hform, hfatal, hk]

/-- A record moves no counter but those of Strata. -/
theorem countOf_note {o : Nat} (ho : o < 0x110028) {e : Nat} (he : e < 2 ^ 24) (code sev p0 p1 p2 : Nat) (s : State) :
    countOf (note code sev p0 p1 p2 s) o e = countOf s o e := by
  unfold note record
  split
  · rfl
  · split
    · rfl
    · exact countOf_bumpBy_other _ 1 (countKey_ne_offset 0 ho he)

/-- A corrected error is counted and recorded, and changes nothing else of Lode. -/
theorem classify_corrected {k : ResKind} (hk : BitVec.ofNat 16 (faultCode k) ≠ mramFailure) (i : Nat) (time : BitVec 64) (s : State) :
    ∃ u, Calm s u ∧ u.lode = s.lode ∧ (∀ o e, o < 0x0C0044 → e < 2 ^ 24 → countOf u o e = countOf s o e) ∧
      classify k i .corrected false false time s = note (faultCode k) (classSev .corrected) (classCode .corrected) (resIndex k i) 0 u := by
  refine ⟨raise bFAULT 0 (bump 0x0C0044 0 (setRes { resOf s k i with code := BitVec.ofNat 16 (faultCode k) } s)),
    calm_raise (calm_bump (calm_setRes (.refl s) _) ..) .., raise_lode .., fun o e ho he => ?_, ?_⟩
  · rw [countOf_congr (raise_counts ..)]
    exact countOf_bumpBy_other _ 1 (countKey_ne_offset _ ho he)
  · unfold classify classCount faultRecord
    exact if_neg fun h => hk h.1

/-- The engine once a bucket's re-read has been good. -/
def resentDone (b : Fin 66) (good : Fin 3) (s : State) : State :=
  detect .lodeBank b true false (bumpBy 0x050044 (14 + 0x100 * b2n (pipeOfBank s b)) good s)

theorem exec_lodeBucketCrcError {s : State} (b : Fin 66) {good : Fin 3} (hrun : Running s) (h : good ≠ 0) :
    exec (.lodeBucketCrcError b good) s = .next (resentDone b good s) := by
  have hgood : good = 1 ∨ good = 2 := by omega
  rcases hgood with rfl | rfl
  · exact exec_bus rfl hrun rfl
  · exact exec_bus rfl hrun rfl

/-- R235: the re-reads are counted, and no table, mode or other counter of Lode moves. -/
theorem resentDone_leaves (b : Fin 66) (good : Fin 3) (s : State) :
    (resentDone b good s).lode = s.lode ∧ (resentDone b good s).sys = s.sys ∧
      countOf (resentDone b good s) 0x050044 (14 + 0x100 * b2n (pipeOfBank s b)) =
        countOf s 0x050044 (14 + 0x100 * b2n (pipeOfBank s b)) + good := by
  have hsel : 14 + 0x100 * b2n (pipeOfBank s b) < 2 ^ 24 := by cases pipeOfBank s b <;> decide
  unfold resentDone
  rw [detect_resent rfl rfl]
  obtain ⟨u, hcalm, hlode, hcounts, hnote⟩ := classify_corrected (k := .lodeBank) (by decide) b (BitVec.ofNat 64 (now _))
    (bumpBy 0x050044 (14 + 0x100 * b2n (pipeOfBank s b)) good s)
  rw [hnote]
  refine ⟨(note_lode ..).trans hlode, (note_sys ..).trans hcalm.sys_eq, ?_⟩
  rw [countOf_note (by decide) hsel, hcounts _ _ (by decide) hsel, countOf_bumpBy_same]

end Sys2Proof.Machine

open Sys2Proof Sys2Proof.Machine

/-- Settles O26: a learn request is `applyLearn`'s outcome on the `Inst` that has taken it, a visit is `sweepSlot`'s on each entry of
its bucket, and the rest of each command leaves the engine. -/
theorem lodeLearningAndUpkeep : Obligations.LodeLearningAndUpkeep := by
  refine ⟨fun s n p i d r l hrun hi hd hq hwait => ⟨fun hstopped => ?stopped, fun hruns => ?applied⟩,
    fun s p hits hrun => ⟨fun hidle => ?idle, fun d i hnext hruns => ?visit⟩,
    fun s n p i hrun hi => after_bus (f := flapExpire n p) rfl hrun (flapExpire_leaves hi),
    fun s n hrun => ⟨fun hnone => exec_bus rfl hrun (restoreBank_idle hnone), fun hdue => ?restored⟩, fun s b good hrun hgood => ?corrected⟩
  case stopped =>
    have hdone := lodeStands_learnDone_stopped hi hd hq hwait hstopped
    exact ⟨_, exec_learnApply n p hrun, hdone.lode, hdone.counts⟩
  case applied =>
    obtain ⟨hcopy, htables, htime, hsys, hother⟩ := learnDone_leaves hi hd hq hwait hruns
    exact ⟨_, exec_learnApply n p hrun, hcopy, htables, htime, hsys, hother,
      fun pos e hkey => ⟨learnDone_written hi hd hq hwait hruns hkey, learnDone_hit hi hd hq hwait hruns hkey,
        learnDone_flapping hi hd hq hwait hruns hkey⟩,
      learnDone_new hi hd hq hwait hruns⟩
  case idle =>
    have hdone := lodeStands_sweepDone p hits s
    rw [sweepVisit_idle hits hidle] at hdone
    exact ⟨_, exec_sweepVisit p hits hrun, hdone.lode, hdone.calm.time_eq⟩
  case visit =>
    obtain ⟨j, hj, hleft⟩ := inst_sweepDone hits hnext hruns
    have hentries : j.entries = sweptEntries (now (sweepDone p hits s)) i.sweepAt hits i.entries := hleft.entries_eq
    have hframe : j.frame = (i.visited d).frame := hleft.frame_eq
    have hat : j.sweepAt = _ := (congrArg Inst.sweepAt hframe :)
    have hstart : j.sweepStart = _ := (congrArg Inst.sweepStart hframe :)
    have hgone {x : (Nat × Nat) × LodeEntry} (hx : x ∈ i.entries) (hb : x.1.1 = i.sweepAt)
        (hnone : sweepSlot (now (sweepDone p hits s)) (struckBy hits x) x.2 = none) (hnodup : (i.entries.map Prod.fst).Nodup) : x ∉ j.entries := by
      rw [hentries]
      exact not_mem_sweptEntries hx hb hnone hnodup
    have hstays {x : (Nat × Nat) × LodeEntry} {e : LodeEntry} (hx : x ∈ i.entries) (hb : x.1.1 = i.sweepAt)
        (he : sweepSlot (now (sweepDone p hits s)) (struckBy hits x) x.2 = some e) : (x.1, e) ∈ j.entries := by
      rw [hentries]
      exact mem_sweptEntries_own hx hb he
    refine ⟨_, exec_sweepVisit p hits hrun, j, hj, (congrArg Inst.banks hframe :), (congrArg Inst.learnQ hframe :),
      fun hmore => ⟨hat.trans (if_neg hmore), hstart.trans (if_neg hmore)⟩, fun hlast => ⟨hat.trans (if_pos hlast), hstart.trans (if_pos hlast)⟩,
      fun x hx => by rw [hentries]; exact mem_sweptEntries_other hx, fun x hx hb hlive hstruck hage => ?struck,
      fun x hx hb hlive hw ha => hstays hx hb (sweepSlot_kept hlive hw ha _), fun x hx hb hlive hmissed => ?missed,
      fun x hx hb hover => hgone hx hb (sweepSlot_expired hover _)⟩
    case struck =>
      obtain ⟨e, he, hhit, hkey⟩ := sweepSlot_struck hlive hage
      exact ⟨e, hstays hx hb ((congrArg (sweepSlot _ · x.2) hstruck).trans he), hhit, hkey⟩
    case missed =>
      have hslot (hage : x.2.written = false ∨ x.2.age = true) := (congrArg (sweepSlot _ · x.2) hmissed).trans (sweepSlot_missed hlive hage)
      refine ⟨fun hage hhit => hstays hx hb ((hslot hage).trans (if_pos hhit)), fun hage hhit hseen => hstays hx hb ?_,
        fun hage hhit hseen => hgone hx hb ?_⟩
      · exact (hslot hage).trans (by simp [hhit, hseen])
      · exact (hslot hage).trans (by simp [hhit, hseen])
  case restored => exact after_bus rfl hrun (restoreBank_due hdue)
  case corrected =>
    obtain ⟨hlode, hsys, hcount⟩ := resentDone_leaves b good s
    exact ⟨_, exec_lodeBucketCrcError b hrun hgood, hlode, congrArg Sys.mode hsys, hcount⟩

end

section
/-! The entry window of Lode (07_lode_tables.md R214, R221 to R224, R239 to R241): what a write leaves in every `Inst` and in the
written copy, what a deletion leaves of a key, and how each command of the window ends. -/

namespace Sys2Proof.Machine

open Sys2Proof

/-! ### A written entry in one `Inst` (R214, R222) -/

theorem mem_putAt (pos : Nat × Nat) (e : LodeEntry) (l : List ((Nat × Nat) × LodeEntry)) : (pos, e) ∈ putAt pos e l := by
  induction l with
  | nil => simp [putAt]
  | cons x l ih =>
    rw [putAt]
    split
    · simp
    · split
      · simp
      · exact List.mem_cons_of_mem x ih

theorem mem_put (i : Inst) (pos : Nat × Nat) (e : LodeEntry) : (pos, e) ∈ (i.put pos e).entries ++ (i.put pos e).lost := by
  unfold Inst.put
  split
  · exact List.mem_append_right _ (mem_putAt ..)
  · exact List.mem_append_left _ (mem_putAt ..)

/-- An `Inst` holds a written entry with a key. -/
def HoldsWritten (k : LodeKey) (i : Inst) : Prop := ∃ x ∈ i.entries ++ i.lost, x.2.key = k ∧ x.2.written = true

theorem holdsWritten_put {e : LodeEntry} (i : Inst) (pos : Nat × Nat) (he : e.written = true) : HoldsWritten e.key (i.put pos e) :=
  ⟨_, mem_put i pos e, rfl, he⟩

theorem Refiltered.holdsWritten {i j : Inst} (h : Refiltered i j) {k : LodeKey} (hi : HoldsWritten k i) : HoldsWritten k j := by
  unfold HoldsWritten
  rw [h.entries_eq, h.lost_eq]
  exact hi

theorem displace_free {d : TableDesc} {i : Inst} {bs : List Nat} {pos : Nat × Nat} (h : freeSlot d i bs = some pos) (free n : Nat)
    (e : LodeEntry) : displace d free n i bs e = some (i.put pos e) := by
  cases n with
  | zero => rw [displace, h]
  | succ n => rw [displace, h]

/-- An `Inst` has a place for an entry with a key: the entry that has it, or a free slot of its buckets. -/
def HasPlace (d : TableDesc) (k : LodeKey) (i : Inst) : Prop := (findKey i k).isSome = true ∨ (freeSlot d i (candidates d i k)).isSome = true

theorem writeInst_place {d : TableDesc} {i : Inst} {e : LodeEntry} (free : Nat) (h : HasPlace d e.key i) (he : e.written = true) :
    ∃ x, writeInst d free i e = some x ∧ HoldsWritten e.key x.1 ∧ x.1.frame = i.frame := by
  unfold writeInst
  cases hkey : findKey i e.key with
  | some y =>
    refine ⟨_, rfl, ?_, frame_put ..⟩
    dsimp only
    split
    · exact holdsWritten_put (e := { e with hit := y.2.hit, seenClear := y.2.seenClear }) i y.1 he
    · exact holdsWritten_put i y.1 he
  | none =>
    obtain ⟨pos, hpos⟩ := Option.isSome_iff_exists.mp (h.resolve_left (by simp [hkey]))
    have hin : insertEntry d free i e = some (i.put pos e, false) := by rw [insertEntry, displace_free hpos]
    rw [hin]
    have hfiltered := refiltered_indexed d e.key (i.put pos e)
    exact ⟨_, rfl, hfiltered.holdsWritten (holdsWritten_put i pos he), hfiltered.frame_eq.trans (frame_put ..)⟩

/-! ### A written entry in every `Inst` (R221) -/

theorem writeAll_place {d : TableDesc} {e : LodeEntry} (free : Nat) (he : e.written = true) (l : List Inst) (h : ∀ i ∈ l, HasPlace d e.key i) :
    ∃ r, writeAll d free e l = some r ∧ (∀ x ∈ r, HoldsWritten e.key x.1 ∧ ∃ i ∈ l, x.1.frame = i.frame) ∧
      ∀ i ∈ l, ∃ x ∈ r, x.1.frame = i.frame := by
  induction l with
  | nil => exact ⟨[], rfl, by simp, by simp⟩
  | cons i l ih =>
    obtain ⟨x, hx, hholds, hframe⟩ := writeInst_place free (h i List.mem_cons_self) he
    obtain ⟨r, hr, hall, hevery⟩ := ih fun j hj => h j (List.mem_cons_of_mem i hj)
    refine ⟨x :: r, by simp [writeAll, hx, hr], List.forall_mem_cons.mpr ⟨⟨hholds, i, List.mem_cons_self, hframe⟩, fun y hy => ?_⟩,
      List.forall_mem_cons.mpr ⟨⟨x, List.mem_cons_self, hframe⟩, fun j hj => ?_⟩⟩
    · obtain ⟨hkey, j, hj, hsame⟩ := hall y hy
      exact ⟨hkey, j, List.mem_cons_of_mem i hj, hsame⟩
    · obtain ⟨y, hy, hsame⟩ := hevery j hj
      exact ⟨y, List.mem_cons_of_mem x hy, hsame⟩

theorem writerView_running {s : State} {i : Inst} (d : TableDesc) (h : stopped s i.pipe = false) : writerView s d i = i :=
  if_neg (Bool.eq_false_iff.mp h)

theorem stopped_commitInst (x : Inst × Bool) (s : State) (p : Bool) : stopped (commitInst x s) p = stopped s p := by
  unfold commitInst
  dsimp only
  split <;> rfl

theorem commitInst_insts (x : Inst × Bool) (s : State) : (commitInst x s).lode.insts = (setInst x.1 s).lode.insts := by
  unfold commitInst
  dsimp only
  split <;> rfl

/-- The writer commits them one by one: each `Inst` of the engine is then one of them, or stands under another name. -/
theorem insts_commitWrite (h : HeldWrite) (r : List (Inst × Bool)) (s : State) (hrun : ∀ x ∈ r, stopped s x.1.pipe = false) :
    ∀ j ∈ (r.foldl (fun s x => commitWrite h x s) s).lode.insts, (∃ x ∈ r, j = x.1) ∨
      j ∈ s.lode.insts ∧ ∀ x ∈ r, ¬ (j.table = x.1.table ∧ j.pipe = x.1.pipe) := by
  induction r generalizing s with
  | nil => exact fun j hj => .inr ⟨hj, by simp⟩
  | cons x r ih =>
    intro j hj
    have hnow : commitWrite h x s = commitInst x s := if_neg (Bool.eq_false_iff.mp (hrun x List.mem_cons_self))
    rw [List.foldl_cons, hnow] at hj
    rcases ih _ (fun y hy => (stopped_commitInst ..).trans (hrun y (List.mem_cons_of_mem x hy))) j hj with ⟨y, hy, rfl⟩ | ⟨hmem, hother⟩
    · exact .inl ⟨y, List.mem_cons_of_mem x hy, rfl⟩
    · rw [commitInst_insts] at hmem
      obtain ⟨i, hi, rfl⟩ := List.mem_map.mp hmem
      split
      · exact .inl ⟨x, List.mem_cons_self, rfl⟩
      · next hne =>
        rw [if_neg hne] at hother
        exact .inr ⟨hi, List.forall_mem_cons.mpr ⟨hne, hother⟩⟩

/-- What the writer leaves of the part: the buffer, the tables, the mode and the grid. -/
def writerRest (s : State) : Bytes × List TableDesc × Sys × Grid := (s.lode.buffer, s.lode.tables, s.sys, s.grid)

theorem writerRest_commitWrite (h : HeldWrite) (x : Inst × Bool) (s : State) : writerRest (commitWrite h x s) = writerRest s := by
  unfold commitWrite commitInst
  dsimp only
  split
  · rfl
  · split <;> rfl

/-- R221, R224: a write that is taken leaves the rest of the part, and stands in the written copy. -/
theorem writeEntry_leaves {d : TableDesc} {e : LodeEntry} {s t : State} (h : writeEntry d e s = some t) :
    writerRest t = writerRest s ∧ (d.id, e) ∈ t.lode.copy := by
  unfold writeEntry at h
  split at h
  · cases h
  · next l _ =>
    obtain rfl := Option.some.inj h
    refine ⟨foldl_keep writerRest (fun u x => writerRest_commitWrite _ x u) l (drawn64 s), ?_⟩
    simp [copySet]

/-- R221: where every `Inst` has a place for it, a write is taken, and stands in each. -/
theorem writeEntry_place {d : TableDesc} {e : LodeEntry} {s : State} (he : e.written = true)
    (hrun : ∀ i ∈ instsOf s d.id, stopped s i.pipe = false) (hplace : ∀ i ∈ instsOf s d.id, HasPlace d e.key i) :
    ∃ t, writeEntry d e s = some t ∧ ∀ i ∈ t.lode.insts, i.table = d.id → HoldsWritten e.key i := by
  have hview : (instsOf s d.id).map (writerView s d) = instsOf s d.id :=
    (List.map_congr_left fun i hi => writerView_running d (hrun i hi)).trans (List.map_id _)
  obtain ⟨r, hr, hall, hevery⟩ := writeAll_place s.fresh he (instsOf s d.id) hplace
  unfold writeEntry
  rw [hview, hr]
  refine ⟨_, rfl, fun j hj htable => ?_⟩
  have hrunning : ∀ x ∈ r, stopped (drawn64 s) x.1.pipe = false := fun x hx => by
    obtain ⟨-, i, hi, hframe⟩ := hall x hx
    exact pipe_of_frame hframe ▸ hrun i hi
  rcases insts_commitWrite _ r (drawn64 s) hrunning j hj with ⟨x, hx, rfl⟩ | ⟨hmem, hother⟩
  · exact (hall x hx).1
  · obtain ⟨x, hx, hframe⟩ := hevery j (mem_instsOf.mpr ⟨hmem, htable⟩)
    exact absurd ⟨(table_of_frame hframe).symm, (pipe_of_frame hframe).symm⟩ (hother x hx)

/-- R222, R224: a write that finds no place changes no `Inst` and no entry of the written copy. -/
theorem tableFull_leaves (d : TableDesc) (s : State) :
    (tableFull d s).lode = s.lode ∧ (tableFull d s).sys = s.sys ∧ (tableFull d s).grid = s.grid ∧ regBit (tableFull d s) 0x050050 2 = true := by
  have hcounted := foldl_keep (fun u : State => (u.lode, u.sys, u.grid)) (f := fun s (i : Inst) => bumpLode i.pipe 12 s) (fun _ _ => rfl) (instsOf s d.id) s
  simp only [Prod.mk.injEq] at hcounted
  obtain ⟨hlode, hsys, hgrid⟩ := hcounted
  exact ⟨(raise_lode ..).trans hlode, (raise_sys ..).trans hsys, (raise_grid ..).trans hgrid,
    regBit_raise_same _ (b := bLODE) (by decide) (by decide)⟩

/-! ### A key that is deleted (R239) -/

theorem refiltered_drop (d : TableDesc) (i : Inst) (k : LodeKey) :
    Refiltered { i with entries := i.entries.filter (fun x => x.2.key != k), lost := i.lost.filter (fun x => x.2.key != k) } (i.drop d k) :=
  .ite (refiltered_unindex (.refl _) k) (.refl _)

theorem findKey_drop (d : TableDesc) (i : Inst) (k : LodeKey) : findKey (i.drop d k) k = none := by
  rw [(refiltered_drop d i k).findKey_eq]
  simp [findKey]

/-- The pipelines that a deletion reaches hold no entry with its key. -/
theorem findKey_removeKey {d : TableDesc} {k : LodeKey} {P : Bool → Bool} {s : State} {j : Inst}
    (hj : j ∈ (removeKey d k (fun i => P i.pipe) s).lode.insts) (htable : j.table = d.id) (hpipe : P j.pipe = true) : findKey j k = none := by
  obtain ⟨i, -, rfl⟩ := List.mem_map.mp hj
  split
  · exact findKey_drop ..
  · next hne =>
    rw [if_neg hne] at htable hpipe
    exact absurd ⟨htable, hpipe⟩ hne

theorem not_mem_copySet_none {t : Nat} {k : LodeKey} {l : List (Nat × LodeEntry)} {y : Nat × LodeEntry} (h : y ∈ copySet t k none l)
    (ht : y.1 = t) : y.2.key ≠ k := by
  simp only [copySet, List.mem_filter] at h
  simpa [ht] using h.2

/-! ### The end of an operation (R239, R240) -/

theorem accEnd_eq (r : AccResult) (s : State) :
    accEnd r s = { s with lode := { s.lode with accResult := r }, regs := (accEnd r s).regs } := raise_eq_withRegs ..

theorem regBit_accEnd (r : AccResult) (s : State) : regBit (accEnd r s) 0x050050 5 = true :=
  regBit_raise_same _ (b := bLODE) (by decide) (by decide)

theorem regBit_accEnd_mono {r : AccResult} {s : State} {off i : Nat} (h : regBit s off i = true) : regBit (accEnd r s) off i = true :=
  (regsStand_raise bLODE 5 { s with lode.accResult := r }).bits off i h

theorem accWrite_denied {d : TableDesc} (h : gridTable d = true) (s : State) : accWrite d s = accEnd .denied s := if_pos h

theorem accWrite_taken {d : TableDesc} {s t : State} (h : gridTable d = false) (ht : writeEntry d (writtenOf d s.lode.buffer) s = some t) :
    accWrite d s = accEnd .done t := by
  simp [accWrite, h, ht]

theorem accWrite_full {d : TableDesc} {s : State} (h : gridTable d = false) (ht : writeEntry d (writtenOf d s.lode.buffer) s = none) :
    accWrite d s = accEnd .tableFull (tableFull d (drawn64 s)) := by
  simp [accWrite, h, ht]

theorem accDelete_denied {d : TableDesc} (h : gridTable d = true) (i : Inst) (s : State) : accDelete d i s = accEnd .denied s := if_pos h

section

variable {d : TableDesc} {i : Inst} {s : State}

theorem accRead_found {x : (Nat × Nat) × LodeEntry} (h : findKey i (keyOfImage d s.lode.buffer) = some x) : accRead d i s =
    accEnd .done { s with lode.buffer := entryBytes d (flapSettled s x.2) ++ (padTo 64 s.lode.buffer).drop d.entryBytes } := by
  simp [accRead, h]

theorem accRead_missing (h : findKey i (keyOfImage d s.lode.buffer) = none) : accRead d i s = accEnd .notFound s := by
  simp [accRead, h]

theorem accDelete_written {x : (Nat × Nat) × LodeEntry} (hgrid : gridTable d = false) (hi : i ∈ instsOf s d.id)
    (h : findKey i (keyOfImage d s.lode.buffer) = some x) (hw : x.2.written = true) :
    accDelete d i s = accEnd .done (deleteWritten d (keyOfImage d s.lode.buffer) s) := by
  have hfound : ((instsOf s d.id).findSome? (fun j => (findKey j (keyOfImage d s.lode.buffer)).filter (fun x => x.2.written))).isSome = true :=
    List.findSome?_isSome_iff.mpr ⟨i, hi, by simp [h, hw]⟩
  obtain ⟨y, hy⟩ := Option.isSome_iff_exists.mp hfound
  simp [accDelete, hgrid, hy]

variable (hgrid : gridTable d = false)
  (hnone : ∀ j ∈ instsOf s d.id, ∀ y, findKey j (keyOfImage d s.lode.buffer) = some y → y.2.written = false)

include hnone

theorem noneWritten : (instsOf s d.id).findSome? (fun j => (findKey j (keyOfImage d s.lode.buffer)).filter (fun x => x.2.written)) = none := by
  refine List.findSome?_eq_none_iff.mpr fun j hj => Option.filter_eq_none_iff.mpr fun y hy => ?_
  simp [hnone j hj y hy]

include hgrid

theorem accDelete_learned {x : (Nat × Nat) × LodeEntry} (h : findKey i (keyOfImage d s.lode.buffer) = some x) :
    accDelete d i s = accEnd .done (removeKey d (keyOfImage d s.lode.buffer) (fun j => j.pipe == i.pipe) s) := by
  simp [accDelete, hgrid, noneWritten hnone, h]

theorem accDelete_missing (h : findKey i (keyOfImage d s.lode.buffer) = none) : accDelete d i s = accEnd .notFound s := by
  simp [accDelete, hgrid, noneWritten hnone, h]

end

theorem accReadAt_found {d : TableDesc} {i : Inst} {s : State} {bank row slot j : Nat} {e : LodeEntry}
    (hbank : i.banks.findIdx? (· == bank) = some j)
    (he : i.entries.find? (fun x => x.1 == (row * i.banks.length + j, slot)) = some ((row * i.banks.length + j, slot), e)) :
    accReadAt d i bank row slot s =
      accEnd .done { s with lode.buffer := entryBytes d (flapSettled s e) ++ (padTo 64 s.lode.buffer).drop d.entryBytes } := by
  simp [accReadAt, hbank, he]

/-! ### The commands (R239, R241) -/

theorem id_of_tableDesc {s : State} {n : Nat} {d : TableDesc} (h : tableDesc s n = some d) : d.id = n := by
  simpa using List.find?_some h

section

variable {s : State} {n : Nat} {d : TableDesc}

theorem lodeAcc_noTable (h : tableDesc s n = none) (op : Nat) (p same : Bool) : lodeAcc op n p same s = accEnd .badTable s := by
  simp [lodeAcc, h]

variable (hd : tableDesc s n = some d)

include hd

theorem lodeAcc_second (op : Nat) (p : Bool) : lodeAcc op n p true s = { s with lode.accResult := .busy } := by
  simp [lodeAcc, hd]

theorem lodeAcc_write (p : Bool) : lodeAcc 1 n p false s = accWrite d s := by
  simp [lodeAcc, hd]

variable {p : Bool} {i : Inst} (hi : inst s n p = some i)

include hi

theorem lodeAcc_read : lodeAcc 0 n p false s = accRead d i s := by
  simp [lodeAcc, hd, hi]

theorem lodeAcc_delete : lodeAcc 2 n p false s = accDelete d i s := by
  simp [lodeAcc, hd, hi]

theorem lodeAcc_readAt : lodeAcc 3 n p false s =
    accReadAt d i (regFld s 0x050034 21 16) (regFld s 0x050034 15 3) (regFld s 0x050034 2 0) s := by
  simp [lodeAcc, hd, hi, regFld]

end

/-- A command of the entry window is one operation on its table. -/
theorem exec_window {s : State} {n : Fin 64} {c : Instr} {p same : Bool} (hrun : Running s)
    (h : c = .lodeRead n p same ∨ c = .lodeWrite n same ∨ c = .lodeDelete n p same ∨ c = .readAt n p same) :
    ∃ op q, exec c s = .next (lodeAcc op n q same s) := by
  rcases h with rfl | rfl | rfl | rfl
  · exact ⟨0, p, exec_bus rfl hrun rfl⟩
  · exact ⟨1, false, exec_bus rfl hrun rfl⟩
  · exact ⟨2, p, exec_bus rfl hrun rfl⟩
  · exact ⟨3, p, exec_bus rfl hrun rfl⟩

end Sys2Proof.Machine

open Sys2Proof Sys2Proof.Machine

/-- Settles O25: each command is one operation on the table's `Inst`, whose end alone it shows; a write is `writeEntry`'s, and a
deletion takes the key from every `Inst` that it reaches. -/
theorem lodeWindow : Obligations.LodeWindow := by
  refine fun s n hrun => ⟨fun hnone c p b hc => ?noTable, fun d hd => ⟨fun c p hc => ?second, fun hgrid => ?denied, fun hgrid => ?write,
    fun hgrid hruns hplace => ?placed, fun p i hi => ⟨fun x hx => ⟨?read, fun hgrid hw => ?deleted, fun hgrid hlearned => ?forgotten⟩,
      fun hx => ⟨?unread, fun hgrid hlearned => ?undeleted⟩, fun hgrid => ?kept, fun j e hbank he => ?readAt⟩⟩⟩
  case noTable =>
    obtain ⟨op, q, hexec⟩ := exec_window hrun hc
    rw [lodeAcc_noTable hnone] at hexec
    exact ⟨_, hexec, accEnd_eq .., regBit_accEnd ..⟩
  case second =>
    obtain ⟨op, q, hexec⟩ := exec_window hrun hc
    rw [hexec, lodeAcc_second hd]
  case denied => exact ⟨_, exec_bus rfl hrun ((lodeAcc_write hd false).trans (accWrite_denied hgrid s)), accEnd_eq ..⟩
  case write =>
    cases hwrite : writeEntry d (writtenOf d s.lode.buffer) s with
    | some t =>
      obtain ⟨hrest, hcopy⟩ := writeEntry_leaves hwrite
      simp only [writerRest, Prod.mk.injEq] at hrest
      obtain ⟨hbuffer, htables, hsys, hgrid'⟩ := hrest
      refine ⟨_, exec_bus rfl hrun ((lodeAcc_write hd false).trans (accWrite_taken hgrid hwrite)), ?_⟩
      rw [accEnd_eq]
      exact ⟨hbuffer, htables, hsys, hgrid', .inl ⟨rfl, hcopy⟩⟩
    | none =>
      obtain ⟨hlode, hsys, hgrid', hfull⟩ := tableFull_leaves d (drawn64 s)
      have hend := regBit_accEnd_mono (r := .tableFull) hfull
      refine ⟨_, exec_bus rfl hrun ((lodeAcc_write hd false).trans (accWrite_full hgrid hwrite)), ?_⟩
      rw [accEnd_eq] at hend ⊢
      exact ⟨(congrArg Lode.buffer hlode :), (congrArg Lode.tables hlode :), hsys, hgrid',
        .inr ⟨rfl, (congrArg Lode.copy hlode :), (congrArg Lode.insts hlode :), hend⟩⟩
  case placed =>
    obtain ⟨t, hwrite, hholds⟩ := writeEntry_place (e := writtenOf d s.lode.buffer) rfl hruns hplace
    refine ⟨_, exec_bus rfl hrun ((lodeAcc_write hd false).trans (accWrite_taken hgrid hwrite)), ?_⟩
    rw [accEnd_eq]
    exact ⟨rfl, (writeEntry_leaves hwrite).2, hholds⟩
  case read => exact ⟨_, exec_bus rfl hrun ((lodeAcc_read hd hi).trans (accRead_found hx)), accEnd_eq ..⟩
  case deleted =>
    have hmem : i ∈ instsOf s d.id := mem_instsOf.mpr ⟨mem_of_inst hi, (named_of_inst hi).1.trans (id_of_tableDesc hd).symm⟩
    refine ⟨_, exec_bus rfl hrun ((lodeAcc_delete hd hi).trans (accDelete_written hgrid hmem hx hw)), ?_⟩
    rw [accEnd_eq]
    exact ⟨rfl, rfl, fun j hj htable hrunning => findKey_removeKey (P := fun q => !stopped s q) hj htable (by simp [hrunning]),
      fun y hy => not_mem_copySet_none hy⟩
  case forgotten =>
    refine ⟨_, exec_bus rfl hrun ((lodeAcc_delete hd hi).trans (accDelete_learned hgrid hlearned hx)), ?_⟩
    rw [accEnd_eq]
    exact ⟨rfl, rfl, rfl, fun j hj htable hpipe => findKey_removeKey (P := (· == i.pipe)) hj htable (by simp [hpipe])⟩
  case unread => exact ⟨_, exec_bus rfl hrun ((lodeAcc_read hd hi).trans (accRead_missing hx)), accEnd_eq ..⟩
  case undeleted => exact ⟨_, exec_bus rfl hrun ((lodeAcc_delete hd hi).trans (accDelete_missing hgrid hlearned hx)), accEnd_eq ..⟩
  case kept => exact ⟨_, exec_bus rfl hrun ((lodeAcc_delete hd hi).trans (accDelete_denied hgrid i s)), accEnd_eq ..⟩
  case readAt => exact ⟨_, exec_bus rfl hrun ((lodeAcc_readAt hd hi).trans (accReadAt_found hbank he)), accEnd_eq ..⟩

end

section
/-! Frames at an external port (12_packet_switch.md R380 to R397; 07_lode_tables.md R235): what a frame that is dropped or held leaves, and
a frame with one known destination as it is offered to its queue. -/

namespace Sys2Proof.Machine

open Sys2Proof

/-! ### Counters of ports and queues -/

theorem countOf_bumpPort_same (p ev : Nat) (s : State) : countOf (bumpPort p ev s) 0x0A0024 (ev + 16 * p) = countOf s 0x0A0024 (ev + 16 * p) + 1 :=
  countOf_bumpBy_same ..

theorem countOf_bumpPort_other {p ev e : Nat} (s : State) (h : e ≠ ev + 16 * p) : countOf (bumpPort p ev s) 0x0A0024 e = countOf s 0x0A0024 e :=
  countOf_bumpBy_other _ _ (countKey_ne_sel _ h)

section

variable (p n : Nat) (s : State)

theorem countOf_countRx_frames : countOf (countRx p n s) 0x0A0024 (0 + 16 * p) = countOf s 0x0A0024 (0 + 16 * p) + 1 :=
  (countOf_bumpBy_other _ _ (countKey_ne_sel _ (by omega))).trans (countOf_bumpPort_same ..)

theorem countOf_countRx_bytes : countOf (countRx p n s) 0x0A0024 (1 + 16 * p) = countOf s 0x0A0024 (1 + 16 * p) + n :=
  (countOf_bumpBy_same ..).trans (congrArg (· + n) (countOf_bumpPort_other s (by omega)))

theorem countOf_countRx_other {e : Nat} (h0 : e ≠ 0 + 16 * p) (h1 : e ≠ 1 + 16 * p) : countOf (countRx p n s) 0x0A0024 e = countOf s 0x0A0024 e :=
  (countOf_bumpBy_other _ _ (countKey_ne_sel _ h1)).trans (countOf_bumpPort_other s h0)

end

/-- A frame that is received and then dropped for an event counts as received, and for the event. -/
theorem countOf_received_dropped {ev : Nat} (hev : 2 ≤ ev) (p n : Nat) (s : State) :
    countOf (bumpPort p ev (countRx p n s)) 0x0A0024 (0 + 16 * p) = countOf s 0x0A0024 (0 + 16 * p) + 1 ∧
      countOf (bumpPort p ev (countRx p n s)) 0x0A0024 (1 + 16 * p) = countOf s 0x0A0024 (1 + 16 * p) + n ∧
      countOf (bumpPort p ev (countRx p n s)) 0x0A0024 (ev + 16 * p) = countOf s 0x0A0024 (ev + 16 * p) + 1 := by
  refine ⟨?_, ?_, ?_⟩
  · rw [countOf_bumpPort_other _ (by omega), countOf_countRx_frames]
  · rw [countOf_bumpPort_other _ (by omega), countOf_countRx_bytes]
  · rw [countOf_bumpPort_same, countOf_countRx_other _ _ _ (by omega) (by omega)]

/-! ### Counters at the admission of a copy (R396, R397) -/

theorem afterOvertaking_counts (p q c : Nat) (f : QFrame) (s : State) : (afterOvertaking p q c f s).counts = s.counts := by
  refine foldl_keep State.counts (fun t j => ?_) _ s
  unfold lowerSlack
  split <;> rfl

/-- A cut of the wire counts at its port alone (R391). -/
theorem countOf_cutWire {o p e : Nat} (s : State) (h : countKey o e ≠ countKey 0x0A0024 (12 + 16 * p)) :
    countOf (cutWire p s) o e = countOf s o e := by
  unfold cutWire
  split
  · split
    · rfl
    · exact countOf_bumpBy_other _ _ h
  · rfl

theorem bump_counts_congr {s t : State} (h : t.counts = s.counts) (o e : Nat) : (bump o e t).counts = (bump o e s).counts :=
  congrArg (fun c => (bump o e { s with counts := c }).counts) h

theorem countOf_enqueue {o p e : Nat} (q c : Nat) (f : QFrame) (s : State) (h : countKey o e ≠ countKey 0x0A0024 (12 + 16 * p)) :
    countOf (enqueue p q c f s) o e = countOf (bumpQ (qk p q) 0 s) o e := by
  obtain ⟨w, t, ht, he⟩ := enqueue_eq p q c f s
  have hplaced := (withPause_keep State.counts (fun b i u => raise_counts u b i) (swAbove (qk p q))
    (setQ (qk p q) (fun x => { x with frames := x.frames ++ [queuedCopy s p c f] }) (setPort p w (afterOvertaking p q c f s)))).trans
      (afterOvertaking_counts p q c f s)
  have hcounts : t.counts = (bumpQ (qk p q) 0 s).counts := ht ▸ bump_counts_congr hplaced ..
  rw [he, apply_ite (countOf · o e), countOf_cutWire _ h, ite_self, countOf_congr hcounts]

theorem countOf_countNoBuffer {o e : Nat} (ho : o < 0x0E0034) (he : e < 2 ^ 24) (p r : Nat) (f : QFrame) (s : State) :
    countOf (countNoBuffer p r f s) o e = countOf s o e := by
  unfold countNoBuffer
  split
  · exact countOf_bumpBy_other _ _ (countKey_ne_offset _ ho he)
  · rfl

theorem countOf_refuseCopy (k cause : Nat) (s : State) (o e : Nat) : countOf (refuseCopy k cause s) o e = countOf (bumpQ k 1 s) o e :=
  countOf_congr (raise_counts ..) o e

/-- What comes of a copy moves no counter of a port's received frames. -/
theorem countOf_enqueueFrame_port {p e : Nat} (he : e < 2 ^ 24) (hcut : e ≠ 12 + 16 * p) (q : Nat) (f : QFrame) (s : State) :
    countOf (enqueueFrame p q f s) 0x0A0024 e = countOf s 0x0A0024 e := by
  have hqueue (k ev : Nat) (u : State) : countOf (bumpQ k ev u) 0x0A0024 e = countOf u 0x0A0024 e :=
    countOf_bumpBy_other _ _ (countKey_ne_offset _ (by decide) he)
  unfold enqueueFrame
  dsimp only
  split
  · rw [countOf_enqueue _ _ _ _ (countKey_ne_sel _ hcut), hqueue]
  · rw [countOf_refuseCopy, hqueue, countOf_countNoBuffer (by decide) he]

/-! ### The admission checks read no counter (R393 to R398) -/

section

variable (n : List (Nat × Nat)) (s : State) (p : Nat)

theorem now_withCounts : now { s with counts := n } = now s := congrArg servedOf (Eq.refl s.time)

theorem wirePs_withCounts (k : Nat) : wirePs { s with counts := n } p k = wirePs s p k := rfl

theorem boundNs_withCounts (c : Nat) : boundNs { s with counts := n } c = boundNs s c := rfl

theorem launchWindow_withCounts (f : QFrame) : launchWindow { s with counts := n } p f = launchWindow s p f := by
  unfold launchWindow
  rw [now_withCounts, wirePs_withCounts]

theorem reservations_withCounts : reservations { s with counts := n } p = reservations s p := by
  unfold reservations
  exact congrArg (fun g => (portFrames s p).filterMap fun x => g x.2) (funext (launchWindow_withCounts n s p))

theorem launchCause_withCounts (c : Nat) (f : QFrame) : launchCause { s with counts := n } p c f = launchCause s p c f := by
  unfold launchCause
  rw [now_withCounts, reservations_withCounts, wirePs_withCounts, boundNs_withCounts]

theorem classOf_withCounts (k : Nat) : classOf { s with counts := n } k = classOf s k := congrArg (fun l => (nth l k {}).cls) (Eq.refl s.switch.qcfg)

theorem unsent_withCounts : unsent { s with counts := n } p = unsent s p := rfl

theorem aheadBytes_withCounts (c : Nat) : aheadBytes { s with counts := n } p c = aheadBytes s p c := by
  unfold aheadBytes
  rw [unsent_withCounts, boundNs_withCounts]
  simp only [launchWindow_withCounts, classOf_withCounts]

theorem drainPs_withCounts (c : Nat) (quench : Bool) : drainPs { s with counts := n } p c quench = drainPs s p c quench := by
  unfold drainPs
  rw [aheadBytes_withCounts]
  rfl

theorem refusal_withCounts (q : Nat) (f : QFrame) : refusal { s with counts := n } p q f = refusal s p q f := by
  unfold refusal
  rw [classOf_withCounts]
  cases classOf s (qk p q) with
  | none => rfl
  | some c =>
    dsimp only
    rw [launchCause_withCounts, drainPs_withCounts, boundNs_withCounts]
    rfl

end

/-! ### A copy admitted or refused (R396, R397) -/

theorem classOf_of_admitted {s : State} {p q : Nat} {f : QFrame} (h : refusal s p q f = 0) : ∃ c, classOf s (qk p q) = some c := by
  cases hc : classOf s (qk p q) with
  | none => exact absurd (refusal_unclassed f hc ▸ h) (by decide)
  | some c => exact ⟨c, rfl⟩

theorem frames_refuseCopy (k cause : Nat) (s : State) (j : Nat) : (swQ (refuseCopy k cause s) j).frames = (swQ s j).frames := by
  by_cases h : j = k
  · rw [h, swQ_refuseCopy_same]
  · rw [swQ_refuseCopy_other _ _ h]

theorem enqueueFrame_admits {s : State} {p q : Nat} {f : QFrame} (hp : p < 16) (h : refusal s p q f = 0) :
    (swQ (enqueueFrame p q f s) (qk p q)).frames.map (·.bytes) = (swQ s (qk p q)).frames.map (·.bytes) ++ [f.bytes] ∧
      countOf (enqueueFrame p q f s) 0x0A0048 (8 * qk p q) = countOf s 0x0A0048 (8 * qk p q) + 1 := by
  obtain ⟨c, hc⟩ := classOf_of_admitted h
  rw [enqueueFrame_admitted hc h]
  refine ⟨?_, ?_⟩
  · rw [frames_enqueue f hc, List.map_append]
    rfl
  · rw [countOf_enqueue _ _ _ _ (countKey_ne_offset _ (by decide) (by omega)).symm, ← Nat.zero_add (8 * qk p q)]
    exact countOf_bumpBy_same ..

theorem enqueueFrame_refuses {s : State} {p q : Nat} {f : QFrame} (hp : p < 16) (hq : q < 32) (h : refusal s p q f ≠ 0) :
    portFrames (enqueueFrame p q f s) p = portFrames s p ∧ (swQ (enqueueFrame p q f s) (qk p q)).lastCause = refusal s p q f ∧
      countOf (enqueueFrame p q f s) 0x0A0048 (1 + 8 * qk p q) = countOf s 0x0A0048 (1 + 8 * qk p q) + 1 := by
  rw [enqueueFrame_refused h]
  refine ⟨List.flatMap_congr fun j _ => ?_, ?_, ?_⟩
  · rw [frames_refuseCopy, swQ_congr (countNoBuffer_switch ..)]
  · rw [swQ_refuseCopy_same]
  · rw [countOf_refuseCopy]
    refine (countOf_bumpBy_same ..).trans (congrArg (· + 1) (countOf_countNoBuffer (by decide) ?_ ..))
    unfold qk
    omega

/-! ### A frame at its port (R235, R380) -/

theorem calm_frameIn {s t : State} (h : Calm s t) (p : Nat) (bs : Bytes) : Calm s (frameIn p bs t) := by
  have hrx : Calm s (countRx p bs.length t) := calm_bumpBy (calm_bumpPort h ..) ..
  exact .ite h (.ite (calm_bumpPort h ..) (.ite (calm_bumpPort h ..) (.ite (calm_bumpPort hrx ..) (calm_arrive hrx ..))))

section

variable {s : State} {p : Nat} {bs : Bytes}

theorem frameIn_down (h : portUp s p = false) : frameIn p bs s = s := by
  simp [frameIn, h]

variable (hup : portUp s p = true)

include hup

theorem frameIn_badFcs (h : fcsGood bs = false) : frameIn p bs s = bumpPort p 4 s := by
  simp [frameIn, hup, h]

variable (hfcs : fcsGood bs = true)

include hfcs

theorem frameIn_badLength (h : bs.length < 64 ∨ (portCfg s p).maxLen < bs.length) : frameIn p bs s = bumpPort p 5 s := by
  have hbad : lengthOk s p bs = false := by
    simp only [lengthOk, Bool.and_eq_false_iff, decide_eq_false_iff_not]
    omega
  simp [frameIn, hup, hfcs, hbad]

variable (hmin : 64 ≤ bs.length) (hmax : bs.length ≤ (portCfg s p).maxLen)

include hmin hmax

theorem frameIn_pause (h : pauseFrame bs = true) : frameIn p bs s = bumpPort p 6 (countRx p bs.length s) := by
  simp [frameIn, hup, hfcs, lengthOk, hmin, hmax, h]

variable (hdata : pauseFrame bs = false)

include hdata

theorem frameIn_arrives : frameIn p bs s = arrive p bs (rxStamp s p bs) (countRx p bs.length s) := by
  simp only [frameIn, hup, hfcs, lengthOk, hmin, hmax, hdata]
  rfl

theorem frameIn_held (h : lookupsHeld s = true) : frameIn p bs s =
    { countRx p bs.length s with switch.heldIn := s.switch.heldIn ++ [(p, bs, rxStamp s p bs)] } :=
  (frameIn_arrives hup hfcs hmin hmax hdata).trans (if_pos h)

theorem frameIn_looked (h : lookupsHeld s = false) : frameIn p bs s =
    (ingress { port := p, bytes := bs, stamp := rxStamp s p bs } (countRx p bs.length s)).2 :=
  (frameIn_arrives hup hfcs hmin hmax hdata).trans (if_neg (Bool.eq_false_iff.mp h))

end

/-! ### The ingress pipeline (R382 to R385) -/

section

variable {s : State} {f : InFrame}

theorem ingress_unparsed (h : parseFrame (graphOf s f.port) f.bytes = none) : ingress f s = ([], bumpPort f.port 7 s) := by
  simp only [ingress, h]

variable {x : Parsed} (hx : parseFrame (graphOf s f.port) f.bytes = some x)

include hx

theorem ingress_dropped (h : x.acts.testBit 9 = true) : ingress f s = ([], bumpPort f.port 9 s) := by
  simp only [ingress, hx, h, if_true]

theorem ingress_forwarded (h : x.acts.testBit 9 = false) : ingress f s =
    offerGo (withTag s { f with pipe := pipeOf f.port } x) (forward (withTag s { f with pipe := pipeOf f.port } x) s).1
      (forward (withTag s { f with pipe := pipeOf f.port } x) s).2 := by
  simp [ingress, hx, h]

end

/-- R384: a frame that neither learns nor is routed is bridged. -/
theorem forward_bridged {f : InFrame} (s : State) (hlearn : f.parse.acts.testBit 8 = true) (hip : f.parse.ip = none) :
    forward f s = bridge f s := by
  simp [forward, hlearn, hip]

theorem flapSettled_steady {e : LodeEntry} (s : State) (h : e.flapping = false) : flapSettled s e = e := by
  simp [flapSettled, h]

/-- R384: an entry that is not flapping and has no flag sends the frame to the ports of its mask. -/
theorem bridge_known {f : InFrame} {s : State} {d : TableDesc} {e : LodeEntry} {mask : BitVec 16} {q : BitVec 8}
    (hd : tableFor s .mac f.pipe = some d) (he : exactLookup s d.id f.pipe (macKey (bytesAt f.bytes f.l2 6) f.vid) = some e)
    (hflap : e.flapping = false) (hresult : e.result = .mac mask q 0) :
    bridge f s = (addedCopies f f.bytes none false (maskCopies f mask.toNat (resQueue q) false), bumpLode f.pipe 0 s) := by
  simp [bridge, hd, he, flapSettled_steady s hflap, hflap, hresult, countLookup]

/-- A mask of one port, not the ingress port, is one copy. -/
theorem maskCopies_single {f : InFrame} {m : Nat} (hm : m < 16) (hne : m ≠ f.port) (queue : Option Nat) (flooded : Bool) :
    maskCopies f (BitVec.ofNat 16 (2 ^ m)).toNat queue flooded = [{ port := m, queue := queue, flooded := flooded, bytes := f.bytes }] := by
  have hmask : (BitVec.ofNat 16 (2 ^ m)).toNat = 2 ^ m := Nat.mod_eq_of_lt (Nat.pow_lt_pow_right (by decide) hm)
  have hports : (List.range 16).filter (fun p => (2 ^ m).testBit p && p != f.port) = [m] := by
    rw [List.filter_congr (q := fun p => p == m), List.filter_beq, List.count_eq_one_of_mem List.nodup_range (List.mem_range.mpr hm)]
    · rfl
    · intro p _
      rw [Nat.testBit_two_pow, Bool.eq_iff_iff]
      simp
      omega
  rw [maskCopies, hmask, hports]
  rfl

/-- ACTIONS that copy nothing add no copy to those of the lookup. -/
theorem addedCopies_none {f : InFrame} (h : ∀ b, b ∈ [5, 6, 7, 10] → f.parse.acts.testBit b = false) (bs : Bytes) (routed : Bool) (l : List Copy) :
    addedCopies f bs none routed l = l := by
  simp only [List.forall_mem_cons] at h
  obtain ⟨h5, h6, h7, h10, -⟩ := h
  simp [addedCopies, h5, h6, h7, h10]

section

variable (s : State) (f : InFrame) (x : Parsed)

@[simp] theorem withTag_port : (withTag s f x).port = f.port := by unfold withTag; split <;> rfl
@[simp] theorem withTag_pipe : (withTag s f x).pipe = f.pipe := by unfold withTag; split <;> rfl
@[simp] theorem withTag_bytes : (withTag s f x).bytes = f.bytes := by unfold withTag; split <;> rfl
@[simp] theorem withTag_parse : (withTag s f x).parse = x := by unfold withTag; split <;> rfl

/-- The VID of a frame is that of its tag, or its port's. -/
theorem withTag_vid_congr {s t : State} {f g : InFrame} (hports : t.switch = s.switch) (hport : g.port = f.port) (hbytes : g.bytes = f.bytes) :
    (withTag t g x).vid = (withTag s f x).vid := by
  unfold withTag
  rw [portCfg, portCfg, hports, hport, hbytes]
  split <;> rfl

end

theorem pipeOf_external {p : Nat} (hp : p < 12) : pipeOf p = decide (4 ≤ p) := by
  simp [pipeOf, hp]

theorem resQueue_ofNat {q : Nat} (hq : q < 32) : resQueue (BitVec.ofNat 8 q) = some q := by
  have hval : (BitVec.ofNat 8 q).toNat = q := Nat.mod_eq_of_lt (by omega)
  rw [resQueue, hval, if_neg (by omega), Nat.mod_eq_of_lt hq]

/-- A frame that its MAC entry sends to one port is one copy, in the queue of the entry. -/
theorem forward_known {f : InFrame} {s : State} {d : TableDesc} {e : LodeEntry} {m q : Nat}
    (hacts : ∀ b, b ∈ [5, 6, 7, 10] → f.parse.acts.testBit b = false) (hlearn : f.parse.acts.testBit 8 = true) (hip : f.parse.ip = none)
    (hd : tableFor s .mac f.pipe = some d) (he : exactLookup s d.id f.pipe (macKey (bytesAt f.bytes f.l2 6) f.vid) = some e)
    (hflap : e.flapping = false) (hresult : e.result = .mac (BitVec.ofNat 16 (2 ^ m)) (BitVec.ofNat 8 q) 0) (hm : m < 16) (hne : m ≠ f.port)
    (hq : q < 32) : forward f s = ([{ port := m, queue := some q, bytes := f.bytes }], bumpLode f.pipe 0 s) := by
  rw [forward_bridged s hlearn hip, bridge_known hd he hflap hresult, maskCopies_single hm hne, resQueue_ofNat hq, addedCopies_none hacts]

/-- A received frame once it is parsed. -/
def parsedFrame (s : State) (p : Nat) (bs : Bytes) (x : Parsed) : InFrame :=
  withTag s { port := p, bytes := bs, stamp := rxStamp s p bs, pipe := pipeOf p } x

/-- The frame of a received frame's copy to a port it is known at. -/
def knownCopy (s : State) (p m q : Nat) (bs : Bytes) (x : Parsed) : QFrame :=
  copyFrame (parsedFrame s p bs x) { port := m, queue := some q, bytes := bs }

theorem knownCopy_inPort (s : State) (p m q : Nat) (bs : Bytes) (x : Parsed) : (knownCopy s p m q bs x).inPort = p := withTag_port ..

/-- The part as the lookup of a received frame leaves it. -/
def lookedUp (p n : Nat) (s : State) : State := bumpLode (pipeOf p) 0 (countRx p n s)

/-- R384, R396: a frame with one known destination is offered to one queue of that port, as it came. -/
theorem ingress_known {s : State} {p m q : Nat} {bs : Bytes} {x : Parsed} {d : TableDesc} {e : LodeEntry} (hp : p < 12)
    (hx : parseFrame (graphOf s p) bs = some x) (hacts : ∀ b, b ∈ [5, 6, 7, 9, 10] → x.acts.testBit b = false) (hlearn : x.acts.testBit 8 = true)
    (hip : x.ip = none) (hd : tableFor s .mac (decide (4 ≤ p)) = some d)
    (he : exactLookup s d.id (decide (4 ≤ p)) (macKey (bytesAt bs (x.l2.getD 0) 6) (withTag s { port := p, bytes := bs } x).vid) = some e)
    (hflap : e.flapping = false) (hresult : e.result = .mac (BitVec.ofNat 16 (2 ^ m)) (BitVec.ofNat 8 q) 0) (hm : m < 16) (hne : m ≠ p)
    (hq : q < 32) :
    (ingress { port := p, bytes := bs, stamp := rxStamp s p bs } (countRx p bs.length s)).2 =
      enqueueFrame m q (knownCopy s p m q bs x) (lookedUp p bs.length s) := by
  have hparse : (parsedFrame s p bs x).parse = x := withTag_parse ..
  have hport : (parsedFrame s p bs x).port = p := withTag_port ..
  have hbytes : (parsedFrame s p bs x).bytes = bs := withTag_bytes ..
  have hpipe : (parsedFrame s p bs x).pipe = pipeOf p := withTag_pipe ..
  have hvid : (parsedFrame s p bs x).vid = (withTag s { port := p, bytes := bs } x).vid := withTag_vid_congr x rfl rfl rfl
  have hacts' : ∀ b, b ∈ [5, 6, 7, 10] → x.acts.testBit b = false := fun b hb => hacts b (by simp only [List.mem_cons] at hb ⊢; tauto)
  rw [← pipeOf_external hp] at hd he
  have hforward : forward (parsedFrame s p bs x) (countRx p bs.length s) =
      ([{ port := m, queue := some q, bytes := bs }], lookedUp p bs.length s) := by
    have hknown := forward_known (f := parsedFrame s p bs x) (s := countRx p bs.length s) (d := d) (e := e) (m := m) (q := q)
    rw [InFrame.l2, hparse, hport, hbytes, hpipe, hvid] at hknown
    exact hknown hacts' hlearn hip hd he hflap hresult hm hne hq
  have hnext : ingress { port := p, bytes := bs, stamp := rxStamp s p bs } (countRx p bs.length s) =
      offerGo (parsedFrame s p bs x) (forward (parsedFrame s p bs x) (countRx p bs.length s)).1
        (forward (parsedFrame s p bs x) (countRx p bs.length s)).2 := ingress_forwarded hx (hacts 9 (by decide))
  rw [hnext, hforward]
  rfl

theorem refusal_lookedUp (p n : Nat) (s : State) (m q : Nat) (f : QFrame) : refusal (lookedUp p n s) m q f = refusal s m q f :=
  refusal_withCounts (lookedUp p n s).counts s m q f

/-- A lookup is counted in Lode. -/
theorem countOf_lookedUp {o : Nat} (ho : 0x050044 < o) (p n : Nat) (s : State) (e : Nat) :
    countOf (lookedUp p n s) o e = countOf (countRx p n s) o e :=
  countOf_bumpBy_other _ _ (countKey_ne_offset _ ho (by cases pipeOf p <;> decide)).symm

/-- A frame received moves no counter of a queue. -/
theorem countOf_countRx_queue {p : Nat} (hp : p < 12) (n : Nat) (s : State) (e : Nat) : countOf (countRx p n s) 0x0A0048 e = countOf s 0x0A0048 e :=
  (countOf_bumpBy_other _ _ (countKey_ne_offset _ (by decide) (by omega)).symm).trans
    (countOf_bumpBy_other _ _ (countKey_ne_offset _ (by decide) (by omega)).symm)

/-- R396: what comes of a frame that is offered to one queue. -/
theorem enqueueFrame_lookedUp {s : State} {p m n q : Nat} (hp : p < 12) (hm : m < 16) (hq : q < 32) (f : QFrame) :
    countOf (enqueueFrame m q f (lookedUp p n s)) 0x0A0024 (0 + 16 * p) = countOf s 0x0A0024 (0 + 16 * p) + 1 ∧
      (refusal s m q f = 0 →
        (swQ (enqueueFrame m q f (lookedUp p n s)) (qk m q)).frames.map (·.bytes) = (swQ s (qk m q)).frames.map (·.bytes) ++ [f.bytes] ∧
          countOf (enqueueFrame m q f (lookedUp p n s)) 0x0A0048 (8 * qk m q) = countOf s 0x0A0048 (8 * qk m q) + 1) ∧
      (refusal s m q f ≠ 0 →
        portFrames (enqueueFrame m q f (lookedUp p n s)) m = portFrames s m ∧
          (swQ (enqueueFrame m q f (lookedUp p n s)) (qk m q)).lastCause = refusal s m q f ∧
          countOf (enqueueFrame m q f (lookedUp p n s)) 0x0A0048 (1 + 8 * qk m q) = countOf s 0x0A0048 (1 + 8 * qk m q) + 1) := by
  have hqueue (e : Nat) : countOf (lookedUp p n s) 0x0A0048 e = countOf s 0x0A0048 e :=
    (countOf_lookedUp (by decide) p n s e).trans (countOf_countRx_queue hp n s e)
  refine ⟨?_, fun hadmit => ?_, fun hrefuse => ?_⟩
  · rw [countOf_enqueueFrame_port (by omega) (by omega), countOf_lookedUp (by decide), countOf_countRx_frames]
  · obtain ⟨hframes, hcount⟩ := enqueueFrame_admits hm ((refusal_lookedUp p n s m q f).trans hadmit)
    exact ⟨hframes, hcount.trans (congrArg (· + 1) (hqueue _))⟩
  · obtain ⟨hframes, hcause, hcount⟩ := enqueueFrame_refuses hm hq (mt (refusal_lookedUp p n s m q f).symm.trans hrefuse)
    exact ⟨hframes, hcause.trans (refusal_lookedUp ..), hcount.trans (congrArg (· + 1) (hqueue _))⟩

end Sys2Proof.Machine

open Sys2Proof Sys2Proof.Machine

/-- Settles O42: each frame that is dropped or held is the step of its first failed check, and one with a known destination is one copy
that its queue admits or refuses. -/
theorem framesIn : Obligations.FramesIn := by
  refine ⟨fun s p bs hrun => ?any, fun s p bs hrun hdown => exec_bus rfl hrun (frameIn_down hdown), fun s p bs hrun hup hfcs => ?badFcs,
    fun s p bs hrun hup hfcs hlen => ?badLength, fun s p bs hrun hup hfcs hmin hmax => ⟨fun hpause => ?pause, fun hdata hheld => ?held,
      fun hdata hfree hx => ?unparsed, fun x hdata hfree hx hdrop => ?dropped,
      fun x d e m q hdata hfree hx hacts hlearn hip hd he hflap hresult hm hne hq => ?known⟩⟩
  case any =>
    have hcalm := calm_frameIn (.refl s) p bs
    exact after_bus rfl hrun ⟨hcalm.sys_eq, hcalm.clk_eq, hcalm.twin_eq⟩
  case badFcs => exact ⟨_, exec_bus rfl hrun (frameIn_badFcs hup hfcs), rfl, countOf_bumpPort_same ..⟩
  case badLength => exact ⟨_, exec_bus rfl hrun (frameIn_badLength hup hfcs hlen), rfl, countOf_bumpPort_same ..⟩
  case pause => exact ⟨_, exec_bus rfl hrun (frameIn_pause hup hfcs hmin hmax hpause), rfl, countOf_received_dropped (by decide) ..⟩
  case held => exact ⟨_, exec_bus rfl hrun (frameIn_held hup hfcs hmin hmax hdata hheld), countOf_countRx_frames .., rfl⟩
  case unparsed =>
    have hstep := (frameIn_looked hup hfcs hmin hmax hdata hfree).trans (congrArg Prod.snd (ingress_unparsed hx))
    exact ⟨_, exec_bus rfl hrun hstep, rfl, countOf_received_dropped (by decide) ..⟩
  case dropped =>
    have hstep := (frameIn_looked hup hfcs hmin hmax hdata hfree).trans (congrArg Prod.snd (ingress_dropped hx hdrop))
    obtain ⟨hframes, -, hevent⟩ := countOf_received_dropped (ev := 9) (by decide) p bs.length s
    exact ⟨_, exec_bus rfl hrun hstep, rfl, hframes, hevent⟩
  case known =>
    have hstep := (frameIn_looked hup hfcs hmin hmax hdata hfree).trans
      (ingress_known p.isLt hx hacts hlearn hip hd he hflap hresult hm hne hq)
    have hcalm := hstep ▸ calm_frameIn (.refl s) p bs
    obtain ⟨hframes, hadmits, hrefuses⟩ := enqueueFrame_lookedUp (s := s) (n := bs.length) p.isLt hm hq (knownCopy s p m q bs x)
    exact ⟨_, exec_bus rfl hrun hstep, hframes, hcalm.sys_eq, hcalm.clk_eq, _, rfl, knownCopy_inPort .., rfl, hadmits, hrefuses⟩

end

section
/-! A command over the register path of the grid (08_field_grid.md R24, R260, R275, R276, R278): it joins the intake, runs at its
head when nothing holds it, and reports its end. -/

namespace Sys2Proof.Machine

open Sys2Proof

/-! ### What the frames of the Frauri link leave (R421) -/

/-- The part beside its counters and the frames sent to the peer. -/
def besideLink (s : State) : State := { s with counts := [], fr := {} }

/-- What a grid command answers, but for counters and frames to the peer. -/
theorem after_gridBus_beside {i : Instr} {s : State} {f : State → State} {P : State → Prop} (hi : exec i s = .next (gridBus s f))
    (hrun : Running s) (hP : ∀ t, besideLink t = besideLink (f s) → P t) : After i s P :=
  after_gridBus hi hrun fun t ht => hP t (ht State besideLink fun _ _ _ => rfl)

section

variable {s t : State} (h : besideLink t = besideLink s)

include h

theorem clk_of_beside : t.clk = s.clk := (congrArg State.clk h :)

theorem regs_of_beside : t.regs = s.regs := (congrArg State.regs h :)

theorem sys_of_beside : t.sys = s.sys := (congrArg State.sys h :)

theorem lode_of_beside : t.lode = s.lode := (congrArg State.lode h :)

theorem grid_of_beside : t.grid = s.grid := (congrArg State.grid h :)

theorem setpt_of_beside : t.setpt = s.setpt := (congrArg State.setpt h :)

theorem quench_of_beside : t.quench = s.quench := (congrArg State.quench h :)

theorem regBit_of_beside (off i : Nat) : regBit t off i = regBit s off i := by rw [regBit, regBit, regWord, regWord, regs_of_beside h]

end

/-! ### The body of a command (R260) -/

theorem bytesAt_length (bs : Bytes) (ofs n : Nat) : (bytesAt bs ofs n).length = n := by
  simp only [bytesAt, List.length_append, List.length_take, List.length_replicate]
  omega

theorem padTo_of_length {n : Nat} {bs : Bytes} (h : bs.length = n) : padTo n bs = bs := by
  simp [padTo, bytesAt, ← h]

/-- A command as the register path brings it, with its operation in the first byte. -/
def asked (who : Master) (op : Nat) (body : Bytes) (s : State) : GridCmd :=
  { master := who, body := padTo 48 (BitVec.ofNat 8 op :: (padTo 48 body).drop 1), queue := none, at_ := s.clk }

theorem asked_body (who : Master) (op : Nat) (body : Bytes) (s : State) :
    (asked who op body s).body = BitVec.ofNat 8 op :: (padTo 48 body).drop 1 :=
  padTo_of_length (by rw [List.length_cons, List.length_drop, padTo, bytesAt_length])

theorem byteAt_zero_cons (b : Byte) (bs : Bytes) : byteAt (b :: bs) 0 = b.toNat := by simp [byteAt, leAt, bytesAt, leNat]

theorem byteAt_asked_op {op : Nat} (h : op < 256) (who : Master) (body : Bytes) (s : State) : byteAt (asked who op body s).body 0 = op := by
  rw [asked_body, byteAt_zero_cons, BitVec.toNat_ofNat, Nat.mod_eq_of_lt h]

/-- Past the operation the body is the master's. -/
theorem leAt_asked {body : Bytes} (hlen : body.length = 48) {ofs : Nat} (h : 1 ≤ ofs) (who : Master) (op : Nat) (s : State) (n : Nat) :
    leAt (asked who op body s).body ofs n = leAt body ofs n := by
  obtain ⟨k, rfl⟩ := Nat.exists_eq_add_of_le' h
  rw [asked_body, padTo_of_length hlen, leAt, leAt, bytesAt, bytesAt, List.drop_succ_cons, List.drop_drop, Nat.add_comm 1 k]

theorem byteAt_asked {body : Bytes} (hlen : body.length = 48) {ofs : Nat} (h : 1 ≤ ofs) (who : Master) (op : Nat) (s : State) :
    byteAt (asked who op body s).body ofs = byteAt body ofs := leAt_asked hlen h who op s 1

/-- A body that names its own operation is the command's. -/
theorem asked_of_op {body : Bytes} (hlen : body.length = 48) {op : Nat} (h : byteAt body 0 = op) (who : Master) (s : State) :
    asked who op body s = { master := who, body := body, queue := none, at_ := s.clk } := by
  have hbody : (asked who op body s).body = body := by
    rw [asked_body, padTo_of_length hlen]
    cases body with
    | nil => cases hlen
    | cons b l =>
      rw [byteAt_zero_cons] at h
      simp [← h]
  exact congrArg (fun b => GridCmd.mk who b none s.clk false) hbody

/-! ### The intake (R260, R276) -/

/-- The grid with a command at the head of its intake, running. -/
def atHead (c : GridCmd) (s : State) : State :=
  { s with grid := { s.grid with cmdBusy := true, cmdResult := .none, cmdBlocker := 0xFF, intake := [c] } }

theorem gridGo_busy {who : Master} {body : Bytes} {s : State} (h : s.grid.cmdBusy = true ∨ 8 ≤ s.grid.intake.length) :
    gridGo who body s = raise bGRID 1 { s with grid := { s.grid with cmdResult := .busy, cmdBlocker := 0xFF } } := if_pos h.symm

/-- A command joins the intake, which keeps what it holds. -/
theorem length_joinIntake (c : GridCmd) (l : List GridCmd) : (joinIntake c l).length = l.length + 1 := by
  induction l with
  | nil => rfl
  | cons x l ih =>
    unfold joinIntake
    split
    · rfl
    · rw [List.length_cons, ih, List.length_cons]

theorem mem_joinIntake (c : GridCmd) (l : List GridCmd) : c ∈ joinIntake c l := by
  induction l with
  | nil => exact List.mem_singleton_self c
  | cons x l ih =>
    unfold joinIntake
    split
    · exact List.mem_cons_self
    · exact List.mem_cons_of_mem x ih

/-- The grid with a command waiting in its intake. -/
def withWaiting (c : GridCmd) (s : State) : State :=
  { s with grid := { s.grid with cmdBusy := true, cmdResult := .none, cmdBlocker := 0xFF, intake := joinIntake c s.grid.intake } }

theorem gridGo_joins (who : Master) (op : Nat) (body : Bytes) {s : State} (hbusy : s.grid.cmdBusy = false) (hroom : s.grid.intake.length < 8) :
    gridGo who (BitVec.ofNat 8 op :: (padTo 48 body).drop 1) s = withWaiting (asked who op body s) s :=
  if_neg (by simp [hbusy, hroom])

/-- A grid under its self-test runs no command. -/
theorem gridHead_tested {s : State} (h : underTest s .allocator = true) (op : Nat) (f : GridCmd → State → GridRun) : gridHead op f s = s := by
  unfold gridHead
  split
  · exact if_neg (by simp [gridReady, h])
  · rfl

theorem gridCmd_tested_busy {s : State} (htest : underTest s .allocator = true) (h : s.grid.cmdBusy = true ∨ 8 ≤ s.grid.intake.length)
    (op : Nat) (who : Master) (body : Bytes) (f : GridCmd → State → GridRun) :
    gridCmd op (.regs who body) f s = raise bGRID 1 { s with grid := { s.grid with cmdResult := .busy, cmdBlocker := 0xFF } } := by
  rw [gridCmd, gridGo_busy h, gridHead_tested]
  rwa [underTest, resTesting, resOf, raise_fault]

theorem gridCmd_tested_joins {s : State} (htest : underTest s .allocator = true) (hbusy : s.grid.cmdBusy = false)
    (hroom : s.grid.intake.length < 8) (op : Nat) (who : Master) (body : Bytes) (f : GridCmd → State → GridRun) :
    gridCmd op (.regs who body) f s = withWaiting (asked who op body s) s := by
  rw [gridCmd, gridGo_joins who op body hbusy hroom, gridHead_tested]
  exact htest

/-! ### A command that nothing holds (R24, R260, R261) -/

/-- No command contradicts itself: it reaches the intake over one path. -/
theorem gridLoses_self (s : State) (c : GridCmd) : gridLoses s c c = false := by simp [gridLoses, sameCycle]

theorem gridLost_atHead {c : GridCmd} (hlost : c.lost = false) (s : State) : gridLost (atHead c s) c = false := by
  have hself := gridLoses_self (atHead c s) c
  simp only [gridLost, hlost, Bool.false_or]
  change [c].any (gridLoses (atHead c s) c) = false
  simp [hself]

/-- With no other command and no EXTEND request, none is marked. -/
theorem markLosers_atHead {s : State} (c : GridCmd) (hext : s.setpt.extends_ = []) : markLosers c (atHead c s) = atHead c s := by
  have hmarked : { c with lost := c.lost || gridLoses (atHead c s) c c } = c := by
    rw [gridLoses_self, Bool.or_false]
  have hset (f : ExtReq → ExtReq) : ({ s.setpt with extends_ := s.setpt.extends_.map f } : Setpt) = s.setpt := by
    rw [hext, List.map_nil, ← hext]
  change ({ s with
    grid := { (atHead c s).grid with intake := [{ c with lost := c.lost || gridLoses (atHead c s) c c }] }
    setpt := { s.setpt with extends_ := s.setpt.extends_.map fun x => { x with lost := x.lost || extLoses (atHead c s) x c } } } : State) = _
  rw [hset, hmarked]
  rfl

theorem gridWork_atHead {c : GridCmd} (hlost : c.lost = false) {s : State} (hext : s.setpt.extends_ = []) (f : GridCmd → State → GridRun) :
    gridWork c f (atHead c s) = f c (atHead c s) := by
  rw [gridWork, if_neg (by simp [gridLost_atHead hlost]), markLosers_atHead c hext]

theorem gridReady_atHead {s : State} (h : GridIdle s) (hon : gridOn s = true) {c : GridCmd} {op : Nat} (hop : byteAt c.body 0 = op)
    (hqueue : c.queue = none) : gridReady (atHead c s) op c = true := by
  obtain ⟨-, htest, hheld, -, -, hext⟩ := h
  have hlookups : lookupsHeld (atHead c s) = false := hheld
  have hunit : underTest (atHead c s) .allocator = false := htest
  have hgrid : gridOn (atHead c s) = true := hon
  have hwaits : (atHead c s).setpt.extends_ = [] := hext
  simp [gridReady, hop, hgrid, hunit, hlookups, hwaits, hqueue]

/-- R260: with nothing before it, a command of the register path runs at once. -/
theorem gridCmd_idle {s : State} (h : GridIdle s) {op : Nat} (hop : op < 256) (hon : gridOn s = true) (who : Master) (body : Bytes)
    (f : GridCmd → State → GridRun) : gridCmd op (.regs who body) f s =
      gridFinish (asked who op body s) (f (asked who op body s) (atHead (asked who op body s) s)).1
        (f (asked who op body s) (atHead (asked who op body s) s)).2 := by
  obtain ⟨-, -, -, hintake, hbusy, hext⟩ := id h
  have hhead : withWaiting (asked who op body s) s = atHead (asked who op body s) s := by rw [withWaiting, hintake]; rfl
  have hready := gridReady_atHead h hon (byteAt_asked_op hop who body s) rfl
  have hwork := gridWork_atHead (c := asked who op body s) rfl hext f
  rw [gridCmd, gridGo_joins who op body hbusy (by simp [hintake]), hhead]
  generalize asked who op body s = c at hready hwork ⊢
  change (if gridReady (atHead c s) op c = true then gridFinish c (gridWork c f (atHead c s)).1 (gridWork c f (atHead c s)).2 else _) = _
  rw [if_pos hready, hwork]

/-! ### The end of a command (R278) -/

/-- What a command of the register path leaves when its work has run to an end. -/
structure Reported (r : GridRun) (t : State) : Prop where
  grid : t.grid = { r.2.grid with
    intake := r.2.grid.intake.drop 1, cmdBusy := false, cmdResult := r.1.result, cmdBlocker := BitVec.ofNat 8 r.1.blocker }
  lode : t.lode = r.2.lode
  flag : regBit t 0x060060 (if r.1.result = .done then 0 else 1) = true

namespace Reported

variable {r : GridRun} {t : State} (h : Reported r t)

include h

theorem result_eq : t.grid.cmdResult = r.1.result := (congrArg Grid.cmdResult h.grid :)

theorem idle : t.grid.cmdBusy = false := (congrArg Grid.cmdBusy h.grid :)

theorem intake_eq : t.grid.intake = r.2.grid.intake.drop 1 := (congrArg Grid.intake h.grid :)

theorem tracks_eq : t.grid.tracks = r.2.grid.tracks := (congrArg Grid.tracks h.grid :)

theorem zones_eq : t.grid.zones = r.2.grid.zones := (congrArg Grid.zones h.grid :)

theorem allots_eq : t.grid.allots = r.2.grid.allots := (congrArg Grid.allots h.grid :)

theorem machs_eq : t.grid.machs = r.2.grid.machs := (congrArg Grid.machs h.grid :)

theorem origin_eq : t.grid.origin = r.2.grid.origin := (congrArg Grid.origin h.grid :)

theorem report_eq : t.grid.report = r.2.grid.report := (congrArg Grid.report h.grid :)

theorem flag_done (hr : r.1.result = .done) : regBit t 0x060060 0 = true := by simpa [hr] using h.flag

theorem flag_refused (hr : r.1.result ≠ .done) : regBit t 0x060060 1 = true := by simpa [hr] using h.flag

end Reported

theorem reported_of_finish {c : GridCmd} (hc : c.queue = none) {r : GridRun} {t : State}
    (h : besideLink t = besideLink (gridFinish c r.1 r.2)) : Reported r t := by
  have hflag : regBit (gridFinish c r.1 r.2) 0x060060 (if r.1.result = .done then 0 else 1) = true := by
    simp only [gridFinish, hc]
    exact regBit_raise_same _ (b := bGRID) (by decide) (by split <;> decide)
  refine ⟨(grid_of_beside h).trans ?_, (lode_of_beside h).trans ?_, (regBit_of_beside h ..).trans hflag⟩
  · simp only [gridFinish, hc, raise_grid]
  · simp only [gridFinish, hc, raise_lode]

/-- R260, R278: what a command of the register path answers when nothing holds it. -/
theorem after_gridCmd {i : Instr} {s : State} {op : Nat} {who : Master} {body : Bytes} {f : GridCmd → State → GridRun} {P : State → Prop}
    (hi : exec i s = .next (gridBus s (gridCmd op (.regs who body) f))) (h : GridIdle s) (hop : op < 256) (hon : gridOn s = true)
    (hP : ∀ t, Reported (f (asked who op body s) (atHead (asked who op body s) s)) t → P t) : After i s P :=
  after_gridBus_beside hi h.1 fun t ht => hP t (reported_of_finish (c := asked who op body s) rfl (gridCmd_idle h hop hon who body f ▸ ht))

theorem gridOn_of_gridRuns {s : State} (h : gridRuns s = true) : gridOn s = true := by
  unfold gridRuns at h
  unfold gridOn
  cases hm : s.sys.mode <;> simp [hm] at h ⊢

theorem gridIn_runs {s : State} (h : gridRuns s = true) (r : State → GridRun) : gridIn s true r = r s :=
  if_neg (by simp [refusedMode, h])

theorem gridIn_refused {s : State} {ok : Bool} (h : gridRuns s = false ∨ ok = false) (r : State → GridRun) :
    gridIn s ok r = (gridRes .mode, s) :=
  if_pos (by simpa [refusedMode] using h)

end Sys2Proof.Machine
end

section
/-! Tracks, zones, the origin and RESUME (08_field_grid.md R243, R244, R248 to R251, R272, R275): what each command's work comes to. -/

namespace Sys2Proof.Machine

open Sys2Proof

/-! ### Refusals by the mode (R275) -/

/-- A command's work has been refused by the mode: the tracks, the zones, the origin and the tables stand. -/
structure ModeRefused (s : State) (r : GridRun) : Prop where
  result : r.1.result = .mode
  intake : r.2.grid.intake = s.grid.intake
  tracks : r.2.grid.tracks = s.grid.tracks
  zones : r.2.grid.zones = s.grid.zones
  origin : r.2.grid.origin = s.grid.origin
  lode : r.2.lode = s.lode

theorem modeRefused_refusal (s : State) : ModeRefused s (gridRes .mode, s) := ⟨rfl, rfl, rfl, rfl, rfl, rfl⟩

/-- ALLOT in a mode that takes it. -/
def allotChecked (c : GridCmd) (s : State) : GridRun :=
  match allotFault s c with
  | some r => refuse s r
  | none => allotSweep c ((kget s.grid.tracks (leAt c.body 8 2)).getD []) s

/-- What an ALLOT comes to, reported. -/
def allotReported (c : GridCmd) (s : State) (r : GridRun) : GridRun :=
  (r.1, reportAllot r.1 (s.clk - c.at_) (bumpGrid (if r.1.result = .done then 0 else 1) r.2))

theorem allot_eq (c : GridCmd) (s : State) : allot c s = allotReported c s (gridIn s (allotMode s) (allotChecked c)) := rfl

theorem allot_refused {s : State} (h : gridRuns s = false ∨ allotMode s = false) (c : GridCmd) :
    allot c s = allotReported c s (gridRes .mode, s) := by rw [allot_eq, gridIn_refused h]

/-- An ALLOT refused by the mode ends what has expired, and reports. -/
theorem modeRefused_allot {s : State} (h : gridRuns s = false) (c : GridCmd) : ModeRefused s (allot c (expireAllots s)) := by
  rw [allot_refused (s := expireAllots s) (.inl h)]
  exact ⟨rfl, rfl, rfl, rfl, rfl, rfl⟩

theorem gridEffect_none {s : State} (h : s.parison.waiting = []) : gridEffect s = s := if_neg (by simp [h])

/-- A command of the grid: its operation, and its work, which the mode may refuse. -/
structure GridOp (c : CmdSrc → Instr) (op : Nat) (f : GridCmd → State → GridRun) : Prop where
  exec_eq : ∀ src s, exec (c src) s = .next (gridBus s (gridCmd op src f))
  code : op < 256
  refuses : ∀ g s, gridRuns s = false → s.parison.waiting = [] → ModeRefused s (f g s)

/-- A command whose whole work the mode may refuse. -/
theorem gridOp_of_gridIn {c : CmdSrc → Instr} {op : Nat} {f : GridCmd → State → GridRun} (hop : op < 256)
    (hexec : ∀ src s, exec (c src) s = .next (gridBus s (gridCmd op src f)))
    (hf : ∀ g s, ∃ ok r, f g s = gridIn s ok r) : GridOp c op f where
  exec_eq := hexec
  code := hop
  refuses g s h _ := by
    obtain ⟨ok, r, hwork⟩ := hf g s
    rw [hwork, gridIn_refused (.inl h)]
    exact modeRefused_refusal s

theorem gridOp_allot : GridOp .allot 3 (fun c s => allot c (expireAllots (gridEffect s))) where
  exec_eq _ _ := rfl
  code := by decide
  refuses g s h hwait := by
    rw [gridEffect_none hwait]
    exact modeRefused_allot h g

theorem exists_gridOp {c : CmdSrc → Instr} {rec : Bytes}
    (hc : c = (fun q => .trackLoad q rec) ∨ c = .trackDrop ∨ c = .allot ∨ c = .release ∨ c = .releaseMach ∨ c = .zoneAdd ∨ c = .zoneDel ∨
      c = .resume ∨ c = .originSet ∨ c = .originClear) : ∃ op f, GridOp c op f := by
  have whole {c : CmdSrc → Instr} (op : Nat) (f : GridCmd → State → GridRun) (hop : op < 256)
      (hexec : ∀ src s, exec (c src) s = .next (gridBus s (gridCmd op src f))) (hf : ∀ g s, ∃ ok r, f g s = gridIn s ok r) :
      ∃ op f, GridOp c op f := ⟨op, f, gridOp_of_gridIn hop hexec hf⟩
  obtain rfl | rfl | rfl | rfl | rfl | rfl | rfl | rfl | rfl | rfl := hc
  · exact whole 1 (trackLoad rec) (by decide) (fun _ _ => rfl) fun _ _ => ⟨_, _, rfl⟩
  · exact whole 2 trackDrop (by decide) (fun _ _ => rfl) fun _ _ => ⟨_, _, rfl⟩
  · exact ⟨_, _, gridOp_allot⟩
  · exact whole 4 release (by decide) (fun _ _ => rfl) fun _ _ => ⟨_, _, rfl⟩
  · exact whole 5 releaseMach (by decide) (fun _ _ => rfl) fun _ _ => ⟨_, _, rfl⟩
  · exact whole 6 zoneAdd (by decide) (fun _ _ => rfl) fun _ _ => ⟨_, _, rfl⟩
  · exact whole 7 zoneDel (by decide) (fun _ _ => rfl) fun _ _ => ⟨_, _, rfl⟩
  · exact whole 8 resume (by decide) (fun _ _ => rfl) fun _ _ => ⟨_, _, rfl⟩
  · exact whole 9 (fun _ s => originTo (some s.grid.staged) s) (by decide) (fun _ _ => rfl) fun _ _ => ⟨_, _, rfl⟩
  · exact whole 10 (fun _ s => originTo none s) (by decide) (fun _ _ => rfl) fun _ _ => ⟨_, _, rfl⟩

/-! ### Tracks (R250, R251) -/

section

variable {s : State} (hrun : gridRuns s = true) (rec : Bytes) {c : GridCmd} {k : Nat} (hk : leAt c.body 2 2 = k)

include hrun hk

/-- TRACK_LOAD of a track that the grid has room for, by what stands against it. -/
theorem trackLoad_eq (hmax : k ≤ 4095) : trackLoad rec c s =
    if trackUsed s k = true then refuse s .inUse
    else match trackFault rec with
      | some r => refuse s r
      | none => ({ arc := arc16 (vertexList rec (leAt rec 0 2)) / 2 ^ 16 },
          { s with grid.tracks := kset s.grid.tracks k (vertexList rec (leAt rec 0 2)) }) := by
  subst hk
  exact (gridIn_runs hrun _).trans (if_neg (by omega))

theorem trackLoad_used (hmax : k ≤ 4095) (h : trackUsed s k = true) : trackLoad rec c s = refuse s .inUse :=
  (trackLoad_eq hrun rec hk hmax).trans (if_pos h)

theorem trackLoad_bad (hmax : k ≤ 4095) (h : trackUsed s k = false) {r : GridResult} (hr : trackFault rec = some r) :
    trackLoad rec c s = refuse s r := by
  rw [trackLoad_eq hrun rec hk hmax, if_neg (by simp [h]), hr]

theorem trackLoad_good (hmax : k ≤ 4095) (h : trackUsed s k = false) (hr : trackFault rec = none) :
    trackLoad rec c s = ({ arc := arc16 (vertexList rec (leAt rec 0 2)) / 2 ^ 16 },
      { s with grid.tracks := kset s.grid.tracks k (vertexList rec (leAt rec 0 2)) }) := by
  rw [trackLoad_eq hrun rec hk hmax, if_neg (by simp [h]), hr]

theorem trackDrop_missing (h : kget s.grid.tracks k = none) : trackDrop c s = refuse s .notFound := by
  subst hk
  exact (gridIn_runs hrun _).trans (if_pos (by simp [h]))

theorem trackDrop_used (h : (kget s.grid.tracks k).isSome = true) (hused : trackUsed s k = true) : trackDrop c s = refuse s .inUse := by
  subst hk
  exact (gridIn_runs hrun _).trans ((if_neg (by simpa [Option.isSome_iff_ne_none] using h)).trans (if_pos hused))

theorem trackDrop_free (h : (kget s.grid.tracks k).isSome = true) (hused : trackUsed s k = false) :
    trackDrop c s = ({}, { s with grid.tracks := kdel s.grid.tracks k }) := by
  subst hk
  exact (gridIn_runs hrun _).trans ((if_neg (by simpa [Option.isSome_iff_ne_none] using h)).trans (if_neg (by simp [hused])))

end

/-- The commands of tracks change neither the tables nor an allotment. -/
theorem trackLoad_leaves (rec : Bytes) (c : GridCmd) (s : State) :
    (trackLoad rec c s).2.lode = s.lode ∧ (trackLoad rec c s).2.grid.allots = s.grid.allots := by
  unfold trackLoad gridIn
  dsimp only
  split
  · exact ⟨rfl, rfl⟩
  · split
    · exact ⟨rfl, rfl⟩
    · split
      · exact ⟨rfl, rfl⟩
      · split
        · exact ⟨rfl, rfl⟩
        · exact ⟨rfl, rfl⟩

theorem trackDrop_leaves (c : GridCmd) (s : State) :
    (trackDrop c s).2.lode = s.lode ∧ (trackDrop c s).2.grid.allots = s.grid.allots := by
  unfold trackDrop gridIn
  dsimp only
  split
  · exact ⟨rfl, rfl⟩
  · split
    · exact ⟨rfl, rfl⟩
    · split
      · exact ⟨rfl, rfl⟩
      · exact ⟨rfl, rfl⟩

/-! ### Zones (R248, R249) -/

/-- The zone that a ZONE_ADD names. -/
def namedZone (c : GridCmd) : Zone :=
  { level := byteAt c.body 4, cls := byteAt c.body 5, id := leAt c.body 2 2, prefix_ := BitVec.ofNat 32 (leAt c.body 0x0C 4)
    attr := BitVec.ofNat 32 (leAt c.body 0x20 4) }

section

variable {s : State} (hrun : gridRuns s = true) {c : GridCmd}

include hrun

theorem zoneAdd_bad {r : GridResult} (h : zoneFault s (namedZone c) = some r) : zoneAdd c s = refuse s r := by
  refine (gridIn_runs hrun _).trans ?_
  change (match zoneFault s (namedZone c) with | some r => refuse s r | none => _) = _
  rw [h]

theorem zoneAdd_good (h : zoneFault s (namedZone c) = none) : zoneAdd c s =
    if zoneInUse s (namedZone c).level (namedZone c).prefix_.toNat = true then refuse s .zoneInUse
    else match addZone (namedZone c) s with
      | some t => ({}, t)
      | none => (gridRes .tableFull, zoneTableFull s) := by
  refine (gridIn_runs hrun _).trans ?_
  change (match zoneFault s (namedZone c) with | some r => refuse s r | none => _) = _
  rw [h]
  rfl

theorem zoneAdd_used (h : zoneFault s (namedZone c) = none) (hused : zoneInUse s (namedZone c).level (namedZone c).prefix_.toNat = true) :
    zoneAdd c s = refuse s .zoneInUse := (zoneAdd_good hrun h).trans (if_pos hused)

end

/-- A zone that enters the table joins the list. -/
theorem addZone_zones {z : Zone} {s t : State} (h : addZone z s = some t) : t.grid.zones = s.grid.zones ++ [z] := by
  unfold addZone at h
  split at h
  · cases h
  · obtain ⟨u, hu, rfl⟩ := Option.map_eq_some_iff.mp h
    have hgrid : u.grid = s.grid := (congrArg (fun x => x.2.2.2) (writeEntry_leaves hu).1 :)
    exact congrArg (· ++ [z]) (congrArg Grid.zones hgrid)

theorem zoneTableFull_grid (s : State) : (zoneTableFull s).grid = s.grid := by
  unfold zoneTableFull
  split
  · exact (tableFull_leaves ..).2.2.1
  · rfl

/-- A zone that nothing stands against joins the list, or the table is full. -/
theorem zoneAdd_outcome {s : State} (hrun : gridRuns s = true) {c : GridCmd} (h : zoneFault s (namedZone c) = none)
    (hused : zoneInUse s (namedZone c).level (namedZone c).prefix_.toNat = false) :
    (zoneAdd c s).1.result = .done ∧ (zoneAdd c s).2.grid.zones = s.grid.zones ++ [namedZone c] ∨
    (zoneAdd c s).1.result = .tableFull ∧ (zoneAdd c s).2.grid.zones = s.grid.zones := by
  rw [zoneAdd_good hrun h, if_neg (by simp [hused])]
  cases hadd : addZone (namedZone c) s with
  | some t => exact .inl ⟨rfl, addZone_zones hadd⟩
  | none => exact .inr ⟨rfl, (congrArg Grid.zones (zoneTableFull_grid s) :)⟩

section

variable {s : State} (hrun : gridRuns s = true) {c : GridCmd} {z : Zone} {d : TableDesc} (hd : zoneTable s = some d)
  (hz : s.grid.zones.find? (fun z => z.id == leAt c.body 2 2) = some z)

include hrun hd hz

theorem zoneDel_eq : zoneDel c s =
    if zoneInUse s z.level z.prefix_.toNat = true then refuse s .zoneInUse
    else ({}, { deleteWritten d (zoneEntry z).key s with grid.zones := s.grid.zones.filter fun x => x.id != z.id }) := by
  refine (gridIn_runs hrun _).trans ?_
  dsimp only
  rw [hd, hz]
  rfl

theorem zoneDel_used (h : zoneInUse s z.level z.prefix_.toNat = true) : zoneDel c s = refuse s .zoneInUse :=
  (zoneDel_eq hrun hd hz).trans (if_pos h)

/-- A zone deleted leaves the list, and every other stays. -/
theorem zoneDel_free (h : zoneInUse s z.level z.prefix_.toNat = false) : (zoneDel c s).1.result = .done ∧
    ∀ x, x ∈ (zoneDel c s).2.grid.zones ↔ x ∈ s.grid.zones ∧ x.id ≠ leAt c.body 2 2 := by
  have hid : z.id = leAt c.body 2 2 := by simpa using List.find?_some hz
  rw [zoneDel_eq hrun hd hz, if_neg (by simp [h])]
  exact ⟨rfl, fun x => by simp [hid]⟩

end

/-! ### The origin (R243, R244) -/

section

variable {s : State} (o : Option Ecef)

theorem originTo_refused (h : originMode s = false) : originTo o s = (gridRes .mode, s) := gridIn_refused (.inr h) _

variable (hrun : gridRuns s = true) (hmode : originMode s = true)

include hrun hmode

theorem originTo_used (h : liveAllots s ≠ []) : originTo o s = refuse s .inUse := by
  rw [originTo, hmode, gridIn_runs hrun, if_pos h]

theorem originTo_free (h : liveAllots s = []) : originTo o s = ({}, clearOcc { s with grid.origin := o }) := by
  rw [originTo, hmode, gridIn_runs hrun, if_neg (not_not_intro h)]

end

/-- A new origin leaves no occupancy. -/
theorem entries_clearOcc {s : State} {i : Inst} (hi : i ∈ (clearOcc s).lode.insts)
    (hocc : (tableDesc s i.table).map TableDesc.content = some .occ) : i.entries = [] := by
  obtain ⟨j, -, rfl⟩ := List.mem_map.mp hi
  split
  · rfl
  · next h =>
    rw [if_neg h] at hocc
    exact absurd hocc h

/-! ### RESUME (R272) -/

theorem gridMach_congr {s t : State} (h : t.grid.machs = s.grid.machs) (m : Nat) : gridMach t m = gridMach s m := by
  rw [gridMach, gridMach, h]

theorem gridMach_setGridMach_same (m : Nat) (f : GridMach → GridMach) (s : State) : gridMach (setGridMach m f s) m = f (gridMach s m) := by
  simp [gridMach, setGridMach, kmod]

section

variable {s : State} (hrun : gridRuns s = true) {c : GridCmd} {m : Nat} (hm : byteAt c.body 1 = m) (hmax : m ≤ 127)

include hrun hm hmax

theorem resume_failing (h : machAllots s m ≠ []) (hfails : marginFails s m = true ∨ positionFails s m = true) :
    resume c s = refuse s .notClear := by
  subst hm
  exact (gridIn_runs hrun _).trans ((if_neg (by omega)).trans (if_pos ⟨h, hfails⟩))

theorem resume_idle (h : machAllots s m = []) :
    resume c s = ({}, setGridMach m (fun g => { g with annealMargin := false, annealOutside := false }) s) := by
  subst hm
  exact (gridIn_runs hrun _).trans ((if_neg (by omega)).trans (if_neg fun hlive => hlive.1 h))

end

theorem resume_leaves (c : GridCmd) (s : State) : (resume c s).2.lode = s.lode ∧ (resume c s).2.grid.allots = s.grid.allots := by
  unfold resume gridIn
  dsimp only
  split
  · exact ⟨rfl, rfl⟩
  · split
    · exact ⟨rfl, rfl⟩
    · split
      · exact ⟨rfl, rfl⟩
      · exact ⟨rfl, rfl⟩

/-! ### The commands of O27 -/

/-- The register path of the grid: BUSY, the intake, and MODE. -/
theorem grid_command_path (s : State) (who : Master) (body rec : Bytes) (c : CmdSrc → Instr) (hrun : Running s)
    (hc : c = (fun q => .trackLoad q rec) ∨ c = .trackDrop ∨ c = .allot ∨ c = .release ∨ c = .releaseMach ∨ c = .zoneAdd ∨ c = .zoneDel ∨
      c = .resume ∨ c = .originSet ∨ c = .originClear) :
    (underTest s .allocator = true → s.grid.cmdBusy = true ∨ 8 ≤ s.grid.intake.length →
      After (c (.regs who body)) s fun t => t.grid = { s.grid with cmdResult := .busy, cmdBlocker := 0xFF } ∧ t.lode = s.lode ∧ regBit t 0x060060 1 = true) ∧
    (underTest s .allocator = true → s.grid.cmdBusy = false → s.grid.intake.length < 8 →
      After (c (.regs who body)) s fun t => t.grid.cmdBusy = true ∧ t.grid.allots = s.grid.allots ∧ t.grid.intake.length = s.grid.intake.length + 1 ∧
        (∃ x ∈ t.grid.intake, x.master = who ∧ x.queue = none ∧ x.at_ = s.clk) ∧ t = { s with grid := t.grid }) ∧
    ((s.sys.mode = .servitor ∨ s.sys.mode = .reserve ∨ s.sys.mode = .yielded) → GridIdle s → s.parison.waiting = [] →
      After (c (.regs who body)) s fun t =>
        t.grid.cmdResult = .mode ∧ t.grid.cmdBusy = false ∧ t.grid.intake = [] ∧ t.grid.tracks = s.grid.tracks ∧ t.grid.zones = s.grid.zones ∧
        t.grid.origin = s.grid.origin ∧ t.lode = s.lode ∧ regBit t 0x060060 1 = true) := by
  obtain ⟨op, f, hexec, hop, hrefuses⟩ := exists_gridOp hc
  refine ⟨fun htest hbusy => ?busy, fun htest hfree hroom => ?joins, fun hmode hidle hwait => ?mode⟩
  case busy =>
    refine after_gridBus_beside (hexec ..) hrun fun t ht => ?_
    rw [gridCmd_tested_busy htest hbusy] at ht
    exact ⟨(grid_of_beside ht).trans (raise_grid ..), (lode_of_beside ht).trans (raise_lode ..),
      (regBit_of_beside ht ..).trans (regBit_raise_same _ (b := bGRID) (by decide) (by decide))⟩
  case joins =>
    refine ⟨_, exec_gridBus (hexec ..) hrun (gridCmd_tested_joins htest hfree hroom ..) rfl, rfl, rfl, length_joinIntake .., ?_, rfl⟩
    exact ⟨_, mem_joinIntake .., rfl, rfl, rfl⟩
  case mode =>
    have hoff : gridRuns s = false ∧ gridOn s = true := by
      obtain hm | hm | hm := hmode
      all_goals simp [gridRuns, gridOn, hm]
    refine after_gridCmd (hexec ..) hidle hop hoff.2 fun t ht => ?_
    have hwork := hrefuses (asked who op body s) (atHead (asked who op body s) s) hoff.1 hwait
    exact ⟨ht.result_eq.trans hwork.result, ht.idle, by rw [ht.intake_eq, hwork.intake]; rfl, ht.tracks_eq.trans hwork.tracks,
      ht.zones_eq.trans hwork.zones, ht.origin_eq.trans hwork.origin, ht.lode.trans hwork.lode, ht.flag_refused (by simp [hwork.result])⟩

/-- ORIGIN_SET and ORIGIN_CLEAR, by the origin that they set. -/
theorem after_origin {i : Instr} {s : State} {op : Nat} {who : Master} {body : Bytes} {f : GridCmd → State → GridRun} {o : Option Ecef}
    (hi : exec i s = .next (gridBus s (gridCmd op (.regs who body) f))) (hop : op < 256) (hf : ∀ c, f c (atHead c s) = originTo o (atHead c s))
    (h : GridFree s) : After i s fun t =>
      (originMode s = false → t.grid.cmdResult = .mode ∧ t.grid.origin = s.grid.origin) ∧
      (originMode s = true → liveAllots s ≠ [] → t.grid.cmdResult = .inUse ∧ t.grid.origin = s.grid.origin ∧ t.lode = s.lode) ∧
      (originMode s = true → liveAllots s = [] → t.grid.cmdResult = .done ∧ t.grid.origin = o ∧ t.grid.allots = s.grid.allots ∧
        ∀ i ∈ t.lode.insts, (tableDesc s i.table).map TableDesc.content = some .occ → i.entries = []) := by
  obtain ⟨hidle, hrun⟩ := h
  refine after_gridCmd hi hidle hop (gridOn_of_gridRuns hrun) fun t ht => ?_
  rw [hf] at ht
  generalize asked who op body s = c at ht
  have hrun' : gridRuns (atHead c s) = true := hrun
  refine ⟨fun hmode => ?_, fun hmode hlive => ?_, fun hmode hnone => ?_⟩
  · rw [originTo_refused (s := atHead c s) o hmode] at ht
    exact ⟨ht.result_eq, ht.origin_eq⟩
  · rw [originTo_used o hrun' hmode hlive] at ht
    exact ⟨ht.result_eq, ht.origin_eq, ht.lode⟩
  · rw [originTo_free o hrun' hmode hnone] at ht
    refine ⟨ht.result_eq, ht.origin_eq, ht.allots_eq, fun i hi hocc => ?_⟩
    rw [ht.lode] at hi
    exact entries_clearOcc hi hocc

end Sys2Proof.Machine

open Sys2Proof Sys2Proof.Machine

/-- Settles O27: a command joins the intake or is busy; one that runs there is its own work, taken case by case. -/
theorem gridCommands : Obligations.GridCommands := by
  refine ⟨grid_command_path, fun s who body rec ⟨hidle, hrun⟩ hlen => ⟨fun hmax => ?load, ?drop, fun z hz => ?add, fun z d hd hz => ?del,
    fun c o hc => ?origin, fun hmax => ?resume⟩⟩
  all_goals
    have hon := gridOn_of_gridRuns hrun
    have hruns (c : GridCmd) : gridRuns (atHead c s) = true := hrun
  case load =>
    refine after_gridCmd (f := trackLoad rec) rfl hidle (by decide) hon fun t ht => ?_
    have hk := leAt_asked hlen (ofs := 2) (by decide) who 1 s 2
    generalize asked who 1 body s = c at ht hk
    obtain ⟨hlode, hallots⟩ := trackLoad_leaves rec c (atHead c s)
    refine ⟨ht.lode.trans hlode, ht.allots_eq.trans hallots, ht.idle, fun hused => ?_, fun r hfree hr => ?_, fun hfree hr => ?_⟩
    · rw [trackLoad_used (hruns c) rec hk hmax hused] at ht
      exact ⟨ht.result_eq, ht.tracks_eq⟩
    · rw [trackLoad_bad (hruns c) rec hk hmax hfree hr] at ht
      exact ⟨ht.result_eq, ht.tracks_eq⟩
    · rw [trackLoad_good (hruns c) rec hk hmax hfree hr] at ht
      rw [ht.tracks_eq]
      exact ⟨ht.result_eq, ht.flag_done rfl, kget_kset_same .., fun j hj => kget_kset_other _ _ _ hj⟩
  case drop =>
    refine after_gridCmd (f := trackDrop) rfl hidle (by decide) hon fun t ht => ?_
    have hk := leAt_asked hlen (ofs := 2) (by decide) who 2 s 2
    generalize asked who 2 body s = c at ht hk
    obtain ⟨hlode, hallots⟩ := trackDrop_leaves c (atHead c s)
    refine ⟨ht.lode.trans hlode, ht.allots_eq.trans hallots, fun hnone => ?_, fun hsome hused => ?_, fun hsome hfree => ?_⟩
    · rw [trackDrop_missing (hruns c) hk hnone] at ht
      exact ⟨ht.result_eq, ht.tracks_eq⟩
    · rw [trackDrop_used (hruns c) hk hsome hused] at ht
      exact ⟨ht.result_eq, ht.tracks_eq⟩
    · rw [trackDrop_free (hruns c) hk hsome hfree] at ht
      rw [ht.tracks_eq]
      exact ⟨ht.result_eq, kget_kdel_same ..⟩
  case add =>
    refine after_gridCmd (f := zoneAdd) rfl hidle (by decide) hon fun t ht => ?_
    have hnamed : namedZone (asked who 6 body s) = z := by
      simp only [namedZone, byteAt_asked hlen (show 1 ≤ 4 by decide), byteAt_asked hlen (show 1 ≤ 5 by decide),
        leAt_asked hlen (show 1 ≤ 2 by decide), leAt_asked hlen (show 1 ≤ 0x0C by decide), leAt_asked hlen (show 1 ≤ 0x20 by decide), hz]
    generalize asked who 6 body s = c at ht hnamed
    subst hnamed
    refine ⟨fun r hr => ?_, fun hgood hused => ?_, fun hgood hfree => ?_⟩
    · rw [zoneAdd_bad (hruns c) hr] at ht
      exact ⟨ht.result_eq, ht.zones_eq, ht.lode⟩
    · rw [zoneAdd_used (hruns c) hgood hused] at ht
      exact ⟨ht.result_eq, ht.zones_eq, ht.lode⟩
    · rw [ht.result_eq, ht.zones_eq]
      exact zoneAdd_outcome (hruns c) hgood hfree
  case del =>
    refine after_gridCmd (f := zoneDel) rfl hidle (by decide) hon fun t ht => ?_
    have hk := leAt_asked hlen (ofs := 2) (by decide) who 7 s 2
    generalize asked who 7 body s = c at ht hk
    rw [← hk] at hz ⊢
    refine ⟨fun hused => ?_, fun hfree => ?_⟩
    · rw [zoneDel_used (hruns c) hd hz hused] at ht
      exact ⟨ht.result_eq, ht.zones_eq, ht.lode⟩
    · rw [ht.result_eq, ht.zones_eq]
      exact zoneDel_free (hruns c) hd hz hfree
  case origin =>
    obtain ⟨rfl, rfl⟩ | ⟨rfl, rfl⟩ := hc
    · exact after_origin rfl (by decide) (fun _ => rfl) ⟨hidle, hrun⟩
    · exact after_origin rfl (by decide) (fun _ => rfl) ⟨hidle, hrun⟩
  case resume =>
    refine after_gridCmd (f := resume) rfl hidle (by decide) hon fun t ht => ?_
    have hm := byteAt_asked hlen (ofs := 1) (by decide) who 8 s
    generalize asked who 8 body s = c at ht hm
    obtain ⟨hlode, hallots⟩ := resume_leaves c (atHead c s)
    refine ⟨ht.lode.trans hlode, ht.allots_eq.trans hallots, fun hlive hfails => ?_, fun hnone => ?_⟩
    · rw [resume_failing (hruns c) hm hmax hlive hfails] at ht
      exact ⟨ht.result_eq, ht.machs_eq⟩
    · rw [resume_idle (hruns c) hm hmax hnone] at ht
      rw [gridMach_congr ht.machs_eq, gridMach_setGridMach_same]
      exact ⟨ht.result_eq, rfl, rfl⟩

end

section
/-! ALLOT (08_field_grid.md R252 to R257, R262): what stands against it, the sweep, and the record that it leaves. -/

namespace Sys2Proof.Machine

open Sys2Proof

/-! ### What a batch leaves of the part beside the tables (R221, R223, R257) -/

/-- The part beside the tables of Lode, the counters, the registers and the count of free values. -/
def besideTables (s : State) : State := { s with lode := {}, counts := [], regs := [], fresh := 0 }

section

variable {s t : State} (h : besideTables t = besideTables s)

include h

theorem grid_of_besideTables : t.grid = s.grid := (congrArg State.grid h :)

theorem parts_of_besideTables : t.sys = s.sys ∧ t.setpt = s.setpt ∧ t.quench = s.quench :=
  ⟨(congrArg State.sys h :), (congrArg State.setpt h :), (congrArg State.quench h :)⟩

end

theorem besideTables_commitWrite (w : HeldWrite) (x : Inst × Bool) (s : State) : besideTables (commitWrite w x s) = besideTables s := by
  unfold commitWrite commitInst
  dsimp only
  split
  · rfl
  · split
    · rfl
    · rfl

theorem besideTables_writeEntry {d : TableDesc} {e : LodeEntry} {s t : State} (h : writeEntry d e s = some t) :
    besideTables t = besideTables s := by
  unfold writeEntry at h
  split at h
  · cases h
  · next l _ =>
    obtain rfl := Option.some.inj h
    exact foldl_keep besideTables (fun u x => besideTables_commitWrite _ x u) l (drawn64 s)

theorem besideTables_deleteWritten (d : TableDesc) (k : LodeKey) (s : State) : besideTables (deleteWritten d k s) = besideTables s := rfl

theorem besideTables_runItems {l : List BatchItem} {s t : State} (h : runItems l s = some t) : besideTables t = besideTables s := by
  induction l generalizing s with
  | nil => rw [← Option.some.inj h]
  | cons x l ih =>
    cases x with
    | write k e =>
      unfold runItems at h
      split at h
      · split at h
        · next u hu => exact (ih h).trans (besideTables_writeEntry hu)
        · cases h
      · cases h
    | delete k e =>
      unfold runItems at h
      split at h
      · exact (ih h).trans (besideTables_deleteWritten ..)
      · exact ih h

theorem besideTables_runBatch {l : List BatchItem} {s t : State} (h : runBatch l s = some t) : besideTables t = besideTables s := by
  unfold runBatch at h
  split at h
  · cases h
  · exact besideTables_runItems h

theorem besideTables_commitCells {v : ResvInterval} {cells : List Cell} {s t : State} (h : commitCells v cells s = some t) :
    besideTables t = besideTables s := by
  unfold commitCells at h
  split at h
  · cases h
  · exact besideTables_runBatch h

theorem besideTables_tableFull (d : TableDesc) (s : State) : besideTables (tableFull d s) = besideTables s := by
  unfold tableFull
  rw [raise_eq_withRegs]
  exact foldl_keep besideTables (f := fun u (i : Inst) => bumpLode i.pipe 12 u) (fun _ _ => rfl) (instsOf s d.id) s

theorem besideTables_resvTableFull (s : State) : besideTables (resvTableFull s) = besideTables s := by
  unfold resvTableFull
  split
  · exact besideTables_tableFull ..
  · rfl

/-! ### Bytes of a body (R4) -/

theorem leNat_lt (bs : Bytes) : leNat bs < 256 ^ bs.length := by
  induction bs with
  | nil => simp [leNat]
  | cons b bs ih =>
    have hb : b.toNat < 256 := b.isLt
    rw [leNat, List.length_cons, Nat.pow_succ]
    omega

theorem leAt_lt (bs : Bytes) (ofs n : Nat) : leAt bs ofs n < 256 ^ n := by
  simpa [leAt, bytesAt_length] using leNat_lt (bytesAt bs ofs n)

/-- Eight bytes of a body as a time. -/
theorem toNat_leAt_eight (bs : Bytes) (ofs : Nat) : (BitVec.ofNat 64 (leAt bs ofs 8)).toNat = leAt bs ofs 8 := by
  have hlt : leAt bs ofs 8 < 2 ^ 64 := leAt_lt bs ofs 8
  rw [BitVec.toNat_ofNat, Nat.mod_eq_of_lt hlt]

/-! ### Refusals (R252 to R256) -/

theorem taskFault_ne_done {s : State} {task mach index : Nat} {r : GridResult} (h : taskFault s task mach index = some r) : r ≠ .done := by
  unfold taskFault at h
  rintro rfl
  split at h
  · split at h
    · cases h
    · split at h <;> cases h
  · split at h <;> cases h

theorem allotFault_ne_done {s : State} {c : GridCmd} {r : GridResult} (h : allotFault s c = some r) : r ≠ .done := by
  unfold allotFault at h
  dsimp only at h
  split at h
  · cases h; decide
  · split at h
    · cases h; decide
    · split at h
      · next htask =>
        obtain rfl := Option.some.inj h
        exact taskFault_ne_done htask
      · split at h
        · cases h; decide
        · split at h
          · cases h; decide
          · split at h
            · cases h; decide
            · split at h
              · cases h; decide
              · cases h

theorem cellFails_ne_done {s : State} {q : AllotAsk} {c : Cell} {r : GridResult × Nat} (h : cellFails s q c = some r) : r.1 ≠ .done := by
  unfold cellFails at h
  dsimp only at h
  split at h
  · cases h; simp
  · split at h
    · cases h; simp
    · split at h
      · cases h; simp
      · split at h
        · cases h; simp
        · split at h
          · split at h
            · cases h; simp
            · cases h
          · cases h

theorem firstFail_eq_none_iff {s : State} {q : AllotAsk} {l : List Cell} : firstFail s q l = none ↔ ∀ c ∈ l, cellFails s q c = none := by
  simp [firstFail]

theorem firstFail_ne_done {s : State} {q : AllotAsk} {l : List Cell} {r : Cell × GridResult × Nat} (h : firstFail s q l = some r) :
    r.2.1 ≠ .done := by
  obtain ⟨c, -, hc⟩ := List.exists_of_findSome?_eq_some h
  obtain ⟨x, hx, rfl⟩ := Option.map_eq_some_iff.mp hc
  exact cellFails_ne_done hx

theorem sweepFault_ne_done {s : State} {cold : Bool} {q : AllotAsk} {v : Nat} {l : List (Int × Int)} {e : GridEnd}
    (h : sweepFault s cold q v l = some e) : e.result ≠ .done := by
  unfold sweepFault at h
  dsimp only at h
  split at h
  · cases h; simp
  · split at h
    · cases h; simp
    · split at h
      · cases h; simp
      · obtain ⟨r, hr, rfl⟩ := Option.map_eq_some_iff.mp h
        exact firstFail_ne_done hr

/-- A sweep that is not refused is small enough, and each of its cells passes every check. -/
theorem cells_of_sweepFault {s : State} {cold : Bool} {q : AllotAsk} {v : Nat} {l : List (Int × Int)} (h : sweepFault s cold q v l = none) :
    l.length ≤ 6144 ∧ ∀ x ∈ l.map (toCell v), cellFails s q x = none := by
  unfold sweepFault at h
  dsimp only at h
  split at h
  · cases h
  · next hsize =>
    split at h
    · cases h
    · split at h
      · cases h
      · exact ⟨Nat.le_of_not_lt hsize, firstFail_eq_none_iff.mp (Option.map_eq_none_iff.mp h)⟩

/-! ### The sweep (R255 to R257, R262) -/

/-- What an ALLOT asks of each of its cells. -/
def allotAsk (c : GridCmd) : AllotAsk :=
  { mach := byteAt c.body 1, op := byteAt c.body 5, partner := byteAt c.body 6, start := leAt c.body 0x10 8, stop := leAt c.body 0x18 8 }

/-- A new record holds what an ALLOT asked, over cells that passed every check. -/
structure Grants (s : State) (c : GridCmd) (a : Allot) : Prop where
  mach : a.mach = byteAt c.body 1
  op : a.op = byteAt c.body 5
  start : a.start = BitVec.ofNat 64 (leAt c.body 0x10 8)
  stop : a.end_ = BitVec.ofNat 64 (leAt c.body 0x18 8)
  margin : a.margin = marginOf s (byteAt c.body 1) (leAt c.body 0x0A 2)
  size : a.cells.length ≤ 6144
  checked : ∀ x ∈ a.cells, cellFails s (allotAsk c) x = none

/-- What a sweep comes to: a record granted, or a refusal that leaves the grid. -/
structure Swept (s : State) (c : GridCmd) (r : GridRun) : Prop where
  intake : r.2.grid.intake = s.grid.intake
  done : r.1.result = .done → ∃ a, r.2.grid.allots = s.grid.allots ++ [a] ∧ BitVec.ofNat 16 r.1.allotId = a.id ∧ Grants s c a
  refused : r.1.result ≠ .done → r.2.grid.allots = s.grid.allots

theorem swept_of_refusal {s : State} {c : GridCmd} {r : GridRun} (hr : r.1.result ≠ .done) (h : r.2.grid = s.grid) : Swept s c r :=
  ⟨congrArg Grid.intake h, fun hd => absurd hd hr, fun _ => congrArg Grid.allots h⟩

theorem swept_allotSweep (c : GridCmd) (track : List Vertex) (s : State) : Swept s c (allotSweep c track s) := by
  unfold allotSweep
  dsimp only
  split
  · next hfault => exact swept_of_refusal (sweepFault_ne_done hfault) rfl
  · next hfault =>
    obtain ⟨hsize, hcells⟩ := cells_of_sweepFault hfault
    split
    · exact swept_of_refusal (by simp) (grid_of_besideTables (besideTables_resvTableFull s))
    · next t ht =>
      have hgrid := grid_of_besideTables (besideTables_commitCells ht)
      exact ⟨(congrArg Grid.intake hgrid :), fun _ => ⟨_, congrArg (· ++ [_]) (congrArg Grid.allots hgrid), rfl,
        ⟨rfl, rfl, rfl, rfl, rfl, by simpa using hsize, hcells⟩⟩, fun h => absurd rfl h⟩

theorem swept_allotChecked (c : GridCmd) (s : State) : Swept s c (allotChecked c s) := by
  unfold allotChecked
  split
  · next r hr => exact swept_of_refusal (allotFault_ne_done hr) rfl
  · exact swept_allotSweep ..

theorem swept_gridIn {s : State} {c : GridCmd} {f : State → GridRun} (h : Swept s c (f s)) (ok : Bool) : Swept s c (gridIn s ok f) := by
  unfold gridIn
  split
  · exact swept_of_refusal (by simp [gridRes]) rfl
  · exact h

/-- What an ALLOT comes to, it reports. -/
theorem swept_allot (c : GridCmd) (s : State) : Swept s c (allot c s) :=
  have h := swept_gridIn (swept_allotChecked c s) (allotMode s)
  ⟨h.intake, h.done, h.refused⟩

theorem report_allot (c : GridCmd) (s : State) : (allot c s).2.grid.report.result = (allot c s).1.result ∧
    (allot c s).2.grid.report.allotId = BitVec.ofNat 16 (allot c s).1.allotId := ⟨rfl, rfl⟩

theorem allot_faulted {s : State} {c : GridCmd} (hrun : gridRuns s = true) (hmode : allotMode s = true) {r : GridResult}
    (h : allotFault s c = some r) : allot c s = allotReported c s (refuse s r) := by
  rw [allot_eq, hmode, gridIn_runs hrun, allotChecked, h]

theorem allotMode_eq_false {s : State} (hf : s.sys.mode ≠ .field) (hh : s.sys.mode ≠ .holdover) : allotMode s = false := by
  simp [allotMode, hf, hh]

/-! ### Allotments that have not ended (R262, R253) -/

/-- With every allotment live and every task backed by one, none expires. -/
theorem expireAllots_live {s : State} (hlive : ∀ a ∈ s.grid.allots, liveAllot s a = true)
    (htasks : ∀ x ∈ s.grid.tasks, ∃ a ∈ s.grid.allots, a.task = x.1) : expireAllots s = s := by
  have hallots : s.grid.allots.filter (fun a => !!liveAllot s a) = s.grid.allots := List.filter_eq_self.mpr fun a ha => by simp [hlive a ha]
  have hbacked : s.grid.tasks.filter (fun t => s.grid.allots.any fun a => a.task == t.1) = s.grid.tasks :=
    List.filter_eq_self.mpr fun x hx => by simpa using htasks x hx
  unfold expireAllots dropRecords settleTasks
  dsimp only
  rw [hallots, hbacked]

end Sys2Proof.Machine

open Sys2Proof Sys2Proof.Machine

/-- Settles O28: the sweep is past every refusal, and its cells are those that each check has passed. -/
theorem allotGrantsCheckedCellsOnly : Obligations.AllotGrantsCheckedCellsOnly := by
  rintro s who body c ⟨hidle, hrun⟩ hwait hlen hop hc hlive htasks
  refine after_gridCmd (f := fun c s => allot c (expireAllots (gridEffect s))) rfl hidle (by decide) (gridOn_of_gridRuns hrun) fun t ht => ?_
  have hstate : expireAllots (gridEffect (atHead c s)) = atHead c s := by
    rw [gridEffect_none (s := atHead c s) hwait]
    exact expireAllots_live hlive htasks
  have hbody : c.body = body := congrArg GridCmd.body hc
  rw [asked_of_op hlen hop, ← hc, hstate] at ht
  subst hbody
  have hrun' : gridRuns (atHead c s) = true := hrun
  have hswept := swept_allot c (atHead c s)
  obtain ⟨hresult, hid⟩ := report_allot c (atHead c s)
  refine ⟨by rw [ht.intake_eq, hswept.intake]; rfl, ht.idle, by rw [ht.report_eq, ht.result_eq, hresult], fun hf hh => ?mode,
    fun r hmode hr => ?fault, fun hdone => ?done, fun hrefused => ?refused⟩
  case mode =>
    rw [allot_refused (s := atHead c s) (.inr (allotMode_eq_false hf hh))] at ht
    exact ⟨ht.result_eq, ht.allots_eq, ht.lode⟩
  case fault =>
    rw [allot_faulted hrun' hmode (r := r) hr] at ht
    exact ⟨ht.result_eq, ht.allots_eq, ht.lode⟩
  case done =>
    rw [ht.result_eq] at hdone
    obtain ⟨a, hallots, hrecord, hgrants⟩ := hswept.done hdone
    have hstart : a.start.toNat = leAt c.body 0x10 8 := by rw [hgrants.start, toNat_leAt_eight]
    have hstop : a.end_.toNat = leAt c.body 0x18 8 := by rw [hgrants.stop, toNat_leAt_eight]
    have hmargin : a.margin = max (leAt c.body 0x0A 2) (gridMach s a.mach).hpl := by rw [hgrants.margin, hgrants.mach]; rfl
    refine ⟨a, ht.allots_eq.trans hallots, hgrants.mach, hgrants.op, hstart, hstop, hmargin ▸ le_max_right .., hmargin ▸ le_max_left ..,
      hgrants.size, by rw [ht.report_eq, hid, hrecord], fun x hx => ?_⟩
    rw [hgrants.mach, hgrants.op, hstart, hstop]
    exact hgrants.checked x hx
  case refused =>
    rw [ht.result_eq] at hrefused
    exact ht.allots_eq.trans (hswept.refused hrefused)

end

section
/-! The end of allotments (08_field_grid.md R262 to R266, R270): by command, by their END, with a machine that stops reporting, and what
a machine quench leaves. -/

namespace Sys2Proof.Machine

open Sys2Proof

/-! ### RELEASE and RELEASE_MACH (R266) -/

theorem besideTables_clearCells (d : TableDesc) (id : BitVec 16) (l : List Cell) (s : State) :
    besideTables (clearCells d id l s) = besideTables s := by
  unfold clearCells
  dsimp only
  generalize hrun : runBatch _ s = r
  cases r with
  | none => rfl
  | some t => exact besideTables_runBatch hrun

theorem besideTables_clearChunks (d : TableDesc) (id : BitVec 16) (n : Nat) (l : List Cell) (s : State) :
    besideTables (clearChunks d id n l s) = besideTables s := by
  induction n generalizing l s with
  | zero => rfl
  | succ n ih =>
    rw [clearChunks]
    split
    · rfl
    · rw [ih, besideTables_clearCells]

theorem besideTables_clearAllot (a : Allot) (s : State) : besideTables (clearAllot a s) = besideTables s := by
  unfold clearAllot
  split
  · rfl
  · exact besideTables_clearChunks ..

theorem mem_dropRecords {p : Allot → Bool} {s : State} {a : Allot} :
    a ∈ (dropRecords p s).grid.allots ↔ a ∈ s.grid.allots ∧ p a = false := by simp [dropRecords, settleTasks]

theorem mem_endAllots {p : Allot → Bool} {s : State} {a : Allot} :
    a ∈ (endAllots p s).grid.allots ↔ a ∈ s.grid.allots ∧ p a = false := by
  have hcleared := grid_of_besideTables (foldl_keep besideTables (fun u x => besideTables_clearAllot x u) (s.grid.allots.filter p) s)
  rw [endAllots, mem_dropRecords, hcleared]

section

variable {s : State} (hrun : gridRuns s = true) {c : GridCmd}

include hrun

theorem release_eq {k : Nat} (hk : leAt c.body 2 2 = k) : release c s =
    if (liveAllots s).any (fun a => a.id.toNat == k) = true then ({ allotId := k }, endAllots (fun a => a.id.toNat == k) s)
    else refuse s .notFound := by
  subst hk
  exact gridIn_runs hrun _

theorem release_missing {k : Nat} (hk : leAt c.body 2 2 = k) (h : ∀ a ∈ liveAllots s, a.id.toNat ≠ k) : release c s = refuse s .notFound :=
  (release_eq hrun hk).trans (if_neg (by simpa using h))

theorem release_found {k : Nat} (hk : leAt c.body 2 2 = k) (h : ∃ a ∈ liveAllots s, a.id.toNat = k) :
    release c s = ({ allotId := k }, endAllots (fun a => a.id.toNat == k) s) :=
  (release_eq hrun hk).trans (if_pos (by simpa using h))

theorem releaseMach_eq {m : Nat} (hm : byteAt c.body 1 = m) (hmax : m ≤ 127) : releaseMach c s = ({}, endAllots (fun a => a.mach == m) s) := by
  subst hm
  exact (gridIn_runs hrun _).trans (if_neg (by omega))

end

theorem release_command (s : State) (who : Master) (body : Bytes) (h : GridFree s) (hlen : body.length = 48) :
    After (.release (.regs who body)) s fun t =>
      ((∀ a ∈ liveAllots s, a.id.toNat ≠ leAt body 2 2) → t.grid.cmdResult = .notFound ∧ t.grid.allots = s.grid.allots ∧ t.lode = s.lode) ∧
      ((∃ a ∈ liveAllots s, a.id.toNat = leAt body 2 2) → t.grid.cmdResult = .done ∧ ∀ a, a ∈ t.grid.allots ↔ a ∈ s.grid.allots ∧ a.id.toNat ≠ leAt body 2 2) := by
  obtain ⟨hidle, hrun⟩ := h
  refine after_gridCmd (f := release) rfl hidle (by decide) (gridOn_of_gridRuns hrun) fun t ht => ?_
  have hk := leAt_asked hlen (ofs := 2) (by decide) who 4 s 2
  generalize asked who 4 body s = c at ht hk
  have hrun' : gridRuns (atHead c s) = true := hrun
  refine ⟨fun hnone => ?_, fun hlive => ?_⟩
  · rw [release_missing hrun' hk hnone] at ht
    exact ⟨ht.result_eq, ht.allots_eq, ht.lode⟩
  · rw [release_found hrun' hk hlive] at ht
    refine ⟨ht.result_eq, fun a => ?_⟩
    rw [ht.allots_eq, mem_endAllots]
    simp [atHead]

theorem releaseMach_command (s : State) (who : Master) (body : Bytes) (h : GridFree s) (hlen : body.length = 48) (hmax : byteAt body 1 ≤ 127) :
    After (.releaseMach (.regs who body)) s fun t =>
      t.grid.cmdResult = .done ∧ ∀ a, a ∈ t.grid.allots ↔ a ∈ s.grid.allots ∧ a.mach ≠ byteAt body 1 := by
  obtain ⟨hidle, hrun⟩ := h
  refine after_gridCmd (f := releaseMach) rfl hidle (by decide) (gridOn_of_gridRuns hrun) fun t ht => ?_
  have hm := byteAt_asked hlen (ofs := 1) (by decide) who 5 s
  generalize asked who 5 body s = c at ht hm
  have hrun' : gridRuns (atHead c s) = true := hrun
  rw [releaseMach_eq hrun' hm hmax] at ht
  refine ⟨ht.result_eq, fun a => ?_⟩
  rw [ht.allots_eq, mem_endAllots]
  simp [atHead]

/-! ### What a machine quench leaves (R365, R372) -/

/-- The part beside the switch, the radio, the counters and the registers. -/
def besideFrames (s : State) : State := { s with switch := {}, radio := {}, counts := [], regs := [] }

theorem parts_of_besideFrames {s t : State} (h : besideFrames t = besideFrames s) :
    t.clk = s.clk ∧ t.sys = s.sys ∧ t.lode = s.lode ∧ t.grid = s.grid ∧ t.setpt = s.setpt ∧ t.quench = s.quench :=
  ⟨(congrArg State.clk h :), (congrArg State.sys h :), (congrArg State.lode h :), (congrArg State.grid h :), (congrArg State.setpt h :),
    (congrArg State.quench h :)⟩

theorem besideFrames_raise (b i : Nat) (s : State) : besideFrames (raise b i s) = besideFrames s := by rw [raise_eq_withRegs]; rfl

theorem besideFrames_refuseCopy (k cause : Nat) (s : State) : besideFrames (refuseCopy k cause s) = besideFrames s := by
  rw [refuseCopy, besideFrames_raise]
  rfl

theorem besideFrames_countNoBuffer (p r : Nat) (f : QFrame) (s : State) : besideFrames (countNoBuffer p r f s) = besideFrames s := by
  unfold countNoBuffer
  split
  · rfl
  · rfl

theorem besideFrames_lowerSlack (p cost : Nat) (s : State) (j : Nat) : besideFrames (lowerSlack p cost s j) = besideFrames s := by
  unfold lowerSlack
  split
  · rfl
  · rfl

theorem besideFrames_cutWire (p : Nat) (s : State) : besideFrames (cutWire p s) = besideFrames s := by
  unfold cutWire
  split
  · split
    · rfl
    · rfl
  · rfl

theorem besideFrames_withPause (f : State → State) (s : State) : besideFrames (withPause f s) = besideFrames (f s) :=
  withPause_keep besideFrames besideFrames_raise f s

theorem besideFrames_bumpQ (k e : Nat) (s : State) : besideFrames (bumpQ k e s) = besideFrames s := rfl

theorem besideFrames_setQ (k : Nat) (f : SwQueue → SwQueue) (s : State) : besideFrames (setQ k f s) = besideFrames s := rfl

theorem besideFrames_setPort (p : Nat) (f : SwPort → SwPort) (s : State) : besideFrames (setPort p f s) = besideFrames s := rfl

theorem besideFrames_swAbove (k : Nat) (s : State) : besideFrames (swAbove k s) = besideFrames s := rfl

theorem besideFrames_enqueue (p q c : Nat) (f : QFrame) (s : State) : besideFrames (enqueue p q c f s) = besideFrames s := by
  obtain ⟨w, t, ht, he⟩ := enqueue_eq p q c f s
  have hplaced : besideFrames t = besideFrames s := by
    rw [ht, besideFrames_bumpQ, besideFrames_withPause, besideFrames_swAbove, besideFrames_setQ, besideFrames_setPort]
    exact foldl_keep besideFrames (fun u j => besideFrames_lowerSlack p _ u j) _ s
  rw [he]
  split
  · rw [besideFrames_cutWire, hplaced]
  · exact hplaced

theorem besideFrames_enqueueFrame (p q : Nat) (f : QFrame) (s : State) : besideFrames (enqueueFrame p q f s) = besideFrames s := by
  simp only [enqueueFrame, apply_ite besideFrames, besideFrames_enqueue, besideFrames_refuseCopy, besideFrames_countNoBuffer, ite_self]

theorem besideFrames_sendQuenchFrames (target rep qseq time : Nat) (s : State) :
    besideFrames (sendQuenchFrames target rep qseq time s) = besideFrames s := by
  have hkey : besideFrames (if s.radio.present ∧ (quenchKey s).isNone then useRefused s else s) = besideFrames s := by
    split
    · exact besideFrames_raise ..
    · rfl
  refine (foldl_keep besideFrames (fun u p => ?_) _ _).trans hkey
  split
  · split
    · exact besideFrames_enqueueFrame ..
    · rfl
  · rfl

theorem besideFrames_queueMachQuench (m qseq : Nat) (s : State) : besideFrames (queueMachQuench m qseq s) = besideFrames s := by
  refine foldl_keep besideFrames (fun u c => ?_) _ s
  split
  · rfl
  · rfl

/-- The quench block with a machine quenched. -/
def quenchedMach (m : Nat) (s : State) : Quench :=
  { s.quench with machq := s.quench.machq ||| BitVec.ofNat 128 (2 ^ m), count := s.quench.count + 1 }

/-- R372: a machine quench changes the quench block alone, beside the frames that tell of it. -/
theorem besideFrames_machineQuench (m : Nat) (s : State) : besideFrames (machineQuench m s) = besideFrames { s with quench := quenchedMach m s } := by
  unfold machineQuench
  dsimp only
  rw [besideFrames_sendQuenchFrames, besideFrames_queueMachQuench, besideFrames_raise]
  rfl

/-- What a machine quench leaves, and what it adds to the machines quenched. -/
theorem machineQuench_leaves (m : Nat) (s : State) : (machineQuench m s).clk = s.clk ∧ (machineQuench m s).sys = s.sys ∧
    (machineQuench m s).lode = s.lode ∧ (machineQuench m s).grid = s.grid ∧ (machineQuench m s).setpt = s.setpt ∧
    (machineQuench m s).quench.machq = s.quench.machq ||| BitVec.ofNat 128 (2 ^ m) := by
  obtain ⟨hclk, hsys, hlode, hgrid, hsetpt, hquench⟩ := parts_of_besideFrames (besideFrames_machineQuench m s)
  exact ⟨hclk, hsys, hlode, hgrid, hsetpt, by rw [hquench]; rfl⟩

theorem regBit_queueMachQuench (m qseq : Nat) (s : State) (off i : Nat) : regBit (queueMachQuench m qseq s) off i = regBit s off i := by
  refine foldl_keep (fun u => regBit u off i) (fun u c => ?_) _ s
  split
  · rfl
  · rfl

/-- A status bit that is set stays set as a machine is quenched. -/
theorem regBit_machineQuench {s : State} {off i : Nat} (m : Nat) (h : regBit s off i = true) : regBit (machineQuench m s) off i = true := by
  unfold machineQuench
  dsimp only
  refine (calm_sendQuenchFrames (.refl _) ..).regs.bits _ _ ?_
  rw [regBit_queueMachQuench]
  exact (regsStand_raise ..).bits _ _ h

/-! ### A machine that stops reporting (R264) -/

/-- A machine LAPSED, its records gone. -/
def machLapsed (m : Nat) (s : State) : State :=
  raise bGRID 3 (bumpGrid 6 (setGridMach m (fun g => { g with lapsed := true }) (dropRecords (fun a => a.mach == m) s)))

theorem machLapsed_grid (m : Nat) (s : State) :
    (machLapsed m s).grid = (setGridMach m (fun g => { g with lapsed := true }) (dropRecords (fun a => a.mach == m) s)).grid := raise_grid ..

theorem spMach_machLapsed (m : Nat) (s : State) (k : Nat) : spMach (machLapsed m s) k = spMach s k := by
  rw [spMach, machLapsed, raise_setpt]
  rfl

theorem lapse_still {m : Nat} {s : State} (h : (spMach s m).still = true) : lapse m s = machLapsed m s :=
  if_pos (by rw [← machLapsed, spMach_machLapsed, h])

theorem lapse_moving {m : Nat} {s : State} (h : (spMach s m).still = false) :
    lapse m s = machineQuench m (raise bGRID 6 (bumpGrid 5 (machLapsed m s))) :=
  if_neg (by rw [← machLapsed, spMach_machLapsed, h]; decide)

/-- What a lapse leaves beside the grid and the quench block, and the mark of it. -/
theorem lapse_leaves (m : Nat) (s : State) : (lapse m s).clk = s.clk ∧ (lapse m s).lode = s.lode ∧ (lapse m s).grid = (machLapsed m s).grid ∧
    regBit (lapse m s) 0x060060 3 = true := by
  have hlapsed : (machLapsed m s).clk = s.clk ∧ (machLapsed m s).lode = s.lode ∧ regBit (machLapsed m s) 0x060060 3 = true :=
    ⟨raise_clk .., raise_lode .., regBit_raise_same _ (b := bGRID) (by decide) (by decide)⟩
  obtain ⟨hclk, hlode, hbit⟩ := hlapsed
  cases h : (spMach s m).still with
  | true =>
    rw [lapse_still h]
    exact ⟨hclk, hlode, rfl, hbit⟩
  | false =>
    obtain ⟨hclk', -, hlode', hgrid', -⟩ := machineQuench_leaves m (raise bGRID 6 (bumpGrid 5 (machLapsed m s)))
    rw [lapse_moving h]
    exact ⟨hclk'.trans ((raise_clk ..).trans hclk), hlode'.trans ((raise_lode ..).trans hlode), hgrid'.trans (raise_grid ..),
      regBit_machineQuench m ((regsStand_raise ..).bits _ _ hbit)⟩

theorem lapse_quench (m : Nat) (s : State) : ((spMach s m).still = true → (lapse m s).quench = s.quench) ∧
    ((spMach s m).still = false → (lapse m s).quench.machq = s.quench.machq ||| BitVec.ofNat 128 (2 ^ m) ∧
      regBit (lapse m s) 0x060060 6 = true) := by
  have hquench : (machLapsed m s).quench = s.quench := raise_quench ..
  refine ⟨fun h => by rw [lapse_still h, hquench], fun h => ?_⟩
  obtain ⟨-, -, -, -, -, hmachq⟩ := machineQuench_leaves m (raise bGRID 6 (bumpGrid 5 (machLapsed m s)))
  rw [lapse_moving h, hmachq, raise_quench]
  exact ⟨congrArg (fun q : Quench => q.machq ||| BitVec.ofNat 128 (2 ^ m)) hquench,
    regBit_machineQuench m (regBit_raise_same _ (b := bGRID) (by decide) (by decide))⟩

/-- When a machine lapses. -/
def lapseDue (m : Nat) (s : State) : Nat :=
  match (gridMach s m).goodAt with
  | some t => t + s.grid.cfg.lapseMs * 10 ^ 6
  | none => s.clk

theorem lapseDue_of_good {m : Nat} {s : State} {g : Nat} (h : (gridMach s m).goodAt = some g) : lapseDue m s = g + s.grid.cfg.lapseMs * 10 ^ 6 := by
  rw [lapseDue, h]

theorem lapse_event (s : State) (m : Fin 128) (hrun : Running s) (hruns : gridRuns s = true) (hlive : machAllots s m ≠ []) :
    After (.lapse m) s fun t =>
      (∀ a, a ∈ t.grid.allots ↔ a ∈ s.grid.allots ∧ a.mach ≠ m.val) ∧ (gridMach t m).lapsed = true ∧ regBit t 0x060060 3 = true ∧ t.lode = s.lode ∧
      (∀ g, (gridMach s m).goodAt = some g → t.clk = max s.clk (g + s.grid.cfg.lapseMs * 10 ^ 6)) ∧
      ((spMach s m).still = true → t.quench = s.quench) ∧
      ((spMach s m).still = false → t.quench.machq = s.quench.machq ||| BitVec.ofNat 128 (2 ^ m.val) ∧ regBit t 0x060060 6 = true) := by
  refine after_gridBus_beside rfl hrun fun t ht => ?_
  change besideLink t = besideLink (if ¬ gridRuns s = true ∨ machAllots s m.val = [] then s
    else lapse m.val (advanceClk (lapseDue m.val s) s)) at ht
  rw [if_neg (by simp [hruns, hlive])] at ht
  obtain ⟨hclk, hlode, hgrid, hbit⟩ := lapse_leaves m (advanceClk (lapseDue m.val s) s)
  obtain ⟨hstill, hmoving⟩ := lapse_quench m (advanceClk (lapseDue m.val s) s)
  have hgrid' := (grid_of_beside ht).trans (hgrid.trans (machLapsed_grid ..))
  refine ⟨fun a => ?_, ?_, (regBit_of_beside ht ..).trans hbit, (lode_of_beside ht).trans hlode, fun g hg => ?_,
    fun h => (quench_of_beside ht).trans (hstill h), fun h => ?_⟩
  · rw [hgrid']
    exact mem_dropRecords.trans (by simp [advanceClk_grid])
  · rw [gridMach_congr (congrArg Grid.machs hgrid'), gridMach_setGridMach_same]
  · rw [clk_of_beside ht, hclk, advanceClk_clk, lapseDue_of_good hg]
  · rw [quench_of_beside ht, regBit_of_beside ht]
    exact hmoving h

/-! ### The end of an allotment and of the interval after a start (R262, R270) -/

theorem allotmentEnd_event (s : State) (a : Allot) (hrun : Running s) (ha : s.grid.allots.find? (fun x => x.id == a.id) = some a)
    (hend : a.end_.toNat ≤ now s) : After (.allotmentEnd a.id) s fun t => a ∉ t.grid.allots ∧
      (∀ x ∈ s.grid.allots, x.id ≠ a.id → x ∈ t.grid.allots) ∧ (∀ x ∈ t.grid.allots, x ∈ s.grid.allots) ∧ t.lode = s.lode ∧ t.regs = s.regs := by
  refine after_gridBus_beside rfl hrun fun t ht => ?_
  dsimp only at ht
  rw [ha] at ht
  dsimp only at ht
  rw [advanceTo_reached hend] at ht
  rw [grid_of_beside ht]
  refine ⟨fun hmem => ?_, fun x hx hid => mem_dropRecords.mpr ⟨hx, by simp [hid]⟩, fun x hx => (mem_dropRecords.mp hx).1, (lode_of_beside ht :),
    (regs_of_beside ht :)⟩
  have hover := (mem_dropRecords.mp hmem).2
  simp [liveAllot] at hover
  omega

/-- The interval after a start of the grid ended at a moment. -/
def coldEnded (e : Nat) (s : State) : State := { advanceClk e s with grid := { (advanceClk e s).grid with occCold := false } }

theorem coldEnded_grid (e : Nat) (s : State) : (coldEnded e s).grid = { s.grid with occCold := false } := rfl

theorem coldEnded_clk (e : Nat) (s : State) : (coldEnded e s).clk = max s.clk e := advanceClk_clk e s

theorem mirGrid_coldEnded (e : Nat) (s : State) : mirGrid (coldEnded e s) = mirGrid s := rfl

theorem occColdEnd_event (s : State) (hrun : Running s) :
    (s.grid.occCold = true → After .occColdEnd s fun t => t.grid = { s.grid with occCold := false } ∧ t.clk = max s.clk (s.grid.occStart + 10 ^ 9)) ∧
    (s.grid.occCold = false → exec .occColdEnd s = .next s) := by
  refine ⟨fun h => ?_, fun h => exec_gridBus rfl hrun (if_neg (by simp [h])) rfl⟩
  have hstep : exec .occColdEnd s = .next (coldEnded (s.grid.occStart + 10 ^ 9) s) :=
    exec_gridBus rfl hrun (if_pos h) (mirGrid_coldEnded ..)
  exact ⟨_, hstep, coldEnded_grid .., coldEnded_clk ..⟩

/-! ### RESV_REFRESH (R263) -/

theorem resvOf_clearIvs (drop : ResvInterval → Bool) (e : LodeEntry) {v : ResvInterval} :
    some v ∈ resvOf (clearIvs drop e) ↔ some v ∈ resvOf e ∧ drop v = false := by
  simp only [clearIvs, resvOf, List.mem_map]
  constructor
  · rintro ⟨x, hx, hv⟩
    cases x with
    | none => cases hv
    | some w =>
      dsimp only at hv
      split at hv
      · cases hv
      · next hkeep =>
        obtain rfl := Option.some.inj hv
        exact ⟨hx, by simpa using hkeep⟩
  · rintro ⟨hv, hkeep⟩
    exact ⟨some v, hv, by simp [hkeep]⟩

/-- An entry holds an interval of a reporting machine. -/
def reportsIn (s : State) (e : LodeEntry) : Bool := (resvOf e).any (ivWith s (reporting s))

theorem refreshEntry_other {s : State} {e : LodeEntry} (h : reportsIn s e = false) : refreshEntry s e = e := if_neg (Bool.eq_false_iff.mp h)

/-- A refreshed entry: its LAPSED intervals cleared, and a hit. -/
def refreshed (s : State) (e : LodeEntry) : LodeEntry :=
  { clearIvs (fun v => (gridMach s v.mach).lapsed) e with hit := e.hit || e.age }

theorem refreshEntry_reporting {s : State} {e : LodeEntry} (h : reportsIn s e = true) : refreshEntry s e = refreshed s e := if_pos h

/-- What holds an interval of a reporting machine after the refresh has been refreshed. -/
theorem refreshEntry_reports {s : State} {e : LodeEntry} (h : reportsIn s (refreshEntry s e) = true) :
    ((refreshEntry s e).age = true → (refreshEntry s e).hit = true) ∧
    ∀ v, some v ∈ resvOf (refreshEntry s e) → (gridMach s v.mach).lapsed = false := by
  cases hbefore : reportsIn s e with
  | false => rw [refreshEntry_other hbefore, hbefore] at h; cases h
  | true =>
    rw [refreshEntry_reporting hbefore]
    exact ⟨fun hage => by simpa [refreshed] using .inr hage, fun v hv => ((resvOf_clearIvs ..).mp hv).2⟩

/-- An `Inst` with its entries refreshed, if it is the RESV table's. -/
def refreshInst (s : State) (d : TableDesc) (i : Inst) : Inst :=
  if i.table = d.id then { i with
    entries := i.entries.map (fun x => (x.1, refreshEntry s x.2)), lost := i.lost.map (fun x => (x.1, refreshEntry s x.2)) }
  else i

/-- The refresh changes the tables, their written copy and a counter. -/
theorem resvRefresh_eq {s : State} {d : TableDesc} (hd : resvTable s = some d) : ∃ copy counts, resvRefresh s =
    { s with lode := { s.lode with insts := s.lode.insts.map (refreshInst s d), copy := copy }, counts := counts } := by
  unfold resvRefresh
  rw [hd]
  exact ⟨_, _, rfl⟩

theorem entries_refreshInst {s : State} {d : TableDesc} {i : Inst} (htable : (refreshInst s d i).table = d.id) {x : (Nat × Nat) × LodeEntry}
    (hx : x ∈ (refreshInst s d i).entries) : ∃ e, x.2 = refreshEntry s e := by
  by_cases hd : i.table = d.id
  · rw [refreshInst, if_pos hd] at hx
    obtain ⟨y, -, rfl⟩ := List.mem_map.mp hx
    exact ⟨_, rfl⟩
  · rw [refreshInst, if_neg hd] at htable
    exact absurd htable hd

theorem eq_of_besideLink {s t : State} (h : besideLink t = besideLink s) : t = { s with counts := t.counts, fr := t.fr } :=
  (congrArg (fun u : State => { u with counts := t.counts, fr := t.fr }) h :)

theorem resvRefresh_event (s : State) (d : TableDesc) (hrun : Running s) (hruns : gridRuns s = true) (hd : resvTable s = some d) :
    After .resvRefresh s fun t => t.grid = s.grid ∧
      (∀ i ∈ t.lode.insts, i.table = d.id → ∀ x ∈ i.entries, (resvOf x.2).any (ivWith s (reporting s)) = true →
        (x.2.age = true → x.2.hit = true) ∧ ∀ v, some v ∈ resvOf x.2 → (gridMach s v.mach).lapsed = false) ∧
      t = { s with lode := { s.lode with insts := t.lode.insts, copy := t.lode.copy }, counts := t.counts, fr := t.fr } := by
  refine after_gridBus_beside rfl hrun fun t ht => ?_
  obtain ⟨copy, counts, hstep⟩ := resvRefresh_eq hd
  change besideLink t = besideLink (if gridRuns s = true then resvRefresh s else s) at ht
  rw [if_pos hruns, hstep] at ht
  have hlode := lode_of_beside ht
  refine ⟨(grid_of_beside ht :), fun i hi htable x hx hreports => ?_, (eq_of_besideLink ht).trans ?_⟩
  · rw [hlode] at hi
    obtain ⟨j, -, rfl⟩ := List.mem_map.mp hi
    obtain ⟨e, he⟩ := entries_refreshInst htable hx
    rw [he] at hreports ⊢
    exact refreshEntry_reports hreports
  · rw [hlode]

end Sys2Proof.Machine
end

section
/-! EXTEND (08_field_grid.md R256, R265, R273, R274; 09_setpoint_engine.md R299): the request that the grid takes, what its sweep comes
to, and the quench that a refusal asks for. -/

namespace Sys2Proof.Machine

open Sys2Proof

/-! ### The reserved chain (R273) -/

theorem mem_of_foldl_pick {α : Type} {f : Option α → α → Option α} (hf : ∀ b a x, f b a = some x → x = a ∨ b = some x) {l : List α}
    {b : Option α} {x : α} (h : l.foldl f b = some x) : x ∈ l ∨ b = some x := by
  induction l generalizing b with
  | nil => exact .inr h
  | cons a l ih =>
    rcases ih h with hmem | hpick
    · exact .inl (List.mem_cons_of_mem a hmem)
    · rcases hf b a x hpick with rfl | hb
      · exact .inl List.mem_cons_self
      · exact .inr hb

theorem mem_of_chainFrom {l : List Allot} {n : Nat} {a b : Allot} (h : b ∈ chainFrom l n a) : b ∈ l := by
  induction n generalizing a with
  | zero => cases h
  | succ n ih =>
    rw [chainFrom] at h
    split at h
    · next c hc =>
      rcases List.mem_cons.mp h with rfl | hrest
      · exact List.mem_of_find?_eq_some hc
      · exact ih hrest
    · cases h

/-- A reserved chain is made of live allotments. -/
theorem mem_of_reservedChain {s : State} {m : Nat} {a : Allot} (h : a ∈ reservedChain s m) : a ∈ s.grid.allots := by
  have hlive {x : Allot} (hx : x ∈ machAllots s m) : x ∈ s.grid.allots := (List.mem_filter.mp (List.mem_filter.mp hx).1).1
  unfold reservedChain at h
  dsimp only at h
  split at h
  · cases h
  · split at h
    · next b hb =>
      rcases List.mem_cons.mp h with rfl | hrest
      · refine (mem_of_foldl_pick ?_ hb).elim (fun hmem => hlive (List.mem_filter.mp hmem).1) nofun
        intro y z x hpick
        split at hpick
        · split at hpick
          · exact .inl (Option.some.inj hpick).symm
          · exact .inr hpick
        · exact .inl (Option.some.inj hpick).symm
      · exact hlive (mem_of_chainFrom hrest)
    · cases h

/-! ### The sweep of an extension (R274, R265) -/

/-- What an extension comes to leaves the set-point engine, the mode and the quench block, and a refusal every allotment. -/
structure Extends (s : State) (r : GridRun) : Prop where
  parts : r.2.sys = s.sys ∧ r.2.setpt = s.setpt ∧ r.2.quench = s.quench
  refused : r.1.result ≠ .done → r.2.grid.allots = s.grid.allots

theorem extends_of_refusal {s : State} (e : GridEnd) : Extends s (e, s) := ⟨⟨rfl, rfl, rfl⟩, fun _ => rfl⟩

/-- An allotment that an extension continues. -/
def extendedBy (d stop : Nat) (cells : List Cell) (a : Allot) : Allot :=
  { a with ext := a.ext + d * 1000, end_ := BitVec.ofNat 64 stop, cells := firsts (a.cells ++ cells) }

/-- When an extension ends its allotment. -/
def extendStop (a : Allot) (s : State) : Nat := max a.end_.toNat (now s + 30 * 10 ^ 9)

/-- What an extension asks of its cells. -/
def extendAsk (a : Allot) (s : State) : AllotAsk :=
  { mach := a.mach, op := a.op, partner := 0xFF, start := now s, stop := extendStop a s }

/-- The cells that an extension sweeps. -/
def extendCells (a : Allot) (d : Nat) (s : State) : List (Int × Int) :=
  sweptCells s.grid.cfg.resvLevel (sweepExt (footprint s a.mach) a.margin a.track a.ext (d * 1000))

/-- The allotments with one extended. -/
def extendedIn (a : Allot) (d stop : Nat) (cells : List Cell) (l : List Allot) : List Allot :=
  l.map fun x => if x.id = a.id then extendedBy d stop cells x else x

theorem mem_extendedIn {a : Allot} {l : List Allot} (h : a ∈ l) (d stop : Nat) (cells : List Cell) :
    extendedBy d stop cells a ∈ extendedIn a d stop cells l := List.mem_map.mpr ⟨a, h, if_pos rfl⟩

/-- An extension whose cells have been committed. -/
def extendDone (a : Allot) (d : Nat) (s t : State) : GridRun :=
  ({ allotId := a.id.toNat, cells := (extendCells a d s).length },
    bumpBy 0x060054 2 (extendCells a d s).length
      { t with grid.allots := extendedIn a d (extendStop a s) ((extendCells a d s).map (toCell s.grid.cfg.resvLevel)) t.grid.allots })

theorem extendDone_parts (a : Allot) (d : Nat) (s t : State) : (extendDone a d s t).1.result = .done ∧ (extendDone a d s t).2.quench = t.quench ∧
    (extendDone a d s t).2.grid.allots =
      extendedIn a d (extendStop a s) ((extendCells a d s).map (toCell s.grid.cfg.resvLevel)) t.grid.allots := ⟨rfl, rfl, rfl⟩

/-- Past the age limit and the sweep, an extension is committed or finds the table full. -/
def extendSwept (a : Allot) (d : Nat) (s : State) : GridRun :=
  match commitCells (intervalFor a.mach a.id.toNat (now s) (extendStop a s)) ((extendCells a d s).map (toCell s.grid.cfg.resvLevel)) s with
  | none => ({ result := .tableFull, cells := (extendCells a d s).length }, resvTableFull s)
  | some t => extendDone a d s t

theorem extendRun_eq (a : Allot) (d : Nat) (s : State) : extendRun a d s =
    if pastAge s (extendStop a s) = true then refuse s .ageLimit
    else match sweepFault s false (extendAsk a s) s.grid.cfg.resvLevel (extendCells a d s) with
      | some e => (e, s)
      | none => extendSwept a d s := by
  unfold extendRun extendSwept
  rfl

theorem extends_extendSwept (a : Allot) (d : Nat) (s : State) : Extends s (extendSwept a d s) := by
  unfold extendSwept
  split
  · have hfull := besideTables_resvTableFull s
    exact ⟨parts_of_besideTables hfull, fun _ => congrArg Grid.allots (grid_of_besideTables hfull)⟩
  · next t ht => exact ⟨(parts_of_besideTables (besideTables_commitCells ht) :), fun h => absurd rfl h⟩

theorem extends_extendRun (a : Allot) (d : Nat) (s : State) : Extends s (extendRun a d s) := by
  rw [extendRun_eq]
  split
  · exact extends_of_refusal _
  · split
    · exact extends_of_refusal _
    · exact extends_extendSwept ..

theorem extendRun_done {a : Allot} {d : Nat} {s t : State} (hage : pastAge s (extendStop a s) = false)
    (hsweep : sweepFault s false (extendAsk a s) s.grid.cfg.resvLevel (extendCells a d s) = none)
    (hcommit : commitCells (intervalFor a.mach a.id.toNat (now s) (extendStop a s)) ((extendCells a d s).map (toCell s.grid.cfg.resvLevel)) s =
      some t) : extendRun a d s = extendDone a d s t := by
  rw [extendRun_eq, if_neg (by simp [hage]), hsweep]
  dsimp only
  rw [extendSwept, hcommit]

/-! ### The request at the head (R260, R299) -/

/-- The set-point engine with other EXTEND requests waiting. -/
def withExtends (l : List ExtReq) (s : State) : State := { s with setpt := { s.setpt with extends_ := l } }

/-- What a request comes to: its machine's last allotment extended, or nothing to extend. -/
def extRun (x : ExtReq) (s : State) : GridRun :=
  match (reservedChain s x.mach).getLast? with
  | some a => extendRun a x.dist s
  | none => (gridRes .notFound, s)

theorem extends_extRun (x : ExtReq) (s : State) : Extends s (extRun x s) := by
  unfold extRun
  split
  · exact extends_extendRun ..
  · exact extends_of_refusal _

/-- The request at the head: refused by the mode or a lost conflict, or run. -/
def extOutcome (x : ExtReq) (s : State) : GridRun :=
  if refusedMode s = true then (gridRes .mode, s)
  else if x.lost = true ∨ s.grid.intake.any (extLoses s x) = true then (gridRes .conflictLost, bumpGrid 0x0A s)
  else extRun x s

theorem extOutcome_clear {x : ExtReq} {s : State} (hruns : gridRuns s = true) (hintake : s.grid.intake = []) (hlost : x.lost = false) :
    extOutcome x s = extRun x s := by
  rw [extOutcome, if_neg (by simp [refusedMode, hruns]), if_neg (by simp [hlost, hintake])]

/-- What a request comes to, reported. -/
def extReported (x : ExtReq) (s : State) (r : GridRun) : State :=
  reportAllot r.1 (s.clk - x.at_) (bumpGrid (if r.1.result = .done then 7 else 8) r.2)

theorem extReported_parts (x : ExtReq) (s : State) (r : GridRun) : (extReported x s r).sys = r.2.sys ∧ (extReported x s r).setpt = r.2.setpt ∧
    (extReported x s r).quench = r.2.quench ∧ (extReported x s r).grid.allots = r.2.grid.allots ∧
    (extReported x s r).grid.report.result = r.1.result := ⟨rfl, rfl, rfl, rfl, rfl⟩

/-- A refused request: the engine asks for a quench of the machine (R299). -/
def extRefused (x : ExtReq) (s : State) : State := setptQuench x.mach (raise bGRID 5 s)

/-- What a refusal leaves, and its marks. -/
theorem extRefused_leaves (x : ExtReq) (s : State) : (extRefused x s).sys = s.sys ∧ (extRefused x s).setpt = s.setpt ∧
    (extRefused x s).grid = s.grid ∧ (extRefused x s).quench.machq = s.quench.machq ||| BitVec.ofNat 128 (2 ^ x.mach) ∧
    regBit (extRefused x s) 0x060060 5 = true ∧ regBit (extRefused x s) 0x070060 4 = true := by
  obtain ⟨-, hsys, -, hgrid, hsetpt, hmachq⟩ := machineQuench_leaves x.mach (raise bSETPT 4 (bumpSetpt 4 (raise bGRID 5 s)))
  rw [raise_sys] at hsys
  rw [raise_grid] at hgrid
  rw [raise_setpt] at hsetpt
  rw [raise_quench] at hmachq
  have hasked : (bumpSetpt 4 (raise bGRID 5 s)).quench = s.quench := raise_quench ..
  rw [hasked] at hmachq
  unfold extRefused setptQuench
  refine ⟨hsys.trans (raise_sys ..), hsetpt.trans (raise_setpt ..), hgrid.trans (raise_grid ..), hmachq, ?_, ?_⟩
  · exact regBit_machineQuench _ ((regsStand_raise ..).bits _ _ (regBit_raise_same s (b := bGRID) (by decide) (by decide)))
  · exact regBit_machineQuench _ (regBit_raise_same _ (b := bSETPT) (by decide) (by decide))

/-- How a request ends. -/
def extEnded (x : ExtReq) (s : State) (r : GridRun) : State :=
  if r.1.result = .done then extReported x s r else extRefused x (extReported x s r)

theorem extend_eq {s : State} {x : ExtReq} {l : List ExtReq} (h : s.setpt.extends_ = x :: l) : extend s =
    if underTest s .allocator = true ∨ ¬ gridOn s = true then s
    else extEnded x (expireAllots (withExtends l s)) (extOutcome x (expireAllots (withExtends l s))) := by
  unfold extend
  rw [h]
  rfl

/-- A request that runs at the head of the line. -/
structure ExtReady (s : State) (x : ExtReq) (l : List ExtReq) : Prop where
  runs : gridRuns s = true
  untested : underTest s .allocator = false
  intake : s.grid.intake = []
  head : s.setpt.extends_ = x :: l
  kept : x.lost = false
  live : ∀ a ∈ s.grid.allots, liveAllot s a = true
  tasks : ∀ y ∈ s.grid.tasks, ∃ a ∈ s.grid.allots, a.task = y.1

theorem extend_ready {s : State} {x : ExtReq} {l : List ExtReq} (h : ExtReady s x l) :
    extend s = extEnded x (withExtends l s) (extRun x (withExtends l s)) := by
  have hlive : expireAllots (withExtends l s) = withExtends l s := expireAllots_live (s := withExtends l s) h.live h.tasks
  rw [extend_eq h.head, if_neg (by simp [h.untested, gridOn_of_gridRuns h.runs]), hlive,
    extOutcome_clear (s := withExtends l s) h.runs h.intake h.kept]

/-! ### What EXTEND leaves (R299) and grants (R274) -/

theorem extEnded_parts {x : ExtReq} {s : State} {r : GridRun} (h : Extends s r) : (extEnded x s r).sys = s.sys ∧
    (extEnded x s r).setpt = s.setpt ∧ (extEnded x s r).grid.report.result = r.1.result := by
  obtain ⟨hsys, hsetpt, -⟩ := h.parts
  obtain ⟨hsys', hsetpt', -, -, hresult⟩ := extReported_parts x s r
  rw [extEnded]
  split
  · exact ⟨hsys'.trans hsys, hsetpt'.trans hsetpt, hresult⟩
  · obtain ⟨hsys'', hsetpt'', hgrid, -⟩ := extRefused_leaves x (extReported x s r)
    exact ⟨hsys''.trans (hsys'.trans hsys), hsetpt''.trans (hsetpt'.trans hsetpt), by rw [hgrid, hresult]⟩

theorem extEnded_refused {x : ExtReq} {s : State} {r : GridRun} (h : Extends s r) (hr : r.1.result ≠ .done) :
    regBit (extEnded x s r) 0x060060 5 = true ∧ regBit (extEnded x s r) 0x070060 4 = true ∧ (extEnded x s r).grid.allots = s.grid.allots ∧
      (extEnded x s r).quench.machq = s.quench.machq ||| BitVec.ofNat 128 (2 ^ x.mach) := by
  obtain ⟨-, -, hquench⟩ := h.parts
  obtain ⟨-, -, hquench', hallots, -⟩ := extReported_parts x s r
  obtain ⟨-, -, hgrid, hmachq, hgridBit, hsetptBit⟩ := extRefused_leaves x (extReported x s r)
  rw [extEnded, if_neg hr]
  exact ⟨hgridBit, hsetptBit, by rw [hgrid, hallots, h.refused hr], by rw [hmachq, hquench', hquench]⟩

theorem extend_outcome (s : State) (x : ExtReq) (l : List ExtReq) (hrun : Running s) (h : ExtReady s x l) :
    After .extend s fun t => t.setpt.extends_ = l ∧ t.sys = s.sys ∧
      (t.grid.report.result ≠ .done → regBit t 0x060060 5 = true ∧ regBit t 0x070060 4 = true ∧ t.grid.allots = s.grid.allots ∧
        t.quench.machq = s.quench.machq ||| BitVec.ofNat 128 (2 ^ x.mach)) := by
  refine after_gridBus_beside rfl hrun fun t ht => ?_
  rw [extend_ready h] at ht
  have hrun' := extends_extRun x (withExtends l s)
  obtain ⟨hsys, hsetpt, hresult⟩ := extEnded_parts (x := x) hrun'
  refine ⟨congrArg Setpt.extends_ ((setpt_of_beside ht).trans hsetpt), (sys_of_beside ht).trans hsys, fun hrefused => ?_⟩
  rw [grid_of_beside ht, hresult] at hrefused
  rw [regBit_of_beside ht, regBit_of_beside ht, grid_of_beside ht, quench_of_beside ht]
  exact extEnded_refused hrun' hrefused

theorem extend_granted (s : State) (x : ExtReq) (l : List ExtReq) (hrun : Running s) (h : ExtReady s x l) (a : Allot)
    (hlast : (reservedChain s x.mach).getLast? = some a) (hage : pastAge s (extendStop a s) = false)
    (hsweep : sweepFault s false (extendAsk a s) s.grid.cfg.resvLevel (extendCells a x.dist s) = none)
    (hcommit : (commitCells (intervalFor a.mach a.id.toNat (now s) (extendStop a s))
      ((extendCells a x.dist s).map (toCell s.grid.cfg.resvLevel)) (withExtends l s)).isSome = true) :
    After .extend s fun t => t.grid.report.result = .done ∧ t.quench = s.quench ∧
      ∃ y ∈ t.grid.allots, y.id = a.id ∧ y.ext = a.ext + x.dist * 1000 ∧ y.end_ = BitVec.ofNat 64 (extendStop a s) := by
  refine after_gridBus_beside rfl hrun fun t ht => ?_
  obtain ⟨u, hu⟩ := Option.isSome_iff_exists.mp hcommit
  have hlast' : (reservedChain (withExtends l s) x.mach).getLast? = some a := hlast
  have hrun' : extRun x (withExtends l s) = extendDone a x.dist (withExtends l s) u := by
    rw [extRun, hlast']
    exact extendRun_done hage hsweep hu
  have hbeside := besideTables_commitCells hu
  obtain ⟨-, -, hquench⟩ := parts_of_besideTables hbeside
  have hmem : a ∈ u.grid.allots := by
    rw [grid_of_besideTables hbeside]
    exact mem_of_reservedChain (List.mem_of_getLast? hlast)
  obtain ⟨hdone, hquench', hallots⟩ := extendDone_parts a x.dist (withExtends l s) u
  rw [extend_ready h, hrun', extEnded, if_pos hdone] at ht
  obtain ⟨-, -, hquench'', hallots', hresult⟩ := extReported_parts x (withExtends l s) (extendDone a x.dist (withExtends l s) u)
  rw [grid_of_beside ht, quench_of_beside ht, hallots', hallots]
  exact ⟨hresult.trans hdone, hquench''.trans (hquench'.trans hquench), _, mem_extendedIn hmem .., rfl, rfl, rfl⟩

end Sys2Proof.Machine

open Sys2Proof Sys2Proof.Machine

/-- Settles O29: a silent machine is quenched through the machine quench of R372, a refused EXTEND through the same. -/
theorem allotmentsEnd : Obligations.AllotmentsEnd := by
  refine ⟨fun s who body h hlen => ⟨release_command s who body h hlen, releaseMach_command s who body h hlen⟩, lapse_event, resvRefresh_event,
    allotmentEnd_event, occColdEnd_event, fun s x l u hrun hruns htest hintake hext hlost hu hlive htasks => ?_⟩
  subst hu
  have hready : ExtReady s x l := ⟨hruns, htest, hintake, hext, hlost, hlive, htasks⟩
  refine ⟨extend_outcome s x l hrun hready, fun a stop cells v hlast hstop hage hcells hsweep hv hcommit => ?_⟩
  subst hstop hcells hv
  exact extend_granted s x l hrun hready a hlast hage hsweep hcommit

end

section
/-! A command over the register path of the set-point engine (09_setpoint_engine.md R24, R300, R301, R304): it joins the intake, runs at
its head when nothing holds it, and reports its end. -/

namespace Sys2Proof.Machine

open Sys2Proof

/-! ### The body of a command (R300) -/

/-- A command as the register path brings it, with its operation in the first byte. -/
def spAsked (who : Master) (op : Nat) (body : Bytes) : SpCmd :=
  { master := who, body := padTo 32 (BitVec.ofNat 8 op :: (padTo 32 body).drop 1), queue := none }

theorem spAsked_body (who : Master) (op : Nat) (body : Bytes) :
    (spAsked who op body).body = BitVec.ofNat 8 op :: (padTo 32 body).drop 1 :=
  padTo_of_length (by rw [List.length_cons, List.length_drop, padTo, bytesAt_length])

theorem byteAt_spAsked_op {op : Nat} (h : op < 256) (who : Master) (body : Bytes) : byteAt (spAsked who op body).body 0 = op := by
  rw [spAsked_body, byteAt_zero_cons, BitVec.toNat_ofNat, Nat.mod_eq_of_lt h]

/-- Past the operation the body is the master's. -/
theorem leAt_spAsked {body : Bytes} (hlen : body.length = 32) {ofs : Nat} (h : 1 ≤ ofs) (who : Master) (op n : Nat) :
    leAt (spAsked who op body).body ofs n = leAt body ofs n := by
  obtain ⟨k, rfl⟩ := Nat.exists_eq_add_of_le' h
  rw [spAsked_body, padTo_of_length hlen, leAt, leAt, bytesAt, bytesAt, List.drop_succ_cons, List.drop_drop, Nat.add_comm 1 k]

theorem byteAt_spAsked {body : Bytes} (hlen : body.length = 32) {ofs : Nat} (h : 1 ≤ ofs) (who : Master) (op : Nat) :
    byteAt (spAsked who op body).body ofs = byteAt body ofs := leAt_spAsked hlen h who op 1

/-! ### The intake (R300) -/

/-- Nothing holds the engine's next command: the part runs, the engine is not under test, and no command waits at it. -/
structure SetptIdle (s : State) : Prop where
  running : Running s
  untested : underTest s .setpt = false
  intake : s.setpt.intake = []
  free : s.setpt.cmdBusy = false

/-- The engine with a command at the head of its intake, running. -/
def spHead (c : SpCmd) (s : State) : State :=
  { s with setpt := { s.setpt with cmdBusy := true, cmdResult := .none, intake := [c] } }

theorem setptGo_idle {s : State} (h : SetptIdle s) (who : Master) (op : Nat) (body : Bytes) :
    setptGo who (BitVec.ofNat 8 op :: (padTo 32 body).drop 1) s = spHead (spAsked who op body) s := by
  rw [setptGo, if_neg (by simp [h.intake, h.free]), h.intake]
  rfl

theorem setptReady_spHead {s : State} (h : SetptIdle s) (hon : gridOn s = true) {c : SpCmd} {op : Nat} (hop : byteAt c.body 0 = op)
    (hqueue : c.queue = none) : setptReady (spHead c s) op c = true := by
  have hunit : underTest (spHead c s) .setpt = false := h.untested
  have hgrid : gridOn (spHead c s) = true := hon
  simp [setptReady, hop, hunit, hgrid, hqueue]

/-- R300: with nothing before it, a command of the register path runs at once. -/
theorem setptCmd_idle {s : State} (h : SetptIdle s) (hon : gridOn s = true) {op : Nat} (hop : op < 256) (who : Master) (body : Bytes)
    (f : Nat → SpCmd → State → SpRun) : setptCmd op (.regs who body) f s =
      setptFinish (spAsked who op body) (setptWork (spAsked who op body) f (spHead (spAsked who op body) s)).1
        (setptWork (spAsked who op body) f (spHead (spAsked who op body) s)).2 := by
  rw [setptCmd, setptGo_idle h]
  exact if_pos (setptReady_spHead h hon (byteAt_spAsked_op hop who body) rfl)

/-! ### What stands against every command (R24, R301, R304) -/

section

variable {s : State} {c : SpCmd} (f : Nat → SpCmd → State → SpRun)

theorem setptWork_mode (h : setptTakes s = false) : setptWork c f s = (.mode, s) := if_pos (by simp [h])

theorem setptWork_conflicted (h : setptTakes s = true) (hlost : conflicted s c = true) : setptWork c f s = (.conflictLost, s) :=
  (if_neg (by simp [h])).trans (if_pos hlost)

theorem setptWork_runs (h : setptTakes s = true) (hkept : conflicted s c = false) {m : Nat} (hm : byteAt c.body 1 = m) (hmax : m < 128) :
    setptWork c f s = f m c s := by
  subst hm
  exact (if_neg (by simp [h])).trans ((if_neg (by simp [hkept])).trans (if_neg (by omega)))

end

/-- A command alone in the intake, with none completed since the last tick, contradicts nothing. -/
theorem conflicted_spHead {s : State} (h : s.setpt.orders = []) (c : SpCmd) : conflicted (spHead c s) c = false := by
  change (s.setpt.orders.any _ || [].any _) = false
  rw [h]
  rfl

/-- R304: a move loses to a stop of its machine that the tick has taken. -/
theorem conflicted_of_stop {s : State} {c o : SpCmd} (ho : o ∈ s.setpt.orders) (hstop : byteAt o.body 0 = 6)
    (hmach : byteAt o.body 1 = byteAt c.body 1) (hmove : byteAt c.body 0 ≠ 6) : conflicted (spHead c s) c = true := by
  have hloses : losesTo c o = true := by simp [losesTo, hmove, hstop, hmach]
  have hany : s.setpt.orders.any (losesTo c) = true := List.any_eq_true.mpr ⟨o, ho, hloses⟩
  exact Bool.or_eq_true_iff.mpr (.inl hany)

theorem gridOn_of_setptTakes {s : State} (h : setptTakes s = true) : gridOn s = true := by
  unfold setptTakes at h
  unfold gridOn
  cases hm : s.sys.mode <;> simp [hm] at h ⊢

/-! ### The end of a command (R300) -/

/-- What a command of the register path leaves when its work has run to an end. -/
structure SpReported (r : SpRun) (t : State) : Prop where
  result : t.setpt.cmdResult = r.1
  idle : t.setpt.cmdBusy = false
  machs : t.setpt.machs = r.2.setpt.machs
  orders : r.1 ≠ .done → t.setpt.orders = r.2.setpt.orders
  grid : t.grid = r.2.grid
  lode : t.lode = r.2.lode
  sys : t.sys = r.2.sys
  quench : t.quench = r.2.quench

theorem SpReported.mach {r : SpRun} {t : State} (h : SpReported r t) (k : Nat) : spMach t k = spMach r.2 k := by
  rw [spMach, spMach, h.machs]

theorem spReported_setptFinish {c : SpCmd} (hc : c.queue = none) (r : SpRun) : SpReported r (setptFinish c r.1 r.2) := by
  have horders : r.1 ≠ .done → ordersAfter c r.1 (r.2.setpt.intake.drop 1) r.2.setpt.orders = r.2.setpt.orders := fun h => if_pos h
  unfold setptFinish
  simp only [hc]
  split
  · exact ⟨rfl, rfl, by simp [bumpSetpt], fun h => by simpa [bumpSetpt] using horders h, by simp [bumpSetpt], by simp [bumpSetpt],
      by simp [bumpSetpt], by simp [bumpSetpt]⟩
  · exact ⟨rfl, rfl, by simp, fun h => by simpa using horders h, by simp, by simp, by simp, by simp⟩

/-- R300: what a command of the register path answers when nothing holds it. -/
theorem after_setptCmd {i : Instr} {s : State} {op : Nat} {who : Master} {body : Bytes} {f : Nat → SpCmd → State → SpRun} {P : State → Prop}
    (hi : exec i s = .next (bus s (setptCmd op (.regs who body) f))) (h : SetptIdle s) (hon : gridOn s = true) (hop : op < 256)
    (hP : ∀ t, SpReported (setptWork (spAsked who op body) f (spHead (spAsked who op body) s)) t → P t) : After i s P :=
  after_bus hi h.running (setptCmd_idle h hon hop who body f ▸ hP _ (spReported_setptFinish rfl _))

/-- What a command that nothing stands against answers. -/
theorem after_setptCmd_free {i : Instr} {s : State} {op : Nat} {who : Master} {body : Bytes} {f : Nat → SpCmd → State → SpRun}
    {P : State → Prop} (hi : exec i s = .next (bus s (setptCmd op (.regs who body) f))) (h : SetptFree s) (hop : op < 256)
    (hlen : body.length = 32) (hmax : byteAt body 1 < 128)
    (hP : ∀ t, SpReported (f (byteAt body 1) (spAsked who op body) (spHead (spAsked who op body) s)) t → P t) : After i s P := by
  obtain ⟨hrun, htakes, htest, hintake, hbusy, horders⟩ := h
  refine after_setptCmd hi ⟨hrun, htest, hintake, hbusy⟩ (gridOn_of_setptTakes htakes) hop fun t ht => hP t ?_
  rwa [setptWork_runs (s := spHead (spAsked who op body) s) f htakes (conflicted_spHead horders _) (byteAt_spAsked hlen (by decide) who op) hmax] at ht

end Sys2Proof.Machine
end

section
/-! Machines of the set-point engine (09_setpoint_engine.md R281, R292, R296, R297): one machine's record changed, a pair that ends, and the
causes of an anneal. -/

namespace Sys2Proof.Machine

open Sys2Proof

/-! ### One machine's record -/

theorem spMach_congr {s t : State} (h : t.setpt.machs = s.setpt.machs) (k : Nat) : spMach t k = spMach s k := by
  rw [spMach, spMach, h]

section

variable (m : Nat) (f : SpMach → SpMach) (s : State)

@[simp] theorem spMach_setSp_same : spMach (setSp m f s) m = f (spMach s m) := by simp [spMach, setSp, kmod]

theorem spMach_setSp_other {k : Nat} (h : k ≠ m) : spMach (setSp m f s) k = spMach s k := by
  simp [spMach, setSp, kmod, kget_kset_other _ _ _ h]

end

/-! ### A pair that ends (R292, R296) -/

/-- The part beside the set-point engine. -/
def besideSetpt (s : State) : State := { s with setpt := {} }

section

variable (m : Nat) (s : State)

/-- What a pair's end does to the machines: its follower has no pair, and nothing else changes. -/
theorem spMach_unpair (k : Nat) : spMach (unpair m s) k = spMach (setSp m (fun x => { x with gear := none }) s) k := by
  unfold unpair
  split
  · next h =>
    by_cases hk : k = m
    · subst hk
      rw [spMach_setSp_same, ← h]
    · rw [spMach_setSp_other _ _ _ hk]
  · dsimp only
    split
    · rfl
    · rfl

@[simp] theorem spMach_unpair_same : spMach (unpair m s) m = { spMach s m with gear := none } := by
  rw [spMach_unpair, spMach_setSp_same]

theorem spMach_unpair_other {k : Nat} (h : k ≠ m) : spMach (unpair m s) k = spMach s k := by
  rw [spMach_unpair, spMach_setSp_other _ _ _ h]

theorem besideSetpt_unpair : besideSetpt (unpair m s) = besideSetpt s := by
  unfold unpair
  split
  · rfl
  · dsimp only
    split
    · rfl
    · rfl

theorem unpair_counts : (unpair m s).counts = s.counts := (congrArg State.counts (besideSetpt_unpair m s) :)

theorem unpair_clk : (unpair m s).clk = s.clk := (congrArg State.clk (besideSetpt_unpair m s) :)

end

/-! ### Causes of an anneal (R297) -/

/-- A machine's causes changed, and its pair ended if any stands. -/
def withCauses (m : Nat) (c : SpCauses) (s : State) : State :=
  if c.any then unpair m (setSp m (fun x => { x with causes := c }) s) else setSp m (fun x => { x with causes := c }) s

/-- The part beside the set-point engine, the radio and the counters. -/
def besideCauses (s : State) : State := { s with setpt := {}, radio := {}, counts := [] }

section

variable (m : Nat) (s : State)

theorem besideSetpt_withCauses (c : SpCauses) : besideSetpt (withCauses m c s) = besideSetpt s := by
  unfold withCauses
  split
  · exact besideSetpt_unpair ..
  · rfl

theorem spMach_withCauses_same (c : SpCauses) : spMach (withCauses m c s) m =
    if c.any then { spMach s m with causes := c, gear := none } else { spMach s m with causes := c } := by
  unfold withCauses
  split
  · rw [spMach_unpair_same, spMach_setSp_same]
  · rw [spMach_setSp_same]

theorem spMach_withCauses_other (c : SpCauses) {k : Nat} (h : k ≠ m) : spMach (withCauses m c s) k = spMach s k := by
  unfold withCauses
  split
  · rw [spMach_unpair_other _ _ h, spMach_setSp_other _ _ _ h]
  · rw [spMach_setSp_other _ _ _ h]

/-- The part beside the radio's chains. -/
def besideChains (s : State) : State := { s with radio := {} }

theorem besideChains_queueMachAnneal : besideChains (queueMachAnneal m s) = besideChains s := by
  refine foldl_keep besideChains (fun u c => ?_) _ s
  split
  · rfl
  · rfl

theorem setCauses_eq (f : SpCauses → SpCauses) : setCauses m f s =
    if ¬ (f (spMach s m).causes).any = true ∨ (spMach s m).causes.any = true then withCauses m (f (spMach s m).causes) s
    else bumpSetpt 0 (if (f (spMach s m).causes).fleet = true then withCauses m (f (spMach s m).causes) s
      else queueMachAnneal m (withCauses m (f (spMach s m).causes) s)) := rfl

/-- R333: an anneal that starts is counted and told; the causes stand as they were set. -/
theorem setCauses_told (f : SpCauses → SpCauses) :
    setCauses m f s = withCauses m (f (spMach s m).causes) s ∨
    ∃ t, besideChains t = besideChains (withCauses m (f (spMach s m).causes) s) ∧ setCauses m f s = bumpSetpt 0 t := by
  rw [setCauses_eq]
  split
  · exact .inl rfl
  · refine .inr ⟨_, ?_, rfl⟩
    split
    · rfl
    · exact besideChains_queueMachAnneal ..

end

end Sys2Proof.Machine
end

section
/-! Pairs, schedules, limits and anneals as commands (09_setpoint_engine.md R24, R293 to R301, R304): what each command's work comes to. -/

namespace Sys2Proof.Machine

open Sys2Proof

/-! ### A machine's causes set (R297) -/

section

variable (m : Nat) (f : SpCauses → SpCauses) (s : State)

theorem besideCauses_setCauses : besideCauses (setCauses m f s) = besideCauses s := by
  have hset := congrArg besideCauses (besideSetpt_withCauses m s (f (spMach s m).causes))
  obtain h | ⟨t, ht, h⟩ := setCauses_told m s f
  · rw [h]
    exact hset
  · rw [h]
    exact (congrArg besideCauses ht).trans hset

theorem spMach_setCauses (k : Nat) : spMach (setCauses m f s) k = spMach (withCauses m (f (spMach s m).causes) s) k := by
  obtain h | ⟨t, ht, h⟩ := setCauses_told m s f
  · rw [h]
  · rw [h]
    exact spMach_congr (congrArg (fun u => u.setpt.machs) ht :) k

/-- Of the engine's counters, an anneal that starts moves the first alone. -/
theorem countOf_setCauses {ev : Nat} (hev : ev ≠ 0) : countOf (setCauses m f s) 0x070054 ev = countOf s 0x070054 ev := by
  have hset : (withCauses m (f (spMach s m).causes) s).counts = s.counts := (congrArg State.counts (besideSetpt_withCauses ..) :)
  obtain h | ⟨t, ht, h⟩ := setCauses_told m s f
  · rw [h]
    exact countOf_congr hset ..
  · rw [h, bumpSetpt, bump, countOf_bumpBy_other _ _ (countKey_ne_sel _ hev)]
    exact countOf_congr ((congrArg State.counts ht :).trans hset) ..

theorem setCauses_causes : (spMach (setCauses m f s) m).causes = f (spMach s m).causes := by
  rw [spMach_setCauses, spMach_withCauses_same]
  split
  · rfl
  · rfl

/-- R297: an anneal breaks the machine's own pair. -/
theorem setCauses_gear (h : (f (spMach s m).causes).any = true) : (spMach (setCauses m f s) m).gear = none := by
  rw [spMach_setCauses, spMach_withCauses_same, if_pos h]

theorem spMach_setCauses_other {k : Nat} (h : k ≠ m) : spMach (setCauses m f s) k = spMach s k := by
  rw [spMach_setCauses, spMach_withCauses_other _ _ _ h]

theorem setCauses_sys : (setCauses m f s).sys = s.sys := (congrArg State.sys (besideCauses_setCauses m f s) :)

theorem setCauses_quench : (setCauses m f s).quench = s.quench := (congrArg State.quench (besideCauses_setCauses m f s) :)

theorem setCauses_clk : (setCauses m f s).clk = s.clk := (congrArg State.clk (besideCauses_setCauses m f s) :)

end

theorem SpCauses.any_of_gearLost (c : SpCauses) : ({ c with gearLost := true } : SpCauses).any = true := by simp [SpCauses.any]

/-! ### The work of the commands, and a refusal -/

/-- A command refused leaves every machine. -/
theorem SpReported.refused {r : SpResult} {c : SpCmd} {s t : State} (h : SpReported (r, spHead c s) t) :
    t.setpt.cmdResult = r ∧ t.setpt.machs = s.setpt.machs := ⟨h.result, h.machs⟩

/-- DISENGAGE's work (R300). -/
def disengageRun (f : Nat) (_ : SpCmd) (s : State) : SpRun :=
  if (spMach s f).gear.isNone then (.notGeared, s) else (.done, unpair f s)

/-- SCHED_CLEAR's work (R295). -/
def schedClearRun (f : Nat) (_ : SpCmd) (s : State) : SpRun :=
  match (spMach s f).gear with
  | none => (.notGeared, s)
  | some g => (.done, setSp f (fun x => { x with gear := some { g with sched := [] } }) s)

/-- The causes that ANNEAL_MACH sets (R297). -/
def hostSet (c : SpCauses) : SpCauses := { c with host := true }

theorem any_hostSet (c : SpCauses) : (hostSet c).any = true := by simp [SpCauses.any, hostSet]

/-- The causes that RESUME_MACH may clear (R297). -/
def resumed (c : SpCauses) : SpCauses := { c with host := false, gearLost := false, overrun := false }

/-- The work of ANNEAL_MACH and RESUME_MACH: the machine's causes changed (R297). -/
def causesRun (g : SpCauses → SpCauses) (m : Nat) (_ : SpCmd) (s : State) : SpRun := (.done, setCauses m g s)

/-- A command of the engine, by its operation and its work. -/
def SpOp (c : CmdSrc → Instr) (op : Nat) (f : Nat → SpCmd → State → SpRun) : Prop :=
  op < 256 ∧ ∀ q s, exec (c q) s = .next (bus s (setptCmd op q f))

/-- The commands that a stop of the same tick beats, each with its operation and its work. -/
theorem exists_spOp_move {c : CmdSrc → Instr}
    (hc : c = .engage ∨ c = .disengage ∨ c = .sched ∨ c = .schedClear ∨ c = .limits ∨ c = .resumeMach) :
    ∃ op f, SpOp c op f ∧ op ≠ 6 := by
  obtain rfl | rfl | rfl | rfl | rfl | rfl := hc
  · exact ⟨1, engageRun, ⟨by decide, fun _ _ => rfl⟩, by decide⟩
  · exact ⟨2, disengageRun, ⟨by decide, fun _ _ => rfl⟩, by decide⟩
  · exact ⟨3, schedRun, ⟨by decide, fun _ _ => rfl⟩, by decide⟩
  · exact ⟨4, schedClearRun, ⟨by decide, fun _ _ => rfl⟩, by decide⟩
  · exact ⟨5, limitsRun, ⟨by decide, fun _ _ => rfl⟩, by decide⟩
  · exact ⟨7, causesRun resumed, ⟨by decide, fun _ _ => rfl⟩, by decide⟩

theorem spOp_annealMach : SpOp .annealMach 6 (causesRun hostSet) := ⟨by decide, fun _ _ => rfl⟩

/-- R24, R304: a move loses to a stop of its machine that the tick has taken. -/
theorem move_loses_to_stop (s : State) (who : Master) (body : Bytes) (o : SpCmd) (c : CmdSrc → Instr) (hidle : SetptIdle s)
    (htakes : setptTakes s = true) (ho : o ∈ s.setpt.orders) (hlen : body.length = 32) (hstop : byteAt o.body 0 = 6)
    (hmach : byteAt o.body 1 = byteAt body 1)
    (hc : c = .engage ∨ c = .disengage ∨ c = .sched ∨ c = .schedClear ∨ c = .limits ∨ c = .resumeMach) :
    After (c (.regs who body)) s fun t =>
      t.setpt.cmdResult = .conflictLost ∧ t.setpt.machs = s.setpt.machs ∧ t.setpt.orders = s.setpt.orders := by
  obtain ⟨op, f, ⟨hop, hexec⟩, hmove⟩ := exists_spOp_move hc
  refine after_setptCmd (hexec ..) hidle (gridOn_of_setptTakes htakes) hop fun t ht => ?_
  have hlost : conflicted (spHead (spAsked who op body) s) (spAsked who op body) = true :=
    conflicted_of_stop ho hstop (hmach.trans (byteAt_spAsked hlen (by decide) who op).symm) (by rwa [byteAt_spAsked_op hop])
  rw [setptWork_conflicted (s := spHead (spAsked who op body) s) f htakes hlost] at ht
  exact ⟨ht.result, ht.machs, ht.orders (by simp)⟩

/-- R301: the modes without commands. -/
theorem command_refused_by_mode (s : State) (who : Master) (body : Bytes) (c : CmdSrc → Instr) (hidle : SetptIdle s)
    (hmode : s.sys.mode = .servitor ∨ s.sys.mode = .reserve ∨ s.sys.mode = .yielded)
    (hc : c = .engage ∨ c = .disengage ∨ c = .sched ∨ c = .schedClear ∨ c = .limits ∨ c = .annealMach ∨ c = .resumeMach) :
    After (c (.regs who body)) s fun t => t.setpt.cmdResult = .mode ∧ t.setpt.machs = s.setpt.machs ∧ t.sys = s.sys := by
  obtain ⟨op, f, hop, hexec⟩ : ∃ op f, SpOp c op f := by
    by_cases hstop : c = .annealMach
    · exact ⟨6, causesRun hostSet, hstop ▸ spOp_annealMach⟩
    · obtain ⟨op, f, h, -⟩ := exists_spOp_move (c := c) (by simpa [hstop] using hc)
      exact ⟨op, f, h⟩
  have hoff : setptTakes s = false ∧ gridOn s = true := by
    obtain hm | hm | hm := hmode
    all_goals simp [setptTakes, gridOn, hm]
  refine after_setptCmd (hexec ..) hidle hoff.2 hop fun t ht => ?_
  rw [setptWork_mode (s := spHead (spAsked who op body) s) f hoff.1] at ht
  exact ⟨ht.result, ht.machs, ht.sys⟩

/-! ### ENGAGE (R293, R294, R301) -/

/-- A master that has no pair yet forgets its last report (R292). -/
def reportDropped (m : Nat) (s : State) : State := if isMaster s m then s else { s with setpt.odos := kdel s.setpt.odos m }

/-- A pair of two machines, in place of the follower's own. -/
def paired (f m k : Nat) (s : State) : State :=
  setSp f (fun x => { x with gear := some { master := m, ratio0 := BitVec.ofNat 32 k, since := (reportDropped m (unpair f s)).clk } })
    (reportDropped m (unpair f s))

section

variable (f m k : Nat) (s : State)

theorem spMach_reportDropped (j : Nat) : spMach (reportDropped m s) j = spMach s j := by
  unfold reportDropped
  split
  · rfl
  · rfl

theorem besideSetpt_reportDropped : besideSetpt (reportDropped m s) = besideSetpt s := by
  unfold reportDropped
  split
  · rfl
  · rfl

theorem besideSetpt_paired : besideSetpt (paired f m k s) = besideSetpt s :=
  (besideSetpt_reportDropped m (unpair f s)).trans (besideSetpt_unpair f s)

theorem paired_gear : (spMach (paired f m k s) f).gear = some { master := m, ratio0 := BitVec.ofNat 32 k, since := s.clk } := by
  have hclk : (reportDropped m (unpair f s)).clk = s.clk := (congrArg State.clk (besideSetpt_paired f m k s) :)
  rw [paired, spMach_setSp_same, hclk]

theorem spMach_paired_other {j : Nat} (h : j ≠ f) : spMach (paired f m k s) j = spMach s j := by
  rw [paired, spMach_setSp_other _ _ _ h, spMach_reportDropped, spMach_unpair_other _ _ h]

end

section

variable {s t : State} (h : t.setpt.machs = s.setpt.machs)

include h

theorem depthOf_congr (n m : Nat) : depthOf t n m = depthOf s n m := by
  induction n generalizing m with
  | zero => rfl
  | succ n ih => simp only [depthOf, spMach_congr h, ih]

theorem aboveOf_congr (m n k : Nat) : aboveOf t m n k = aboveOf s m n k := by
  induction n generalizing k with
  | zero => rfl
  | succ n ih => simp only [aboveOf, spMach_congr h, ih]

theorem heightOf_congr (n m : Nat) : heightOf t n m = heightOf s n m := by
  induction n generalizing m with
  | zero => rfl
  | succ n ih => simp only [heightOf, h, ih]

end

section

variable {f m k : Nat} {c : SpCmd} {s : State}

theorem engageRun_anneal (h : s.sys.mode = .anneal) : engageRun f c s = (.mode, s) := if_pos h

variable (hmode : s.sys.mode ≠ .anneal) (hm : byteAt c.body 2 = m) (hk : leAt c.body 4 4 = k)

include hmode hm hk

theorem engageRun_eq : engageRun f c s =
    if 128 ≤ m ∨ ¬ ratioOk k then (.badParam, s)
    else if reservedChain s f = [] ∨ reservedChain s m = [] then (.noChain, s)
    else if m = f ∨ aboveOf s f 8 m = true ∨ 4 < depthOf s 8 m + 1 + heightOf s 8 f then (.loop, s)
    else (.done, paired f m k s) := by
  subst hm hk
  exact if_neg hmode

theorem engageRun_bad (h : 128 ≤ m ∨ k = 0 ∨ 0x40000 < k) : engageRun f c s = (.badParam, s) :=
  (engageRun_eq hmode hm hk).trans (if_pos (by simp only [ratioOk, decide_eq_true_eq]; omega))

variable (hmax : m < 128) (hlow : 1 ≤ k) (hhigh : k ≤ 0x40000)

include hmax hlow hhigh

theorem engageRun_good : engageRun f c s =
    if reservedChain s f = [] ∨ reservedChain s m = [] then (.noChain, s)
    else if m = f ∨ aboveOf s f 8 m = true ∨ 4 < depthOf s 8 m + 1 + heightOf s 8 f then (.loop, s)
    else (.done, paired f m k s) :=
  (engageRun_eq hmode hm hk).trans (if_neg (by simp only [ratioOk, decide_eq_true_eq]; omega))

theorem engageRun_noChain (h : reservedChain s f = [] ∨ reservedChain s m = []) : engageRun f c s = (.noChain, s) :=
  (engageRun_good hmode hm hk hmax hlow hhigh).trans (if_pos h)

variable (hf : reservedChain s f ≠ []) (hchain : reservedChain s m ≠ [])

include hf hchain

theorem engageRun_loop (h : m = f) : engageRun f c s = (.loop, s) :=
  (engageRun_good hmode hm hk hmax hlow hhigh).trans ((if_neg (not_or.mpr ⟨hf, hchain⟩)).trans (if_pos (.inl h)))

theorem engageRun_done (hne : m ≠ f) (habove : aboveOf s f 8 m = false) (hdepth : depthOf s 8 m + 1 + heightOf s 8 f ≤ 4) :
    engageRun f c s = (.done, paired f m k s) :=
  (engageRun_good hmode hm hk hmax hlow hhigh).trans
    ((if_neg (not_or.mpr ⟨hf, hchain⟩)).trans (if_neg (by simp [hne, habove, hdepth])))

end

theorem besideSetpt_engageRun (f : Nat) (c : SpCmd) (s : State) : besideSetpt (engageRun f c s).2 = besideSetpt s := by
  unfold engageRun
  dsimp only
  split
  · rfl
  · split
    · rfl
    · split
      · rfl
      · split
        · rfl
        · exact besideSetpt_paired f (byteAt c.body 2) (leAt c.body 4 4) s

theorem engage_command (s : State) (who : Master) (body : Bytes) (f m : Nat) (h : SetptFree s) (hlen : body.length = 32)
    (hf : f = byteAt body 1) (hmax : f < 128) (hm : m = byteAt body 2) :
    After (.engage (.regs who body)) s fun t => t.grid = s.grid ∧ t.lode = s.lode ∧ t.setpt.cmdBusy = false ∧
      (s.sys.mode = .anneal → t.setpt.cmdResult = .mode ∧ t.setpt.machs = s.setpt.machs) ∧
      (s.sys.mode ≠ .anneal → (128 ≤ m ∨ leAt body 4 4 = 0 ∨ 0x40000 < leAt body 4 4) → t.setpt.cmdResult = .badParam ∧ t.setpt.machs = s.setpt.machs) ∧
      (s.sys.mode ≠ .anneal → m < 128 → 1 ≤ leAt body 4 4 → leAt body 4 4 ≤ 0x40000 → (reservedChain s f = [] ∨ reservedChain s m = []) →
        t.setpt.cmdResult = .noChain ∧ t.setpt.machs = s.setpt.machs) ∧
      (s.sys.mode ≠ .anneal → m < 128 → 1 ≤ leAt body 4 4 → leAt body 4 4 ≤ 0x40000 → reservedChain s f ≠ [] → reservedChain s m ≠ [] →
        (m = f → t.setpt.cmdResult = .loop ∧ t.setpt.machs = s.setpt.machs) ∧
        (m ≠ f → aboveOf s f 8 m = false → depthOf s 8 m + 1 + heightOf s 8 f ≤ 4 → t.setpt.cmdResult = .done ∧
          (spMach t f).gear = some { master := m, ratio0 := BitVec.ofNat 32 (leAt body 4 4), since := s.clk } ∧ ∀ k, k ≠ f → spMach t k = spMach s k)) := by
  subst hf
  refine after_setptCmd_free (f := engageRun) rfl h (by decide) hlen hmax fun t ht => ?_
  have hmaster : byteAt (spAsked who 1 body).body 2 = m := (byteAt_spAsked hlen (by decide) who 1).trans hm.symm
  have hratio := leAt_spAsked hlen (ofs := 4) (by decide) who 1 4
  generalize byteAt body 1 = f at ht ⊢
  generalize leAt body 4 4 = k at hratio ⊢
  generalize spAsked who 1 body = c at ht hmaster hratio
  have hbeside := besideSetpt_engageRun f c (spHead c s)
  have hmachs : (spHead c s).setpt.machs = s.setpt.machs := rfl
  refine ⟨ht.grid.trans (congrArg State.grid hbeside :), ht.lode.trans (congrArg State.lode hbeside :), ht.idle, fun hanneal => ?mode,
    fun hmode hbad => ?bad, fun hmode hm hlow hhigh hnone => ?noChain, fun hmode hm hlow hhigh hown hother => ⟨fun hself => ?loop,
    fun hne habove hdepth => ?done⟩⟩
  case mode =>
    rw [engageRun_anneal (s := spHead c s) hanneal] at ht
    exact ht.refused
  case bad =>
    rw [engageRun_bad (s := spHead c s) hmode hmaster hratio hbad] at ht
    exact ht.refused
  case noChain =>
    rw [engageRun_noChain (s := spHead c s) hmode hmaster hratio hm hlow hhigh hnone] at ht
    exact ht.refused
  case loop =>
    rw [engageRun_loop (s := spHead c s) hmode hmaster hratio hm hlow hhigh hown hother hself] at ht
    exact ht.refused
  case done =>
    rw [engageRun_done (s := spHead c s) hmode hmaster hratio hm hlow hhigh hown hother hne
      ((aboveOf_congr hmachs ..).trans habove) (by rwa [depthOf_congr hmachs, heightOf_congr hmachs])] at ht
    exact ⟨ht.result, by rw [ht.mach]; exact paired_gear .., fun j hj => by rw [ht.mach]; exact spMach_paired_other _ _ _ _ hj⟩

/-! ### DISENGAGE (R300) -/

section

variable {f : Nat} {s : State}

theorem disengageRun_unpaired (c : SpCmd) (h : (spMach s f).gear = none) : disengageRun f c s = (.notGeared, s) := if_pos (by simp [h])

theorem disengageRun_paired (c : SpCmd) (h : (spMach s f).gear.isSome = true) : disengageRun f c s = (.done, unpair f s) :=
  if_neg (by simpa [Option.isSome_iff_ne_none] using h)

end

theorem besideSetpt_disengageRun (f : Nat) (c : SpCmd) (s : State) : besideSetpt (disengageRun f c s).2 = besideSetpt s := by
  unfold disengageRun
  split
  · rfl
  · exact besideSetpt_unpair ..

theorem disengage_command (s : State) (who : Master) (body : Bytes) (f : Nat) (h : SetptFree s) (hlen : body.length = 32)
    (hf : f = byteAt body 1) (hmax : f < 128) :
    After (.disengage (.regs who body)) s fun t => t.grid = s.grid ∧
      ((spMach s f).gear = none → t.setpt.cmdResult = .notGeared ∧ t.setpt.machs = s.setpt.machs) ∧
      ((spMach s f).gear.isSome = true →
        t.setpt.cmdResult = .done ∧ spMach t f = { spMach s f with gear := none } ∧ ∀ k, k ≠ f → spMach t k = spMach s k) := by
  subst hf
  refine after_setptCmd_free (f := disengageRun) rfl h (by decide) hlen hmax fun t ht => ?_
  generalize byteAt body 1 = f at ht ⊢
  generalize spAsked who 2 body = c at ht
  refine ⟨ht.grid.trans (congrArg State.grid (besideSetpt_disengageRun f c (spHead c s)) :), fun hnone => ?unpaired, fun hpair => ?paired⟩
  case unpaired =>
    rw [disengageRun_unpaired (s := spHead c s) c hnone] at ht
    exact ht.refused
  case paired =>
    rw [disengageRun_paired (s := spHead c s) c hpair] at ht
    exact ⟨ht.result, by rw [ht.mach]; exact spMach_unpair_same .., fun j hj => by rw [ht.mach]; exact spMach_unpair_other _ _ hj⟩

/-! ### Schedules (R295) -/

/-- The schedule entry that a SCHED command asks for. -/
def askedEntry (body : Bytes) : SchedEntry :=
  { pos := BitVec.ofNat 32 (leAt body 8 4), ratio := BitVec.ofNat 32 (leAt body 4 4), blend := leAt body 12 4 }

/-- A schedule with an entry put in its place, or after the last. -/
def entryPut (l : List SchedEntry) (i : Nat) (e : SchedEntry) : List SchedEntry := if i = l.length then l ++ [e] else l.set i e

theorem getElem?_entryPut {l : List SchedEntry} {i : Nat} (h : i ≤ l.length) (e : SchedEntry) : (entryPut l i e)[i]? = some e := by
  unfold entryPut
  split
  · next hi => simp [hi]
  · exact List.getElem?_set_self (by omega)

theorem length_entryPut {l : List SchedEntry} {i : Nat} (h : i < 8) (e : SchedEntry) : (entryPut l i e).length ≤ max 8 l.length := by
  unfold entryPut
  split
  · rw [List.length_append, List.length_singleton]
    omega
  · rw [List.length_set]
    omega

/-- A good entry has one of the eight places, no further on than the first that is free. -/
theorem index_of_schedOk {g : Gear} {i : Nat} {e : SchedEntry} (h : schedOk g i e = true) : i < 8 ∧ i ≤ g.sched.length := by
  simp only [schedOk, Bool.and_eq_true, decide_eq_true_eq] at h
  exact ⟨h.1.1.1, h.1.1.2.1⟩

theorem schedRun_unpaired {f : Nat} {s : State} (c : SpCmd) (h : (spMach s f).gear = none) : schedRun f c s = (.notGeared, s) := by
  rw [schedRun, h]

theorem schedClearRun_unpaired {f : Nat} {s : State} (c : SpCmd) (h : (spMach s f).gear = none) : schedClearRun f c s = (.notGeared, s) := by
  rw [schedClearRun, h]

theorem schedClearRun_paired {f : Nat} {s : State} {g : Gear} (c : SpCmd) (h : (spMach s f).gear = some g) :
    schedClearRun f c s = (.done, setSp f (fun x => { x with gear := some { g with sched := [] } }) s) := by
  rw [schedClearRun, h]

section

variable {f i : Nat} {c : SpCmd} {s : State} {g : Gear} {e : SchedEntry} (hgear : (spMach s f).gear = some g)
  (hi : byteAt c.body 3 = i) (he : askedEntry c.body = e)

include hgear hi he

theorem schedRun_eq : schedRun f c s =
    if ¬ schedOk g i e then (.badParam, s)
    else if passed s g e.pos then (.passed, s)
    else (.done, setSp f (fun x => { x with gear := some { g with sched := entryPut g.sched i e } }) s) := by
  subst hi he
  rw [schedRun, hgear]
  rfl

theorem schedRun_bad (h : schedOk g i e = false) : schedRun f c s = (.badParam, s) :=
  (schedRun_eq hgear hi he).trans (if_pos (by simp [h]))

theorem schedRun_passed (h : schedOk g i e = true) (hpassed : passed s g e.pos = true) : schedRun f c s = (.passed, s) :=
  (schedRun_eq hgear hi he).trans ((if_neg (by simp [h])).trans (if_pos hpassed))

theorem schedRun_done (h : schedOk g i e = true) (hahead : passed s g e.pos = false) :
    schedRun f c s = (.done, setSp f (fun x => { x with gear := some { g with sched := entryPut g.sched i e } }) s) :=
  (schedRun_eq hgear hi he).trans ((if_neg (by simp [h])).trans (if_neg (by simp [hahead])))

end

theorem sched_unpaired (s : State) (who : Master) (body : Bytes) (f : Nat) (h : SetptFree s) (hlen : body.length = 32)
    (hf : f = byteAt body 1) (hmax : f < 128) (hgear : (spMach s f).gear = none) (c : CmdSrc → Instr) (hc : c = .sched ∨ c = .schedClear) :
    After (c (.regs who body)) s fun t => t.setpt.cmdResult = .notGeared ∧ t.setpt.machs = s.setpt.machs := by
  subst hf
  obtain rfl | rfl := hc
  · refine after_setptCmd_free (f := schedRun) rfl h (by decide) hlen hmax fun t ht => ?_
    rw [schedRun_unpaired (s := spHead _ s) _ hgear] at ht
    exact ht.refused
  · refine after_setptCmd_free (f := schedClearRun) rfl h (by decide) hlen hmax fun t ht => ?_
    rw [schedClearRun_unpaired (s := spHead _ s) _ hgear] at ht
    exact ht.refused

theorem sched_command (s : State) (who : Master) (body : Bytes) (f : Nat) (h : SetptFree s) (hlen : body.length = 32)
    (hf : f = byteAt body 1) (hmax : f < 128) {g : Gear} (hgear : (spMach s f).gear = some g) {e : SchedEntry} (he : e = askedEntry body) :
    After (.sched (.regs who body)) s fun t =>
      (schedOk g (byteAt body 3) e = false → t.setpt.cmdResult = .badParam ∧ t.setpt.machs = s.setpt.machs) ∧
      (schedOk g (byteAt body 3) e = true → passed s g e.pos = true → t.setpt.cmdResult = .passed ∧ t.setpt.machs = s.setpt.machs) ∧
      (schedOk g (byteAt body 3) e = true → passed s g e.pos = false → t.setpt.cmdResult = .done ∧
        ∃ g', (spMach t f).gear = some g' ∧ g'.sched[byteAt body 3]? = some e ∧ g'.master = g.master ∧ g'.ratio0 = g.ratio0 ∧
          g'.sched.length ≤ max 8 g.sched.length) := by
  subst hf
  refine after_setptCmd_free (f := schedRun) rfl h (by decide) hlen hmax fun t ht => ?_
  have hi : byteAt (spAsked who 3 body).body 3 = byteAt body 3 := byteAt_spAsked hlen (by decide) who 3
  have hentry : askedEntry (spAsked who 3 body).body = e := by
    rw [he, askedEntry, askedEntry, leAt_spAsked hlen (by decide), leAt_spAsked hlen (by decide), leAt_spAsked hlen (by decide)]
  generalize byteAt body 1 = f at ht hgear ⊢
  generalize byteAt body 3 = i at hi ⊢
  generalize spAsked who 3 body = c at ht hi hentry
  refine ⟨fun hbad => ?bad, fun hgood hpassed => ?passed, fun hgood hahead => ?done⟩
  case bad =>
    rw [schedRun_bad (s := spHead c s) hgear hi hentry hbad] at ht
    exact ht.refused
  case passed =>
    rw [schedRun_passed (s := spHead c s) hgear hi hentry hgood hpassed] at ht
    exact ht.refused
  case done =>
    rw [schedRun_done (s := spHead c s) hgear hi hentry hgood hahead] at ht
    obtain ⟨hplace, hfree⟩ := index_of_schedOk hgood
    exact ⟨ht.result, { g with sched := entryPut g.sched i e }, by rw [ht.mach, spMach_setSp_same], getElem?_entryPut hfree e, rfl, rfl, length_entryPut hplace e⟩

theorem schedClear_command (s : State) (who : Master) (body : Bytes) (f : Nat) (h : SetptFree s) (hlen : body.length = 32)
    (hf : f = byteAt body 1) (hmax : f < 128) {g : Gear} (hgear : (spMach s f).gear = some g) :
    After (.schedClear (.regs who body)) s fun t =>
      t.setpt.cmdResult = .done ∧ spMach t f = { spMach s f with gear := some { g with sched := [] } } := by
  subst hf
  refine after_setptCmd_free (f := schedClearRun) rfl h (by decide) hlen hmax fun t ht => ?_
  rw [schedClearRun_paired (s := spHead _ s) _ hgear] at ht
  exact ⟨ht.result, by rw [ht.mach]; exact spMach_setSp_same ..⟩

/-! ### LIMITS (R299, R300) -/

section

variable {m v n a : Nat} {c : SpCmd} {s : State} {k : SpClass} (hk : spClassOf s m = some k)
  (hv : leAt c.body 0x10 2 = v) (hn : leAt c.body 0x12 2 = n) (ha : leAt c.body 0x14 2 = a)

include hk hv hn ha

theorem limitsRun_eq : limitsRun m c s =
    if k.vFwd < v ∨ k.dNorm < n ∨ k.dAnneal < a ∨ (if a = 0 then k.dAnneal else a) < (if n = 0 then k.dNorm else n) then (.badParam, s)
    else (.done, setSp m (fun x => { x with vMax := v, dNorm := n, dAnneal := a }) s) := by
  subst hv hn ha
  rw [limitsRun, hk]

theorem limitsRun_bad (h : k.vFwd < v ∨ k.dNorm < n ∨ k.dAnneal < a) : limitsRun m c s = (.badParam, s) :=
  (limitsRun_eq hk hv hn ha).trans (if_pos (by omega))

theorem limitsRun_done (hvmax : v ≤ k.vFwd) (hnmax : n ≤ k.dNorm) (hamax : a ≤ k.dAnneal) (hpos : 0 < n) (hle : n ≤ a) :
    limitsRun m c s = (.done, setSp m (fun x => { x with vMax := v, dNorm := n, dAnneal := a }) s) :=
  (limitsRun_eq hk hv hn ha).trans (if_neg (by
    rw [if_neg (show a ≠ 0 by omega), if_neg (show n ≠ 0 by omega)]
    omega))

end

theorem besideSetpt_limitsRun (m : Nat) (c : SpCmd) (s : State) : besideSetpt (limitsRun m c s).2 = besideSetpt s := by
  unfold limitsRun
  dsimp only
  split
  · rfl
  · rw [apply_ite Prod.snd, apply_ite besideSetpt]
    exact ite_self (besideSetpt s)

theorem limits_command (s : State) (who : Master) (body : Bytes) (f : Nat) (h : SetptFree s) (hlen : body.length = 32)
    (hf : f = byteAt body 1) (hmax : f < 128) {k : SpClass} (hk : spClassOf s f = some k) :
    After (.limits (.regs who body)) s fun t => t.grid = s.grid ∧
      ((k.vFwd < leAt body 0x10 2 ∨ k.dNorm < leAt body 0x12 2 ∨ k.dAnneal < leAt body 0x14 2) → t.setpt.cmdResult = .badParam ∧ t.setpt.machs = s.setpt.machs) ∧
      (leAt body 0x10 2 ≤ k.vFwd → leAt body 0x12 2 ≤ k.dNorm → leAt body 0x14 2 ≤ k.dAnneal → 0 < leAt body 0x12 2 → leAt body 0x12 2 ≤ leAt body 0x14 2 →
        t.setpt.cmdResult = .done ∧ spMach t f = { spMach s f with vMax := leAt body 0x10 2, dNorm := leAt body 0x12 2, dAnneal := leAt body 0x14 2 } ∧
        ∀ j, j ≠ f → spMach t j = spMach s j) := by
  subst hf
  refine after_setptCmd_free (f := limitsRun) rfl h (by decide) hlen hmax fun t ht => ?_
  have hv := leAt_spAsked hlen (ofs := 0x10) (by decide) who 5 2
  have hn := leAt_spAsked hlen (ofs := 0x12) (by decide) who 5 2
  have ha := leAt_spAsked hlen (ofs := 0x14) (by decide) who 5 2
  generalize byteAt body 1 = f at ht hk ⊢
  generalize spAsked who 5 body = c at ht hv hn ha
  refine ⟨ht.grid.trans (congrArg State.grid (besideSetpt_limitsRun f c (spHead c s)) :), fun hbad => ?bad,
    fun hvmax hnmax hamax hpos hle => ?done⟩
  case bad =>
    rw [limitsRun_bad (s := spHead c s) hk hv hn ha hbad] at ht
    exact ht.refused
  case done =>
    rw [limitsRun_done (s := spHead c s) hk hv hn ha hvmax hnmax hamax hpos hle] at ht
    exact ⟨ht.result, by rw [ht.mach]; exact spMach_setSp_same .., fun j hj => by rw [ht.mach]; exact spMach_setSp_other _ _ _ hj⟩

/-! ### ANNEAL_MACH and RESUME_MACH (R297) -/

/-- What a command that changes a machine's causes leaves. -/
theorem after_causesRun {i : Instr} {s : State} {op : Nat} {who : Master} {body : Bytes} (g : SpCauses → SpCauses)
    (hi : exec i s = .next (bus s (setptCmd op (.regs who body) (causesRun g)))) (h : SetptFree s) (hop : op < 256) (hlen : body.length = 32)
    {f : Nat} (hf : f = byteAt body 1) (hmax : f < 128) :
    After i s fun t => t.setpt.cmdResult = .done ∧ (spMach t f).causes = g (spMach s f).causes ∧
      ((g (spMach s f).causes).any = true → (spMach t f).gear = none) ∧ t.sys = s.sys ∧ t.quench = s.quench ∧
      ∀ k, k ≠ f → spMach t k = spMach s k := by
  subst hf
  refine after_setptCmd_free hi h hop hlen hmax fun t ht => ?_
  generalize byteAt body 1 = f at ht ⊢
  generalize hu : spHead (spAsked who op body) s = u at ht
  have hmach (k : Nat) : spMach u k = spMach s k := hu ▸ rfl
  have hsys : u.sys = s.sys := hu ▸ rfl
  have hquench : u.quench = s.quench := hu ▸ rfl
  rw [← hmach f, ← hsys, ← hquench]
  refine ⟨ht.result, ?_, fun hany => ?_, ht.sys.trans (setCauses_sys f g u), ht.quench.trans (setCauses_quench f g u), fun k hk => ?_⟩
  · exact (congrArg SpMach.causes (ht.mach f)).trans (setCauses_causes f g u)
  · exact (congrArg SpMach.gear (ht.mach f)).trans (setCauses_gear f g u hany)
  · exact (ht.mach k).trans ((spMach_setCauses_other f g u hk).trans (hmach k))

theorem annealMach_command (s : State) (who : Master) (body : Bytes) (f : Nat) (h : SetptFree s) (hlen : body.length = 32)
    (hf : f = byteAt body 1) (hmax : f < 128) :
    After (.annealMach (.regs who body)) s fun t => t.setpt.cmdResult = .done ∧ (spMach t f).causes = { (spMach s f).causes with host := true } ∧
      (spMach t f).gear = none ∧ t.sys = s.sys ∧ t.quench = s.quench ∧ ∀ k, k ≠ f → spMach t k = spMach s k := by
  obtain ⟨t, ht, hdone, hcauses, hgear, hsys, hquench, hothers⟩ :=
    after_causesRun (i := .annealMach (.regs who body)) (op := 6) hostSet rfl h (by decide) hlen hf hmax
  exact ⟨t, ht, hdone, hcauses, hgear (any_hostSet _), hsys, hquench, hothers⟩

theorem resumeMach_command (s : State) (who : Master) (body : Bytes) (f : Nat) (h : SetptFree s) (hlen : body.length = 32)
    (hf : f = byteAt body 1) (hmax : f < 128) :
    After (.resumeMach (.regs who body)) s fun t => t.setpt.cmdResult = .done ∧
      (spMach t f).causes = { (spMach s f).causes with host := false, gearLost := false, overrun := false } ∧ t.sys = s.sys ∧
      ∀ k, k ≠ f → spMach t k = spMach s k := by
  obtain ⟨t, ht, hdone, hcauses, -, hsys, -, hothers⟩ :=
    after_causesRun (i := .resumeMach (.regs who body)) (op := 7) resumed rfl h (by decide) hlen hf hmax
  exact ⟨t, ht, hdone, hcauses, hsys, hothers⟩

end Sys2Proof.Machine
end

section
/-! Odometers, broken pairs and the tables of set-points (09_setpoint_engine.md R288, R292, R296). -/

namespace Sys2Proof.Machine

open Sys2Proof

/-! ### Odometer reports (R292) -/

/-- The report that a record of 20 bytes holds. -/
def reportOf (rec : Bytes) (clk : Nat) : Odo :=
  { seq := BitVec.ofNat 16 (leAt rec 2 2), odo := BitVec.ofNat 32 (leAt rec 4 4), speed := signedOf 16 (leAt rec 8 2),
    time := BitVec.ofNat 64 (leAt rec 12 8), at_ := clk }

/-- A report comes from a sender that may send it. -/
def knownSender (s : State) (m : Nat) : Option (BitVec 64) → Bool
  | some e => s.rtk.cfg.admitted.any (fun a => a.mach == m && a.eui == e)
  | none => true

/-- A report is later than the last one kept of its machine. -/
def laterReport (s : State) (m : Nat) (seq : BitVec 16) : Bool :=
  match kget s.setpt.odos m with
  | some o => decide (1 ≤ (seq - o.seq).toNat ∧ (seq - o.seq).toNat ≤ 32767)
  | none => true

/-- A pair's time without reports starts again when its master reports. -/
def heardFrom (m clk : Nat) (x : SpMach) : SpMach :=
  { x with gear := x.gear.map (fun (g : Gear) => if g.master = m then { g with since := clk } else g) }

/-- A report kept. -/
def reportKept (rec : Bytes) (s : State) : State :=
  { s with setpt := { s.setpt with
    odos := kset s.setpt.odos (byteAt rec 0) (reportOf rec s.clk)
    machs := s.setpt.machs.map (fun p => (p.1, heardFrom (byteAt rec 0) s.clk p.2)) } }

theorem odometer_eq (rec : Bytes) (eui : Option (BitVec 64)) (s : State) : odometer rec eui s =
    if ¬ isMaster s (byteAt rec 0) ∨ ¬ knownSender s (byteAt rec 0) eui ∨
      ¬ laterReport s (byteAt rec 0) (BitVec.ofNat 16 (leAt rec 2 2)) then bumpSetpt 6 s
    else reportKept rec s := by
  cases eui <;> rfl

/-- The distance of two sequence numbers of 16 bits. -/
theorem toNat_seq_sub (n : Nat) (x : BitVec 16) : (BitVec.ofNat 16 n - x).toNat = (n + 2 ^ 16 - x.toNat) % 2 ^ 16 := by
  rw [BitVec.toNat_sub, BitVec.toNat_ofNat]
  have := x.isLt
  omega

theorem laterReport_eq {s : State} {m : Nat} {o : Odo} (h : kget s.setpt.odos m = some o) (n : Nat) :
    laterReport s m (BitVec.ofNat 16 n) =
      decide (1 ≤ (n + 2 ^ 16 - o.seq.toNat) % 2 ^ 16 ∧ (n + 2 ^ 16 - o.seq.toNat) % 2 ^ 16 ≤ 32767) := by
  rw [laterReport, h]
  simp only [toNat_seq_sub]

theorem spMach_reportKept (rec : Bytes) (s : State) (k : Nat) :
    spMach (reportKept rec s) k = heardFrom (byteAt rec 0) s.clk (spMach s k) := by
  rw [spMach, spMach, reportKept, kget_map fun _ => heardFrom (byteAt rec 0) s.clk]
  cases kget s.setpt.machs k with
  | none => rfl
  | some x => rfl

theorem after_odometerReport {s : State} {rec : Bytes} {eui : Option (BitVec 64)} {P : State → Prop} (hrun : Running s)
    (htakes : setptTakes s = true) (hlen : rec.length = 20) (hP : P (odometer rec eui s)) : After (.odometerReport rec eui) s P := by
  refine after_bus rfl hrun ?_
  rwa [if_pos htakes, padTo_of_length hlen]

/-- A report that is not kept is counted, and nothing else. -/
theorem odometer_discarded {s : State} {rec : Bytes} {eui : Option (BitVec 64)} (hrun : Running s) (htakes : setptTakes s = true)
    (hlen : rec.length = 20)
    (h : isMaster s (byteAt rec 0) = false ∨ laterReport s (byteAt rec 0) (BitVec.ofNat 16 (leAt rec 2 2)) = false) :
    After (.odometerReport rec eui) s fun t => t = { s with counts := t.counts } ∧ countOf t 0x070054 6 = countOf s 0x070054 6 + 1 := by
  refine after_odometerReport hrun htakes hlen ?_
  have hdiscards : odometer rec eui s = bumpSetpt 6 s := by
    rw [odometer_eq, if_pos]
    obtain h | h := h
    · exact .inl (by simp [h])
    · exact .inr (.inr (by simp [h]))
  rw [hdiscards]
  exact ⟨rfl, countOf_bumpBy_same ..⟩

/-- A later report of a pair's master is kept, and its followers' time starts again. -/
theorem odometer_kept {s : State} {rec : Bytes} (hrun : Running s) (htakes : setptTakes s = true) (hlen : rec.length = 20)
    (hmaster : isMaster s (byteAt rec 0) = true) (hlater : laterReport s (byteAt rec 0) (BitVec.ofNat 16 (leAt rec 2 2)) = true) :
    After (.odometerReport rec none) s fun t =>
      kget t.setpt.odos (byteAt rec 0) = some (reportOf rec s.clk) ∧
      (∀ k g, (spMach s k).gear = some g → g.master = byteAt rec 0 → (spMach t k).gear = some { g with since := s.clk }) ∧
      t = { s with setpt := { s.setpt with odos := t.setpt.odos, machs := t.setpt.machs } } := by
  refine after_odometerReport hrun htakes hlen ?_
  rw [odometer_eq, if_neg (by simp [hmaster, hlater, knownSender])]
  refine ⟨kget_kset_same .., fun k g hgear hg => ?_, rfl⟩
  rw [spMach_reportKept, heardFrom, hgear]
  exact congrArg some (if_pos hg)

/-! ### A pair without reports (R296) -/

section

variable (m : Nat) (s : State)

/-- What GEAR_LOST leaves of its machine and of the others. -/
theorem gearLost_machs : (spMach (gearLost m s) m).gear = none ∧
    (spMach (gearLost m s) m).causes = { (spMach s m).causes with gearLost := true } ∧ ∀ k, k ≠ m → spMach (gearLost m s) k = spMach s k := by
  have hmachs (k : Nat) : spMach (gearLost m s) k = spMach (setCauses m (fun c => { c with gearLost := true }) (unpair m s)) k :=
    spMach_congr (congrArg Setpt.machs (raise_setpt ..)) k
  refine ⟨?_, ?_, fun k hk => ?_⟩
  · rw [hmachs]
    exact setCauses_gear _ _ _ (SpCauses.any_of_gearLost _)
  · rw [hmachs, setCauses_causes, spMach_unpair_same]
  · rw [hmachs, spMach_setCauses_other _ _ _ hk, spMach_unpair_other _ _ hk]

theorem gearLost_clk : (gearLost m s).clk = s.clk :=
  (raise_clk ..).trans ((setCauses_clk m _ (unpair m s)).trans (unpair_clk m s))

theorem countOf_gearLost : countOf (gearLost m s) 0x070054 5 = countOf s 0x070054 5 + 1 := by
  rw [gearLost, countOf_congr (raise_counts ..), bumpSetpt, bump, countOf_bumpBy_same, countOf_setCauses _ _ _ (by decide),
    countOf_congr (unpair_counts m s)]

theorem regBit_gearLost : regBit (gearLost m s) 0x070060 3 = true := regBit_raise_same _ (b := bSETPT) (by decide) (by decide)

end

/-- When the time of a pair without reports has passed. -/
def staleAt (g : Gear) (s : State) : Nat := g.since + s.setpt.cfg.odoStaleMs * 10 ^ 6

theorem after_gearLost {s : State} {m : Fin 128} {g : Gear} {P : State → Prop} (hrun : Running s) (htakes : setptTakes s = true)
    (hgear : (spMach s m).gear = some g) (hP : P (gearLost m (advanceClk (staleAt g s) s))) : After (.gearLost m) s P := by
  refine after_bus rfl hrun ?_
  rw [hgear]
  dsimp only
  rwa [if_pos htakes]

theorem gearLost_event (s : State) (m : Fin 128) (g : Gear) (hrun : Running s) (htakes : setptTakes s = true)
    (hgear : (spMach s m).gear = some g) :
    After (.gearLost m) s fun t =>
      (spMach t m).gear = none ∧ (spMach t m).causes = { (spMach s m).causes with gearLost := true } ∧ regBit t 0x070060 3 = true ∧
      countOf t 0x070054 5 = countOf s 0x070054 5 + 1 ∧ t.clk = max s.clk (g.since + s.setpt.cfg.odoStaleMs * 10 ^ 6) ∧
      ∀ k, k ≠ m.val → spMach t k = spMach s k := by
  have hclk : (gearLost m (advanceClk (staleAt g s) s)).clk = max s.clk (staleAt g s) := (gearLost_clk ..).trans (advanceClk_clk ..)
  have hcount : countOf (gearLost m (advanceClk (staleAt g s) s)) 0x070054 5 = countOf s 0x070054 5 + 1 := by
    rw [countOf_gearLost, countOf_congr (advanceClk_counts ..)]
  have hmachs (k : Nat) : spMach (advanceClk (staleAt g s) s) k = spMach s k := spMach_congr (congrArg Setpt.machs (advanceClk_setpt ..)) k
  obtain ⟨hnone, hcauses, hothers⟩ := gearLost_machs m (advanceClk (staleAt g s) s)
  rw [hmachs] at hcauses
  exact after_gearLost hrun htakes hgear
    ⟨hnone, hcauses, regBit_gearLost .., hcount, hclk, fun k hk => (hothers k hk).trans (hmachs k)⟩

/-! ### Candidates from the table (R288) -/

theorem meansOf_congr {s t : State} (h : t.lode = s.lode) (m : Nat) : meansOf t m = meansOf s m := by
  simp only [meansOf, tableFor, inst, h]

/-- What a refresh of one machine does: its candidates are the table's, and the rest of the machines stand. -/
theorem refreshMeans_means (s : State) (m k : Nat) :
    (spMach (refreshMeans s m) k).means = if k = m then meansOf s m else (spMach s k).means := by
  unfold refreshMeans
  dsimp only
  split
  · next h =>
    split
    · next hk => rw [hk, h]
    · rfl
  · have hset : (spMach (setSp m (fun x => { x with means := meansOf s m }) s) k).means =
        if k = m then meansOf s m else (spMach s k).means := by
      split
      · next hk => rw [hk, spMach_setSp_same]
      · next hk => rw [spMach_setSp_other _ _ _ hk]
    split
    · rw [spMach_congr (congrArg Setpt.machs (raise_setpt ..)), hset]
    · exact hset

theorem refreshMeans_leaves (s : State) (m : Nat) :
    ((refreshMeans s m).lode, (refreshMeans s m).grid, (refreshMeans s m).sys) = (s.lode, s.grid, s.sys) := by
  unfold refreshMeans
  dsimp only
  split
  · rfl
  · split
    · rw [raise_lode, raise_grid, raise_sys]
      rfl
    · rfl

/-- The machines refreshed one after another. -/
theorem foldl_refreshMeans_means (l : List Nat) (s : State) (k : Nat) :
    (spMach (l.foldl refreshMeans s) k).means = if k ∈ l then meansOf s k else (spMach s k).means := by
  induction l generalizing s with
  | nil => rfl
  | cons m l ih =>
    have hlode : (refreshMeans s m).lode = s.lode := congrArg Prod.fst (refreshMeans_leaves s m)
    rw [List.foldl_cons, ih, meansOf_congr hlode, refreshMeans_means]
    by_cases hk : k = m
    · simp [hk]
    · simp [hk]

theorem spmeanRefresh_event (s : State) (hrun : Running s) (hon : gridOn s = true) :
    After .spmeanRefresh s fun t => t.lode = s.lode ∧ t.grid = s.grid ∧ t.sys = s.sys ∧ ∀ m, m < 128 → (spMach t m).means = meansOf s m := by
  refine after_bus rfl hrun ?_
  rw [if_pos hon]
  have hleaves := foldl_keep (fun u => (u.lode, u.grid, u.sys)) refreshMeans_leaves (List.range 128) s
  have hmeans := foldl_refreshMeans_means (List.range 128) s
  generalize (List.range 128).foldl refreshMeans s = u at hleaves hmeans
  obtain ⟨hlode, hgrid, hsys⟩ : u.lode = s.lode ∧ u.grid = s.grid ∧ u.sys = s.sys := by simpa using hleaves
  refine ⟨(driveOutputs_lode u).trans hlode, (driveOutputs_grid u).trans hgrid, (driveOutputs_sys u).trans hsys, fun m hm => ?_⟩
  rw [spMach_congr (congrArg Setpt.machs (driveOutputs_setpt u)), hmeans, if_pos (List.mem_range.mpr hm)]

end Sys2Proof.Machine

open Sys2Proof Sys2Proof.Machine

/-- Settles O30: with nothing before it a command is its own work, and what each work refuses or changes is read off its cases. -/
theorem setpointCommands : Obligations.SetpointCommands := by
  refine ⟨fun s who body f m x h hlen hf hmax hm hx => ?commands, fun s who body f h hlen hf hmax =>
    ⟨annealMach_command s who body f h hlen hf hmax, resumeMach_command s who body f h hlen hf hmax⟩,
    fun s who body o c hrun htakes htest hintake hbusy ho hlen hstop hmach hc =>
      move_loses_to_stop s who body o c ⟨hrun, htest, hintake, hbusy⟩ htakes ho hlen hstop hmach hc,
    fun s who body c hrun hmode htest hintake hbusy hc => command_refused_by_mode s who body c ⟨hrun, htest, hintake, hbusy⟩ hmode hc,
    fun s rec eui hrun htakes hlen => ⟨fun hmaster => odometer_discarded hrun htakes hlen (.inl hmaster), fun o hmaster ho => ?reports⟩,
    gearLost_event, spmeanRefresh_event⟩
  case commands =>
    subst hx
    exact ⟨engage_command s who body f m h hlen hf hmax hm, disengage_command s who body f h hlen hf hmax,
      sched_unpaired s who body f h hlen hf hmax,
      fun g e hgear he => ⟨sched_command s who body f h hlen hf hmax hgear he, schedClear_command s who body f h hlen hf hmax hgear⟩,
      fun k hk => limits_command s who body f h hlen hf hmax hk⟩
  case reports =>
    have hlater := laterReport_eq ho (leAt rec 2 2)
    refine ⟨fun hold => odometer_discarded hrun htakes hlen (.inr ?_), fun heui hlow hhigh => ?_⟩
    · rw [hlater, decide_eq_false_iff_not]
      omega
    · subst heui
      exact odometer_kept hrun htakes hlen hmaster (by rw [hlater, decide_eq_true_eq]; exact ⟨hlow, hhigh⟩)

end

section
/-! The limits of the statements on the radio's BEACONs, its receiver and its upkeep (10_field_radio.md R313, R322, R328, R340, R345): served
time that wraps round, and counters that meet where a chain or a band has a number that no gather gives. -/

namespace Sys2Proof.Machine

open Sys2Proof

/-! ### A BEACON at the wrap of served time (R106, R313, R345) -/

/-- The part at the instant of a chain's BEACON, once the frame has been built (R313). -/
def atBeacon (c : Nat) (s : State) : State := setChain c (fun x => { x with sentBeacon := true }) (toUs 1000 (toUs 800 s))

theorem setChain_seq (c : Nat) (f : Chain → Chain) (s : State) : (setChain c f s).radio.seq = s.radio.seq := rfl

theorem atBeacon_seq (c : Nat) (s : State) : (atBeacon c s).radio.seq = s.radio.seq := by
  rw [atBeacon, setChain_seq, toUs, advanceTo_radio, toUs, advanceTo_radio]

theorem exec_beaconTx {s : State} {c : Fin 3} (hrun : Running s) (hdue : beaconDue s c = true) :
    exec (.beaconTx c) s = .next (transmit c .beacon 0xFFFF c (beaconPayload (toUs 800 s)) (atBeacon c s)).2 :=
  congrArg Host.Outcome.next ((bus_run _ hrun.2.2).trans (if_neg (not_not.mpr hdue)))

/-- A frame that is sent takes its SEQ (R318). -/
theorem transmit_seq {c : Nat} {ty : FrameType} {dst sub : Nat} {key payload : Bytes} {s : State} (hmay : mayTx s c ty = true)
    (hkey : dnKey s = some key)
    (hroom : ledgerRoom s (chain s c).cfg.band (slotChannel s c) ty (airtime (chain s c).cfg.mode (psduLen payload.length)) = true) :
    (transmit c ty dst sub payload s).2.radio.seq = s.radio.seq + 1 := by
  obtain ⟨led, start, stop, hradio⟩ := emit_radio c ty dst sub key payload s
  rw [transmit_admitted hmay hkey hroom, hradio]
  rfl

/-- The key of a base frame in slot 1 and that of a node's frame in slot 2. -/
def radioKeys : Geode where
  slots := [(1, { attr := 0xA40004, key := leBytes 16 7 }), (2, { attr := 0xA40005, key := leBytes 16 7 })]

/-- A chain that stops, whose frame has ended at the last nanosecond of served time. -/
def stoppedChain : Chain where
  cfg := { mode := 6, beaconDiv := 1 }
  en := true
  stopping := true
  onAir := some { type := .beacon }
  airEnd := 2 ^ 64 - 1

/-- A part at the last nanosecond of served time, with the BEACON of its slot due at the next: chain 1 stops. -/
def lastNanosecond : State where
  regs := [(0x08003C, 0x020102)]
  sys := { mode := .field }
  aon := { wardenUp := true, mainRun := true }
  time := { raw := 2 ^ 64 - 1 }
  twin := { gateOpen := true }
  radio := { present := true, running := true, schedE := 2 ^ 64 - 10 ^ 6, windowS := 3600, chains := #v[{}, stoppedChain, {}] }
  geode := radioKeys

/-- The chain's frame has ended, so that it may send no more. -/
theorem lastNanosecond_silent : Running lastNanosecond ∧ beaconDue lastNanosecond 1 = true ∧
    (chain lastNanosecond 1).airEnd ≤ now lastNanosecond ∧ mayTx lastNanosecond 1 .beacon = false := by decide +kernel

/-- Served time has wrapped round at the BEACON's instant: the end of the chain's frame is ahead of it again. -/
theorem lastNanosecond_wraps : now (atBeacon 1 lastNanosecond) < (chain (atBeacon 1 lastNanosecond) 1).airEnd ∧
    mayTx (atBeacon 1 lastNanosecond) 1 .beacon = true := by decide +kernel

/-- The key and the ledger let the BEACON go. -/
theorem lastNanosecond_ready : dnKey (atBeacon 1 lastNanosecond) = some (leBytes 16 7) ∧
    ledgerRoom (atBeacon 1 lastNanosecond) (chain (atBeacon 1 lastNanosecond) 1).cfg.band (slotChannel (atBeacon 1 lastNanosecond) 1) .beacon
      (airtime (chain (atBeacon 1 lastNanosecond) 1).cfg.mode (psduLen (beaconPayload (toUs 800 lastNanosecond)).length)) = true := by
  decide +kernel

theorem lastNanosecond_sends : After (.beaconTx 1) lastNanosecond fun t => t.radio.seq = lastNanosecond.radio.seq + 1 := by
  obtain ⟨hrun, hdue, -, -⟩ := lastNanosecond_silent
  obtain ⟨hkey, hroom⟩ := lastNanosecond_ready
  exact ⟨_, exec_beaconTx hrun hdue, (transmit_seq lastNanosecond_wraps.2 hkey hroom).trans (congrArg (· + 1) (atBeacon_seq 1 lastNanosecond))⟩

/-! ### A message in reassembly of a chain that is none (R328) -/

/-- The counter of a chain 3 would be that of all chains, where every event of a chain counts as well. -/
theorem countOf_bumpChain_three (e : Nat) (s : State) :
    countOf (bumpChain 3 e s) 0x080094 (e + 0x100 * 3) = countOf s 0x080094 (e + 0x100 * 3) + 2 :=
  (countOf_bumpBy_same ..).trans (congrArg (· + 1) (countOf_bumpBy_same ..))

/-- R328: the oldest message in reassembly goes, and its chain counts it. -/
theorem exec_reasmTimeout {s : State} {r : Reasm} {l : List Reasm} (hrun : Running s) (h : s.radio.reasm = r :: l) :
    exec .reasmTimeout s = .next (bumpChain r.chain 12 { advanceClk (r.since + 200 * 10 ^ 6) s with radio.reasm := l }) := by
  refine congrArg Host.Outcome.next ((bus_run _ hrun.2.2).trans ?_)
  rw [h]

/-- A running part with one message in reassembly, of chain 3. -/
def fourthChain : State where
  aon := { wardenUp := true, mainRun := true }
  radio := { reasm := [{ chain := 3 }] }

theorem fourthChain_running : Running fourthChain := by decide

/-! ### A received frame whose answer the ledger refuses (R322, R340) -/

/-- A frame that has passed R322, as a state receives it. -/
def heardAs (s : State) (f : RxFrame) (who : Sender) (eui : Nat) (p : Bytes) : Heard where
  rx := f
  src := leAt f.psdu 2 2
  sender := who
  eui := eui
  seq := byteAt f.psdu 6
  asn := (nearAsn s.radio.asn (byteAt f.psdu 1)).toNat
  payload := p

/-- What passing R322 leaves: the frame counted, and its sender's high-water mark raised. -/
def rxAdmitted (s : State) (f : RxFrame) (eui : Nat) : State :=
  setMark eui ((nearAsn s.radio.asn (byteAt f.psdu 1)).toNat * 16 + (3 * f.seg.val + f.chain.val)) (bumpChain f.chain 6 s)

theorem FrameType.code_le (ty : FrameType) : ty.code ≤ 9 := by cases ty <;> decide

/-- R322: a frame that has arrived is received if its MIC holds. -/
theorem receive_of_arrives {s : State} {ty : FrameType} {f : RxFrame} {who : Sender} {eui : Nat} {p : Bytes} (h : Arrives s ty f who eui)
    (hp : payloadOf s ty f who eui = some p) : receive ty f s = (some (heardAs s f who eui p), rxAdmitted s f eui) := by
  obtain ⟨hlistens, hend, hdeaf, hfcs, hlen, hver, htype, hdst, hsender, hdata, hfresh, hkey⟩ := h
  obtain ⟨key, hkey⟩ := Option.isSome_iff_exists.mp hkey
  have hcode : ¬ 9 < typeOf f := by rw [htype]; exact Nat.not_lt.mpr ty.code_le
  have hadmit : admitFrame f (leAt f.psdu 2 2) who eui ty.clear s = (some (heardAs s f who eui p), rxAdmitted s f eui) := by
    have hopen := hp
    rw [payloadOf, hkey, Option.getD_some] at hopen
    simp only [admitFrame, hfresh, hkey, hopen, not_true_eq_false, if_false]
    rfl
  have hpar : ¬ ((chain s f.chain).cfg.parentRx = true ∧ leAt f.psdu 4 2 ≠ 0xFFFF) := by
    rintro ⟨hpar, hall⟩
    obtain h | ⟨h, -⟩ := hdst
    · exact hall h
    · exact absurd (h.symm.trans hpar) Bool.false_ne_true
  have hown : ¬ (¬ (chain s f.chain).cfg.parentRx = true ∧ leAt f.psdu 4 2 ≠ 0xFFFF ∧ leAt f.psdu 4 2 ≠ baseAddr s) := by
    rintro ⟨-, hall, hbase⟩
    exact hdst.elim hall fun h => hbase h.2
  have huse : ¬ (typeOf f ≠ ty.code ∨ ty = .data ∧ (slotUse s f.chain).1 ≠ .up) := by
    rintro (h | ⟨hty, h⟩)
    · exact h htype
    · exact h (hdata hty).1
  have howner : ¬ (ty = .data ∧ (slotUse s f.chain).2.toNat ≠ leAt f.psdu 2 2) := fun ⟨hty, h⟩ => h (hdata hty).2
  have hwhole : ¬ (¬ fcsOk f = true ∨ f.psdu.length < 17 ∨ byteAt f.psdu 0 / 16 % 4 ≠ 1 ∨ 9 < typeOf f) := by
    simp [hfcs, hver, hcode, Nat.not_lt.mpr hlen]
  unfold receive
  dsimp only
  rw [if_neg (not_not.mpr hlistens), advanceTo_reached hend, if_neg (by simp [hdeaf]), if_neg hwhole, if_neg huse, if_neg hpar, if_neg hown,
    hsender]
  dsimp only
  rw [if_neg howner, hadmit]

/-- The answer to a node's SYNC_REQ, which its payload has no part in (R336). -/
def syncAnswer (s : State) (f : RxFrame) (eui : Nat) : Sent :=
  sendAck (heardAs s f .node eui []) (sharedStart (chain s f.chain).cfg) 2
    { rxAdmitted s f eui with radio.syncDone := f.chain.val :: s.radio.syncDone }

/-- R336: the first SYNC_REQ of the rendezvous slot, where its answer may not go, leaves what the refusal of the answer leaves. -/
theorem exec_syncReq_unanswered {s : State} {f : RxFrame} {eui : Nat} {p : Bytes} (hrun : Running s) (h : Arrives s .syncReq f .node eui)
    (hp : payloadOf s .syncReq f .node eui = some p) (hslot : slotIndex s = 0) (hnodes : (chain s f.chain).cfg.nodes = true)
    (hfirst : s.radio.syncDone = []) (hrefused : (syncAnswer s f eui).1 = false) : exec (.syncReq f) s = .next (syncAnswer s f eui).2 := by
  have hheard := receive_of_arrives h hp
  have hopen : ¬ (slotIndex (rxAdmitted s f eui) ≠ 0 ∨ ¬ (chain (rxAdmitted s f eui) f.chain).cfg.nodes = true ∨
      (rxAdmitted s f eui).radio.syncDone.contains f.chain.val = true ∨ (heardAs s f .node eui p).sender ≠ .node) := by
    have hslot' : slotIndex (rxAdmitted s f eui) = 0 := hslot
    have hnodes' : (chain (rxAdmitted s f eui) f.chain).cfg.nodes = true := hnodes
    have hfirst' : (rxAdmitted s f eui).radio.syncDone = [] := hfirst
    have hsender : (heardAs s f .node eui p).sender = .node := rfl
    simp [hslot', hnodes', hfirst', hsender]
  refine congrArg Host.Outcome.next ((bus_run _ hrun.2.2).trans ?_)
  rw [onFrame, hheard]
  dsimp only
  rw [if_neg hopen]
  exact if_neg (by rw [Bool.not_eq_true]; exact hrefused)

/-- A running part whose chain 1 hears a node's SYNC_REQ in the rendezvous slot, with no room in the ledger for an answer. The number of
the chain's band makes the refusal counter of its sub-band 6 one of the chain's counters of received frames. -/
def farBand : State where
  regs := [(0x080000, 2), (0x08003C, 0x020102)]
  sys := { mode := .field }
  aon := { wardenUp := true, mainRun := true }
  time := { raw := 9 * 10 ^ 6 }
  twin := { gateOpen := true }
  radio := {
    present := true
    running := true
    chains := #v[{}, { cfg := { mode := 6, band := 0x48 * 2 ^ 20 + 16, nodes := true }, en := true }, {}]
    limits := [{ band := 0x48 * 2 ^ 20 + 16, subs := List.replicate 6 (1, 0, 0) ++ [(0, 0, 0)] }]
    nodes := [{ addr := 9, eui := 77, chain := 1 }] }
  geode := radioKeys

/-- A SYNC_REQ of node 9 to all, in the slot of ASN 0. -/
def syncReqOf9 : RxFrame where
  chain := 1
  seg := 3
  startUs := 6000
  sfdUs := 6000
  psdu := psduOf (leBytes 1 (FrameType.syncReq.code + 0x10) ++ leBytes 1 0 ++ leBytes 2 9 ++ leBytes 2 0xFFFF ++ leBytes 20 0)

theorem syncReqOf9_arrives : Running farBand ∧ Arrives farBand .syncReq syncReqOf9 .node 77 := by
  unfold Arrives
  decide +kernel

/-- The ledger refuses the ACK of the SYNC_REQ, and its refusal counts where the frame has just counted. -/
theorem syncReqOf9_refused : (syncAnswer farBand syncReqOf9 77).1 = false ∧ countOf farBand 0x080094 (6 + 0x100 * 1) = 0 ∧
    countOf (syncAnswer farBand syncReqOf9 77).2 0x080094 (6 + 0x100 * 1) = 2 := by decide +kernel

/-- O33 is not settled: it asks for more than R322 gives, but only once the check of a MIC passes, which is an open function (log 8). It
holds only where that check refuses this frame. -/
theorem mic_fails_of_receivedFrames (h : Obligations.ReceivedFrames) : payloadOf farBand .syncReq syncReqOf9 .node 77 = none := by
  obtain ⟨hrun, harrives⟩ := syncReqOf9_arrives
  obtain ⟨hrefused, hzero, htwo⟩ := syncReqOf9_refused
  by_contra hpass
  obtain ⟨p, hp⟩ := Option.ne_none_iff_exists'.mp hpass
  obtain ⟨-, -, hmic⟩ := h.1 farBand syncReqOf9 .syncReq (.syncReq syncReqOf9) hrun (by simp)
  obtain ⟨t, hexec, -, hpassed⟩ := hmic .node 77 harrives
  obtain ⟨-, hcount⟩ := hpassed (by rw [hp]; rfl)
  obtain rfl : (syncAnswer farBand syncReqOf9 77).2 = t :=
    Host.Outcome.next.inj ((exec_syncReq_unanswered hrun harrives hp (by decide) (by decide) rfl hrefused).symm.trans hexec)
  exact absurd (htwo.symm.trans (hcount.trans (congrArg (· + 1) hzero))) (by decide)

end Sys2Proof.Machine

open Sys2Proof Sys2Proof.Machine

/-- Refutes O32: chain 1 stops and its frame has ended, so that it may not send; but the BEACON goes where served time has wrapped round,
before the end of that frame, and the chain sends it. -/
theorem not_beaconsAndGangs : ¬ Obligations.BeaconsAndGangs := by
  intro h
  obtain ⟨hrun, hdue, -, hmay⟩ := lastNanosecond_silent
  obtain ⟨t, hexec, hmoves⟩ := lastNanosecond_sends
  obtain ⟨-, hsilent, -⟩ := h lastNanosecond 1 hrun
  obtain ⟨u, hexec', -, hstands⟩ := hsilent hdue hmay
  obtain rfl : t = u := Host.Outcome.next.inj (hexec.symm.trans hexec')
  exact absurd (hmoves.symm.trans hstands) (by decide)

/-- Refutes O34: a message in reassembly of chain 3, whose counter is that of all chains, so that its timeout counts twice there. -/
theorem not_radioUpkeep : ¬ Obligations.RadioUpkeep := by
  rintro ⟨-, htimeout, -⟩
  obtain ⟨t, hexec, -, -, hcount⟩ := htimeout fourthChain { chain := 3 } [] fourthChain_running rfl
  obtain rfl := Host.Outcome.next.inj ((exec_reasmTimeout fourthChain_running rfl).symm.trans hexec)
  exact absurd ((countOf_bumpChain_three 12 _).symm.trans hcount) (by decide +kernel)

end
